-- ==== Sys2Proof/Word.lean ====
section
/-! DEFINITION. The words of the model: bytes, the numbers of units, sparse tables and dictionary values.
Everything that a test could show wrong (bit fields, byte order, arithmetic) lives in the files under Machine/. -/

namespace Sys2Proof

/-- One byte. -/
abbrev Byte := BitVec 8

/-- A course, 0 to 31 (Table 0.3). -/
abbrev CourseId := Fin 32
/-- A lane, 0 to 271; lanes 256 to 271 are spares (Table 0.5). -/
abbrev LaneId := Fin 272
/-- A logical loop slot, 0 to 87 (R339). -/
abbrev SlotId := Fin 88
/-- A canvas, 0 to 255 (R162). -/
abbrev CanvasId := Fin 256
/-- An ingest flow, or a host content stream, 0 to 63 (R171, R184). -/
abbrev FlowId := Fin 64
/-- A capture stream, 0 to 15 (R297). -/
abbrev StreamId := Fin 16
/-- A capture input, 0 to 33 (R270). -/
abbrev InputId := Fin 34
/-- A DRAM channel, 0 to 31 (R433). -/
abbrev ChannelId := Fin 32
/-- An Ethernet port: 0 for A, 1 for B. -/
abbrev PortId := Fin 2
/-- A dictionary master, 0 to 16,383 (R54). -/
abbrev MasterId := Fin 16384

/-- A sparse table: keys strictly rising, no key listed with the table's default. -/
abbrev Tab (α : Type) := List (Nat × α)

/-- A dictionary value (Table 2.1): a number (BOOL, the integers, FIX32 as its raw integer, F32 as its bit
pattern, TIME80 as its 80-bit little-endian number) or a byte string (STR, BLOB). -/
inductive Val where
  | num (z : Int)
  | bytes (b : List Byte)
  deriving DecidableEq, Repr, Inhabited

end Sys2Proof
end

