-- ==== Sys2Proof/Syntax.lean ====
section
/-! DEFINITION. The commands of the AP256: one constructor of Instr per row of spec/opcode_table.json, and the
operand types. An operand is what the command brings from outside the part, or which unit it names; what the part
itself knows is read from the state. -/

namespace Sys2Proof

/-- Where an Ozilo message comes from (R48, R54): a datagram by its own address and port and those it was sent to. -/
inductive Source where
  | udp (ip port toIp toPort : Nat)
  | pcie (ctx : Fin 64)
  | spi
  deriving DecidableEq, Repr

/-- The item header of Table 2.5, less its op and its status. `final` is bit 7 of the op. -/
structure Item where
  final : Bool
  type : Nat
  index : Nat
  sub : Nat
  length : Nat
  offset : Nat
  deriving DecidableEq, Repr

/-- The points at which an item of an accepted commit applies (Table 2.6a). -/
inductive Point where
  | time
  | frameStart (k : CourseId)
  | turnaround (k : CourseId)
  | canvas (c : CanvasId)
  deriving DecidableEq, Repr

/-- What a received PTP message can use that Table 3.1 does not support (R83): another transport or timescale, boundary or master
operation, unicast negotiation, a security TLV, a management message. -/
inductive PtpFeature where
  | transport | boundary | unicastNegotiation | securityTlv | management
  deriving DecidableEq, Repr

/-- A received Announce (R84): the sender, the grandmaster's data set and what R77's entries show of it. -/
structure Announce where
  domain : Nat
  priority1 : Nat
  clockClass : Nat
  accuracy : Nat
  variance : Nat
  priority2 : Nat
  grandmaster : Nat
  stepsRemoved : Nat
  sender : Nat
  utcOffset : Int
  beyond : List PtpFeature
  deriving DecidableEq, Repr

/-- An SSI poll (R97): the data bits as shifted in, the parity bit, the data line before the first clock, and the
data line at the end of the monoflop time. -/
structure SsiFrame where
  bits : Nat
  parity : Bool
  highBefore : Bool
  highAfter : Bool
  deriving DecidableEq, Repr

/-- One sample row data header of an ST 2110-20 packet with its octets (R173). -/
structure SampleRow where
  field : Bool
  row : Nat
  offset : Nat
  data : List Byte
  deriving DecidableEq, Repr

/-- An ST 2110-20 packet (R171, R172). -/
structure RtpPacket where
  dstIp : Nat
  dstPort : Nat
  srcIp : Nat
  version : Nat
  payloadType : Nat
  marker : Bool
  seq : Nat
  timestamp : Nat
  ssrc : Nat
  length : Nat
  rows : List SampleRow
  deriving DecidableEq, Repr

/-- A Sync with the offset measured by it, and a delay response or peer-delay message with the mean path delay measured by it: the
PTP domain, and what each uses beyond what the profile supports (R83, R85). -/
structure PtpSyncMessage where
  domain : Nat
  beyond : List PtpFeature
  offset : Int
  deriving DecidableEq, Repr

structure PtpDelayMessage where
  peer : Bool
  domain : Nat
  beyond : List PtpFeature
  meanPathDelay : Nat
  deriving DecidableEq, Repr

/-- The 66 bits of a block as they come in on the return lane of a course (R306, R309). -/
structure ReturnBlock where
  course : CourseId
  wire : BitVec 66
  deriving DecidableEq, Repr

/-- What a capture input sees from the start of a slot on: its differential voltage in µV at each of its sampling instants, two in
each slot (R271, R272). -/
structure SampleRun where
  slot : Nat
  volts : List Int
  deriving DecidableEq, Repr

/-- A harmonic record as delivered to the constancy loop (Table 8.4). -/
structure HarmonicRec where
  bow : Nat
  lane : Nat
  string : Nat
  void : Bool
  tuning : Bool
  fiducialOnly : Bool
  uncalibrated : Bool
  cause : Nat
  level : Nat
  gainFrets : Nat
  /-- The return in codes, as the bits of an F32. -/
  h : Nat
  deriving DecidableEq, Repr

/-- The ring window's crossings and envelopes (R365). -/
structure RingMeas where
  /-- The upward zero crossings of sense channel 2k, in 1/64 slot. -/
  crossings : List Nat
  /-- The sense envelopes of the first and the last period, in nrad. -/
  e1 : Nat
  e2 : Nat
  deriving DecidableEq, Repr

/-- A temperature sensor. -/
inductive Sensor where
  | die (i : Fin 24)
  | ext (e : Fin 32)
  | store
  deriving DecidableEq, Repr

/-- One conversion of a sensor (R418, R419): a die or store reading in units of 1/1000 °C, an NTC resistance in
mΩ, a diode's voltage difference in nV, or a conversion fault. -/
inductive Conversion where
  | milliC (t : Int)
  | ntc (milliOhm : Nat)
  | diode (nanoVolt : Nat)
  | fault
  deriving DecidableEq, Repr

/-- The throttled units of R16. -/
inductive PauseUnit where
  | ingest | hostRings | warp | capture
  deriving DecidableEq, Repr

/-- The address classes of R438 to R440. -/
inductive AddrClass where
  | main | tail | control
  deriving DecidableEq, Repr

/-- What a request asks of the memory service (R446). -/
inductive MemOp where
  | read (len : Nat)
  | write (data : List Byte)
  deriving DecidableEq, Repr

/-- What the mode registers and the training report (R434, R463). -/
structure TrainingResult where
  /-- Die density in Gb of every package, and ranks, and vendor identity: the same on all, or not. -/
  uniform : Bool
  density : Nat
  ranks : Nat
  /-- Mask of the channels that failed training three times. -/
  failed : BitVec 32
  deriving DecidableEq, Repr

/-- The units that restart by Table 14.5. -/
inductive RestartUnit where
  | ingest
  | queueEngine
  | portReceive (p : PortId)
  | fetch (k : CourseId)
  | placement (k : CourseId)
  | lane (l : LaneId)
  deriving DecidableEq, Repr

/-- The kinds of unit that a spare policy governs (R502). -/
inductive SpareKind where
  | lane | slice | loopSlot | pair | input | bank
  deriving DecidableEq, Repr

/-- The triggers of a capo hush (R319, Table 11.3): trips T1 to T5, REFCLK loss and die shut-down. -/
inductive HushTrigger where
  | trip (t : Fin 5)
  | refclk
  | dieShutdown
  deriving DecidableEq, Repr

/-- The commands. Each docstring names the row's rule. -/
inductive Instr where
  /-- R540 -/ | oziloRequest (src : Source) (msg : List Byte)
  /-- R541 -/ | read (m : MasterId) (it : Item)
  /-- R42 -/ | write (m : MasterId) (it : Item) (v : List Byte)
  /-- R62 -/ | stage (m : MasterId) (it : Item) (v : List Byte)
  /-- R42 -/ | readStaged (m : MasterId) (it : Item)
  /-- R70 -/ | subscribe (m : MasterId) (it : Item) (v : List Byte)
  /-- R70 -/ | unsubscribe (m : MasterId) (it : Item)
  /-- R64 -/ | commit (m : MasterId) (word : BitVec 32)
  /-- R63 -/ | abort (m : MasterId) (word : BitVec 32)
  /-- R65 -/ | commitApply (pt : Point)
  /-- R55 -/ | masterForgotten (m : MasterId)
  /-- R72 -/ | heartbeat
  /-- R71 -/ | publication (m : MasterId) (index : Nat) (sub : Nat)
  /-- R56 -/ | dictionaryDoorbell (ctx : Fin 64) (window : List Byte) (v : BitVec 64)
  /-- R56 -/ | readyWordClear (ctx : Fin 64)
  /-- R57 -/ | spiRequest (length : Nat) (msg : List Byte)
  /-- R57 -/ | spiReadResponse
  /-- R57 -/ | spiStatus
  /-- R57 -/ | spiUnknownCommand (cmd : Byte) (len : Nat)
  /-- R78 -/ | addressChange
  /-- R45 -/ | heldWritesFlush
  /-- R47 -/ | persistenceStateClear (m : MasterId) (v : Byte)
  /-- R471 -/ | persistentWrite (verifyFailed : Option Nat)
  /-- R44 -/ | poweredTimePersist
  /-- R85 -/ | ptpSync (port : PortId) (sync : PtpSyncMessage)
  /-- R84 -/ | ptpAnnounce (port : PortId) (a : Announce)
  /-- R83; `peer` for a peer-delay message -/
  | ptpDelayResponse (port : PortId) (delay : PtpDelayMessage)
  /-- R86 -/ | announceReceiptTimeout
  /-- R86 -/ | holdoverExpired
  /-- R82 -/ | setTime (m : MasterId) (t : Nat)
  /-- R95 -/ | syncInEdge (i : Fin 4) (falling : Bool) (t : Nat)
  /-- R96 -/ | syncInHoldover (i : Fin 4)
  /-- R97 -/ | shaftCount (j : Fin 8) (a b : Bool)
  /-- R97 -/ | shaftIndex (j : Fin 8)
  /-- R97 -/ | ssiPoll (j : Fin 8) (f : SsiFrame)
  /-- R97 -/ | shaftLineBreak (j : Fin 8)
  /-- R97 -/ | shaftStopped (j : Fin 8)
  /-- R93 -/ | ptpFrameEpoch (k : CourseId)
  /-- R100 -/ | contentFollowPeriodEnd (k : CourseId)
  /-- R100 -/ | contentFollowHoldover (k : CourseId)
  /-- R99 -/ | repeatFrame (k : CourseId)
  /-- R91 -/ | frameStart (k : CourseId)
  /-- R32 -/ | refclkLoss
  /-- R105 -/ | refclkReturn
  /-- R108 -/ | beaconSend (id : Fin 65536)
  /-- R109 -/ | beaconReceive (msg : List Byte)
  /-- R108 -/ | consortPeerAbsent (id : Fin 65536) (node : Fin 262144)
  /-- R107 -/ | duplicateNodeClear
  /-- R115 -/ | phaseLocked (k : CourseId)
  /-- R116 -/ | phaseLockLost (k : CourseId)
  /-- R126 -/ | senseCrossingStamp (k : CourseId) (upper : Bool) (t64 : Nat)
  /-- R132 -/ | bowStart (k : CourseId)
  /-- R141 -/ | bowPlacement (k : CourseId)
  /-- R24 -/ | bowTurnaround (k : CourseId)
  /-- R156 -/ | nutReached (k : CourseId) (queued : Bool)
  /-- R154 -/ | commitFence (k : CourseId)
  /-- R526 -/ | startComplete
  /-- R19 -/ | standbyEntryComplete
  /-- R458 -/ | dramExitComplete
  /-- R172 -/ | st2110Packet (port : PortId) (p : RtpPacket)
  /-- R176 -/ | mergeDeadline (f : FlowId)
  /-- R196 -/ | flowPathSilent (f : FlowId) (port : PortId)
  /-- R185 -/ | writeRect (h : FlowId) (desc : List Byte) (pixels : List Byte) (pcieError : Bool)
  /-- R185 -/ | complete (h : FlowId) (desc : List Byte)
  /-- R185 -/ | abortBuffer (h : FlowId) (desc : List Byte)
  /-- R185 -/ | descriptorResume (h : FlowId)
  /-- R190 -/ | releaseReadyBuffers (c : CanvasId) (mask : Byte)
  /-- R166 -/ | canvasZeroFillComplete (c : CanvasId) (b : Fin 4)
  /-- R206 -/ | warpRecomputeComplete (mesh : Fin 128) (copy : Fin 2)
  /-- R209 -/ | refinementUpdate (mesh : Fin 128) (moves : List (Nat × Int × Int))
  /-- R219 -/ | fetchSchedule (k : CourseId)
  /-- R224 -/ | tileArrival (k : CourseId) (tile : Nat) (poisoned : Bool)
  /-- R222 -/ | bowRender (k : CourseId)
  /-- R229 -/ | renderSliceFault (slice : Fin 36)
  /-- R227 -/ | fetchStoreError (k : CourseId) (bank : Fin 258) (tile : Nat) (uncorrectable : Bool)
  /-- R246 -/ | matrixComplete (k : CourseId)
  /-- R257 -/ | harmonicGainUpdate (k : CourseId)
  /-- R259 -/ | emitterGainHeld (l : LaneId)
  /-- R259 -/ | emitterWorn (l : LaneId)
  /-- R261 -/ | gainPersist
  /-- R285; with what the course's input has sampled since the record before -/ | harmonicRecord (k : CourseId) (slot : Nat) (volts : List Int)
  /-- R289 -/ | fiducialSnapshot (k : CourseId) (bow : Nat)
  /-- R275 -/ | captureInputSuspect (x : InputId)
  /-- R275 -/ | captureInputFailed (x : InputId)
  /-- R275 -/ | captureInputRecover (x : InputId)
  /-- R294 -/ | captureComplete (k : CourseId)
  /-- R294 -/ | captureBufferRelease (k : CourseId) (b : Fin 8) (consumer : Fin 17)
  /-- R298 -/ | streamUnitSend (s : StreamId)
  /-- R298 -/ | streamBatchTimer (s : StreamId)
  /-- R299 -/ | streamBufferDescriptor (s : StreamId) (desc : List Byte)
  /-- R312 -/ | droneTimer (l : LaneId)
  /-- R312 -/ | align (l : LaneId) (block : Nat)
  /-- R329; the 66 bits of the block as received, the first in bit 0 (R306), here and in the rows below -/
  | retIdle (k : CourseId) (wire : BitVec 66)
  /-- R329 -/ | retStatus (k : CourseId) (wire : BitVec 66)
  /-- R329 -/ | retLane (k : CourseId) (wire : BitVec 66)
  /-- R329 -/ | retErrors (k : CourseId) (wire : BitVec 66)
  /-- R329 -/ | retIdent (k : CourseId) (wire : BitVec 66)
  /-- R332 -/ | retFault (k : CourseId) (wire : BitVec 66)
  /-- R330 -/ | returnLaneDown (k : CourseId)
  /-- R319 -/ | capoHush (trips : BitVec 5) (whole : List HushTrigger) (courses : BitVec 32)
  /-- R322 -/ | emitOkDrop (k : CourseId)
  /-- R323 -/ | lanesOff
  /-- R326 -/ | laneRetrainCommand (m : MasterId) (lane : Nat)
  /-- R326 -/ | quadPllLoss (q : Fin 68)
  /-- R324 -/ | laneRetrainQuietEnd (l : LaneId)
  /-- R324 -/ | laneRetrainTimeout (l : LaneId)
  /-- R349 -/ | loopStep (s : SlotId) (earlier : List Int) (latest : Option Int)
  /-- R341 -/ | loopOutputWrite (s : SlotId)
  /-- R360 -/ | trackerUpdate (k : CourseId) (bow : Nat)
  /-- R358 -/ | mirrorFailed (k : CourseId)
  /-- R364 -/ | excitationStart (k : CourseId)
  /-- R364 -/ | ringWindowStart (k : CourseId)
  /-- R365 -/ | ringWindowEnd (k : CourseId) (m : RingMeas)
  /-- R365 -/ | startTimeout (k : CourseId)
  /-- R367 -/ | axisEnRelease (k : CourseId)
  /-- R369 -/ | loopSlotFault (phys : Fin 96)
  /-- R369 -/ | moveToSpare (m : MasterId) (slot : Nat)
  /-- R352 -/ | stickyFlagsClear (m : MasterId) (s : SlotId) (v : BitVec 32)
  /-- R371 -/ | loopRefclkHoldExpired
  /-- R375 -/ | vaonValid (sel : BitVec 3)
  /-- R393 -/ | capoSelfTestComplete (pass : Bool)
  /-- R393 -/ | capoFault (deviation : Int)
  /-- R388 -/ | interlockTrip
  /-- R390 -/ | interlockRise
  /-- R382 -/ | scanExcursion (k : CourseId) (positive begins : Bool) (t : Nat)
  /-- R383 -/ | scanWatchMiss (k : CourseId) (t : Nat)
  /-- R380 -/ | energyTrip (string : CanvasId)
  /-- R385 -/ | overtravelTrip (k : CourseId)
  /-- R390 -/ | rearm (m : MasterId) (mask : BitVec 32)
  /-- R428 -/ | laserRearm (m : MasterId) (mask : BitVec 32)
  /-- R420 -/ | temperatureSample (sensor : Sensor) (c : Conversion)
  /-- R418 -/ | zoneDisagreement (z : Fin 12)
  /-- R425 -/ | dieComparatorTrip (z : Fin 12)
  /-- R424 -/ | throttlePause (u : PauseUnit)
  /-- R401 -/ | pegLoad (k : Option CourseId)
  /-- R412 -/ | runCommand (m : MasterId) (mask : BitVec 32)
  /-- R416 -/ | tuningRunEnd (k : CourseId) (points values : Nat)
  /-- R417 -/ | tuningRunTimeout (k : CourseId)
  /-- R284 -/ | tuningSliceForced (k : CourseId)
  /-- R446 -/ | memoryRequest (port : Fin 42) (cls : AddrClass) (addr : Nat) (op : MemOp) (badBytes : Nat)
  /-- R449 -/ | correctedWriteBack (c : ChannelId) (unit : Nat)
  /-- R455 -/ | refresh (c : ChannelId) (rank : Fin 2) (bank : Fin 16) (issue : Bool)
  /-- R453 -/ | scrubRead (c : ChannelId) (badBytes : Nat)
  /-- R453 -/ | scrubOverdue
  /-- R454 -/ | neighbourRefresh (c : ChannelId)
  /-- R456 -/ | powerDownEntry (c : ChannelId) (rank : Fin 2)
  /-- R457 -/ | selfRefreshEntry (c : ChannelId)
  /-- R460 -/ | oscillatorRead (c : ChannelId) (count : Int)
  /-- R436 -/ | mr4Read (c : ChannelId) (multiplier : Nat) (hot : Bool)
  /-- R461 -/ | retrainForced (c : ChannelId)
  /-- R461 -/ | retrainPause (c : ChannelId)
  /-- R461 -/ | retrainOverdue (c : ChannelId)
  /-- R463 -/ | dramTrainingComplete (r : TrainingResult)
  /-- R466 -/ | softRepair
  /-- R467 -/ | hardRepair
  /-- R483 -/ | hostDoorbell (v : BitVec 64)
  /-- R485 -/ | ringWriteBack (q : Fin 262144)
  /-- R485 -/ | moderationExpiry (q : Fin 262144)
  /-- R496 -/ | pairFault
  /-- R489 -/ | watchdogExpiry
  /-- R497 -/ | pairRestartInPlace
  /-- R522 -/ | restartWatchdogReset
  /-- R493 -/ | unitRestart (u : RestartUnit)
  /-- R500 -/ | loadStandby (m : MasterId) (v : Byte)
  /-- R500 -/ | standbySynchronised
  /-- R500 -/ | switchOver (m : MasterId) (v : Byte)
  /-- R500 -/ | probationEnd
  /-- R503 -/ | spareOffer (kind : SpareKind) (unit : Nat) (worn : Bool)
  /-- R505 -/ | policySwitchIn
  /-- R513 -/ | availabilityClear (m : MasterId) (v : Byte)
  /-- R511 -/ | criticalLogClear (m : MasterId) (v : Byte)
  /-- R516 -/ | powerValid (syncMilliVolt : Nat)
  /-- R519 -/ | supplyHoldEntry (rail : Fin 11) (milliVolt : Nat)
  /-- R520 -/ | supplyHoldEnd
  /-- R521 -/ | railReset (rail : Fin 11)
  /-- R521 -/ | overvoltage (rail : Fin 11)
  /-- R522 -/ | rstNReset
  /-- R525 -/ | deviceResetCommand (m : MasterId) (v : BitVec 16)
  /-- R527 -/ | pciePerstDeassert
  /-- R534 -/ | extest (cells : List Bool)
  /-- R533 -/ | samplePreload (cells : List Bool)
  /-- R533 -/ | idcode
  /-- R533 -/ | devreset
  /-- R534 -/ | fuseprog (mask : BitVec 3)
  /-- R533 -/ | bypass (opcode : Byte)
  /-- R526 -/ | slotPllLock
  /-- R102 -/ | shaftLineRestored (j : Fin 8)
  /-- R309 -/ | returnBlockInvalid (b : ReturnBlock)
  /-- R337 -/ | hushUnconfirmed (l : LaneId)
  /-- R197 -/ | flowIdle (f : FlowId)
  /-- R496 -/ | pairStandbyReady
  /-- R497 -/ | pairRestartComplete
  /-- R499 -/ | imageWriteComplete (ok : Bool)
  deriving DecidableEq, Repr

end Sys2Proof
end

