-- ==== Sys2Proof/Config.lean ====
section
/-! DEFINITION. What the spec leaves to the part, to the board, to the firmware image or to nothing at all: constants
without a body, so that no proof can see a value. `freeNat` and `freeRat` give the free values, one per use of the
counter `State.free` (log 5). -/

namespace Sys2Proof.Config

/-- A fresh unconstrained natural number for each use (log 5). -/
opaque freeNat : Nat → Nat
/-- A fresh unconstrained rational for each use (log 5). -/
opaque freeRat : Nat → Rat
/-- A fresh unconstrained Boolean for each use (log 5). -/
opaque freeBool : Nat → Bool

/-- The severity, code and detail of an event log entry of a kind (Table 14.13 leaves them to the source): each has a
value in its field, not given by the spec. -/
opaque eventSeverity : Nat → Nat
opaque eventCode : Nat → Nat
opaque eventDetail : Nat → Nat

/-- 1000:04, "per part": B1 on parts built to the manual. -/
def stepping : List Byte := [0x42, 0x31]
/-- 1000:05, "per part". -/
opaque serial : Nat
/-- 1000:09 and 1000:0A, "per part". -/
opaque macA : Nat
opaque macB : Nat
/-- 1000:06, "per image": the version of the image in a slot. -/
opaque imageVersion : List Byte → Nat
/-- 7F00:0D: the CRC-32C that an image's header carries, at a place that the spec does not give. -/
opaque imageCrc : List Byte → Nat
/-- R499: the header, CRC and signature of an image are good. -/
opaque imageGood : List Byte → Bool
/-- 27E0:01, "per part": the order of the places of the dither matrix of R254, whose entry is a place's rank in it. -/
opaque ditherMatrix : Nat → Nat
/-- The CIE 1931 2° colour-matching functions at a wavelength in nm (R239), which the spec names and does not list (log 172). -/
opaque cmfX : Rat → Rat
opaque cmfY : Rat → Rat
opaque cmfZ : Rat → Rat
/-- R233: the relative or absolute error of decode for a curve and a normalised code, used only within the bound of R233. -/
opaque decodeError : Nat → Rat → Rat
/-- What an internal, ingest or stream queue carries, by its number: a use below 512 is one of log 146, any other is work that
passes between units within one command. -/
opaque queueUse : Nat → Nat
/-- 6001:05 of a queue that is no host ring, as a power of two from 2⁶ to 2¹⁶ (log 146). -/
opaque queueCount : Nat → Nat
/-- Head and tail of a pipeline queue that carries work within commands, at a count of free values taken (log 146). -/
opaque queueIndex : Nat → Nat → Nat
/-- Where in the control class the event log lies (R510), in units of 64 bytes: the spec gives it no address (log 181). -/
opaque eventLogUnit : Nat

/-- The IPv4 address that DHCP gives where 1100:01 is 0. -/
opaque dhcpAddress : Nat
/-- 6000:04: descriptors pinned resident, of which the internal queues in use are not listed (R481). -/
opaque pinnedQueues : Nat
/-- 5010 + c:08, "per device": repair resources of a channel. -/
opaque repairResources : Nat → Nat
/-- 4200:09 and 4200:0A to :14: what the supply monitors read at an uptime, by sub-index. -/
opaque monitor : Nat → Nat → Rat
/-- 5010 + c:0A: the bandwidth of a channel over the last second, at an uptime. -/
opaque bandwidth : Nat → Nat → Nat
/-- 5100:0A and :0B at the first start, "per part": state of firmware slots 0 and 1. -/
opaque firmwareSlotState : Nat → Nat
/-- 5100:0D, "per image". -/
opaque dictionaryImageKiB : Nat
/-- 2000 + ℓ:13 and other results of tuning that no rule derives from data the model holds. -/
opaque firmwareChoice : Nat → Nat → Int

end Sys2Proof.Config
end

