-- ==== Sys2Proof/Machine/Bytes.lean ====
section
/-! DEFINITION. Byte order, bit fields and check codes (R5, R41, R49, Table 9.x). -/

namespace Sys2Proof.Machine

open Sys2Proof

/-- `n` bytes of `v`, least significant first (R41). -/
def leBytes : Nat → Nat → List Byte
  | 0, _ => []
  | n + 1, v => BitVec.ofNat 8 v :: leBytes n (v / 256)

/-- The number that bytes spell, least significant first (R41). -/
def leNat : List Byte → Nat
  | [] => 0
  | b :: bs => b.toNat + 256 * leNat bs

/-- `n` bytes of `v`, most significant first. -/
def beBytes (n v : Nat) : List Byte := (leBytes n v).reverse

/-- The bytes from `off`, at most `len` of them. -/
def slice (off len : Nat) (l : List Byte) : List Byte := (l.drop off).take len

/-- The little-endian number of `n` bytes at offset `off`. -/
def leAt (l : List Byte) (off n : Nat) : Nat := leNat (slice off n l)

/-- Bits [hi:lo] of `v` (R5). -/
def bits (v hi lo : Nat) : Nat := (v / 2 ^ lo) % 2 ^ (hi + 1 - lo)

/-- Bit `i` of `v` (R5). -/
def bit (v i : Nat) : Bool := v.testBit i

/-- `v` with bit `i` made `b`. -/
def withBit (v i : Nat) (b : Bool) : Nat :=
  if b then v ||| 2 ^ i else if v.testBit i then v - 2 ^ i else v

/-- The two's complement number of `w` bits of `v`. -/
def sext (w v : Nat) : Int := if v % 2 ^ w < 2 ^ (w - 1) then (v % 2 ^ w : Nat) else (v % 2 ^ w : Nat) - (2 ^ w : Nat)

/-- The `w` low bits of an integer in two's complement. -/
def trunc (w : Nat) (z : Int) : Nat := (z % (2 ^ w : Nat)).toNat

/-- Clamp to [lo, hi]. -/
def clampI (lo hi z : Int) : Int := if z < lo then lo else if hi < z then hi else z

/-- Saturation at 32 bits, two's complement. -/
def sat32 (z : Int) : Int := clampI (-2147483648) 2147483647 z

/-- The positions of the bits set in the low `n` bits of a mask, rising. -/
def bitsSet (n v : Nat) : List Nat := (List.range n).filter (fun i => v.testBit i)

/-- Number of bits set in the low `n` bits. -/
def popcount (n v : Nat) : Nat := (bitsSet n v).length

/-- The mask of a list of bit numbers. -/
def maskOf (l : List Nat) : Nat := l.foldl (fun m i => m ||| 2 ^ i) 0

/-- One step of a bit-reflected CRC. -/
def crcStep (poly : Nat) : Nat → Nat → Nat
  | 0, c => c
  | n + 1, c => crcStep poly n (if c % 2 = 1 then (c / 2) ^^^ poly else c / 2)

/-- CRC-32C (R49): polynomial 0x1EDC6F41 reflected, initial value and final exclusive-OR 0xFFFFFFFF. -/
def crc32c (l : List Byte) : Nat :=
  (l.foldl (fun c b => crcStep 0x82F63B78 8 (c ^^^ b.toNat)) 0xFFFFFFFF) ^^^ 0xFFFFFFFF

/-- Zero padding to a multiple of 4 (R50). -/
def pad4 (l : List Byte) : List Byte := l ++ List.replicate ((4 - l.length % 4) % 4) 0

/-- The bytes of an ASCII string. -/
def ascii (s : String) : List Byte := s.toList.map (fun c => BitVec.ofNat 8 c.toNat)

/-- Continuation bytes 10xxxxxx of UTF-8. -/
def isCont (b : Byte) : Bool := b.toNat / 64 == 2

/-- Valid UTF-8 (Table 2.1); `fuel` is at least the length. -/
def utf8Valid : Nat → List Byte → Bool
  | _, [] => true
  | 0, _ => false
  | n + 1, b :: r =>
    let x := b.toNat
    if x < 0x80 then utf8Valid n r
    else if 0xC2 ≤ x && x ≤ 0xDF then
      match r with
      | c :: r => isCont c && utf8Valid n r
      | _ => false
    else if 0xE0 ≤ x && x ≤ 0xEF then
      match r with
      | c :: d :: r =>
        isCont c && isCont d && (x != 0xE0 || 0xA0 ≤ c.toNat) && (x != 0xED || c.toNat ≤ 0x9F) && utf8Valid n r
      | _ => false
    else if 0xF0 ≤ x && x ≤ 0xF4 then
      match r with
      | c :: d :: e :: r =>
        isCont c && isCont d && isCont e && (x != 0xF0 || 0x90 ≤ c.toNat) && (x != 0xF4 || c.toNat ≤ 0x8F) &&
          utf8Valid n r
      | _ => false
    else false

end Sys2Proof.Machine
end

