-- ==== Sys2Proof/Machine/Num.lean ====
section
/-! DEFINITION. Numbers: binary32, Q16.16, TIME80, and the functions of real numbers that the spec uses (log 9, 11).
Arithmetic is exact in the rationals; a root, a logarithm, an exponential, a sine and an arcsine are computed to
2⁻⁸⁰, far inside every tolerance the spec gives. -/

namespace Sys2Proof.Machine

open Sys2Proof

/-- 2 to an integer power. -/
def pow2 (z : Int) : Rat := match z with
  | .ofNat n => (2 ^ n : Nat)
  | .negSucc n => 1 / ((2 ^ (n + 1) : Nat) : Rat)

def absR (q : Rat) : Rat := if q < 0 then -q else q
def minR (a b : Rat) : Rat := if a ≤ b then a else b
def maxR (a b : Rat) : Rat := if a ≤ b then b else a
def clampR (lo hi q : Rat) : Rat := if q < lo then lo else if hi < q then hi else q

/-- Nearest integer, ties to even. -/
def roundEven (q : Rat) : Int :=
  let f := q.floor
  let r := q - f
  if r < 1 / 2 then f else if 1 / 2 < r then f + 1 else if f % 2 = 0 then f else f + 1

/-- Nearest integer, ties up. -/
def roundHalfUp (q : Rat) : Int := (q + 1 / 2).floor

/-- Truncation toward zero. -/
def truncR (q : Rat) : Int := if q < 0 then -((-q).floor) else q.floor

/-! ### binary32 -/

/-- A finite binary32 (neither NaN nor infinite, Table 2.1). -/
def f32Finite (b : Nat) : Bool := bits b 30 23 != 255

/-- The value of a finite binary32; 0 for NaN and infinities. -/
def ratOfF32 (b : Nat) : Rat :=
  let e := bits b 30 23
  let m := bits b 22 0
  let a : Rat :=
    if e = 255 then 0
    else if e = 0 then (m : Rat) * pow2 (-149)
    else ((m + 2 ^ 23 : Nat) : Rat) * pow2 ((e : Int) - 150)
  if bit b 31 then -a else a

/-- Floor of log₂ of a positive rational. -/
def log2Floor (a : Rat) : Int :=
  let e : Int := (Nat.log2 a.num.toNat : Int) - (Nat.log2 a.den : Int)
  if a < pow2 e then e - 1 else e

/-- The binary32 nearest to a rational, ties to even; beyond the largest finite value, the largest (log 9). -/
def f32OfRat (q : Rat) : Nat :=
  let a := absR q
  let s : Nat := if q < 0 then 2 ^ 31 else 0
  if a = 0 then 0
  else
    let e := if log2Floor a < -126 then -126 else log2Floor a
    let m := (roundEven (a * pow2 (23 - e))).toNat
    let b := ((e + 126).toNat) * 2 ^ 23 + m
    if b < 0x7F800000 then s + b else s + 0x7F7FFFFF

/-! ### Times -/

/-- A TIME80 as held: seconds + nanoseconds × 2⁴⁸ (Table 2.1). -/
def time80 (ns : Nat) : Nat := (ns / 1000000000) % 2 ^ 48 + (ns % 1000000000) * 2 ^ 48

/-- The nanoseconds of a TIME80. -/
def nsOfTime80 (v : Nat) : Nat := (v % 2 ^ 48) * 1000000000 + v / 2 ^ 48

/-- 2⁻¹⁶ ns in one nanosecond, one slot of 2.5 ns (R124), one microsecond, one millisecond, one second. -/
def tNs : Nat := 65536
def tSlot : Nat := 163840
def tUs : Nat := 65536000
def tMs : Nat := 65536000000
def tS : Nat := 65536000000000

/-! ### Real functions, in steps of 2⁻⁸⁰ -/

def fxOne : Nat := 1208925819614629174706176
def fxPi : Int := 3797952473636338580787993
def fxLn2 : Int := 837963523372001241319907

def fxOfRat (q : Rat) : Int := (q * fxOne).floor
def ratOfFx (z : Int) : Rat := (z : Rat) / fxOne
def fxMul (a b : Int) : Int := a * b / fxOne

/-- π to 2⁻⁸⁰. -/
def piR : Rat := ratOfFx fxPi

/-- Integer square root by bisection on bits, from bit `n` down. -/
def isqrtFrom (v : Nat) : Nat → Nat → Nat
  | 0, r => r
  | n + 1, r =>
    let t := r + 2 ^ n
    if t * t ≤ v then isqrtFrom v n t else isqrtFrom v n r

def isqrt (v : Nat) : Nat := isqrtFrom v (Nat.log2 v / 2 + 1) 0

/-- Square root; 0 of a negative number. -/
def sqrtR (q : Rat) : Rat := if q ≤ 0 then 0 else ratOfFx (isqrt ((q * fxOne * fxOne).floor.toNat))

/-- Sum of a series whose next term is `f n t`. -/
def fxSeries (f : Nat → Int → Int) : Nat → Nat → Int → Int → Int
  | 0, _, _, s => s
  | k + 1, n, t, s => fxSeries f k (n + 1) (f n t) (s + t)

/-- sin of an angle in radians. -/
def sinR (x : Rat) : Rat :=
  let q := (x / (2 * piR) + 1 / 2).floor
  let z := fxOfRat (x - 2 * piR * q)
  let z2 := fxMul z z
  ratOfFx (fxSeries (fun n t => -(fxMul t z2) / ((2 * n + 2) * (2 * n + 3) : Nat)) 30 0 z 0)

def cosR (x : Rat) : Rat := sinR (x + piR / 2)

/-- arcsin of |z| ≤ 1/2, in fixed point. -/
def fxAsinSmall (z : Int) : Int :=
  let z2 := fxMul z z
  fxSeries (fun n t => fxMul t z2 * ((2 * n + 1) * (2 * n + 1) : Nat) / ((2 * n + 2) * (2 * n + 3) : Nat)) 44 0 z 0

/-- arcsin; an argument outside −1 to 1 counts as the nearer end. -/
def asinR (q : Rat) : Rat :=
  let a := minR (absR q) 1
  let r := if a ≤ 1 / 2 then ratOfFx (fxAsinSmall (fxOfRat a))
    else piR / 2 - 2 * ratOfFx (fxAsinSmall (fxOfRat (sqrtR ((1 - a) / 2))))
  if q < 0 then -r else r

/-- Natural logarithm of a positive number; 0 otherwise. -/
def lnR (q : Rat) : Rat :=
  if q ≤ 0 then 0
  else
    let k := log2Floor q
    let m := q / pow2 k
    let z := fxOfRat ((m - 1) / (m + 1))
    let z2 := fxMul z z
    let s := fxSeries (fun n t => fxMul t z2 * (2 * n + 1 : Nat) / (2 * n + 3 : Nat)) 30 0 z 0
    ratOfFx (2 * s + k * fxLn2)

/-- Exponential. -/
def expR (q : Rat) : Rat :=
  let k := (q / ratOfFx fxLn2).floor
  let z := fxOfRat (q - k * ratOfFx fxLn2)
  ratOfFx (fxSeries (fun n t => fxMul t z / (n + 1 : Nat)) 30 0 (fxOne : Int) 0) * pow2 k

/-- A positive base to a real power; 0 for a base that is not positive. -/
def powR (b e : Rat) : Rat := if b ≤ 0 then 0 else expR (e * lnR b)

def sumR (l : List Rat) : Rat := l.foldl (· + ·) 0

end Sys2Proof.Machine
end

