-- ==== Sys2Proof/Machine/Catalogue.lean ====
section
/-! DEFINITION. The entry catalogue: the type, access code, default and own range of every dictionary entry (R38 to
R42, R76, R77 and the entry tables of every chapter). Rows are transcribed from the spec's entry tables. -/

namespace Sys2Proof.Machine

open Sys2Proof

/-- The types of Table 2.1. -/
inductive Ty where
  | bool | u8 | u16 | u32 | u64 | i8 | i16 | i32 | i64 | fix32 | f32 | time80 | str | blob
  deriving DecidableEq, Repr

/-- The access codes of Table 2.2. -/
inductive Acc where
  | ro | rw | rs | wo | rp
  deriving DecidableEq, Repr

/-- An entry's own range. -/
inductive Rng where
  /-- Every value of the type. -/
  | all
  | int (lo hi : Int)
  | ints (l : List Int)
  | intOr (lo hi : Int) (l : List Int)
  /-- Of the value of an F32 or FIX32. -/
  | real (lo hi : Rat)
  /-- Largest length of a STR or BLOB. -/
  | len (n : Nat)
  deriving DecidableEq, Repr

/-- The entries of sub-indices s0 to s1 of one index group; the default of the n-th index is dflt + n × step. An F32
default is its bit pattern and a FIX32 default its integer. -/
structure Row where
  s0 : Nat
  s1 : Nat
  ty : Ty
  acc : Acc
  dflt : Int
  step : Int
  rng : Rng
  deriving DecidableEq, Repr

/-- Entries of 1000 (Tables 0.3, 2.8). -/
def rows1000a : List Row := [
  ⟨0x00, 0x00, .u8, .ro, 31, 0, .all⟩,
  ⟨0x01, 0x01, .str, .ro, 0, 0, .all⟩,
  ⟨0x02, 0x02, .str, .ro, 0, 0, .all⟩,
  ⟨0x03, 0x03, .u16, .ro, 256, 0, .all⟩,
  ⟨0x04, 0x04, .str, .ro, 0, 0, .all⟩,
  ⟨0x05, 0x05, .u64, .ro, 0, 0, .all⟩,
  ⟨0x06, 0x06, .u32, .ro, 0, 0, .all⟩,
  ⟨0x07, 0x07, .u8, .ro, 0, 0, .all⟩,
  ⟨0x08, 0x08, .u16, .ro, 1, 0, .all⟩,
  ⟨0x09, 0x09, .u64, .ro, 0, 0, .all⟩,
  ⟨0x0A, 0x0A, .u64, .ro, 0, 0, .all⟩,
  ⟨0x0B, 0x0F, .u8, .ro, 0, 0, .all⟩,
  ⟨0x10, 0x10, .u16, .ro, 256, 0, .all⟩,
  ⟨0x11, 0x11, .u16, .ro, 16, 0, .all⟩,
  ⟨0x12, 0x12, .u8, .ro, 32, 0, .all⟩,
  ⟨0x13, 0x13, .u8, .ro, 64, 0, .all⟩,
  ⟨0x14, 0x14, .u8, .ro, 36, 0, .all⟩,
  ⟨0x15, 0x15, .u8, .ro, 96, 0, .all⟩,
  ⟨0x16, 0x16, .u8, .ro, 34, 0, .all⟩,
  ⟨0x17, 0x17, .u16, .ro, 370, 0, .all⟩,
  ⟨0x18, 0x18, .u8, .ro, 32, 0, .all⟩,
  ⟨0x19, 0x19, .u16, .ro, 128, 0, .all⟩,
  ⟨0x1A, 0x1A, .u32, .ro, 65536, 0, .all⟩,
  ⟨0x1B, 0x1B, .u16, .ro, 256, 0, .all⟩]

def rows1000b : List Row := [
  ⟨0x1C, 0x1C, .u8, .ro, 64, 0, .all⟩,
  ⟨0x1D, 0x1D, .u16, .ro, 4096, 0, .all⟩,
  ⟨0x1E, 0x1E, .u8, .ro, 24, 0, .all⟩,
  ⟨0x1F, 0x1F, .u8, .ro, 32, 0, .all⟩]

def rows1000 : List Row := rows1000a ++ rows1000b

/-- Entries of 1100 (Table 2.8). -/
def rows1100 : List Row := [
  ⟨0x00, 0x00, .u8, .ro, 20, 0, .all⟩,
  ⟨0x01, 0x01, .u32, .rp, 0, 0, .all⟩,
  ⟨0x02, 0x02, .u32, .rp, 0, 0, .all⟩,
  ⟨0x03, 0x03, .u32, .rp, 0, 0, .all⟩,
  ⟨0x04, 0x04, .u16, .rp, 41620, 0, .int 1024 65535⟩,
  ⟨0x05, 0x05, .u16, .ro, 0, 0, .all⟩,
  ⟨0x06, 0x06, .u16, .ro, 60, 0, .all⟩,
  ⟨0x07, 0x07, .u32, .ro, 0, 0, .all⟩,
  ⟨0x08, 0x08, .u32, .ro, 0, 0, .all⟩,
  ⟨0x09, 0x09, .u32, .ro, 0, 0, .all⟩,
  ⟨0x0A, 0x0F, .u8, .ro, 0, 0, .all⟩,
  ⟨0x10, 0x10, .u16, .rp, 100, 0, .int 10 10000⟩,
  ⟨0x11, 0x11, .u32, .rp, 0, 0, .all⟩,
  ⟨0x12, 0x12, .u16, .rp, 41620, 0, .all⟩,
  ⟨0x13, 0x13, .u32, .ro, 0, 0, .all⟩,
  ⟨0x14, 0x14, .u16, .ro, 0, 0, .all⟩]

/-- Entries of 1200 (Table 3.7). -/
def rows1200 : List Row := [
  ⟨0x00, 0x00, .u8, .ro, 18, 0, .all⟩,
  ⟨0x01, 0x01, .time80, .ro, 0, 0, .all⟩,
  ⟨0x02, 0x02, .u16, .ro, 0, 0, .all⟩,
  ⟨0x03, 0x03, .u8, .ro, 0, 0, .all⟩,
  ⟨0x04, 0x04, .i32, .ro, 0, 0, .all⟩,
  ⟨0x05, 0x05, .fix32, .ro, 0, 0, .all⟩,
  ⟨0x06, 0x06, .u16, .rp, 10, 0, .int 1 3600⟩,
  ⟨0x07, 0x07, .fix32, .rp, 6553600, 0, .real 1 250⟩,
  ⟨0x08, 0x08, .u32, .rp, 1000, 0, .int 100 1000000000⟩,
  ⟨0x09, 0x09, .u32, .rp, 100, 0, .int 10 10000⟩,
  ⟨0x0A, 0x0A, .fix32, .rp, 32768, 0, .real 0 100⟩,
  ⟨0x0B, 0x0B, .fix32, .rp, 3277, 0, .real 0 10⟩,
  ⟨0x0C, 0x0C, .u32, .ro, 0, 0, .all⟩,
  ⟨0x0D, 0x0D, .time80, .wo, 0, 0, .all⟩,
  ⟨0x0E, 0x0E, .i16, .ro, 0, 0, .all⟩,
  ⟨0x0F, 0x0F, .u32, .ro, 0, 0, .all⟩,
  ⟨0x10, 0x10, .u32, .ro, 0, 0, .all⟩,
  ⟨0x11, 0x11, .u32, .ro, 0, 0, .all⟩,
  ⟨0x12, 0x12, .u32, .ro, 0, 0, .all⟩]

/-- Entries of 1201 (Table 3.7). -/
def rows1201 : List Row := [
  ⟨0x00, 0x00, .u8, .ro, 14, 0, .all⟩,
  ⟨0x01, 0x01, .u8, .rp, 3, 0, .all⟩,
  ⟨0x02, 0x02, .u8, .rp, 1, 0, .int 0 2⟩,
  ⟨0x03, 0x03, .u8, .rp, 127, 0, .int 0 127⟩,
  ⟨0x04, 0x04, .i8, .rp, (-2), 0, .int (-3) 1⟩,
  ⟨0x05, 0x05, .i8, .rp, (-3), 0, .int (-7) 1⟩,
  ⟨0x06, 0x06, .i8, .rp, (-3), 0, .int (-7) 1⟩,
  ⟨0x07, 0x07, .u8, .rp, 3, 0, .int 2 10⟩,
  ⟨0x08, 0x08, .u8, .rp, 0, 0, .int 0 1⟩,
  ⟨0x09, 0x09, .u64, .ro, 0, 0, .all⟩,
  ⟨0x0A, 0x0A, .u16, .ro, 0, 0, .all⟩,
  ⟨0x0B, 0x0B, .u8, .ro, 255, 0, .all⟩,
  ⟨0x0C, 0x0C, .u32, .ro, 0, 0, .all⟩,
  ⟨0x0D, 0x0D, .u16, .ro, 0, 0, .all⟩,
  ⟨0x0E, 0x0E, .u32, .ro, 0, 0, .all⟩]

/-- Entries of 1210 to 1213 (Table 3.7). -/
def rows1210 : List Row := [
  ⟨0x00, 0x00, .u8, .ro, 9, 0, .all⟩,
  ⟨0x01, 0x01, .u8, .rp, 0, 0, .int 0 2⟩,
  ⟨0x02, 0x02, .u8, .rp, 0, 0, .int 0 1⟩,
  ⟨0x03, 0x03, .u32, .rp, 1, 0, .int 1 65536⟩,
  ⟨0x04, 0x04, .u8, .rp, 255, 0, .intOr 0 3 [255]⟩,
  ⟨0x05, 0x05, .u32, .rp, 500, 0, .int 10 100000⟩,
  ⟨0x06, 0x06, .u64, .ro, 0, 0, .all⟩,
  ⟨0x07, 0x07, .time80, .ro, 0, 0, .all⟩,
  ⟨0x08, 0x08, .u8, .ro, 0, 0, .all⟩,
  ⟨0x09, 0x09, .u32, .ro, 0, 0, .all⟩]

/-- Entries of 1218 to 121F (Table 3.7). -/
def rows1218 : List Row := [
  ⟨0x00, 0x00, .u8, .ro, 18, 0, .all⟩,
  ⟨0x01, 0x01, .u8, .rp, 0, 0, .int 0 2⟩,
  ⟨0x02, 0x02, .u32, .rp, 0, 0, .all⟩,
  ⟨0x03, 0x03, .u32, .rp, 0, 0, .all⟩,
  ⟨0x04, 0x04, .u8, .rp, 25, 0, .int 8 32⟩,
  ⟨0x05, 0x05, .u8, .rp, 1, 0, .int 0 1⟩,
  ⟨0x06, 0x06, .u8, .rp, 0, 0, .int 0 2⟩,
  ⟨0x07, 0x07, .u16, .rp, 1000, 0, .int 100 10000⟩,
  ⟨0x08, 0x08, .u16, .rp, 20, 0, .int 5 10000⟩,
  ⟨0x09, 0x09, .u8, .rp, 20, 0, .int 1 100⟩,
  ⟨0x0A, 0x0A, .u32, .rp, 65536, 0, .all⟩,
  ⟨0x0B, 0x0B, .u16, .rp, 100, 0, .int 1 10000⟩,
  ⟨0x0C, 0x0C, .u8, .rp, 0, 0, .int 0 1⟩,
  ⟨0x0D, 0x0D, .i64, .ro, 0, 0, .all⟩,
  ⟨0x0E, 0x0E, .u32, .ro, 0, 0, .all⟩,
  ⟨0x0F, 0x0F, .i32, .ro, 0, 0, .all⟩,
  ⟨0x10, 0x10, .u8, .ro, 0, 0, .all⟩,
  ⟨0x11, 0x11, .u32, .ro, 0, 0, .all⟩,
  ⟨0x12, 0x12, .u32, .ro, 0, 0, .all⟩]

/-- Entries of 1220 to 123F (Table 3.7). -/
def rows1220a : List Row := [
  ⟨0x00, 0x00, .u8, .ro, 25, 0, .all⟩,
  ⟨0x01, 0x01, .u8, .rs, 0, 0, .int 0 3⟩,
  ⟨0x02, 0x02, .u8, .rs, 0, 0, .int 0 255⟩,
  ⟨0x03, 0x03, .u32, .rs, 60, 0, .all⟩,
  ⟨0x04, 0x04, .u32, .rs, 1, 0, .ints [1, 1001]⟩,
  ⟨0x05, 0x05, .i32, .rs, 0, 0, .all⟩,
  ⟨0x06, 0x06, .u32, .rs, 4096, 0, .all⟩,
  ⟨0x07, 0x07, .u32, .rs, 0, 0, .all⟩,
  ⟨0x08, 0x08, .u32, .rs, 0, 0, .all⟩,
  ⟨0x09, 0x09, .u8, .rs, 0, 0, .int 0 1⟩,
  ⟨0x0A, 0x0A, .u16, .rs, 0, 0, .all⟩,
  ⟨0x0B, 0x0B, .u8, .rs, 0, 0, .int 0 1⟩,
  ⟨0x0C, 0x0C, .u32, .rs, 0, 0, .all⟩,
  ⟨0x0D, 0x0D, .fix32, .rs, 13107, 0, .real (1/100) 1⟩,
  ⟨0x0E, 0x0E, .i32, .rs, 0, 0, .all⟩,
  ⟨0x0F, 0x0F, .fix32, .rs, 1310720, 0, .real 1 100⟩,
  ⟨0x10, 0x10, .u32, .ro, 0, 0, .all⟩,
  ⟨0x11, 0x11, .time80, .ro, 0, 0, .all⟩,
  ⟨0x12, 0x12, .u8, .ro, 0, 0, .all⟩,
  ⟨0x13, 0x13, .u8, .ro, 0, 0, .all⟩,
  ⟨0x14, 0x14, .i32, .ro, 0, 0, .all⟩,
  ⟨0x15, 0x15, .u32, .ro, 0, 0, .all⟩,
  ⟨0x16, 0x16, .u16, .ro, 0, 0, .all⟩,
  ⟨0x17, 0x17, .f32, .ro, 0, 0, .all⟩]

def rows1220b : List Row := [
  ⟨0x18, 0x18, .f32, .ro, 0, 0, .all⟩,
  ⟨0x19, 0x19, .u32, .ro, 0, 0, .all⟩]

def rows1220 : List Row := rows1220a ++ rows1220b

/-- Entries of 1240 (Table 3.7). -/
def rows1240 : List Row := [
  ⟨0x00, 0x00, .u8, .ro, 7, 0, .all⟩,
  ⟨0x01, 0x01, .u32, .rp, 0, 0, .int 0 262143⟩,
  ⟨0x02, 0x02, .u32, .rp, 4026488321, 0, .all⟩,
  ⟨0x03, 0x03, .u16, .rp, 41621, 0, .all⟩,
  ⟨0x04, 0x04, .u16, .rp, 100, 0, .int 10 1000⟩,
  ⟨0x05, 0x05, .bool, .ro, 0, 0, .all⟩,
  ⟨0x06, 0x06, .u32, .ro, 0, 0, .all⟩,
  ⟨0x07, 0x07, .u32, .ro, 0, 0, .all⟩]

/-- Entries of 1400 (Table 2.8). -/
def rows1400 : List Row := [
  ⟨0x00, 0x00, .u8, .ro, 6, 0, .all⟩,
  ⟨0x01, 0x01, .u32, .wo, 0, 0, .all⟩,
  ⟨0x02, 0x02, .u32, .rs, 0, 0, .all⟩,
  ⟨0x03, 0x03, .time80, .rs, 0, 0, .all⟩,
  ⟨0x04, 0x04, .u16, .ro, 0, 0, .all⟩,
  ⟨0x05, 0x05, .u32, .ro, 0, 0, .all⟩,
  ⟨0x06, 0x06, .u32, .ro, 0, 0, .all⟩]

/-- Entries of 2000 to 20FF (Tables 4.8, 7.12). -/
def rows2000 : List Row := [
  ⟨0x00, 0x00, .u8, .ro, 31, 0, .all⟩,
  ⟨0x01, 0x01, .u8, .ro, 255, 0, .all⟩,
  ⟨0x02, 0x02, .u8, .ro, 0, 0, .all⟩,
  ⟨0x03, 0x03, .u8, .ro, 0, 0, .all⟩,
  ⟨0x04, 0x04, .u16, .ro, 0, 1, .all⟩,
  ⟨0x05, 0x05, .i32, .rs, 0, 0, .all⟩,
  ⟨0x06, 0x06, .i32, .rs, 0, 0, .all⟩,
  ⟨0x07, 0x07, .i16, .rs, 0, 0, .all⟩,
  ⟨0x08, 0x08, .u16, .ro, 0, 0, .all⟩,
  ⟨0x09, 0x09, .u32, .ro, 0, 0, .all⟩,
  ⟨0x0A, 0x0F, .u8, .ro, 0, 0, .all⟩,
  ⟨0x10, 0x10, .f32, .rs, 1065353216, 0, .real 0 2⟩,
  ⟨0x11, 0x11, .blob, .rs, 0, 0, .len 8200⟩,
  ⟨0x12, 0x12, .f32, .rs, 0, 0, .real (-10) 10⟩,
  ⟨0x13, 0x13, .f32, .rp, 0, 0, .all⟩,
  ⟨0x14, 0x14, .f32, .rp, 1065353216, 0, .real (3/10) (3/2)⟩,
  ⟨0x15, 0x15, .f32, .ro, 1065353216, 0, .all⟩,
  ⟨0x16, 0x16, .u8, .ro, 0, 0, .all⟩,
  ⟨0x17, 0x17, .u32, .ro, 0, 0, .all⟩,
  ⟨0x18, 0x18, .u32, .ro, 0, 0, .all⟩,
  ⟨0x19, 0x19, .time80, .ro, 0, 0, .all⟩,
  ⟨0x1A, 0x1A, .u32, .ro, 0, 0, .all⟩,
  ⟨0x1B, 0x1F, .u8, .ro, 0, 0, .all⟩]

/-- Entries of 2100 to 210F (Tables 4.8, 9.13). -/
def rows2100 : List Row := [
  ⟨0x00, 0x00, .u8, .ro, 9, 0, .all⟩,
  ⟨0x01, 0x01, .u16, .rs, 65535, 0, .intOr 0 255 [65535]⟩,
  ⟨0x02, 0x02, .u8, .ro, 255, 0, .all⟩,
  ⟨0x03, 0x03, .u32, .ro, 0, 0, .all⟩,
  ⟨0x04, 0x04, .u8, .ro, 0, 0, .all⟩,
  ⟨0x05, 0x05, .i32, .rs, 0, 0, .all⟩,
  ⟨0x06, 0x06, .i32, .rs, 0, 0, .all⟩,
  ⟨0x07, 0x07, .i16, .rs, 0, 0, .all⟩,
  ⟨0x08, 0x08, .u16, .ro, 0, 0, .all⟩,
  ⟨0x09, 0x09, .u32, .ro, 0, 0, .all⟩]

/-- Entries of 2200 to 221F (Tables 1.4, 4.6). -/
def rows2200a : List Row := [
  ⟨0x00, 0x00, .u8, .ro, 31, 0, .all⟩,
  ⟨0x01, 0x01, .u8, .ro, 0, 0, .all⟩,
  ⟨0x02, 0x02, .u8, .rs, 0, 0, .ints [0, 2, 3, 4, 5]⟩,
  ⟨0x03, 0x03, .u16, .ro, 0, 0, .all⟩,
  ⟨0x04, 0x04, .u8, .rp, 0, 0, .ints [0, 2, 3, 4, 5]⟩,
  ⟨0x05, 0x05, .u16, .rs, 0, 0, .int 0 255⟩,
  ⟨0x06, 0x06, .u8, .rs, 0, 0, .int 0 64⟩,
  ⟨0x07, 0x07, .u8, .rs, 1, 0, .int 1 64⟩,
  ⟨0x08, 0x08, .u8, .rs, 1, 0, .int 1 6⟩,
  ⟨0x09, 0x09, .u8, .rs, 0, 0, .int 0 1⟩,
  ⟨0x0A, 0x0A, .u8, .rs, 0, 0, .int 0 2⟩,
  ⟨0x0B, 0x0B, .f32, .rs, 1186181120, 0, .all⟩,
  ⟨0x0C, 0x0C, .f32, .rs, 1187205120, 0, .all⟩,
  ⟨0x0D, 0x0D, .u32, .rs, 200000000, 0, .int 10000000 600000000⟩,
  ⟨0x0E, 0x0E, .u32, .rs, 100000000, 0, .all⟩,
  ⟨0x0F, 0x0F, .u8, .rs, 0, 0, .int 0 7⟩,
  ⟨0x10, 0x10, .u8, .rs, 1, 0, .int 0 7⟩,
  ⟨0x11, 0x11, .u16, .rs, 0, 0, .int 0 65535⟩,
  ⟨0x12, 0x12, .u32, .rs, 1000, 0, .int 0 1000000⟩,
  ⟨0x13, 0x13, .u8, .rs, 2, 0, .int 1 16⟩,
  ⟨0x14, 0x14, .u32, .rs, 66051, 0, .all⟩,
  ⟨0x15, 0x15, .u8, .ro, 0, 0, .all⟩,
  ⟨0x16, 0x16, .u64, .ro, 0, 0, .all⟩,
  ⟨0x17, 0x17, .u32, .ro, 0, 0, .all⟩]

def rows2200b : List Row := [
  ⟨0x18, 0x18, .f32, .ro, 0, 0, .all⟩,
  ⟨0x19, 0x19, .i32, .ro, 0, 0, .all⟩,
  ⟨0x1A, 0x1A, .u32, .ro, 0, 0, .all⟩,
  ⟨0x1B, 0x1B, .u32, .ro, 0, 0, .all⟩,
  ⟨0x1C, 0x1C, .u32, .ro, 0, 0, .all⟩,
  ⟨0x1D, 0x1D, .u32, .ro, 0, 0, .all⟩,
  ⟨0x1E, 0x1E, .u16, .ro, 65535, 0, .all⟩,
  ⟨0x1F, 0x1F, .f32, .ro, 0, 0, .all⟩]

def rows2200 : List Row := rows2200a ++ rows2200b

/-- Entries of 2300 to 23FF (Table 4.8). -/
def rows2300 : List Row := [
  ⟨0x00, 0x00, .u8, .ro, 5, 0, .all⟩,
  ⟨0x01, 0x01, .blob, .rs, 0, 0, .len 16400⟩,
  ⟨0x02, 0x02, .u16, .ro, 0, 0, .all⟩,
  ⟨0x03, 0x03, .f32, .ro, 0, 0, .all⟩,
  ⟨0x04, 0x04, .u32, .ro, 0, 0, .all⟩,
  ⟨0x05, 0x05, .u8, .ro, 0, 0, .all⟩]

/-- Entries of 2400 to 24FF (Table 5.12). -/
def rows2400 : List Row := [
  ⟨0x00, 0x00, .u8, .ro, 20, 0, .all⟩,
  ⟨0x01, 0x01, .u16, .rs, 0, 0, .intOr 16 8192 [0]⟩,
  ⟨0x02, 0x02, .u16, .rs, 0, 0, .intOr 16 8192 [0]⟩,
  ⟨0x03, 0x03, .u8, .rs, 3, 0, .int 0 3⟩,
  ⟨0x04, 0x04, .u8, .rs, 3, 0, .int 2 4⟩,
  ⟨0x05, 0x05, .u8, .rs, 1, 0, .int 0 3⟩,
  ⟨0x06, 0x06, .u32, .rs, 41667, 0, .int 0 1000000⟩,
  ⟨0x07, 0x07, .u8, .rs, 0, 0, .int 0 1⟩,
  ⟨0x08, 0x08, .u8, .rs, 255, 0, .int 0 3⟩,
  ⟨0x09, 0x09, .u8, .ro, 255, 0, .all⟩,
  ⟨0x0A, 0x0A, .u16, .ro, 65535, 0, .all⟩,
  ⟨0x0B, 0x0B, .u32, .ro, 0, 0, .all⟩,
  ⟨0x0C, 0x0C, .u64, .ro, 0, 0, .all⟩,
  ⟨0x0D, 0x0D, .u32, .ro, 0, 0, .all⟩,
  ⟨0x0E, 0x0E, .u32, .ro, 0, 0, .all⟩,
  ⟨0x0F, 0x0F, .u32, .ro, 0, 0, .all⟩,
  ⟨0x10, 0x10, .u32, .ro, 0, 0, .all⟩,
  ⟨0x11, 0x11, .u32, .ro, 0, 0, .all⟩,
  ⟨0x12, 0x12, .u32, .ro, 0, 0, .all⟩,
  ⟨0x13, 0x13, .time80, .ro, 0, 0, .all⟩,
  ⟨0x14, 0x14, .u8, .wo, 0, 0, .all⟩]

/-- Entries of 2500 to 253F (Table 5.14). -/
def rows2500a : List Row := [
  ⟨0x00, 0x00, .u8, .ro, 29, 0, .all⟩,
  ⟨0x01, 0x01, .u8, .rs, 0, 0, .int 0 3⟩,
  ⟨0x02, 0x02, .u32, .rs, 0, 0, .all⟩,
  ⟨0x03, 0x03, .u16, .rs, 5004, 0, .all⟩,
  ⟨0x04, 0x04, .u32, .rs, 0, 0, .all⟩,
  ⟨0x05, 0x05, .u32, .rs, 0, 0, .all⟩,
  ⟨0x06, 0x06, .u16, .rs, 5004, 0, .all⟩,
  ⟨0x07, 0x07, .u32, .rs, 0, 0, .all⟩,
  ⟨0x08, 0x08, .u8, .rs, 96, 0, .int 96 127⟩,
  ⟨0x09, 0x09, .u8, .rs, 0, 0, .int 0 1⟩,
  ⟨0x0A, 0x0A, .u8, .rs, 10, 0, .ints [8, 10, 12]⟩,
  ⟨0x0B, 0x0B, .u16, .rs, 1920, 0, .int 1 7680⟩,
  ⟨0x0C, 0x0C, .u16, .rs, 1080, 0, .int 1 4320⟩,
  ⟨0x0D, 0x0D, .u8, .rs, 0, 0, .int 0 1⟩,
  ⟨0x0E, 0x0E, .u8, .rs, 0, 0, .int 0 2⟩,
  ⟨0x0F, 0x0F, .u8, .rs, 0, 0, .int 0 2⟩,
  ⟨0x10, 0x10, .u8, .rs, 0, 0, .int 0 1⟩,
  ⟨0x11, 0x11, .u16, .rs, 65535, 0, .intOr 0 255 [65535]⟩,
  ⟨0x12, 0x12, .u16, .rs, 0, 0, .all⟩,
  ⟨0x13, 0x13, .u16, .rs, 0, 0, .all⟩,
  ⟨0x14, 0x14, .u32, .rs, 2000, 0, .int 0 50000⟩,
  ⟨0x15, 0x15, .u8, .ro, 0, 0, .all⟩,
  ⟨0x16, 0x16, .u64, .ro, 0, 0, .all⟩,
  ⟨0x17, 0x17, .u64, .ro, 0, 0, .all⟩]

def rows2500b : List Row := [
  ⟨0x18, 0x18, .u32, .ro, 0, 0, .all⟩,
  ⟨0x19, 0x19, .u32, .ro, 0, 0, .all⟩,
  ⟨0x1A, 0x1A, .u32, .ro, 0, 0, .all⟩,
  ⟨0x1B, 0x1B, .u32, .ro, 0, 0, .all⟩,
  ⟨0x1C, 0x1C, .u32, .ro, 0, 0, .all⟩,
  ⟨0x1D, 0x1D, .u32, .ro, 0, 0, .all⟩]

def rows2500 : List Row := rows2500a ++ rows2500b

/-- Entries of 2540 to 257F (Table 5.15). -/
def rows2540 : List Row := [
  ⟨0x00, 0x00, .u8, .ro, 9, 0, .all⟩,
  ⟨0x01, 0x01, .u32, .rs, 0, 0, .intOr 98304 262143 [0]⟩,
  ⟨0x02, 0x02, .u32, .rs, 0, 0, .intOr 98304 262143 [0]⟩,
  ⟨0x03, 0x03, .u16, .rs, 65535, 0, .intOr 0 255 [65535]⟩,
  ⟨0x04, 0x04, .u8, .ro, 0, 0, .all⟩,
  ⟨0x05, 0x05, .u64, .ro, 0, 0, .all⟩,
  ⟨0x06, 0x06, .u32, .ro, 0, 0, .all⟩,
  ⟨0x07, 0x07, .u32, .ro, 0, 0, .all⟩,
  ⟨0x08, 0x08, .u32, .ro, 0, 0, .all⟩,
  ⟨0x09, 0x09, .u64, .ro, 0, 0, .all⟩]

/-- Entries of 25F0 (Table 5.15). -/
def rows25F0 : List Row := [
  ⟨0x00, 0x00, .u8, .ro, 8, 0, .all⟩,
  ⟨0x01, 0x01, .u32, .rp, 32768, 0, .int 1024 98304⟩,
  ⟨0x02, 0x02, .u32, .ro, 0, 0, .all⟩,
  ⟨0x03, 0x03, .u32, .ro, 0, 0, .all⟩,
  ⟨0x04, 0x04, .u32, .ro, 0, 0, .all⟩,
  ⟨0x05, 0x05, .u32, .ro, 0, 0, .all⟩,
  ⟨0x06, 0x06, .u32, .ro, 0, 0, .all⟩,
  ⟨0x07, 0x07, .u32, .ro, 0, 0, .all⟩,
  ⟨0x08, 0x08, .u32, .ro, 0, 0, .all⟩]

/-- Entries of 2600 to 267F (Table 6.8). -/
def rows2600 : List Row := [
  ⟨0x00, 0x00, .u8, .ro, 7, 0, .all⟩,
  ⟨0x01, 0x01, .blob, .rs, 0, 0, .len 1056816⟩,
  ⟨0x02, 0x02, .u8, .ro, 0, 0, .all⟩,
  ⟨0x03, 0x03, .u32, .ro, 0, 0, .all⟩,
  ⟨0x04, 0x04, .u32, .ro, 0, 0, .all⟩,
  ⟨0x05, 0x05, .u32, .ro, 0, 0, .all⟩,
  ⟨0x06, 0x06, .u32, .ro, 0, 0, .all⟩,
  ⟨0x07, 0x07, .u32, .ro, 0, 0, .all⟩]

/-- Entries of 2680 to 269F (Table 6.9). -/
def rows2680a : List Row := [
  ⟨0x00, 0x00, .u8, .ro, 25, 0, .all⟩,
  ⟨0x01, 0x01, .u8, .rs, 0, 0, .int 0 3⟩,
  ⟨0x02, 0x02, .u8, .rs, 1, 0, .int 0 1⟩,
  ⟨0x03, 0x03, .u8, .rs, 0, 0, .int 0 1⟩,
  ⟨0x04, 0x04, .i32, .rs, 0, 0, .all⟩,
  ⟨0x05, 0x05, .i32, .rs, 60000, 0, .all⟩,
  ⟨0x06, 0x06, .u8, .rs, 0, 0, .int 0 3⟩,
  ⟨0x07, 0x07, .u8, .rs, 0, 0, .int 0 7⟩,
  ⟨0x08, 0x08, .fix32, .rs, 0, 0, .all⟩,
  ⟨0x09, 0x09, .fix32, .rs, 0, 0, .all⟩,
  ⟨0x0A, 0x0A, .i64, .rs, 0, 0, .all⟩,
  ⟨0x0B, 0x0B, .u8, .rs, 0, 0, .int 0 1⟩,
  ⟨0x0C, 0x0C, .fix32, .rs, 131072, 0, .real 0 16⟩,
  ⟨0x0D, 0x0D, .u16, .rs, 8, 0, .int 0 256⟩,
  ⟨0x0E, 0x0E, .u8, .rs, 8, 0, .int 4 64⟩,
  ⟨0x0F, 0x0F, .u8, .ro, 0, 0, .all⟩,
  ⟨0x10, 0x10, .u8, .ro, 0, 0, .all⟩,
  ⟨0x11, 0x11, .u32, .ro, 0, 0, .all⟩,
  ⟨0x12, 0x12, .u32, .ro, 0, 0, .all⟩,
  ⟨0x13, 0x13, .u64, .ro, 0, 0, .all⟩,
  ⟨0x14, 0x14, .u32, .ro, 0, 0, .all⟩,
  ⟨0x15, 0x15, .u32, .ro, 0, 0, .all⟩,
  ⟨0x16, 0x16, .u8, .rs, 0, 1, .int 0 35⟩,
  ⟨0x17, 0x17, .u32, .ro, 0, 0, .all⟩]

def rows2680b : List Row := [
  ⟨0x18, 0x18, .fix32, .ro, 0, 0, .all⟩,
  ⟨0x19, 0x19, .fix32, .ro, 0, 0, .all⟩]

def rows2680 : List Row := rows2680a ++ rows2680b

/-- Entries of 26F0 (Table 6.10). -/
def rows26F0 : List Row := [
  ⟨0x00, 0x00, .u8, .ro, 9, 0, .all⟩,
  ⟨0x01, 0x01, .u16, .ro, 256, 0, .all⟩,
  ⟨0x02, 0x02, .u8, .ro, 2, 0, .all⟩,
  ⟨0x03, 0x03, .u32, .ro, 0, 0, .all⟩,
  ⟨0x04, 0x04, .u32, .ro, 0, 0, .all⟩,
  ⟨0x05, 0x05, .u32, .ro, 0, 0, .all⟩,
  ⟨0x06, 0x06, .u64, .ro, 4294967295, 0, .all⟩,
  ⟨0x07, 0x07, .u8, .ro, 4, 0, .all⟩,
  ⟨0x08, 0x08, .u32, .ro, 0, 0, .all⟩,
  ⟨0x09, 0x09, .u64, .ro, 0, 0, .all⟩]

/-- Entries of 2700 to 271F (Table 7.10). -/
def rows2700a : List Row := [
  ⟨0x00, 0x00, .u8, .ro, 26, 0, .all⟩,
  ⟨0x01, 0x01, .u8, .rs, 2, 0, .int 0 5⟩,
  ⟨0x02, 0x02, .u8, .rs, 0, 0, .int 0 3⟩,
  ⟨0x03, 0x03, .blob, .rs, 0, 0, .len 32⟩,
  ⟨0x04, 0x04, .f32, .rs, 1050679863, 0, .real (1/5) (1/2)⟩,
  ⟨0x05, 0x05, .f32, .rs, 1051226800, 0, .real (1/5) (1/2)⟩,
  ⟨0x06, 0x06, .f32, .rs, 0, 0, .all⟩,
  ⟨0x07, 0x07, .u8, .rs, 0, 0, .int 0 1⟩,
  ⟨0x08, 0x08, .f32, .rs, 1148846080, 0, .real 100 10000⟩,
  ⟨0x09, 0x09, .f32, .rs, 1067030938, 0, .real 1 (3/2)⟩,
  ⟨0x0A, 0x0A, .blob, .rs, 0, 0, .len 248⟩,
  ⟨0x0B, 0x0B, .blob, .rs, 0, 0, .len 199724⟩,
  ⟨0x0C, 0x0C, .blob, .rs, 0, 0, .len 199724⟩,
  ⟨0x0D, 0x0D, .u8, .rs, 2, 0, .int 0 2⟩,
  ⟨0x0E, 0x0E, .u8, .rs, 2, 0, .int 0 2⟩,
  ⟨0x0F, 0x0F, .f32, .rs, 1092616192, 0, .real 1 600⟩,
  ⟨0x10, 0x10, .u32, .rs, 1000, 0, .int 100 60000⟩,
  ⟨0x11, 0x11, .f32, .rs, 1056964608, 0, .real (1/20) 5⟩,
  ⟨0x12, 0x12, .f32, .rs, 1092616192, 0, .real 1 50⟩,
  ⟨0x13, 0x13, .f32, .rs, 1060320051, 0, .real (3/10) (19/20)⟩,
  ⟨0x14, 0x14, .blob, .ro, 0, 0, .all⟩,
  ⟨0x15, 0x15, .f32, .ro, 0, 0, .all⟩,
  ⟨0x16, 0x16, .f32, .ro, 0, 0, .all⟩,
  ⟨0x17, 0x17, .u16, .ro, 0, 0, .all⟩]

def rows2700b : List Row := [
  ⟨0x18, 0x18, .f32, .ro, 0, 0, .all⟩,
  ⟨0x19, 0x19, .u32, .ro, 0, 0, .all⟩,
  ⟨0x1A, 0x1A, .u32, .ro, 0, 0, .all⟩]

def rows2700 : List Row := rows2700a ++ rows2700b

/-- Entries of 27E0 (Table 7.13). -/
def rows27E0 : List Row := [
  ⟨0x00, 0x00, .u8, .ro, 2, 0, .all⟩,
  ⟨0x01, 0x01, .blob, .ro, 0, 0, .all⟩,
  ⟨0x02, 0x02, .u32, .ro, 0, 0, .all⟩]

/-- Entries of 27F0 to 27FF (Table 7.12). -/
def rows27F0 : List Row := [
  ⟨0x00, 0x00, .u8, .ro, 26, 0, .all⟩,
  ⟨0x01, 0x10, .u8, .ro, 0, 0, .all⟩,
  ⟨0x11, 0x11, .blob, .rs, 0, 0, .len 8200⟩,
  ⟨0x12, 0x12, .f32, .rs, 0, 0, .real (-10) 10⟩,
  ⟨0x13, 0x13, .f32, .rp, 0, 0, .all⟩,
  ⟨0x14, 0x14, .f32, .rp, 1065353216, 0, .real (3/10) (3/2)⟩,
  ⟨0x15, 0x15, .f32, .ro, 1065353216, 0, .all⟩,
  ⟨0x16, 0x16, .u8, .ro, 0, 0, .all⟩,
  ⟨0x17, 0x17, .u32, .ro, 0, 0, .all⟩,
  ⟨0x18, 0x18, .u32, .ro, 0, 0, .all⟩,
  ⟨0x19, 0x19, .time80, .ro, 0, 0, .all⟩,
  ⟨0x1A, 0x1A, .u32, .ro, 0, 0, .all⟩]

/-- Entries of 2800 to 281F (Table 8.14). -/
def rows2800a : List Row := [
  ⟨0x00, 0x00, .u8, .ro, 27, 0, .all⟩,
  ⟨0x01, 0x01, .u8, .rs, 0, 1, .intOr 0 33 [255]⟩,
  ⟨0x02, 0x02, .u8, .rs, 0, 0, .int 0 2⟩,
  ⟨0x03, 0x03, .u8, .ro, 0, 0, .all⟩,
  ⟨0x04, 0x04, .u8, .rs, 1, 0, .int 1 255⟩,
  ⟨0x05, 0x05, .u16, .rs, 1, 0, .int 1 65535⟩,
  ⟨0x06, 0x06, .u8, .rs, 2, 0, .int 2 8⟩,
  ⟨0x07, 0x07, .u32, .rs, 2000, 0, .int 0 96000⟩,
  ⟨0x08, 0x08, .f32, .rs, 1048576000, 0, .real (1/100) 1⟩,
  ⟨0x09, 0x09, .u8, .rs, 2, 0, .int 0 16⟩,
  ⟨0x0A, 0x0A, .blob, .rs, 0, 0, .len 264⟩,
  ⟨0x0B, 0x0B, .u32, .rs, 100, 0, .int 0 10000⟩,
  ⟨0x0C, 0x0C, .u32, .rs, 200000, 0, .int 1000 10000000⟩,
  ⟨0x0D, 0x0D, .u32, .ro, 0, 0, .all⟩,
  ⟨0x0E, 0x0E, .u32, .ro, 0, 0, .all⟩,
  ⟨0x0F, 0x0F, .u32, .ro, 0, 0, .all⟩,
  ⟨0x10, 0x10, .u32, .ro, 0, 0, .all⟩,
  ⟨0x11, 0x11, .u32, .ro, 0, 0, .all⟩,
  ⟨0x12, 0x12, .u32, .ro, 0, 0, .all⟩,
  ⟨0x13, 0x13, .u32, .ro, 0, 0, .all⟩,
  ⟨0x14, 0x14, .u32, .ro, 0, 0, .all⟩,
  ⟨0x15, 0x15, .blob, .ro, 0, 0, .all⟩,
  ⟨0x16, 0x16, .u16, .ro, 0, 0, .all⟩,
  ⟨0x17, 0x17, .u32, .ro, 0, 0, .all⟩]

def rows2800b : List Row := [
  ⟨0x18, 0x18, .u32, .ro, 0, 0, .all⟩,
  ⟨0x19, 0x19, .u32, .ro, 4294967295, 0, .all⟩,
  ⟨0x1A, 0x1A, .u64, .ro, 0, 0, .all⟩,
  ⟨0x1B, 0x1B, .u32, .ro, 0, 0, .all⟩]

def rows2800 : List Row := rows2800a ++ rows2800b

/-- Entries of 2820 to 2841 (Table 8.15). -/
def rows2820 : List Row := [
  ⟨0x00, 0x00, .u8, .ro, 11, 0, .all⟩,
  ⟨0x01, 0x01, .u8, .ro, 255, 0, .all⟩,
  ⟨0x02, 0x02, .u8, .ro, 0, 0, .all⟩,
  ⟨0x03, 0x03, .u8, .rp, 0, 0, .int 0 31⟩,
  ⟨0x04, 0x04, .i32, .rp, 0, 0, .int 0 2000000⟩,
  ⟨0x05, 0x05, .bool, .rp, 0, 0, .all⟩,
  ⟨0x06, 0x06, .u16, .rp, 16, 0, .int 0 4095⟩,
  ⟨0x07, 0x07, .u16, .rp, 1024, 0, .int 0 4095⟩,
  ⟨0x08, 0x08, .u32, .ro, 0, 0, .all⟩,
  ⟨0x09, 0x09, .u16, .ro, 0, 0, .all⟩,
  ⟨0x0A, 0x0A, .u32, .ro, 0, 0, .all⟩,
  ⟨0x0B, 0x0B, .u16, .ro, 336, 1, .all⟩]

/-- Entries of 2880 to 288F (Table 8.16). -/
def rows2880 : List Row := [
  ⟨0x00, 0x00, .u8, .ro, 14, 0, .all⟩,
  ⟨0x01, 0x01, .u8, .rs, 0, 0, .int 0 3⟩,
  ⟨0x02, 0x02, .u8, .rs, 0, 0, .int 0 2⟩,
  ⟨0x03, 0x03, .u8, .rs, 0, 0, .int 0 31⟩,
  ⟨0x04, 0x04, .u32, .rs, 0, 0, .all⟩,
  ⟨0x05, 0x05, .u16, .rs, 41622, 0, .all⟩,
  ⟨0x06, 0x06, .u32, .rs, 1000, 0, .int 1 40000⟩,
  ⟨0x07, 0x07, .u32, .rs, 0, 0, .intOr 98304 262143 [0]⟩,
  ⟨0x08, 0x08, .u32, .rs, 0, 0, .intOr 98304 262143 [0]⟩,
  ⟨0x09, 0x09, .u32, .ro, 0, 0, .all⟩,
  ⟨0x0A, 0x0A, .u32, .ro, 0, 0, .all⟩,
  ⟨0x0B, 0x0B, .u64, .ro, 0, 0, .all⟩,
  ⟨0x0C, 0x0C, .u32, .ro, 0, 0, .all⟩,
  ⟨0x0D, 0x0D, .u32, .ro, 0, 0, .all⟩,
  ⟨0x0E, 0x0E, .u16, .rs, 8896, 0, .int 256 8896⟩]

/-- Entries of 28F0 (Table 8.17). -/
def rows28F0 : List Row := [
  ⟨0x00, 0x00, .u8, .ro, 6, 0, .all⟩,
  ⟨0x01, 0x01, .u32, .rp, 4096, 0, .int 0 16384⟩,
  ⟨0x02, 0x02, .u32, .ro, 0, 0, .all⟩,
  ⟨0x03, 0x03, .u32, .ro, 0, 0, .all⟩,
  ⟨0x04, 0x04, .u32, .ro, 0, 0, .all⟩,
  ⟨0x05, 0x05, .u8, .ro, 2, 0, .all⟩,
  ⟨0x06, 0x06, .u32, .ro, 0, 0, .all⟩]

/-- Entries of 3000 to 305F (Table 10.12). -/
def rows3000a : List Row := [
  ⟨0x00, 0x00, .u8, .ro, 42, 0, .all⟩,
  ⟨0x01, 0x01, .u8, .rs, 0, 0, .int 0 2⟩,
  ⟨0x02, 0x02, .u32, .rs, 0, 0, .int 1 65536⟩,
  ⟨0x03, 0x03, .u8, .rs, 1, 0, .int 0 3⟩,
  ⟨0x04, 0x04, .u16, .rs, 0, 0, .all⟩,
  ⟨0x05, 0x05, .u16, .rs, 0, 0, .all⟩,
  ⟨0x06, 0x06, .i32, .rs, 0, 0, .all⟩,
  ⟨0x07, 0x07, .i32, .rw, 0, 0, .all⟩,
  ⟨0x08, 0x08, .i32, .rs, 1073741824, 0, .all⟩,
  ⟨0x09, 0x09, .i32, .rs, 0, 0, .all⟩,
  ⟨0x0A, 0x0A, .u16, .rs, 0, 0, .all⟩,
  ⟨0x0B, 0x0B, .i32, .rs, 0, 0, .all⟩,
  ⟨0x0C, 0x0C, .i32, .rs, 0, 0, .all⟩,
  ⟨0x0D, 0x0D, .i32, .rs, 0, 0, .all⟩,
  ⟨0x0E, 0x0E, .i32, .rs, 0, 0, .all⟩,
  ⟨0x0F, 0x0F, .i32, .rs, 0, 0, .all⟩,
  ⟨0x10, 0x10, .i32, .rs, 2147483647, 0, .all⟩,
  ⟨0x11, 0x11, .u64, .rs, 34084860468766, 0, .all⟩,
  ⟨0x12, 0x12, .blob, .rs, 0, 0, .len 28⟩,
  ⟨0x13, 0x13, .blob, .rs, 0, 0, .len 28⟩,
  ⟨0x14, 0x14, .i32, .rs, (-2147483648), 0, .all⟩,
  ⟨0x15, 0x15, .i32, .rs, 2147483647, 0, .all⟩,
  ⟨0x16, 0x16, .u32, .rs, 0, 0, .all⟩,
  ⟨0x17, 0x17, .u8, .rs, 3, 0, .all⟩]

def rows3000b : List Row := [
  ⟨0x18, 0x18, .i32, .rw, 0, 0, .all⟩,
  ⟨0x19, 0x19, .i32, .rs, 0, 0, .all⟩,
  ⟨0x1A, 0x1A, .u32, .rs, 0, 0, .all⟩,
  ⟨0x1B, 0x1B, .u32, .rs, 16000, 0, .int 1 4294967295⟩,
  ⟨0x1C, 0x1C, .u8, .rs, 0, 0, .int 0 4⟩,
  ⟨0x1D, 0x1D, .i32, .ro, 0, 0, .all⟩,
  ⟨0x1E, 0x1E, .i32, .ro, 0, 0, .all⟩,
  ⟨0x1F, 0x1F, .i32, .ro, 0, 0, .all⟩,
  ⟨0x20, 0x20, .i32, .ro, 0, 0, .all⟩,
  ⟨0x21, 0x21, .i32, .ro, 0, 0, .all⟩,
  ⟨0x22, 0x22, .u32, .rw, 0, 0, .int 0 0⟩,
  ⟨0x23, 0x23, .u8, .ro, 0, 0, .all⟩,
  ⟨0x24, 0x24, .u64, .ro, 0, 0, .all⟩,
  ⟨0x25, 0x25, .u32, .ro, 0, 0, .all⟩,
  ⟨0x26, 0x26, .u32, .ro, 0, 0, .all⟩,
  ⟨0x27, 0x27, .u32, .ro, 0, 0, .all⟩,
  ⟨0x28, 0x28, .u32, .ro, 0, 0, .all⟩,
  ⟨0x29, 0x29, .u8, .ro, 0, 0, .all⟩,
  ⟨0x2A, 0x2A, .u32, .ro, 0, 0, .all⟩]

def rows3000 : List Row := rows3000a ++ rows3000b

/-- Entries of 3100 (Table 10.17). -/
def rows3100 : List Row := [
  ⟨0x00, 0x00, .u8, .ro, 17, 0, .all⟩,
  ⟨0x01, 0x01, .fix32, .ro, 0, 0, .all⟩,
  ⟨0x02, 0x02, .fix32, .ro, 2555904, 0, .all⟩,
  ⟨0x03, 0x03, .u64, .ro, 0, 0, .all⟩,
  ⟨0x04, 0x04, .u8, .ro, 8, 0, .all⟩,
  ⟨0x05, 0x05, .blob, .ro, 0, 0, .all⟩,
  ⟨0x06, 0x06, .u32, .ro, 0, 0, .all⟩,
  ⟨0x07, 0x07, .u32, .ro, 0, 0, .all⟩,
  ⟨0x08, 0x0F, .i16, .ro, 0, 0, .all⟩,
  ⟨0x10, 0x10, .u32, .ro, 0, 0, .all⟩,
  ⟨0x11, 0x11, .u8, .wo, 0, 0, .int 0 87⟩]

/-- Entries of 3110 to 314F (Table 10.15). -/
def rows3110 : List Row := [
  ⟨0x00, 0x00, .u8, .ro, 10, 0, .all⟩,
  ⟨0x01, 0x01, .i32, .rs, 0, 0, .all⟩,
  ⟨0x02, 0x02, .u8, .rs, 0, 0, .int 0 31⟩,
  ⟨0x03, 0x03, .i32, .rs, 0, 0, .all⟩,
  ⟨0x04, 0x04, .u8, .rs, 8, 0, .int 1 255⟩,
  ⟨0x05, 0x05, .i32, .ro, 0, 0, .all⟩,
  ⟨0x06, 0x06, .i16, .ro, 0, 0, .all⟩,
  ⟨0x07, 0x07, .i16, .ro, 0, 0, .all⟩,
  ⟨0x08, 0x08, .i32, .ro, 0, 0, .all⟩,
  ⟨0x09, 0x09, .u32, .ro, 0, 0, .all⟩,
  ⟨0x0A, 0x0A, .u16, .ro, 272, 1, .all⟩]

/-- Entries of 3150 to 316F (Table 10.16). -/
def rows3150a : List Row := [
  ⟨0x00, 0x00, .u8, .ro, 28, 0, .all⟩,
  ⟨0x01, 0x01, .f32, .ro, 0, 0, .all⟩,
  ⟨0x02, 0x02, .f32, .ro, 0, 0, .all⟩,
  ⟨0x03, 0x03, .f32, .ro, 0, 0, .all⟩,
  ⟨0x04, 0x04, .f32, .rs, 0, 0, .all⟩,
  ⟨0x05, 0x05, .f32, .ro, 0, 0, .all⟩,
  ⟨0x06, 0x06, .f32, .ro, 0, 0, .all⟩,
  ⟨0x07, 0x07, .f32, .rs, 0, 0, .real (-180) 180⟩,
  ⟨0x08, 0x08, .f32, .rs, 1028443341, 0, .real (1/1000) 10⟩,
  ⟨0x09, 0x09, .u8, .ro, 0, 0, .all⟩,
  ⟨0x0A, 0x0A, .f32, .rs, 1084227584, 0, .real (1/2) 100⟩,
  ⟨0x0B, 0x0B, .u16, .rs, 4, 0, .int 1 100⟩,
  ⟨0x0C, 0x0C, .u16, .rs, 4, 0, .int 1 100⟩,
  ⟨0x0D, 0x0D, .u32, .rs, 4000000, 0, .all⟩,
  ⟨0x0E, 0x0E, .u32, .rs, 10000000, 0, .all⟩,
  ⟨0x0F, 0x0F, .u32, .rs, 2000, 0, .int 100 60000⟩,
  ⟨0x10, 0x10, .u32, .rs, 1000, 0, .int 0 100000⟩,
  ⟨0x11, 0x11, .i32, .rs, 0, 0, .all⟩,
  ⟨0x12, 0x12, .u8, .rs, 8, 0, .int 1 255⟩,
  ⟨0x13, 0x13, .f32, .rs, 1106247680, 0, .real 1 100⟩,
  ⟨0x14, 0x14, .f32, .rs, 1092616192, 0, .real 1 45⟩,
  ⟨0x15, 0x15, .u32, .rs, 500, 0, .int 1 60000⟩,
  ⟨0x16, 0x16, .u32, .rs, 64, 0, .all⟩,
  ⟨0x17, 0x17, .u16, .ro, 0, 0, .all⟩]

def rows3150b : List Row := [
  ⟨0x18, 0x18, .u32, .ro, 0, 0, .all⟩,
  ⟨0x19, 0x19, .u32, .ro, 0, 0, .all⟩,
  ⟨0x1A, 0x1A, .u32, .ro, 0, 0, .all⟩,
  ⟨0x1B, 0x1B, .f32, .ro, 0, 0, .all⟩,
  ⟨0x1C, 0x1C, .bool, .ro, 0, 0, .all⟩]

def rows3150 : List Row := rows3150a ++ rows3150b

/-- Entries of 3800 (Table 11.9). -/
def rows3800 : List Row := [
  ⟨0x00, 0x00, .u8, .ro, 18, 0, .all⟩,
  ⟨0x01, 0x01, .u8, .ro, 0, 0, .all⟩,
  ⟨0x02, 0x02, .u8, .ro, 0, 0, .all⟩,
  ⟨0x03, 0x03, .u8, .ro, 7, 0, .all⟩,
  ⟨0x04, 0x04, .u8, .ro, 0, 0, .all⟩,
  ⟨0x05, 0x05, .bool, .ro, 0, 0, .all⟩,
  ⟨0x06, 0x06, .u32, .rs, 1000, 0, .all⟩,
  ⟨0x07, 0x07, .u32, .wo, 0, 0, .all⟩,
  ⟨0x08, 0x08, .u32, .ro, 0, 0, .all⟩,
  ⟨0x09, 0x09, .u32, .ro, 0, 0, .all⟩,
  ⟨0x0A, 0x0A, .u32, .ro, 0, 0, .all⟩,
  ⟨0x0B, 0x0B, .u32, .ro, 0, 0, .all⟩,
  ⟨0x0C, 0x0C, .u32, .ro, 0, 0, .all⟩,
  ⟨0x0D, 0x0D, .i32, .ro, 0, 0, .all⟩,
  ⟨0x0E, 0x0E, .u32, .ro, 0, 0, .all⟩,
  ⟨0x0F, 0x0F, .u8, .ro, 0, 0, .all⟩,
  ⟨0x10, 0x10, .blob, .rs, 0, 0, .len 512⟩,
  ⟨0x11, 0x11, .blob, .rs, 0, 0, .len 512⟩,
  ⟨0x12, 0x12, .u64, .ro, 0, 0, .all⟩]

/-- Entries of 3810 to 382F (Table 11.10). -/
def rows3810 : List Row := [
  ⟨0x00, 0x00, .u8, .ro, 14, 0, .all⟩,
  ⟨0x01, 0x01, .u8, .ro, 0, 0, .all⟩,
  ⟨0x02, 0x02, .u8, .ro, 0, 0, .all⟩,
  ⟨0x03, 0x03, .u16, .rs, 200, 0, .all⟩,
  ⟨0x04, 0x04, .u32, .rs, 60000, 0, .all⟩,
  ⟨0x05, 0x05, .u16, .rs, 950, 0, .all⟩,
  ⟨0x06, 0x06, .u16, .rs, 0, 0, .all⟩,
  ⟨0x07, 0x07, .u16, .rs, 0, 0, .all⟩,
  ⟨0x08, 0x08, .u8, .ro, 0, 0, .all⟩,
  ⟨0x09, 0x09, .u32, .ro, 0, 0, .all⟩,
  ⟨0x0A, 0x0A, .u32, .ro, 0, 0, .all⟩,
  ⟨0x0B, 0x0B, .u32, .ro, 0, 0, .all⟩,
  ⟨0x0C, 0x0C, .u32, .ro, 0, 0, .all⟩,
  ⟨0x0D, 0x0D, .u32, .ro, 0, 0, .all⟩,
  ⟨0x0E, 0x0E, .u16, .ro, 0, 0, .all⟩]

/-- Entries of 4000 (Table 12.10). -/
def rows4000 : List Row := [
  ⟨0x00, 0x00, .u8, .ro, 9, 0, .all⟩,
  ⟨0x01, 0x01, .u32, .wo, 0, 0, .all⟩,
  ⟨0x02, 0x02, .u32, .ro, 0, 0, .all⟩,
  ⟨0x03, 0x03, .u32, .ro, 0, 0, .all⟩,
  ⟨0x04, 0x04, .u16, .rp, 60, 0, .int 10 3600⟩,
  ⟨0x05, 0x05, .u8, .rp, 16, 0, .int 4 64⟩,
  ⟨0x06, 0x06, .u16, .rp, 128, 0, .int 16 1024⟩,
  ⟨0x07, 0x07, .u32, .ro, 0, 0, .all⟩,
  ⟨0x08, 0x08, .u32, .ro, 0, 0, .all⟩,
  ⟨0x09, 0x09, .blob, .ro, 0, 0, .all⟩]

/-- Entries of 4010 to 4071 (Table 12.11). -/
def rows4010 : List Row := [
  ⟨0x00, 0x00, .u8, .ro, 18, 0, .all⟩,
  ⟨0x01, 0x01, .u8, .rp, 255, 0, .ints [0, 1, 2, 3, 4, 5, 6, 7, 8, 9, 10, 11, 12, 13, 14, 15, 16, 17, 18, 19, 20, 21, 22, 23, 24, 25, 26, 27, 28, 29, 30, 31, 64, 65, 66, 67, 68, 69, 70, 71, 72, 73, 74, 75, 255]⟩,
  ⟨0x02, 0x02, .fix32, .rp, 131072, 0, .real (1/2) 20⟩,
  ⟨0x03, 0x03, .u8, .rp, 1, 0, .int 0 1⟩,
  ⟨0x04, 0x04, .u8, .ro, 8, 0, .all⟩,
  ⟨0x05, 0x05, .u8, .ro, 0, 0, .all⟩,
  ⟨0x06, 0x06, .f32, .ro, 0, 0, .all⟩,
  ⟨0x07, 0x07, .u32, .ro, 0, 0, .all⟩,
  ⟨0x08, 0x08, .time80, .ro, 0, 0, .all⟩,
  ⟨0x09, 0x09, .f32, .ro, 0, 0, .all⟩,
  ⟨0x0A, 0x11, .blob, .rp, 0, 0, .len 16416⟩,
  ⟨0x12, 0x12, .u32, .ro, 0, 0, .all⟩]

/-- Entries of 40F0 (Table 12.10). -/
def rows40F0 : List Row := [
  ⟨0x00, 0x00, .u8, .ro, 6, 0, .all⟩,
  ⟨0x01, 0x01, .blob, .ro, 0, 0, .all⟩,
  ⟨0x02, 0x02, .blob, .rs, 0, 0, .len 740⟩,
  ⟨0x03, 0x03, .blob, .ro, 0, 0, .all⟩,
  ⟨0x04, 0x04, .u32, .ro, 0, 0, .all⟩,
  ⟨0x05, 0x05, .u32, .ro, 0, 0, .all⟩,
  ⟨0x06, 0x06, .u32, .ro, 0, 0, .all⟩]

/-- Entries of 4100 (Table 12.12). -/
def rows4100 : List Row := [
  ⟨0x00, 0x00, .u8, .ro, 12, 0, .all⟩,
  ⟨0x01, 0x01, .f32, .ro, 0, 0, .all⟩,
  ⟨0x02, 0x02, .u8, .ro, 0, 0, .all⟩,
  ⟨0x03, 0x03, .u16, .ro, 0, 0, .all⟩,
  ⟨0x04, 0x04, .f32, .ro, 1120403456, 0, .all⟩,
  ⟨0x05, 0x05, .f32, .ro, 1121714176, 0, .all⟩,
  ⟨0x06, 0x06, .f32, .ro, 1123680256, 0, .all⟩,
  ⟨0x07, 0x07, .f32, .ro, 0, 0, .all⟩,
  ⟨0x08, 0x08, .u32, .wo, 0, 0, .all⟩,
  ⟨0x09, 0x09, .u64, .ro, 0, 0, .all⟩,
  ⟨0x0A, 0x0A, .u64, .ro, 0, 0, .all⟩,
  ⟨0x0B, 0x0B, .u32, .ro, 0, 0, .all⟩,
  ⟨0x0C, 0x0C, .u32, .ro, 0, 0, .all⟩]

/-- Entries of 4110 to 411B (Table 12.12). -/
def rows4110 : List Row := [
  ⟨0x00, 0x00, .u8, .ro, 7, 0, .all⟩,
  ⟨0x01, 0x01, .f32, .ro, 0, 0, .all⟩,
  ⟨0x02, 0x02, .f32, .ro, 0, 0, .all⟩,
  ⟨0x03, 0x03, .f32, .ro, 0, 0, .all⟩,
  ⟨0x04, 0x04, .u8, .ro, 0, 0, .all⟩,
  ⟨0x05, 0x05, .u8, .ro, 0, 0, .all⟩,
  ⟨0x06, 0x06, .f32, .ro, 0, 0, .all⟩,
  ⟨0x07, 0x07, .u32, .ro, 8000, 0, .all⟩]

/-- Entries of 4120 to 413F (Table 12.13). -/
def rows4120 : List Row := [
  ⟨0x00, 0x00, .u8, .ro, 8, 0, .all⟩,
  ⟨0x01, 0x01, .u8, .rp, 0, 0, .int 0 2⟩,
  ⟨0x02, 0x02, .f32, .rp, 1176256512, 0, .real 1000 100000⟩,
  ⟨0x03, 0x03, .f32, .rp, 1163309056, 0, .real 2000 5000⟩,
  ⟨0x04, 0x04, .f32, .rp, 1065420325, 0, .real 1 (11/10)⟩,
  ⟨0x05, 0x05, .f32, .rp, 0, 0, .real (-5) 5⟩,
  ⟨0x06, 0x06, .f32, .ro, 0, 0, .all⟩,
  ⟨0x07, 0x07, .u8, .ro, 0, 0, .all⟩,
  ⟨0x08, 0x08, .u32, .ro, 0, 0, .all⟩]

/-- Entries of 4140 to 415F (Table 12.13). -/
def rows4140 : List Row := [
  ⟨0x00, 0x00, .u8, .ro, 11, 0, .all⟩,
  ⟨0x01, 0x01, .u8, .rp, 255, 0, .intOr 0 31 [255]⟩,
  ⟨0x02, 0x02, .u8, .rp, 255, 0, .intOr 0 31 [255]⟩,
  ⟨0x03, 0x03, .f32, .rp, 1110704128, 0, .all⟩,
  ⟨0x04, 0x04, .f32, .rp, 1112014848, 0, .all⟩,
  ⟨0x05, 0x05, .f32, .rp, 1114636288, 0, .all⟩,
  ⟨0x06, 0x06, .f32, .ro, 0, 0, .all⟩,
  ⟨0x07, 0x07, .u8, .ro, 4, 0, .all⟩,
  ⟨0x08, 0x08, .u8, .ro, 0, 0, .all⟩,
  ⟨0x09, 0x09, .u32, .ro, 0, 0, .all⟩,
  ⟨0x0A, 0x0A, .u32, .ro, 0, 0, .all⟩,
  ⟨0x0B, 0x0B, .f32, .ro, 0, 0, .all⟩]

/-- Entries of 4200 (Tables 1.4, 15.13). -/
def rows4200 : List Row := [
  ⟨0x00, 0x00, .u8, .ro, 23, 0, .all⟩,
  ⟨0x01, 0x01, .u8, .ro, 0, 0, .all⟩,
  ⟨0x02, 0x02, .u8, .rs, 1, 0, .int 1 3⟩,
  ⟨0x03, 0x03, .u8, .rp, 1, 0, .int 1 2⟩,
  ⟨0x04, 0x04, .bool, .ro, 0, 0, .all⟩,
  ⟨0x05, 0x05, .u16, .ro, 0, 0, .all⟩,
  ⟨0x06, 0x06, .u32, .ro, 0, 0, .all⟩,
  ⟨0x07, 0x07, .u64, .ro, 0, 0, .all⟩,
  ⟨0x08, 0x08, .u16, .wo, 0, 0, .int 42435 42435⟩,
  ⟨0x09, 0x09, .f32, .ro, 0, 0, .all⟩,
  ⟨0x0A, 0x14, .f32, .ro, 0, 0, .all⟩,
  ⟨0x15, 0x15, .f32, .ro, 0, 0, .all⟩,
  ⟨0x16, 0x16, .u64, .ro, 0, 0, .all⟩,
  ⟨0x17, 0x17, .u32, .ro, 0, 0, .all⟩]

/-- Entries of 5000 (Table 13.14). -/
def rows5000a : List Row := [
  ⟨0x00, 0x00, .u8, .ro, 42, 0, .all⟩,
  ⟨0x01, 0x01, .u8, .ro, 0, 0, .all⟩,
  ⟨0x02, 0x02, .u16, .rp, 8533, 0, .ints [6400, 7500, 8533]⟩,
  ⟨0x03, 0x03, .u8, .ro, 0, 0, .all⟩,
  ⟨0x04, 0x04, .u8, .ro, 0, 0, .all⟩,
  ⟨0x05, 0x05, .u32, .ro, 0, 0, .all⟩,
  ⟨0x06, 0x06, .u32, .ro, 0, 0, .all⟩,
  ⟨0x07, 0x07, .u8, .rp, 1, 0, .int 0 1⟩,
  ⟨0x08, 0x08, .u32, .rp, 4096, 0, .ints [256, 512, 1024, 2048, 4096, 8192, 16384, 32768, 65536]⟩,
  ⟨0x09, 0x09, .u32, .rp, 15, 0, .all⟩,
  ⟨0x0A, 0x0A, .u16, .rp, 256, 0, .all⟩,
  ⟨0x0B, 0x0B, .u8, .rp, 1, 0, .int 0 3⟩,
  ⟨0x0C, 0x0C, .u32, .ro, 0, 0, .all⟩,
  ⟨0x0D, 0x0D, .u32, .ro, 0, 0, .all⟩,
  ⟨0x0E, 0x0E, .u32, .rp, 2000, 0, .intOr 500 100000 [0]⟩,
  ⟨0x0F, 0x0F, .u16, .rp, 20, 0, .int 1 1000⟩,
  ⟨0x10, 0x10, .u8, .rp, 10, 0, .int 6 16⟩,
  ⟨0x11, 0x11, .u8, .rp, 20, 0, .int 1 23⟩,
  ⟨0x12, 0x12, .u8, .ro, 0, 0, .all⟩,
  ⟨0x13, 0x13, .u32, .ro, 0, 0, .all⟩,
  ⟨0x14, 0x14, .u16, .rp, 1000, 0, .int 10 10000⟩,
  ⟨0x15, 0x15, .u16, .rp, 16, 0, .int 1 1024⟩,
  ⟨0x16, 0x16, .u32, .ro, 0, 0, .all⟩,
  ⟨0x17, 0x17, .u32, .ro, 0, 0, .all⟩]

def rows5000b : List Row := [
  ⟨0x18, 0x18, .u32, .ro, 0, 0, .all⟩,
  ⟨0x19, 0x19, .u32, .ro, 0, 0, .all⟩,
  ⟨0x1A, 0x1A, .u16, .ro, 0, 0, .all⟩,
  ⟨0x1B, 0x1B, .u64, .ro, 0, 0, .all⟩,
  ⟨0x1C, 0x1C, .u32, .ro, 0, 0, .all⟩,
  ⟨0x1D, 0x1D, .u32, .ro, 0, 0, .all⟩,
  ⟨0x1E, 0x1E, .u32, .ro, 0, 0, .all⟩,
  ⟨0x1F, 0x1F, .u64, .ro, 0, 0, .all⟩,
  ⟨0x20, 0x20, .u32, .ro, 0, 0, .all⟩,
  ⟨0x21, 0x21, .u32, .ro, 0, 0, .all⟩,
  ⟨0x22, 0x22, .u32, .ro, 0, 0, .all⟩,
  ⟨0x23, 0x23, .u64, .ro, 0, 0, .all⟩,
  ⟨0x24, 0x24, .u16, .ro, 0, 0, .all⟩,
  ⟨0x25, 0x25, .u16, .ro, 0, 0, .all⟩,
  ⟨0x26, 0x26, .u16, .ro, 0, 0, .all⟩,
  ⟨0x27, 0x27, .u16, .ro, 0, 0, .all⟩,
  ⟨0x28, 0x28, .u8, .rp, 1, 0, .int 0 1⟩,
  ⟨0x29, 0x29, .u64, .ro, 0, 0, .all⟩,
  ⟨0x2A, 0x2A, .u32, .ro, 0, 0, .all⟩]

def rows5000 : List Row := rows5000a ++ rows5000b

/-- Entries of 5010 to 502F (Table 13.16). -/
def rows5010 : List Row := [
  ⟨0x00, 0x00, .u8, .ro, 11, 0, .all⟩,
  ⟨0x01, 0x01, .u8, .ro, 0, 0, .all⟩,
  ⟨0x02, 0x02, .u32, .ro, 0, 0, .all⟩,
  ⟨0x03, 0x03, .u32, .ro, 0, 0, .all⟩,
  ⟨0x04, 0x04, .u32, .ro, 0, 0, .all⟩,
  ⟨0x05, 0x05, .u32, .ro, 0, 0, .all⟩,
  ⟨0x06, 0x06, .i16, .ro, 0, 0, .all⟩,
  ⟨0x07, 0x07, .u8, .ro, 1, 0, .all⟩,
  ⟨0x08, 0x08, .u16, .ro, 0, 0, .all⟩,
  ⟨0x09, 0x09, .u64, .ro, 0, 0, .all⟩,
  ⟨0x0A, 0x0A, .u32, .ro, 0, 0, .all⟩,
  ⟨0x0B, 0x0B, .u32, .ro, 0, 0, .all⟩]

/-- Entries of 5100 (Table 13.16). -/
def rows5100 : List Row := [
  ⟨0x00, 0x00, .u8, .ro, 13, 0, .all⟩,
  ⟨0x01, 0x01, .u16, .ro, 8192, 0, .all⟩,
  ⟨0x02, 0x02, .u16, .ro, 432, 0, .all⟩,
  ⟨0x03, 0x03, .u16, .ro, 0, 0, .all⟩,
  ⟨0x04, 0x04, .u16, .ro, 0, 0, .all⟩,
  ⟨0x05, 0x05, .u64, .ro, 0, 0, .all⟩,
  ⟨0x06, 0x06, .u32, .ro, 0, 0, .all⟩,
  ⟨0x07, 0x07, .u32, .ro, 0, 0, .all⟩,
  ⟨0x08, 0x08, .u32, .ro, 0, 0, .all⟩,
  ⟨0x09, 0x09, .u32, .ro, 0, 0, .all⟩,
  ⟨0x0A, 0x0A, .u8, .ro, 0, 0, .all⟩,
  ⟨0x0B, 0x0B, .u8, .ro, 0, 0, .all⟩,
  ⟨0x0C, 0x0C, .u16, .ro, 0, 0, .all⟩,
  ⟨0x0D, 0x0D, .u16, .ro, 0, 0, .all⟩]

/-- Entries of 6000 (Table 14.16). -/
def rows6000 : List Row := [
  ⟨0x00, 0x00, .u8, .ro, 7, 0, .all⟩,
  ⟨0x01, 0x01, .u32, .ro, 0, 0, .all⟩,
  ⟨0x02, 0x02, .u16, .ro, 0, 0, .all⟩,
  ⟨0x03, 0x03, .u64, .ro, 0, 0, .all⟩,
  ⟨0x04, 0x04, .u16, .ro, 0, 0, .all⟩,
  ⟨0x05, 0x05, .u32, .ro, 0, 0, .all⟩,
  ⟨0x06, 0x06, .u64, .ro, 0, 0, .all⟩,
  ⟨0x07, 0x07, .u32, .ro, 0, 0, .all⟩]

/-- Entries of 6001 to 6FFF (Table 14.16). -/
def rows6001 : List Row := [
  ⟨0x00, 0x00, .u8, .ro, 17, 0, .all⟩,
  ⟨0x01, 0x01, .u32, .rs, 4294967295, 0, .intOr 0 262143 [4294967295]⟩,
  ⟨0x02, 0x02, .u8, .ro, 0, 0, .all⟩,
  ⟨0x03, 0x03, .u8, .rs, 0, 0, .int 0 1⟩,
  ⟨0x04, 0x04, .u16, .rs, 32, 0, .ints [16, 32, 64]⟩,
  ⟨0x05, 0x05, .u32, .rs, 1024, 0, .ints [64, 128, 256, 512, 1024, 2048, 4096, 8192, 16384, 32768, 65536]⟩,
  ⟨0x06, 0x06, .u64, .rs, 0, 0, .all⟩,
  ⟨0x07, 0x07, .u64, .rs, 0, 0, .all⟩,
  ⟨0x08, 0x08, .u16, .rs, 65535, 0, .intOr 64 2047 [65535]⟩,
  ⟨0x09, 0x09, .u16, .rs, 0, 0, .int 0 10000⟩,
  ⟨0x0A, 0x0A, .u8, .rs, 0, 0, .int 0 1⟩,
  ⟨0x0B, 0x0B, .u32, .ro, 0, 0, .all⟩,
  ⟨0x0C, 0x0C, .u32, .ro, 0, 0, .all⟩,
  ⟨0x0D, 0x0D, .u32, .ro, 0, 0, .all⟩,
  ⟨0x0E, 0x0E, .u16, .ro, 0, 0, .all⟩,
  ⟨0x0F, 0x0F, .u64, .ro, 0, 0, .all⟩,
  ⟨0x10, 0x10, .u32, .ro, 0, 0, .all⟩,
  ⟨0x11, 0x11, .u8, .ro, 0, 0, .all⟩]

/-- Entries of 7000 (Table 14.17). -/
def rows7000a : List Row := [
  ⟨0x00, 0x00, .u8, .ro, 25, 0, .all⟩,
  ⟨0x01, 0x01, .u8, .rp, 2, 0, .int 0 2⟩,
  ⟨0x02, 0x02, .u8, .rp, 2, 0, .int 0 2⟩,
  ⟨0x03, 0x03, .u8, .rp, 1, 0, .int 0 2⟩,
  ⟨0x04, 0x04, .u8, .rp, 1, 0, .int 0 2⟩,
  ⟨0x05, 0x05, .u8, .rp, 1, 0, .int 0 2⟩,
  ⟨0x06, 0x06, .u8, .rp, 2, 0, .int 0 2⟩,
  ⟨0x07, 0x07, .u32, .ro, 0, 0, .all⟩,
  ⟨0x08, 0x08, .u32, .ro, 0, 0, .all⟩,
  ⟨0x09, 0x09, .u64, .ro, 0, 0, .all⟩,
  ⟨0x0A, 0x0A, .blob, .ro, 0, 0, .all⟩,
  ⟨0x0B, 0x0B, .u16, .rp, 16, 0, .all⟩,
  ⟨0x0C, 0x0C, .u16, .rp, 16, 0, .all⟩,
  ⟨0x0D, 0x0D, .u32, .rp, 0, 0, .all⟩,
  ⟨0x0E, 0x0E, .u32, .rp, 0, 0, .all⟩,
  ⟨0x0F, 0x0F, .u8, .ro, 0, 0, .all⟩,
  ⟨0x10, 0x10, .u64, .ro, 0, 0, .all⟩,
  ⟨0x11, 0x11, .u64, .ro, 0, 0, .all⟩,
  ⟨0x12, 0x12, .u64, .ro, 0, 0, .all⟩,
  ⟨0x13, 0x13, .u64, .ro, 0, 0, .all⟩,
  ⟨0x14, 0x14, .u64, .ro, 0, 0, .all⟩,
  ⟨0x15, 0x15, .f32, .ro, 1065353216, 0, .all⟩,
  ⟨0x16, 0x16, .u8, .wo, 0, 0, .int 1 1⟩,
  ⟨0x17, 0x17, .u32, .ro, 0, 0, .all⟩]

def rows7000b : List Row := [
  ⟨0x18, 0x18, .u64, .ro, 0, 0, .all⟩,
  ⟨0x19, 0x19, .u32, .ro, 0, 0, .all⟩]

def rows7000 : List Row := rows7000a ++ rows7000b

/-- Entries of 7020 to 703F (Table 14.18). -/
def rows7020 : List Row := [
  ⟨0x00, 0x00, .u8, .ro, 5, 0, .all⟩,
  ⟨0x01, 0x01, .u64, .ro, 0, 0, .all⟩,
  ⟨0x02, 0x02, .u64, .ro, 0, 0, .all⟩,
  ⟨0x03, 0x03, .u64, .ro, 0, 0, .all⟩,
  ⟨0x04, 0x04, .blob, .ro, 0, 0, .all⟩,
  ⟨0x05, 0x05, .u64, .ro, 0, 0, .all⟩]

/-- Entries of 7040 to 704F (Table 14.19). -/
def rows7040 : List Row := [
  ⟨0x00, 0x00, .u8, .ro, 3, 0, .all⟩,
  ⟨0x01, 0x01, .u8, .rp, 255, 0, .intOr 0 5 [255]⟩,
  ⟨0x02, 0x02, .u64, .rp, 18446744073709551615, 0, .all⟩,
  ⟨0x03, 0x03, .u32, .ro, 0, 0, .all⟩]

/-- Entries of 7100 (Table 14.20). -/
def rows7100 : List Row := [
  ⟨0x00, 0x00, .u8, .ro, 13, 0, .all⟩,
  ⟨0x01, 0x01, .u64, .ro, 0, 0, .all⟩,
  ⟨0x02, 0x02, .blob, .ro, 0, 0, .all⟩,
  ⟨0x03, 0x03, .u64, .ro, 0, 0, .all⟩,
  ⟨0x04, 0x04, .u64, .ro, 0, 0, .all⟩,
  ⟨0x05, 0x05, .blob, .ro, 0, 0, .all⟩,
  ⟨0x06, 0x06, .u32, .ro, 0, 0, .all⟩,
  ⟨0x07, 0x07, .u8, .wo, 0, 0, .int 1 1⟩,
  ⟨0x08, 0x08, .u32, .ro, 0, 0, .all⟩,
  ⟨0x09, 0x09, .u8, .rp, 1, 0, .int 0 4⟩,
  ⟨0x0A, 0x0A, .u8, .rw, 0, 0, .int 0 0⟩,
  ⟨0x0B, 0x0B, .u32, .rp, 0, 0, .all⟩,
  ⟨0x0C, 0x0C, .u8, .ro, 0, 0, .all⟩,
  ⟨0x0D, 0x0D, .u64, .rp, 0, 0, .all⟩]

/-- Entries of 7F00 (Table 14.21). -/
def rows7F00 : List Row := [
  ⟨0x00, 0x00, .u8, .ro, 13, 0, .all⟩,
  ⟨0x01, 0x01, .blob, .rs, 0, 0, .len 12582912⟩,
  ⟨0x02, 0x02, .u8, .rp, 0, 0, .int 0 1⟩,
  ⟨0x03, 0x03, .u8, .wo, 0, 0, .int 1 1⟩,
  ⟨0x04, 0x04, .u8, .wo, 0, 0, .int 1 1⟩,
  ⟨0x05, 0x05, .u8, .ro, 33, 0, .all⟩,
  ⟨0x06, 0x06, .u32, .rp, 600, 0, .int 0 86400⟩,
  ⟨0x07, 0x07, .u32, .ro, 0, 0, .all⟩,
  ⟨0x08, 0x08, .u32, .ro, 0, 0, .all⟩,
  ⟨0x09, 0x09, .u32, .ro, 0, 0, .all⟩,
  ⟨0x0A, 0x0A, .u8, .ro, 0, 0, .all⟩,
  ⟨0x0B, 0x0B, .bool, .ro, 0, 0, .all⟩,
  ⟨0x0C, 0x0C, .u32, .ro, 0, 0, .all⟩,
  ⟨0x0D, 0x0D, .u32, .ro, 0, 0, .all⟩]

/-- Entries of 7F40 (Table 9.14). -/
def rows7F40 : List Row := [
  ⟨0x00, 0x00, .u8, .ro, 14, 0, .all⟩,
  ⟨0x01, 0x01, .blob, .ro, 0, 0, .all⟩,
  ⟨0x02, 0x02, .blob, .ro, 0, 0, .all⟩,
  ⟨0x03, 0x03, .blob, .ro, 0, 0, .all⟩,
  ⟨0x04, 0x04, .blob, .ro, 0, 0, .all⟩,
  ⟨0x05, 0x05, .blob, .ro, 0, 0, .all⟩,
  ⟨0x06, 0x06, .blob, .ro, 0, 0, .all⟩,
  ⟨0x07, 0x07, .blob, .ro, 0, 0, .all⟩,
  ⟨0x08, 0x08, .u16, .rp, 800, 0, .int 400 1000⟩,
  ⟨0x09, 0x09, .u8, .rp, 4, 0, .int 0 12⟩,
  ⟨0x0A, 0x0A, .u16, .wo, 0, 0, .int 0 271⟩,
  ⟨0x0B, 0x0B, .blob, .ro, 0, 0, .all⟩,
  ⟨0x0C, 0x0C, .u32, .ro, 0, 0, .all⟩,
  ⟨0x0D, 0x0D, .u32, .ro, 0, 0, .all⟩,
  ⟨0x0E, 0x0E, .u32, .ro, 0, 0, .all⟩]

/-- Entries of 7F60 to 7F7F (Table 9.15). -/
def rows7F60 : List Row := [
  ⟨0x00, 0x00, .u8, .ro, 12, 0, .all⟩,
  ⟨0x01, 0x01, .u8, .ro, 0, 0, .all⟩,
  ⟨0x02, 0x02, .u16, .ro, 0, 0, .all⟩,
  ⟨0x03, 0x03, .u16, .ro, 0, 0, .all⟩,
  ⟨0x04, 0x04, .u64, .ro, 0, 0, .all⟩,
  ⟨0x05, 0x05, .u8, .ro, 0, 0, .all⟩,
  ⟨0x06, 0x06, .u8, .ro, 0, 0, .all⟩,
  ⟨0x07, 0x07, .i8, .ro, 0, 0, .all⟩,
  ⟨0x08, 0x08, .u64, .ro, 0, 0, .all⟩,
  ⟨0x09, 0x09, .u32, .ro, 0, 0, .all⟩,
  ⟨0x0A, 0x0A, .u32, .ro, 0, 0, .all⟩,
  ⟨0x0B, 0x0B, .u32, .ro, 0, 0, .all⟩,
  ⟨0x0C, 0x0C, .u32, .ro, 0, 0, .all⟩]

def groupsa : List (Nat × Nat × List Row) := [
  (0x1000, 0x1000, rows1000),
  (0x1100, 0x1100, rows1100),
  (0x1200, 0x1200, rows1200),
  (0x1201, 0x1201, rows1201),
  (0x1210, 0x1213, rows1210),
  (0x1218, 0x121F, rows1218),
  (0x1220, 0x123F, rows1220),
  (0x1240, 0x1240, rows1240),
  (0x1400, 0x1400, rows1400),
  (0x2000, 0x20FF, rows2000),
  (0x2100, 0x210F, rows2100),
  (0x2200, 0x221F, rows2200),
  (0x2300, 0x23FF, rows2300),
  (0x2400, 0x24FF, rows2400),
  (0x2500, 0x253F, rows2500),
  (0x2540, 0x257F, rows2540),
  (0x25F0, 0x25F0, rows25F0),
  (0x2600, 0x267F, rows2600),
  (0x2680, 0x269F, rows2680),
  (0x26F0, 0x26F0, rows26F0)]

def groupsb : List (Nat × Nat × List Row) := [
  (0x2700, 0x271F, rows2700),
  (0x27E0, 0x27E0, rows27E0),
  (0x27F0, 0x27FF, rows27F0),
  (0x2800, 0x281F, rows2800),
  (0x2820, 0x2841, rows2820),
  (0x2880, 0x288F, rows2880),
  (0x28F0, 0x28F0, rows28F0),
  (0x3000, 0x305F, rows3000),
  (0x3100, 0x3100, rows3100),
  (0x3110, 0x314F, rows3110),
  (0x3150, 0x316F, rows3150),
  (0x3800, 0x3800, rows3800),
  (0x3810, 0x382F, rows3810),
  (0x4000, 0x4000, rows4000),
  (0x4010, 0x4071, rows4010),
  (0x40F0, 0x40F0, rows40F0),
  (0x4100, 0x4100, rows4100),
  (0x4110, 0x411B, rows4110),
  (0x4120, 0x413F, rows4120),
  (0x4140, 0x415F, rows4140)]

def groupsc : List (Nat × Nat × List Row) := [
  (0x4200, 0x4200, rows4200),
  (0x5000, 0x5000, rows5000),
  (0x5010, 0x502F, rows5010),
  (0x5100, 0x5100, rows5100),
  (0x6000, 0x6000, rows6000),
  (0x6001, 0x6FFF, rows6001),
  (0x7000, 0x7000, rows7000),
  (0x7020, 0x703F, rows7020),
  (0x7040, 0x704F, rows7040),
  (0x7100, 0x7100, rows7100),
  (0x7F00, 0x7F00, rows7F00),
  (0x7F40, 0x7F40, rows7F40),
  (0x7F60, 0x7F7F, rows7F60)]

/-- The index groups of the dictionary. -/
def groups : List (Nat × Nat × List Row) := groupsa ++ groupsb ++ groupsc

/-- The group of an index. -/
def groupOf (index : Nat) : Option (Nat × Nat × List Row) :=
  groups.find? (fun g => g.1 ≤ index && index ≤ g.2.1)

/-- The row of an entry. -/
def rowOf (index sub : Nat) : Option Row :=
  match groupOf index with
  | none => none
  | some g => g.2.2.find? (fun r => r.s0 ≤ sub && sub ≤ r.s1)

/-- Defaults of the loop slot entries that depend on the slot's role (Tables 10.1, 10.12). -/
def slotDefault (s sub : Nat) : Option Int :=
  let k : Int := (s / 2 : Nat)
  let fast := s % 2 = 0
  if s < 64 then
    match sub with
    | 0x02 => some (if fast then 32 else 1)
    | 0x04 => some (if fast then 0x0A00 + k else 0x0200 + (s : Int))
    | 0x05 => some (if fast then 0x0900 + k else 0x0800 + k)
    | 0x0A => some (if fast then 0x0200 + (s : Int) else 0x0100 + (s : Int))
    | 0x1C => some 4
    | 0x29 => some s
    | _ => none
  else if s < 88 then
    match sub with
    | 0x02 => some 16
    | 0x29 => some s
    | _ => none
  else
    match sub with
    | 0x29 => some 0xFF
    | _ => none

/-- The bytes that a STR or BLOB holds by default. -/
def bytesDefault (index sub : Nat) : List Byte :=
  if index = 0x1000 && sub = 1 then ascii "Terdel Photonics"
  else if index = 0x1000 && sub = 2 then ascii "AP256"
  else if index = 0x40F0 && sub = 2 then
    List.replicate 544 0 ++ ((List.replicate 98 [0x00, 0x20]).flatten)
  else []

/-- The default of an entry (R40); 0 of an entry that is not implemented. -/
def dfltOf (index sub : Nat) : Val :=
  match groupOf index with
  | none => .num 0
  | some g =>
    match g.2.2.find? (fun r => r.s0 ≤ sub && sub ≤ r.s1) with
    | none => .num 0
    | some r =>
      match r.ty with
      | .str => .bytes (bytesDefault index sub)
      | .blob => .bytes (bytesDefault index sub)
      | _ =>
        match (if 0x3000 ≤ index && index ≤ 0x305F then slotDefault (index - 0x3000) sub else none) with
        | some z => .num z
        | none => .num (r.dflt + r.step * ((index - g.1 : Nat) : Int))

/-- The ranges of Table 2.7. -/
def inRangeMap (index : Nat) : Bool :=
  [(0x1000, 0x10FF), (0x1100, 0x11FF), (0x1200, 0x12FF), (0x1400, 0x14FF), (0x2000, 0x20FF), (0x2100, 0x210F),
   (0x2200, 0x221F), (0x2300, 0x23FF), (0x2400, 0x24FF), (0x2500, 0x25FF), (0x2600, 0x26FF), (0x2700, 0x27FF),
   (0x2800, 0x28FF), (0x3000, 0x305F), (0x3100, 0x31FF), (0x3800, 0x38FF), (0x4000, 0x40FF), (0x4100, 0x41FF),
   (0x4200, 0x42FF), (0x5000, 0x50FF), (0x5100, 0x51FF), (0x6000, 0x6FFF), (0x7000, 0x70FF), (0x7100, 0x71FF),
   (0x7F00, 0x7FFF)].any (fun r => r.1 ≤ index && index ≤ r.2)

/-- The access code of an entry; spare pool slots 3058 to 305F are read-only throughout (R339). -/
def accOf (index : Nat) (r : Row) : Acc :=
  if 0x3058 ≤ index && index ≤ 0x305F then .ro else r.acc

/-- The size of a fixed-size type (Table 2.1). -/
def sizeOf : Ty → Option Nat
  | .bool | .u8 | .i8 => some 1
  | .u16 | .i16 => some 2
  | .u32 | .i32 | .fix32 | .f32 => some 4
  | .u64 | .i64 => some 8
  | .time80 => some 10
  | .str | .blob => none

/-- The type code of Table 2.1. -/
def codeOf : Ty → Nat
  | .bool => 0x01
  | .u8 => 0x02
  | .u16 => 0x03
  | .u32 => 0x04
  | .u64 => 0x05
  | .i8 => 0x06
  | .i16 => 0x07
  | .i32 => 0x08
  | .i64 => 0x09
  | .fix32 => 0x0A
  | .f32 => 0x0B
  | .time80 => 0x0C
  | .str => 0x0D
  | .blob => 0x0E

/-- The shortest period of a periodic subscription to an entry, in ms (R70 and the last rules of the chapters). -/
def minPeriod (index sub : Nat) : Nat :=
  if 0x2200 ≤ index && index ≤ 0x221F && (sub = 0x16 || sub = 0x1E) then 1
  else if 0x2500 ≤ index && index ≤ 0x253F && (sub = 0x16 || sub = 0x17) then 100
  else if ((0x2000 ≤ index && index ≤ 0x20FF) || (0x27F0 ≤ index && index ≤ 0x27FF)) && (sub = 0x14 || sub = 0x15) then 1000
  else if 0x2800 ≤ index && index ≤ 0x281F && sub = 0x15 then 10
  else if index = 0x7F40 && 4 ≤ sub && sub ≤ 7 then 100
  else if 0x3150 ≤ index && index ≤ 0x316F && (sub = 1 || sub = 2 || sub = 5 || sub = 6) then 10
  else if 0x3810 ≤ index && index ≤ 0x382F && (sub = 8 || sub = 9) then 10
  else if (index = 0x4100 && sub = 1) || (0x4110 ≤ index && index ≤ 0x411B && sub = 1) ||
      (0x4120 ≤ index && index ≤ 0x413F && sub = 6) || (0x4140 ≤ index && index ≤ 0x415F && sub = 6) then 8
  else if 0x5010 ≤ index && index ≤ 0x502F && sub = 0x0A then 1000
  else if (index = 0x7000 && 0x10 ≤ sub && sub ≤ 0x15) || (0x7020 ≤ index && index ≤ 0x703F && 1 ≤ sub && sub ≤ 3) then 1000
  else if index = 0x4200 && 9 ≤ sub && sub ≤ 0x14 then 100
  else 1

/-- The least time in ms between publications of an entry's changes (R70 and the owning chapters). -/
def changePeriod (index sub : Nat) : Nat :=
  if 0x2700 ≤ index && index ≤ 0x271F && (sub = 0x17 || sub = 0x18) then 1000
  else if (index = 0x4100 && (sub = 2 || sub = 3)) || (0x4140 ≤ index && index ≤ 0x415F && sub = 7) ||
      (0x4010 ≤ index && index ≤ 0x4071 && sub = 4) then 10
  else 1

end Sys2Proof.Machine
end

