-- ==== Sys2Proof/Machine/State.lean ====
section
/-! DEFINITION. The state of the AP256: plain data. Every dictionary entry has ONE home: either the sparse map
`dict` (a key is index × 256 + sub-index; an unlisted key reads as the entry's default) or a field below from which
reads compute it. What the spec gives the part besides its entries is held in one table per kind of unit. Times are
held in 2⁻¹⁶ ns (`tai`, `up`), in slots, or in 1/64 slot, as each docstring says. -/

namespace Sys2Proof.Machine

open Sys2Proof

/-- Why a command can stop the model. -/
inductive Fault where
  /-- MEMORY_REQUEST names an address outside the region of its class (R438 to R440, Table 13.2): the spec says the
  address does not exist. Safe: the model stops where the part's answer is not given. -/
  | noSuchAddress
  deriving DecidableEq, Repr

/-- Why a command can have no meaning in the model. -/
inductive Refusal where
  /-- The command named by its mnemonic has no meaning yet. Safe. -/
  | notModelled (mnemonic : String)
  deriving DecidableEq, Repr

/-! ### Ozilo -/

/-- A message the dictionary service has answered and keeps (R59). -/
structure Kept where
  seq : Nat
  response : List Byte
  deriving DecidableEq, Repr

/-- A staged value; `finished` is false for an unfinished segmented copy (R53). -/
structure Staged where
  key : Nat
  val : Val
  finished : Bool
  deriving DecidableEq, Repr

/-- A subscription (R70): period in ms, 0 on change; the value last published, or live when it was made; the uptime of its
last publication, and the frame of the entry's course that it was made in (R161, R303). -/
structure Sub where
  key : Nat
  period : Nat
  shown : Val
  sent : Option (Nat × Nat) := none
  deriving DecidableEq, Repr

/-- One master (R54 to R71). -/
structure Master where
  /-- A request has arrived since START (1100:05). R77 -/
  seen : Bool := false
  /-- IPv4 address and UDP port, for masters 65 up. R54 -/
  addr : Option (Nat × Nat) := none
  /-- Last accepted sequence. R59 -/
  last : Option Nat := none
  /-- The responses to the last 8 accepted requests, oldest first. R59 -/
  kept : List Kept := []
  /-- The stage set, in the order of first staging. R62 -/
  stage : List Staged := []
  /-- Subscriptions. R70 -/
  subs : List Sub := []
  /-- Publication sequence. R71 -/
  pubSeq : Nat := 0
  /-- 1400:05 of this master. R69 -/
  lastCommit : Nat := 0
  /-- The commit that 1400:05 reports, while it is pending. R69 -/
  lastId : Option Nat := none
  /-- 1400:06 of this master. R64 -/
  firstFail : Nat := 0
  deriving DecidableEq, Repr

/-- The class of an item by Table 2.6a. -/
inductive ItemClass where
  | device
  | frame (k : Nat)
  | restart (k : Nat)
  | peg (k : Nat)
  | request (k : Nat)
  deriving DecidableEq, Repr

/-- One item of an accepted commit, with its class (R65). `after` is set when the commit arrived after the course's
fence, so that the coming frame start is passed over. -/
structure Todo where
  key : Nat
  val : Val
  cls : ItemClass
  after : Bool
  /-- A flip that the fence of its course has decided. R188, R193 -/
  fenced : Bool := false
  deriving DecidableEq, Repr

/-- An accepted commit whose items have not all applied (R65, R67). -/
structure Pending where
  id : Nat
  /-- The master that made it; 2¹⁴, no master's number, once that one is forgotten. R55 -/
  master : Nat
  /-- The commit comes from a spare policy (R505), so 1400:05 never shows it. -/
  policy : Bool
  selector : Nat
  frame : Nat
  time : Nat
  todo : List Todo
  /-- Some item was dropped by R67. -/
  superseded : Bool
  deriving DecidableEq, Repr

/-- One context of the PCIe dictionary window (R56): the response area, the ready word, and what waits for it. -/
structure PcieCtx where
  response : List Byte := []
  ready : Nat := 0
  /-- Responses waiting for the area, oldest first; each with whether its request counts as outstanding. R58, R540 -/
  queued : List (Bool × List Byte) := []
  /-- Publications waiting for the ready word, one per entry. -/
  waiting : List (Nat × List Byte) := []
  deriving DecidableEq, Repr

/-- The dictionary service (R38 to R78). -/
structure OzSt where
  /-- Masters by number. R54 -/
  masters : Tab Master := []
  /-- Accepted commits not yet fully applied, oldest first. R65, R68 -/
  commits : List Pending := []
  /-- Number of the next commit taken (serialisation order of R67). R67 -/
  nextId : Nat := 0
  /-- The PCIe dictionary window's contexts. R56 -/
  ctx : Tab PcieCtx := []
  /-- Responses waiting on the maintenance SPI port, oldest first; each with whether its request counts as outstanding. R57 -/
  spi : List (Bool × List Byte) := []
  /-- New address entries wait for the response that carries them. R78 -/
  addrPending : Bool := false
  /-- The address and port in force: 1100:01 to :04 as last taken up. R78 -/
  addrInForce : List Nat := [0, 0, 0, 41620]
  /-- A reset of code 4 waits for its response to be sent. R525 -/
  resetPending : Bool := false
  /-- Responses to the items executed by commands READ to UNSUBSCRIBE: (op, item, status, value). R51 -/
  answered : List (Nat × Item × Nat × List Byte) := []
  deriving DecidableEq, Repr

/-! ### Persistent store -/

/-- One persistent write, in order (R44, R45, R471). -/
structure PWrite where
  key : Nat
  val : Val
  /-- Bytes it takes in the holding of R45. -/
  size : Nat
  deriving DecidableEq, Repr

/-- The persistent store and its controller (R469 to R473). Clock domain 24 is not reset by R523. -/
structure StoreSt where
  /-- Persisted values. R42 -/
  image : Tab Val := []
  /-- Writes made and not yet through the journal, oldest first; the first is under way. R471 -/
  under : List PWrite := []
  /-- Writes held by R45, oldest first. R45 -/
  held : List PWrite := []
  /-- Journal sequence. R471 -/
  seq : Nat := 0
  /-- Persistence state, 7100:0A (Table 2.3). R47 -/
  pstate : Nat := 0
  /-- 7100:0A is to read 3 at the next start. R47 -/
  lost : Bool := false
  /-- Writes committed, 5100:05; refused, 5100:07; cut, 5100:08; critical entries refused, 7100:08. R46, R472, R511 -/
  writes : Nat := 0
  refusals : Nat := 0
  cuts : Nat := 0
  criticalRefused : Nat := 0
  /-- Die shut-down has stopped the store controller. R472 -/
  stopped : Bool := false
  /-- Firmware slots 0 and 1: the image in each; its state (5100:0A, :0B), `none` while it is as the part was delivered.
  R470 -/
  slots : List (List Byte) := [[], []]
  slotStates : List (Option Nat) := [none, none]
  /-- Blocks remapped, and blocks with reads corrected, by block number. R469 -/
  remapped : List Nat := []
  /-- Critical log positions, in order of position; frozen half and ring half. R511 -/
  critical : Tab (List Byte) := []
  /-- Entries written since the last clear, not saturating. R511 -/
  criticalNext : Nat := 0
  /-- DRAM repair list: (channel, row address, permanent). R466, R470 -/
  repairs : List (Nat × Nat × Bool) := []
  deriving DecidableEq, Repr

/-! ### Clocks, time base and references -/

/-- Clocks and time (R79 to R82, R105, R124, R125). -/
structure ClkSt where
  /-- Time base since the PTP epoch, in 2⁻¹⁶ ns; the first of the two slots of its present cycle has passed. R79 -/
  tai : Nat := 0
  half : Bool := false
  /-- Time counted since the model's beginning, in 2⁻¹⁶ ns, and its value at the latest START: uptime, 7100:01, is their
  difference. R509 -/
  up : Nat := 0
  began : Nat := 0
  /-- What the latest slot has left over of 2⁻¹⁶ ns of uptime, in parts of the steered slot (log 2). R80 -/
  rest : Nat := 0
  /-- The slot counter of every lane. R124 -/
  slot : Nat := 0
  /-- The slot domain runs. R124, R125 -/
  slotRun : Bool := false
  /-- REFCLK is present. R30 -/
  refclk : Bool := true
  /-- Time counted by the safety domain since the loss of REFCLK, in 2⁻¹⁶ ns. R105 -/
  elapsed : Nat := 0
  /-- Slot number and time base at the loss of REFCLK. R105, R125 -/
  lossSlot : Nat := 0
  lossTai : Nat := 0
  deriving DecidableEq, Repr

/-- A foreign-master record (R84). -/
structure Foreign where
  port : Nat
  a : Announce
  /-- Uptime of its latest Announce, in 2⁻¹⁶ ns. -/
  heard : Nat
  deriving DecidableEq, Repr

/-- The time-base servo and PTP (R83 to R88). -/
structure ServoSt where
  /-- Frequency correction c, in ppb. R85 -/
  c : Rat := 0
  /-- Integral term i. R85 -/
  integ : Rat := 0
  /-- Uptime of the last Sync, in 2⁻¹⁶ ns. R85 -/
  lastSync : Option Nat := none
  /-- Consecutive Syncs within the lock threshold. Table 3.2 -/
  lockRun : Nat := 0
  /-- Consecutive Syncs above the step threshold in LOCKED. R87 -/
  jumpRun : Nat := 0
  /-- Consecutive offsets within the step threshold in HOLDOVER. R88 -/
  backRun : Nat := 0
  /-- Syncs seen in HOLDOVER EXPIRED since a master was selected. R88 -/
  expiredSyncs : Nat := 0
  /-- HOLDOVER was entered from ACQUIRING. R88 -/
  fromAcquiring : Bool := false
  /-- A master is selected. Table 3.2 -/
  selected : Bool := false
  /-- Uptime of the entry to HOLDOVER. 1200:0C. R117 -/
  holdSince : Nat := 0
  /-- Foreign masters heard on each port. R84 -/
  foreign : List Foreign := []
  deriving DecidableEq, Repr

/-- One SYNC_IN input beyond its entries (R95, R96). Times are time-base values. -/
structure SyncSt where
  /-- Predicted time of the next edge. -/
  predicted : Option Nat := none
  /-- Time of the last accepted edge. -/
  last : Option Nat := none
  /-- Predicted edges passed without an accepted one. -/
  missed : Nat := 0
  /-- Consecutive edges within the window while not valid. -/
  good : Nat := 0
  /-- Line edges since the last edge of the frame marker. -/
  lines : Nat := 0
  /-- Uptime of the entry to holdover, for F4. -/
  holdSince : Nat := 0
  deriving DecidableEq, Repr

/-- One shaft channel beyond its entries (R97). -/
structure ShaftSt where
  /-- Last accepted levels of A and B. -/
  a : Bool := false
  b : Bool := false
  /-- Z has been active and sets the position at the next count. -/
  zPending : Bool := false
  /-- A first SSI poll, or a first index pulse, has fixed the position. -/
  certain : Bool := false
  /-- Uptime of the last count or poll, in 2⁻¹⁶ ns. -/
  last : Nat := 0
  /-- Counts of the last 1 ms: (uptime, change). 1218:0F -/
  recent : List (Nat × Int) := []
  /-- Time base at the last rise and the last fall of A, and the duty of its last full cycle in 2⁻³¹. Table 10.2 kind 0x06 -/
  rise : Option Nat := none
  fall : Option Nat := none
  duty : Nat := 0
  /-- Data of the last SSI poll whose frame was good, and its time base. R97, R98 -/
  poll : Option Nat := none
  polledAt : Nat := 0
  deriving DecidableEq, Repr

/-- A frame start request that is held (R91), with the counter it carries for PTP; or a repeat frame (R99). `at_` is its time,
in 2⁻¹⁶ ns of the time base; `waits` is set where it found active bows to emit or the minimum flyback not passed. -/
structure FrameReq where
  counter : Option Nat
  isRepeat : Bool := false
  at_ : Nat := 0
  waits : Bool := false
  deriving DecidableEq, Repr

/-- The frame generator of one course (R90 to R105, R154). -/
structure FrameSt where
  /-- A frame is in progress. -/
  running : Bool := false
  /-- A request that has arrived and has not started a frame. R91 -/
  held : Option FrameReq := none
  /-- Times of requests of a SYNC_IN course whose phase offset has not passed yet, in 2⁻¹⁶ ns. Table 3.3 -/
  coming : List Nat := []
  /-- The course emits dark flyback bows until the next allowed frame start. R92 -/
  realigning : Bool := false
  /-- The fence of the frame in progress has been passed. R154 -/
  fenced : Bool := false
  /-- Active bows of the frame begun so far. R150 -/
  begun : Nat := 0
  /-- The last active bow of the frame has ended: flyback; the slot at which it ended. R151 -/
  flyback : Bool := true
  lastEnd : Option Rat := none
  /-- Last shaft frame number. R98 -/
  shaftN : Option Int := none
  /-- Content-follow: d and acc, and holdover. R100 -/
  d : Rat := 0
  acc : Rat := 0
  cfHold : Bool := false
  /-- Time base at the last frame start, in 2⁻¹⁶ ns. 1220 + k:11 -/
  startTai : Nat := 0
  /-- The frame in progress is a repeat frame. R99 -/
  isRepeat : Bool := false
  /-- A frame has started and its bow 0 has not begun. R158 -/
  fresh : Bool := false
  /-- Time base, in 2⁻¹⁶ ns, when the latest fence was passed. R100 -/
  fenceTai : Option Nat := none
  deriving DecidableEq, Repr

/-- A consort peer (R108): node, consort, serial, rate, bows per frame, resonances. -/
structure Peer where
  consort : Nat
  node : Nat
  serial : Nat
  num : Nat
  den : Nat
  bows : Nat
  low : Nat
  high : Nat
  present : Bool
  deriving DecidableEq, Repr

/-- Consort beacons (R106 to R110). -/
structure BeaconSt where
  /-- Peers heard. R108 -/
  peers : List Peer := []
  /-- Beacon sequence of this device. Table 3.5 -/
  seq : Nat := 0
  deriving DecidableEq, Repr

/-! ### Bow model, placement, lanes -/

/-- A bow model snapshot (R131). Times in slots. -/
structure Snapshot where
  bow : Nat
  forward : Bool
  c : Rat
  hp : Rat
  a : Rat
  setPoint : Rat
  state : Nat
  deriving DecidableEq, Repr

/-- What the model keeps of a past bow: its mid, if it had a valid pair, and its centre (R130). -/
structure BowHist where
  mid : Option Rat
  c : Rat
  deriving DecidableEq, Repr

/-- The bow model of one course (R126 to R133, R542). -/
structure BowSt where
  /-- The model has an estimate. R542 -/
  seeded : Bool := false
  /-- Half period, amplitude and centre of the latest bow with an estimate. R130 -/
  hp : Rat := 0
  a : Rat := 0
  /-- The bow in progress, and its direction. R128 -/
  bow : Nat := 0
  forward : Bool := true
  /-- The bow before and the bow two before. R130 -/
  prev1 : Option BowHist := none
  prev2 : Option BowHist := none
  /-- Model centre of the bow in progress. R132 -/
  c : Rat := 0
  /-- First stamp of the bow in progress: upper level, time in 1/64 slot. R128 -/
  stamp : Option (Bool × Nat) := none
  /-- Direction that the stamps of the bow in progress gave. R128 -/
  stampForward : Option Bool := none
  /-- Mid of the bow in progress, if it had a valid pair. R129 -/
  mid : Option Rat := none
  /-- The bow in progress has updated the model; it has given a rejection. R130 -/
  updated : Bool := false
  rejected : Bool := false
  /-- Consecutive bows toward the 16 of Table 4.1. -/
  run : Nat := 0
  /-- Consecutive rejections. R542 -/
  rejRun : Nat := 0
  /-- The latest published snapshot. R131 -/
  snap : Option Snapshot := none
  /-- Sense level in force for stamps. R158 -/
  lev : Nat := 100000000
  deriving DecidableEq, Repr

/-- Why a bow is dark: the ledger cause codes of Table 14.6. -/
abbrev DarkCause := Nat

/-- The placement of one bow on one lane (R141, R143): the symbol of each fret in order, then the bridge. -/
structure LanePlan where
  lane : Nat
  string : Nat
  /-- Slot, phase and level of each fret that took a slot. -/
  symbols : List (Nat × Nat × Nat)
  nutSlot : Nat
  bridgeSlot : Nat
  bridgePhase : Nat
  /-- This lane carries a harmonic in the nut band, the bridge band. R278 -/
  nutHarmonic : Bool
  bridgeHarmonic : Bool
  deriving DecidableEq, Repr

/-- A harmonic placed in a bow (R278 to R282). -/
structure PlacedHarmonic where
  lane : Nat
  string : Nat
  bridgeBand : Bool
  level : Nat
  /-- Its probe frets and its gain frets. R279, R281 -/
  probeFrets : List Nat
  gainFrets : List Nat
  tuning : Bool
  /-- Its last probe slot. X1 -/
  lastSlot : Nat
  /-- Slot and phase of its first probe symbol, as 16 × slot + phase. R415 -/
  firstAt : Option Nat := none
  /-- Void cause X1 to X7 as 1 to 7, 0 none. R282 -/
  void : Nat
  deriving DecidableEq, Repr

/-- What the samples of a bow are referred to: the angles of its map's frets and bridge, its bands' sizes, and the fiducial table and
window of its course (R277, R281, R287). -/
structure BowMarks where
  angles : List Int := []
  nutBand : Nat := 0
  bridgeBand : Nat := 0
  table : List Byte := []
  window : Nat := 0
  deriving DecidableEq, Repr

/-- A bow as placed (R141, R156). -/
structure PlacedBow where
  bow : Nat
  forward : Bool
  /-- The index among the active bows of its frame, if it is one. R150 -/
  active : Option Nat
  /-- Placed dark, and why. R134, R427 -/
  dark : Option DarkCause
  c : Rat
  hp : Rat
  a : Rat
  plans : List LanePlan
  harmonics : List PlacedHarmonic
  modelState : Nat
  /-- Once it has ended: its span was opened, and its first dark slot and cause if it was cut. R492 -/
  emitted : Bool
  cut : Option (Nat × DarkCause)
  marks : BowMarks := {}
  deriving DecidableEq, Repr

/-- Placement of one course (R141 to R156, R278 to R284). -/
structure PlaceSt where
  /-- The bow placed for the next bow. -/
  next : Option PlacedBow := none
  /-- The bow in progress. -/
  cur : Option PlacedBow := none
  /-- The bow before, for capture and records. -/
  last : Option PlacedBow := none
  /-- The bow in progress opened its span at its nut; its nut has been passed. -/
  opened : Bool := false
  /-- What its spans have sent is counted. R379, R380 -/
  counted : Bool := false
  nutPassed : Bool := false
  /-- The course was LIT when the bow in progress began. R492 -/
  lit : Bool := false
  /-- First dark slot and cause of a cut in the bow in progress. R321, R492 -/
  cut : Option (Nat × DarkCause) := none
  /-- A transition into HUSHED that no bow's record has recorded yet: slot, bow, cause. R28 -/
  hushed : Option (Nat × Nat × DarkCause) := none
  /-- Harmonic buckets: colour, fiducial. R283 -/
  colourCredit : Rat := 16
  fiducialCredit : Rat := 16
  /-- Emitters last served in turn: colour, fiducial, tuning. R283 -/
  colourTurn : Nat := 0
  fiducialTurn : Nat := 0
  tuningTurn : Nat := 0
  /-- Uptime at which the buckets were last filled. R283 -/
  filled : Nat := 0
  /-- A bounded slice for tuning is owed. R284 -/
  slice : Bool := false
  /-- The bows that were rendered when the bow in progress began: of the coming frame or not, active index. R222 -/
  rendered : List (Bool × Nat) := []
  /-- The next frame bow number that is bow 0. R150 -/
  firstBow : Option Nat := none
  /-- The course engine has faulted: bows are placed dark until the next frame start. RS10 -/
  restart : Bool := false
  deriving DecidableEq, Repr

/-- The latest HUSH burst of a lane: its first block position, or that of the burst it restarted, and its cause (R319, R320,
Y4). -/
structure Burst where
  bh : Nat
  cause : Nat
  deriving DecidableEq, Repr

/-- What a block of a transmit queue will carry (R307, R310): data; a DRONE, whose fields are those of the moment it leaves, and
whether it closes a span; an ALIGN, which carries its own block number; any other control block. -/
inductive TxKind where
  | data (payload : Nat)
  | drone (closing : Bool)
  | align
  | control (type fields : Nat)
  deriving DecidableEq, Repr

/-- A block in a lane's transmit queue (R156, R312): its position, and its place in the order of R312 and R320: 0 a span with the
control blocks around it, 1 HUSH copies, 2 DRONE, 3 ALIGN, 4 FRAME. -/
structure TxBlock where
  pos : Nat
  rank : Nat
  kind : TxKind
  deriving DecidableEq, Repr

/-- One string lane (R306 to R328, Table 9.9). -/
structure LaneSt where
  /-- Lane state of Table 9.9. 7F40:01 -/
  state : Nat := 0
  /-- Far-end state of Table 9.6; 0xFF not reported. 7F40:03 -/
  far : Nat := 0xFF
  /-- Declared latency, 0 not declared. 7F40:02 -/
  declared : Nat := 0
  /-- Declared latency taken at UP, applied at the next frame start. R316 -/
  newLatency : Option Nat := none
  /-- Control-block sequence. R308 -/
  seq : Nat := 0
  /-- The transmit queue, by rising position: what has not begun to leave the balls; IDLE fills the rest. R156, R312 -/
  txq : List TxBlock := []
  /-- The last 58 bits of scrambled payload, latest in bit 0. R306 -/
  scr : Nat := 0
  /-- Hush epoch. Table 9.5 -/
  epoch : Nat := 0
  /-- Epoch last reported by RET-LANE. Table 9.11 -/
  farEpoch : Nat := 0
  /-- Uptimes of retrains, latest first, counted from START or from the command that took it out of FAILED. Table 9.9 -/
  retrainTimes : List Nat := []
  /-- In RETRAIN: the 20 µs without transitions have ended. Table 9.9 -/
  quietDone : Bool := false
  /-- The retrain was caused by a far-end report (class 2), else quad PLL loss (1) or host command (3). R507 -/
  retrainClass : Nat := 0
  /-- The HUSH burst in progress. R319 -/
  burst : Option Burst := none
  /-- Counters 7F40:04, :05, :06, :07 and the far end's counter 7. R337 -/
  retrains : Nat := 0
  hushEvents : Nat := 0
  crcMismatches : Nat := 0
  invalidFar : Nat := 0
  clamped : Nat := 0
  /-- Output swing in mVppd, 7F40:08 as of the last lane lock; 0 before the first. R337 -/
  swing : Nat := 0
  /-- Return lanes that have reported this lane. R331 -/
  reporters : List Nat := []
  deriving DecidableEq, Repr

/-- A spare lane's switch-in (R334, R335, R543): the string it waits for, and whether the last fence decided it. -/
structure SpareSt where
  want : Option Nat := none
  decided : Bool := false
  /-- The commit of want has applied: 2100 + i:01 reads it. -/
  applied : Bool := false
  deriving DecidableEq, Repr

/-- One return lane beyond its entries (R330). -/
structure RetSt where
  /-- Consecutive valid blocks. R330 -/
  run : Nat := 0
  /-- The last 58 bits of payload as received, latest in bit 0. R306 -/
  scr : Nat := 0
  /-- Sequence of the last valid block; the gaps found in it. R308, R309 -/
  lastSeq : Option Nat := none
  gaps : Nat := 0
  /-- Return-lane receiver enabled. Table 9.10 -/
  enabled : Bool := false
  /-- Last RET-STATUS fields: locked, live, EMIT_OK, fault. Table 9.11 -/
  locked : Nat := 0
  live : Nat := 0
  emitOk : Bool := false
  fault : Bool := false
  deriving DecidableEq, Repr

/-- One ledger ring (R491): the latest records, oldest first: first dark slot, bow, cause, cut within a span. -/
structure LedgerRec where
  slot : Nat
  bow : Nat
  cause : Nat
  cut : Bool
  deriving DecidableEq, Repr

/-! ### Canvases, ingest, warp, fetch, render -/

/-- One canvas buffer (R168). -/
structure Buf where
  /-- State of Table 5.2. -/
  state : Nat
  /-- The zero-fill of R166 is still to finish. -/
  filling0 : Bool
  /-- Target selector and value: 0 none, 1 frame, 2 time (2⁻¹⁶ ns), 3 shaft frame. R189 -/
  targetKind : Nat
  target : Int
  /-- Order in which it became READY. R189 -/
  order : Nat
  /-- RTP timestamp of the frame it is filled with. R177 -/
  stamp : Option Nat
  /-- Flows that have completed their frame in it. R178 -/
  flows : List Nat
  deriving DecidableEq, Repr

/-- One canvas beyond its entries (R162 to R170, R189 to R195). -/
structure CanvasSt where
  bufs : List Buf := []
  nextOrder : Nat := 0
  /-- Timestamps of the last 16 frames whose buffers have left FILLING (log 167). R178 -/
  ended : List Nat := []
  deriving DecidableEq, Repr

/-- A frame of a flow in assembly (R176): its timestamp, the sequence numbers present, the lowest and the highest of them,
that of its marker packet, and the buffer it is written to, `none` where its packets are discarded: it found none FREE, `refused`
(R177), or another flow has ended it (R178). One that has ended stays until those before it have. -/
structure Assembly where
  stamp : Nat
  seen : List Nat
  low : Nat
  high : Nat
  marker : Option Nat
  buffer : Option Nat
  refused : Bool
  ended : Bool
  /-- YCbCr pixel pairs received: key row × 8192 + pair, then Cb, Y0, Cr, Y1. R181 -/
  raw : Tab (Nat × Nat × Nat × Nat)
  deriving DecidableEq, Repr

/-- One ingest flow beyond its entries (R171 to R183). -/
structure FlowSt where
  ssrc : Option Nat := none
  highest : Option Nat := none
  /-- Sequence number after the last packet of the previous frame. R176 -/
  nextFirst : Option Nat := none
  /-- Frames in assembly, oldest first. R176 -/
  asms : List Assembly := []
  /-- Sequence numbers, within the window of R175, received in frames that have ended. R175 -/
  old : List Nat := []
  /-- Timestamp of the frame that ended last. R176 -/
  endedStamp : Option Nat := none
  /-- Uptime of the last packet on each path. R196 -/
  lastA : Option Nat := none
  lastB : Option Nat := none
  /-- A change of its entries discards the frame in assembly; the flow starts with the next frame. R182 -/
  skipStamp : Option Nat := none
  deriving DecidableEq, Repr

/-- A packet held by port receive while ingest pauses (R16, R174): the port, the first flow that it belongs to, and whether it lies
in the shared half. -/
structure RxPacket where
  port : Nat
  flow : Nat
  shared : Bool
  packet : RtpPacket
  deriving DecidableEq, Repr

/-- One host content stream beyond its entries (R184 to R187). -/
structure HStreamSt where
  /-- Buffer it holds in FILLING. R185 -/
  buffer : Option Nat := none
  /-- A WRITE RECT waiting at the head of its ring: descriptor, pixels, PCIe error. R185 -/
  waiting : Option (List Byte × List Byte × Bool) := none
  deriving DecidableEq, Repr

/-- One copy of a mesh (R206). -/
structure MeshCopy where
  /-- State of Table 6.3, 0 to 4. -/
  state : Nat := 0
  blob : List Byte := []
  /-- Order of writing; the larger is the newer. -/
  age : Nat := 0
  /-- Refinement displacement of each node, in 1/4096 pixel: (node, dx, dy). R209 -/
  disp : List (Nat × Int × Int) := []
  deriving DecidableEq, Repr

/-- One mesh: its two copies, and the write held while both are in use (R206). -/
structure MeshSt where
  copy0 : MeshCopy := {}
  copy1 : MeshCopy := {}
  held : Option (List Byte × List (Nat × Int × Int)) := none
  nextAge : Nat := 1
  deriving DecidableEq, Repr

/-- A bow that fetch has scheduled (R211, R219, R222). -/
structure FetchBow where
  /-- It belongs to the coming frame. -/
  next : Bool
  bow : Nat
  forward : Bool
  active : Nat
  /-- Mesh number and copy, and buffer of the canvas that the copy names. R201 -/
  mesh : Option (Nat × Nat)
  buffer : Option Nat
  /-- Shaft offset in pixels. R210 -/
  ox : Rat
  oy : Rat
  tiles : List Nat
  /-- Levels rendered: per string, the level of each fret of the map. R222 -/
  levels : Option (List (Nat × List Nat))
  deriving DecidableEq, Repr

/-- Warp and fetch of one course beyond its entries (R207, R217 to R226). -/
structure FetchSt where
  /-- Mesh copy and buffer in use for the frame in progress: (mesh, copy), buffer. R201 -/
  mesh : Option (Nat × Nat) := none
  buffer : Option Nat := none
  /-- The same, decided for the next frame. R188, R207 -/
  nextMesh : Option (Nat × Nat) := none
  nextBuffer : Option Nat := none
  decided : Bool := false
  /-- A repeat frame has kept mesh and buffer: the decision stands for the frame after it. R99 -/
  carried : Bool := false
  /-- Bows scheduled and not yet committed, oldest first. R219 -/
  bows : List FetchBow := []
  /-- Resident tiles, and those of them poisoned. R218, R226 -/
  resident : List Nat := []
  poisoned : List Nat := []
  /-- Last Δ, held while the shaft is uncertain. R212 -/
  delta : Rat := 0
  /-- Active bows scheduled so far, of the frame in progress and of the coming frame. R219 -/
  scheduled : Nat := 0
  scheduledNext : Nat := 0
  /-- The frame in progress is fetched: the course was fetching when it started. R221 -/
  fetching : Bool := false
  /-- Banks that the partition has lost with no spare left, and banks to retire at the next frame start. R227 -/
  shrunk : Nat := 0
  retire : List Nat := []
  /-- Unwrapped shaft position, and shaft frame number, at the frame start. Table 6.4 -/
  frameP : Int := 0
  frameN : Int := 0
  deriving DecidableEq, Repr

/-! ### Colour -/

/-- A colour matrix computed for a course (R242 to R246). -/
structure MatrixSt where
  rows : List (Rat × Rat × Rat)
  gu : List Rat
  white : Rat
  avail : Rat
  /-- W0 and avail0 of R243 as this matrix has them. -/
  w0 : Rat
  avail0 : Rat
  /-- Status bits 2, 5, 6 and the white shift of this matrix. -/
  headroom : Bool
  moved : Bool
  held : Bool
  shift : Rat
  /-- Correction of each lane of the course: (lane, c). R249 -/
  corr : List (Nat × Rat)
  deriving DecidableEq, Repr

/-- Colour of one course beyond its entries (R242 to R247, R260). -/
structure ColourSt where
  /-- The matrix in use; one complete for the fence to come; one decided at the fence for the coming frame. R245, R246 -/
  inUse : Option MatrixSt := none
  ready : Option MatrixSt := none
  next : Option MatrixSt := none
  /-- The decided matrix takes in the commits and switch-ins of the coming frame start. R245 -/
  nextForced : Bool := false
  /-- A new matrix is forced at the next fence: no matrix is in use, or a colour entry changed with no frame in progress. R245 -/
  forced : Bool := true
  /-- W0 and avail0 fixed by R243; W is to be fixed anew. -/
  w0 : Rat := 0
  avail0 : Rat := 0
  fixW : Bool := true
  /-- Primary gains in use. R260 -/
  gu : List Rat := []
  /-- A sample of the frame in progress was clamped, or one rendered already for the frame to come. R247 -/
  clamped : Bool := false
  clampedNext : Bool := false
  /-- Uptime of the last new matrix. R245 -/
  lastNew : Nat := 0
  /-- LIT time of the course, in 2⁻¹⁶ ns, and the uptime since which it is LIT. R257 -/
  litTime : Nat := 0
  litSince : Option Nat := none
  deriving DecidableEq, Repr

/-- The emitter of one lane in the constancy loop (R256 to R264). -/
structure EmitterSt where
  /-- Consecutive rejections. R257 -/
  run : Nat := 0
  /-- Harmonics accepted in acquisition. R258 -/
  acquired : Nat := 0
  /-- LIT time of its course at its last accepted harmonic. R257 -/
  lastLit : Nat := 0
  /-- LIT time of its course as its acquisition began, and since which ĝ lies below the wear threshold. Table 7.7 -/
  begun : Nat := 0
  belowSince : Option Nat := none
  /-- It stays held until a tuning run has measured ρ again. R263 -/
  inputChanged : Bool := false
  deriving DecidableEq, Repr

/-! ### Sympathetic path -/

/-- One row of a capture frame so far (Table 8.10): its contributing frames, the bow of the last of them, and the sum and
number of the dark levels reported for them. R291 -/
structure CapRow where
  frames : Nat
  bow : Nat
  reverse : Bool
  harmonic : Bool
  records : Nat
  offset : Int
  darkSum : Nat
  darkN : Nat
  /-- A frame's records did not all fit in the staging store. R295 -/
  lost : Bool
  /-- Of each record: the sum of its frames' values, their number, and whether a sample was overrange. R290, R292 -/
  cells : List (Rat × Nat × Bool)
  deriving DecidableEq, Repr

/-- One bow's contribution to a row (R290, R292): each record's value, and whether a sample of it was overrange. -/
structure RowPart where
  bow : Nat
  reverse : Bool
  harmonic : Bool
  records : List (Option (Rat × Bool))
  offset : Int
  dark : Option Nat
  counter : Nat
  lost : Bool
  deriving DecidableEq, Repr

/-- A bow's records in a staging store (R295): for which buffer of which course, and for which row. -/
structure StagedRow where
  course : Nat
  base : Nat
  row : Nat
  part : RowPart
  deriving DecidableEq, Repr

/-- A capture input beyond its entries (R275, R295). -/
structure InputSt where
  /-- LIT time of its course since which the dark level lies outside its window, or inside it; at which it became suspect. -/
  outSince : Option Nat := none
  inSince : Option Nat := none
  suspectAt : Nat := 0
  /-- Lowest and highest of its latest codes within a span of 2, and LIT time of the course since which all are. -/
  flat : Option (Nat × Nat × Nat) := none
  /-- Its staging store, oldest first; bytes of the oldest drained already; what has been drained; uptime up to which. R295 -/
  staged : List StagedRow := []
  part : Nat := 0
  arrived : List StagedRow := []
  drained : Nat := 0
  deriving DecidableEq, Repr

/-- The bow whose samples were tagged last (R285, R289): its samples as instants in 1/64 slot and codes, and the void cause of each
of its harmonics. -/
structure BowRecord where
  bow : PlacedBow
  samples : List (Nat × Nat)
  voids : List Nat
  deriving DecidableEq, Repr

/-- A capture frame in a buffer or in progress (R290 to R294). -/
structure CapFrame where
  form : Nat
  input : Nat
  wanted : Nat
  firstFrame : Nat
  lastFrame : Nat
  startTai : Nat
  /-- Frames begun. -/
  frames : Nat
  incomplete : Bool
  /-- No further frame is accumulated. -/
  ended : Bool
  /-- Rows per frame, row length, and the frets of the forward and reverse maps. Table 8.9 -/
  rowCount : Nat
  rowLength : Nat
  forwardFrets : Nat
  reverseFrets : Nat
  /-- Rows that have contributing frames, by active bow. -/
  rows : List (Nat × CapRow)
  /-- Accumulation met an uncorrectable error. Table 13.9 -/
  poisoned : Bool := false
  deriving DecidableEq, Repr

/-- A capture buffer (R294): state of Table 8.11, data-class address, size. `holders`: stream numbers, 16 for refinement. -/
structure CapBuf where
  state : Nat
  base : Nat
  size : Nat
  holders : List Nat
  frame : Option CapFrame
  deriving DecidableEq, Repr

/-- Capture of one course beyond its entries (R273 to R296). -/
structure CaptSt where
  bufs : List CapBuf := []
  /-- Bytes of the pool that the buffers and the accumulator take, from the base of buffer 0. R293 -/
  span : Nat := 0
  /-- Buffers of an earlier allocation that consumers still hold. R296 -/
  old : List CapBuf := []
  /-- The buffer being written. -/
  writing : Option Nat := none
  /-- The row to which the bow that ended contributes: data-class address of the buffer, active bow, frame counter. R291 -/
  row : Option (Nat × Nat × Nat) := none
  /-- Samples that a bow may still need: instant in 1/64 slot, code; the first instant not yet taken. R272, R277 -/
  samples : List (Nat × Nat) := []
  nextAt : Nat := 0
  /-- The bow recorded last, and what the fiducial snapshot makes of it. R285, R289 -/
  recorded : Option Nat := none
  tagged : Option BowRecord := none
  /-- Harmonic records that firmware has not taken yet, oldest first; records dropped for want of a credit. R285 -/
  records : List HarmonicRec := []
  dropped : Nat := 0
  /-- Latest event and run of consecutive mismatches of each fiducial. R289 -/
  events : List (List Byte × Nat) := []
  deriving DecidableEq, Repr

/-- A capture stream beyond its entries (R297 to R299). -/
structure CStreamSt where
  unit : Nat := 0
  /-- Records waiting in the batch. R298 -/
  batch : List (List Byte) := []
  /-- Buffer descriptors waiting: host address, length, tag. R299 -/
  descs : List (Nat × Nat × Nat) := []
  /-- Data-class address of the capture buffer it holds, and whether its unit has been sent. -/
  holding : Option Nat := none
  sent : Bool := false
  /-- Uptime from which its rate limit lets it send again. R297 -/
  busyTo : Nat := 0
  deriving DecidableEq, Repr

/-! ### Loop engine -/

/-- A sense channel: its last 255 conversions, latest first; the latest was overrange; the half period of the drive generator that
is running, the peak of the angle in it so far, and the peak of the one before, in nrad (R344, R345). -/
structure SenseSt where
  codes : List Int := []
  clipped : Bool := false
  half : Int := 0
  peak : Nat := 0
  envelope : Nat := 0
  deriving DecidableEq, Repr

/-- The states that a step of a loop slot changes, as they were before it (R369). -/
structure SlotBack where
  modeAt : Nat
  xprev : Int
  oprev : Int
  d : Int
  i : Int
  osat : Bool
  b1 : Int × Int × Int × Int
  b2 : Int × Int × Int × Int
  deriving DecidableEq, Repr

/-- One logical loop slot beyond its entries (R339 to R358, R369, R370). -/
structure SlotSt where
  /-- The mode in force, taken at a period boundary. R342, R353 -/
  modeAt : Nat := 0
  xprev : Int := 0
  oprev : Int := 0
  d : Int := 0
  osat : Bool := false
  /-- Biquad states u1, u2, y1, y2, of biquad 1 and biquad 2. R350 -/
  b1 : Int × Int × Int × Int := (0, 0, 0, 0)
  b2 : Int × Int × Int × Int := (0, 0, 0, 0)
  /-- The output computed and not yet written. R341 -/
  next : Option Int := none
  /-- Consecutive failing steps, passing steps, saturated steps. R355 -/
  failRun : Nat := 0
  okRun : Nat := 0
  satRun : Nat := 0
  /-- The drive clamp limited a DAC this slot's output reaches, at the latest conversion. R349 -/
  clamped : Bool := false
  /-- Fault action in force on an auxiliary slot. R356 -/
  acting : Bool := false
  /-- The last output before the slot's fault, which cascaded slots read while it lasts. M4 of Table 10.11 -/
  preFault : Int := 0
  /-- Failed with no spare: it takes no further step and keeps its output. R370 -/
  dead : Bool := false
  /-- The period its assignment was made for, 0 with no assignment. R340 -/
  per : Nat := 0
  /-- The spare physical slot that a move takes it to at its next period boundary. R369, S3 -/
  moveTo : Option Nat := none
  /-- A transfer to manual that is to take the last output as its manual value. R353 -/
  toManual : Bool := false
  /-- The output destination in force, taken at a period boundary: auxiliary slots. R342, R347 -/
  dest : Nat := 0
  /-- The states before the last step, until its output is written. R369 -/
  back : Option SlotBack := none
  /-- SHAFT position when the source was committed: measurement, set-point. Table 10.2 -/
  shaftBase : Int × Int := (0, 0)
  deriving DecidableEq, Repr

/-- Spare physical slots and failures (R339, R369). -/
structure PoolSt where
  failed : List Nat := []
  /-- (logical, physical) for slots that a switch-in moved. -/
  moved : List (Nat × Nat) := []
  deriving DecidableEq, Repr

/-- Mirror control of one course beyond its entries (R355 to R371). -/
structure MirSt where
  /-- 0 none, 1 settling, 2 exciting, 3 ring window, 4 driven by slot 2k, 5 stop ramp ended, 6 stopping. Table 10.9, R367 -/
  phase : Nat := 0
  /-- Attempts of this start, and the search drive in use in percent. R365 -/
  attempts : Nat := 0
  search : Rat := 0
  /-- 3150 + k:0A as taken at the entry to SPINNING. R373 -/
  search0 : Rat := 0
  /-- Drive frequency in Hz and the pull-in offset in it, amplitude set-point in nrad. R115, R359, R366 -/
  f : Rat := 0
  /-- Phase of the drive generator in 2⁻⁴⁸ turns at the DAC conversion numbered accAt, whole turns counted. R359 -/
  acc : Int := 0
  accAt : Nat := 0
  /-- A chirp in progress: the frequency it runs to, and its conversions; 0 for none. R364 -/
  chirpTo : Rat := 0
  chirpLen : Nat := 0
  /-- 3150 + k:0B as taken at the entry to SPINNING. R373 -/
  exciteMs : Nat := 0
  pull : Rat := 0
  setPoint : Rat := 0
  /-- Uptime at which the set-point ramp was last advanced. R366 -/
  rampAt : Nat := 0
  /-- 3150 + k:0D, :0E and :11 as taken at the entry to SPINNING. R373 -/
  rampUp : Nat := 0
  rampDown : Nat := 0
  park : Int := 0
  /-- Drive amplitude A_d as an output of slot 2k, 2³¹ per volt. R359 -/
  drive : Int := 0
  /-- Forward bows within the lag limit. R360 -/
  lockRun : Nat := 0
  /-- Consecutive bows with the amplitude within 1 %. K2 -/
  ampRun : Nat := 0
  /-- Uptime since which the slow error is within a quarter of its window. K4 -/
  slowSince : Option Nat := none
  /-- G0 in nrad per volt, the time it has followed since START, the uptime of the last such update while locked, and
  whether it is learned. R360 -/
  g0 : Rat := 0
  g0Time : Nat := 0
  g0At : Option Nat := none
  learned : Bool := false
  /-- Consecutive failing evaluations of P2 and P3. R357 -/
  p2 : Nat := 0
  p3 : Nat := 0
  /-- Lag in degrees at the last forward bow. R360 -/
  lag : Rat := 90
  /-- The course was admitted to phase lock. R113 -/
  admitted : Bool := false
  /-- Consecutive bows with a phase error within 50 ns, and beyond 500 ns. R115, R116 -/
  nearBows : Nat := 0
  farBows : Nat := 0
  /-- The course has been declared failed and not been requested since. R358 -/
  failed : Bool := false
  /-- AXIS_EN is to be released. R367 -/
  releaseDue : Bool := false
  /-- The course has not been in TRACKING since it last entered SPINNING: its start is not over. R365 -/
  starting : Bool := false
  deriving DecidableEq, Repr

/-! ### Capo -/

/-- The capo beyond its entries (R375 to R395). It is cleared by a reset of code 1 only. -/
structure CapoSt where
  /-- Sampled straps, held until VAON is lost. R375 -/
  sel : Nat := 0
  /-- Fuse bits blown, mask. R375 -/
  blown : Nat := 0
  /-- Fuse bits as 3800:03 has read them since the last reset of code 1. R534 -/
  blownSeen : Nat := 0
  /-- VAON is valid. R375 -/
  vaon : Bool := false
  /-- The shut-down latch of D2. R523 -/
  shutLatch : Bool := false
  /-- Level of INTERLOCK_N, and uptime since which it is high. R390 -/
  interlock : Bool := false
  highSince : Nat := 0
  /-- Courses with EMIT_OK high at the ball; courses with a drop pending, each with its slot. R322, R387 -/
  emitOk : Nat := 0
  dropDue : List (Nat × Nat) := []
  /-- Effective code limits and mean-level limits where they differ from those written: pending until the turnaround.
  (string, level). R378 -/
  code : Tab Nat := []
  mean : Tab Nat := []
  deriving DecidableEq, Repr

/-- The scan watch and trips of one course (R382 to R388). -/
structure CapoCourse where
  /-- Expected sign (true +) and when the expectation was set, in 20 ns samples. R383 -/
  expected : Option (Bool × Nat) := none
  /-- Excursion in progress: sign, start, whether still valid. R383 -/
  exc : Option (Bool × Nat × Bool) := none
  /-- End of the last excursion. R396 -/
  lastEnd : Option Nat := none
  misses : Nat := 0
  /-- The arm signal of placement. R384 -/
  armed : Bool := false
  /-- Latched trips, bit n for T(n+1). R388 -/
  trips : Nat := 0
  deriving DecidableEq, Repr

/-- The energy window of a string (R380): levels and limits summed in the completed sub-windows, the latest last, at most 16; the
running sub-window, its sums, and the slot up to which limits are summed. -/
structure EnergySt where
  done : List (Nat × Nat) := []
  win : Nat := 0
  sum : Nat := 0
  lim : Nat := 0
  upTo : Nat := 0
  deriving DecidableEq, Repr

/-! ### Tuning, pegs and thermal -/

/-- One peg (R399 to R404): the code driven, and the code pending in its shadow. -/
structure PegSt where
  code : Nat := 0
  shadow : Option Nat := none
  /-- Uptime at which the pending code became pending. R401 -/
  since : Nat := 0
  /-- The code before the last load, and the slot of that load. R271, R401 -/
  before : Nat := 0
  loadedAt : Nat := 0
  deriving DecidableEq, Repr

/-- What a phase of a tuning run has measured of one emitter (R415): probes, or forward events, and their sum; reverse events and
their sum; the sum of the speeds at the edges, in nrad per slot. -/
structure ProbeSum where
  lane : Nat
  n : Nat := 0
  sum : Rat := 0
  nr : Nat := 0
  sumr : Rat := 0
  speed : Rat := 0
  deriving DecidableEq, Repr

/-- A value measured by a tuning run (Tables 12.4, 12.5). -/
structure Measured where
  quantity : Nat
  element : Nat
  value : Int
  deriving DecidableEq, Repr

/-- A tuning run of one course (R412 to R417): requested and not yet started; started and not yet ended or aborted. -/
structure RunSt where
  pending : Bool := false
  active : Bool := false
  /-- Phase 1 to 5 of Table 12.5; 6 once all are through. R415 -/
  phase : Nat := 0
  /-- Phases 1 and 2: steps taken, bows counted in the step and the sum of what they gave, the last direction of a step, and the
  magnitude that the step before gave. R415 -/
  step : Nat := 0
  count : Nat := 0
  sum : Int := 0
  dir : Int := 1
  before : Option Rat := none
  /-- Phases 3 to 5: sums by emitter. R415 -/
  probes : List ProbeSum := []
  /-- Peg codes that phases 1 and 2 have moved, by peg. R414, R417 -/
  pegs : Tab Nat := []
  /-- Values measured so far. R416 -/
  measured : List Measured := []
  /-- Key temperatures of its domains since it began: sum and samples. R416 -/
  temps : Tab (Rat × Nat) := []
  /-- Uptime of its latest probe, of its latest bounded slice, or of its start. R284 -/
  probedAt : Nat := 0
  deriving DecidableEq, Repr

/-- One tuning domain beyond its entries (R65, R408, R409): the values evaluated that wait for their point of effect, by the key
of the live entry; those for a frame start that were evaluated after the fence before it, which wait for the one after; and the
key temperature last used, °C. -/
structure DomainSt where
  waiting : List (Nat × Val) := []
  late : List (Nat × Val) := []
  used : Option Rat := none
  deriving DecidableEq, Repr

/-- Sensors and zones (R418 to R429), in °C. -/
structure ThermSt where
  /-- Last readings: die sensors 0 to 23, external inputs 0 to 31. -/
  die : Tab (Option Rat) := []
  ext : Tab (Option Rat) := []
  /-- Sensors that have failed since START. R421 -/
  dieFailed : List Nat := []
  extFailed : List Nat := []
  /-- Throttle level in force when a sensor of the zone failed: die zones, laser zones. R422 -/
  dieFloor : Tab Nat := []
  laserFloor : Tab Nat := []
  /-- Store die reading. R45 -/
  store : Option Rat := none
  /-- Uptime at which the pause of ingest and host rings, of warp recompute, of capture accumulation ends. R16, R424 -/
  ingestPause : Nat := 0
  warpPause : Nat := 0
  capturePause : Nat := 0
  /-- Uptime since which the device level is 1 or more, and the time before. 4100:09 -/
  throttledSince : Option Nat := none
  throttled : Nat := 0
  deriving DecidableEq, Repr

/-! ### DRAM, queues, recovery, power -/

/-- One DRAM channel beyond its entries (R453 to R462). -/
structure ChanSt where
  /-- Refreshes postponed, by rank × 16 + bank. R455 -/
  postponed : Tab Nat := []
  /-- Ranks in power-down. R456 -/
  down : List Nat := []
  /-- Activates with a pending neighbour refresh: row chunk. R454 -/
  neighbours : List Nat := []
  /-- The retrain is due; forced; waited at panic. R461 -/
  due : Bool := false
  forced : Bool := false
  waited : Bool := false
  overdue : Bool := false
  /-- Next unit scrub reads. R453 -/
  scrub : Nat := 0
  /-- Uptime of the last training or retrain. R460 -/
  trainedAt : Nat := 0
  /-- Mode register 4 of a die reports above its high limit. Table 13.15 -/
  hot : Bool := false
  /-- Uptime since which a rank is in power-down, and the time before, in 2⁻¹⁶ ns. 5010 + c:09 -/
  downSince : Option Nat := none
  downTime : Nat := 0
  /-- Units corrected in this scrub pass, and in the pass before. R465 -/
  corrected : List Nat := []
  correctedBefore : List Nat := []
  /-- Corrected units waiting to be written back. R449 -/
  writeBack : List Nat := []
  /-- Repair candidates: row chunks. R465 -/
  candidates : List Nat := []
  /-- Rows that no repair resource was left for: row chunks. R468 -/
  unrepaired : List Nat := []
  deriving DecidableEq, Repr

/-- A request to the memory service (R446): port, class, address, what it asks, and the erroneous bytes found in the first
unit that it reads. -/
structure MemReq where
  port : Nat
  cls : AddrClass
  addr : Nat
  op : MemOp
  bad : Nat
  deriving DecidableEq, Repr

/-- DRAM contents and the memory service (R433 to R468). -/
structure MemSt where
  /-- Bytes, at channel × 2³² + channel address; unlisted addresses read 0. -/
  cells : List Host.Cell := []
  /-- Poisoned units, as channel × 2³² + unit. R450 -/
  poison : List Nat := []
  /-- Parameters taken at START: check, G, mask, C in MiB, order. R441 -/
  check : Bool := true
  grain : Nat := 4096
  mask : Nat := 15
  control : Nat := 256
  order : Nat := 1
  /-- Addressable MiB of one channel; 0 until trained. Table 13.2 -/
  chanMiB : Nat := 0
  /-- Canvas pool and capture pool placed, MiB. R442 -/
  canvasPool : Nat := 0
  capturePool : Nat := 0
  /-- Channels whose retrain is due, in order. R461 -/
  dueOrder : List Nat := []
  /-- Units scrubbed in the pass. R453 -/
  scrubbed : Nat := 0
  scrubLate : Bool := false
  /-- Requests waiting for the end of a REFCLK hold, oldest first. R459 -/
  waiting : List MemReq := []
  /-- The repair list: (channel, row chunk, permanent). R466, R467 -/
  listed : List (Nat × Nat × Bool) := []
  /-- Uptime since which a port is at panic, and the time before, in 2⁻¹⁶ ns. 5000:29 -/
  panicSince : Option Nat := none
  panicTime : Nat := 0
  deriving DecidableEq, Repr

/-- A host ring (R484). -/
structure RingSt where
  /-- It has been enabled since START. R484 -/
  allocated : Bool := false
  enabled : Bool := false
  deviceToHost : Bool := false
  entrySize : Nat := 32
  count : Nat := 1024
  base : Nat := 0
  writeBack : Nat := 0
  vector : Nat := 0xFFFF
  moderation : Nat := 0
  head : Nat := 0
  tail : Nat := 0
  processed : Nat := 0
  errors : Nat := 0
  lastError : Nat := 0
  /-- A vector was raised in the moderation period, and one is withheld. R485 -/
  quiet : Bool := false
  withheld : Bool := false
  /-- An index has advanced and is not yet written back. R485 -/
  dirty : Bool := false
  deriving DecidableEq, Repr

/-- A queue of Table 14.1 that is no host ring (R11 to R13, R477 to R479): its head and tail, the credits reserved for
responses, and the entries it has carried. -/
structure QueueRec where
  head : Nat := 0
  tail : Nat := 0
  reserved : Nat := 0
  processed : Nat := 0
  deriving DecidableEq, Repr

/-- The queue engine (R477 to R487). -/
structure QueueSt where
  rings : Tab RingSt := []
  /-- Queues that are no host rings: dictionary queues by their numbers (R54), the others by what they carry (log 146). -/
  inner : Tab QueueRec := []
  /-- Resident unpinned descriptors, most recently used first. R481 -/
  resident : List Nat := []
  deriving DecidableEq, Repr

/-- The management pairs and firmware (R494 to R501). -/
structure FwSt where
  /-- Role of pair A and pair B: 0 off, 1 active, 2 standby, 3 loading, 4 failed, 5 probation. 7F00:05 -/
  roleA : Nat := 1
  roleB : Nat := 2
  /-- The standby is synchronised. R494 -/
  synced : Bool := true
  /-- Uptimes of faults of pair A and of pair B. R496 -/
  faultsA : List Nat := []
  faultsB : List Nat := []
  /-- The pair that faulted and waits to return to standby: 0 none, 1 A, 2 B. -/
  faulty : Nat := 0
  /-- The active pair restarts in place. R497 -/
  restarting : Bool := false
  /-- A switch-over waits for a frame start. Table 14.7 step 5 -/
  switchDue : Bool := false
  /-- The image being written, to slot. R499 -/
  writing : Option (Nat × List Byte) := none
  deriving DecidableEq, Repr

/-- An offer to a spare policy (R503, R504). -/
structure Offer where
  kind : SpareKind
  unit : Nat
  worn : Bool
  deriving DecidableEq, Repr

/-- Spares, availability and logs (R502 to R511). -/
structure RecSt where
  offers : List Offer := []
  /-- Units with no candidate left, offered again when a candidate's entries change. R505 -/
  refused : List Offer := []
  /-- Switch-ins of spare lanes that the policy has made: the spare's number, the string and the offer it serves. QE12 of R512 -/
  placed : List (Nat × Nat × Offer) := []
  /-- Courses in demand. R507 -/
  demand : List Nat := []
  /-- Times in 2⁻¹⁶ ns: demand, and the four classes. R507 -/
  times : List Nat := [0, 0, 0, 0, 0]
  /-- Uptime at which the times were last advanced. -/
  at_ : Nat := 0
  /-- The event log, oldest first; the next sequence, 7100:03; entries overwritten, 7100:04. R510 -/
  events : List (List Byte) := []
  eventSeq : Nat := 0
  overwritten : Nat := 0
  /-- Uptime by which the recoveries seen so far are complete. R489 -/
  recoverEnd : Nat := 0
  /-- Uptimes of the corrected errors of each bank. R227 -/
  bankErrors : Tab (List Nat) := []
  /-- Banks retired. R227 -/
  retired : List Nat := []
  deriving DecidableEq, Repr

/-- Power, reset and pins (R515 to R534). -/
structure PwrSt where
  /-- Power is valid: the start sequence runs. R516 -/
  valid : Bool := false
  /-- Steps of Table 15.3 reached: 0 none, 1 power valid, 2 PLL lock, 3 self-test, 6 DRAM, 7 D5. -/
  step : Nat := 0
  /-- Rails below warning: (rail, lowest mV seen). R519 -/
  low : Tab Nat := []
  /-- Rail that went lowest in percent, its mV, and the start of the hold. R520 -/
  worstRail : Nat := 0
  worstMv : Nat := 0
  holdSince : Nat := 0
  /-- THERMTRIP_N is driven low. R524 -/
  thermtrip : Bool := false
  /-- RSTOUT_N driven low. R524 -/
  rstout : Bool := true
  /-- The PCIe endpoint answers configuration requests. R527 -/
  pcieUp : Bool := false
  /-- Code of the reset that began this START. Table 15.2 -/
  cause : Nat := 1
  /-- JTAG instruction selected (IDCODE after a reset, IEEE 1149.1), and the boundary register. R533 -/
  jtag : Nat := 0x02
  boundary : List Bool := []
  /-- A pool did not fit, DRAM training failed. R442, R464 -/
  dramFailed : Bool := false
  dramTrained : Bool := false
  /-- Entry to STANDBY (D7) in progress; exit (D8) in progress; LIT asked for in STANDBY. R20, R21 -/
  entering : Bool := false
  exiting : Bool := false
  litAfter : Bool := false
  deriving DecidableEq, Repr

/-- What leaves the part: messages, blocks, pins (R10: lanes and port transmit drain to pins that never refuse). -/
inductive Out where
  /-- An Ozilo message to a transport. R48 -/
  | ozilo (dst : Source) (msg : List Byte)
  /-- A heartbeat to the multicast or unicast destination of 1100:11. R72 -/
  | heartbeat (ip port : Nat) (msg : List Byte)
  /-- A beacon. R108 -/
  | beacon (ip port : Nat) (msg : List Byte)
  /-- SPI bytes on SPI_MISO. R57 -/
  | spi (bytes : List Byte)
  /-- An MSI-X vector. R56, R485 -/
  | msix (vector : Nat)
  /-- A write to host memory. R187, R299, R485 -/
  | hostWrite (addr : Nat) (bytes : List Byte)
  /-- A stream packet from port A (0) or B (1). R298 -/
  | packet (port ip udp : Nat) (bytes : List Byte)
  /-- A control block of a lane: block number, payload, and the 66 bits as they leave, the first in bit 0. R306, R308 -/
  | block (lane : Nat) (b : Nat) (payload : Nat) (wire : Nat)
  /-- A data block of a lane. R306, R307 -/
  | data (lane : Nat) (b : Nat) (payload : Nat) (wire : Nat)
  /-- The memory service answers a port: error, and the bytes read. R446, R450 -/
  | memory (port : Nat) (error : Bool) (bytes : List Byte)
  /-- JTAG data out. R533 -/
  | tdo (width : Nat) (value : Nat)
  deriving DecidableEq, Repr

/-- The state of the part. -/
structure State where
  /-- Live values of dictionary entries that differ from their defaults, by index × 256 + sub-index. R38, R40 -/
  dict : Tab Val := []
  /-- The dictionary service. R54 to R72 -/
  oz : OzSt := {}
  /-- The persistent store. R469 to R473 -/
  store : StoreSt := {}
  /-- Clocks and time. R79, R124 -/
  clk : ClkSt := {}
  /-- The time-base servo. R85 -/
  servo : ServoSt := {}
  /-- SYNC_IN inputs 0 to 3. R95 -/
  syncs : Tab SyncSt := []
  /-- Shaft channels 0 to 7. R97 -/
  shafts : Tab ShaftSt := []
  /-- Frame generators by course. R91 -/
  frm : Tab FrameSt := []
  /-- Consort beacons. R108 -/
  beacon : BeaconSt := {}
  /-- Bow models by course. R130 -/
  bow : Tab BowSt := []
  /-- Placement by course. R141 -/
  plc : Tab PlaceSt := []
  /-- String lanes. R324 -/
  lanes : Tab LaneSt := []
  /-- Spare-lane switch-ins, by spare 0 to 15. R335 -/
  spares : Tab SpareSt := []
  /-- Return lanes by course. R330 -/
  rets : Tab RetSt := []
  /-- Emission ledgers by course, oldest record first, at most 1,024. R491 -/
  ledger : Tab (List LedgerRec) := []
  /-- Canvases. R168 -/
  canvases : Tab CanvasSt := []
  /-- Ingest flows. R176 -/
  flows : Tab FlowSt := []
  /-- Packets in port receive, oldest first. R174 -/
  rx : List RxPacket := []
  /-- Host content streams. R185 -/
  hstreams : Tab HStreamSt := []
  /-- Meshes by 4 × course + mesh. R206 -/
  meshes : Tab MeshSt := []
  /-- Warp and fetch by course. R219 -/
  fet : Tab FetchSt := []
  /-- Colour by course. R242 -/
  col : Tab ColourSt := []
  /-- Emitters by lane. R257 -/
  emit : Tab EmitterSt := []
  /-- Capture by course. R290 -/
  capt : Tab CaptSt := []
  inputs : Tab InputSt := []
  /-- Sense channels 0 to 63. R344 -/
  senses : Tab SenseSt := []
  /-- Capture streams. R297 -/
  cstreams : Tab CStreamSt := []
  /-- Logical loop slots. R349 -/
  slots : Tab SlotSt := []
  /-- Physical loop slots. R369 -/
  pool : PoolSt := {}
  /-- Mirrors by course. R364 -/
  mir : Tab MirSt := []
  /-- The capo. R375 -/
  capo : CapoSt := {}
  /-- The capo, by course. R382 -/
  capoC : Tab CapoCourse := []
  /-- Energy windows by string. R380 -/
  energy : Tab EnergySt := []
  /-- Pegs. R399 -/
  pegs : Tab PegSt := []
  /-- Tuning runs by course. R412 -/
  runs : Tab RunSt := []
  /-- Tuning domains 0 to 97. R405 -/
  domains : Tab DomainSt := []
  /-- Temperature sensors and zones. R418 -/
  therm : ThermSt := {}
  /-- DRAM. R433 -/
  mem : MemSt := {}
  /-- DRAM channels. R453 -/
  chans : Tab ChanSt := []
  /-- Queues. R477 -/
  queues : QueueSt := {}
  /-- Management pairs and firmware. R494 -/
  fw : FwSt := {}
  /-- Spares, availability, logs. R502 -/
  svc : RecSt := {}
  /-- Power, reset and pins. R515 -/
  pwr : PwrSt := {}
  /-- Everything that has left the part, latest last. R10 -/
  out : List Out := []
  /-- The model's own counter of free values taken (log 5). -/
  free : Nat := 0
  /-- The commands that wait, first in, first out. -/
  pending : List Instr := []
  deriving DecidableEq, Repr

/-- The part at the beginning of START after a cold start (a reset of code 1): VAON is not yet valid, the safety domain
is cleared, the device state is START, and every entry has its default (R40, R81, R522, R523). -/
def State.reset : State := {}

end Sys2Proof.Machine
end

