-- ==== Sys2Proof/Machine/Ops.lean ====
section
/-! DEFINITION. The named operations over sparse tables, dictionary entries, units and memory. Every read and write of
state goes through one of these. -/

namespace Sys2Proof.Machine

open Sys2Proof

/-! ### Sparse tables -/

/-- The value listed at a key. -/
def tfind {α : Type} : Tab α → Nat → Option α
  | [], _ => none
  | (k', v) :: r, k => if k' = k then some v else tfind r k

/-- The value at a key: the listed one, or the default. -/
def tgetD {α : Type} (t : Tab α) (d : α) (k : Nat) : α := (tfind t k).getD d

/-- A table without a key. -/
def terase {α : Type} : Tab α → Nat → Tab α
  | [], _ => []
  | (k', v) :: r, k => if k' = k then terase r k else (k', v) :: terase r k

/-- A table with a key inserted before the first larger key. -/
def tins {α : Type} (k : Nat) (v : α) : Tab α → Tab α
  | [] => [(k, v)]
  | (k', v') :: r => if k < k' then (k, v) :: (k', v') :: r else (k', v') :: tins k v r

/-- A table with the value at a key replaced; the default value is not listed. -/
def tput {α : Type} [DecidableEq α] (t : Tab α) (d : α) (k : Nat) (v : α) : Tab α :=
  if v = d then terase t k else tins k v (terase t k)

/-- Every key of a table is above `lo`, and keys rise strictly. -/
def trising {α : Type} : Nat → Tab α → Bool
  | _, [] => true
  | lo, (k, _) :: r => decide (lo < k) && trising k r

/-- The canonical form of a table with default `d`: keys strictly rising, none listed with the default. -/
def twf {α : Type} [DecidableEq α] (d : α) (t : Tab α) : Bool :=
  (match t with
   | [] => true
   | (k, _) :: r => trising k r) && t.all (fun p => decide (p.2 ≠ d))

/-! ### Values -/

def valInt : Val → Int
  | .num z => z
  | .bytes _ => 0

def valBytes : Val → List Byte
  | .num _ => []
  | .bytes b => b

/-! ### Dictionary entries -/

/-- The key of an entry in the dictionary map. -/
def dkey (index sub : Nat) : Nat := index * 256 + sub

/-- The stored live value of an entry. -/
def State.val (s : State) (index sub : Nat) : Val := tgetD s.dict (dfltOf index sub) (dkey index sub)

/-- The state with an entry's stored live value replaced. -/
def State.put (s : State) (index sub : Nat) (v : Val) : State :=
  { s with dict := tput s.dict (dfltOf index sub) (dkey index sub) v }

/-- An entry read as an integer, a natural number, bytes, a binary32, a Q16.16. -/
def State.int (s : State) (index sub : Nat) : Int := valInt (s.val index sub)
def State.nat (s : State) (index sub : Nat) : Nat := (s.int index sub).toNat
def State.blob (s : State) (index sub : Nat) : List Byte := valBytes (s.val index sub)
def State.f32 (s : State) (index sub : Nat) : Rat := ratOfF32 (s.nat index sub)
def State.fix (s : State) (index sub : Nat) : Rat := (s.int index sub : Rat) / 65536

/-- An entry written as an integer, a natural number, bytes, a binary32, a Q16.16 (rounded to nearest even). -/
def State.putI (s : State) (index sub : Nat) (z : Int) : State := s.put index sub (.num z)
def State.putN (s : State) (index sub : Nat) (n : Nat) : State := s.put index sub (.num n)
def State.putB (s : State) (index sub : Nat) (b : List Byte) : State := s.put index sub (.bytes b)
def State.putF (s : State) (index sub : Nat) (q : Rat) : State := s.put index sub (.num (f32OfRat q))
def State.putX (s : State) (index sub : Nat) (q : Rat) : State := s.put index sub (.num (sat32 (roundEven (q * 65536))))

/-- A saturating U32 counter, a wrapping U32 counter and a U64 counter, advanced by n. -/
def State.addSat (s : State) (index sub n : Nat) : State := s.putN index sub (min (s.nat index sub + n) 0xFFFFFFFF)
def State.addWrap (s : State) (index sub n : Nat) : State := s.putN index sub ((s.nat index sub + n) % 2 ^ 32)
def State.add64 (s : State) (index sub n : Nat) : State := s.putN index sub ((s.nat index sub + n) % 2 ^ 64)

/-- One more on a saturating U32 counter. -/
def State.bump (s : State) (index sub : Nat) : State := s.addSat index sub 1

/-! ### Units -/

/-- The SYNC_IN input `k`, and the state with it replaced. -/
def State.syncsAt (s : State) (k : Nat) : SyncSt := tgetD s.syncs {} k
def State.syncsPut (s : State) (k : Nat) (x : SyncSt) : State := { s with syncs := tput s.syncs {} k x }

/-- The shaft channel `k`, and the state with it replaced. -/
def State.shaftsAt (s : State) (k : Nat) : ShaftSt := tgetD s.shafts {} k
def State.shaftsPut (s : State) (k : Nat) (x : ShaftSt) : State := { s with shafts := tput s.shafts {} k x }

/-- The frame generator of a course `k`, and the state with it replaced. -/
def State.frmAt (s : State) (k : Nat) : FrameSt := tgetD s.frm {} k
def State.frmPut (s : State) (k : Nat) (x : FrameSt) : State := { s with frm := tput s.frm {} k x }

/-- The bow model of a course `k`, and the state with it replaced. -/
def State.bowAt (s : State) (k : Nat) : BowSt := tgetD s.bow {} k
def State.bowPut (s : State) (k : Nat) (x : BowSt) : State := { s with bow := tput s.bow {} k x }

/-- The placement of a course `k`, and the state with it replaced. -/
def State.plcAt (s : State) (k : Nat) : PlaceSt := tgetD s.plc {} k
def State.plcPut (s : State) (k : Nat) (x : PlaceSt) : State := { s with plc := tput s.plc {} k x }

/-- The string lane `k`, and the state with it replaced. -/
def State.lanesAt (s : State) (k : Nat) : LaneSt := tgetD s.lanes {} k
def State.lanesPut (s : State) (k : Nat) (x : LaneSt) : State := { s with lanes := tput s.lanes {} k x }

/-- The spare lane switch-in `k`, and the state with it replaced. -/
def State.sparesAt (s : State) (k : Nat) : SpareSt := tgetD s.spares {} k
def State.sparesPut (s : State) (k : Nat) (x : SpareSt) : State := { s with spares := tput s.spares {} k x }

/-- The return lane `k`, and the state with it replaced. -/
def State.retsAt (s : State) (k : Nat) : RetSt := tgetD s.rets {} k
def State.retsPut (s : State) (k : Nat) (x : RetSt) : State := { s with rets := tput s.rets {} k x }

/-- The canvas `k`, and the state with it replaced. -/
def State.canvasesAt (s : State) (k : Nat) : CanvasSt := tgetD s.canvases {} k
def State.canvasesPut (s : State) (k : Nat) (x : CanvasSt) : State := { s with canvases := tput s.canvases {} k x }

/-- The ingest flow `k`, and the state with it replaced. -/
def State.flowsAt (s : State) (k : Nat) : FlowSt := tgetD s.flows {} k
def State.flowsPut (s : State) (k : Nat) (x : FlowSt) : State := { s with flows := tput s.flows {} k x }

/-- The host content stream `k`, and the state with it replaced. -/
def State.hstreamsAt (s : State) (k : Nat) : HStreamSt := tgetD s.hstreams {} k
def State.hstreamsPut (s : State) (k : Nat) (x : HStreamSt) : State := { s with hstreams := tput s.hstreams {} k x }

/-- The mesh `k`, and the state with it replaced. -/
def State.meshesAt (s : State) (k : Nat) : MeshSt := tgetD s.meshes {} k
def State.meshesPut (s : State) (k : Nat) (x : MeshSt) : State := { s with meshes := tput s.meshes {} k x }

/-- The warp and fetch of a course `k`, and the state with it replaced. -/
def State.fetAt (s : State) (k : Nat) : FetchSt := tgetD s.fet {} k
def State.fetPut (s : State) (k : Nat) (x : FetchSt) : State := { s with fet := tput s.fet {} k x }

/-- The colour of a course `k`, and the state with it replaced. -/
def State.colAt (s : State) (k : Nat) : ColourSt := tgetD s.col {} k
def State.colPut (s : State) (k : Nat) (x : ColourSt) : State := { s with col := tput s.col {} k x }

/-- The emitter `k`, and the state with it replaced. -/
def State.emitAt (s : State) (k : Nat) : EmitterSt := tgetD s.emit {} k
def State.emitPut (s : State) (k : Nat) (x : EmitterSt) : State := { s with emit := tput s.emit {} k x }

/-- The capture of a course `k`, and the state with it replaced. -/
def State.inputsAt (s : State) (k : Nat) : InputSt := tgetD s.inputs {} k
def State.inputsPut (s : State) (k : Nat) (x : InputSt) : State := { s with inputs := tput s.inputs {} k x }
def State.sensesAt (s : State) (k : Nat) : SenseSt := tgetD s.senses {} k
def State.sensesPut (s : State) (k : Nat) (x : SenseSt) : State := { s with senses := tput s.senses {} k x }
def State.captAt (s : State) (k : Nat) : CaptSt := tgetD s.capt {} k
def State.captPut (s : State) (k : Nat) (x : CaptSt) : State := { s with capt := tput s.capt {} k x }

/-- The capture stream `k`, and the state with it replaced. -/
def State.cstreamsAt (s : State) (k : Nat) : CStreamSt := tgetD s.cstreams {} k
def State.cstreamsPut (s : State) (k : Nat) (x : CStreamSt) : State := { s with cstreams := tput s.cstreams {} k x }

/-- The loop slot `k`, and the state with it replaced. -/
def State.slotsAt (s : State) (k : Nat) : SlotSt := tgetD s.slots {} k
def State.slotsPut (s : State) (k : Nat) (x : SlotSt) : State := { s with slots := tput s.slots {} k x }

/-- The mirror of a course `k`, and the state with it replaced. -/
def State.mirAt (s : State) (k : Nat) : MirSt := tgetD s.mir {} k
def State.mirPut (s : State) (k : Nat) (x : MirSt) : State := { s with mir := tput s.mir {} k x }

/-- The capo of a course `k`, and the state with it replaced. -/
def State.capoCAt (s : State) (k : Nat) : CapoCourse := tgetD s.capoC {} k
def State.capoCPut (s : State) (k : Nat) (x : CapoCourse) : State := { s with capoC := tput s.capoC {} k x }

/-- The energy window of a string `k`, and the state with it replaced. -/
def State.energyAt (s : State) (k : Nat) : EnergySt := tgetD s.energy {} k
def State.energyPut (s : State) (k : Nat) (x : EnergySt) : State := { s with energy := tput s.energy {} k x }

/-- The peg `k`, and the state with it replaced. -/
def State.pegsAt (s : State) (k : Nat) : PegSt := tgetD s.pegs {} k
def State.pegsPut (s : State) (k : Nat) (x : PegSt) : State := { s with pegs := tput s.pegs {} k x }

/-- The tuning run of a course `k`, and the state with it replaced. -/
def State.runsAt (s : State) (k : Nat) : RunSt := tgetD s.runs {} k
def State.runsPut (s : State) (k : Nat) (x : RunSt) : State := { s with runs := tput s.runs {} k x }

/-- The tuning domain `k`, and the state with it replaced. -/
def State.domainsAt (s : State) (k : Nat) : DomainSt := tgetD s.domains {} k
def State.domainsPut (s : State) (k : Nat) (x : DomainSt) : State := { s with domains := tput s.domains {} k x }

/-- The DRAM channel `k`, and the state with it replaced. -/
def State.chansAt (s : State) (k : Nat) : ChanSt := tgetD s.chans {} k
def State.chansPut (s : State) (k : Nat) (x : ChanSt) : State := { s with chans := tput s.chans {} k x }

/-- The ledger of course `k`, and the state with it replaced. -/
def State.ledgerAt (s : State) (k : Nat) : List LedgerRec := tgetD s.ledger [] k
def State.ledgerPut (s : State) (k : Nat) (x : List LedgerRec) : State := { s with ledger := tput s.ledger [] k x }

/-- Master `m`, and the state with it replaced. -/
def State.masterAt (s : State) (m : Nat) : Master := tgetD s.oz.masters {} m
def State.masterPut (s : State) (m : Nat) (x : Master) : State :=
  { s with oz := { s.oz with masters := tput s.oz.masters {} m x } }

/-- Context `c` of the PCIe dictionary window, and the state with it replaced. -/
def State.ctxAt (s : State) (c : Nat) : PcieCtx := tgetD s.oz.ctx {} c
def State.ctxPut (s : State) (c : Nat) (x : PcieCtx) : State :=
  { s with oz := { s.oz with ctx := tput s.oz.ctx {} c x } }

/-- Queue `q` as a ring, and the state with it replaced. -/
def State.ringAt (s : State) (q : Nat) : RingSt := tgetD s.queues.rings {} q
def State.ringPut (s : State) (q : Nat) (x : RingSt) : State :=
  { s with queues := { s.queues with rings := tput s.queues.rings {} q x } }

/-- Queue `q` that is no host ring, and the state with it replaced. -/
def State.queueAt (s : State) (q : Nat) : QueueRec := tgetD s.queues.inner {} q
def State.queuePut (s : State) (q : Nat) (x : QueueRec) : State :=
  { s with queues := { s.queues with inner := tput s.queues.inner {} q x } }

/-! ### Lists of states -/

/-- Apply an operation for each number of a list, in order. -/
def State.each (s : State) (l : List Nat) (f : State → Nat → State) : State := l.foldl f s

/-- Courses 0 to 31, lanes 0 to 271. -/
def allCourses : List Nat := List.range 32
def allLanes : List Nat := List.range 272

/-! ### What leaves the part, and free values -/

/-- The state with something sent. -/
def State.send (s : State) (o : Out) : State := { s with out := s.out ++ [o] }

/-- The next free value of each kind, and the state that has taken it (log 5). -/
def State.takeFree (s : State) : State := { s with free := s.free + 1 }

/-! ### Time -/

/-- Time base in ns; uptime since START in ns and in µs. -/
def State.taiNs (s : State) : Nat := s.clk.tai / tNs
def State.upNs (s : State) : Nat := (s.clk.up - s.clk.began) / tNs
def State.upUs (s : State) : Nat := (s.clk.up - s.clk.began) / tUs

/-! ### Memory -/

/-- The cell key of a byte of a channel (R433, R437). -/
def cellKey (chan addr : Nat) : Nat := chan * 2 ^ 32 + addr

/-- A byte of memory: what an unlisted address reads as is 0 (log 12). -/
def memRead (cells : List Host.Cell) (key : Nat) : Byte := tgetD cells 0 key
/-- Memory with one byte written, in canonical form. -/
def memWrite (cells : List Host.Cell) (key : Nat) (b : Byte) : List Host.Cell := tput cells 0 key b

/-- The canonical form of memory: addresses strictly rising, no byte 0 listed. -/
def Memory.wf (cells : List Host.Cell) : Bool := twf (0 : Byte) cells

end Sys2Proof.Machine
end

