-- ==== Sys2Proof/Machine/Flags.lean ====
section
/-! DEFINITION. Status words: single bits and fields of an entry, set and cleared. -/

namespace Sys2Proof.Machine

open Sys2Proof

/-- Bit `i` of an entry. -/
def State.flag (s : State) (index sub i : Nat) : Bool := bit (s.nat index sub) i

/-- An entry with bit `i` made `b`. -/
def State.setFlag (s : State) (index sub i : Nat) (b : Bool) : State := s.putN index sub (withBit (s.nat index sub) i b)

/-- An entry with bits [hi:lo] replaced. -/
def State.setBits (s : State) (index sub hi lo v : Nat) : State :=
  let n := s.nat index sub
  s.putN index sub (n - bits n hi lo * 2 ^ lo + (v % 2 ^ (hi + 1 - lo)) * 2 ^ lo)

/-- A mask of courses for which a condition holds. -/
def courseMask (f : Nat → Bool) : Nat := maskOf (allCourses.filter f)

end Sys2Proof.Machine
end

