-- ==== Sys2Proof/Machine/Operands.lean ====
section
/-! DEFINITION. The operand forms of the dictionary: values as bytes (Table 2.1), the item header (Table 2.5), own
ranges, and the message header (Table 2.4). -/

namespace Sys2Proof.Machine

open Sys2Proof

/-! ### Values -/

/-- Types held as signed integers. -/
def tySigned : Ty → Bool
  | .i8 | .i16 | .i32 | .i64 | .fix32 => true
  | _ => false

/-- A value from its bytes, for bytes of the right length (Table 2.1). -/
def decodeVal (ty : Ty) (b : List Byte) : Val :=
  match sizeOf ty with
  | none => .bytes b
  | some n => if tySigned ty then .num (sext (8 * n) (leNat b)) else .num (leNat b)

/-- The bytes of a value (Table 2.1). -/
def encodeVal (ty : Ty) (v : Val) : List Byte :=
  match sizeOf ty with
  | none => valBytes v
  | some n => leBytes n (trunc (8 * n) (valInt v))

/-- What Table 2.1 rejects with 0x05 for every entry of the type. -/
def typeOk (ty : Ty) (v : Val) : Bool :=
  match ty with
  | .bool => valInt v == 0 || valInt v == 1
  | .f32 => f32Finite (valInt v).toNat
  | .time80 => decide ((valInt v).toNat / 2 ^ 48 ≤ 999999999)
  | .str => (valBytes v).length ≤ 255 && utf8Valid (valBytes v).length (valBytes v)
  | _ => true

/-- A value lies in an entry's own range. -/
def rngOk (ty : Ty) (r : Rng) (v : Val) : Bool :=
  match r with
  | .all => true
  | .int lo hi => decide (lo ≤ valInt v) && decide (valInt v ≤ hi)
  | .ints l => l.contains (valInt v)
  | .intOr lo hi l => (decide (lo ≤ valInt v) && decide (valInt v ≤ hi)) || l.contains (valInt v)
  | .real lo hi =>
    let q : Rat := if ty = .fix32 then (valInt v : Rat) / 65536 else ratOfF32 (valInt v).toNat
    decide (lo ≤ q) && decide (q ≤ hi)
  | .len n => decide ((valBytes v).length ≤ n)

/-- Conditions of a range that are not an interval: multiples, alignments and packed fields. -/
def extraOk (index sub : Nat) (v : Val) : Bool :=
  let n := (valInt v).toNat
  if 0x2200 ≤ index && index ≤ 0x221F && sub = 0x14 then bits n 7 0 ≤ 7 && bits n 15 8 ≤ 7 && bits n 23 16 ≤ 7
  else if 0x2680 ≤ index && index ≤ 0x269F && sub = 0x05 then valInt v != 0
  else if 0x2880 ≤ index && index ≤ 0x288F && sub = 0x0E then n % 64 == 0
  else if 0x3000 ≤ index && index ≤ 0x3057 && sub = 0x11 then
    (List.range 6).all (fun i => decide (bits n (8 * i + 7) (8 * i) ≤ 31))
  else if 0x3000 ≤ index && index ≤ 0x305F && sub = 0x22 then n == 0
  else if index = 0x7100 && sub = 0x0A then n == 0
  else if index = 0x5000 && sub = 0x0A then n % 64 == 0 && 64 ≤ n
  else if 0x6001 ≤ index && index ≤ 0x6FFF && sub = 0x06 then n % 4096 == 0
  else if 0x6001 ≤ index && index ≤ 0x6FFF && sub = 0x07 then n % 8 == 0
  else if index = 0x7F40 && sub = 0x08 then n % 50 == 0
  else true

/-- A value without what is written to its reserved bits and fields (R6): gain levels [31:24], shifts [63:48] (Table 10.13),
the flags and the last bytes of a biquad (Table 10.14). -/
def maskReserved (index sub : Nat) (v : Val) : Val :=
  let n := (valInt v).toNat
  let b := valBytes v
  if 0x2200 ≤ index && index ≤ 0x221F && sub = 0x14 then .num (n % 2 ^ 24 : Nat)
  else if 0x3000 ≤ index && index ≤ 0x3057 && sub = 0x11 then .num (n % 2 ^ 48 : Nat)
  else if 0x3000 ≤ index && index ≤ 0x3057 && (sub = 0x12 || sub = 0x13) && b.length = 28 then
    .bytes (b.take 25 ++ [BitVec.ofNat 8 (leAt b 25 1 % 2), 0, 0])
  else v

/-- A value in the whole of an entry's own range. -/
def valueOk (index sub : Nat) (r : Row) (v : Val) : Bool :=
  typeOk r.ty v && rngOk r.ty r.rng v && extraOk index sub v

/-! ### Items and messages -/

/-- Status codes of Table 2.6. -/
def stOk : Nat := 0x00
def stIndex : Nat := 0x01
def stSub : Nat := 0x02
def stType : Nat := 0x03
def stAccess : Nat := 0x04
def stRange : Nat := 0x05
def stStaged : Nat := 0x06
def stRejected : Nat := 0x07
def stBusy : Nat := 0x08
def stPersist : Nat := 0x09
def stMap : Nat := 0x0A
def stClamped : Nat := 0x0B
def stRestarting : Nat := 0x0C
def stLength : Nat := 0x0D

/-- An item of a request: its op without FINAL, its header and its value bytes. -/
structure ReqItem where
  op : Nat
  it : Item
  value : List Byte
  deriving DecidableEq, Repr

/-- READ and READ STAGED items carry no value bytes, whatever their length field (R541). -/
def opCarries (op : Nat) : Bool := op != 0x01 && op != 0x04

/-- The items of a body, `none` where the bytes do not match them (R540 step 5, R50). -/
def parseItems : Nat → List Byte → Option (List ReqItem)
  | 0, b => if b.isEmpty then some [] else none
  | n + 1, b =>
    if b.length < 12 then none
    else
      let op := leAt b 0 1
      let it : Item :=
        { final := bit op 7, type := leAt b 1 1, index := leAt b 2 2, sub := leAt b 4 1, length := leAt b 6 2,
          offset := leAt b 8 4 }
      let len := if opCarries (op % 128) then it.length else 0
      let padded := (len + 3) / 4 * 4
      if b.length < 12 + padded then none
      else
        match parseItems n (b.drop (12 + padded)) with
        | none => none
        | some r => some ({ op := op % 128, it := it, value := slice 12 len b } :: r)

/-- The bytes of an item of a response or a publication (R50, Table 2.5). -/
def itemBytes (op : Nat) (final : Bool) (it : Item) (status : Nat) (value : List Byte) : List Byte :=
  leBytes 1 (op % 128 + if final then 128 else 0) ++ leBytes 1 it.type ++ leBytes 2 it.index ++ leBytes 1 it.sub ++
    leBytes 1 status ++ leBytes 2 value.length ++ leBytes 4 it.offset ++ pad4 value

/-- A whole message with its header and trailer (Table 2.4, R49). -/
def message (type seq master count status : Nat) (body : List Byte) : List Byte :=
  let m := [0x4F, 0x5A, 0x01] ++ leBytes 1 type ++ leBytes 2 seq ++ leBytes 2 master ++ leBytes 2 count ++
    leBytes 2 body.length ++ [0x00] ++ leBytes 1 status ++ [0x00, 0x00] ++ body
  m ++ leBytes 4 (crc32c m)

/-- What the checks of R540 find in a transport unit. -/
inductive Checked where
  /-- Discarded at step 1 or 3, counted nowhere. -/
  | discard
  /-- Discarded at step 2. -/
  | badCrc
  /-- Answered at step 4 or 5 with a message status and no items. -/
  | answer (seq status : Nat)
  /-- Passed: the sequence and the items. -/
  | pass (seq : Nat) (items : List ReqItem)
  deriving DecidableEq, Repr

/-- The checks of R540, in their order. -/
def checkMessage (m : List Byte) : Checked :=
  let n := m.length
  if n < 20 || slice 0 2 m != [0x4F, 0x5A] then .discard
  else if leAt m (n - 4) 4 != crc32c (m.take (n - 4)) then .badCrc
  else if leAt m 3 1 != 0x01 then .discard
  else
    let seq := leAt m 4 2
    let count := leAt m 8 2
    if leAt m 2 1 != 0x01 || count < 1 || 121 < count then .answer seq stRange
    else if n != 16 + leAt m 10 2 + 4 then .answer seq stLength
    else
      match parseItems count (slice 16 (n - 20) m) with
      | none => .answer seq stLength
      | some items => .pass seq items

/-- Does an item with a value above 1,440 bytes occur (R50). -/
def itemTooLong (i : ReqItem) : Bool := 1440 < i.value.length

end Sys2Proof.Machine
end

