-- ==== Sys2Proof/Machine/Store.lean ====
section
/-! DEFINITION. The persistent store and the logs: writes made at once or held, the journal, the event log and the
critical log (R44 to R47, R469 to R472, R510, R511). A record's home is named by a key: a dictionary entry's key, or
one of the spaces below. -/

namespace Sys2Proof.Machine

open Sys2Proof

/-- Keys of the records that are no dictionary entries: critical log position p, and DRAM repair record r. -/
def criticalKey (p : Nat) : Nat := 2 ^ 24 + p
def repairKey (r : Nat) : Nat := 2 ^ 25 + r

/-- Bytes of a write in the holding of R45: the 16-byte journal header of R471 and the record (log 14). -/
def pwSize (v : Val) : Nat :=
  match v with
  | .num _ => 16 + 16
  | .bytes b => 16 + b.length

/-- A persistent write can be made at once: no supply hold, and the store die inside its window (R45). -/
def State.canPersist (s : State) : Bool := !(s.flag 0x4200 0x04 0) && !(s.flag 0x4100 0x03 7)

/-- Bytes held, 5100:06 (R45). -/
def heldBytes (st : StoreSt) : Nat := (st.held.map (·.size)).sum

/-- The holding of R45. -/
def heldMax : Nat := 65536

/-- The journal of Table 13.12, and the bytes that its entries take: header, record, commit word and done word (R471, log 14). -/
def journalMax : Nat := 524288
def journalFill (st : StoreSt) : Nat := (st.under.map (fun w => w.size + 16)).sum

/-- The journal has room for a write of `size` bytes (R471). -/
def journalRoom (st : StoreSt) (size : Nat) : Bool := decide (journalFill st + (size + 16) ≤ journalMax)

/-- A write of `size` bytes would take the held writes beyond 64 KiB: it would be held, the condition of R45 lasting, earlier
writes being held still, or the journal being full (R45, R46, R471). -/
def State.wouldOverflow (s : State) (size : Nat) : Bool :=
  (!s.canPersist || !s.store.held.isEmpty || !journalRoom s.store size) && decide (heldMax < heldBytes s.store + size)

/-- Persistence state with writes held: 1, or 2 at 64 KiB; state 3 stays until the host clears it (Table 2.3). -/
def heldState (st : StoreSt) (full : Bool) : Nat :=
  if st.pstate = 3 then 3 else if full then 2 else 1

/-- A write is refused: counted, and 7100:0A reads 2 (R46, Table 2.3). -/
def storeRefuse (st : StoreSt) : StoreSt :=
  { st with refusals := min (st.refusals + 1) 0xFFFFFFFF, pstate := heldState st true }

/-- The store after a write has been handed to it (R44, R45, R46). Once die shut-down has stopped the controller, a write goes
nowhere, though the live value has changed with status 0x00: the spec does not say what it does (log 147, DESIGN CHOICE). -/
def storePersist (can : Bool) (st : StoreSt) (key : Nat) (v : Val) : StoreSt :=
  if st.stopped then st
  else if can && st.held.isEmpty && journalRoom st (pwSize v) then { st with under := st.under ++ [({ key := key, val := v, size := pwSize v } : PWrite)] }
  else if heldMax < heldBytes st + pwSize v then storeRefuse st
  else
    let st' := { st with held := st.held ++ [({ key := key, val := v, size := pwSize v } : PWrite)] }
    { st' with pstate := heldState st (heldBytes st' = heldMax) }

/-- A persistent write (R44): under way at once, or held (R45), or refused (R46). -/
def State.persist (s : State) (key : Nat) (v : Val) : State :=
  { s with store := storePersist s.canPersist s.store key v }

/-- An RP entry takes a committed value, which is persisted when the live value changes (R44, R64). -/
def State.putCommitted (s : State) (index sub : Nat) (v : Val) : State :=
  if s.val index sub = v then s else (s.put index sub v).persist (dkey index sub) v

/-- An RP entry takes a value that the device gives it, persisted when it changes (R44); a change that would take the held writes
beyond 64 KiB is refused, and the live value stays (R46). -/
def State.putRP (s : State) (index sub : Nat) (v : Val) : State :=
  if s.val index sub = v then s
  else if s.wouldOverflow (pwSize v) then { s with store := storeRefuse s.store }
  else (s.put index sub v).persist (dkey index sub) v

/-- The writes at the front of a list that the journal has room for, and the rest. -/
def journalFits : Nat → List PWrite → List PWrite × List PWrite
  | _, [] => ([], [])
  | room, w :: r =>
    if w.size + 16 ≤ room then (w :: (journalFits (room - (w.size + 16)) r).1, (journalFits (room - (w.size + 16)) r).2)
    else ([], w :: r)

/-- The held writes flushed to the store in the order they were made (R45), as far as the journal has room (R471). -/
def storeFlush (st : StoreSt) : StoreSt :=
  let f := journalFits (journalMax - journalFill st) st.held
  let st' := { st with under := st.under ++ f.1, held := f.2 }
  { st' with pstate := if f.2.isEmpty then (if st.pstate = 3 then 3 else 0) else heldState st (heldBytes st' = heldMax) }

/-- The oldest write under way writes its commit word, is copied home and writes its done word (R471). -/
def storeCommit (st : StoreSt) : StoreSt :=
  match st.under with
  | [] => st
  | w :: r =>
    let st1 := { st with under := r, seq := st.seq + 1, writes := (st.writes + 1) % 2 ^ 64 }
    if w.key < 2 ^ 24 then
      -- an entry's record
      { st1 with image := tins w.key w.val (terase st1.image w.key) }
    else if w.key < 2 ^ 25 then
      { st1 with critical := tput st1.critical [] (w.key - 2 ^ 24) (valBytes w.val) }
    else
      let b := valBytes w.val
      { st1 with repairs := st1.repairs.filter (fun x => !(x.1 == leAt b 0 2 && x.2.1 == leAt b 2 8)) ++
          [(leAt b 0 2, leAt b 2 8, leAt b 10 1 == 1)] }

/-- D2 stops the store controller: a write whose commit word is not written is discarded (R47, R472). -/
def storeCut (st : StoreSt) : StoreSt :=
  if st.under.isEmpty then { st with stopped := true }
  else { st with stopped := true, under := [], cuts := min (st.cuts + 1) 0xFFFFFFFF, lost := true }

/-- A loss of supply (a reset of code 1 or 2): held writes and writes under way are lost (R45, R47). -/
def storePowerOff (st : StoreSt) : StoreSt :=
  if st.held.isEmpty && st.under.isEmpty then st
  else { st with held := [], under := [], lost := true }

/-! ### Logs -/

/-- The position of the critical log that entry number n since the last clear takes: 0 to 2,047 once, then a ring over
2,048 to 4,095 (R511). -/
def criticalPos (n : Nat) : Nat := if n < 2048 then n else 2048 + (n - 2048) % 2048

/-- The 32 bytes of an event log entry (Table 14.13). -/
def eventBytes (seq t sev source code unit detail : Nat) : List Byte :=
  leBytes 8 seq ++ leBytes 10 t ++ leBytes 1 sev ++ leBytes 1 source ++ leBytes 2 code ++ leBytes 2 unit ++
    leBytes 8 detail

/-- The 64 bytes of a critical log entry (Table 14.14). -/
def criticalBytes (s : State) (event : List Byte) (extra : Nat) : List Byte :=
  event ++ leBytes 4 (s.nat 0x7100 0x0B) ++ leBytes 4 (s.nat 0x1000 0x06) ++ leBytes 8 s.upNs ++
    leBytes 1 (s.nat 0x4200 0x01) ++ List.replicate 7 0 ++ leBytes 8 extra

/-- The event log with an entry added: the oldest of 65,536 is overwritten (R510). -/
def svcLog (r : RecSt) (e : List Byte) : RecSt :=
  { r with
    events := if r.events.length < 65536 then r.events ++ [e] else r.events.drop 1 ++ [e]
    eventSeq := (r.eventSeq + 1) % 2 ^ 64
    overwritten := if r.events.length < 65536 then r.overwritten else r.overwritten + 1 }

/-- The store with a critical log entry added; one that R46 refuses is kept in the event log only (R511). -/
def storeCritical (can full : Bool) (st : StoreSt) (e : List Byte) : StoreSt :=
  if full then { st with criticalRefused := min (st.criticalRefused + 1) 0xFFFFFFFF }
  else
    { storePersist can st (criticalKey (criticalPos st.criticalNext)) (.bytes e) with
      criticalNext := st.criticalNext + 1 }

/-- An event is logged: entries below 7100:09 are not written; severity 3 and 4 also go to the critical log (R510). -/
def State.logWith (s : State) (sev source code unit detail extra : Nat) : State :=
  let e := eventBytes s.svc.eventSeq (time80 s.taiNs) sev source code (unit % 65536) detail
  { s with
    svc := if sev < s.nat 0x7100 0x09 then s.svc else svcLog s.svc e
    store := if 3 ≤ sev && s.nat 0x7100 0x09 ≤ sev then
        storeCritical s.canPersist (s.wouldOverflow 80) s.store (criticalBytes s e extra)
      else s.store }

/-- An event of a severity is logged; the code and details of its kind are the part's own. -/
def State.logAt (s : State) (sev source kind unit : Nat) : State :=
  s.logWith sev source (Config.eventCode kind % 65536) unit (Config.eventDetail kind % 2 ^ 64)
    (Config.eventDetail kind % 2 ^ 64)

/-- An event whose severity the spec does not give. -/
def State.logEvent (s : State) (source kind unit : Nat) : State := s.logAt (Config.eventSeverity kind % 5) source kind unit

/-- An event that the spec sends to the critical log as well: severity 3 or 4 (R490, R510). -/
def State.logCritical (s : State) (source kind unit : Nat) : State :=
  s.logAt (3 + Config.eventSeverity kind % 2) source kind unit

/-! ### Recoveries (R489, R490) -/

/-- The unit of a restart RS1 to RS12 by its rank in Table 1.1; the queue engine has none there. -/
def restartSource (rs : Nat) : Nat :=
  match rs with
  | 1 | 2 => 4
  | 3 => 5
  | 4 | 5 => 10
  | 6 => 2
  | 7 => Config.eventCode 107 % 16
  | 8 => 1
  | 10 => 6
  | 11 => 7
  | _ => 3

/-- A recovery by restart `rs` of Table 14.5, causing a dark-time class (0 none), complete within `dur`: logged, counted,
shown; a fault inside the time of an earlier recovery is counted in 7000:19. -/
def State.recover (s : State) (rs cls dur unit : Nat) : State :=
  let s1 := ((s.logCritical (restartSource rs) (100 + rs) unit).bump 0x7000 0x17).putN 0x7000 0x18
    (rs * 2 ^ 56 + cls * 2 ^ 48 + s.upUs % 2 ^ 48)
  let s2 := if s.clk.up < s.svc.recoverEnd then s1.bump 0x7000 0x19 else s1
  { s2 with svc := { s2.svc with recoverEnd := max s.svc.recoverEnd (s.clk.up + dur) } }

/-- A switch-in of kind S1 to S7 (Table 1.11) has taken effect: counted, and shown with status 0 (7000:07, :09). -/
def State.switchIn (s : State) (kind unit spare : Nat) : State :=
  (s.bump 0x7000 7).putN 0x7000 9 (kind * 2 ^ 56 + unit % 65536 * 2 ^ 32 + spare % 65536 * 2 ^ 16)

end Sys2Proof.Machine
end

