-- ==== Sys2Proof/Machine/Lane.lean ====
section
/-! DEFINITION. Strings, lanes and control blocks: which lane carries which string of which course, and the blocks a
lane sends (R119 to R121, R306 to R313, R333). -/

namespace Sys2Proof.Machine

open Sys2Proof

/-! ### Indices -/

/-- Index of course k in 2200, of its reference entries, and of a lane's placement and emitter entries (Table 2.7). -/
def crs (k : Nat) : Nat := 0x2200 + k
def refIx (k : Nat) : Nat := 0x1220 + k
def laneIx (l : Nat) : Nat := if l < 256 then 0x2000 + l else 0x2100 + (l - 256)
def emitIx (l : Nat) : Nat := if l < 256 then 0x2000 + l else 0x27F0 + (l - 256)

/-- Course state, request, hush causes; device state (Tables 1.4, 1.5, 1.2). -/
def State.cst (s : State) (k : Nat) : Nat := s.nat (crs k) 1
def State.creq (s : State) (k : Nat) : Nat := s.nat (crs k) 2
def State.causes (s : State) (k : Nat) : Nat := s.nat (crs k) 3
def State.dst (s : State) : Nat := s.nat 0x4200 1

/-! ### Strings -/

/-- The strings of course k (R119). -/
def State.stringsOf (s : State) (k : Nat) : List Nat :=
  (List.range (s.nat (crs k) 6)).map (fun i => s.nat (crs k) 5 + i)

/-- String k holds at beam row r and primary p (R121). -/
def State.stringAt (s : State) (k r p : Nat) : Nat :=
  s.nat (crs k) 5 + if s.nat (crs k) 9 = 0 then r * s.nat (crs k) 8 + p else p * s.nat (crs k) 7 + r

/-- Beam row and primary of a string of course k (R121). -/
def State.rowPrimary (s : State) (k str : Nat) : Nat × Nat :=
  let i := str - s.nat (crs k) 5
  if s.nat (crs k) 9 = 0 then (i / s.nat (crs k) 8, i % s.nat (crs k) 8)
  else (i % s.nat (crs k) 7, i / s.nat (crs k) 7)

/-- The course that holds a string (R119). -/
def State.courseOfString (s : State) (str : Nat) : Option Nat :=
  allCourses.find? (fun k => decide (s.nat (crs k) 5 ≤ str) && decide (str < s.nat (crs k) 5 + s.nat (crs k) 6))

/-- The lane that carries a string, 2000 + s:04 (R333). -/
def State.laneOf (s : State) (str : Nat) : Nat := s.nat (0x2000 + str) 4

/-- The lanes that carry the strings of course k. -/
def State.lanesOf (s : State) (k : Nat) : List Nat := (s.stringsOf k).map s.laneOf

/-- The string that a lane carries (R333). A spare's string is the one whose carrying lane it is. -/
def State.stringOn (s : State) (l : Nat) : Option Nat :=
  if l < 256 then (if s.laneOf l = l then some l else none)
  else
    (s.dict.find? (fun p => decide (0x2000 ≤ p.1 / 256) && decide (p.1 / 256 ≤ 0x20FF) && p.1 % 256 == 4 &&
      valInt p.2 == (l : Int))).map (fun p => p.1 / 256 - 0x2000)

/-- The course whose string a lane carries. -/
def State.courseOfLane (s : State) (l : Nat) : Option Nat :=
  match s.stringOn l with
  | none => none
  | some str => s.courseOfString str

/-- The course of a lane: that of its string, else the one whose return lane reports it (R331, R333). -/
def State.laneCourse (s : State) (l : Nat) : Option Nat :=
  match s.courseOfLane l with
  | some k => some k
  | none => (s.lanesAt l).reporters.head?

/-- Total latency L of a lane (R140, R315). -/
def State.latency (s : State) (l : Nat) : Nat := s.nat (laneIx l) 8

/-- The largest L among the lanes of course k (R322). -/
def State.maxLatency (s : State) (k : Nat) : Nat := (s.lanesOf k).foldl (fun m l => max m (s.latency l)) 0

/-- Consort frequency f_c of course k (R112). -/
def State.consortHz (s : State) (k : Nat) : Rat :=
  (s.nat (refIx k) 0x0C : Rat) * (s.nat (refIx k) 3 : Rat) / (2 * (s.nat (refIx k) 4 : Rat))

/-! ### Control blocks -/

/-- One bit step of CRC-8, polynomial 0x07 (R308). -/
def crc8Step : Nat → Nat → Nat
  | 0, c => c
  | n + 1, c => crc8Step n (if 128 ≤ c then (2 * c) % 256 ^^^ 7 else 2 * c)

/-- CRC-8 of R308 over bytes. -/
def crc8 (l : List Byte) : Nat := l.foldl (fun c b => crc8Step 8 (c ^^^ b.toNat)) 0

/-- One bit step of CRC-16, polynomial 0x1021 (R310). -/
def crc16Step : Nat → Nat → Nat
  | 0, c => c
  | n + 1, c => crc16Step n (if 32768 ≤ c then (2 * c) % 65536 ^^^ 0x1021 else 2 * c)

/-- CRC-16 of a span (R310): each symbol as two bytes, bits [15:8] first. -/
def crc16 (l : List Byte) : Nat := l.foldl (fun c b => crc16Step 8 (c ^^^ (b.toNat * 256))) 0xFFFF

/-- A control block's payload (Table 9.3); `fields` are bits [55:16]. -/
def ctlPayload (type seq fields : Nat) : Nat :=
  let lo := type + seq % 256 * 256 + fields % 2 ^ 40 * 65536
  lo + crc8 (leBytes 7 lo) * 2 ^ 56

/-- Type codes of the string lane (Table 9.4). -/
def blkIdle : Nat := 0x00
def blkDrone : Nat := 0x1E
def blkNut : Nat := 0x2D
def blkBridge : Nat := 0x33
def blkFrame : Nat := 0x4B
def blkHush : Nat := 0x55
def blkAlign : Nat := 0x66
def blkProbe : Nat := 0x78

/-- First and last data block of a plan's span. -/
def LanePlan.first (p : LanePlan) : Nat := p.nutSlot / 4
def LanePlan.last (p : LanePlan) : Nat := p.bridgeSlot / 4

/-- The first block position whose first bit has not begun to leave the balls at slot `t`: block b leaves at 4b + 24
(R314, R319). -/
def firstFreeBlock (t : Nat) : Nat := (t + 4 - 24) / 4

/-- The first position that a lane can still fill. -/
def State.blockNow (s : State) : Nat := firstFreeBlock s.clk.slot

/-- The effective code limit of a string (R377 to R379): the capo's own copy where a change waits for a turnaround. -/
def State.codeLimit (s : State) (str : Nat) : Nat :=
  match tfind s.capo.code str with
  | some v => v
  | none => leAt (s.blob 0x3800 0x10) (2 * str) 2

/-- The effective mean-level limit of a string (R377, R378). -/
def State.meanLimit (s : State) (str : Nat) : Nat :=
  match tfind s.capo.mean str with
  | some v => v
  | none => leAt (s.blob 0x3800 0x11) (2 * str) 2

/-- Course k is satisfied (R386). -/
def State.satisfied (s : State) (k : Nat) : Bool :=
  s.capo.interlock && s.clk.refclk && !s.capo.shutLatch && s.nat 0x3800 0x01 == 1 && (s.capoCAt k).trips == 0 &&
    decide (16 ≤ s.nat (0x3810 + k) 8) &&
    (s.lanesOf k).all (fun l => (s.lanesAt l).state == 2 || (s.lanesAt l).state == 3)

/-- The capo permits emission on course k (R386). -/
def State.permitted (s : State) (k : Nat) : Bool := s.satisfied k && (s.capoCAt k).armed

/-- The string that a lane's drones name: its own, or the one a decided switch-in brings (R313, R335): to a spare, or back
to the lane of the string's number. A lane that is to give up its string at a frame start still names it until then. -/
def State.droneString (s : State) (l : Nat) : Option Nat :=
  match s.stringOn l with
  | some str => some str
  | none =>
    if l < 256 then
      let x := s.sparesAt (s.laneOf l - 256)
      if 256 ≤ s.laneOf l ∧ x.decided = true ∧ x.want = none then some l else none
    else if (s.sparesAt (l - 256)).decided then (s.sparesAt (l - 256)).want else none

/-- The permit bit of a lane's drones (R313). -/
def State.permit (s : State) (l : Nat) : Bool :=
  match s.droneString l with
  | none => false
  | some str =>
    match s.courseOfString str with
    | none => false
    | some k => (s.cst k == 3 || s.cst k == 4) && s.permitted k && (s.lanesAt l).state == 2

/-- The fields of a DRONE of a lane (Table 9.5); `force0` for one that carries permit 0 whatever R313 says. -/
def State.droneFields (s : State) (l : Nat) (force0 : Bool) : Nat :=
  let pm : Nat := if !force0 && s.permit l then 1 else 0
  match s.droneString l with
  | none => l * 2 ^ 31
  | some str =>
    l * 2 ^ 31 + 2 ^ 30 + str * 2 ^ 22 + (s.courseOfString str).getD 0 * 2 ^ 17 + pm * 2 ^ 16 +
      s.codeLimit str * 2 ^ 4

/-! ### The transmit queue (R156, R306, R312, R314, R319, R320) -/

/-- A lane sends blocks: TRAINING, UP, HUSHED, or RETRAIN after its 20 µs (Table 9.9). -/
def LaneSt.sends (x : LaneSt) : Bool :=
  x.state == 1 || x.state == 2 || x.state == 3 || (x.state == 4 && x.quietDone)
def State.sends (s : State) (l : Nat) : Bool := (s.lanesAt l).sends

/-- A block joins a queue at its position. Where two fall in one position, the one of the lower rank takes it, of equal ranks the
earlier, and the other takes the next free position (R312, R320). -/
def txInsert : List TxBlock → TxBlock → List TxBlock
  | [], x => [x]
  | y :: r, x =>
    if x.pos < y.pos then x :: y :: r
    else if y.pos < x.pos then y :: txInsert r x
    else if x.rank < y.rank then x :: txInsert r { y with pos := y.pos + 1 }
    else y :: txInsert r { x with pos := x.pos + 1 }

/-- A block is queued on a lane, at a position that has not begun to leave. -/
def State.queueBlock (s : State) (l : Nat) (x : TxBlock) : State :=
  let b := max x.pos s.blockNow
  s.lanesPut l { s.lanesAt l with txq := txInsert (s.lanesAt l).txq { x with pos := b } }

/-- A control block of a type with its fields, and a DRONE, queued on a lane. -/
def State.queueControl (s : State) (l b rank type fields : Nat) : State :=
  s.queueBlock l { pos := b, rank := rank, kind := .control type fields }
def State.sendDrone (s : State) (l b : Nat) : State := s.queueBlock l { pos := b, rank := 2, kind := .drone false }

/-- A hush cause, or a stop, of the course of a lane takes effect at its next nut: the DRONE that closes the last span carries
permit 0 already (R320). -/
def State.closingHush (s : State) (l : Nat) : Bool :=
  match s.courseOfLane l with
  | some k => s.causes k != 0 || (s.cst k == 4 && (s.creq k == 0 || (s.mirAt k).failed))
  | none => false

/-- `n` bits of payload through the scrambler x⁵⁸ + x³⁹ + 1, from bit 0 on: the scrambled bits, and the last 58 of them
(R306, IEEE 802.3 Clause 49). -/
def scramble : Nat → Nat → Nat → Nat × Nat
  | 0, _, st => (0, st)
  | n + 1, d, st =>
    let o := (d + st / 2 ^ 38 + st / 2 ^ 57) % 2
    let r := scramble n (d / 2) ((2 * st + o) % 2 ^ 58)
    (o + 2 * r.1, r.2)

/-- The payload of `n` received bits, and the last 58 received (R306). -/
def descramble : Nat → Nat → Nat → Nat × Nat
  | 0, _, st => (0, st)
  | n + 1, w, st =>
    let o := (w + st / 2 ^ 38 + st / 2 ^ 57) % 2
    let r := descramble n (w / 2) ((2 * st + w % 2) % 2 ^ 58)
    (o + 2 * r.1, r.2)

/-- The 66 bits of a block, the first sent in bit 0: sync header 01 (data) or 10 (control), then the scrambled payload (R306). -/
def wireOf (data : Bool) (scrambled : Nat) : Nat := (if data then 2 else 1) + 4 * scrambled

/-- The payload that leaves at position b: the block queued there, else IDLE; data or not (R307, R308, R310, R312). -/
def State.payloadAt (s : State) (l b : Nat) : Bool × Nat :=
  let x := s.lanesAt l
  match x.txq.find? (fun y => y.pos == b) with
  | none => (false, ctlPayload blkIdle x.seq 0)
  | some y =>
    match y.kind with
    | .data p => (true, p)
    | .drone closing => (false, ctlPayload blkDrone x.seq (s.droneFields l (closing && s.closingHush l)))
    | .align => (false, ctlPayload blkAlign x.seq (b % 2 ^ 40))
    | .control type fields => (false, ctlPayload type x.seq fields)

/-- Block b of a lane leaves the balls (R306 to R308, R314). -/
def State.departBlock (s : State) (b l : Nat) : State :=
  let x := s.lanesAt l
  let p := s.payloadAt l b
  let w := scramble 64 p.2 x.scr
  (s.lanesPut l { x with
    txq := x.txq.filter (fun y => decide (b < y.pos))
    seq := if p.1 then x.seq else (x.seq + 1) % 256
    scr := w.2 }).send (if p.1 then .data l b p.2 (wireOf true w.1) else .block l b p.2 (wireOf false w.1))

/-- Block b of every lane that sends leaves (R311, R314). -/
def State.transmit (s : State) (b : Nat) : State :=
  s.each ((s.lanes.filter (fun p => p.2.sends)).map (·.1)) (fun s l => s.departBlock b l)

/-- A lane ceases transitions: its queue is empty. -/
def LaneSt.quiet (x : LaneSt) (st : Nat) : LaneSt := { x with state := st, burst := none, txq := [] }

/-- The next 16 positions that no span takes carry the HUSH copies of a lane, from position b on (Table 9.5, R319, R320). -/
def State.hushCopies (s : State) (l b cause epoch : Nat) : State :=
  s.each (List.range 16) (fun s i => s.queueControl l b 1 blkHush (i * 2 ^ 36 + cause * 2 ^ 32 + epoch * 2 ^ 24))

/-- A lane that sends control blocks takes a hush event: next epoch, 16 copies, lane state HUSHED from UP (R319, R320,
Table 9.9). A second event during the copies of a first restarts the burst, and keeps the first one's b_h (Y4). -/
def State.hushLane (s : State) (b cause : Nat) (l : Nat) : State :=
  let x := s.lanesAt l
  if x.sends then
    let e := (x.epoch + 1) % 256
    let first := match x.burst with
      | some u => if x.txq.any (fun y => y.rank == 1) then u.bh else b
      | none => b
    let y := { x with
      epoch := e
      hushEvents := min (x.hushEvents + 1) 0xFFFFFFFF
      state := if x.state = 2 then 3 else x.state
      burst := some { bh := first, cause := cause }
      txq := x.txq.filter (fun y => y.rank != 1) }
    (s.lanesPut l y).hushCopies l b cause e
  else s

end Sys2Proof.Machine
end

