-- ==== Sys2Proof/Machine/Schedule.lean ====
section
/-! DEFINITION. The loop engine's schedule (R340): 39 issue positions in a tick, one fixed position and tick offset per
slot. The part's choice among the assignments that exist is the first that fits, by rising period and slot number (log 21). -/

namespace Sys2Proof.Machine

open Sys2Proof

/-- A slot's assignment: slot, issue position, tick offset, period. -/
structure Assign where
  slot : Nat
  pos : Nat
  off : Nat
  per : Nat
  deriving DecidableEq, Repr

/-- Two steps meet in some tick when their offsets agree modulo the common divisor of their periods. -/
def meet (n o m o2 : Nat) : Bool := o % (Nat.gcd n m) == o2 % (Nat.gcd n m)

/-- The first free offset of a period on one position. -/
def freeOffset (l : List Assign) (p n : Nat) : Option Nat :=
  let on := l.filter (fun a => a.pos == p)
  (List.range n).find? (fun o => on.all (fun a => !meet n o a.per a.off))

/-- The first free position and offset of a period; a position that a slot of period 1 holds is full. -/
def freePlace (l : List Assign) (n : Nat) : Option (Nat × Nat) :=
  (List.range 39).findSome? (fun p =>
    if l.any (fun a => a.pos == p && a.per == 1) then none else (freeOffset l p n).map (fun o => (p, o)))

/-- A slot among others by rising period: the order in which new slots are placed, in which periods that are powers of two always
fit (R340). -/
def byPeriod : List (Nat × Nat) → Nat × Nat → List (Nat × Nat)
  | [], x => [x]
  | y :: r, x => if x.2 < y.2 then x :: y :: r else y :: byPeriod r x

/-- Assignments for every slot wanted, starting from those that are kept. -/
def placeAll : List (Nat × Nat) → List Assign → Option (List Assign)
  | [], l => some l
  | (s, n) :: r, l =>
    if l.any (fun a => a.slot == s) then placeAll r l
    else
      match freePlace l n with
      | none => none
      | some (p, o) => placeAll r (l ++ [({ slot := s, pos := p, off := o, per := n } : Assign)])

/-- The load: the sum of 1/n (R340). -/
def loadOf (want : List (Nat × Nat)) : Rat := sumR (want.map (fun w => 1 / (w.2 : Rat)))

/-- The assignment of the slots wanted (slot, period): unchanged slots keep theirs, unless the new ones would not
otherwise fit; then every slot is repacked, which the second component tells (R340). -/
def fitSlots (want : List (Nat × Nat)) (have_ : List Assign) : Option (List Assign × Bool) :=
  if 39 < loadOf want then none
  else
    let kept := have_.filter (fun a => want.any (fun w => w.1 == a.slot && w.2 == a.per))
    let order := want.foldl byPeriod []
    match placeAll order kept with
    | some l => some (l, false)
    | none =>
      match placeAll order [] with
      | some l => some (l, true)
      | none => none

/-- The assignments in force, 3000 + s:28. -/
def State.assigns (s : State) : List Assign :=
  (List.range 88).filterMap (fun i =>
    if (s.slotsAt i).per = 0 then none
    else
      let v := s.nat (0x3000 + i) 0x28
      some { slot := i, pos := bits v 15 8, off := bits v 31 16, per := (s.slotsAt i).per })

/-- The slots that are not off, with their periods. -/
def State.slotsOn (s : State) : List (Nat × Nat) :=
  (List.range 88).filterMap (fun i =>
    if s.nat (0x3000 + i) 1 = 0 then none else some (i, s.nat (0x3000 + i) 2))

/-- The schedule brought to the slots that are not off (R340). -/
def State.reschedule (s : State) : State :=
  match fitSlots s.slotsOn s.assigns with
  | none => s
  | some (l, repacked) =>
    let s1 := s.each (List.range 88) (fun s i =>
      match l.find? (fun a => a.slot == i) with
      | none => (s.putN (0x3000 + i) 0x28 0).slotsPut i { s.slotsAt i with per := 0 }
      | some a => (s.putN (0x3000 + i) 0x28 (a.off * 65536 + a.pos * 256)).slotsPut i { s.slotsAt i with per := a.per })
    let s2 := s1.putX 0x3100 1 (loadOf s.slotsOn)
    if repacked then s2.bump 0x3100 0x10 else s2

/-! ### The drive generator (R359, R364) -/

/-- The number of the 20 MS/s conversion latest made at an uptime (R344, R347, R359). -/
def convIndex (up : Nat) : Nat := up / (50 * tNs)

/-- The phase that a drive frequency advances in one conversion, in steps of 20 MHz / 2⁴⁸ (R359). -/
def phaseStep (f : Rat) : Int := roundEven (f * 2 ^ 48 / 20000000)

/-- The drive frequency at conversion n: a linear chirp while one runs, else f. -/
def MirSt.hzAt (m : MirSt) (n : Nat) : Rat :=
  if m.chirpLen = 0 then m.f else m.f - (m.f - m.chirpTo) * (min (n - m.accAt) m.chirpLen : Nat) / (m.chirpLen : Nat)

/-- The phase of the drive generator at conversion n, in 2⁻⁴⁸ turns. -/
def MirSt.phaseAt (m : MirSt) (n : Nat) : Int :=
  if m.chirpLen = 0 then m.acc + phaseStep m.f * ((n : Int) - (m.accAt : Int))
  else
    let d := min (n - m.accAt) m.chirpLen
    m.acc + phaseStep (m.f - (m.f - m.chirpTo) * (d : Nat) / (2 * m.chirpLen : Nat)) * (d : Int)

end Sys2Proof.Machine
end

