-- ==== Sys2Proof/Machine/Course.lean ====
section
/-! DEFINITION. The device and course state machines: the transitions of Tables 1.3 and 1.6, the hush causes of
Table 1.7, the emission ledger, and the times of R507. A transition is a named operation; the commands say when it is
taken. -/

namespace Sys2Proof.Machine

open Sys2Proof

/-! ### Availability (R507, R508) -/

/-- Class of Table 14.10 of a course in demand that is not LIT: the first that applies; `none` where none does. -/
def State.darkClass (s : State) (k : Nat) : Option Nat :=
  let c := s.causes k
  let rt := (s.lanesOf k).filterMap (fun l => if (s.lanesAt l).state = 4 then some (s.lanesAt l).retrainClass else none)
  let dead := (s.slotsAt (2 * k)).dead || (s.slotsAt (2 * k + 1)).dead
  if rt.contains 1 then some 1
  else if bit c 0 || bit c 1 || bit c 2 || (bit c 3 && !dead) || bit c 6 || bit c 7 || bit c 10 || rt.contains 2 then some 2
  else if bit c 8 || bit c 9 || rt.contains 3 || (c == 0 && s.cst k == 3) then some 3
  else if bit c 4 || (bit c 3 && dead) then some 4
  else none

/-- The class in which the device accumulates dark time now: the first in the table order over the courses in demand. -/
def State.darkClassNow (s : State) : Option Nat :=
  let cs := (s.svc.demand.filter (fun k => s.cst k != 4)).filterMap s.darkClass
  [1, 2, 3, 4].find? (fun c => cs.contains c)

/-- Demand time and the four dark times up to now, in 2⁻¹⁶ ns. -/
def State.timesNow (s : State) : List Nat :=
  let dt := s.clk.up - s.svc.at_
  let d := if s.svc.demand.isEmpty then 0 else dt
  let cls := s.darkClassNow
  match s.svc.times with
  | [t0, t1, t2, t3, t4] =>
    [t0 + d, t1 + if cls = some 1 then d else 0, t2 + if cls = some 2 then d else 0, t3 + if cls = some 3 then d else 0,
     t4 + if cls = some 4 then d else 0]
  | t => t

/-- The times of R507 brought up to now, before anything that they depend on changes. -/
def State.accrue (s : State) : State := { s with svc := { s.svc with times := s.timesNow, at_ := s.clk.up } }

/-- A dark bow of a course in demand adds its length to a class (R507). -/
def State.darkBowTime (s : State) (k cls slots : Nat) : State :=
  if s.svc.demand.contains k then
    { s with svc := { s.svc with times := s.svc.times.modify cls (· + slots * tSlot) } }
  else s

/-! ### The emission ledger (R28, R491, R492) -/

/-- A dark bow of course k recorded: the latest 1,024 records are kept; :02 and :05 of 7020 + k count. -/
def State.ledgerAdd (s : State) (k : Nat) (r : LedgerRec) : State :=
  let l := s.ledgerAt k
  ((s.ledgerPut k ((if l.length < 1024 then l else l.drop 1) ++ [r])).add64 (0x7020 + k) 2 1).add64 (0x7020 + k) 5 1

/-- A bow of course k that completed its span on every lane (R492). -/
def State.ledgerDone (s : State) (k bow : Nat) : State :=
  (s.add64 (0x7020 + k) 1 1).putN (0x7020 + k) 3 (bow % 2 ^ 48)

/-- The 16 bytes of a ledger record (Table 14.6). -/
def ledgerBytes (r : LedgerRec) : List Byte :=
  leBytes 8 r.slot ++ leBytes 6 r.bow ++ leBytes 1 r.cause ++ leBytes 1 (if r.cut then 1 else 0)

/-- Dark-time class of a dark bow of a LIT course by its ledger cause (Table 14.10): underruns and course engine restarts
are internal, model-dark and laser blank bows external; hush causes are accounted by the course's state. -/
def darkBowClass (cause : Nat) : Option Nat :=
  if cause = 0x10 ∨ cause = 0x13 then some 1 else if cause = 0x11 ∨ cause = 0x12 then some 2 else none

/-- A record of a transition into HUSHED that darkened no bow (R28): it counts as written, and not as a dark bow (log 87). -/
def State.ledgerNote (s : State) (k : Nat) (r : LedgerRec) : State :=
  let l := s.ledgerAt k
  (s.ledgerPut k ((if l.length < 1024 then l else l.drop 1) ++ [r])).add64 (0x7020 + k) 5 1

/-- The transition into HUSHED that still waits for a record of course k is recorded by itself (R28). -/
def State.hushNoted (s : State) (k : Nat) : State :=
  match (s.plcAt k).hushed with
  | some (slot, bow, cause) =>
    (s.plcPut k { s.plcAt k with hushed := none }).ledgerNote k { slot := slot, bow := bow, cause := cause, cut := false }
  | none => s

/-- A dark bow recorded, with its time; a transition into HUSHED in that bow is recorded with it (R28). -/
def State.darkBow (s : State) (k : Nat) (r : LedgerRec) : State :=
  let s1 := (s.plcPut k { s.plcAt k with hushed := none }).ledgerAdd k r
  match darkBowClass r.cause with
  | none => s1
  | some c => s1.darkBowTime k c (s.bowAt k).hp.floor.toNat

/-- The lowest-numbered hush cause bit set; 0 where none is (R492). -/
def lowestCause (c : Nat) : Nat := ((List.range 11).find? (fun i => bit c i)).getD 0

/-! ### Tuning runs of a course (R412 to R417) -/

/-- The tuning domains of course k: optics, mirror, and that of its capture input (Table 12.2). -/
def State.domainsOf (s : State) (k : Nat) : List Nat :=
  [k, 32 + k] ++ (if s.nat (0x2800 + k) 1 < 34 then [64 + s.nat (0x2800 + k) 1] else [])

/-- Bit i of the status of every domain of course k, 4010 + d:04. -/
def State.domainBit (s : State) (k i : Nat) (b : Bool) : State :=
  s.each (s.domainsOf k) (fun s d => s.setFlag (0x4010 + d) 4 i b)

/-- A run of course k may proceed: LIT and no supply hold (R413), and no management pair restarting in place (R497). -/
def State.runMay (s : State) (k : Nat) : Bool := s.cst k == 4 && !(s.flag 0x4200 0x04 0) && !s.fw.restarting

/-- A requested run of course k starts when it may: its domains are stale until it ends (R413, R414). -/
def State.runStart (s : State) (k : Nat) : State :=
  if (s.runsAt k).pending && s.runMay k then
    ((s.runsPut k { pending := false, active := true, phase := 1, probedAt := s.clk.up }).domainBit k 0 true).domainBit k 1 false
  else s

/-- A run of course k is requested; a course has at most one (R412, R413). -/
def State.runRequest (s : State) (k : Nat) : State :=
  if (s.runsAt k).pending || (s.runsAt k).active then s
  else ((s.runsPut k { pending := true, active := false }).domainBit k 1 true).runStart k

/-- The run of course k in progress aborts (R417). -/
def State.runAbort (s : State) (k : Nat) : State :=
  if (s.runsAt k).active then
    (((s.runsPut k {}).domainBit k 0 false).domainBit k 4 true).each (s.domainsOf k) (fun s d => s.bump (0x4010 + d) 0x12)
  else s

/-! ### Course states (Tables 1.5, 1.6) -/

/-- The fetch partition of course k is emptied (R221): resident count and watermark read 0 and normal, and fetch begins again
with a frame that starts later. -/
def State.emptyPartition (s : State) (k : Nat) : State :=
  let f := s.fetAt k
  ((s.fetPut k { f with
    bows := [], resident := [], poisoned := [], scheduled := 0, scheduledNext := 0, fetching := false }).putN (0x2680 + k) 0x0F 0).putN (0x2680 + k) 0x10 0

/-- No course is LIT. -/
def State.noneLit (s : State) : Bool := allCourses.all (fun k => s.cst k != 4)

/-- D4: with DARK committed while LIT, the device is DARK when every LIT course has reached its next nut. -/
def State.darkIfDone (s : State) : State :=
  if s.dst = 2 ∧ s.nat 0x4200 2 = 1 ∧ s.noneLit = true then s.putN 0x4200 1 1 else s

/-- A course takes a state: LIT time starts or stops with it (R257), times are accrued, and the last course to leave LIT lets D4
take effect (R19). -/
def State.setCst (s : State) (k st : Nat) : State :=
  let s0 := (if s.cst k = 5 then s.hushNoted k else s).accrue
  let old := s0.cst k
  let col := s0.colAt k
  let s1 :=
    if old = 4 ∧ st ≠ 4 then
      s0.colPut k { col with
        litTime := col.litTime + match col.litSince with
          | some t => s0.clk.up - t
          | none => 0
        litSince := none }
    else if old ≠ 4 ∧ st = 4 then s0.colPut k { col with litSince := some s0.clk.up }
    else s0
  let s2 := (s1.putN (crs k) 1 st).runStart k
  let s3 := if st = 3 ∨ st = 4 ∨ st = 5 then s2 else s2.emptyPartition k
  if old = 4 ∧ st ≠ 4 then s3.darkIfDone else s3

/-- LIT time of course k up to now, in 2⁻¹⁶ ns. -/
def State.litTimeNow (s : State) (k : Nat) : Nat :=
  let c := s.colAt k
  c.litTime + match c.litSince with
    | some t => s.clk.up - t
    | none => 0

/-- The arm signal of placement (R384). -/
def State.setArm (s : State) (k : Nat) (b : Bool) : State := s.capoCPut k { s.capoCAt k with armed := b }

/-- EMIT_OK[k] as driven (R387): the ball follows `capo.emitOk`. -/
def State.setEmitOk (s : State) (k : Nat) (b : Bool) : State :=
  { s with capo := { s.capo with emitOk := withBit s.capo.emitOk k b } }

/-- The amplitude set-point of course k now (R364, R366, R367): 0 before step 4 of the start; from there it moves to the
amplitude target at the ramp rate; from C1 or C2 to 0 at the stop ramp rate. -/
def State.setPointNow (s : State) (k : Nat) : Rat :=
  let m := s.mirAt k
  let dt : Rat := ((s.clk.up - m.rampAt : Nat) : Rat) / (tMs : Rat)
  if m.phase = 4 then
    let t : Rat := s.nat (crs k) 0x0D
    if m.setPoint ≤ t then minR t (m.setPoint + m.rampUp * dt) else maxR t (m.setPoint - m.rampUp * dt)
  else if m.phase = 6 then maxR 0 (m.setPoint - m.rampDown * dt)
  else 0

/-- The set-point ramp brought up to now, before anything that it depends on changes. -/
def State.rampAdvance (s : State) (k : Nat) : State :=
  s.mirPut k { s.mirAt k with setPoint := s.setPointNow k, rampAt := s.clk.up }

/-- The mirror of course k begins its stop (R367): the amplitude set-point ramps to 0 and AXIS_EN is due for release. -/
def State.mirrorStop (s : State) (k : Nat) : State :=
  if (s.mirAt k).phase = 0 then s
  else
    let s1 := s.rampAdvance k
    s1.mirPut k { s1.mirAt k with phase := 6, releaseDue := true }

/-- The course has no bow model and no frame in progress (Table 4.1 state 0; the bow counter :16 keeps its value). What
placement holds of the bow in progress stays for its ledger record. -/
def State.dropModel (s : State) (k : Nat) : State :=
  let s1 := s.bowPut k { lev := (s.bowAt k).lev, bow := (s.bowAt k).bow, forward := (s.bowAt k).forward }
  let f := s1.fetAt k
  let s2 := (s1.plcPut k { s1.plcAt k with next := none, firstBow := none }).fetPut k
    { shrunk := f.shrunk, retire := f.retire, delta := f.delta }
  ((s2.frmPut k { s2.frmAt k with fenced := false, begun := 0, flyback := true, lastEnd := none, fresh := false }).putN (crs k) 0x15
    0).putN (crs k) 0x1E 0xFFFF

/-- C1, C2: the course is STOPPED; the mirror ramps down. -/
def State.toStopped (s : State) (k : Nat) : State :=
  if s.cst k = 0 then s
  else (((((s.setCst k 0).setArm k false).setEmitOk k false).mirrorStop k).dropModel k).runAbort k

/-- C3: the course is HUSHED. The transition is recorded (R28): with the dark bow that it makes of a LIT course, else by itself,
at the slot of the transition and with the bow in progress (log 87). -/
def State.toHushed (s : State) (k : Nat) : State :=
  if s.cst k = 0 ∨ s.cst k = 5 then s
  else
    let note := (s.clk.slot, (s.bowAt k).bow, lowestCause (s.causes k))
    let s1 := (s.setCst k 5).setArm k false
    let s2 := s1.plcPut k { s1.plcAt k with hushed := some note }
    if s.cst k = 4 then s2 else s2.hushNoted k

/-- Mirror slots of course k are automatic and out of state 4 (R354, R358), from C4 on. -/
def State.mirrorSlotsOn (s : State) (k : Nat) : State :=
  (s.each [2 * k, 2 * k + 1] (fun s i => (s.putN (0x3000 + i) 1 2).putN (0x3000 + i) 0x23 1)).reschedule

/-- The capo lets AXIS_EN[k] be driven: it runs, and neither T3 nor T5 is latched (R385, R393). -/
def State.axisAllowed (s : State) (k : Nat) : Bool :=
  s.nat 0x3800 1 == 1 && !bit (s.capoCAt k).trips 2 && !bit (s.capoCAt k).trips 4

/-- C4: the course is SPINNING and its mirror start begins (R364): AXIS_EN[k] driven low, both DACs at 0, the entries
3150 + k:0A to :11 taken (R373). G0 and what has been learned of it last from START on (R360). -/
def State.toSpinning (s : State) (k : Nat) : State :=
  let s1 := s.setCst k 1
  let m := s1.mirAt k
  let ix := 0x3150 + k
  let s2 := s1.mirPut k
    { phase := 1, search := s1.f32 ix 0x0A, search0 := s1.f32 ix 0x0A, rampAt := s1.clk.up, rampUp := s1.nat ix 0x0D, rampDown := s1.nat ix 0x0E,
      park := s1.int ix 0x11, exciteMs := s1.nat ix 0x0B, accAt := convIndex s1.clk.up, g0 := m.g0, g0Time := m.g0Time, learned := m.learned, starting := true }
  let s3 := ((((s2.mirrorSlotsOn k).putN ix 0x1C (if s2.axisAllowed k then 1 else 0)).putN ix 9 1).putN ix 5 0).putN
    ix 0x17 0
  let s4 := ((s3.putI (0x3110 + 2 * k) 7 0).putI (0x3110 + 2 * k + 1) 7 0).putN (crs k) 0x15 1
  (s4.plcPut k {}).bowPut k { lev := s.nat (crs k) 0x0E, bow := (s.bowAt k).bow, forward := (s.bowAt k).forward }

/-- HUSH cause field of a hush by C3 (Table 9.5, R320). -/
def hushField (causes : Nat) : Nat := if bit causes 9 then 0 else if bit causes 5 then 5 else 4

/-- HUSH copies on every lane of course k, for a hush that is not the capo's (R320): in the next control positions. -/
def State.hushCourse (s : State) (k cause : Nat) : State :=
  s.each (s.lanesOf k) (fun s l => s.hushLane s.blockNow cause l)

/-- A course in SPINNING passes no nut, so C3 takes effect on it at once (log 15), with its HUSH copies (R320). -/
def State.hushIfSpinning (s : State) (k : Nat) : State :=
  if s.cst k = 1 ∧ s.causes k ≠ 0 then (s.toHushed k).hushCourse k (hushField (s.causes k)) else s

/-- A hush cause bit sets: any bit other than bit 8 rewrites a request of 4 to 3 (R26). -/
def State.causeBit (s : State) (k b : Nat) : State :=
  if s.flag (crs k) 3 b then s
  else
    let s1 := s.accrue.setFlag (crs k) 3 b true
    if b ≠ 8 ∧ s1.creq k = 4 then s1.putN (crs k) 2 3 else s1

/-- A hush cause that takes effect at the next nut (C3). -/
def State.setCause (s : State) (k b : Nat) : State := (s.causeBit k b).hushIfSpinning k

/-- A hush cause of the capo: bits 0, 1 and 10 take effect at once (C3). A stop that waited for the next nut of a LIT course is
no longer a LIT course's, and takes effect with it (C2). -/
def State.setCauseNow (s : State) (k b : Nat) : State :=
  if s.flag (crs k) 3 b then s
  else
    let s1 := (s.causeBit k b).toHushed k
    if s1.cst k = 5 ∧ (s1.creq k = 0 ∨ (s1.mirAt k).failed = true) then s1.toStopped k else s1

/-- A hush cause bit clears (Table 1.7). -/
def State.clearCause (s : State) (k b : Nat) : State :=
  if s.flag (crs k) 3 b then s.accrue.setFlag (crs k) 3 b false else s

/-! ### Lock criteria (Table 10.8) -/

/-- K3: the tracker is locked, or in phase-lock mode with f within 1 ppm of f_c and its pull-in offset. -/
def State.trackerLocked (s : State) (k : Nat) : Bool :=
  s.nat (0x3150 + k) 9 == 3 ||
    (s.nat (0x3150 + k) 9 == 4 &&
      decide (absR ((s.mirAt k).f - (s.consortHz k + (s.mirAt k).pull)) ≤ s.consortHz k / 1000000))

/-- Loops locked: K1 to K5. -/
def State.loopsLocked (s : State) (k : Nat) : Bool :=
  let m := s.mirAt k
  s.nat (crs k) 0x15 == 2 &&
  m.phase == 4 && s.setPointNow k == (s.nat (crs k) 0x0D : Rat) && decide (64 ≤ m.ampRun) &&
  s.trackerLocked k &&
  (match m.slowSince with
   | some t => decide (t + tMs ≤ s.clk.up)
   | none => false) &&
  [2 * k, 2 * k + 1].all (fun i => s.nat (0x3000 + i) 1 == 2 && s.nat (0x3000 + i) 0x23 == 1)

/-! ### Transitions at a bow turnaround (C5, C6, C7, C10) -/

/-- Hush released and the course ARMED again: its HUSHED lanes are UP, those that carry its strings and those that its return
lane reports and that carry no string (Table 9.9). -/
def State.releaseLanes (s : State) (k : Nat) : State :=
  s.each (allLanes.filter (fun l => s.laneCourse l == some k)) (fun s l =>
    if (s.lanesAt l).state = 3 then s.lanesPut l { s.lanesAt l with state := 2, burst := none } else s)

/-- C7: ARMED, the arm signal and EMIT_OK[k] high (R384, R386, R387). -/
def State.toArmed (s : State) (k : Nat) : State :=
  (((s.setCst k 3).setArm k true).releaseLanes k).setEmitOk k true

/-- C5, C6: TRACKING; the start of the mirror is over. -/
def State.toTracking (s : State) (k : Nat) : State :=
  (s.mirPut k { s.mirAt k with starting := false }).setCst k 2

/-- The course transition that a bow turnaround takes: the first of C5, C6, C7, C10 whose trigger holds (R24). -/
def State.turnaroundMove (s : State) (k : Nat) : State :=
  if s.cst k = 1 ∧ s.causes k = 0 ∧ s.loopsLocked k = true then s.toTracking k
  else if s.cst k = 5 ∧ s.causes k = 0 ∧ s.loopsLocked k = true then s.toTracking k
  else if s.cst k = 2 ∧ (s.creq k = 3 ∨ s.creq k = 4) ∧ s.causes k = 0 ∧ s.satisfied k = true ∧
      s.nat (0x3000 + 2 * k) 1 = 2 ∧ s.nat (0x3000 + 2 * k + 1) 1 = 2 then s.toArmed k
  else if s.cst k = 3 ∧ s.creq k = 2 then (s.setCst k 2).setArm k false
  else s

/-- C8: at a frame start an ARMED course whose request is 4 is LIT while the device is LIT (and no cause is set, C3
standing above C8 in Table 1.6). -/
def State.frameMove (s : State) (k : Nat) : State :=
  if s.cst k = 3 ∧ s.creq k = 4 ∧ s.dst = 2 ∧ s.causes k = 0 then s.setCst k 4 else s

/-! ### Device states (Tables 1.2, 1.3) -/

/-- Every course is STOPPED. -/
def State.allStopped (s : State) : Bool := allCourses.all (fun k => s.cst k == 0)

/-- D3: a LIT device is DARK, and every course that is not STOPPED sets bit 10. -/
def State.leaveLit (s : State) : State :=
  if s.dst = 2 then
    let s1 := s.putN 0x4200 1 1
    s1.each allCourses (fun s k => if s.cst k = 0 then s else s.setCauseNow k 10)
  else s

/-- Bit 10 of every course clears once REFCLK is locked and INTERLOCK_N is high (Table 1.7). -/
def State.clearBit10 (s : State) : State :=
  if s.clk.refclk && s.capo.interlock then s.each allCourses (fun s k => s.clearCause k 10) else s

end Sys2Proof.Machine
end

