-- ==== Sys2Proof/Machine/Rings.lean ====
section
/-! DEFINITION. Host rings and doorbells (R477 to R487). -/

namespace Sys2Proof.Machine

open Sys2Proof

/-- Host-ring queue numbers (Table 14.1). -/
def isHostRing (q : Nat) : Bool := decide (0x18000 ≤ q) && decide (q ≤ 0x3FFFF)

/-- Indices are 32-bit and free-running: the distance from b to a, and a is after b (R478). -/
def idxDist (a b : Nat) : Nat := ((a % 2 ^ 32) + 2 ^ 32 - (b % 2 ^ 32)) % 2 ^ 32
def idxAfter (a b : Nat) : Bool := decide (1 ≤ idxDist a b) && decide (idxDist a b ≤ 2 ^ 31 - 1)

/-- Entries outstanding, and credits; no response is reserved on a host ring (R478, R479). -/
def RingSt.outstanding (r : RingSt) : Nat := idxDist r.head r.tail
def RingSt.credits (r : RingSt) : Nat := r.count - r.outstanding

/-! ### Queues that are no host rings (R11 to R13, R478, R479, log 146) -/

/-- Their keys: a memory port's responses, an ingest flow, a capture stream, the harmonic records of a course to firmware; the
request and response queues of master m are keyed by their numbers (R54). -/
def useMemory (port : Nat) : Nat := port
def useFlow (f : Nat) : Nat := 64 + f
def useStream (i : Nat) : Nat := 128 + i
def useRecords (k : Nat) : Nat := 160 + k
def requestQueue (m : Nat) : Nat := 0x10000 + 2 * m
def responseQueue (m : Nat) : Nat := 0x10000 + 2 * m + 1

def QueueRec.outstanding (x : QueueRec) : Nat := idxDist x.head x.tail

/-- The entry count of a queue, and the credits its producer has (R479). -/
def queueCount (q : Nat) : Nat := 2 ^ (6 + Config.queueCount q % 11)
def QueueRec.credits (x : QueueRec) (q : Nat) : Nat := queueCount q - x.outstanding - x.reserved

/-- The producer advances the head by an entry; the consumer commits the tail past one (R13, R478). -/
def QueueRec.push (x : QueueRec) : QueueRec := { x with head := (x.head + 1) % 2 ^ 32 }
def QueueRec.commit (x : QueueRec) : QueueRec :=
  { x with tail := (x.tail + 1) % 2 ^ 32, processed := (x.processed + 1) % 2 ^ 64 }

/-- An entry is put into a queue, and one is taken from it. -/
def State.queuePush (s : State) (q : Nat) : State := s.queuePut q (s.queueAt q).push
def State.queueCommit (s : State) (q : Nat) : State := s.queuePut q (s.queueAt q).commit

/-- A credit for the response is reserved when a request is issued; the response uses it up as it passes (R11, R12). -/
def State.reserveCredit (s : State) (q : Nat) : State :=
  s.queuePut q { s.queueAt q with reserved := (s.queueAt q).reserved + 1 }
def State.useCredit (s : State) (q : Nat) : State :=
  s.queuePut q { (s.queueAt q).push.commit with reserved := (s.queueAt q).reserved - 1 }

/-- The producer of a queue has a credit left (R13). -/
def State.hasCredit (s : State) (q : Nat) : Bool := decide (0 < (s.queueAt q).credits q)

/-- A request of master m is taken into its request queue, with a credit of its response queue (R12, R54). -/
def State.requestIn (s : State) (m : Nat) : State := (s.queuePush (requestQueue m)).reserveCredit (responseQueue m)

/-- The response to the oldest of them has been sent: the request's entry is committed (R12, R13). -/
def State.responseOut (s : State) (m : Nat) : State := (s.useCredit (responseQueue m)).queueCommit (requestQueue m)

/-- Requests of master m that are accepted and not yet answered (R58). -/
def State.outstanding (s : State) (m : Nat) : Nat := (s.queueAt (requestQueue m)).outstanding

/-- What a window shows of a queue that is no host ring: the record of what it carries; a queue that carries nothing between
commands is empty. -/
def State.shownQueue (s : State) (q : Nat) : QueueRec :=
  let use := Config.queueUse q
  let i := Config.queueIndex q s.free % 2 ^ 32
  if 0x10000 ≤ q then s.queueAt q
  else if use < 512 then s.queueAt use
  else { head := i, tail := i, processed := i }

/-! ### Host rings -/

/-- An access to a queue's descriptor: a miss loads it, and evicts the least recently used (R481). Pinned descriptors
are resident anyway. -/
def State.touchQueue (s : State) (q : Nat) : State :=
  let qs := s.queues
  let pinned := decide (0x10000 ≤ q) && decide (q < 0x10000 + 130)
  if pinned then s
  else
    let rest := (qs.resident.filter (· != q)).take (16384 - Config.pinnedQueues - 1)
    let s1 : State := { s with queues := { qs with resident := q :: rest } }
    if qs.resident.contains q then s1 else s1.add64 0x6000 3 1

/-- The consumer of a host-to-device ring commits its tail by one entry (R478, R485). -/
def State.ringTake (s : State) (q : Nat) : State :=
  let r := s.ringAt q
  s.ringPut q { r with tail := (r.tail + 1) % 2 ^ 32, processed := (r.processed + 1) % 2 ^ 64, dirty := true }

/-- The device writes an entry into a device-to-host ring and advances its head (R485, R486). -/
def State.ringPush (s : State) (q : Nat) (b : List Byte) : State :=
  let r := s.ringAt q
  (s.ringPut q { r with head := (r.head + 1) % 2 ^ 32, processed := (r.processed + 1) % 2 ^ 64, dirty := true }).send
    (.hostWrite (r.base + r.head % r.count * r.entrySize) b)

/-- An enabled host-to-device ring with an entry to read; an enabled device-to-host ring with a credit. -/
def State.ringHasEntry (s : State) (q : Nat) : Bool :=
  (s.ringAt q).enabled && !(s.ringAt q).deviceToHost && decide (0 < (s.ringAt q).outstanding)
def State.ringHasRoom (s : State) (q : Nat) : Bool :=
  (s.ringAt q).enabled && (s.ringAt q).deviceToHost && decide (0 < (s.ringAt q).credits)

/-- A doorbell is refused (R483). -/
def State.doorbellRefused (s : State) (q i : Nat) : Bool :=
  let r := s.ringAt q
  !isHostRing q || !r.enabled ||
    (if r.deviceToHost then !idxAfter i r.tail || decide (r.outstanding < idxDist i r.tail)
     else !idxAfter i r.head || decide (r.count < idxDist i r.tail))

/-- HOST_DOORBELL: a write of BAR 0's doorbell register (R482, R483). -/
def execHostDoorbell (v : BitVec 64) (s : State) : Host.Outcome State Fault Refusal :=
  let q := bits v.toNat 49 32
  let i := bits v.toNat 31 0
  let s1 := s.touchQueue q
  let r := s1.ringAt q
  .next (
    if s1.doorbellRefused q i then
      let s2 := (s1.bump 0x6000 5).putN 0x6000 6 v.toNat
      if r.allocated then s2.ringPut q { r with errors := min (r.errors + 1) 0xFFFFFFFF, lastError := stRange } else s2
    else if r.deviceToHost then s1.ringPut q { r with tail := i }
    else s1.ringPut q { r with head := i })

/-- A ring's vector is raised, at most once per moderation period (R485). -/
def State.raiseVector (s : State) (q : Nat) : State :=
  let r := s.ringAt q
  if r.vector = 0xFFFF then s
  else if r.moderation ≠ 0 ∧ r.quiet = true then s.ringPut q { r with withheld := true }
  else (s.ringPut q { r with quiet := decide (r.moderation ≠ 0), withheld := false }).send (.msix r.vector)

/-- RING_WRITE_BACK: the new index is written to the host, then the vector is raised (R485). -/
def execRingWriteBack (q : Fin 262144) (s : State) : Host.Outcome State Fault Refusal :=
  let r := s.ringAt q.val
  .next (
    if r.enabled ∧ r.dirty = true then
      let s1 := s.ringPut q.val { r with dirty := false }
      let s2 := if r.writeBack = 0 then s1
        else s1.send (.hostWrite r.writeBack (leBytes 8 (if r.deviceToHost then r.head else r.tail)))
      s2.raiseVector q.val
    else s)

/-- MODERATION_EXPIRY: the moderation period ends, and a withheld vector is raised. -/
def execModerationExpiry (q : Fin 262144) (s : State) : Host.Outcome State Fault Refusal :=
  let r := s.ringAt q.val
  let s1 := s.ringPut q.val { r with quiet := false }
  .next (if r.withheld then s1.raiseVector q.val else s1)

/-! ### Windows (R484) -/

/-- The configuration that a window shows or brings: the ring's own once it is allocated, else the window's entries. -/
def State.windowRing (s : State) (w q : Nat) : RingSt :=
  let r := s.ringAt q
  if r.allocated then r
  else
    { r with
      deviceToHost := s.nat w 3 == 1, entrySize := s.nat w 4, count := s.nat w 5, base := s.nat w 6,
      writeBack := s.nat w 7, vector := s.nat w 8, moderation := s.nat w 9 }

/-- The queue that a window is bound to, if it is a host ring. -/
def State.windowQueue (s : State) (w : Nat) : Option Nat :=
  if isHostRing (s.nat w 1) then some (s.nat w 1) else none

/-- An entry :03 to :09 of a ring's configuration replaced. -/
def RingSt.config (r : RingSt) (sub n : Nat) : RingSt :=
  match sub with
  | 3 => { r with deviceToHost := n == 1 }
  | 4 => { r with entrySize := n }
  | 5 => { r with count := n }
  | 6 => { r with base := n }
  | 7 => { r with writeBack := n }
  | 8 => { r with vector := n }
  | 9 => { r with moderation := n }
  | _ => r

/-- A window entry :03 to :0A is committed (R484). -/
def State.commitWindow (s : State) (w sub : Nat) (v : Val) : State :=
  let n := (valInt v).toNat
  match s.windowQueue w with
  | none => s.put w sub v
  | some q =>
    let s0 := s.touchQueue q
    if sub = 0x0A then
      let s1 := s0.put w sub v
      if n = 1 then
        if (s1.ringAt q).enabled then s1
        else s1.ringPut q { s1.windowRing w q with allocated := true, enabled := true, head := 0, tail := 0 }
      else s1.ringPut q { s1.ringAt q with enabled := false }
    else
      let s1 := s0.put w sub v
      if (s1.ringAt q).allocated then s1.ringPut q ((s1.ringAt q).config sub n) else s1

end Sys2Proof.Machine
end

