-- ==== Sys2Proof/Machine/Dram.lean ====
section
/-! DEFINITION. DRAM: addresses, check storage and poison, the memory service and its maintenance (R433 to R468). -/

namespace Sys2Proof.Machine

open Sys2Proof

/-! ### Addresses (R437 to R442) -/

def mib : Nat := 1048576

/-- Bytes of one channel, and the split D of R438. -/
def MemSt.chanBytes (m : MemSt) : Nat := m.chanMiB * mib
def MemSt.dSplit (m : MemSt) : Nat := (m.chanMiB - m.control) * mib

/-- The channels of the control subset, and those outside it, rising. -/
def MemSt.subset (m : MemSt) : List Nat := bitsSet 32 m.mask
def MemSt.others (m : MemSt) : List Nat := (List.range 32).filter (fun c => !bit m.mask c)

/-- Grain K of a control order (Table 13.5). -/
def MemSt.controlGrain (m : MemSt) : Nat :=
  match m.order with
  | 0 => 64
  | 1 => 4096
  | 2 => 65536
  | _ => m.control * mib

/-- Channel and channel address of a main-region address (R439). -/
def mainLoc (grain pa : Nat) : Nat × Nat :=
  let g := pa / grain
  ((g ^^^ (g / 32) ^^^ (g / 1024)) % 32, g / 32 * grain + pa % grain)

/-- Channel and channel address of an address spread over a list of channels from D on (R439, R440). -/
def spreadLoc (l : List Nat) (d grain a : Nat) : Nat × Nat :=
  let n := l.length
  (l.getD (a / grain % n) 0, d + a / grain / n * grain + a % grain)

/-- Size in bytes of the region of a class (R438). -/
def MemSt.classBytes (m : MemSt) (cls : AddrClass) : Nat :=
  match cls with
  | .main => 32 * m.dSplit
  | .tail => m.others.length * m.control * mib
  | .control => m.subset.length * m.control * mib

/-- Channel and channel address of an address of a class. -/
def MemSt.loc (m : MemSt) (cls : AddrClass) (a : Nat) : Nat × Nat :=
  match cls with
  | .main => mainLoc m.grain a
  | .tail => spreadLoc m.others m.dSplit m.grain a
  | .control => spreadLoc m.subset m.dSplit m.controlGrain a

/-- The data class as one space, the main region and then the tail (R442): class and address. -/
def MemSt.dataClass (m : MemSt) (a : Nat) : AddrClass × Nat :=
  if a < 32 * m.dSplit then (.main, a) else (.tail, a - 32 * m.dSplit)

/-- Units per row (R437). -/
def MemSt.perRow (m : MemSt) : Nat := if m.check then 28 else 32

/-- The key of a unit: channel and unit number. -/
def unitKey (chan unit : Nat) : Nat := chan * 2 ^ 32 + unit

/-- The key of the unit that holds an address of a class. -/
def MemSt.unitOf (m : MemSt) (cls : AddrClass) (a : Nat) : Nat :=
  unitKey (m.loc cls a).1 ((m.loc cls a).2 / 64)

/-- Row bits of the density: chunk bits above them are the rank (Table 13.4). -/
def MemSt.rowBits (_m : MemSt) (density : Nat) : Nat := if density = 16 then 16 else 15

/-! ### Bytes -/

/-- The bytes at an address of a class. -/
def MemSt.readAt (m : MemSt) (cls : AddrClass) (a len : Nat) : List Byte :=
  (List.range len).map (fun i => memRead m.cells (cellKey (m.loc cls (a + i)).1 (m.loc cls (a + i)).2))

/-- Bytes written at an address of a class. -/
def MemSt.writeAt (m : MemSt) (cls : AddrClass) (a : Nat) (d : List Byte) : MemSt :=
  let l := m.loc
  let go := d.foldl (fun (x : List Host.Cell × Nat) b =>
    (memWrite x.1 (cellKey (l cls x.2).1 (l cls x.2).2) b, x.2 + 1)) (m.cells, a)
  { m with cells := go.1 }

/-- A span cut at the boundaries of units: address and bytes of each piece. -/
def unitPieces : Nat → Nat → List Byte → List (Nat × List Byte)
  | 0, _, _ => []
  | n + 1, a, d =>
    if d.isEmpty then [] else (a, d.take (64 - a % 64)) :: unitPieces n (a + (64 - a % 64)) (d.drop (64 - a % 64))

/-- The units of a span of a class, as addresses of their first bytes. -/
def unitStarts (a len : Nat) : List Nat :=
  if len = 0 then [] else (List.range ((a + len - 1) / 64 - a / 64 + 1)).map (fun i => (a / 64 + i) * 64)

/-! ### Errors (R447 to R452, R465) -/

/-- Event kinds of the memory service (Config). -/
def evUncorrectable : Nat := 2

/-- A row of a channel becomes a repair candidate (R465), once (log 118). -/
def State.candidate (s : State) (c unit : Nat) : State :=
  let x := s.chansAt c
  let w := unit / s.mem.perRow
  if x.candidates.contains w ∨ x.unrepaired.contains w ∨ s.mem.listed.any (fun r => r.1 == c && r.2.1 == w) then s
  else s.chansPut c { x with candidates := x.candidates ++ [w] }

/-- 5000:1B (Table 13.10). -/
def State.ueRecord (s : State) (c unit port found : Nat) : Nat :=
  let w := unit / s.mem.perRow
  let r := s.mem.rowBits (s.nat 0x5000 3)
  c * 2 ^ 59 + bits w (4 + r) (4 + r) * 2 ^ 58 + bits w 3 2 * 2 ^ 56 + bits w 1 0 * 2 ^ 54 + bits w (3 + r) 4 * 2 ^ 38 +
    unit % s.mem.perRow * 2 ^ 33 + port * 2 ^ 24 + found * 2 ^ 20

/-- An uncorrectable unit (R450): poison, logs, counters, record, candidate. -/
def State.uncorrectable (s : State) (c unit port found : Nat) : State :=
  let k := unitKey c unit
  let m := s.mem
  let s1 : State := { s with mem := { m with poison := if m.poison.contains k then m.poison else m.poison ++ [k] } }
  ((((s1.logCritical 13 evUncorrectable c).putN 0x5000 0x1B (s1.ueRecord c unit port found)).bump 0x5000 0x1D).bump
    (0x5010 + c) 3).candidate c unit

/-- A corrected unit (R449, R465): counted, to be written back, and perhaps a candidate. -/
def State.correctedUnit (s : State) (c unit : Nat) : State :=
  let s1 := (s.bump 0x5000 0x1C).bump (0x5010 + c) 2
  let x := s1.chansAt c
  let u := s.mem.perRow
  let again := x.correctedBefore.contains unit || x.corrected.any (fun v => v != unit && v / u == unit / u)
  let s2 := s1.chansPut c { x with
    corrected := if x.corrected.contains unit then x.corrected else x.corrected ++ [unit]
    writeBack := if x.writeBack.contains unit then x.writeBack else x.writeBack ++ [unit] }
  if again then s2.candidate c unit else s2

/-- The bytes of a unit become what the code makes of more errors than it detects, or of errors with the check off: free
values (log 13). -/
def State.garble (s : State) (c unit : Nat) : State :=
  { s with
    mem := { s.mem with cells := (List.range 64).foldl (fun m i =>
      memWrite m (cellKey c (unit * 64 + i)) (BitVec.ofNat 8 (Config.freeNat (s.free + i)))) s.mem.cells }
    free := s.free + 64 }

/-- A unit of a channel is read with `bad` erroneous bytes: the state and whether it is uncorrectable (R447 to R450). Six or
more erroneous bytes may or may not be detected (log 13). -/
def State.checkUnit (s : State) (c unit port found bad : Nat) : State × Bool :=
  if s.mem.poison.contains (unitKey c unit) then (s.uncorrectable c unit port found, true)
  else if bad = 0 then (s, false)
  else if s.mem.check = false then (s.garble c unit, false)
  else if bad ≤ 3 then (s.correctedUnit c unit, false)
  else if bad ≤ 5 then (s.uncorrectable c unit port found, true)
  else if Config.freeBool s.free then
    (({ s with free := s.free + 1 } : State).uncorrectable c unit port found, true)
  else
    ((({ s with free := s.free + 1 } : State).garble c unit).correctedUnit c unit, false)

/-- The unit of an address of a class is read. -/
def State.readUnit (s : State) (cls : AddrClass) (a port found bad : Nat) : State × Bool :=
  s.checkUnit (s.mem.loc cls a).1 ((s.mem.loc cls a).2 / 64) port found bad

/-- A port writes a unit, so a write-back of it is cancelled (R449). -/
def State.cancelWriteBack (s : State) (c unit : Nat) : State :=
  let x := s.chansAt c
  if x.writeBack.contains unit then s.chansPut c { x with writeBack := x.writeBack.filter (· != unit) } else s

/-- A piece within one unit is written: a whole unit clears its poison (R451); a partial one merges into a unit that is
read first, and is refused where that unit is poisoned or uncorrectable (R447, UE4). -/
def State.writePiece (s : State) (cls : AddrClass) (port bad a : Nat) (d : List Byte) : State × Bool :=
  let l := s.mem.loc cls a
  let unit := l.2 / 64
  if d.length = 64 then
    let m := s.mem.writeAt cls a d
    (({ s with mem := { m with poison := m.poison.filter (· != unitKey l.1 unit) } } : State).cancelWriteBack l.1 unit, false)
  else
    let r := s.readUnit cls a port 3 bad
    if r.2 then (r.1, true)
    else (({ r.1 with mem := r.1.mem.writeAt cls a d } : State).cancelWriteBack l.1 unit, false)

/-- A span is written (R446, R447): the state, and whether any unit refused it. -/
def State.writeSpan (s : State) (cls : AddrClass) (port bad a : Nat) (d : List Byte) : State × Bool :=
  (unitPieces (d.length / 64 + 2) a d).foldl (fun (x : State × Bool) p =>
    let r := x.1.writePiece cls port (if p.1 = a then bad else 0) p.1 p.2
    (r.1, x.2 || r.2)) (s, false)

/-- A span is read: the state, and whether any unit was uncorrectable. -/
def State.readSpan (s : State) (cls : AddrClass) (port bad a len : Nat) : State × Bool :=
  (unitStarts a len).foldl (fun (x : State × Bool) u =>
    let r := x.1.readUnit cls u port 1 (if u / 64 = a / 64 then bad else 0)
    (r.1, x.2 || r.2)) (s, false)

/-- Data-class bytes written by a unit of the part; an error is the requester's (UE4). -/
def State.dataWrite (s : State) (port a : Nat) (d : List Byte) : State × Bool :=
  s.writeSpan (s.mem.dataClass a).1 port 0 (s.mem.dataClass a).2 d

/-- Data-class bytes as they stand. -/
def State.dataRead (s : State) (a len : Nat) : List Byte :=
  (List.range len).map (fun i =>
    let p := s.mem.dataClass (a + i)
    memRead s.mem.cells (cellKey (s.mem.loc p.1 p.2).1 (s.mem.loc p.1 p.2).2))

/-- The data-class address of a cell, `none` for a control-class cell (R439 inverted). -/
def MemSt.dataAddr (m : MemSt) (key : Nat) : Option Nat :=
  let c := key / 2 ^ 32
  let a := key % 2 ^ 32
  if a < m.dSplit then
    let h := a / m.grain
    some ((h * 32 + (c ^^^ (h % 32) ^^^ (h / 32 % 32))) * m.grain + a % m.grain)
  else if bit m.mask c then none
  else
    let t := (a - m.dSplit) / m.grain
    some (32 * m.dSplit + (t * m.others.length + m.others.idxOf c) * m.grain + (a - m.dSplit) % m.grain)

/-- A cell lies in data-class bytes [a, a + len). -/
def MemSt.inData (m : MemSt) (a len key : Nat) : Bool :=
  match m.dataAddr key with
  | some x => decide (a ≤ x) && decide (x < a + len)
  | none => false

/-- Data-class bytes zero-filled, with their poison cleared (R166, R451). -/
def State.dataZero (s : State) (a len : Nat) : State :=
  { s with mem := { s.mem with
      cells := s.mem.cells.filter (fun p => !s.mem.inData a len p.1)
      poison := s.mem.poison.filter (fun k => !s.mem.inData a len (cellKey (k / 2 ^ 32) (k % 2 ^ 32 * 64))) } }

/-- A cell written at its key, where it has one. -/
def memMove (l : List Host.Cell) (key : Option Nat) (b : Byte) : List Host.Cell :=
  match key with
  | some k => memWrite l k b
  | none => l

/-- Data-class bytes below `top` take the addresses that `f` gives them, units whole, or are let go; the rest stays. -/
def State.dataMove (s : State) (top : Nat) (f : Nat → Option Nat) : State :=
  let m := s.mem
  let moved (key : Nat) : Option Nat :=
    match m.dataAddr key with
    | some a =>
      if a < top then
        (f a).map (fun b => cellKey (m.loc (m.dataClass b).1 (m.dataClass b).2).1 (m.loc (m.dataClass b).1 (m.dataClass b).2).2)
      else some key
    | none => some key
  { s with mem := { m with
      cells := m.cells.foldl (fun l p => memMove l (moved p.1) p.2) []
      poison := m.poison.filterMap (fun k => (moved (cellKey (k / 2 ^ 32) (k % 2 ^ 32 * 64))).map (fun c =>
        unitKey (c / 2 ^ 32) (c % 2 ^ 32 / 64))) } }

/-! ### Fetch watermarks (R14, R224) -/

def State.anyLevel (s : State) (n : Nat) : Bool := allCourses.any (fun k => decide (n ≤ s.nat (0x2680 + k) 0x10))
/-- A port is at panic; a port is at urgent or panic. -/
def State.anyPanic (s : State) : Bool := s.anyLevel 2
def State.anyUrgent (s : State) : Bool := s.anyLevel 1

/-- Bytes of a row's records in a staging store. -/
def StagedRow.bytes (r : StagedRow) : Nat := 2 * (r.part.records.filter (·.isSome)).length

/-- What n bytes drained leave of a staging store: rows that have gone whole, rows left, bytes of the oldest gone, bytes not used. -/
def drainRows : Nat → List StagedRow → List StagedRow × List StagedRow × Nat × Nat
  | n, [] => ([], [], 0, n)
  | n, r :: l =>
    if r.bytes ≤ n then
      let d := drainRows (n - r.bytes) l
      (r :: d.1, d.2.1, d.2.2.1, d.2.2.2)
    else ([], r :: l, n, 0)

/-- Bytes that accumulation can have drained since it was brought up to date: 4 B in each slot (log 174), but none while throttling
pauses it or DRAM traffic is at urgent or panic (R16, R295). -/
def State.drainRoom (s : State) (x : InputSt) : Nat :=
  if s.anyUrgent then 0 else 4 * ((s.clk.up - max x.drained s.therm.capturePause) / tSlot)

/-- The staging store of input i drained up to now. -/
def State.drainInput (s : State) (i : Nat) : State :=
  let x := s.inputsAt i
  let d := drainRows (x.part + s.drainRoom x) x.staged
  s.inputsPut i { x with staged := d.2.1, part := d.2.2.1, arrived := x.arrived ++ d.1, drained := s.clk.up }

/-- Every staging store that holds rows drained up to now, before what paused accumulation changes. -/
def State.drainAll (s : State) : State :=
  (s.inputs.filter (fun p => !p.2.staged.isEmpty)).foldl (fun s p => s.drainInput p.1) s

/-- Bit 0 of 5000:1A and the time of 5000:29 brought up to date. -/
def State.panicRefresh (s : State) : State :=
  let m := s.mem
  let p := s.anyPanic
  let s1 : State :=
    match m.panicSince with
    | some t => if p then s else { s with mem := { m with panicSince := none, panicTime := m.panicTime + (s.clk.up - t) } }
    | none => if p then { s with mem := { m with panicSince := some s.clk.up } } else s
  s1.setFlag 0x5000 0x1A 0 p

/-! ### Channels -/

def State.chanState (s : State) (c : Nat) : Nat := s.nat (0x5010 + c) 1
def State.setChan (s : State) (c st : Nat) : State := s.putN (0x5010 + c) 1 st

/-- A channel accepts commands: active, or with a rank in power-down. -/
def State.chanLive (s : State) (c : Nat) : Bool := s.chanState c == 1 || s.chanState c == 2

/-- A rank leaves power-down (R456). -/
def State.rankWakes (s : State) (c rank : Nat) : State :=
  let x := s.chansAt c
  if x.down.contains rank then
    let down := x.down.filter (· != rank)
    let y := { x with
      down := down
      downSince := if down.isEmpty then none else x.downSince
      downTime := match x.downSince with
        | some t => if down.isEmpty then x.downTime + (s.clk.up - t) else x.downTime
        | none => x.downTime }
    (s.chansPut c y).setChan c (if down.isEmpty then 1 else 2)
  else s

/-- Every rank of a channel leaves power-down. -/
def State.ranksWake (s : State) (c : Nat) : State := (s.rankWakes c 0).rankWakes c 1

/-- A channel exits self-refresh (R457, R458). -/
def State.chanExits (s : State) (c : Nat) : State :=
  if s.chanState c = 3 then (s.setChan c 1).bump (0x5010 + c) 0x0B else s

/-- A request reaches a channel (R456, R457): it leaves power-down or self-refresh, or its entry to self-refresh is
aborted, in STANDBY too; one that arrives after the entry command is counted as waiting. -/
def State.reachChan (s : State) (c unit : Nat) : State :=
  let rank := bits (unit / s.mem.perRow) (4 + s.mem.rowBits (s.nat 0x5000 3)) (4 + s.mem.rowBits (s.nat 0x5000 3))
  if s.chanState c = 3 then (s.bump 0x5000 0x22).chanExits c
  else if s.chanLive c then
    let s1 := if (s.pwr.entering = true ∨ (s.dst = 3 ∧ s.pwr.exiting = false)) ∧ s.allStopped = true then s.bump 0x5000 0x21 else s
    s1.rankWakes c rank
  else s

/-- An activate may trigger a neighbour refresh, by a random draw: free. Sixteen triggers wait at most (R454). -/
def State.neighbourDraw (s : State) (c unit : Nat) : State :=
  let s1 : State := { s with free := s.free + 1 }
  if Config.freeBool s.free then
    let x := s1.chansAt c
    if x.neighbours.length < 16 then
      s1.chansPut c { x with neighbours := x.neighbours ++ [unit / s.mem.perRow] }
    else s1.bump 0x5000 0x20
  else s1

/-! ### Requests (R443, R446) -/

/-- A port may name a class (Table 13.6). -/
def portClass (port : Nat) (cls : AddrClass) : Bool :=
  if port < 38 then cls != .control else if port = 38 then cls == .control else true

def reqLen (op : MemOp) : Nat :=
  match op with
  | .read n => n
  | .write d => d.length

/-- A request's bytes exist (Table 13.2, R438). -/
def State.reqExists (s : State) (r : MemReq) : Bool := decide (r.addr + reqLen r.op ≤ s.mem.classBytes r.cls)

/-- A request is carried out and answered (R446 to R451). -/
def State.serve (s : State) (r : MemReq) : State :=
  let l := s.mem.loc r.cls r.addr
  let s1 := (s.reachChan l.1 (l.2 / 64)).neighbourDraw l.1 (l.2 / 64)
  match r.op with
  | .read n =>
    let x := s1.readSpan r.cls r.port r.bad r.addr n
    (x.1.send (.memory r.port x.2 (if x.2 then [] else x.1.mem.readAt r.cls r.addr n))).useCredit (useMemory r.port)
  | .write d =>
    let x := s1.writeSpan r.cls r.port r.bad r.addr d
    (x.1.send (.memory r.port x.2 [])).useCredit (useMemory r.port)

/-- MEMORY_REQUEST: a port's request. Without REFCLK it waits (R459). An address that does not exist is a fault. -/
def execMemoryRequest (port : Fin 42) (cls : AddrClass) (addr : Nat) (op : MemOp) (badBytes : Nat) (s : State) :
    Host.Outcome State Fault Refusal :=
  let r : MemReq := { port := port.val, cls := cls, addr := addr, op := op, bad := badBytes }
  let s1 := s.reserveCredit (useMemory port.val)
  if s.mem.chanMiB = 0 ∨ portClass port.val cls = false ∨ s.hasCredit (useMemory port.val) = false then .next s
  else if s.reqExists r = false then .fault .noSuchAddress
  else if s.clk.refclk then .next (s1.serve r)
  else .next { s1 with mem := { s1.mem with waiting := s1.mem.waiting ++ [r] } }

/-- CORRECTED_WRITE_BACK: a corrected unit is written back. The model's cells hold the corrected bytes already, so the unit
only leaves the list of those waiting (R449). -/
def execCorrectedWriteBack (c : ChannelId) (unit : Nat) (s : State) : Host.Outcome State Fault Refusal :=
  .next (s.cancelWriteBack c.val unit)

/-! ### Maintenance (R436, R453 to R462) -/

/-- REFRESH: a bank's refresh interval expires, and the refresh is issued or postponed, by at most 8 intervals (R455). -/
def execRefresh (c : ChannelId) (rank : Fin 2) (bank : Fin 16) (issue : Bool) (s : State) :
    Host.Outcome State Fault Refusal :=
  let x := s.chansAt c.val
  let i := rank.val * 16 + bank.val
  let n := tgetD x.postponed 0 i
  .next (
    if s.chanLive c.val ∧ s.clk.refclk = true then
      if 8 ≤ n then (s.chansPut c.val { x with postponed := tput x.postponed 0 i (if issue then 7 else 8) }).bump 0x5000 0x2A
      else s.chansPut c.val { x with postponed := tput x.postponed 0 i (if issue then n - 1 else n + 1) }
    else s)

/-- Units of one channel. -/
def MemSt.units (m : MemSt) : Nat := m.chanBytes / 64

/-- A scrub pass ends: counted, and the corrections of the pass become those of the pass before (R453, R465). -/
def State.scrubPass (s : State) : State :=
  let s1 := (((s.bump 0x5000 0x13).putN 0x5000 0x12 0).setFlag 0x5000 0x1A 3 false).each (List.range 32) (fun s c =>
    let x := s.chansAt c
    s.chansPut c { x with scrub := 0, correctedBefore := x.corrected, corrected := [] })
  { s1 with mem := { s1.mem with scrubbed := 0, scrubLate := false } }

/-- SCRUB_READ: the next unit of a channel is read (R453). -/
def execScrubRead (c : ChannelId) (badBytes : Nat) (s : State) : Host.Outcome State Fault Refusal :=
  let x := s.chansAt c.val
  let m := s.mem
  .next (
    if s.chanLive c.val ∧ x.scrub < m.units ∧ s.clk.refclk = true ∧ s.anyPanic = false then
      let s1 := if m.check = false then s else (s.checkUnit c.val x.scrub 41 2 badBytes).1
      let s2 := s1.chansPut c.val { s1.chansAt c.val with scrub := x.scrub + 1 }
      let n := m.scrubbed + 1
      if 32 * m.units ≤ n then s2.scrubPass
      else ({ s2 with mem := { s2.mem with scrubbed := n } } : State).putN 0x5000 0x12 (n * 100 / (32 * m.units))
    else s)

/-- SCRUB_OVERDUE: a pass has not completed 24 h after it started. -/
def execScrubOverdue (s : State) : Host.Outcome State Fault Refusal :=
  .next (({ s with mem := { s.mem with scrubLate := true } } : State).setFlag 0x5000 0x1A 3 true)

/-- NEIGHBOUR_REFRESH: the oldest pending trigger of a channel is served (R454): rows −2, −1, +1 and +2, those that exist. -/
def execNeighbourRefresh (c : ChannelId) (s : State) : Host.Outcome State Fault Refusal :=
  let x := s.chansAt c.val
  let rows := 2 ^ s.mem.rowBits (s.nat 0x5000 3)
  .next (
    match x.neighbours with
    | [] => s
    | w :: r =>
      let row := w / 16 % rows
      let n := (if 2 ≤ row then 1 else 0) + (if 1 ≤ row then 1 else 0) + (if row + 1 < rows then 1 else 0) +
        (if row + 2 < rows then 1 else 0)
      if s.chanLive c.val ∧ s.anyPanic = false then (s.chansPut c.val { x with neighbours := r }).add64 0x5000 0x1F n
      else s)

/-- POWER_DOWN_ENTRY: a rank has been idle for the idle timer (R456). -/
def execPowerDownEntry (c : ChannelId) (rank : Fin 2) (s : State) : Host.Outcome State Fault Refusal :=
  let x := s.chansAt c.val
  .next (
    if s.chanLive c.val ∧ s.nat 0x5000 0x0E ≠ 0 ∧ rank.val < s.nat 0x5000 4 ∧ x.down.contains rank.val = false then
      ((s.chansPut c.val { x with
          down := x.down ++ [rank.val], downSince := some (x.downSince.getD s.clk.up) }).setChan c.val 2).add64 0x5000 0x23 1
    else s)

/-- Every permanent repair due on a channel's package is done (R467). -/
def State.repairsDone (s : State) (c : Nat) : Bool :=
  s.nat 0x5000 0x28 == 0 || s.mem.listed.all (fun r => r.1 / 4 != c / 4 || r.2.2)

/-- A channel enters self-refresh: a due retrain is cancelled (DM3), its clocks stop (R457). -/
def State.chanSleeps (s : State) (c : Nat) : State :=
  let s1 := s.ranksWake c
  let s2 := (s1.chansPut c { s1.chansAt c with due := false, forced := false, waited := false, overdue := false }).setChan c 3
  let s3 : State := { s2 with mem := { s2.mem with dueOrder := s2.mem.dueOrder.filter (· != c) } }
  let s4 := s3.setFlag 0x5000 0x1A 5 ((List.range 32).any (fun c => (s3.chansAt c).overdue))
  if (List.range 32).all (fun c => s4.chanState c == 3) then s4.putN 0x5000 1 2 else s4

/-- SELF_REFRESH_ENTRY: during D7 or in STANDBY, an idle channel enters self-refresh; under R459 every channel does so at
the loss of REFCLK itself. -/
def execSelfRefreshEntry (c : ChannelId) (s : State) : Host.Outcome State Fault Refusal :=
  .next (
    if s.chanLive c.val ∧ s.allStopped = true ∧ (s.pwr.entering = true ∨ s.dst = 3) ∧ s.repairsDone c.val = true then
      s.chanSleeps c.val
    else s)

/-- The loss of REFCLK: every channel enters self-refresh (R459). -/
def State.dramHold (s : State) : State :=
  if s.mem.chanMiB = 0 then s
  else (s.each (List.range 32) (fun s c => if s.chanLive c then s.chanSleeps c else s)).setFlag 0x5000 0x1A 7 true

/-- Every channel exits self-refresh and is retrained in full; the requests that wait are served (R458, R459). -/
def State.dramExit (s : State) : State :=
  let s1 := (s.each (List.range 32) (fun s c =>
    let s1 := s.chanExits c
    if s1.chanLive c then
      (s1.putI (0x5010 + c) 6 0).chansPut c { s1.chansAt c with
        due := false, forced := false, waited := false, overdue := false, trainedAt := s.clk.up }
    else s1)).putN 0x5000 1 1
  let s2 := (s1.setFlag 0x5000 0x1A 7 false).setFlag 0x5000 0x1A 5 false
  let w := s2.mem.waiting
  w.foldl State.serve { s2 with mem := { s2.mem with waiting := [], dueOrder := [] } }

/-- A channel's retrain falls due (R460). -/
def State.retrainDue (s : State) (c : Nat) : State :=
  let x := s.chansAt c
  if x.due then s
  else
    let s1 := s.chansPut c { x with due := true }
    { s1 with mem := { s1.mem with dueOrder := s1.mem.dueOrder ++ [c] } }

/-- OSCILLATOR_READ: the drift of the oscillator count since the last training; the retrain falls due by the drift
threshold or the retrain interval (R460). -/
def execOscillatorRead (c : ChannelId) (count : Int) (s : State) : Host.Outcome State Fault Refusal :=
  .next (
    if s.chanLive c.val then
      let s1 := s.putI (0x5010 + c.val) 6 (clampI (-32768) 32767 count)
      if s.nat 0x5000 0x15 < count.natAbs ∨ (s.chansAt c.val).trainedAt + s.nat 0x5000 0x14 * tMs ≤ s.clk.up then
        s1.retrainDue c.val
      else s1
    else s)

/-- MR4_READ: the refresh multiplier that mode register 4 demands, and whether a die is hot (R436, Table 13.15). -/
def execMr4Read (c : ChannelId) (multiplier : Nat) (hot : Bool) (s : State) : Host.Outcome State Fault Refusal :=
  .next (
    if s.chanLive c.val ∧ (multiplier = 1 ∨ multiplier = 2 ∨ multiplier = 4) then
      let s1 := (s.putN (0x5010 + c.val) 7 multiplier).chansPut c.val { s.chansAt c.val with hot := hot }
      s1.setFlag 0x5000 0x1A 6 ((List.range 32).any (fun c => (s1.chansAt c).hot))
    else s)

/-- RETRAIN_FORCED: a retrain has been due for 4 ms; one that finds a port at panic waits, and is counted once (R461). -/
def execRetrainForced (c : ChannelId) (s : State) : Host.Outcome State Fault Refusal :=
  let x := s.chansAt c.val
  .next (
    if x.due ∧ x.forced = false then
      let s1 := (s.chansPut c.val { x with forced := true, waited := s.anyPanic }).bump 0x5000 0x17
      if s.anyPanic then s1.bump 0x5000 0x18 else s1
    else s)

/-- A channel may pause for its retrain (R461, R462, Table 13.7). -/
def State.mayRetrain (s : State) (c : Nat) : Bool :=
  let x := s.chansAt c
  x.due && s.chanLive c && !s.flag 0x4200 4 0 && s.mem.dueOrder.head? == some c &&
    (if x.forced then !s.anyPanic else !s.anyUrgent)

/-- RETRAIN_PAUSE: the channel whose retrain fell due first takes its pause (R461), within this command (log 179). A forced one
that meets a port at panic waits. -/
def execRetrainPause (c : ChannelId) (s : State) : Host.Outcome State Fault Refusal :=
  let x := s.chansAt c.val
  .next (
    if s.mayRetrain c.val then
      let s1 := (((s.bump 0x5000 0x16).bump (0x5010 + c.val) 5).putI (0x5010 + c.val) 6 0).chansPut c.val { x with
        due := false, forced := false, waited := false, overdue := false, trainedAt := s.clk.up }
      let s2 : State := { s1 with mem := { s1.mem with dueOrder := s1.mem.dueOrder.filter (· != c.val) } }
      s2.setFlag 0x5000 0x1A 5 ((List.range 32).any (fun c => (s2.chansAt c).overdue))
    else if x.due ∧ x.forced = true ∧ s.anyPanic = true ∧ x.waited = false then
      (s.chansPut c.val { x with waited := true }).bump 0x5000 0x18
    else s)

/-- RETRAIN_OVERDUE: a retrain is still not taken 16 ms after it fell due (R461). -/
def execRetrainOverdue (c : ChannelId) (s : State) : Host.Outcome State Fault Refusal :=
  let x := s.chansAt c.val
  .next (
    if x.due ∧ x.overdue = false then
      ((s.chansPut c.val { x with overdue := true }).bump 0x5000 0x19).setFlag 0x5000 0x1A 5 true
    else s)

/-! ### Training and repair (R434, R442, R463 to R468) -/

/-- Addressable MiB of one channel (Table 13.2). -/
def chanMiBOf (density ranks : Nat) (check : Bool) : Nat :=
  let managed := density * 128 * ranks
  if check then managed * 7 / 8 else managed

/-- Training has failed (R434, R464). -/
def trainingFails (r : TrainingResult) : Bool :=
  !r.uniform || !(r.density == 8 || r.density == 16) || !(r.ranks == 1 || r.ranks == 2) || r.failed != 0

/-- DRAM that has failed training (R464). -/
def State.dramFails (s : State) (r : TrainingResult) : State :=
  let s1 := ((s.putN 0x5000 1 3).setFlag 0x5000 0x1A 8 true).each (List.range 32) (fun s c =>
    if bit r.failed.toNat c then s.setChan c 5 else s)
  { s1 with mem := { listed := s.mem.listed }, pwr := { s1.pwr with dramTrained := true, dramFailed := true } }

/-- The memory parameters and pools that START takes (R441, R442). -/
def State.memAtStart (s : State) (r : TrainingResult) : MemSt :=
  let check := s.nat 0x5000 7 == 1
  let m : MemSt := {
    check := check, grain := s.nat 0x5000 8, mask := s.nat 0x5000 9, control := s.nat 0x5000 0x0A,
    order := s.nat 0x5000 0x0B, chanMiB := chanMiBOf r.density r.ranks check, listed := s.mem.listed }
  let room := 32 * (m.chanMiB - m.control) + m.others.length * m.control
  let canvas := min (s.nat 0x25F0 1) room
  { m with canvasPool := canvas, capturePool := min (s.nat 0x28F0 1) (room - canvas) }

/-- DRAM_TRAINING_COMPLETE: training at START ends (R434, R435, R442, R463, R464). Soft repairs are applied again: the
repair list stands. -/
def execDramTrainingComplete (r : TrainingResult) (s : State) : Host.Outcome State Fault Refusal :=
  .next (
    if s.dst ≠ 0 ∨ s.pwr.dramTrained = true ∨ s.pwr.step < 2 ∨ s.clk.refclk = false then s
    else if trainingFails r then s.dramFails r
    else
      let m := s.memAtStart r
      let s1 : State := { s with mem := m, pwr := { s.pwr with dramTrained := true } }
      let managed := r.density * 128 * r.ranks
      let s2 := (((((s1.putN 0x5000 1 1).putN 0x5000 3 r.density).putN 0x5000 4 r.ranks).putN 0x5000 5 (32 * managed)).putN
        0x5000 6 (32 * m.chanMiB)).putN 0x5000 0x0C (32 * (m.chanMiB - m.control))
      let s3 := (s2.putN 0x5000 0x0D (m.others.length * m.control)).setFlag 0x5000 0x1A 2 (!m.check)
      let s4 := s3.setFlag 0x5000 0x1A 9 (m.canvasPool != s.nat 0x25F0 1 || m.capturePool != s.nat 0x28F0 1)
      s4.each (List.range 32) (fun s c => (s.setChan c 1).chansPut c { trainedAt := s.clk.up }))

/-- Repair resources that remain on a channel, 5010 + c:08. -/
def State.repairRoom (s : State) (c : Nat) : Nat :=
  Config.repairResources c - (s.mem.listed.filter (fun r => r.1 == c)).length

/-- The 16 bytes of a repair record: channel, row chunk, permanent. -/
def repairBytes (c w : Nat) (perm : Bool) : List Byte :=
  leBytes 2 c ++ leBytes 8 w ++ leBytes 1 (if perm then 1 else 0) ++ List.replicate 5 0

/-- A repair recorded in the persistent store (R466). -/
def State.recordRepair (s : State) (c w : Nat) (perm : Bool) : State :=
  s.persist (repairKey (c * 2 ^ 24 + w)) (.bytes (repairBytes c w perm))

/-- SOFT_REPAIR: the first candidate row is repaired by sPPR where a resource is left, its contents kept (R466); else it
stays in service and is counted (R468). -/
def execSoftRepair (s : State) : Host.Outcome State Fault Refusal :=
  let cands := (List.range 32).flatMap (fun c => (s.chansAt c).candidates.map (fun w => (c, w)))
  .next (
    match cands with
    | [] => s
    | (c, w) :: _ =>
      let x := s.chansAt c
      let s1 := s.chansPut c { x with candidates := x.candidates.filter (· != w) }
      if s.anyPanic ∨ s.chanLive c = false ∨ s.clk.refclk = false then s
      else if 0 < s.repairRoom c then
        let s2 : State := { s1 with mem := { s1.mem with listed := s1.mem.listed ++ [(c, w, false)] } }
        (s2.addSat 0x5000 0x24 1).recordRepair c w false
      else
        ((s1.chansPut c { s1.chansAt c with unrepaired := x.unrepaired ++ [w] }).addSat 0x5000 0x27 1).setFlag 0x5000 0x1A 4 true)

/-- HARD_REPAIR: at entry to STANDBY, listed repairs are made permanent by hPPR (R467). -/
def execHardRepair (s : State) : Host.Outcome State Fault Refusal :=
  .next (
    if s.pwr.entering ∧ s.nat 0x5000 0x28 = 1 then
      let todo := s.mem.listed.filter (fun r => !r.2.2)
      let s1 : State := { s with mem := { s.mem with listed := s.mem.listed.map (fun r => (r.1, r.2.1, true)) } }
      todo.foldl (fun s r => s.recordRepair r.1 r.2.1 true) s1
    else s)

end Sys2Proof.Machine
end

