-- ==== Sys2Proof/Machine/Time.lean ====
section
/-! DEFINITION. The time base, PTP, SYNC_IN and frame start requests (R79 to R96, R102). -/

namespace Sys2Proof.Machine

open Sys2Proof

/-! ### Frame references -/

/-- The frame reference of course k is `r` on channel `ch` (Table 3.3). -/
def State.follows (s : State) (k r ch : Nat) : Bool := s.nat (refIx k) 1 == r && s.nat (refIx k) 2 == ch

/-- No active bow of course k is left to emit, and the minimum flyback has passed since the end of the last one (R91, R151). -/
def State.flybackOver (s : State) (k : Nat) : Bool :=
  (s.frmAt k).flyback && match (s.frmAt k).lastEnd with
    | some e => decide (e + (400 * s.nat (crs k) 0x12 : Nat) ≤ (s.clk.slot : Rat))
    | none => true

/-- A frame start request of course k at time `t` (R91): it is held until the frame starts; a request that finds one held replaces
it, and the held one is dropped and counted. `counter` is the frame counter a PTP epoch carries. -/
def State.requestFrame (s : State) (k : Nat) (counter : Option Nat) (t : Nat) : State :=
  let f := s.frmAt k
  let s1 := s.frmPut k { f with held := some { counter := counter, at_ := t, waits := !s.flybackOver k } }
  if f.held.isSome then s1.bump (refIx k) 0x19 else s1

/-- The frame schedule of course k has moved (R92): the current frame completes, and dark flyback bows follow until the
next frame start of the new schedule. DESIGN CHOICE (log 156): requests of the old schedule that have not started a frame are
dropped with it, and are not counted in 1220 + k:19, which R91 counts only where a further request arrives. -/
def State.realign (s : State) (k : Nat) : State :=
  s.frmPut k { s.frmAt k with realigning := true, held := none, coming := [] }

/-- Requests of course k whose phase offset has passed arrive, in order (Table 3.3). -/
def State.arrive (s : State) (k : Nat) : State :=
  let f := s.frmAt k
  if f.coming.isEmpty then s
  else
    (f.coming.filter (fun t => decide (t ≤ s.clk.tai))).foldl (fun s t => s.requestFrame k none t)
      (s.frmPut k { f with coming := f.coming.filter (fun t => decide (s.clk.tai < t)) })

/-- Every PTP course realigns. -/
def State.realignPtp (s : State) : State :=
  s.each allCourses (fun s k => if s.nat (refIx k) 1 = 0 then s.realign k else s)

/-- Hush cause bit 7 of the courses that follow a reference whose holdover limit has passed (F1, F4). -/
def State.expireRef (s : State) (f : Nat → Bool) : State :=
  s.each allCourses (fun s k => if f k && s.nat (refIx k) 9 == 1 then s.setCause k 7 else s)

/-- Bit 7 of those courses clears when the reference is valid again. -/
def State.restoreRef (s : State) (f : Nat → Bool) : State :=
  s.each allCourses (fun s k => if f k then s.clearCause k 7 else s)

/-! ### The servo (R85 to R88) -/

/-- Servo states of Table 3.2. -/
def svFree : Nat := 0
def svAcquiring : Nat := 1
def svLocked : Nat := 2
def svHoldover : Nat := 3
def svExpired : Nat := 4

def State.servoState (s : State) : Nat := s.nat 0x1200 3

/-- Holdover elapsed, 1200:0C: running in HOLDOVER and HOLDOVER EXPIRED, else the last duration. -/
def State.holdElapsed (s : State) : Nat :=
  if s.servoState = svHoldover ∨ s.servoState = svExpired then ((s.clk.up - s.servo.holdSince) / tMs) % 2 ^ 32
  else s.nat 0x1200 0x0C

/-- The servo enters a state; leaving HOLDOVER or HOLDOVER EXPIRED fixes 1200:0C. -/
def State.setServo (s : State) (st : Nat) : State := (s.putN 0x1200 0x0C s.holdElapsed).putN 0x1200 3 st

/-- The servo is FREE: REFCLK rate, correction 0 (Table 3.2). -/
def State.setFree (s : State) : State :=
  let s1 := (s.setServo svFree).putX 0x1200 5 0
  { s1 with servo := { s1.servo with c := 0, integ := 0 } }

/-- The servo enters HOLDOVER. -/
def State.enterHoldover (s : State) (fromAcquiring : Bool) : State :=
  let s1 := (s.setServo svHoldover).bump 0x1200 0x11
  { s1 with servo := { s1.servo with
      holdSince := s1.clk.up, fromAcquiring := fromAcquiring, lockRun := 0, jumpRun := 0, backRun := 0,
      expiredSyncs := 0 } }

/-- The servo enters ACQUIRING: dt of the first Sync counts from here (log 16). -/
def State.enterAcquiring (s : State) : State :=
  let s1 := s.setServo svAcquiring
  { s1 with servo := { s1.servo with lockRun := 0, jumpRun := 0, lastSync := some s1.clk.up } }

/-- The servo enters LOCKED: bit 7 of PTP courses clears (F1). -/
def State.enterLocked (s : State) : State :=
  let s1 := s.setServo svLocked
  ({ s1 with servo := { s1.servo with lockRun := 0, jumpRun := 0, backRun := 0 } } : State).restoreRef
    (fun k => s1.nat (refIx k) 1 == 0)

/-- Seconds since the last Sync. -/
def State.syncDt (s : State) : Rat :=
  match s.servo.lastSync with
  | none => 0
  | some t => ((s.clk.up - t : Nat) : Rat) / (tS : Rat)

/-- The frequency correction of R85 after an offset: (c, integral term). At the slew bound the integral is frozen. -/
def servoStep (kp ki slew c i o dt : Rat) : Rat × Rat :=
  let i1 := i + ki * o
  let cn := kp * o + i1
  let lo := c - 1000 * slew * dt
  let hi := c + 1000 * slew * dt
  (clampR (-250000) 250000 (clampR lo hi cn), if cn < lo || hi < cn then i else i1)

/-- A Sync steers the servo (R85). -/
def State.steer (s : State) (o : Int) : State :=
  let r := servoStep (s.fix 0x1200 0x0A) (s.fix 0x1200 0x0B) (s.fix 0x1200 7) s.servo.c s.servo.integ o s.syncDt
  ({ s with servo := { s.servo with c := r.1, integ := r.2, lastSync := some s.clk.up } } : State).putX 0x1200 5 (r.1 / 1000)

/-- The time base is set: every PTP course realigns (R92). -/
def State.setTai (s : State) (t : Nat) : State := { s with clk := { s.clk with tai := t } }

/-- A step of the time base counts in 1200:0F (R82, R87). -/
def State.stepTai (s : State) (t : Nat) : State := ((s.setTai t).bump 0x1200 0x0F).realignPtp

/-- A measured offset is beyond the step threshold. -/
def State.beyondStep (s : State) (o : Int) : Bool := decide ((s.nat 0x1200 8 : Int) < (o.natAbs : Int))

/-- A Sync with offset `o` ns from the port followed (R85 to R88). -/
def State.sync (s0 : State) (o : Int) : State :=
  let s := s0.putI 0x1200 4 (sat32 o)
  let big := s.beyondStep o
  if s.servoState = svAcquiring then
    if big then
      let s1 := s.stepTai ((s.clk.tai : Int) - o * (tNs : Int)).toNat
      { s1 with servo := { s1.servo with integ := 0, lockRun := 0, lastSync := some s1.clk.up } }
    else
      let s1 := s.steer o
      let run := if o.natAbs ≤ s.nat 0x1200 9 then s1.servo.lockRun + 1 else 0
      let s2 := { s1 with servo := { s1.servo with lockRun := run } }
      if 16 ≤ run then s2.enterLocked else s2
  else if s.servoState = svLocked then
    let run := if big then s.servo.jumpRun + 1 else 0
    if 4 ≤ run then
      (s.bump 0x1200 0x10).enterHoldover false
    else
      let s1 := s.steer o
      { s1 with servo := { s1.servo with jumpRun := run } }
  else if s.servoState = svHoldover ∨ s.servoState = svExpired then
    let s1 := { s with servo := { s.servo with lastSync := some s.clk.up } }
    if s.servo.fromAcquiring then s1.enterAcquiring
    else
      let run := if big then 0 else s.servo.backRun + 1
      if 8 ≤ run then s1.enterLocked
      else
        let n := s.servo.expiredSyncs + 1
        let s2 := { s1 with servo := { s1.servo with backRun := run, expiredSyncs := n } }
        if s.servoState = svExpired ∧ 8 ≤ n then s2.enterAcquiring else s2
  else s.enterAcquiring

/-- A PTP message on a port is taken up: the port is enabled, the domain is the committed one, and the message uses nothing that
Table 3.1 does not support (R83). -/
def State.ptpTakes (s : State) (port : PortId) (domain : Nat) (beyond : List PtpFeature) : Bool :=
  s.flag 0x1201 1 port.val && domain == s.nat 0x1201 3 && beyond.isEmpty

/-- PTP_SYNC: an offset measured on a port counts when that port is followed (R83 to R85). -/
def execPtpSync (port : PortId) (sync : PtpSyncMessage) (s : State) : Host.Outcome State Fault Refusal :=
  .next (
    if s.ptpTakes port sync.domain sync.beyond && s.servo.selected && s.nat 0x1201 0x0B == port.val then s.sync sync.offset else s)

/-! ### Best master (R84) -/

/-- The data set comparison of IEEE 1588: announcements of one grandmaster by topology, others by their data sets; the smaller in
order is the better (log 17). -/
def announceKeys (a b : Announce) : List Nat × List Nat :=
  if a.grandmaster = b.grandmaster then ([a.stepsRemoved, a.sender], [b.stepsRemoved, b.sender])
  else
    ([a.priority1, a.clockClass, a.accuracy, a.variance, a.priority2, a.grandmaster],
      [b.priority1, b.clockClass, b.accuracy, b.variance, b.priority2, b.grandmaster])

def keyLess : List Nat → List Nat → Bool
  | [], _ => false
  | _ :: _, [] => false
  | a :: as, b :: bs => if a < b then true else if b < a then false else keyLess as bs

/-- A record is better than another; the same master heard on both ports is taken on the lower, port A (R84). -/
def Foreign.better (f g : Foreign) : Bool :=
  if f.a.sender = g.a.sender then decide (f.port < g.port)
  else keyLess (announceKeys f.a g.a).1 (announceKeys f.a g.a).2

/-- The best of the foreign masters. -/
def bestMaster : List Foreign → Option Foreign
  | [] => none
  | f :: r =>
    match bestMaster r with
    | none => some f
    | some g => if g.better f then some g else some f

/-- The master selected from the foreign masters is shown, and the servo leaves FREE (Table 3.2, R84, R88). -/
def State.selectMaster (s : State) : State :=
  match bestMaster s.servo.foreign with
  | none => s
  | some f =>
    let s1 := if s.servo.selected && s.nat 0x1201 9 != f.a.grandmaster then s.bump 0x1201 0x0E else s
    let s2 := (((s1.putN 0x1201 9 f.a.grandmaster).putN 0x1201 0x0A f.a.stepsRemoved).putN 0x1201 0x0B f.port).putI
      0x1200 0x0E f.a.utcOffset
    let new := !s.servo.selected
    let s3 := { s2 with servo := { s2.servo with
        selected := true, expiredSyncs := if new then 0 else s2.servo.expiredSyncs,
        backRun := if new && s2.servoState == svExpired then 0 else s2.servo.backRun } }
    if s3.servoState = svFree then s3.enterAcquiring
    else if (s3.servoState = svHoldover ∨ s3.servoState = svExpired) ∧ s3.servo.fromAcquiring = true then s3.enterAcquiring
    else s3

/-- The announce receipt timeout, 1201:07 announce intervals of 2^(1201:04) s, in 2⁻¹⁶ ns. -/
def State.announceTimeout (s : State) : Nat :=
  let n := s.int 0x1201 4
  s.nat 0x1201 7 * (if n < 0 then tS / 2 ^ n.natAbs else tS * 2 ^ n.natAbs)

/-- PTP_ANNOUNCE: an Announce updates its sender's record; records not heard for the announce receipt timeout go, and the best
master is selected (R83, R84). -/
def execPtpAnnounce (port : PortId) (a : Announce) (s : State) : Host.Outcome State Fault Refusal :=
  .next (
    if s.ptpTakes port a.domain a.beyond then
      let l := s.servo.foreign.filter (fun f =>
        !(f.port == port.val && f.a.sender == a.sender) && decide (s.clk.up < f.heard + s.announceTimeout))
      ({ s with servo := { s.servo with
          foreign := l ++ [{ port := port.val, a := a, heard := s.clk.up }] } } : State).selectMaster
    else s)

/-- The enabled ports or the domain have changed: records that they no longer admit go, and the master is selected among the rest;
with none left no port is followed, until the announce receipt timeout moves the servo (R84, R86). -/
def State.portsChanged (s : State) : State :=
  let l := s.servo.foreign.filter (fun f => s.flag 0x1201 1 f.port && f.a.domain == s.nat 0x1201 3)
  let s1 : State := { s with servo := { s.servo with foreign := l, selected := s.servo.selected && !l.isEmpty } }
  if l.isEmpty then s1.putN 0x1201 0x0B 0xFF else s1.selectMaster

/-- PTP_DELAY_RESPONSE: the mean path delay measured on the port followed, by the delay mechanism of the profile: peer-to-peer in
profile 2, else end-to-end (R83). -/
def execPtpDelayResponse (port : PortId) (delay : PtpDelayMessage) (s : State) : Host.Outcome State Fault Refusal :=
  .next (
    if s.ptpTakes port delay.domain delay.beyond && s.nat 0x1201 0x0B == port.val && delay.peer == (s.nat 0x1201 2 == 2) then
      s.putN 0x1201 0x0C (min delay.meanPathDelay 0xFFFFFFFF)
    else s)

/-- ANNOUNCE_RECEIPT_TIMEOUT: no master is left on any enabled port (R86, F1). -/
def execAnnounceReceiptTimeout (s : State) : Host.Outcome State Fault Refusal :=
  let s1 := ({ s with servo := { s.servo with foreign := [], selected := false } } : State).putN 0x1201 0x0B 0xFF
  .next (
    if s1.servoState = svLocked then s1.enterHoldover false
    else if s1.servoState = svAcquiring then s1.enterHoldover true
    else s1)

/-- SYNC_IN inputs whose holdover has lasted the limit enter state 4 (F4). -/
def State.expireSyncIn (s : State) : State :=
  s.each [0, 1, 2, 3] (fun s i =>
    if s.nat (0x1210 + i) 8 = 3 ∧ (s.syncsAt i).holdSince + s.nat 0x1200 6 * tS ≤ s.clk.up then
      (s.putN (0x1210 + i) 8 4).expireRef (fun k => s.follows k 1 i)
    else s)

/-- HOLDOVER_EXPIRED: the servo, or a SYNC_IN input, whose holdover has lasted the holdover limit (R86, R102); courses with policy
hush set bit 7 (F1, F4). -/
def execHoldoverExpired (s : State) : Host.Outcome State Fault Refusal :=
  let s1 :=
    if s.servoState = svHoldover ∧ s.servo.holdSince + s.nat 0x1200 6 * tS ≤ s.clk.up then
      let s2 := s.putN 0x1200 3 svExpired
      ({ s2 with servo := { s2.servo with expiredSyncs := 0 } } : State).expireRef (fun k => s2.nat (refIx k) 1 == 0)
    else s
  .next s1.expireSyncIn

/-! ### Setting the time (R82) -/

/-- A write of 1200:0D: a step while FREE, else status 0x07. -/
def State.setTime (s : State) (t : Nat) : State × Nat :=
  if 999999999 < t / 2 ^ 48 then (s, stRange)
  else if s.servoState = svFree then (s.stepTai (nsOfTime80 t * tNs), stOk)
  else (s, stRejected)

/-- The response of an item that a command executes by itself: op, item, status and value bytes (R51). -/
def State.answer (s : State) (op : Nat) (it : Item) (status : Nat) (value : List Byte) : State :=
  { s with oz := { s.oz with answered := s.oz.answered ++ [(op, it, status, value)] } }

/-- The item of a WRITE to an entry of a fixed-size type. -/
def writeItem (type index sub length : Nat) : Item :=
  { final := false, type := type, index := index, sub := sub, length := length, offset := 0 }

/-- The indices that recovery mode serves (R498). -/
def recoveryIndex (i : Nat) : Bool := i == 0x1000 || i == 0x1100 || i == 0x1400 || i == 0x7100 || i == 0x7F00

/-- The dictionary serves an index: all of them, but in recovery mode (R498). -/
def State.serves (s : State) (i : Nat) : Bool := !(s.flag 0x7F00 0x0B 0) || recoveryIndex i

/-- The dictionary service answers: from D5 on (R60), and not while the active pair restarts in place (R497). -/
def State.ozRuns (s : State) : Bool := s.dst != 0 && !s.fw.restarting

/-- A WRITE of a command entry by a master: `f` gives its effect and its status. -/
def State.hostWrite (s : State) (it : Item) (f : State → State × Nat) : State :=
  if s.ozRuns then
    let r := if s.serves it.index then f s else (s, stRestarting)
    r.1.answer 0x02 it r.2 []
  else s

/-- SET_TIME: a WRITE of 1200:0D (R82). -/
def execSetTime (_m : MasterId) (t : Nat) (s : State) : Host.Outcome State Fault Refusal :=
  .next (s.hostWrite (writeItem 0x0C 0x1200 0x0D 10) (fun s => s.setTime (t % 2 ^ 80)))

/-! ### SYNC_IN (R95, R96) -/

/-- Time from one frame edge of input i to the next, in 2⁻¹⁶ ns. -/
def State.syncFrame (s : State) (i : Nat) : Nat :=
  s.nat (0x1210 + i) 6 * (if s.nat (0x1210 + i) 1 = 2 then s.nat (0x1210 + i) 3 else 1)

/-- When a frame edge of input i at time t requests a frame of course k: at the edge plus the frame phase offset (Table 3.3). With a
negative offset that is before the edge, so it is the next frame edge, as predicted, whose request this edge tells (log 157). -/
def State.edgeRequest (s : State) (k i t : Nat) : Int :=
  let phi := s.int (refIx k) 5 * (tNs : Int)
  if phi < 0 then (t : Int) + (s.syncFrame i : Int) + phi else (t : Int) + phi

/-- A frame edge on input i at time t: a frame start request of each course that follows it. -/
def State.frameEdge (s : State) (i t : Nat) : State :=
  s.each allCourses (fun s k =>
    if s.follows k 1 i then
      let due := s.edgeRequest k i t
      if due ≤ (s.clk.tai : Int) then s.requestFrame k none due.toNat
      else s.frmPut k { s.frmAt k with coming := (s.frmAt k).coming ++ [due.toNat] }
    else s)

/-- Line inputs whose frame marker is input i start their count afresh (R95). -/
def State.markLines (s : State) (i : Nat) : State :=
  s.each [0, 1, 2, 3] (fun s j =>
    if s.nat (0x1210 + j) 1 = 2 ∧ s.nat (0x1210 + j) 4 = i then s.syncsPut j { s.syncsAt j with lines := 0 } else s)

/-- An edge at time t, or what stands in for it, counts toward a frame edge: every edge in frame mode, every N-th in line mode; and as
an edge of a frame marker (R95). DESIGN CHOICE (log 158): the first line edge after the commit, or after the marker, counts 1. -/
def State.countEdge (s0 : State) (i t : Nat) : State :=
  let s := s0.markLines i
  if s.nat (0x1210 + i) 1 = 1 then s.frameEdge i t
  else
    let n := (s.syncsAt i).lines + 1
    if s.nat (0x1210 + i) 3 ≤ n then (s.syncsPut i { s.syncsAt i with lines := 0 }).frameEdge i t
    else s.syncsPut i { s.syncsAt i with lines := n }

/-- The period estimate may change by at most the slew limit per second of elapsed time (R96). -/
def slewPeriod (slew : Rat) (est measured : Nat) : Nat :=
  if est = 0 then measured
  else
    let b := (est : Rat) * slew / 1000000 * ((measured : Rat) / (tS : Rat))
    (roundEven (clampR ((est : Rat) - b) ((est : Rat) + b) measured)).toNat

/-- The edges of input i lie within the glitch window of their prediction. -/
def State.inGlitch (s : State) (i t p : Nat) : Bool :=
  decide ((((t : Int) - (p : Int)).natAbs) ≤ s.nat (0x1210 + i) 5 * tNs)

/-- An accepted edge of input i at time t: time, period estimate and prediction. -/
def State.acceptEdge (s : State) (i t : Nat) : State :=
  let x := s.syncsAt i
  let est := match x.last with
    | none => s.nat (0x1210 + i) 6
    | some l => slewPeriod (s.fix 0x1200 7) (s.nat (0x1210 + i) 6) (t - l)
  ((s.syncsPut i { x with
      last := some t, predicted := if est = 0 then none else some (t + est), missed := 0 }).putN (0x1210 + i) 6 est).putN
    (0x1210 + i) 7 (time80 (t / tNs))

/-- An edge of an input that is not valid: eight consecutive edges within the window of the period that the edges before
imply make it valid; its courses then realign and bit 7 clears (R96, F4). The estimate :06 is the implied period while the input is
acquired, and is kept through a holdover, in which the courses go on at it, until the input is valid again (log 159). -/
def State.acquireEdge (s : State) (i t : Nat) : State :=
  let x := s.syncsAt i
  let ok := match x.predicted with
    | none => false
    | some p => s.inGlitch i t p
  let good := if ok then x.good + 1 else 0
  let est := match x.last with
    | none => 0
    | some l => t - l
  let held := (s.nat (0x1210 + i) 8 == 3 || s.nat (0x1210 + i) 8 == 4) && decide (good < 8)
  let s1 := ((s.syncsPut i { x with
      last := some t, predicted := if est = 0 then none else some (t + est), missed := 0, good := good }).putN
    (0x1210 + i) 6 (if held then s.nat (0x1210 + i) 6 else est)).putN (0x1210 + i) 7 (time80 (t / tNs))
  if 8 ≤ good then
    ((s1.putN (0x1210 + i) 8 2).restoreRef (fun k => s.follows k 1 i)).each allCourses
      (fun s k => if s.follows k 1 i then s.realign k else s)
  else s1

/-- The predicted edges of valid input i whose window ended before time t, at most `n` of them and until four have passed: each stands
in for the edge that was not accepted (R96, F3). -/
def State.standIns (s : State) (i t : Nat) : Nat → State
  | 0 => s
  | n + 1 =>
    let x := s.syncsAt i
    match x.predicted with
    | some p =>
      if s.nat (0x1210 + i) 8 = 2 ∧ x.missed < 4 ∧ p + s.nat (0x1210 + i) 5 * tNs < t then
        ((s.syncsPut i { x with
          last := some p, predicted := some (p + s.nat (0x1210 + i) 6), missed := x.missed + 1 }).countEdge i p).standIns i t n
      else s
    | none => s

/-- A valid input for which four predicted edges have passed without an accepted one enters holdover (R96). -/
def State.syncHold (s : State) (i : Nat) : State :=
  if s.nat (0x1210 + i) 8 = 2 ∧ 4 ≤ (s.syncsAt i).missed then
    (s.syncsPut i { s.syncsAt i with good := 0, predicted := none, holdSince := s.clk.up }).putN (0x1210 + i) 8 3
  else s

/-- An edge of input i at time t, with the predicted edges before it passed: accepted, discarded and counted, or one toward validity.
DESIGN CHOICE (log 160): the edges of an input that is still being acquired for the first time request frames; those of one in
holdover do not, as its courses go on at the last period. -/
def State.syncEdge (s : State) (i t : Nat) : State :=
  let st := s.nat (0x1210 + i) 8
  if st = 2 then
    match (s.syncsAt i).predicted with
    | some p => if s.inGlitch i t p then (s.acceptEdge i t).countEdge i t else s.bump (0x1210 + i) 9
    | none => (s.acceptEdge i t).countEdge i t
  else if st = 1 ∨ st = 0 then (s.acquireEdge i t).countEdge i t
  else s.acquireEdge i t

/-- SYNC_IN_EDGE: an edge of input i that the filter accepted, at time-base time t with the filter's delay removed (R95, R96). -/
def execSyncInEdge (i : Fin 4) (falling : Bool) (t : Nat) (s : State) : Host.Outcome State Fault Refusal :=
  .next (
    if s.nat (0x1210 + i.val) 1 = 0 ∨ (s.nat (0x1210 + i.val) 2 == 1) ≠ falling then s
    else ((s.standIns i.val t 4).syncHold i.val).syncEdge i.val t)

/-- SYNC_IN_HOLDOVER: four consecutive predicted edges have passed without an accepted edge (R96, F4). -/
def execSyncInHoldover (i : Fin 4) (s : State) : Host.Outcome State Fault Refusal :=
  .next (if s.nat (0x1210 + i.val) 1 = 0 then s else (s.standIns i.val s.clk.tai 4).syncHold i.val)

/-! ### PTP and content-follow frame requests (R93, R100) -/

/-- The frame index at a time-base time (R93), for numerator `num`, denominator `den` and phase `phi` ns. -/
def ptpIndex (t num den : Nat) (phi : Int) : Int :=
  ((t : Int) - phi * (tNs : Int)) * (num : Int) / ((den * (65536 * 1000000000) : Nat) : Int)

/-- The start of PTP frame n in 2⁻¹⁶ ns (R93). -/
def ptpStart (n : Int) (num den : Nat) (phi : Int) : Int :=
  n * ((den * (65536 * 1000000000) : Nat) : Int) / (num : Int) + phi * (tNs : Int)

/-- The PTP frame index of course k now, and the start of a frame by its index (R93). -/
def State.ptpNow (s : State) (k : Nat) : Int :=
  ptpIndex s.clk.tai (s.nat (refIx k) 3) (s.nat (refIx k) 4) (s.int (refIx k) 5)
def State.ptpStartOf (s : State) (k : Nat) (n : Int) : Int :=
  ptpStart n (s.nat (refIx k) 3) (s.nat (refIx k) 4) (s.int (refIx k) 5)

/-- PTP_FRAME_EPOCH: an aligned epoch of course k is reached (R93). -/
def execPtpFrameEpoch (k : CourseId) (s : State) : Host.Outcome State Fault Refusal :=
  .next (
    if s.nat (refIx k.val) 1 = 0 then
      s.requestFrame k.val (some (s.ptpNow k.val % (2 ^ 32 : Nat)).toNat) (s.ptpStartOf k.val (s.ptpNow k.val)).toNat
    else s)

/-- CONTENT_FOLLOW_PERIOD_END: the servo-set frame period of course k ends (R100). -/
def execContentFollowPeriodEnd (k : CourseId) (s : State) : Host.Outcome State Fault Refusal :=
  .next (if s.nat (refIx k.val) 1 = 3 then s.requestFrame k.val none s.clk.tai else s)

/-- Nominal frame period of course k in 2⁻¹⁶ ns (R93, R94). -/
def State.framePeriod (s : State) (k : Nat) : Rat :=
  (s.nat (refIx k) 4 : Rat) * (tS : Rat) / (s.nat (refIx k) 3 : Rat)

/-- When the latest buffer of the canvas that course k follows was completed, in 2⁻¹⁶ ns; 0 for none yet (2400 + c:13). -/
def State.contentDone (s : State) (k : Nat) : Nat := nsOfTime80 (s.nat (0x2400 + s.nat (refIx k) 2) 0x13) * tNs

/-- CONTENT_FOLLOW_HOLDOVER: no buffer has completed for 4 frame periods; d and acc are held (R100). -/
def execContentFollowHoldover (k : CourseId) (s : State) : Host.Outcome State Fault Refusal :=
  .next (
    if s.nat (refIx k.val) 1 = 3 ∧ (s.contentDone k.val = 0 ∨
        (s.contentDone k.val : Rat) + 4 * s.framePeriod k.val * (1 + (s.frmAt k.val).d) ≤ (s.clk.tai : Rat)) then
      s.frmPut k.val { s.frmAt k.val with cfHold := true }
    else s)

/-- The next d and acc of a content-follow course from an arrival phase (R100). -/
def contentStep (d acc phase : Rat) : Rat × Rat :=
  let e := 1 / 2 - phase
  let acc1 := acc + e / 64
  let d1 := clampR (-1 / 1000) (1 / 1000) (e / 8 + acc1)
  (clampR (d - 1 / 100000) (d + 1 / 100000) d1, acc1)

/-! ### Loss and return of REFCLK (R32, R105, R125) -/

/-- REFCLK_LOSS: the safety domain detects the loss (R32): D3, and bit 10 of every course that is not STOPPED (F9). Bow
model estimates are lost, and every model reads state 4 (R125). DRAM enters self-refresh (R459). The lanes' HUSH copies are CAPO_HUSH's. -/
def execRefclkLoss (s : State) : Host.Outcome State Fault Refusal :=
  .next (
    if s.clk.refclk then
      let s1 := { s with clk := { s.clk with
        refclk := false, elapsed := 0, lossSlot := s.clk.slot, lossTai := s.clk.tai } }
      let s2 := ((s1.bump 0x1200 0x12).leaveLit).dramHold
      s2.each allCourses (fun s k =>
        if s.cst k = 0 then s
        else
          let b := s.bowAt k
          ((s.setCauseNow k 10).putN (crs k) 0x15 4).bowPut k { lev := b.lev, bow := b.bow, forward := b.forward })
    else s)

/-- Slots that resume after an elapsed time: 400 M slots/s, rounded up to a multiple of 16,384 (R125). -/
def resumeSlots (elapsed : Nat) : Nat := (elapsed / tSlot + 16383) / 16384 * 16384

/-- REFCLK_RETURN: every PLL relocks; the time base and the slot counter resume with the elapsed time added, lanes train,
courses clear bit 10, and DRAM is retrained and serves what waits (R32, R105, R125, R323, R459). -/
def execRefclkReturn (s : State) : Host.Outcome State Fault Refusal :=
  .next (
    if s.clk.refclk then s
    else
      let c := s.clk
      let started := s.pwr.step ≥ 2
      let s1 := { s with clk := { c with
        refclk := true, half := false, tai := c.lossTai + c.elapsed, elapsed := 0,
        slot := if started then c.lossSlot + resumeSlots c.elapsed else c.slot, slotRun := started } }
      let s2 := if s1.servo.selected then s1.enterAcquiring else s1.setFree
      let s3 := s2.realignPtp
      let s4 := s3.each allLanes (fun s l =>
        if (s.lanesAt l).state = 0 ∧ started ∧ s.dst ≠ 3 ∧ s.capo.shutLatch = false then s.lanesPut l { s.lanesAt l with state := 1 } else s)
      let s5 := if s.mem.chanMiB = 0 then s4 else if s.dst = 3 then s4.setFlag 0x5000 0x1A 7 false else s4.dramExit
      s5.clearBit10)

end Sys2Proof.Machine
end

