-- ==== Sys2Proof/Machine/FrameTime.lean ====
section
/-! DEFINITION. The coming frame start of a course: its counter and its time, and which items of a commit are due at it
(R65, R66, R90 to R100, R154, R188). -/

namespace Sys2Proof.Machine

open Sys2Proof

/-- The SYNC_IN input or the shaft that course k follows. -/
def State.channelOf (s : State) (k : Nat) : Nat := s.nat (refIx k) 2

/-- The unwrapped position of a shaft channel, and its count rate over the last 1 ms (1218 + j:0F). -/
def State.shaftPos (s : State) (j : Nat) : Int := s.int (0x1218 + j) 0x0D
def State.shaftRate (s : State) (j : Nat) : Int :=
  sat32 (1000 * (((s.shaftsAt j).recent.filter (fun r => decide (s.clk.up < r.1 + tMs))).map (·.2)).sum)

/-- Counts to the next change of the shaft frame number of course k, in the direction of travel (R98). -/
def State.shaftToGo (s : State) (k : Nat) : Nat :=
  let c : Int := s.nat (refIx k) 6
  let x := s.shaftPos (s.channelOf k) - (s.nat (refIx k) 7 : Int)
  if s.shaftRate (s.channelOf k) < 0 then (x % c).toNat + 1 else (c - x % c).toNat

/-- When the next frame of course k is expected to start, in 2⁻¹⁶ ns: exact for PTP; for the other references a
prediction from what the reference has shown (log 29). A request that is held starts its frame at once. -/
def State.comingStart (s : State) (k : Nat) : Int :=
  let f := s.frmAt k
  let ch := s.channelOf k
  let nominal := s.framePeriod k
  if f.held.isSome then (s.clk.tai : Int)
  else
    match s.nat (refIx k) 1 with
    | 0 => s.ptpStartOf k (s.ptpNow k + 1)
    | 1 =>
      match f.coming, (s.syncsAt ch).predicted with
      | t :: _, _ => (t : Int)
      | [], some p =>
        let more : Nat := if s.nat (0x1210 + ch) 1 = 2 then s.nat (0x1210 + ch) 3 - 1 - (s.syncsAt ch).lines else 0
        (p : Int) + ((more * s.nat (0x1210 + ch) 6 : Nat) : Int) + s.int (refIx k) 5 * (tNs : Int)
      | [], none => (f.startTai : Int) + nominal.floor
    | 2 =>
      let r := (s.shaftRate ch).natAbs
      if r = 0 then (f.startTai : Int) + ((s.nat (refIx k) 8 * tUs : Nat) : Int)
      else (s.clk.tai : Int) + ((s.shaftToGo k * tS / r : Nat) : Int)
    | _ => (f.startTai : Int) + (nominal * (1 + f.d)).floor

/-- The frame counter of the coming frame start (Table 3.3). -/
def State.comingCounter (s : State) (k : Nat) : Nat :=
  match (s.frmAt k).held with
  | some ⟨some n, _, _, _⟩ => n
  | _ =>
    if s.nat (refIx k) 1 = 0 then ((s.ptpNow k + 1) % (2 ^ 32 : Nat)).toNat else (s.nat (refIx k) 0x10 + 1) % 2 ^ 32

/-- `a` is at or after `b` by modular comparison of frame counters. -/
def atOrAfter (a b : Nat) : Bool := decide ((a % 2 ^ 32 + 2 ^ 32 - b % 2 ^ 32) % 2 ^ 32 < 2 ^ 31)

/-- An item of a commit is due at a frame start with a counter and a start time (Table 2.6a). A frame-number target that a
realignment skips applies at the first frame start after it (R92). -/
def itemDue (p : Pending) (t : Todo) (counter : Nat) (start : Int) : Bool :=
  match p.selector with
  | 0 => !t.after
  | 1 => atOrAfter counter p.frame
  | _ => decide ((p.time : Int) ≤ start)

/-- The flip of canvas c, by entry 2400 + c:08, that course k takes at a frame start: the buffer of the last commit whose
flip is due (R193). -/
def State.flipDue (s : State) (k c counter : Nat) (start : Int) : Option Nat :=
  s.oz.commits.foldl (fun r p =>
    p.todo.foldl (fun r t =>
      if t.key = dkey (0x2400 + c) 8 ∧ t.cls = .frame k ∧ itemDue p t counter start = true then
        some (valInt t.val).toNat else r) r) none

/-- A pending flip names buffer b of canvas c (R190, R193). -/
def State.flipNames (s : State) (c b : Nat) : Bool :=
  s.oz.commits.any (fun p => p.todo.any (fun t => t.key == dkey (0x2400 + c) 8 && valInt t.val == (b : Int)))

end Sys2Proof.Machine
end

