-- ==== Sys2Proof/Machine/Loop.lean ====
section
/-! DEFINITION. The loop engine: sources, destinations, the control law, supervision, spare slots (R339 to R358, R369,
R370). -/

namespace Sys2Proof.Machine

open Sys2Proof

/-- Index of loop slot i. -/
def slotIx (i : Nat) : Nat := 0x3000 + i

/-! ### Arithmetic (R350) -/

/-- Saturation to I32, and whether it saturated. -/
def satF (z : Int) : Int × Bool := (sat32 z, sat32 z != z)

/-- The product rule: exact product, rounded to nearest with halves up, shifted right, saturated; and whether it
saturated. -/
def mulF (k v : Int) (sh : Nat) : Int × Bool :=
  satF ((k * v + (if sh = 0 then 0 else (2 ^ (sh - 1) : Nat))) / (2 ^ sh : Nat))

/-- A biquad: the five coefficients and shifts of Table 10.14. -/
structure Biquad where
  b0 : Int
  b1 : Int
  b2 : Int
  a1 : Int
  a2 : Int
  s0 : Nat
  s1 : Nat
  s2 : Nat
  s3 : Nat
  s4 : Nat
  deriving DecidableEq, Repr

/-- The biquad of a BLOB; none where it is empty or disabled (Table 10.14). -/
def biquadOf (b : List Byte) : Option Biquad :=
  if b.length = 28 ∧ bit (leAt b 25 1) 0 = true then
    some { b0 := sext 32 (leAt b 0 4), b1 := sext 32 (leAt b 4 4), b2 := sext 32 (leAt b 8 4),
           a1 := sext 32 (leAt b 12 4), a2 := sext 32 (leAt b 16 4), s0 := leAt b 20 1, s1 := leAt b 21 1,
           s2 := leAt b 22 1, s3 := leAt b 23 1, s4 := leAt b 24 1 }
  else none

/-- A biquad step in direct form I (R350): output, next states u1, u2, y1, y2, and whether anything saturated. -/
def biquadStep (q : Option Biquad) (st : Int × Int × Int × Int) (u : Int) : Int × (Int × Int × Int × Int) × Bool :=
  match q with
  | none => (u, st, false)
  | some c =>
    let m0 := mulF c.b0 u c.s0
    let m1 := mulF c.b1 st.1 c.s1
    let m2 := mulF c.b2 st.2.1 c.s2
    let m3 := mulF c.a1 st.2.2.1 c.s3
    let m4 := mulF c.a2 st.2.2.2 c.s4
    let y1 := satF (m0.1 + m1.1)
    let y2 := satF (y1.1 + m2.1)
    let y3 := satF (y2.1 - m3.1)
    let y4 := satF (y3.1 - m4.1)
    (y4.1, (u, st.1, y4.1, st.2.2.1), m0.2 || m1.2 || m2.2 || m3.2 || m4.2 || y1.2 || y2.2 || y3.2 || y4.2)

/-! ### The law (R349, R351, R353) -/

/-- A slot's committed parameters (Tables 10.12, 10.13). -/
structure LoopPar where
  ksp : Int
  osp : Int
  kff : Int
  off : Int
  kp : Int
  ki : Int
  kd : Int
  kf : Int
  shsp : Nat
  shff : Nat
  shp : Nat
  shi : Nat
  shd : Nat
  shf : Nat
  q1 : Option Biquad
  q2 : Option Biquad
  lo : Int
  hi : Int
  slew : Nat
  aw : Nat
  manual : Int
  deriving DecidableEq, Repr

def State.loopPar (s : State) (i : Nat) : LoopPar :=
  let ix := slotIx i
  let sh := s.nat ix 0x11
  { ksp := s.int ix 8, osp := s.int ix 9, kff := s.int ix 0x0B, off := s.int ix 0x0C, kp := s.int ix 0x0D,
    ki := s.int ix 0x0E, kd := s.int ix 0x0F, kf := s.int ix 0x10, shsp := bits sh 7 0, shff := bits sh 15 8,
    shp := bits sh 23 16, shi := bits sh 31 24, shd := bits sh 39 32, shf := bits sh 47 40,
    q1 := biquadOf (s.blob ix 0x12), q2 := biquadOf (s.blob ix 0x13), lo := s.int ix 0x14, hi := s.int ix 0x15,
    slew := s.nat ix 0x16, aw := s.nat ix 0x17, manual := s.int ix 0x18 }

/-- What a step computes: set-point, error, integrator, output, next states and sticky flags. -/
structure LoopRes where
  sp : Int
  e : Int
  i : Int
  o : Int
  st : SlotSt
  flags : Nat
  deriving DecidableEq, Repr

/-- A flag mask bit. -/
def fbit (b : Bool) (n : Nat) : Nat := if b then 2 ^ n else 0

/-- The last lines of the law: limits, slew, osat; manual mode uses them too. Output, osat and flags 9 to 11. -/
def loopTail (p : LoopPar) (st : SlotSt) (y : Int) : Int × Bool × Nat :=
  let o1 := clampI p.lo p.hi y
  let o2 := if p.slew = 0 then o1 else clampI (st.oprev - p.slew) (st.oprev + p.slew) o1
  (o2, o2 != y || st.clamped, fbit (o1 != y) 9 + fbit (o2 != o1) 10 + fbit st.clamped 11)

/-- One step in automatic mode (R349), from set-point source value `src` (none: the last set-point `sp0`, R348), the
measurement x and the integrator i0. `preset` marks the step that takes effect of a transfer from manual (R353). -/
def loopLaw (p : LoopPar) (st : SlotSt) (preset : Bool) (x sp0 i0 : Int) (src : Option Int) : LoopRes :=
  let spm := match src with
    | some v => mulF p.ksp v p.shsp
    | none => (0, false)
  let sp := match src with
    | some _ => satF (spm.1 + p.osp)
    | none => (sp0, false)
  let e := satF (sp.1 - x)
  let ffm := mulF p.kff sp.1 p.shff
  let ff := satF (ffm.1 + p.off)
  let pp := mulF p.kp e.1 p.shp
  let dx := satF (st.xprev - x)
  let dd := mulF p.kd dx.1 p.shd
  let de := satF (dd.1 - st.d)
  let dm := mulF p.kf de.1 p.shf
  let d := satF (st.d + dm.1)
  let im := mulF p.ki e.1 p.shi
  let i1 : Int × Bool :=
    if preset then satF (p.manual - ff.1 - pp.1 - d.1)
    else if bit p.aw 0 && st.osat then (i0, false)
    else
      let r := satF (i0 + im.1)
      (r.1, r.2 || im.2)
  let i2 := if bit p.aw 1 then clampI p.lo p.hi i1.1 else i1.1
  let u1 := satF (ff.1 + pp.1)
  let u2 := satF (u1.1 + i2)
  let u3 := satF (u2.1 + d.1)
  let r1 := biquadStep p.q1 st.b1 u3.1
  let r2 := biquadStep p.q2 st.b2 r1.1
  let t := loopTail p st r2.1
  { sp := sp.1, e := e.1, i := i2, o := t.1,
    st := { st with xprev := x, oprev := t.1, d := d.1, osat := t.2.1, b1 := r1.2.1, b2 := r2.2.1 },
    flags := fbit (spm.2 || sp.2) 0 + fbit e.2 1 + fbit pp.2 2 + fbit i1.2 3 + fbit (i2 != i1.1) 4 +
      fbit (dx.2 || dd.2 || de.2 || dm.2 || d.2) 5 + fbit (u1.2 || u2.2 || u3.2) 6 + fbit r1.2.2 7 + fbit r2.2.2 8 +
      fbit (ffm.2 || ff.2) 13 + t.2.2 }

/-- One step in manual mode (R353). -/
def loopManual (p : LoopPar) (st : SlotSt) (x sp0 e0 i0 : Int) : LoopRes :=
  let t := loopTail p st p.manual
  let b := (p.manual, p.manual, p.manual, p.manual)
  { sp := sp0, e := e0, i := i0, o := t.1,
    st := { st with xprev := x, oprev := t.1, d := 0, osat := t.2.1, b1 := b, b2 := b }, flags := t.2.2 }

/-! ### Sources (R343 to R346, R362) -/

/-- The angle of sense channel c at a mean code, given as code × 65,536, in nrad (R344). -/
def State.senseAngle (s : State) (c : Nat) (q : Int) : Int :=
  sat32 ((mulF (s.int (0x3110 + c) 1) q (s.nat (0x3110 + c) 2)).1 + s.int (0x3110 + c) 3)

/-- The mean of the last m conversions × 65,536, rounded as every product is (R344, R350); of as many as there are while there
are fewer (log 24). -/
def meanConv (m : Nat) (codes : List Int) : Int :=
  let w := codes.take m
  if w.isEmpty then 0 else (2 * 65536 * w.sum + w.length) / (2 * w.length)

/-- Conversion n of sense channel c: the mean, the angle, and the envelope, which is the peak of the angle over each half period
of the course's drive generator (R344, R345). A code beyond I16 is an overrange conversion, held at the end (log 24). -/
def State.convert (s : State) (c : Nat) (n : Nat) (code : Int) : State :=
  let x := s.sensesAt c
  let q := clampI (-32768) 32767 code
  let codes := (q :: x.codes).take 255
  let a := s.senseAngle c (meanConv (s.nat (0x3110 + c) 4) codes)
  let h := (s.mirAt (c / 2)).phaseAt n / 2 ^ 47
  let y : SenseSt := { x with codes := codes, clipped := q != code }
  let s1 := ((s.sensesPut c (
    if h = x.half then { y with peak := max x.peak a.natAbs } else { y with half := h, peak := a.natAbs, envelope := x.peak })).putI
      (0x3110 + c) 6 q).putI (0x3110 + c) 5 a
  if q = code then s1 else s1.bump (0x3110 + c) 9

/-- The conversions of sense channel c since its last ones, oldest first; the latest was made 150 ns, three conversions, before
now (R344). -/
def State.convertAll (s : State) (c : Nat) (codes : List Int) : State :=
  (codes.foldl (fun (x : State × Nat) q => (x.1.convert c x.2 q, x.2 + 1)) (s, convIndex s.clk.up - 2 - codes.length)).1

/-- The bow amplitude of a course comes from its model (R345). -/
def State.ampFromModel (s : State) (k : Nat) : Bool :=
  (s.nat (crs k) 0x15 == 2 || s.nat (crs k) 0x15 == 3) && (s.bowAt k).snap.isSome

/-- Amplitude of the latest snapshot. -/
def State.snapAmp (s : State) (k : Nat) : Rat :=
  match (s.bowAt k).snap with
  | some n => n.a
  | none => 0

/-- The frame ramp of course k at slot time t (R362), in nrad. -/
def State.frameRampAt (s : State) (k : Nat) (t : Rat) : Rat :=
  let sd : Rat := if s.nat (crs k) 0x0A = 0 then 1 else 2
  let bp : Rat := (s.nat (crs k) 7 : Rat) * (s.int (0x2680 + k) 5 : Rat)
  let v0 : Rat := s.int (0x2680 + k) 4
  let na : Rat := s.nat (crs k) 0x11
  let vs := v0 + bp * (-(1 / (2 * sd)))
  match (s.bowAt k).snap, (s.plcAt k).firstBow with
  | some n, some b0 =>
    let c0 : Rat := n.c + (((b0 : Int) - (n.bow : Int) : Int) : Rat) * n.hp
    let beta := (t - c0) / (sd * n.hp)
    let be := na - 1 + 1 / (2 * sd)
    if n.hp ≤ 0 ∨ na = 0 ∨ beta ≤ -(1 / (2 * sd)) then vs
    else if beta ≤ be then v0 + bp * beta
    else
      let ve := v0 + bp * be
      let tau := (t - (c0 + be * sd * n.hp)) / 400
      let tt : Rat := s.nat (crs k) 0x12
      if tt ≤ tau then vs else ve + (vs - ve) * (1 - cosR (piR * tau / tt)) / 2
  | _, _ => vs

/-- The source value of the frame ramp: the park angle while the course starts or stops (R364, R367). -/
def State.frameRamp (s : State) (k : Nat) : Int :=
  if s.cst k = 1 ∨ (s.mirAt k).phase = 5 ∨ (s.mirAt k).phase = 6 then (s.mirAt k).park
  else sat32 (roundEven (s.frameRampAt k s.clk.slot))

/-- The output of slot j as another slot reads it: during a fault of slot j its last output before the fault (R346, M4). -/
def State.cascade (s : State) (j : Nat) : Int :=
  if s.nat (slotIx j) 0x23 = 3 ∨ s.nat (slotIx j) 0x23 = 4 then (s.slotsAt j).preFault else s.int (slotIx j) 0x21

/-- A source as slot i reads it (Table 10.2); none where it is not valid. `base` is the shaft position when the source
was committed. -/
def State.source (s : State) (i src : Nat) (base : Int) : Option Int :=
  let ch := src % 256
  let st := s.nat (0x1218 + ch) 0x10
  match src / 256 with
  | 0x00 => some (s.int (slotIx i) 6)
  | 0x01 => some (s.int (slotIx i) 7)
  | 0x02 => if (s.sensesAt ch).clipped then none else some (s.int (0x3110 + ch) 5)
  | 0x03 => some (s.int 0x3100 (8 + ch) * 65536)
  | 0x04 => if st = 2 ∨ st = 7 then some (sat32 (s.shaftPos ch - base)) else none
  | 0x05 => if st = 2 ∨ st = 7 then some (s.shaftRate ch) else none
  | 0x06 => if st = 2 then some (sat32 (s.shaftsAt ch).duty) else none
  | 0x07 => if (s.slotsAt ch).modeAt = 0 then none else some (s.cascade ch)
  | 0x08 => if s.cst ch = 0 ∧ (s.mirAt ch).phase = 0 then none else some (s.frameRamp ch)
  | 0x09 => if s.cst ch = 0 ∧ (s.mirAt ch).phase = 0 then none else some (s.setPointNow ch).floor
  | 0x0A =>
    if s.cst ch = 0 ∧ (s.mirAt ch).phase = 0 then none
    else if s.ampFromModel ch then some (sat32 (roundEven (s.snapAmp ch)))
    else some (sat32 ((s.sensesAt (2 * ch)).envelope : Int))
  | _ => none

/-- The input of a measurement source is taken at the step: the sense channel that it converts, if any. -/
def State.measureChannel (s : State) (src : Nat) : Option Nat :=
  match src / 256 with
  | 0x02 => some (src % 256)
  | 0x0A => if s.ampFromModel (src % 256) then none else some (2 * (src % 256))
  | _ => none

/-- The conversions a step reads are recorded: those of a sense channel, or the latest of an auxiliary input (Table 10.2). -/
def State.takeInput (s : State) (src : Nat) (codes : List Int) : State :=
  match s.measureChannel src, codes.getLast? with
  | some c, _ => s.convertAll c codes
  | none, some q => if src / 256 = 3 then s.putI 0x3100 (8 + src % 256) (clampI (-32768) 32767 q) else s
  | none, none => s

/-! ### Destinations (R347, R359, R381) -/

/-- The output destination of slot i: fixed for a mirror slot (R339), else the one in force (R342). -/
def State.destOf (s : State) (i : Nat) : Nat := if i < 64 then s.nat (slotIx i) 0x0A else (s.slotsAt i).dest

/-- The auxiliary slots that feed DAC c by add-in. -/
def State.feeders (s : State) (c : Nat) : List Nat :=
  ((List.range 24).map (64 + ·)).filter (fun i => s.destOf i == 0x0300 + c)

/-- The add-in sum of mirror-drive DAC c: the outputs of the slots that feed it, summed with saturation in slot order. -/
def State.addIns (s : State) (c : Nat) : Int :=
  (s.feeders c).foldl (fun z i => sat32 (z + s.int (slotIx i) 0x21)) 0

/-- The DAC code of an output (R347). -/
def dacCode (o : Int) : Int := clampI (-32768) 32767 ((o + 32768) / 65536)

/-- The drive clamp of DAC c as a code (R381). -/
def State.dacLimit (s : State) (c : Nat) : Nat :=
  s.nat (0x3810 + c / 2) (if c % 2 = 0 then 6 else 7) * 32768 / 1000

/-- The value at DAC c before its add-ins. A fast axis stands at A_d × sin φ_d, φ_d that of the latest conversion (R359); the
nearest integer is the model's rounding (log 22). -/
def State.dacBase (s : State) (c : Nat) : Int :=
  if c % 2 = 0 then
    let m := s.mirAt (c / 2)
    sat32 (roundEven ((m.drive : Rat) * sinR (2 * piR * (((m.phaseAt (convIndex s.clk.up) % 2 ^ 48 : Int) : Rat) / 2 ^ 48))))
  else s.int (slotIx c) 0x21

/-- The code that DAC c would take without the capo clamp, and the code it takes (R347, R381). -/
def State.dacWant (s : State) (c : Nat) : Int := dacCode (sat32 (s.dacBase c + s.addIns c))
def State.dacNow (s : State) (c : Nat) : Int := clampI (-(s.dacLimit c : Int)) (s.dacLimit c) (s.dacWant c)

/-- The DAC takes a code: add-ins, capo clamp, and what the slots that reach it see of the clamp (R347, R349). -/
def State.convertDac (s : State) (c : Nat) : State :=
  let hit := decide ((s.dacLimit c : Int) < ((s.dacWant c).natAbs : Int))
  ((s.putI (0x3110 + c) 8 (s.addIns c)).putI (0x3110 + c) 7 (s.dacNow c)).each (c :: s.feeders c)
    (fun s i => s.slotsPut i { s.slotsAt i with clamped := hit })

/-- The DAC that slot i's output reaches. -/
def State.dacOf (s : State) (i : Nat) : Option Nat :=
  let d := s.destOf i
  if 1 ≤ d / 256 ∧ d / 256 ≤ 3 then some (d % 256) else none

/-- The DAC that slot i's output reaches has made its latest conversion before the slot samples (R349). -/
def State.refreshDac (s : State) (i : Nat) : State :=
  match s.dacOf i with
  | some c => s.convertDac c
  | none => s

/-- At a period boundary an auxiliary slot takes a committed destination; a DAC that it leaves loses its add-in (R342). -/
def State.takeDest (s : State) (i : Nat) : State :=
  let old := s.dacOf i
  if i < 64 ∨ (s.slotsAt i).dest = s.nat (slotIx i) 0x0A then s
  else
    let s1 := s.slotsPut i { s.slotsAt i with dest := s.nat (slotIx i) 0x0A }
    match old with
    | some c => s1.convertDac c
    | none => s1

/-- The drive amplitude of course k as set (R359). -/
def State.setDrive (s : State) (k : Nat) (a : Int) : State :=
  (s.mirPut k { s.mirAt k with drive := a }).putF (0x3150 + k) 5 ((a : Rat) / 2147483648)

/-- The output of slot i becomes o, and its destination follows. -/
def State.writeOut (s : State) (i : Nat) (o : Int) : State :=
  let s1 := s.putI (slotIx i) 0x21 o
  let s2 := if i < 64 ∧ i % 2 = 0 ∧ 4 ≤ (s1.mirAt (i / 2)).phase then s1.setDrive (i / 2) o else s1
  s2.refreshDac i

/-! ### Supervision (R355 to R358) -/

/-- Supervision state of slot i; an entry to state 3 is counted and acts (R356, R358). The output before a fault is kept for
the slots that read it (M4). -/
def State.setSup (s : State) (i new : Nat) : State :=
  if s.nat (slotIx i) 0x23 = new then s
  else
    let s0 := if s.nat (slotIx i) 0x23 = 3 then s else s.slotsPut i { s.slotsAt i with preFault := s.int (slotIx i) 0x21 }
    let s1 := s0.putN (slotIx i) 0x23 new
    if new = 3 then
      let s2 := s1.bump (slotIx i) 0x27
      if i < 64 then s2.setCause (i / 2) 3
      else if s2.nat (slotIx i) 0x1C = 0 then s2
      else s2.slotsPut i { s2.slotsAt i with acting := true }
    else if new = 1 then s1.slotsPut i { s1.slotsAt i with acting := false }
    else s1

/-- Table 10.5: the next state from the last one. -/
def nextSup (old : Nat) (fault bad clean : Bool) : Nat :=
  if fault then 3
  else if old = 2 ∨ old = 3 then (if clean then 1 else old)
  else if bad then 2
  else 1

/-- A fiducial table is committed for course k and the delay of its capture input is calibrated (P1). -/
def State.p1Active (s : State) (k : Nat) : Bool :=
  s.clk.refclk && !(s.blob (0x2800 + k) 0x0A).isEmpty && decide (s.nat (0x2800 + k) 1 ≤ 33) &&
    s.nat (0x2820 + s.nat (0x2800 + k) 1) 5 == 1

/-- P1 fails: a fiducial's run of consecutive mismatches has reached the limit. -/
def State.p1Fails (s : State) (k : Nat) : Bool :=
  (s.captAt k).events.any (fun e => decide (s.nat (0x3150 + k) 0x12 ≤ e.2))

/-- P2, P3 and P4 are active (Table 10.6). Supervision falls back to saturation time while REFCLK is lost (R371); P2 and P3 are
inactive with the bow model lost (M8 of Table 10.11). -/
def State.p2Active (s : State) (k : Nat) : Bool := s.clk.refclk && s.nat (crs k) 0x15 == 2 && (s.mirAt k).learned
def State.p3Active (s : State) (k : Nat) : Bool := s.clk.refclk && s.nat (0x3150 + k) 9 == 3 && s.nat (crs k) 0x15 != 4
def State.p4Active (s : State) (k : Nat) : Bool := s.clk.refclk && s.cst k != 0

/-- The plausibility time of slot i (R355). -/
def State.plausTime (s : State) (i : Nat) : Nat :=
  if i < 64 ∧ i % 2 = 0 then s.nat (0x3150 + i / 2) 0x16 else s.nat (slotIx i) 0x1A

/-- A check of slot i is active and its plausibility time is not 0; `spOk` tells whether the set-point source is valid. -/
def State.checked (s : State) (i : Nat) (spOk : Bool) : Bool :=
  s.plausTime i != 0 &&
    (if i < 64 ∧ i % 2 = 0 then s.p1Active (i / 2) || s.p2Active (i / 2) || s.p3Active (i / 2)
     else if i < 64 then s.p4Active (i / 2)
     else spOk)

/-- An active check of slot i fails now. -/
def State.checkFails (s : State) (i : Nat) : Bool :=
  if i < 64 ∧ i % 2 = 0 then
    let k := i / 2
    (s.p1Active k && s.p1Fails k) || (s.p2Active k && decide (1 ≤ (s.mirAt k).p2)) ||
      (s.p3Active k && decide (1 ≤ (s.mirAt k).p3))
  else decide (s.int (slotIx i) 0x19 < ((s.int (slotIx i) 0x1F).natAbs : Int))

/-- The limit of a failing check is reached: P1 at once, the others after the plausibility time. -/
def State.checkReached (s : State) (i failRun : Nat) : Bool :=
  if i < 64 ∧ i % 2 = 0 then
    let k := i / 2
    let n := s.plausTime i
    (s.p1Active k && s.p1Fails k) || (s.p2Active k && decide (n ≤ (s.mirAt k).p2)) ||
      (s.p3Active k && decide (n ≤ (s.mirAt k).p3))
  else decide (s.plausTime i ≤ failRun)

/-- The failing checks of course k, 3150 + k:17, as slot i's step finds them: bits 0 to 2 at the fast slot, bit 3 at the
slow one, and bit 4 while either is supervised by its saturation time and saturated. -/
def State.showChecks (s : State) (i : Nat) (chk sat : Bool) : State :=
  if 64 ≤ i then s
  else
    let k := i / 2
    let ix := 0x3150 + k
    let other := s.slotsAt (if i % 2 = 0 then i + 1 else i - 1)
    let s1 := s.setFlag ix 0x17 4 (sat || (decide (0 < other.satRun) && !s.checked (if i % 2 = 0 then i + 1 else i - 1) true))
    if i % 2 = 0 then
      ((s1.setFlag ix 0x17 0 (s.p1Active k && s.p1Fails k)).setFlag ix 0x17 1 (s.p2Active k && decide (1 ≤ (s.mirAt k).p2))).setFlag
        ix 0x17 2 (s.p3Active k && decide (1 ≤ (s.mirAt k).p3))
    else s1.setFlag ix 0x17 3 chk

/-- Supervision of an automatic slot after a step (R355). -/
def State.supervise (s : State) (i : Nat) (spOk : Bool) : State :=
  if s.nat (slotIx i) 0x23 = 4 then s
  else
    let x := s.slotsAt i
    let act := s.checked i spOk
    let chk := act && s.checkFails i
    let bad := chk || x.osat
    let y := { x with
      failRun := if chk then x.failRun + 1 else 0
      satRun := if x.osat then x.satRun + 1 else 0
      okRun := if bad then 0 else x.okRun + 1 }
    let fault := if act then chk && s.checkReached i y.failRun else decide (s.nat (slotIx i) 0x1B ≤ y.satRun) && x.osat
    ((s.slotsPut i y).showChecks i chk (!act && x.osat)).setSup i
      (nextSup (s.nat (slotIx i) 0x23) fault bad (decide (64 ≤ y.okRun)))

/-- Bits 3 and 8 clear once the loops of course k are locked (Table 1.7, R114, R358). Bit 8 stays until the course has
been hushed by it (C3), so that a change is never passed over (log 23). -/
def State.lockRefresh (s : State) (k : Nat) : State :=
  if s.loopsLocked k then
    let s1 := s.clearCause k 3
    if s1.cst k = 5 ∨ s1.cst k = 1 then s1.clearCause k 8 else s1
  else s

/-! ### Off (R353, R354, R367) -/

/-- Slot i is off: output 0, every state cleared (R353). A mirror slot of a failed course reads state 4 (R358). -/
def State.slotOff (s : State) (i : Nat) : State :=
  let x := s.slotsAt i
  let s1 := s.slotsPut i { shaftBase := x.shaftBase, per := x.per, clamped := x.clamped, moveTo := x.moveTo, dest := x.dest }
  let s2 := (((s1.putN (slotIx i) 1 0).putI (slotIx i) 0x20 0).writeOut i 0)
  if i < 64 ∧ s2.nat (slotIx i) 0x23 = 4 then s2 else s2.putN (slotIx i) 0x23 0

/-- The stop ramp of course k has ended: A_d is 0 and both slots are off (R367). -/
def State.stopRampEnd (s : State) (k : Nat) : State :=
  let s1 := s.mirPut k { s.mirAt k with phase := 5, setPoint := 0, rampAt := s.clk.up, pull := 0, lockRun := 0, ampRun := 0 }
  ((((s1.slotOff (2 * k)).slotOff (2 * k + 1)).setDrive k 0).putN (0x3150 + k) 9 0).reschedule

/-- The output that a fault action gives (R356, R370). -/
def State.actionOut (s : State) (i : Nat) (o : Int) : Int :=
  match s.nat (slotIx i) 0x1C with
  | 1 => s.int (slotIx i) 0x21
  | 2 => s.int (slotIx i) 0x18
  | 3 => 0
  | _ => o

/-! ### Failure of a course's mirror (R358) -/

/-- Course k is declared failed: both slots in state 4, counted, C2 — at the next nut for a LIT course. -/
def State.declareFailed (s : State) (k : Nat) : State :=
  let s1 := s.bump (0x3150 + k) 0x1A
  let s2 := if s1.cst k = 1 then s1.bump (0x3150 + k) 0x19 else s1
  let s3 := (s2.setSup (2 * k) 4).setSup (2 * k + 1) 4
  let s4 := s3.mirPut k { s3.mirAt k with failed := true }
  if s4.cst k = 4 then s4 else s4.toStopped k

/-! ### Commands -/

/-- The slow loop's error has stayed within a quarter of its window since (K4). -/
def State.slowWindow (s : State) (i : Nat) : State :=
  if i < 64 ∧ i % 2 = 1 then
    let m := s.mirAt (i / 2)
    let ok := decide (4 * ((s.int (slotIx i) 0x1F).natAbs : Int) ≤ s.int (slotIx i) 0x19)
    s.mirPut (i / 2) { m with slowSince := if ok then some (m.slowSince.getD s.clk.up) else none }
  else s

/-- What a step leaves in the slot's entries and states. -/
def State.storeStep (s : State) (i mode : Nat) (x : Int) (r : LoopRes) : State :=
  let ix := slotIx i
  let s1 := ((((s.putI ix 0x1D x).putI ix 0x1E r.sp).putI ix 0x1F r.e).putI ix 0x20 r.i).add64 ix 0x24 1
  let s2 := if r.st.osat then s1.bump ix 0x25 else s1
  (s2.putN ix 0x22 (s2.nat ix 0x22 ||| r.flags)).slotsPut i { r.st with modeAt := mode, next := some r.o }

/-- A fault action in force gives the output of the step, from the step that enters the fault on (R356). -/
def State.actNow (s : State) (i : Nat) (o : Int) : State :=
  if (s.slotsAt i).acting then s.slotsPut i { s.slotsAt i with next := some (s.actionOut i o) } else s

/-- A step of slot i in mode 1 or 2 with measurement x. -/
def State.stepOn (s : State) (i : Nat) (x : Int) : State :=
  let ix := slotIx i
  let st := s.slotsAt i
  let p := s.loopPar i
  let mode := s.nat ix 1
  if mode = 1 then
    let s1 := s.storeStep i 1 x (loopManual p st x (s.int ix 0x1E) (s.int ix 0x1F) (s.int ix 0x20))
    if s1.nat ix 0x23 = 4 then s1 else s1.setSup i 0
  else
    let src := s.source i (s.nat ix 5) st.shaftBase.2
    let r := loopLaw p st (st.modeAt == 1) x (s.int ix 0x1E) (s.int ix 0x20) src
    let s1 := ((((s.storeStep i 2 x r).slowWindow i).supervise i src.isSome).actNow i r.o)
    if i < 64 then s1.lockRefresh (i / 2) else s1

/-! ### Physical slots (R369) -/

/-- The physical slot that serves logical slot i. -/
def State.physOf (s : State) (i : Nat) : Nat :=
  match s.pool.moved.find? (fun m => m.1 == i) with
  | some m => m.2
  | none => i

/-- The spare slots that are free. -/
def State.freeSpares (s : State) : List Nat :=
  ((List.range 8).map (· + 88)).filter (fun p => !s.pool.failed.contains p && !s.pool.moved.any (fun m => m.2 == p))

/-- The free spares that no move waits for. -/
def State.openSpares (s : State) : List Nat :=
  s.freeSpares.filter (fun p => !(List.range 88).any (fun i => (s.slotsAt i).moveTo == some p))

/-- The entry that counts the free spares, 3100:04. -/
def State.showPool (s : State) : State :=
  s.putN 0x3100 4 s.freeSpares.length

/-- Logical slot i moves to spare p: counted in 3100:06, shown in 3000 + i:29. A working spare that it leaves is free
again. -/
def State.moveSlot (s : State) (i p : Nat) : State :=
  let old := s.physOf i
  let s1 : State := { s with pool := { s.pool with moved := s.pool.moved.filter (fun m => m.1 != i) ++ [(i, p)] } }
  let s2 := if 88 ≤ old then s1.putN (slotIx old) 0x29 0xFF else s1
  ((((s2.putN (slotIx i) 0x29 p).putN (slotIx p) 0x29 i).bump 0x3100 6).switchIn 3 old p).showPool

/-- A move that waits takes effect at the period boundary of slot i (R369, S3); a spare that has failed meanwhile is not taken. -/
def State.takeMove (s : State) (i : Nat) : State :=
  match (s.slotsAt i).moveTo with
  | some p =>
    let s1 := s.slotsPut i { s.slotsAt i with moveTo := none }
    if s.pool.failed.contains p then s1 else s1.moveSlot i p
  | none => s

/-- The states of slot i before a step, kept until its output is written (R369). -/
def State.keepBack (s : State) (i : Nat) : State :=
  let x := s.slotsAt i
  let y : SlotBack :=
    { modeAt := x.modeAt, xprev := x.xprev, oprev := x.oprev, d := x.d, i := s.int (slotIx i) 0x20, osat := x.osat, b1 := x.b1,
      b2 := x.b2 }
  s.slotsPut i { x with back := some y }

/-- The output of the last step is discarded with its states: those of the step before stand (R369). -/
def State.undoStep (s : State) (i : Nat) : State :=
  let x := s.slotsAt i
  match x.back with
  | some y => (s.slotsPut i { x with
      next := none, back := none, modeAt := y.modeAt, xprev := y.xprev, oprev := y.oprev, d := y.d, osat := y.osat, b1 := y.b1
      b2 := y.b2 }).putI (slotIx i) 0x20 y.i
  | none => s.slotsPut i { x with next := none }

/-- A transfer of slot i to manual sets its manual value to the last output, unless its commit gives one (R353). -/
def State.takeManual (s : State) (i : Nat) : State :=
  if (s.slotsAt i).toManual then
    (s.slotsPut i { s.slotsAt i with toManual := false }).putI (slotIx i) 0x18 (s.int (slotIx i) 0x21)
  else s

/-- What slot i takes at a period boundary (R342, R369): a move that waits, a committed destination, the manual value of a transfer;
the DAC that it reaches converts. -/
def State.boundary (s : State) (i : Nat) : State := (((s.takeMove i).takeDest i).takeManual i).refreshDac i

/-- LOOP_STEP: slot i samples its measurement and takes a step by its mode (R348, R349, R353). The conversions that its measurement
channel has made since the last step that read it come with it: the latest, if there is one, and the earlier ones, oldest first (log
24). -/
def execLoopStep (i : SlotId) (earlier : List Int) (latest : Option Int) (s0 : State) : Host.Outcome State Fault Refusal :=
  let codes := earlier ++ latest.toList
  let ix := slotIx i.val
  let s := s0.boundary i.val
  .next (
    if (s.slotsAt i.val).dead then s
    else if s.nat ix 1 = 0 then s.slotOff i.val
    else if i.val < 64 ∧ i.val % 2 = 0 ∧ (s.mirAt (i.val / 2)).phase = 6 ∧ s.setPointNow (i.val / 2) = 0 then
      s.stopRampEnd (i.val / 2)
    else
      let s1 := s.takeInput (s.nat ix 4) codes
      match s1.source i.val (s.nat ix 4) (s.slotsAt i.val).shaftBase.1 with
      | none => (s1.setFlag ix 0x22 12 true).bump ix 0x26
      | some x => (s1.keepBack i.val).stepOn i.val x)

/-- LOOP_OUTPUT_WRITE: the output of the last step is written (R341). -/
def execLoopOutputWrite (i : SlotId) (s : State) : Host.Outcome State Fault Refusal :=
  .next (
    match (s.slotsAt i.val).next with
    | none => s
    | some o => (s.slotsPut i.val { s.slotsAt i.val with next := none, back := none }).writeOut i.val o)

/-- The sticky flags of a slot are written 0 (R352). -/
def State.clearSticky (s : State) (i : Nat) : State := s.putN (slotIx i) 0x22 0

/-! ### Spare slots (R369, R370) -/

/-- A slot with no spare left (R370). -/
def State.slotLost (s : State) (i : Nat) : State :=
  let s0 := s.slotsPut i { s.slotsAt i with dead := true, next := none, modeAt := 0 }
  if i < 64 then
    if s0.cst (i / 2) = 0 then
      let s1 := ((s0.bump (0x3150 + i / 2) 0x1A).setSup (i / 2 * 2) 4).setSup (i / 2 * 2 + 1) 4
      s1.mirPut (i / 2) { s1.mirAt (i / 2) with failed := true }
    else s0.declareFailed (i / 2)
  else
    let o := s0.actionOut i (s0.int (slotIx i) 0x21)
    (((s0.writeOut i o).setSup i 3).putN (slotIx i) 1 0).reschedule

/-- LOOP_SLOT_FAULT: a check of a physical slot fails: the output of the failing step is discarded, and a spare takes the
logical slot over with its states (R369), or none is left (R370). -/
def execLoopSlotFault (phys : Fin 96) (s : State) : Host.Outcome State Fault Refusal :=
  let p := phys.val
  .next (
    if s.pool.failed.contains p then s
    else
      let who := (List.range 88).find? (fun i => s.physOf i == p)
      let s1 := ({ s with pool := { s.pool with failed := s.pool.failed ++ [p] } } : State).showPool
      match who with
      | none => s1
      | some i =>
        let s2 := (((s1.slotsPut i { s1.slotsAt i with moveTo := none }).undoStep i)).bump (slotIx i) 0x2A
        match s2.openSpares with
        | [] => s2.slotLost i
        | q :: _ => (s2.moveSlot i q).recover 3 0 (s.nat (slotIx i) 2 * 625 * tNs) i)

/-- Logical slot i is to move to a spare at its next period boundary (R369, S3); with none left nothing moves. -/
def State.moveToSpare (s : State) (i : Nat) : State × Nat :=
  if 87 < i then (s, stRange)
  else
    match s.openSpares with
    | [] => (s, stRejected)
    | q :: _ => (s.slotsPut i { s.slotsAt i with moveTo := some q }, stOk)

/-- MOVE_TO_SPARE: a write of 3100:11 (R369). -/
def execMoveToSpare (_m : MasterId) (slot : Nat) (s : State) : Host.Outcome State Fault Refusal :=
  .next (s.hostWrite (writeItem 0x02 0x3100 0x11 1) (fun s => s.moveToSpare (slot % 256)))

end Sys2Proof.Machine
end

