-- ==== Sys2Proof/Machine/Mirror.lean ====
section
/-! DEFINITION. Mirror control: start and stop, the phase tracker, phase lock, lock criteria (R112 to R116, R357 to R371). -/

namespace Sys2Proof.Machine

open Sys2Proof

/-- Tracker states, 3150 + k:09. -/
def trOff : Nat := 0
def trSearching : Nat := 1
def trPulling : Nat := 2
def trLocked : Nat := 3
def trPhase : Nat := 4

/-- Tracker state of course k, and the state with it changed. -/
def State.tracker (s : State) (k : Nat) : Nat := s.nat (0x3150 + k) 9
def State.setTracker (s : State) (k st : Nat) : State := s.putN (0x3150 + k) 9 st

/-- Drive frequency f of course k in Hz, shown in 3150 + k:01; the phase goes on without a step (R359). -/
def State.setFreq (s : State) (k : Nat) (f : Rat) : State :=
  let m := s.mirAt k
  let n := convIndex s.clk.up
  (s.mirPut k { m with f := f, acc := m.phaseAt n, accAt := n, chirpLen := 0 }).putF (0x3150 + k) 1 f

/-- The drive frequency of course k runs from `f` to `low` in a linear chirp over the excitation time (Table 10.9). -/
def State.chirp (s : State) (k : Nat) (f low : Rat) : State :=
  let s1 := s.setFreq k f
  s1.mirPut k { s1.mirAt k with chirpTo := low, chirpLen := 20000 * (s1.mirAt k).exciteMs }

/-! ### Admission to phase lock (R112, R113) -/

/-- Course k asks for phase lock: a consort member with phase lock set (R112). -/
def State.asksPhaseLock (s : State) (k : Nat) : Bool := s.nat (refIx k) 0x0A != 0 && s.nat (refIx k) 0x0B == 1

/-- The admission decision of R113 on the resonance estimate. -/
def State.admits (s : State) (k : Nat) : Bool :=
  s.asksPhaseLock k &&
    decide (absR (s.f32 (0x3150 + k) 2 - s.consortHz k) ≤ s.fix (refIx k) 0x0D / 100 * s.consortHz k)

/-- Phase-lock state of a course that is not phase-locked by R113 (Table 3.9). -/
def State.unlockedState (s : State) (k : Nat) : Nat :=
  if s.nat (refIx k) 0x0A = 0 then 0 else if s.asksPhaseLock k then 2 else 1

/-- Course k pulls in to its phase target (state 3 of Table 3.9), or has no phase lock. -/
def State.setAdmitted (s : State) (k : Nat) (ok : Bool) : State :=
  let m := s.mirAt k
  (s.mirPut k { m with admitted := ok, pull := if ok then m.pull else 0, nearBows := 0, farBows := 0 }).putN (refIx k) 0x13
    (if ok then 3 else s.unlockedState k)

/-- The decision of R113 taken now. A course that stays admitted keeps its state, but where it starts anew. -/
def State.decideAdmission (s : State) (k : Nat) (anew : Bool) : State :=
  if s.admits k && (s.mirAt k).admitted && !anew && decide (3 ≤ s.nat (refIx k) 0x13) then s else s.setAdmitted k (s.admits k)

/-! ### Start (R364, R365) -/

/-- The search drive as an output of slot 2k: a percentage of the effective drive clamp, held at it (3150 + k:0A, R365). -/
def State.searchDrive (s : State) (k : Nat) : Int :=
  sat32 (roundEven (minR (s.mirAt k).search 100 / 100 * (s.nat (0x3810 + k) 6 : Rat) / 1000 * 2147483648))

/-- Step 2 of Table 10.9: the chirp begins, from resonance search high to low, at the search drive, and the attempt is counted. -/
def State.excite (s : State) (k : Nat) : State :=
  let m := s.mirAt k
  let s1 := (s.mirPut k { m with phase := 2, attempts := m.attempts + 1 }).bump (0x3150 + k) 0x18
  (((s1.setDrive k (s1.searchDrive k)).chirp k (s1.f32 (crs k) 0x0C) (s1.f32 (crs k) 0x0B)).setTracker k trSearching).convertDac (2 * k)

/-- The start of course k runs again from step 2 of Table 10.9, from the first attempt (M3 of Table 10.11). -/
def State.startAgain (s : State) (k : Nat) : State :=
  let m := s.mirAt k
  (s.mirPut k { m with attempts := 0, search := m.search0, setPoint := 0, rampAt := s.clk.up, lockRun := 0, ampRun := 0 }).excite k

/-- A restart-required change of course k: hush cause bit 8 (R29); a course that is SPINNING and past step 1 starts again (M3). -/
def State.restartRequired (s : State) (k : Nat) : State :=
  let s1 := s.setCause k 8
  if s.cst k = 1 ∧ 2 ≤ (s.mirAt k).phase ∧ (s.mirAt k).phase ≤ 4 then s1.startAgain k else s1

/-- EXCITATION_START: the amplifier settle time of a starting mirror ends. -/
def execExcitationStart (k : CourseId) (s : State) : Host.Outcome State Fault Refusal :=
  .next (if (s.mirAt k.val).phase = 1 then s.excite k.val else s)

/-- RING_WINDOW_START: the excitation time ends; the drive is 0 (step 3 of Table 10.9). -/
def execRingWindowStart (k : CourseId) (s : State) : Host.Outcome State Fault Refusal :=
  .next (
    if (s.mirAt k.val).phase = 2 then
      let s1 := (s.mirPut k.val { s.mirAt k.val with phase := 3 }).setDrive k.val 0
      (s1.setFreq k.val ((s1.mirAt k.val).hzAt (convIndex s1.clk.up))).convertDac (2 * k.val)
    else s)

/-- f_r of a ring window: whole periods between the first and the last crossing, by their time (R365); 0 with fewer than
two crossings. -/
def ringHz (c : List Nat) : Rat :=
  let d := c.getLastD 0 - c.headD 0
  if c.length < 2 ∨ d = 0 then 0 else ((c.length - 1 : Nat) : Rat) * 400000000 * 64 / (d : Rat)

/-- Δt of a ring window in s. -/
def ringSeconds (c : List Nat) : Rat := ((c.getLastD 0 - c.headD 0 : Nat) : Rat) / (400000000 * 64)

/-- Q = π f_r Δt / ln(E1/E2) (R365); where the envelopes do not fall the spec gives no value: `free` (log 25). -/
def ringQ (m : RingMeas) (free : Rat) : Rat :=
  if m.e2 = 0 ∨ m.e1 ≤ m.e2 then free
  else piR * ringHz m.crossings * ringSeconds m.crossings / lnR ((m.e1 : Rat) / (m.e2 : Rat))

/-- The attempt fails (R365). -/
def State.ringFails (s : State) (k : Nat) (m : RingMeas) : Bool :=
  decide ((m.e1 : Rat) < (s.nat (crs k) 0x0D : Rat) / 200) || decide (ringHz m.crossings < s.f32 (crs k) 0x0B) ||
    decide (s.f32 (crs k) 0x0C < ringHz m.crossings)

/-- Step 4 of Table 10.9: f set to f_r, or to f_c when R113 admits the course; the tracker pulls and the set-point ramps
from 0. -/
def State.pullIn (s : State) (k : Nat) (m : RingMeas) : State :=
  let s1 := ((s.putF (0x3150 + k) 2 (ringHz m.crossings)).putF (0x3150 + k) 3 (ringQ m (Config.freeRat s.free))).takeFree
  let s2 := s1.decideAdmission k true
  let s3 := s2.mirPut k { s2.mirAt k with phase := 4, setPoint := 0, rampAt := s2.clk.up, lockRun := 0, ampRun := 0 }
  if (s3.mirAt k).admitted then (s3.setFreq k (s3.consortHz k)).setTracker k trPhase
  else (s3.setFreq k (ringHz m.crossings)).setTracker k trPulling

/-- A start of course k has failed: counted in :19, and the course is declared failed (R365, M11). -/
def State.startFailed (s : State) (k : Nat) : State :=
  (if s.cst k = 1 then s else s.bump (0x3150 + k) 0x19).declareFailed k

/-- RING_WINDOW_END: the ring window ends. A failed attempt repeats from step 2 with the search drive doubled, held at
the clamp; the fourth declares the course failed (R365). -/
def execRingWindowEnd (k : CourseId) (m : RingMeas) (s : State) : Host.Outcome State Fault Refusal :=
  .next (
    if (s.mirAt k.val).phase = 3 then
      if s.ringFails k.val m then
        if 4 ≤ (s.mirAt k.val).attempts then
          s.startFailed k.val
        else
          let x := s.mirAt k.val
          (s.mirPut k.val { x with search := minR 100 (2 * x.search) }).excite k.val
      else s.pullIn k.val m
    else s)

/-- START_TIMEOUT: the start timeout passes before the course has come to TRACKING (R365). -/
def execStartTimeout (k : CourseId) (s : State) : Host.Outcome State Fault Refusal :=
  .next (
    if s.cst k.val = 1 ∨ (s.cst k.val = 5 ∧ (s.mirAt k.val).starting = true) then s.startFailed k.val else s)

/-- MIRROR_FAILED: state 3 of a mirror slot has lasted the fail time, or AXIS_EN is released (R358, R368). -/
def execMirrorFailed (k : CourseId) (s : State) : Host.Outcome State Fault Refusal :=
  .next (
    if s.cst k.val ≠ 0 ∧ (s.mirAt k.val).failed = false ∧
        (s.nat (slotIx (2 * k.val)) 0x23 = 3 ∨ s.nat (slotIx (2 * k.val + 1)) 0x23 = 3 ∨ s.nat (0x3150 + k.val) 0x1C = 0) then
      s.declareFailed k.val
    else s)

/-- AXIS_EN[k] is released: the mirror is at rest, both slots off (R367). -/
def State.releaseAxis (s : State) (k : Nat) : State :=
  let s1 := if (s.mirAt k).phase = 5 then s else s.stopRampEnd k
  (s1.mirPut k { s1.mirAt k with phase := 0, releaseDue := false }).putN (0x3150 + k) 0x1C 0

/-- AXIS_EN_RELEASE: 1 ms after the stop ramp, or 100 ms after C1 or C2 (R367). -/
def execAxisEnRelease (k : CourseId) (s : State) : Host.Outcome State Fault Refusal :=
  .next (if (s.mirAt k.val).releaseDue then s.releaseAxis k.val else s)

/-- LOOP_REFCLK_HOLD_EXPIRED: REFCLK is not back within 10 s; every course that is not STOPPED is declared failed (R371). -/
def execLoopRefclkHoldExpired (s : State) : Host.Outcome State Fault Refusal :=
  .next (
    if s.clk.refclk then s
    else s.each allCourses (fun s k => if s.cst k = 0 then s else s.declareFailed k))

/-! ### The phase tracker (R360, R361) -/

/-- The tangent of an angle in degrees, from its sine and cosine. -/
def tanDeg (d : Rat) : Rat := sinR (d * piR / 180) / cosR (d * piR / 180)

/-- An angle in degrees taken into (−180, 180]. -/
def wrapDeg (d : Rat) : Rat := d - 360 * (((d - 180) / 360).ceil : Rat)

/-- The resonance estimate of R360 from the drive frequency, the lag less 90° and Q; where its quotient is not defined the
spec gives no value: `free` (log 25). -/
def resonanceHz (f lag90 q free : Rat) : Rat :=
  if q = 0 ∨ absR lag90 = 90 then free
  else
    let d := 1 + tanDeg lag90 / (2 * q)
    if d = 0 then free else f / d

/-- G0 follows a / A_d with a time constant of 10 s while the tracker is locked in free mode, and is learned after 1 s
(R360). -/
def State.followG0 (s : State) (k : Nat) : State :=
  let m := s.mirAt k
  let ad : Rat := (m.drive : Rat) / 2147483648
  if s.tracker k = trLocked ∧ m.drive ≠ 0 ∧ s.ampFromModel k = true then
    let r := s.snapAmp k / ad
    let dt : Nat := match m.g0At with
      | some t => s.clk.up - t
      | none => 0
    let w := 1 - expR (-((dt : Rat) / (10 * (tS : Rat))))
    let g := if m.g0Time = 0 ∧ m.g0At = none ∧ m.g0 = 0 then r else m.g0 + (r - m.g0) * w
    (s.mirPut k { m with
      g0 := g, g0Time := m.g0Time + dt, g0At := some s.clk.up,
      learned := m.learned || decide (tS ≤ m.g0Time + dt) }).putF (0x3150 + k) 0x1B g
  else s.mirPut k { m with g0At := none }

/-- The phase error of a forward bow whose model centre is c, in ns, taken into (−1/(2f_c), 1/(2f_c)] (R112, R115): the
bow's start against t_k + ψ + m/f_c. -/
def State.phaseError (s : State) (k : Nat) (c hp : Rat) : Rat :=
  let t := ((s.clk.tai : Int) : Rat) / 65536 - ((s.clk.slot : Rat) - (c - hp / 2)) * 5 / 2
  let o := t - ((s.frmAt k).startTai : Rat) / 65536 - (s.int (refIx k) 0x0E : Rat)
  let p := 1000000000 / s.consortHz k
  o - p * ((o / p - 1 / 2).ceil : Rat)

/-- The pull-in offset of the drive frequency (R115): as much as would remove the error within one period, at most the
pull rate (log 26). A late mirror runs faster. -/
def State.pullOffset (s : State) (k : Nat) (err : Rat) : Rat :=
  let r := s.fix (refIx k) 0x0F / 1000000
  s.consortHz k * clampR (-r) r (err / 1000000000 * s.consortHz k)

/-- Phase-lock mode at a forward bow: f moves by at most 20 ppm to f_c and its pull-in offset (R115, R361). Each stands for itself
and the bow that returns from it in the counts of consecutive bows of R115 and R116 (log 155). -/
def State.trackPhase (s : State) (k : Nat) : State :=
  let m := s.mirAt k
  let err := match (s.bowAt k).snap with
    | some n => s.phaseError k (n.c + (((s.bowAt k).bow : Int) - (n.bow : Int) : Int) * n.hp) n.hp
    | none => 0
  let pull := s.pullOffset k err
  let goal := s.consortHz k + pull
  let lim := m.f / 50000
  ((s.mirPut k { m with
      pull := pull, nearBows := if absR err ≤ 50 then m.nearBows + 2 else 0
      farBows := if 500 < absR err then m.farBows + 2 else 0 }).setFreq k (clampR (m.f - lim) (m.f + lim) goal)).putI (refIx k) 0x14
    (sat32 (roundEven err))

/-- Free mode at a forward bow (R360). -/
def State.trackFree (s : State) (k : Nat) (lag : Rat) : State :=
  let m := s.mirAt k
  let e := 90 - lag
  let lim := m.f / 50000
  let run := if absR e ≤ 2 then m.lockRun + 1 else 0
  ((s.mirPut k { m with lockRun := run }).setFreq k (m.f + clampR (-lim) lim (s.f32 (0x3150 + k) 8 * e))).setTracker k
    (if 64 ≤ run then trLocked else trPulling)

/-- P3 at a forward bow (Table 10.6). -/
def State.evalP3 (s : State) (k : Nat) (lag : Rat) : State :=
  let m := s.mirAt k
  let n := if s.p3Active k && decide (s.f32 (0x3150 + k) 0x14 < absR (lag - 90)) then m.p3 + 1 else 0
  s.mirPut k { m with p3 := n }

/-- P2 at an update of the bow model (Table 10.6). -/
def State.evalP2 (s : State) (k : Nat) : State :=
  let m := s.mirAt k
  let g := m.g0 * ((m.drive : Rat) / 2147483648) * cosR ((m.lag - 90) * piR / 180)
  let n := if s.p2Active k && decide (s.f32 (0x3150 + k) 0x13 / 100 * g < absR (s.snapAmp k - g)) then m.p2 + 1 else 0
  s.mirPut k { m with p2 := n }

/-- The tracker at the model centre of a forward bow with lag λ in degrees (R360). -/
def State.track (s : State) (k : Nat) (lag : Rat) : State :=
  let s1 := (s.mirPut k { s.mirAt k with lag := lag }).putF (0x3150 + k) 6 lag
  let s2 := s1.evalP3 k lag
  let s3 := if s2.tracker k = trPhase then s2.trackPhase k else s2.trackFree k lag
  let q := if s3.f32 (0x3150 + k) 4 = 0 then s3.f32 (0x3150 + k) 3 else s3.f32 (0x3150 + k) 4
  let s4 := (s3.putF (0x3150 + k) 2 (resonanceHz (s3.mirAt k).f (lag - 90) q (Config.freeRat s3.free))).takeFree
  (s4.followG0 k).lockRefresh k

/-- The model centre of the bow in progress of course k in slot time, from its latest snapshot (R131, R360). -/
def State.centreNow (s : State) (k : Nat) (n : Snapshot) : Rat :=
  n.c + (((s.bowAt k).bow : Int) - (n.bow : Int) : Int) * n.hp

/-- The lag of course k in degrees, in (−90, 270]: the drive phase at a slot time less the lag trim (R360, log 24). -/
def State.lagAt (s : State) (k : Nat) (t : Rat) : Rat :=
  let m := s.mirAt k
  let n : Rat := ((s.clk.up : Rat) + (t - s.clk.slot) * tSlot) / (50 * tNs : Nat)
  let turns : Rat := ((m.acc : Rat) + (phaseStep m.f : Rat) * (n - m.accAt)) / 2 ^ 48
  90 + wrapDeg (360 * turns - s.f32 (0x3150 + k) 7 - 90)

/-- TRACKER_UPDATE: the model centre of a forward bow, the one in progress. The tracker runs from step 4 of the start, and holds f while REFCLK is lost
(R360, R371). -/
def execTrackerUpdate (k : CourseId) (bow : Nat) (s : State) : Host.Outcome State Fault Refusal :=
  .next (
    match (s.bowAt k.val).snap with
    | some n =>
      if (s.mirAt k.val).phase = 4 ∧ s.clk.refclk = true ∧ (s.bowAt k.val).forward = true ∧ (s.bowAt k.val).bow = bow then
        s.track k.val (s.lagAt k.val (s.centreNow k.val n))
      else s
    | none => s)

/-! ### K2 -/

/-- Consecutive bows with the amplitude within 1 % of the set-point (K2), counted at each bow. -/
def State.countAmp (s : State) (k : Nat) : State :=
  let m := s.mirAt k
  let sp := s.setPointNow k
  let n := if s.ampFromModel k && decide (absR (s.snapAmp k - sp) ≤ sp / 100) then m.ampRun + 1 else 0
  s.mirPut k { m with ampRun := n }

end Sys2Proof.Machine
end

