-- ==== Sys2Proof/Machine/BowModel.lean ====
section
/-! DEFINITION. The bow model: stamps, estimation, snapshots, and the beginning of a bow (R126 to R134, R158, R542). -/

namespace Sys2Proof.Machine

open Sys2Proof

/-- The next factor 1 + ε of R130's arithmetic, |ε| at most 2⁻⁴⁰ (log 10). -/
def relErr (n : Nat) : Rat := 1 + clampR (-(1 / 1099511627776)) (1 / 1099511627776) (Config.freeRat n)

/-- Model state, 2200 + k:15 (Table 4.1), and the state with it changed. -/
def State.modelState (s : State) (k : Nat) : Nat := s.nat (crs k) 0x15
def State.setModel (s : State) (k st : Nat) : State := s.putN (crs k) 0x15 st

/-- A half period at a frequency: 400,000,000 / (2 f) slots. -/
def halfPeriod (f : Rat) : Rat := 400000000 / (2 * f)

/-- The amplitude that a stamp pair implies (R130, R542). -/
def pairAmp (lev : Nat) (dt hp : Rat) : Rat := (lev : Rat) / sinR (piR * dt / (2 * hp))

/-- A pair's interval is valid against a half period (R129). -/
def pairValid (dt hp : Rat) : Bool := decide (0 < hp) && decide (hp / 10 ≤ dt) && decide (dt ≤ 9 * hp / 10)

/-- A gain exponent of 2200 + k:14 (Table 4.7). -/
def State.gain (s : State) (k lo : Nat) : Rat := (2 ^ bits (s.nat (crs k) 0x14) (lo + 7) lo : Nat)

/-- The latest model of course k is published: snapshot (R131), and the estimates of Table 4.6. -/
def State.publishModel (s : State) (k : Nat) : State :=
  let b := s.bowAt k
  let n : Snapshot := { bow := b.bow, forward := b.forward, c := b.c, hp := b.hp, a := b.a, setPoint := s.setPointNow k,
                        state := s.modelState k }
  ((s.bowPut k { b with snap := some n }).putN (crs k) 0x17 (clampI 0 0xFFFFFFFF (roundEven b.a)).toNat).putF (crs k) 0x18
    (400000000 / (2 * b.hp))

/-- The half-period asymmetry of a bow whose mid is `mid`, where the bow before has a mid (2200 + k:19, log 27). -/
def State.showAsymmetry (s : State) (k : Nat) (mid : Rat) : State :=
  match (s.bowAt k).prev1 with
  | some ⟨some mid1, _⟩ => s.putI (crs k) 0x19 (sat32 (roundEven (((mid - mid1) - (s.bowAt k).hp) * 2500)))
  | _ => s

/-- The first valid pair after the model was lost or the course left STOPPED seeds the model (R542). -/
def State.seedModel (s : State) (k : Nat) (fwd : Bool) (mid dt hp : Rat) : State :=
  let b := s.bowAt k
  let s1 := s.bowPut k { b with
    seeded := true, hp := hp, a := pairAmp b.lev dt hp, c := mid, forward := fwd, mid := some mid, updated := true,
    rejRun := 0, run := 0, prev1 := none, prev2 := none }
  let s2 := if s1.modelState k = 4 then s1.setModel k 1 else s1
  s2.publishModel k

/-- A pair of a bow more than 0.1 % from the estimate (R130, Table 4.1). -/
def State.rejectPair (s : State) (k : Nat) (mid : Rat) : State :=
  let b := s.bowAt k
  let s1 := (s.bowPut k { b with mid := some mid, rejected := true, rejRun := b.rejRun + 1, run := 0 }).bump (crs k) 0x1A
  if 4 ≤ b.rejRun + 1 then s1.setModel k 4 else if s1.modelState k = 2 then s1.setModel k 3 else s1

/-- The run of Table 4.1 after an update with amplitude `a` against its set-point `sp`. -/
def runAfter (run : Nat) (a sp : Rat) : Nat := if absR (a - sp) ≤ sp / 20 then run + 1 else 0

/-- The model state after an update (Table 4.1). -/
def stateAfter (st run : Nat) : Nat :=
  if st = 4 then 1 else if st = 3 then 2 else if st = 1 ∧ 16 ≤ run then 2 else st

/-- An update of R130 from a pair with its mid and interval. DEDUCED (log 161): the update that takes state 4 back to 1 is not one of
the 16 bows that are counted again after it (R133). -/
def State.updateModel (s : State) (k : Nat) (mid dt hpraw c2 : Rat) : State :=
  let b := s.bowAt k
  let hp1 := (b.hp + (hpraw - b.hp) / s.gain k 0) * relErr s.free
  let a1 := (b.a + (pairAmp b.lev dt hpraw - b.a) / s.gain k 8) * relErr (s.free + 1)
  let cpred := c2 + 2 * b.hp
  let c1 := (cpred + (mid - cpred) / s.gain k 16) * relErr (s.free + 2)
  let run := if s.modelState k = 4 then 0 else runAfter b.run a1 (s.setPointNow k)
  let s1 : State := { s with free := s.free + 3 }
  let s2 := (s1.bowPut k { b with
    hp := hp1, a := a1, c := c1, mid := some mid, updated := true, rejRun := 0, run := run }).setModel k
      (stateAfter (s.modelState k) run)
  (s2.publishModel k).evalP2 k

/-- A valid pair of the bow in progress: seed, update, rejection, or neither where the bow two before has no mid (R130,
R542). -/
def State.takePair (s : State) (k : Nat) (fwd : Bool) (mid dt hp : Rat) : State :=
  let b := s.bowAt k
  if b.seeded then
    let s1 := match b.prev2 with
      | some ⟨some mid2, c2⟩ =>
        let hpraw := (mid - mid2) / 2
        if b.hp / 1000 < absR (hpraw - b.hp) then s.rejectPair k mid else s.updateModel k mid dt hpraw c2
      | _ => s.bowPut k { b with mid := some mid }
    s1.showAsymmetry k mid
  else s.seedModel k fwd mid dt hp

/-- The sense path delays, 40F0:03. -/
def State.senseDelays (s : State) : List Byte :=
  let b := s.blob 0x40F0 3
  if b.isEmpty then List.replicate 256 0 else b

/-- The stamp of a crossing that the comparator of sense channel c shows at a time in 1/64 slot: less the delay of the path in ps, to
the nearest unit (R126). -/
def State.stampOf (s : State) (c t64 : Nat) : Nat :=
  ((t64 : Int) - roundEven ((sext 32 (leAt s.senseDelays (4 * c) 4) : Rat) * 64 / 2500)).toNat

/-- SENSE_CROSSING_STAMP: the comparator at level +lev (`upper`) or −lev shows a crossing at a time in 1/64 slot (R126 to R129). The
second crossing of a bow, of the other level, makes its pair. DEDUCED (log 162): before the seed the half period of R129 is that of
the seed, 3150 + k:01, and no bow before gives a direction to expect. -/
def execSenseCrossingStamp (k : CourseId) (upper : Bool) (shown64 : Nat) (s : State) : Host.Outcome State Fault Refusal :=
  let b := s.bowAt k.val
  let t64 := s.stampOf (2 * k.val) shown64
  .next (
    if s.cst k.val = 0 ∨ s.clk.refclk = false ∨ s.clk.slotRun = false then s
    else
      match b.stamp with
      | none =>
        if b.mid.isSome ∨ b.rejected then s else s.bowPut k.val { b with stamp := some (upper, t64) }
      | some (u1, t1) =>
        if u1 = upper then s.bowPut k.val { b with stamp := some (upper, t64) }
        else
          let s1 := s.bowPut k.val { b with stamp := none, stampForward := some (!u1) }
          let hp := if b.seeded then b.hp else halfPeriod (s.f32 (0x3150 + k.val) 1)
          let dt : Rat := ((t64 : Int) - (t1 : Int) : Int) / 64
          if pairValid dt hp ∧ (b.seeded = false ∨ b.forward = !u1) then
            s1.takePair k.val (!u1) (((t64 : Rat) + (t1 : Rat)) / 128) dt hp
          else s1)

/-! ### The beginning of a bow -/

/-- Bows per active bow: 1 where both directions are in use, else 2 (R150). -/
def State.bowStep (s : State) (k : Nat) : Nat := if s.nat (crs k) 0x0A = 0 then 1 else 2

/-- The index of bow m among the active bows of the frame, if it is one (R150). -/
def State.activeIndex (s : State) (k m : Nat) : Option Nat :=
  match (s.plcAt k).firstBow with
  | none => none
  | some b0 =>
    let d := m - b0
    if b0 ≤ m ∧ d % s.bowStep k = 0 ∧ d / s.bowStep k < s.nat (crs k) 0x11 then some (d / s.bowStep k) else none

/-- Every active bow of the frame has ended when bow m begins (R151). -/
def State.pastActive (s : State) (k m : Nat) : Bool :=
  match (s.plcAt k).firstBow with
  | none => true
  | some b0 => s.nat (crs k) 0x11 == 0 || decide (b0 + (s.nat (crs k) 0x11 - 1) * s.bowStep k < m)

/-- The bow that ended: one without an update restarts the count, and takes state 2 to 3 (Table 4.1). -/
def State.closeBow (s : State) (k : Nat) : State :=
  let b := s.bowAt k
  if b.updated ∨ b.rejected then s
  else
    let s1 := s.bowPut k { b with run := 0 }
    if s1.modelState k = 2 then s1.setModel k 3 else s1

/-- The outcome of the bow that ended: one that completed its span counts (R492); a transition into HUSHED in it that darkened no
bow is recorded (R28). -/
def State.closeLedger (s : State) (k : Nat) : State :=
  let p := s.plcAt k
  (match p.cur with
   | some c => if p.opened && p.cut.isNone then s.ledgerDone k c.bow else s
   | none => s).hushNoted k

/-- The model and the stamps move on to the next bow (R132): its centre is the snapshot's, extended. -/
def State.nextBow (s : State) (k : Nat) : State :=
  let b := s.bowAt k
  let m := (b.bow + 1) % 2 ^ 48
  let c := match b.snap with
    | some n => n.c + (((b.bow : Int) + 1 - (n.bow : Int) : Int) : Rat) * n.hp
    | none => b.c
  (s.bowPut k { b with
    bow := m, forward := !b.forward, prev2 := b.prev1, prev1 := some ⟨b.mid, b.c⟩, c := c, stamp := none,
    stampForward := none, mid := none, updated := false, rejected := false,
    lev := if (s.frmAt k).fresh then s.nat (crs k) 0x0E else b.lev }).putN (crs k) 0x16 m

/-- The frame and the placement move on to the bow that begins (R150, R151). -/
def State.frameBow (s : State) (k : Nat) : State :=
  let m := (s.bowAt k).bow
  let i := s.activeIndex k m
  let f := s.frmAt k
  let past := s.pastActive k m
  let s1 := s.frmPut k { f with
    fresh := false, begun := (match i with | some n => n + 1 | none => f.begun), flyback := past
    lastEnd := if past && !f.flyback then some ((s.bowAt k).c - (s.bowAt k).hp / 2) else f.lastEnd }
  let p := s1.plcAt k
  let q := { p with
    last := p.cur.map (fun b => { b with emitted := p.opened, cut := p.cut }), cur := p.next, next := none, opened := false, counted := false, nutPassed := false, cut := none, lit := s1.cst k == 4 }
  (s1.plcPut k q).putN (crs k) 0x1E (i.getD 0xFFFF)

end Sys2Proof.Machine
end

