-- ==== Sys2Proof/Machine/Canvas.lean ====
section
/-! DEFINITION. Canvases, ingest and flips (R162 to R198). -/

namespace Sys2Proof.Machine

open Sys2Proof

/-! ### Geometry (R162 to R165) -/

def cvIx (c : Nat) : Nat := 0x2400 + c

/-- Pixel size of a layout in bytes (Table 5.1). -/
def pixelBytes (layout : Nat) : Nat := if layout = 0 then 2 else if layout = 1 then 3 else 4

def State.cvWidth (s : State) (c : Nat) : Nat := s.nat (cvIx c) 1
def State.cvHeight (s : State) (c : Nat) : Nat := s.nat (cvIx c) 2
def State.cvLayout (s : State) (c : Nat) : Nat := s.nat (cvIx c) 3
def State.cvMode (s : State) (c : Nat) : Nat := s.nat (cvIx c) 5

/-- A canvas is used (R162). -/
def State.cvUsed (s : State) (c : Nat) : Bool := s.cvWidth c != 0 && s.cvHeight c != 0

def ceilDiv (a b : Nat) : Nat := (a + b - 1) / b

/-- Size of one buffer, rounded up to 64 KiB (R163, R165). -/
def bufferBytes (w h layout : Nat) : Nat :=
  ceilDiv (ceilDiv w 16 * ceilDiv h 16 * (256 * pixelBytes layout)) 65536 * 65536

/-- Offset of pixel (x, y) in a buffer of width w (R163). -/
def pixelOffset (w layout x y : Nat) : Nat :=
  (y / 16 * ceilDiv w 16 + x / 16) * (256 * pixelBytes layout) + (y % 16 * 16 + x % 16) * pixelBytes layout

/-- Data-class address of buffer b. -/
def State.bufBase (s : State) (c b : Nat) : Nat := s.nat (cvIx c) 0x0C + b * s.nat (cvIx c) 0x0B

/-! ### Meshes in use, and reading courses (R169, R202, R207) -/

def State.copyAt (s : State) (mesh copy : Nat) : MeshCopy :=
  if copy = 0 then (s.meshesAt mesh).copy0 else (s.meshesAt mesh).copy1

/-- The canvas that a mesh copy names (Table 6.1). -/
def State.copyCanvas (s : State) (p : Nat × Nat) : Nat := leAt (s.copyAt p.1 p.2).blob 4 2

/-- The canvas that course k reads now, and the one decided for its next frame. Meshes are numbered 4k + m. -/
def State.canvasNow (s : State) (k : Nat) : Option Nat := (s.fetAt k).mesh.map s.copyCanvas
def State.canvasNext (s : State) (k : Nat) : Option Nat := (s.fetAt k).nextMesh.map s.copyCanvas

/-- The reading courses of canvas c (R202). -/
def State.readers (s : State) (c : Nat) : List Nat :=
  allCourses.filter (fun k => s.canvasNow k == some c || s.canvasNext k == some c)

/-! ### Buffers (R166 to R170) -/

def State.bufs (s : State) (c : Nat) : List Buf := (s.canvasesAt c).bufs
def State.setBufs (s : State) (c : Nat) (l : List Buf) : State := s.canvasesPut c { s.canvasesAt c with bufs := l }
def State.modBuf (s : State) (c b : Nat) (f : Buf → Buf) : State := s.setBufs c ((s.bufs c).modify b f)

def freshBuf : Buf :=
  { state := 0, filling0 := false, targetKind := 0, target := 0, order := 0, stamp := none, flows := [] }

/-- A buffer becomes FREE. -/
def State.freeBuf (s : State) (c b : Nat) : State := s.modBuf c b (fun _ => freshBuf)

/-- A course uses a buffer: current of a frame in progress, or decided (R169). -/
def State.bufUsed (s : State) (c b : Nat) : Bool :=
  allCourses.any (fun k =>
    (s.canvasNow k == some c && (s.fetAt k).buffer == some b) ||
      (s.canvasNext k == some c && (s.fetAt k).nextBuffer == some b))

/-- State of a buffer by Table 5.2. A SHOWN buffer that no course uses, that is not the front and that no pending flip names (R193) is
FREE. One that is still zero-filled is not yet FREE and reads as not allocated (log 30). -/
def State.bufState (s : State) (c b : Nat) : Nat :=
  match (s.bufs c)[b]? with
  | none => 0xF
  | some x =>
    if x.filling0 then 0xF
    else if x.state = 3 ∧ s.bufUsed c b = false ∧ s.nat (cvIx c) 9 ≠ b ∧ s.flipNames c b = false then 0 else x.state

/-- The FREE buffer with the lowest index (R170). -/
def State.freeBuffer (s : State) (c : Nat) : Option Nat := (List.range 4).find? (fun b => s.bufState c b == 0)

/-- A READY buffer is released (R190). -/
def State.releaseBuf (s : State) (c b : Nat) : State := (s.freeBuf c b).bump (cvIx c) 0x10

/-- READY buffers for which a condition holds are released. -/
def State.releaseWhere (s : State) (c : Nat) (f : Buf → Bool) : State :=
  s.each (List.range 4) (fun s b =>
    match (s.bufs c)[b]? with
    | some x => if x.state = 2 ∧ f x = true ∧ s.flipNames c b = false then s.releaseBuf c b else s
    | none => s)

/-- A FILLING buffer becomes READY (R179, R185). -/
def State.readyBuf (s : State) (c b kind : Nat) (target : Int) : State :=
  let x := s.canvasesAt c
  let s1 := s.canvasesPut c { x with nextOrder := x.nextOrder + 1 }
  (s1.modBuf c b (fun y => { y with
    state := 2, order := x.nextOrder, targetKind := kind, target := target, flows := [] })).putN (cvIx c) 0x13
    (time80 s.taiNs)

/-- Content-follow courses of canvas c leave holdover at a completed buffer (R100). -/
def State.contentArrived (s : State) (c : Nat) : State :=
  s.each allCourses (fun s k =>
    if s.follows k 3 c ∧ (s.frmAt k).cfHold = true then s.frmPut k { s.frmAt k with cfHold := false } else s)

/-- Bytes that the canvases in use take. -/
def State.canvasBytes (s : State) (skip : Option Nat) : Nat :=
  (s.canvases.map (fun p => if some p.1 = skip then 0 else p.2.bufs.length * s.nat (cvIx p.1) 0x0B)).sum

/-- Room for canvases in bytes: the pool entry, and what START could place of it (R165, R442). -/
def State.canvasRoom (s : State) : Nat := min (s.nat 0x25F0 1) s.mem.canvasPool * mib

/-- A span [a, a + n) meets no canvas but `skip`. -/
def State.canvasFits (s : State) (skip a n : Nat) : Bool :=
  decide (a + n ≤ s.canvasRoom) &&
    s.canvases.all (fun p => p.1 == skip ||
      decide (a + n ≤ s.nat (cvIx p.1) 0x0C) ||
      decide (s.nat (cvIx p.1) 0x0C + p.2.bufs.length * s.nat (cvIx p.1) 0x0B ≤ a))

/-- The lowest base address at which n bytes fit (log 31). -/
def State.canvasPlace (s : State) (skip n : Nat) : Option Nat :=
  let ends := s.canvases.map (fun p => s.nat (cvIx p.1) 0x0C + p.2.bufs.length * s.nat (cvIx p.1) 0x0B)
  let l := (0 :: ends).filter (fun a => s.canvasFits skip a n)
  match l with
  | [] => none
  | a :: r => some (r.foldl min a)

/-- 25F0:02 brought up to date. -/
def State.showCanvasUse (s : State) : State := s.putN 0x25F0 2 (ceilDiv (s.canvasBytes none) mib)

/-- The canvases with buffers, in the order of their base addresses: number, base, bytes. -/
def State.canvasSpans (s : State) : List (Nat × Nat × Nat) :=
  (s.canvases.filterMap (fun p =>
    if p.2.bufs.isEmpty then none
    else some (p.1, s.nat (cvIx p.1) 0x0C, p.2.bufs.length * s.nat (cvIx p.1) 0x0B))).mergeSort (fun a b => decide (a.2.1 ≤ b.2.1))

/-- The new bases of spans packed from address `a` on: (number, old base, bytes, new base). -/
def packSpans : Nat → List (Nat × Nat × Nat) → List (Nat × Nat × Nat × Nat)
  | _, [] => []
  | a, p :: r => (p.1, p.2.1, p.2.2, a) :: packSpans (a + p.2.2) r

/-- The canvases are packed together at the bottom of the pool with their contents, so that what is free is one span. DESIGN CHOICE
(log 67): the spec has a commit that fits the pool accepted and its buffers allocated, and says nothing of gaps. -/
def State.canvasPack (s : State) : State :=
  let l := packSpans 0 s.canvasSpans
  let s1 := s.dataMove s.canvasRoom (fun a =>
    (l.find? (fun p => decide (p.2.1 ≤ a) && decide (a < p.2.1 + p.2.2.1))).map (fun p => a - p.2.1 + p.2.2.2))
  l.foldl (fun s p => s.putN (cvIx p.1) 0x0C p.2.2.2) s1

/-- A canvas with n buffers of a size at a base address; their zero-fill begins (R165, R166). -/
def State.canvasAt (s : State) (c n size a : Nat) : State :=
  (((s.setBufs c (List.replicate n { freshBuf with filling0 := true })).putN (cvIx c) 0x0B size).putN (cvIx c) 0x0C a).showCanvasUse

/-- A canvas takes its geometry: its buffers are allocated, or it becomes unused (R165, R166). -/
def State.canvasAlloc (s : State) (c : Nat) : State :=
  let s0 := (((s.canvasesPut c {}).putN (cvIx c) 9 0xFF).putN (cvIx c) 0x0B 0).putN (cvIx c) 0x0C 0
  if s0.cvUsed c then
    let size := bufferBytes (s0.cvWidth c) (s0.cvHeight c) (s0.cvLayout c)
    let n := s0.nat (cvIx c) 4
    match s0.canvasPlace c (n * size) with
    | some a => s0.canvasAt c n size a
    | none => s0.canvasPack.canvasAt c n size ((s0.canvasSpans.map (·.2.2)).sum)
  else s0.showCanvasUse

/-- CANVAS_ZERO_FILL_COMPLETE: a newly allocated buffer is zero and becomes FREE (R166). -/
def execCanvasZeroFillComplete (c : CanvasId) (b : Fin 4) (s : State) : Host.Outcome State Fault Refusal :=
  .next (
    match (s.bufs c.val)[b.val]? with
    | some x =>
      if x.filling0 then
        (s.dataZero (s.bufBase c.val b.val) (s.nat (cvIx c.val) 0x0B)).modBuf c.val b.val (fun y =>
          { y with filling0 := false })
      else s
    | none => s)

/-! ### Pixels -/

/-- A pixel as written: address and bytes. Adjacent ones are joined, so that whole units are written whole. -/
def joinWrites : List (Nat × List Byte) → List (Nat × List Byte)
  | [] => []
  | (a, d) :: r =>
    match joinWrites r with
    | (a2, d2) :: r2 => if a + d.length = a2 then (a, d ++ d2) :: r2 else (a, d) :: (a2, d2) :: r2
    | [] => [(a, d)]

/-- Pixels of a canvas buffer written, those outside the canvas left out (R173). -/
def State.writePixels (s : State) (port c b : Nat) (px : List (Nat × Nat × List Byte)) : State :=
  let w := s.cvWidth c
  let h := s.cvHeight c
  let lay := s.cvLayout c
  let base := s.bufBase c b
  let l := px.filterMap (fun p =>
    if p.1 < w ∧ p.2.1 < h then some (base + pixelOffset w lay p.1 p.2.1, p.2.2) else none)
  (joinWrites l).foldl (fun s p => (s.dataWrite port p.1 p.2).1) s

/-- The bytes of a pixel from components in 0 to 1 (Table 5.1, R181): rounded to the layout's code, halves upward, A = 255. -/
def packPixel (layout : Nat) (r g b : Rat) : List Byte :=
  let code (n : Nat) (v : Rat) : Nat := (roundHalfUp (clampR 0 1 v * (n : Rat))).toNat
  match layout with
  | 1 => leBytes 1 (code 255 r) ++ leBytes 1 (code 255 g) ++ leBytes 1 (code 255 b)
  | 2 => leBytes 4 (255 * 2 ^ 24 + code 255 b * 2 ^ 16 + code 255 g * 2 ^ 8 + code 255 r)
  | _ => leBytes 4 (code 1023 b * 2 ^ 20 + code 1023 g * 2 ^ 10 + code 1023 r)

/-- An RGB or Y code of n bits in 0 to 1 (R181). -/
def rangeY (narrow : Bool) (n v : Nat) : Rat :=
  if narrow then ((v : Rat) - 16 * (2 ^ (n - 8) : Nat)) / (219 * (2 ^ (n - 8) : Nat)) else (v : Rat) / (2 ^ n - 1 : Nat)

/-- A Cb or Cr value (a code, or an interpolated one) of n bits in −0.5 to 0.5 (R181). -/
def rangeC (narrow : Bool) (n : Nat) (v : Rat) : Rat :=
  if narrow then (v - 128 * (2 ^ (n - 8) : Nat)) / (224 * (2 ^ (n - 8) : Nat)) else (v - (2 ^ (n - 1) : Nat)) / (2 ^ n - 1 : Nat)

/-- The matrix of Table 5.5 (log 32). -/
def fromYcc (colorimetry : Nat) (y cb cr : Rat) : Rat × Rat × Rat :=
  if colorimetry = 0 then
    (y + 15748 / 10000 * cr, y - 1873 / 10000 * cb - 4681 / 10000 * cr, y + 18556 / 10000 * cb)
  else (y + 14746 / 10000 * cr, y - 1646 / 10000 * cb - 5714 / 10000 * cr, y + 18814 / 10000 * cb)

/-- The number of a byte group, first byte most significant. -/
def beNat (l : List Byte) : Nat := l.foldl (fun n b => n * 256 + b.toNat) 0

/-- Component i of n bits in a group of `size` bytes, from the most significant end (log 33). -/
def component (size n i v : Nat) : Nat := v / 2 ^ (8 * size - n * (i + 1)) % 2 ^ n

/-- A list cut into groups of n bytes; a short rest is left out. -/
def groupsOf (n : Nat) : Nat → List Byte → List (List Byte)
  | 0, _ => []
  | f + 1, l => if l.length < n ∨ n = 0 then [] else l.take n :: groupsOf n f (l.drop n)

/-- Bytes and pixels of an RGB pixel group (Table 5.3). -/
def rgbGroup (depth : Nat) : Nat × Nat := if depth = 8 then (3, 1) else if depth = 10 then (15, 4) else (9, 2)

/-- The RGB codes of sample row data. -/
def rgbPixels (depth : Nat) (d : List Byte) : List (Nat × Nat × Nat) :=
  let g := rgbGroup depth
  (groupsOf g.1 d.length d).flatMap (fun l =>
    (List.range g.2).map (fun i =>
      (component g.1 depth (3 * i) (beNat l), component g.1 depth (3 * i + 1) (beNat l),
        component g.1 depth (3 * i + 2) (beNat l))))

/-- The pixel pairs of YCbCr-4:2:2 10-bit data: Cb, Y0, Cr, Y1 (Table 5.3). -/
def yccPairs (d : List Byte) : List (Nat × Nat × Nat × Nat) :=
  (groupsOf 5 d.length d).map (fun l =>
    (component 5 10 0 (beNat l), component 5 10 1 (beNat l), component 5 10 2 (beNat l), component 5 10 3 (beNat l)))

/-- A chroma sample of a row of n pairs, edge samples repeated; one that is missing takes that of pair `at_`. -/
def chromaAt (row : Int → Option (Nat × Nat × Nat × Nat)) (n at_ : Nat) (j : Int) : Nat × Nat :=
  match row (clampI 0 ((n : Int) - 1) j) with
  | some (cb, _, cr, _) => (cb, cr)
  | none =>
    match row at_ with
    | some (cb, _, cr, _) => (cb, cr)
    | none => (512, 512)

/-- Pixel x of a row of pairs, in 0 to 1: chroma at odd pixels is interpolated (R181). -/
def yccPixel (narrow : Bool) (colorimetry : Nat) (row : Int → Option (Nat × Nat × Nat × Nat)) (n x : Nat) :
    Option (Rat × Rat × Rat) :=
  let j := x / 2
  match row j with
  | none => none
  | some (cb, y0, cr, y1) =>
    let at_ := chromaAt row n j
    let mid (f : Nat × Nat → Nat) : Rat :=
      (9 * (f (at_ j) : Rat) + 9 * (f (at_ (j + 1)) : Rat) - (f (at_ ((j : Int) - 1)) : Rat) - (f (at_ (j + 2)) : Rat)) / 16
    let c : Rat × Rat := if x % 2 = 0 then ((cb : Rat), (cr : Rat)) else (mid (·.1), mid (·.2))
    some (fromYcc colorimetry (rangeY narrow 10 (if x % 2 = 0 then y0 else y1)) (rangeC narrow 10 c.1) (rangeC narrow 10 c.2))

/-! ### Flows (R171 to R183) -/

def flIx (f : Nat) : Nat := 0x2500 + f

/-- The canvas of flow f. -/
def State.flCanvas (s : State) (f : Nat) : Option Nat := if s.nat (flIx f) 0x11 < 256 then some (s.nat (flIx f) 0x11) else none

/-- The flows bound to canvas c. -/
def State.boundFlows (s : State) (c : Nat) : List Nat :=
  (List.range 64).filter (fun f => s.nat (flIx f) 1 != 0 && s.nat (flIx f) 0x11 == c)

/-- A packet belongs to flow f on a port (R172). -/
def State.delivers (s : State) (f port : Nat) (p : RtpPacket) : Bool :=
  let o := if port = 0 then 2 else 5
  bit (s.nat (flIx f) 1) port && p.dstIp == s.nat (flIx f) o && p.dstPort == s.nat (flIx f) (o + 1) &&
    (s.nat (flIx f) (o + 2) == 0 || s.nat (flIx f) (o + 2) == p.srcIp) && p.version == 2 &&
    p.payloadType == s.nat (flIx f) 8

/-- Flows that write the frame of a buffer lose it: it has gone READY or FREE without them (R170). -/
def State.dropBuffer (s : State) (c b : Nat) : State :=
  s.each (s.boundFlows c) (fun s f =>
    let x := s.flowsAt f
    s.flowsPut f { x with asms := x.asms.map (fun a => if a.buffer = some b then { a with buffer := none } else a) })

/-- Distance of sequence numbers, modulo 2³². -/
def seqDist (a b : Nat) : Nat := (a + 2 ^ 32 - b) % 2 ^ 32

/-- The first sequence number of a frame, where it is known: after the last packet of the timestamp before (R176); of the first frame
that a flow takes up, the lowest received (log 34). `before` are the frames in assembly before it, oldest first. -/
def FlowSt.firstOf (x : FlowSt) (before : List Assembly) (a : Assembly) : Option Nat :=
  match before.getLast? with
  | some b => b.marker.map (fun q => (q + 1) % 2 ^ 32)
  | none => some (x.nextFirst.getD a.low)

/-- Span length of a frame from its first number up to its marker, or else to its highest packet. -/
def Assembly.span (a : Assembly) (first : Nat) : Nat := seqDist (a.marker.getD a.high) first + 1

/-- Sequence numbers of a frame's span that are present. -/
def Assembly.present (a : Assembly) (first : Nat) : Nat :=
  (a.seen.filter (fun q => decide (seqDist q first < a.span first))).length

/-- Every sequence number of a frame's span is present, and its marker is known (R176). -/
def FlowSt.asmComplete (x : FlowSt) (before : List Assembly) (a : Assembly) : Bool :=
  !a.ended && a.marker.isSome && match x.firstOf before a with
    | some n => a.present n == a.span n
    | none => false

/-- The first frame of a list that is complete. -/
def FlowSt.firstComplete (x : FlowSt) : List Assembly → List Assembly → Option Assembly
  | _, [] => none
  | before, a :: r => if x.asmComplete before a then some a else x.firstComplete (before ++ [a]) r

/-- Target of a flow's frame in mode 2 (R192): M lies nearest to the time base × 90,000, which `rest` parts of a whole follow; of two
as near, the earlier (log 168). -/
def State.flowTarget (s : State) (c stamp : Nat) : Int :=
  let now : Int := (s.clk.tai * 90000 / 65536000000000 : Nat)
  let rest : Int := (s.clk.tai * 90000 % 65536000000000 : Nat)
  let d := (((stamp : Int) - now) % (2 ^ 32 : Nat))
  let m := now + if d * 65536000000000 - rest < (2 ^ 31 : Nat) * 65536000000000 then d else d - (2 ^ 32 : Nat)
  m * 65536000000000 / 90000 + ((s.nat (cvIx c) 6 : Nat) : Int) * 65536000

/-- The buffer of a timestamp has left FILLING: no flow claims another for it (R178). -/
def State.stampOver (s : State) (c stamp : Nat) : State :=
  let x := s.canvasesAt c
  s.canvasesPut c { x with ended := (x.ended ++ [stamp]).drop (x.ended.length + 1 - 16) }

/-- A buffer of flows is complete: READY (R178, R179). -/
def State.flowReady (s : State) (c b stamp : Nat) : State :=
  let s1 := if s.cvMode c = 2 then s.readyBuf c b 2 (s.flowTarget c stamp) else s.readyBuf c b 0 0
  ((s1.dropBuffer c b).stampOver c stamp).contentArrived c

/-- A buffer of flows is incomplete: READY under policy 1, else FREE (R179). -/
def State.flowIncomplete (s : State) (c b stamp : Nat) : State :=
  let s1 := s.bump (cvIx c) 0x11
  if s.nat (cvIx c) 7 = 1 then s1.flowReady c b stamp else ((s1.freeBuf c b).dropBuffer c b).stampOver c stamp

/-- Frames at the head of a flow's list that have ended are let go; the next one begins after the last of them (R176). -/
def FlowSt.popEnded (x : FlowSt) : List Assembly → FlowSt
  | [] => { x with asms := [] }
  | a :: r =>
    if a.ended then
      ({ x with nextFirst := some ((a.marker.getD a.high + 1) % 2 ^ 32), endedStamp := some a.stamp } : FlowSt).popEnded r
    else { x with asms := a :: r }

/-- A frame in assembly of flow f ends (R176, R178). One that was refused counts in :1C only. -/
def State.endFrame (s : State) (f : Nat) (a : Assembly) (complete : Bool) : State :=
  let x := s.flowsAt f
  let first := (x.firstOf (x.asms.takeWhile (fun b : Assembly => b.stamp != a.stamp)) a).getD a.low
  let y := { x with
    asms := x.asms.map (fun b : Assembly => if b.stamp = a.stamp then { b with ended := true } else b), old := x.old ++ a.seen }
  let s1 := s.flowsPut f (y.popEnded y.asms)
  let s2 :=
    if a.refused then s1
    else if complete then s1.bump (flIx f) 0x1A
    else (s1.bump (flIx f) 0x1B).addSat (flIx f) 0x18 (a.span first - a.present first)
  match a.buffer, s.flCanvas f with
  | some b, some c =>
    if complete then
      let s3 := s2.modBuf c b (fun y => { y with flows := y.flows ++ [f] })
      let done := ((s3.bufs c)[b]?.map (·.flows)).getD []
      if (s3.boundFlows c).all (fun g => done.contains g) then s3.flowReady c b a.stamp else s3
    else s2.flowIncomplete c b a.stamp
  | _, _ => s2

/-- Frames of flow f that are complete end, oldest first. -/
def State.endComplete (s : State) (f : Nat) : Nat → State
  | 0 => s
  | n + 1 =>
    match (s.flowsAt f).firstComplete [] (s.flowsAt f).asms with
    | none => s
    | some a => (s.endFrame f a true).endComplete f n

/-- The frames in assembly of flow f, which writes canvas `canvas`, are discarded to FREE (R172, R182). -/
def State.discardFrames (s : State) (f : Nat) (canvas : Option Nat) : State :=
  let x := s.flowsAt f
  let s1 := s.flowsPut f { x with asms := [], nextFirst := none, old := [], highest := none }
  match canvas with
  | none => s1
  | some c => x.asms.foldl (fun s a =>
      match a.buffer with
      | some b => (s.freeBuf c b).dropBuffer c b
      | none => s) s1

/-- A new frame of flow f with a timestamp: it shares the FILLING buffer of that timestamp or claims one (R177), but where that
timestamp's buffer has left FILLING already (R178). -/
def State.newFrame (s : State) (f stamp seq : Nat) : State :=
  let a : Assembly := { stamp := stamp, seen := [], low := seq, high := seq, marker := none, buffer := none, refused := false,
                        ended := false, raw := [] }
  let put (s : State) (b : Option Nat) (refused : Bool) : State :=
    s.flowsPut f { s.flowsAt f with asms := (s.flowsAt f).asms ++ [{ a with buffer := b, refused := refused }] }
  match s.flCanvas f with
  | none => (put s none true).bump (flIx f) 0x1C
  | some c =>
    match (List.range 4).find? (fun b => s.bufState c b == 1 && ((s.bufs c)[b]?.map (·.stamp)) == some (some stamp)) with
    | some b => put s (some b) false
    | none =>
      if (s.canvasesAt c).ended.contains stamp then put s none false
      else
        match s.freeBuffer c with
        | some b => put (s.modBuf c b (fun y => { y with state := 1, stamp := some stamp, flows := [] })) (some b) false
        | none => (put s none true).bump (flIx f) 0x1C

/-- The pixels of an RGB row of flow f, at canvas positions. -/
def State.rgbRow (s : State) (f layout : Nat) (r : SampleRow) : List (Nat × Nat × List Byte) :=
  let n := s.nat (flIx f) 0x0A
  let nar := s.nat (flIx f) 0x0E == 0
  let x0 := s.nat (flIx f) 0x12 + r.offset
  let y0 := s.nat (flIx f) 0x13 + r.row
  ((rgbPixels n r.data).zipIdx).map (fun p =>
    (x0 + p.2, y0, packPixel layout (rangeY nar n p.1.1) (rangeY nar n p.1.2.1) (rangeY nar n p.1.2.2)))

/-- The pixels of a YCbCr row of flow f that new pairs touch, from all pairs of the row received so far. -/
def State.yccRow (s : State) (f layout : Nat) (raw : Tab (Nat × Nat × Nat × Nat)) (r : SampleRow) :
    List (Nat × Nat × List Byte) :=
  let nar := s.nat (flIx f) 0x0E == 0
  let n := s.nat (flIx f) 0x0B / 2
  let row (j : Int) : Option (Nat × Nat × Nat × Nat) := if j < 0 then none else tfind raw (r.row * 8192 + j.toNat)
  let x0 := r.offset - 4
  (List.range (2 * (yccPairs r.data).length + 8)).filterMap (fun i =>
    (yccPixel nar (s.nat (flIx f) 0x0F) row n (x0 + i)).map (fun q =>
      (s.nat (flIx f) 0x12 + x0 + i, s.nat (flIx f) 0x13 + r.row, packPixel layout q.1 q.2.1 q.2.2)))

/-- YCbCr pairs of a row joined to those received. -/
def joinPairs (raw : Tab (Nat × Nat × Nat × Nat)) (r : SampleRow) : Tab (Nat × Nat × Nat × Nat) :=
  ((yccPairs r.data).zipIdx).foldl (fun t p =>
    tins (r.row * 8192 + r.offset / 2 + p.2) p.1 (terase t (r.row * 8192 + r.offset / 2 + p.2))) raw

/-- Pixels in one row's data. -/
def State.rowPixels (s : State) (f : Nat) (r : SampleRow) : Nat :=
  if s.nat (flIx f) 9 = 1 then 2 * (yccPairs r.data).length else (rgbPixels (s.nat (flIx f) 0x0A) r.data).length

/-- A row would leave the canvas (R173). -/
def State.rowLeaves (s : State) (f c : Nat) (r : SampleRow) : Bool :=
  decide (s.cvHeight c ≤ s.nat (flIx f) 0x13 + r.row) ||
    decide (s.cvWidth c < s.nat (flIx f) 0x12 + r.offset + s.rowPixels f r)

/-- The rows of a packet written to a buffer. -/
def State.writeRows (s : State) (port f c b : Nat) (raw : Tab (Nat × Nat × Nat × Nat)) (rows : List SampleRow) : State :=
  rows.foldl (fun s r => s.writePixels (32 + port) c b
    (if s.nat (flIx f) 9 = 1 then s.yccRow f (s.cvLayout c) raw r else s.rgbRow f (s.cvLayout c) r)) s

/-- A packet that is accepted joins its frame (R173, R176). -/
def State.joinPacket (s : State) (f port : Nat) (p : RtpPacket) : State :=
  let s0 := (s.add64 (flIx f) 0x16 1).putN (flIx f) 0x1D p.timestamp
  let s1 := if ((s0.flowsAt f).asms.any (fun a => a.stamp == p.timestamp)) then s0 else s0.newFrame f p.timestamp p.seq
  let x := s1.flowsAt f
  let join (a : Assembly) : Assembly :=
    if a.stamp = p.timestamp then
      { a with
        seen := if a.seen.contains p.seq then a.seen else a.seen ++ [p.seq]
        low := if seqDist p.seq a.low < 2 ^ 31 then a.low else p.seq
        high := if seqDist p.seq a.high < 2 ^ 31 then p.seq else a.high
        marker := if p.marker then some (a.marker.getD p.seq) else a.marker
        raw := if s.nat (flIx f) 9 = 1 then p.rows.foldl joinPairs a.raw else a.raw }
    else a
  let asms := x.asms.map join
  let hi := match x.highest with
    | some h => if seqDist p.seq h < 2 ^ 31 then p.seq else h
    | none => p.seq
  let s2 := s1.flowsPut f { x with
    asms := asms, highest := some hi, old := x.old.filter (fun q => decide (seqDist hi q ≤ 2 ^ 18)) }
  let s3 :=
    match asms.find? (fun a => a.stamp == p.timestamp), s.flCanvas f with
    | some a, some c =>
      match a.buffer with
      | some b =>
        let s3 := s2.writeRows port f c b a.raw p.rows
        if p.rows.any (s.rowLeaves f c) then s3.bump (flIx f) 0x19 else s3
      | none => s2
    | _, _ => s2
  s3.endComplete f (s3.flowsAt f).asms.length

/-- How a flow's merge judges a packet (R175): stale, a duplicate, or new. -/
def State.mergeJudge (s : State) (f : Nat) (p : RtpPacket) : Nat :=
  let x := s.flowsAt f
  let behind := match x.highest with
    | some h => if seqDist h p.seq < 2 ^ 31 then seqDist h p.seq else 0
    | none => 0
  if s.nat (flIx f) 1 ≠ 3 then 0
  else if 2 ^ 18 < behind then 2
  else if x.old.contains p.seq ∨ x.asms.any (fun a => a.seen.contains p.seq) then 1
  else 0

/-- The state of flow f after a packet on a port: receiving, or on one path only while the other is silent (2500 + f:15,
L3). -/
def State.flowSeen (s : State) (f port : Nat) : State :=
  let x := s.flowsAt f
  let other := if port = 0 then x.lastB else x.lastA
  let lone := s.nat (flIx f) 1 == 3 && s.nat (flIx f) 0x15 == 3 && other.isNone
  let s1 := s.flowsPut f (if port = 0 then { x with lastA := some s.clk.up } else { x with lastB := some s.clk.up })
  s1.putN (flIx f) 0x15 (if lone then 3 else 2)

/-- The source a flow's packets come from: packets of another synchronisation source discard the frames in assembly, and
the flow takes that source from then on. -/
def State.flowSource (s : State) (f ssrc : Nat) : State :=
  let t := match (s.flowsAt f).ssrc with
    | some q => if q = ssrc then s else s.discardFrames f (s.flCanvas f)
    | none => s
  t.flowsPut f { t.flowsAt f with ssrc := some ssrc }

/-- The timestamp of the newest frame that flow f has begun, which it does not begin again when it starts anew. -/
def FlowSt.begun (x : FlowSt) : Option Nat :=
  (x.asms.getLast?.map (·.stamp)).orElse (fun _ => x.skipStamp.orElse (fun _ => x.endedStamp))

/-- Flow f is to start with its next frame: what it has in assembly on canvas `canvas` is discarded (R182, L9). -/
def State.flowAnew (s : State) (f : Nat) (canvas : Option Nat) (skip : Option Nat) : State :=
  let s1 := s.discardFrames f canvas
  s1.flowsPut f { s1.flowsAt f with skipStamp := skip }

/-- A packet delivered to flow f; in STANDBY it is discarded, and its frame is none that the flow may start with (L9). -/
def State.flowPacket (s0 : State) (f port : Nat) (p : RtpPacket) : State :=
  if s0.dst = 3 then (s0.flowAnew f (s0.flCanvas f) (some p.timestamp)).bump (flIx f) 0x19
  else
    let s3 := (s0.flowSeen f port).flowSource f p.ssrc
    let x := s3.flowsAt f
    if p.rows.any (·.field) then s3.bump (flIx f) 0x19
    else
      match s3.mergeJudge f p with
      | 2 => s3.bump (flIx f) 0x19
      | 1 => s3.add64 (flIx f) 0x17 1
      | _ =>
        if x.skipStamp = some p.timestamp ∨ x.endedStamp = some p.timestamp ∨
            x.asms.any (fun a => a.ended && a.stamp == p.timestamp) = true then s3
        else (s3.flowsPut f { x with skipStamp := none }).joinPacket f port p

/-! ### Port receive (R16, R174) -/

/-- Ingest and host-ring processing pause (R16). -/
def State.ingestPaused (s : State) : Bool := decide (s.clk.up < s.therm.ingestPause)

/-- The flows that a packet on a port belongs to. -/
def State.flowsOf (s : State) (port : Nat) (p : RtpPacket) : List Nat :=
  (List.range 64).filter (fun f => s.delivers f port p)

/-- Ingest takes a packet from port receive to its flows, committing each flow's queue past it (R13, R172). -/
def State.rxDeliver (s : State) (port : Nat) (p : RtpPacket) : State :=
  s.each (s.flowsOf port p) (fun s f => (s.flowPacket f port p).queueCommit (useFlow f))

/-- The reservation of flow f on each of its ports, in bytes (R174). -/
def State.flowReserve (s : State) (f : Nat) : Nat := if s.nat (flIx f) 0x10 = 1 then 262144 else 65536

/-- Bytes of port receive that held packets of a kind take. -/
def State.rxBytes (s : State) (which : RxPacket → Bool) : Nat := ((s.rx.filter which).map (·.packet.length)).sum

/-- Port receive holds a packet in its flow's reservation, or else in the shared half; one that finds no room is dropped and
counted (R174, L5). -/
def State.rxHold (s : State) (port : Nat) (p : RtpPacket) (f : Nat) : State :=
  let hold (shared : Bool) : State :=
    (s.flowsOf port p).foldl (fun s g => s.queuePush (useFlow g))
      { s with rx := s.rx ++ [{ port := port, flow := f, shared := shared, packet := p }] }
  if s.rxBytes (fun x => x.port == port && x.flow == f && !x.shared) + p.length ≤ s.flowReserve f then hold false
  else if s.rxBytes (fun x => x.port == port && x.shared) + p.length ≤ 4194304 then hold true
  else s.bump 0x25F0 (5 + port)

/-- Ingest goes on after a pause: it takes what port receive holds, oldest first. -/
def State.rxDrain (s : State) : State :=
  if s.rx.isEmpty || s.ingestPaused then s
  else s.rx.foldl (fun s x => s.rxDeliver x.port x.packet) { s with rx := [] }

/-- ST2110_PACKET: a packet arrives on a port, is held while ingest pauses, and goes to the flows that it belongs to (R172 to
R177). -/
def execSt2110Packet (port : PortId) (p : RtpPacket) (s : State) : Host.Outcome State Fault Refusal :=
  .next (
    if s.dst = 0 ∨ s.dst = 4 then s
    else
      match s.flowsOf port.val p with
      | [] => s
      | f :: _ => (s.rxDrain.rxHold port.val p f).rxDrain)

/-- MERGE_DEADLINE: the oldest frame in assembly of flow f that has not ended is incomplete (R176). -/
def execMergeDeadline (f : FlowId) (s : State) : Host.Outcome State Fault Refusal :=
  .next (
    match (s.flowsAt f.val).asms.find? (fun a => !a.ended) with
    | none => s
    | some a =>
      let s1 := s.endFrame f.val a false
      s1.endComplete f.val (s1.flowsAt f.val).asms.length)

/-- FLOW_PATH_SILENT: one path of a merged flow is silent for 1 s (L3). -/
def execFlowPathSilent (f : FlowId) (port : PortId) (s : State) : Host.Outcome State Fault Refusal :=
  .next (
    if s.nat (flIx f.val) 1 = 3 ∧ s.nat (flIx f.val) 0x15 = 2 then
      let x := s.flowsAt f.val
      (s.flowsPut f.val (if port.val = 0 then { x with lastA := none } else { x with lastB := none })).putN (flIx f.val) 0x15 3
    else s)

/-- FLOW_IDLE: no packet on any path for 1 s (2500 + f:15). -/
def execFlowIdle (f : FlowId) (s : State) : Host.Outcome State Fault Refusal :=
  .next (if s.nat (flIx f.val) 1 ≠ 0 then s.putN (flIx f.val) 0x15 1 else s)

/-- A commit changes an entry of flow f, `old` before it: its frames are discarded, and it starts with the next frame (R182).
A flow turned on reads idle until its first packet. -/
def State.flowChanged (s old : State) (f : Nat) : State :=
  let last := (s.flowsAt f).begun
  let s1 := s.discardFrames f (old.flCanvas f)
  let s2 := s1.flowsPut f { skipStamp := last }
  s2.putN (flIx f) 0x15 (if s.nat (flIx f) 1 = 0 then 0 else 1)

/-- STANDBY ends: every flow starts with its next frame (L9). -/
def State.flowsAfterStandby (s : State) : State :=
  s.each (s.flows.map (·.1)) (fun s f => s.flowAnew f (s.flCanvas f) (s.flowsAt f).begun)

/-- Receive reservations of a port in KiB (R174). -/
def State.reservation (s : State) (port : Nat) : Nat :=
  ((List.range 64).map (fun f =>
    if bit (s.nat (flIx f) 1) port then (if s.nat (flIx f) 0x10 = 1 then 256 else 64) else 0)).sum

/-! ### Host content streams (R184 to R187) -/

def hsIx (h : Nat) : Nat := 0x2540 + h

/-- The canvas of stream h, if the stream is on. -/
def State.hsCanvas (s : State) (h : Nat) : Option Nat :=
  if s.nat (hsIx h) 1 ≠ 0 ∧ s.nat (hsIx h) 3 < 256 then some (s.nat (hsIx h) 3) else none

/-- Bytes of the source rectangle, and whether a format may be written to a layout (Table 5.7). -/
def sourceBytes (fmt n : Nat) : Nat :=
  match fmt with
  | 1 => 2 * n
  | 2 => 3 * n
  | 5 => 5 * n / 2
  | _ => 4 * n
def formatOk (fmt layout x w : Nat) : Bool :=
  (fmt == 1 && layout == 0) || (fmt == 2 && layout == 1) || (fmt == 3 && layout == 2) || (fmt == 4 && layout == 3) ||
    (fmt == 5 && layout == 3 && x % 2 == 0 && w % 2 == 0)

/-- A reserved field of a descriptor is non-zero (Table 5.6, R186). -/
def descReserved (d : List Byte) : Bool := bits (leAt d 1 1) 7 1 != 0 || leAt d 28 4 != 0

/-- A WRITE RECT fails (R186). -/
def State.rectFails (s : State) (c : Nat) (d : List Byte) : Bool :=
  let x := leAt d 4 2
  let y := leAt d 6 2
  let w := leAt d 8 2
  let h := leAt d 10 2
  w == 0 || h == 0 || decide (s.cvWidth c < x + w) || decide (s.cvHeight c < y + h) ||
    !formatOk (leAt d 2 1) (s.cvLayout c) x w || descReserved d

/-- A COMPLETE fails (R186): its target selector against the flip mode (Table 5.9). -/
def State.completeFails (s : State) (c : Nat) (d : List Byte) : Bool :=
  let sel := leAt d 3 1
  let ok := match s.cvMode c with
    | 2 => sel == 1 || sel == 2
    | 3 => sel == 3
    | _ => sel == 0
  !ok || descReserved d

/-- The pixels of a rectangle, from its source bytes row by row. -/
def State.rectPixels (s : State) (c : Nat) (d src : List Byte) : List (Nat × Nat × List Byte) :=
  let x := leAt d 4 2
  let y := leAt d 6 2
  let w := leAt d 8 2
  let h := leAt d 10 2
  let fmt := leAt d 2 1
  let row := sourceBytes fmt w
  (List.range h).flatMap (fun i =>
    let line := slice (i * row) row src
    if fmt = 5 then
      let ps := yccPairs line
      let get (j : Int) : Option (Nat × Nat × Nat × Nat) := if j < 0 then none else ps[j.toNat]?
      (List.range w).filterMap (fun q => (yccPixel true 0 get ps.length q).map (fun v =>
        (x + q, y + i, packPixel 3 v.1 v.2.1 v.2.2)))
    else
      let p := pixelBytes (s.cvLayout c)
      (List.range w).map (fun q => (x + q, y + i, slice (q * p) p line)))

/-- The completion of a descriptor, where it is wanted (Table 5.8), and its tail commit (R185, R187). -/
def State.hsDone (s : State) (h : Nat) (d : List Byte) (status : Nat) (buffer : Option Nat) : State :=
  let s1 := (s.ringTake (s.nat (hsIx h) 1)).add64 (hsIx h) 5 1
  let s2 := if status = 0 then s1 else s1.bump (hsIx h) 6
  if bit (leAt d 1 1) 0 ∧ s.nat (hsIx h) 2 ≠ 0 then
    s2.ringPush (s.nat (hsIx h) 2)
      (slice 24 4 d ++ leBytes 1 status ++ slice 0 1 d ++ leBytes 1 (buffer.getD 0xFF) ++ [0x00] ++ leBytes 8 s.taiNs)
  else s2

/-- Ingest reads the descriptor at the tail of stream h's ring: one is there, none waits, its completion has room, and host rings do
not pause (R16). -/
def State.hsReads (s : State) (h : Nat) (d : List Byte) : Bool :=
  s.ringHasEntry (s.nat (hsIx h) 1) && (s.hstreamsAt h).waiting.isNone && !s.ingestPaused && s.dst != 3 && s.dst != 0 &&
    s.dst != 4 &&
    (!bit (leAt d 1 1) 0 || s.nat (hsIx h) 2 == 0 || s.ringHasRoom (s.nat (hsIx h) 2))

/-- A WRITE RECT that holds buffer b is carried out. -/
def State.rectInto (s : State) (h c b : Nat) (d src : List Byte) (pcieError : Bool) : State :=
  if pcieError then s.hsDone h d stLength (some b)
  else ((s.writePixels 34 c b (s.rectPixels c d src)).add64 (hsIx h) 9
    (sourceBytes (leAt d 2 1) (leAt d 8 2) * leAt d 10 2)).hsDone h d stOk (some b)

/-- A WRITE RECT that passes its checks: it writes the buffer that the stream holds, or claims one, or waits (R185). -/
def State.rectClaims (s : State) (h c : Nat) (d src : List Byte) (err : Bool) : State :=
  match (s.hstreamsAt h).buffer with
  | some b => s.rectInto h c b d src err
  | none =>
    match s.freeBuffer c with
    | some b =>
      ((s.modBuf c b (fun y => { y with state := 1, stamp := none, flows := [] })).hstreamsPut h { buffer := some b }).rectInto
        h c b d src err
    | none => (s.hstreamsPut h { waiting := some (d, src, err) }).bump (hsIx h) 8

/-- WRITE_RECT: a content descriptor that writes a rectangle (R185, R186). -/
def execWriteRect (h : FlowId) (desc pixels : List Byte) (pcieError : Bool) (s : State) : Host.Outcome State Fault Refusal :=
  .next (
    match s.hsCanvas h.val with
    | none => s
    | some c =>
      if s.hsReads h.val desc = false then s
      else if s.rectFails c desc then s.hsDone h.val desc stRange (s.hstreamsAt h.val).buffer
      else s.rectClaims h.val c desc pixels pcieError)

/-- The target of a COMPLETE, as held (Table 5.6): a time in 2⁻¹⁶ ns. -/
def descTarget (d : List Byte) : Int :=
  match leAt d 3 1 with
  | 1 => (leAt d 16 4 : Nat)
  | 2 => (leAt d 16 8 * tNs : Nat)
  | 3 => sext 32 (leAt d 16 4)
  | _ => 0

/-- COMPLETE: the buffer in FILLING becomes READY with the descriptor's target (R185). -/
def execComplete (h : FlowId) (desc : List Byte) (s : State) : Host.Outcome State Fault Refusal :=
  .next (
    match s.hsCanvas h.val with
    | none => s
    | some c =>
      if s.hsReads h.val desc = false then s
      else if s.completeFails c desc then s.hsDone h.val desc stRange (s.hstreamsAt h.val).buffer
      else
        match (s.hstreamsAt h.val).buffer with
        | none => s.hsDone h.val desc stOk none
        | some b =>
          let s1 := ((s.readyBuf c b (leAt desc 3 1) (descTarget desc)).contentArrived c).hstreamsPut h.val {}
          (s1.bump (hsIx h.val) 7).hsDone h.val desc stOk (some b))

/-- ABORT_BUFFER: the buffer in FILLING returns to FREE (R185). -/
def execAbortBuffer (h : FlowId) (desc : List Byte) (s : State) : Host.Outcome State Fault Refusal :=
  .next (
    match s.hsCanvas h.val with
    | none => s
    | some c =>
      if s.hsReads h.val desc = false then s
      else if descReserved desc then s.hsDone h.val desc stRange (s.hstreamsAt h.val).buffer
      else
        match (s.hstreamsAt h.val).buffer with
        | none => s.hsDone h.val desc stOk none
        | some b => ((s.freeBuf c b).hstreamsPut h.val {}).hsDone h.val desc stOk (some b))

/-- DESCRIPTOR_RESUME: a buffer is FREE, and the WRITE RECT that waits proceeds (R185); in STANDBY it waits on (L9). -/
def execDescriptorResume (h : FlowId) (s : State) : Host.Outcome State Fault Refusal :=
  .next (
    match s.hsCanvas h.val, (s.hstreamsAt h.val).waiting with
    | some c, some (d, src, err) =>
      if (s.freeBuffer c).isSome ∧ s.ingestPaused = false ∧ (s.dst = 1 ∨ s.dst = 2) then (s.hstreamsPut h.val {}).rectClaims h.val c d src err else s
    | _, _ => s)

/-- 2540 + h:04: off, idle, FILLING held, waiting for a buffer (Table 5.15). -/
def State.hsState (s : State) (h : Nat) : Nat :=
  if (s.hsCanvas h).isNone then 0
  else if (s.hstreamsAt h).waiting.isSome then 3
  else if (s.hstreamsAt h).buffer.isSome then 2 else 1

/-- Ingest restarts (L7): FILLING buffers become FREE; the rest is kept. -/
def State.ingestRestart (s : State) : State :=
  let s1 := s.each (s.canvases.map (·.1)) (fun s c =>
    s.each (List.range 4) (fun s b => if s.bufState c b = 1 then s.freeBuf c b else s))
  let s2 := s1.each (s.flows.map (·.1)) (fun s f =>
    let x := s.flowsAt f
    s.flowsPut f { x with
      asms := [], nextFirst := none, skipStamp := (x.asms.getLast?.map (·.stamp)).orElse (fun _ => x.skipStamp) })
  (s2.each (s.hstreams.map (·.1)) (fun s h => s.hstreamsPut h { s.hstreamsAt h with buffer := none })).bump 0x25F0 8

/-! ### Release and flips (R188 to R194) -/

/-- READY buffers of a mask are released (R190). -/
def State.releaseReady (s : State) (c mask : Nat) : State :=
  s.each (bitsSet 4 mask) (fun s b =>
    if s.bufState c b = 2 ∧ s.flipNames c b = false then s.releaseBuf c b else s)

/-- RELEASE_READY_BUFFERS: a host write of 2400 + c:14. -/
def execReleaseReadyBuffers (c : CanvasId) (mask : Byte) (s : State) : Host.Outcome State Fault Refusal :=
  .next (s.hostWrite (writeItem 0x02 (cvIx c.val) 0x14 1) (fun s => (s.releaseReady c.val mask.toNat, stOk)))

/-- Shaft frame numbers of course k are compared modulo this, 0 for 2³² (R194). -/
def State.shaftModulus (s : State) (k : Nat) : Nat :=
  let cpr := s.nat (0x1218 + s.channelOf k) 2
  let c := s.nat (refIx k) 6
  if cpr ≠ 0 ∧ c ≠ 0 ∧ cpr % c = 0 then cpr / c else 2 ^ 32

/-- The sign of a shaft's count rate. -/
def State.shaftSign (s : State) (k : Nat) : Int := (s.shaftRate (s.channelOf k)).sign

/-- The predicted shaft frame number of course k (R194). -/
def State.shaftPredicted (s : State) (k : Nat) : Int := ((s.frmAt k).shaftN.getD 0) + s.shaftSign k

/-- A target of mode 3 lies outside the 16 frame numbers from the predicted one in the direction of travel (R190). A
stopped shaft has no direction, and releases nothing (log 35). -/
def State.outsideTravel (s : State) (k : Nat) (target : Int) : Bool :=
  let m := s.shaftModulus k
  if s.shaftSign k = 0 then false
  else decide (16 ≤ ((target - s.shaftPredicted k) * s.shaftSign k) % (m : Int))

/-- Mode 3: buffers whose targets have gone out of reach of course k are released. -/
def State.releaseTravel (s : State) (k : Nat) : State :=
  match s.canvasNow k with
  | some c => if s.cvMode c = 3 then s.releaseWhere c (fun x => s.outsideTravel k x.target) else s
  | none => s

/-- A target of mode 2 applies at the coming frame start of course k or earlier (R191). -/
def State.targetDue (s : State) (k : Nat) (x : Buf) : Bool :=
  if x.targetKind = 1 then atOrAfter (s.comingCounter k) x.target.toNat else decide (x.target ≤ s.comingStart k)

/-- The time of a target as course k orders targets: a frame number counts back from the coming frame start. -/
def State.targetTime (s : State) (k : Nat) (x : Buf) : Int :=
  if x.targetKind = 1 then
    s.comingStart k - (seqDist (s.comingCounter k) (x.target.toNat % 2 ^ 32) : Int) * (s.framePeriod k).floor
  else x.target

/-- The last of a list by a key. -/
def bestBy (key : Nat → Int) : List Nat → Option Nat
  | [] => none
  | b :: r =>
    match bestBy key r with
    | none => some b
    | some c => if key c < key b then some b else some c

/-- The buffer that course k shows of canvas c: its current one, or else the canvas front. -/
def State.bufNow (s : State) (k c : Nat) : Option Nat :=
  if s.canvasNow k = some c then (s.fetAt k).buffer
  else if s.nat (cvIx c) 9 < 4 then some (s.nat (cvIx c) 9) else none

/-- The buffers that qualify for course k at its decision: those in READY, and those that another course of the canvas has taken since,
which are SHOWN: the flip applies to each course (R195). `later` compares a buffer with the one that the course shows. -/
def State.flipReady (s : State) (k c : Nat) (later : Buf → Buf → Bool) : List Nat :=
  let at_ (b : Nat) : Buf := ((s.bufs c)[b]?).getD freshBuf
  (List.range 4).filter (fun b => s.bufState c b == 2 || (s.bufState c b == 3 && match s.bufNow k c with
    | some n => n != b && later (at_ b) (at_ n)
    | none => true))

/-- The buffer that course k takes on canvas c at its decision (Table 5.9). -/
def State.flipChoice (s : State) (k c : Nat) : Option Nat :=
  let at_ (b : Nat) : Buf := ((s.bufs c)[b]?).getD freshBuf
  match s.cvMode c with
  | 0 =>
    match s.flipDue k c (s.comingCounter k) (s.comingStart k) with
    | some b => if s.bufState c b = 2 ∨ s.bufState c b = 3 then some b else none
    | none => none
  | 1 => bestBy (fun b => ((at_ b).order : Int)) (s.flipReady k c (fun x y => decide (y.order < x.order)))
  | 2 =>
    bestBy (fun b => s.targetTime k (at_ b))
      ((s.flipReady k c (fun x y => decide (s.targetTime k y < s.targetTime k x))).filter (fun b => s.targetDue k (at_ b)))
  | _ =>
    let hit (x : Buf) : Bool := (x.target - s.shaftPredicted k) % (s.shaftModulus k : Int) == 0
    (s.flipReady k c (fun _ y => !hit y)).find? (fun b => hit (at_ b))

/-- A target could have been reached at an earlier frame start of course k (R191). -/
def State.lateFlip (s : State) (k : Nat) (x : Buf) : Bool :=
  if x.targetKind = 1 then x.target.toNat % 2 ^ 32 != s.comingCounter k
  else decide (x.target ≤ ((s.frmAt k).startTai : Int))

/-- A buffer is taken: SHOWN, canvas front, counted; what it makes obsolete is released (R169, R190, R191). -/
def State.takeBuf (s : State) (c b : Nat) (late : Bool) : State :=
  let x := ((s.bufs c)[b]?).getD freshBuf
  let s1 := ((s.modBuf c b (fun y => { y with state := 3 })).putN (cvIx c) 9 b).bump (cvIx c) 0x0E
  let s2 := if late then s1.bump (cvIx c) 0x12 else s1
  match s.cvMode c with
  | 1 => s2.releaseWhere c (fun y => decide (y.order < x.order))
  | _ => s2

/-- Mode 2: READY buffers with an earlier target than the one taken are released (R190). -/
def State.releaseEarlier (s : State) (k c b : Nat) : State :=
  let x := ((s.bufs c)[b]?).getD freshBuf
  if s.cvMode c = 2 then s.releaseWhere c (fun y => decide (s.targetTime k y < s.targetTime k x)) else s

/-- Course k decides the buffer of its next frame on canvas c (R188, R189, R207): the state and the buffer. -/
def State.decideBuffer (s : State) (k c : Nat) : State × Option Nat :=
  match s.flipChoice k c with
  | some b =>
    let x := ((s.bufs c)[b]?).getD freshBuf
    let late := s.cvMode c == 2 && s.lateFlip k x
    ((s.takeBuf c b late).releaseEarlier k c b, some b)
  | none =>
    let lowest := ((s.readers c).head?).getD k
    (if lowest = k then s.bump (cvIx c) 0x0F else s, s.bufNow k c)

/-- A flip of canvas c has applied on every reading course: READY buffers older than the flipped one are released (R190). -/
def State.flipDone (s : State) (c b : Nat) : State :=
  let x := ((s.bufs c)[b]?).getD freshBuf
  if s.cvMode c = 0 ∧ s.flipNames c b = false then s.releaseWhere c (fun y => decide (y.order < x.order)) else s

/-- A flip on a canvas that no course reads applies at once (R193). -/
def State.flipNow (s : State) (c b : Nat) : State :=
  ((s.putN (cvIx c) 8 b).takeBuf c b false).flipDone c b

end Sys2Proof.Machine
end

