-- ==== Sys2Proof/Machine/Capo.lean ====
section
/-! DEFINITION. The capo: classes and limits, trips, the scan watch, re-arm, self-test, and its hushes (R319, R321 to R323,
R375 to R395). -/

namespace Sys2Proof.Machine

open Sys2Proof

/-! ### Classes (R375 to R377) -/

/-- Code ceiling, mean-level ceiling and drive clamp ceiling of a class (Table 11.1). -/
def capoCeilings (c : Nat) : Nat × Nat × Nat :=
  match c with
  | 0 => (512, 256, 250)
  | 1 => (1024, 512, 350)
  | 2 => (1536, 768, 450)
  | 3 => (2048, 1024, 550)
  | 4 => (2560, 1536, 650)
  | 5 => (3072, 2048, 750)
  | 6 => (3584, 3072, 900)
  | _ => (4095, 4095, 1000)

/-- The class cap that a mask of blown fuse bits leaves (R375). -/
def classCap (blown : Nat) : Nat := 7 - (7 &&& blown)

/-- The class in force: the lower of strap code and cap (R375). -/
def State.classInForce (s : State) : Nat := min s.capo.sel (classCap s.capo.blownSeen)

/-- A BLOB of 256 equal limits (R396). -/
def limitBlob (v : Nat) : List Byte := (List.replicate 256 (leBytes 2 v)).flatten

/-- The limits of Table 11.2 at their defaults under the class in force. -/
def State.capoDefaults (s : State) : State :=
  let c := capoCeilings s.classInForce
  let s1 := ((((s.putN 0x3800 2 s.capo.sel).putN 0x3800 3 (classCap s.capo.blownSeen)).putN 0x3800 4 s.classInForce).putB
    0x3800 0x10 (limitBlob c.1)).putB 0x3800 0x11 (limitBlob c.2.1)
  (s1.putN 0x3800 6 1000).each allCourses (fun s k =>
    ((((s.putN (0x3810 + k) 3 200).putN (0x3810 + k) 4 60000).putN (0x3810 + k) 5 950).putN (0x3810 + k) 6 c.2.2).putN
      (0x3810 + k) 7 c.2.2)

/-- VAON_VALID: VAON becomes valid; the straps and the fuse word are sampled, and the self-test begins with every output
held safe (R375, R393). -/
def execVaonValid (sel : BitVec 3) (s : State) : Host.Outcome State Fault Refusal :=
  .next (
    if s.capo.vaon then s
    else
      let c := s.capo
      let s1 : State := { s with
        capo := { sel := sel.toNat, blown := c.blown, blownSeen := c.blown, vaon := true, interlock := c.interlock,
                  highSince := c.highSince }
        capoC := [] }
      (s1.putN 0x3800 1 0).capoDefaults)

/-! ### Trips (R388) -/

/-- Hush cause bit of a trip T1 to T5, numbered 0 to 4 (Table 11.3). -/
def tripBit (t : Nat) : Nat := if t < 3 then 0 else 1

/-- The counter of a course's trip: scan, energy, overtravel. -/
def State.countTrip (s : State) (k t : Nat) : State := if t < 3 then s.bump (0x3810 + k) (0x0A + t) else s

/-- Trip t (0 to 4) of course k latches: the course is unsatisfied until a re-arm, its hush cause bit sets (R388), and
3800:12 shows it. The HUSH copies are CAPO_HUSH's. -/
def State.trip (s : State) (k t : Nat) : State :=
  let c := s.capoCAt k
  if bit c.trips t then s
  else
    let s1 := ((s.capoCPut k { c with trips := c.trips ||| 2 ^ t }).countTrip k t).putN 0x3800 0x12
      (k * 2 ^ 56 + (t + 1) * 2 ^ 48 + s.upUs % 2 ^ 48)
    s1.setCauseNow k (tripBit t)

/-- The capo releases AXIS_EN[k]; the loop engine declares the course failed at once, unless it was STOPPED (R368, R385). -/
def State.capoRelease (s : State) (k : Nat) (stopped : Bool) : State :=
  let s1 := s.putN (0x3150 + k) 0x1C 0
  if stopped ∨ (s1.mirAt k).failed then s1 else s1.declareFailed k

/-- Capo fault: state 2, every course tripped with T5, every AXIS_EN released (R393). -/
def State.capoFaultNow (s : State) : State :=
  if s.nat 0x3800 1 = 2 then s
  else ((s.putN 0x3800 1 2).bump 0x3800 0x0C).each allCourses (fun s k => (s.trip k 4).capoRelease k (s.cst k == 0))

/-- CAPO_SELF_TEST_COMPLETE: the self-test, which waits for REFCLK, passes or fails (R393). -/
def execCapoSelfTestComplete (pass : Bool) (s : State) : Host.Outcome State Fault Refusal :=
  .next (
    if s.capo.vaon ∧ s.nat 0x3800 1 = 0 ∧ s.clk.refclk = true then
      if pass then
        (s.putN 0x3800 1 1).each allCourses (fun s k => s.capoCPut k { s.capoCAt k with expected := none, misses := 0 })
      else s.capoFaultNow
    else s)

/-- CAPO_FAULT: the oscillator is measured against REFCLK; beyond 5 % it is a capo fault (R393). -/
def execCapoFault (deviation : Int) (s : State) : Host.Outcome State Fault Refusal :=
  .next (
    if s.capo.vaon ∧ s.clk.refclk = true then
      let s1 := s.putI 0x3800 0x0D (sat32 deviation)
      if 50000 < deviation.natAbs then s1.capoFaultNow else s1
    else s)

/-! ### Interlock -/

/-- INTERLOCK_TRIP: INTERLOCK_N is low for two samples: T4 on every course that is not STOPPED, and D3 from LIT (R388,
Table 1.3). -/
def execInterlockTrip (s : State) : Host.Outcome State Fault Refusal :=
  let s1 : State := { s with capo := { s.capo with interlock := false } }
  let s2 := (s1.putN 0x3800 5 0).bump 0x3800 0x0B
  .next (
    if s.capo.vaon then
      (s2.each allCourses (fun s k => if s.cst k = 0 then s else s.trip k 3)).leaveLit
    else s2)

/-- INTERLOCK_RISE: INTERLOCK_N goes high, and its hold starts (R390, J3); bit 10 clears with REFCLK locked. -/
def execInterlockRise (s : State) : Host.Outcome State Fault Refusal :=
  .next (
    if s.capo.interlock then s
    else (({ s with capo := { s.capo with interlock := true, highSince := s.clk.up } } : State).putN 0x3800 5 1).clearBit10)

/-! ### The scan watch (R382 to R384) -/

/-- The effective watch interval of course k in 20 ns samples. -/
def State.watchSamples (s : State) (k : Nat) : Nat := s.nat (0x3810 + k) 4 / 20

/-- A miss of course k at sample t: the same expectation again, the run at 0, and from two on a scan fault, which trips
the course while its arm signal is high (R383, R384). -/
def State.scanMiss (s : State) (k t : Nat) : State :=
  let c := s.capoCAt k
  let n := c.misses + 1
  let s1 := (s.capoCPut k { c with
    misses := n, expected := c.expected.map (fun e => (e.1, t)),
    exc := c.exc.map (fun x => (x.1, x.2.1, false)) }).putN (0x3810 + k) 8 0
  if 2 ≤ n ∧ c.armed = true then s1.trip k 0 else s1

/-- An excursion of course k begins at sample t (R383). -/
def State.excursionBegins (s : State) (k t : Nat) (positive : Bool) : State :=
  let c := s.capoCAt k
  let s0 := match c.lastEnd with
    | some e => s.putN (0x3810 + k) 9 (min ((t - e) * 20) 0xFFFFFFFF)
    | none => s
  match c.expected with
  | none => s0.capoCPut k { c with exc := some (positive, t, true) }
  | some (sg, t0) =>
    if sg = positive then s0.capoCPut k { c with exc := some (positive, t, decide (t - t0 ≤ s.watchSamples k)) }
    else
      let s1 := s0.scanMiss k t
      s1.capoCPut k { s1.capoCAt k with exc := some (positive, t, false) }

/-- The excursion of course k ends at sample t: a valid one counts and sets the other sign's expectation (R383). -/
def State.excursionEnds (s : State) (k t : Nat) : State :=
  let c := s.capoCAt k
  match c.exc with
  | none => s.capoCPut k { c with lastEnd := some t }
  | some (sg, t0, ok) =>
    if ok ∧ t - t0 ≤ s.watchSamples k then
      (s.capoCPut k { c with exc := none, lastEnd := some t, misses := 0, expected := some (!sg, t) }).putN (0x3810 + k) 8
        (min (s.nat (0x3810 + k) 8 + 1) 255)
    else s.capoCPut k { c with exc := none, lastEnd := some t }

/-- SCAN_EXCURSION: an excursion begins or ends at capo sample t, in 20 ns (R382, R383). -/
def execScanExcursion (k : CourseId) (positive begins : Bool) (t : Nat) (s : State) : Host.Outcome State Fault Refusal :=
  .next (
    if s.nat 0x3800 1 = 1 ∧ s.capo.vaon then
      if begins then s.excursionBegins k.val t positive else s.excursionEnds k.val t
    else s)

/-- W has passed at sample t since the expectation of course k was set, or since the excursion that meets it began (R383). -/
def State.watchOver (s : State) (k t : Nat) : Bool :=
  let c := s.capoCAt k
  match c.exc, c.expected with
  | some (_, t0, true), some _ => decide (t0 + s.watchSamples k ≤ t)
  | _, some (_, t0) => decide (t0 + s.watchSamples k ≤ t)
  | _, none => false

/-- SCAN_WATCH_MISS: W has passed at sample t without the expected excursion beginning, or the expected excursion has
lasted W (R383). -/
def execScanWatchMiss (k : CourseId) (t : Nat) (s : State) : Host.Outcome State Fault Refusal :=
  .next (if s.nat 0x3800 1 = 1 ∧ s.capo.vaon ∧ s.watchOver k.val t = true then s.scanMiss k.val t else s)

/-- OVERTRAVEL_TRIP: a sense input of course k stays beyond the overtravel level (R385). -/
def execOvertravelTrip (k : CourseId) (s : State) : Host.Outcome State Fault Refusal :=
  .next (if s.capo.vaon then (s.trip k.val 2).capoRelease k.val (s.cst k.val == 0) else s)

/-! ### Re-arm (R390) -/

/-- Trip t of course k clears at a re-arm (Table 11.4). Whether a sense input was beyond ±V_o on the two samples before
the write is an input that the write does not carry: free (log 28). -/
def State.rearmable (s : State) (k t : Nat) : Bool :=
  match t with
  | 0 | 1 => s.cst k != 4 && decide (16 ≤ s.nat (0x3810 + k) 8)
  | 2 => s.cst k == 0 && Config.freeBool (s.free + k)
  | 3 => s.capo.interlock && decide (s.capo.highSince + s.nat 0x3800 6 * tMs ≤ s.clk.up)
  | _ => false

/-- The trips of course k that a re-arm keeps. -/
def State.keptTrips (s : State) (k : Nat) : Nat :=
  maskOf ((bitsSet 5 (s.capoCAt k).trips).filter (fun t => !s.rearmable k t))

/-- Course k keeps the trips of a mask; with the last trip of a hush cause bit gone, the bit clears (R391). -/
def State.keepTrips (s : State) (k kept : Nat) : State :=
  let s1 := s.capoCPut k { s.capoCAt k with trips := kept }
  let s2 := if kept % 8 = 0 then s1.clearCause k 0 else s1
  if kept / 8 = 0 then s2.clearCause k 1 else s2

/-- A write of 3800:07 (R390): any trip kept gives status 0x07. -/
def State.rearm (s : State) (mask : Nat) : State × Nat :=
  let ks := bitsSet 32 mask
  let keep := ks.any (fun k => s.keptTrips k != 0)
  let s1 := s.each ks (fun x k => if (s.capoCAt k).trips = 0 then x else x.keepTrips k (s.keptTrips k))
  let s2 : State := { s1 with free := s.free + 32 }
  if keep then (s2.bump 0x3800 0x0E, stRejected) else (s2, stOk)

def execRearm (_m : MasterId) (mask : BitVec 32) (s : State) : Host.Outcome State Fault Refusal :=
  .next (s.hostWrite (writeItem 0x04 0x3800 7 4) (fun s => s.rearm mask.toNat))

/-! ### Hushes of the capo (R319, R321, R322, R323) -/

/-- HUSH cause field of a trigger (Table 9.5). -/
def hushCode (t : HushTrigger) : Nat :=
  match t with
  | .refclk => 3
  | .dieShutdown => 6
  | .trip t => if t.val < 3 then 1 else 2

/-- The triggers of a hush: the trips T1 to T5 of its courses, by bit, and those that hush every course. -/
def hushTriggers (trips : BitVec 5) (whole : List HushTrigger) : List HushTrigger :=
  ([0, 1, 2, 3, 4] : List (Fin 5)).filterMap (fun t : Fin 5 => if trips.getLsbD t.val then some (.trip t) else none) ++ whole

/-- The trigger is in force. -/
def State.triggerHolds (s : State) (courses : Nat) (t : HushTrigger) : Bool :=
  match t with
  | .refclk => !s.clk.refclk
  | .dieShutdown => s.capo.shutLatch
  | .trip t => (bitsSet 32 courses).any (fun k => bit (s.capoCAt k).trips t.val)

/-- The cause of a burst: the first of 3, 6, 2 and 1 among its triggers (R319). -/
def burstCause (l : List Nat) : Nat := ([3, 6, 2, 1].find? (fun c => l.contains c)).getD 0

/-- The courses that a hush affects: every one for a loss of REFCLK and for die shut-down. -/
def hushCourses (l : List HushTrigger) (courses : Nat) : List Nat :=
  if l.any (fun t => hushCode t == 3 || hushCode t == 6) then allCourses else bitsSet 32 courses

/-- The lanes that a hush affects. -/
def State.hushLanes (s : State) (l : List HushTrigger) (courses : Nat) : List Nat :=
  if l.any (fun t => hushCode t == 3 || hushCode t == 6) then allLanes
  else (bitsSet 32 courses).flatMap s.lanesOf

/-- A bow whose nut has been passed, at a hush from block b on: some lane's span has blocks before b and blocks from it on; none
has blocks before it (R321, Y1). -/
def PlacedBow.cutAt (c : PlacedBow) (b : Nat) : Bool :=
  c.plans.any (fun q => decide (q.first < b)) && c.plans.any (fun q => decide (b ≤ q.last))
def PlacedBow.beginsFrom (c : PlacedBow) (b : Nat) : Bool := c.plans.all (fun q => decide (b ≤ q.first))

/-- The bow in progress of course k is recorded at a hush from block b_h on: cut at slot 4b_h within its span, or dark from its
nut where its span would begin at or after it; one whose last blocks have left on every lane is completed (R28, R321, R492). -/
def State.cutLedger (s : State) (bh cause0 k : Nat) : State :=
  let p := s.plcAt k
  match p.cur with
  | none => s
  | some c =>
    if c.active.isNone ∨ p.lit = false ∨ p.cut.isSome then s
    else
      let cause := if s.causes k = 0 then cause0 else lowestCause (s.causes k)
      let n := (c.c - c.hp / 2).floor.toNat
      if p.opened ∧ c.beginsFrom bh = false then
        if c.cutAt bh then
          (s.plcPut k { p with cut := some (4 * bh, cause) }).darkBow k
            { slot := 4 * bh, bow := c.bow, cause := cause, cut := true }
        else s
      else if p.nutPassed ∧ p.opened = false then s
      else (s.plcPut k { p with cut := some (n, cause) }).darkBow k { slot := n, bow := c.bow, cause := cause, cut := false }

/-- What is left of a lane's span from block position b on is not sent (R319). -/
def State.dropSpan (s : State) (b l : Nat) : State :=
  s.lanesPut l { s.lanesAt l with txq := (s.lanesAt l).txq.filter (fun y => y.rank != 0 || decide (y.pos < b)) }

/-- The slot at which EMIT_OK[k] falls after a hush from block b on (R322). -/
def State.dropSlot (s : State) (b k : Nat) : Nat := 4 * b + s.maxLatency k

/-- CAPO_HUSH: the capo decides a hush for its triggers that are in force; b_h is the first block that has not begun to leave at
that decision, the same for all lanes (R319). -/
def execCapoHush (trips : BitVec 5) (whole : List HushTrigger) (courses : BitVec 32) (s : State) : Host.Outcome State Fault Refusal :=
  let l := (hushTriggers trips whole).filter (s.triggerHolds courses.toNat)
  let bh := s.blockNow
  .next (
    if l.isEmpty then s
    else
      let cause := burstCause (l.map hushCode)
      let cs := hushCourses l courses.toNat
      let s1 := s.each cs (fun s k => s.cutLedger bh 0x14 k)
      let s2 := s1.each (s1.hushLanes l courses.toNat) (fun s x => (s.dropSpan bh x).hushLane bh cause x)
      let old := s2.capo.dropDue
      let new := (cs.filter (fun k => !old.any (fun d => d.1 == k))).map (fun k => (k, s2.dropSlot bh k))
      { s2 with capo := { s2.capo with dropDue := old ++ new } })

/-- EMIT_OK_DROP: slot time 4b_h plus the largest latency of course k (R322). -/
def execEmitOkDrop (k : CourseId) (s : State) : Host.Outcome State Fault Refusal :=
  .next (
    if s.capo.dropDue.any (fun d => d.1 == k.val && (decide (d.2 ≤ s.clk.slot) || !s.clk.slotRun)) then
      ({ s with capo := { s.capo with dropDue := s.capo.dropDue.filter (fun d => d.1 != k.val) } } : State).setEmitOk k.val false
    else s)

/-- Bit 5 of course k: set while a lane of the course, not STOPPED, is in RETRAIN, else clear (R327). -/
def State.retrainRefresh (s : State) (k : Nat) : State :=
  if s.cst k ≠ 0 ∧ (s.lanesOf k).any (fun l => (s.lanesAt l).state == 4) then s.setCause k 5 else s.clearCause k 5

/-- LANES_OFF: after the copies of a REFCLK loss the lanes cease transitions and enter OFF, but for FAILED ones, and the
slot domain stops (R125, R323); after those of a die shut-down the lanes cease transitions likewise (Table 11.6 U5). -/
def execLanesOff (s : State) : Host.Outcome State Fault Refusal :=
  .next (
    if s.clk.refclk = true ∧ s.capo.shutLatch = false then s
    else
      let s1 := (s.each allLanes (fun s l =>
        if (s.lanesAt l).state = 5 ∨ (s.lanesAt l).state = 0 then s
        else s.lanesPut l ((s.lanesAt l).quiet 0))).each allCourses State.retrainRefresh
      { s1 with clk := { s1.clk with slotRun := s1.clk.slotRun && s1.clk.refclk } })

end Sys2Proof.Machine
end

