-- ==== Sys2Proof/Machine/Lanes.lean ====
section
/-! DEFINITION. String lanes and return lanes: start-up, retrain, reports of the far end, and the periodic control blocks
(R311 to R316, R324 to R332, R337). Offers to the spare policies (R503). -/

namespace Sys2Proof.Machine

open Sys2Proof

/-! ### Offers (R503, R504) -/

/-- A unit is offered to its policy; a worn unit that fails is offered as failed. -/
def State.offer (s : State) (kind : SpareKind) (unit : Nat) (worn : Bool) : State :=
  let same : Offer → Bool := fun o => o.kind == kind && o.unit == unit
  if s.svc.offers.any (fun o => same o && (worn || !o.worn)) then s
  else { s with svc := { s.svc with offers := s.svc.offers.filter (fun o => !same o) ++ [({ kind := kind, unit := unit, worn := worn } : Offer)] } }

/-! ### Lane states (Table 9.9) -/

/-- The course of a lane has its bit 5 brought up to date. -/
def State.laneRefresh (s : State) (l : Nat) : State :=
  match s.courseOfLane l with
  | some k => s.retrainRefresh k
  | none => s

/-- A lane fails: no transitions; offered (W1). -/
def State.laneFailed (s : State) (l : Nat) : State :=
  ((s.accrue.lanesPut l ((s.accrue.lanesAt l).quiet 5)).laneRefresh l).offer .lane l false

/-- A lane that ceases transitions within the span of a bow of a LIT course has cut it: the bow is recorded from the first block
not sent (R492, log 152). -/
def State.spanLost (s : State) (l : Nat) : State :=
  match s.courseOfLane l with
  | some k => if (s.lanesAt l).txq.any (fun y => y.rank == 0) then s.cutLedger s.blockNow 5 k else s
  | none => s

/-- A lane enters RETRAIN for a class of Table 14.10; a fourth retrain within 60 s fails it (Table 9.9, R326). -/
def State.enterRetrain (s0 : State) (l cls : Nat) : State :=
  let s := s0.accrue
  let x := s.lanesAt l
  let times := if x.state = 5 then [] else x.retrainTimes.filter (fun t => decide (s.clk.up < t + 60 * tS))
  let s1 := (s.spanLost l).lanesPut l { x.quiet 4 with
    quietDone := false, retrainClass := cls, retrainTimes := s.clk.up :: times
    retrains := min (x.retrains + 1) 0xFFFFFFFF }
  if 3 ≤ times.length then s1.laneFailed l else s1.laneRefresh l

/-- The latency of a lane that is UP takes effect: at once where its course is STOPPED, else at the next frame start of its
course, which is the one whose return lane reports it (R316, R331, Table 9.10). -/
def State.takeLatency (s : State) (l lfar : Nat) : State :=
  let running := match s.laneCourse l with
    | some k => s.cst k != 0
    | none => false
  let s1 := s.lanesPut l { s.lanesAt l with declared := lfar, newLatency := if running then some (24 + lfar) else none }
  if running then s1 else s1.putN (laneIx l) 8 (24 + lfar)

/-- A lane enters UP, locked with the output swing of 7F40:08 (R337). -/
def State.laneUp (s0 : State) (l lfar : Nat) : State :=
  let s := s0.accrue
  ((s.lanesPut l { s.lanesAt l with state := 2, quietDone := false, burst := none, swing := s.nat 0x7F40 8 }).takeLatency l lfar).laneRefresh l

/-! ### Return lanes (R309, R329 to R331) -/

/-- A return-lane payload is valid as a block of a type: its type code and its CRC-8 (R308, R309). -/
def retValid (type p : Nat) : Bool :=
  bits p 7 0 == type && crc8 (leBytes 7 (p % 2 ^ 56)) == bits p 63 56

/-- An invalid return block: counted; the run toward UP restarts (R309, R330). -/
def State.retInvalid (s : State) (k : Nat) : State :=
  if (s.retsAt k).enabled then (s.retsPut k { s.retsAt k with run := 0 }).bump (0x7F60 + k) 0x0A else s

/-- A valid return block with a sequence: a gap in the sequence is counted (R309); 64 consecutive ones bring the return lane UP
(R330). -/
def State.retBlock (s : State) (k seq : Nat) : State :=
  let x := s.retsAt k
  let st := s.nat (0x7F60 + k) 1
  let gap := match x.lastSeq with
    | some n => if (n + 1) % 256 = seq then 0 else 1
    | none => 0
  let s1 := s.retsPut k { x with run := x.run + 1, lastSeq := some seq, gaps := x.gaps + gap }
  if 64 ≤ x.run + 1 then s1.putN (0x7F60 + k) 1 2 else if st = 0 then s1.putN (0x7F60 + k) 1 1 else s1

/-- The payload of a block received on return lane k, and the state whose descrambler has taken it (R306). -/
def State.retPayload (s : State) (k wire : Nat) : Nat := (descramble 64 (wire / 4) (s.retsAt k).scr).1
def State.retTaken (s : State) (k wire : Nat) : State :=
  s.retsPut k { s.retsAt k with scr := (descramble 64 (wire / 4) (s.retsAt k).scr).2 }

/-- A block of a type on return lane k: `f` acts on its payload when it is valid, a control block with sync header 10. -/
def State.onRet (s : State) (k type wire : Nat) (f : State → Nat → State) : State :=
  let p := s.retPayload k wire
  if !(s.retsAt k).enabled then s
  else if wire % 4 = 1 ∧ retValid type p = true then f ((s.retTaken k wire).retBlock k (bits p 15 8)) p
  else (s.retTaken k wire).retInvalid k

/-- The block types of the return lane (Table 9.4). -/
def retTypes : List Nat := [0x00, 0x1E, 0x2D, 0x33, 0x4B, 0x55]

/-- RET_IDLE. -/
def execRetIdle (k : CourseId) (wire : BitVec 66) (s : State) : Host.Outcome State Fault Refusal :=
  .next (s.onRet k.val 0x00 wire.toNat (fun s _ => s))

/-- The fields of a RET-STATUS (Table 9.11). -/
def State.takeStatus (s : State) (k p : Nat) : State :=
  (s.retsPut k { s.retsAt k with
    locked := bits p 55 49, live := bits p 48 42, emitOk := bit p 41, fault := bit p 40 }).putI (0x7F60 + k) 7
      (sext 8 (bits p 39 32))

/-- RET_STATUS: locked and live lanes, EMIT_OK at the far end, fault, temperature. -/
def execRetStatus (k : CourseId) (wire : BitVec 66) (s : State) : Host.Outcome State Fault Refusal :=
  .next (s.onRet k.val 0x1E wire.toNat (fun s p => s.takeStatus k.val p))

/-- Return lane k reports a lane: which return lanes have, and for a spare its course (R331). A lane of another course, or
one reported on two return lanes, is a wiring error, counted on each return lane concerned when it is found. -/
def State.noteReporter (s : State) (k l : Nat) : State :=
  let x := s.lanesAt l
  if x.reporters.contains k then s
  else
    let s1 := s.lanesPut l { x with reporters := x.reporters ++ [k] }
    let s2 := if 256 ≤ l then s1.putN (laneIx l) 2 k else s1
    let wrong := match s.courseOfLane l with
      | some c => c != k
      | none => false
    if wrong || !x.reporters.isEmpty then
      let s3 := s2.bump (0x7F60 + k) 0x0C
      if x.reporters.length = 1 then s3.each x.reporters (fun s j => s.bump (0x7F60 + j) 0x0C) else s3
    else s2

/-- The lane is wired to return lane k alone, and its course agrees. -/
def State.wiredTo (s : State) (k l : Nat) : Bool :=
  (s.lanesAt l).reporters == [k] &&
    (match s.courseOfLane l with
     | some c => c == k
     | none => true)

/-- A RET-LANE report of lane l: far-end state, latency, epoch. It may bring the lane UP, or start a retrain (Table 9.9,
R316, R326). -/
def State.takeLane (s0 : State) (k p : Nat) : State :=
  let l := bits p 55 47
  let far := bits p 46 45
  let lat := bits p 44 36
  if 271 < l then s0
  else
    let s1 := s0.noteReporter k l
    let s2 := s1.lanesPut l { s1.lanesAt l with far := far, farEpoch := bits p 35 28 }
    let x := s2.lanesAt l
    if (x.state = 1 ∨ (x.state = 4 ∧ x.quietDone = true)) ∧ far = 1 ∧ 64 ≤ lat ∧ lat ≤ 256 ∧ s2.wiredTo k l = true ∧
        s2.nat (0x7F60 + k) 1 = 2 then s2.laneUp l lat
    else if (x.state = 2 ∨ x.state = 3) ∧ (far = 0 ∨ lat ≠ x.declared) then s2.enterRetrain l 2
    else s2

/-- RET_LANE: a report of one lane. -/
def execRetLane (k : CourseId) (wire : BitVec 66) (s : State) : Host.Outcome State Fault Refusal :=
  .next (s.onRet k.val 0x2D wire.toNat (fun s p => s.takeLane k.val p))

/-- The counters of a RET-ERRORS that entries show (Table 9.14): 0 invalid blocks, 2 span CRC mismatches, 7 levels
clamped. -/
def State.takeErrors (s : State) (p : Nat) : State :=
  let l := bits p 55 47
  let x := s.lanesAt l
  let n := bits p 39 16
  if 271 < l then s
  else
    match bits p 46 44 with
    | 0 => s.lanesPut l { x with invalidFar := n }
    | 2 => s.lanesPut l { x with crcMismatches := n }
    | 7 => s.lanesPut l { x with clamped := n }
    | _ => s

/-- RET_ERRORS: one error counter of the far end. -/
def execRetErrors (k : CourseId) (wire : BitVec 66) (s : State) : Host.Outcome State Fault Refusal :=
  .next (s.onRet k.val 0x33 wire.toNat (fun s p => s.takeErrors p))

/-- A page of the far end's identity (Table 9.11). -/
def State.takeIdent (s : State) (k p : Nat) : State :=
  let v := bits p 47 16
  let ix := 0x7F60 + k
  match bits p 55 48 with
  | 0 => (s.putN ix 2 (bits v 31 16)).putN ix 3 (bits v 15 0)
  | 1 => s.setBits ix 4 31 0 v
  | 2 => s.setBits ix 4 63 32 v
  | 3 => (s.putN ix 5 (bits v 31 24)).putN ix 6 (bits v 23 16)
  | _ => s

/-- RET_IDENT: one page of the far end's identity. -/
def execRetIdent (k : CourseId) (wire : BitVec 66) (s : State) : Host.Outcome State Fault Refusal :=
  .next (s.onRet k.val 0x4B wire.toNat (fun s p => s.takeIdent k.val p))

/-- Event kinds whose severity, code and detail the spec does not give (Config). -/
def evRetFault : Nat := 1

/-- A far-end fault: logged, shown, counted, and its emitter offered (R332). -/
def State.takeFault (s : State) (k p : Nat) : State :=
  let l := bits p 55 47
  let s1 := ((s.logEvent 7 evRetFault l).putN (0x7F60 + k) 8
    (l * 2 ^ 39 + bits p 46 40 * 2 ^ 32 + bits p 39 16 * 2 ^ 8)).bump (0x7F60 + k) 9
  if l ≤ 271 then s1.offer .lane l false else s1

/-- RET_FAULT: a fault of the far end. -/
def execRetFault (k : CourseId) (wire : BitVec 66) (s : State) : Host.Outcome State Fault Refusal :=
  .next (s.onRet k.val 0x55 wire.toNat (fun s p => s.takeFault k.val p))

/-- RETURN_BLOCK_INVALID: a block with an invalid sync header, an unknown type or a bad CRC-8. -/
def execReturnBlockInvalid (b : ReturnBlock) (s : State) : Host.Outcome State Fault Refusal :=
  let k := b.course
  let wire := b.wire
  .next (
    if (s.retsAt k.val).enabled = false ∨
        (wire.toNat % 4 = 1 ∧ retTypes.any (fun t => retValid t (s.retPayload k.val wire.toNat)) = true) then s
    else (s.retTaken k.val wire.toNat).retInvalid k.val)

/-- RETURN_LANE_DOWN: no valid block for 1 ms (R330). -/
def execReturnLaneDown (k : CourseId) (s : State) : Host.Outcome State Fault Refusal :=
  .next (
    if s.nat (0x7F60 + k.val) 1 = 0 then s
    else ((s.retsPut k.val { s.retsAt k.val with run := 0 }).putN (0x7F60 + k.val) 1 0).bump (0x7F60 + k.val) 0x0B)

/-! ### Retrains -/

/-- A write of 7F40:0A (R326): a lane in UP, HUSHED, RETRAIN or FAILED retrains. -/
def State.retrainCommand (s : State) (l : Nat) : State × Nat :=
  if 271 < l then (s, stRange)
  else if 2 ≤ (s.lanesAt l).state then (s.enterRetrain l 3, stOk)
  else (s, stOk)

/-- LANE_RETRAIN_COMMAND: a host write of a lane's number to 7F40:0A. -/
def execLaneRetrainCommand (_m : MasterId) (lane : Nat) (s : State) : Host.Outcome State Fault Refusal :=
  .next (s.hostWrite (writeItem 0x03 0x7F40 0x0A 2) (fun s => s.retrainCommand (lane % 65536)))

/-- QUAD_PLL_LOSS: the four lanes of a quad retrain (R326, Y7). -/
def execQuadPllLoss (q : Fin 68) (s : State) : Host.Outcome State Fault Refusal :=
  .next ((s.bump 0x7F40 0x0C).each ((List.range 4).map (fun j => 4 * q.val + j)) (fun s l =>
    if 2 ≤ (s.lanesAt l).state ∧ (s.lanesAt l).state ≤ 4 then (s.enterRetrain l 1).recover 11 1 (2 * tMs) l else s))

/-- LANE_RETRAIN_QUIET_END: a retraining lane sends again, as in TRAINING (Table 9.9). -/
def execLaneRetrainQuietEnd (l : LaneId) (s : State) : Host.Outcome State Fault Refusal :=
  .next (if (s.lanesAt l.val).state = 4 then s.lanesPut l.val { s.lanesAt l.val with quietDone := true } else s)

/-- LANE_RETRAIN_TIMEOUT: a lane in RETRAIN is not UP within 2 ms, and fails (Table 9.9). -/
def execLaneRetrainTimeout (l : LaneId) (s : State) : Host.Outcome State Fault Refusal :=
  .next (if (s.lanesAt l.val).state = 4 then s.laneFailed l.val else s)

/-- HUSH_UNCONFIRMED: 100 µs after a burst the epoch reported for the lane is not its own (7F40:0D). -/
def execHushUnconfirmed (l : LaneId) (s : State) : Host.Outcome State Fault Refusal :=
  .next (if (s.lanesAt l.val).farEpoch ≠ (s.lanesAt l.val).epoch then s.bump 0x7F40 0x0D else s)

/-! ### Periodic control blocks (R312) -/

/-- DRONE_TIMER: 1,600 blocks have passed outside a span; the first free position takes a DRONE. -/
def execDroneTimer (l : LaneId) (s : State) : Host.Outcome State Fault Refusal :=
  .next (if s.sends l.val ∧ s.clk.slotRun = true then s.sendDrone l.val s.blockNow else s)

/-- ALIGN: due in a block whose number is a multiple of 4,096, or of 64 while the lane trains; displaced, it carries the number of
its own block (R312, R320, Table 9.9). -/
def execAlign (l : LaneId) (block : Nat) (s : State) : Host.Outcome State Fault Refusal :=
  let training := (s.lanesAt l.val).state == 1 || (s.lanesAt l.val).state == 4
  .next (
    if s.sends l.val ∧ s.clk.slotRun = true ∧ block % (if training then 64 else 4096) = 0 then
      s.queueBlock l.val { pos := block, rank := 3, kind := .align }
    else s)

end Sys2Proof.Machine
end

