-- ==== Sys2Proof/Machine/FretMap.lean ====
section
/-! DEFINITION. Fret maps (R135 to R139), tuning points (R405 to R408), and sensors' last valid readings. -/

namespace Sys2Proof.Machine

open Sys2Proof

/-! ### Fret maps -/

/-- A fret map (Table 4.2): the fret angles in emission order, then the bridge angle. -/
structure FretMap where
  reverse : Bool
  nutBand : Nat
  bridgeBand : Nat
  bridge : Int
  frets : List Int
  deriving DecidableEq, Repr

/-- The map of a BLOB that V1 accepts. -/
def fretMapOf (b : List Byte) : Option FretMap :=
  let n := leAt b 4 2
  if slice 0 3 b = [0x46, 0x4D, 0x01] ∧ leAt b 3 1 ≤ 1 ∧ 2 ≤ n ∧ n ≤ 4096 ∧ b.length = 16 + 4 * n ∧ leAt b 10 2 = 0 then
    some { reverse := leAt b 3 1 == 1, nutBand := leAt b 6 2, bridgeBand := leAt b 8 2, bridge := sext 32 (leAt b 12 4),
           frets := (List.range n).map (fun i => sext 32 (leAt b (16 + 4 * i) 4)) }
  else none

def mapIx (k m : Nat) : Nat := 0x2300 + 8 * k + m

/-- The map number of a direction (R135). -/
def State.mapNo (s : State) (k : Nat) (forward : Bool) : Nat := if forward then s.nat (crs k) 0x0F else s.nat (crs k) 0x10

/-- The map in use for a direction. -/
def State.mapOf (s : State) (k : Nat) (forward : Bool) : Option FretMap :=
  fretMapOf (s.blob (mapIx k (s.mapNo k forward)) 1)

/-- Angle of fret i, or of the bridge for i = N (R136). -/
def FretMap.angle (m : FretMap) (i : Nat) : Int := m.frets.getD i m.bridge

/-- Fret i lies in the harmonic band (R137). -/
def FretMap.inBand (m : FretMap) (i : Nat) : Bool := decide (i < m.nutBand) || decide (m.frets.length < i + m.bridgeBand + 1)

/-- Directions in use: forward, reverse (R150). -/
def State.dirUsed (s : State) (k : Nat) (forward : Bool) : Bool :=
  if forward then s.nat (crs k) 0x0A != 2 else s.nat (crs k) 0x0A != 1

/-! ### Tuning points (R405 to R408) -/

/-- Index of tuning domain d. -/
def domIx (d : Nat) : Nat := 0x4010 + d

/-- Quantities whose values are F32 (Table 12.4). -/
def quantityF32 (q : Nat) : Bool := q == 0x05 || q == 0x14

/-- The value of a record's 4 bytes. -/
def recordValue (q raw : Nat) : Rat := if quantityF32 q then ratOfF32 raw else (sext 32 raw : Rat)

/-- Key temperature and records (quantity, element, raw value) of a point. -/
def pointOf (b : List Byte) : Rat × List (Nat × Nat × Nat) :=
  (ratOfF32 (leAt b 8 4),
    (List.range (leAt b 4 2)).map (fun j => (leAt b (32 + 8 * j) 1, leAt b (34 + 8 * j) 2, leAt b (36 + 8 * j) 4)))

/-- The points that domain d holds. -/
def State.points (s : State) (d : Nat) : List (Rat × List (Nat × Nat × Nat)) :=
  ((List.range 8).map (fun i => s.blob (domIx d) (0x0A + i))).filterMap (fun b => if b.isEmpty then none else some (pointOf b))

/-- The points that hold a quantity of an element: (temperature, value). -/
def State.pointsOf (s : State) (d q e : Nat) : List (Rat × Rat) :=
  (s.points d).filterMap (fun p =>
    (p.2.find? (fun r => r.1 == q && r.2.1 == e)).map (fun r => (p.1, recordValue q r.2.2)))

/-- The nearest point at or below, and at or above, a temperature. -/
def pointBelow (l : List (Rat × Rat)) (t : Rat) : Option (Rat × Rat) :=
  l.foldl (fun r p => if p.1 ≤ t then (match r with
    | some q => if q.1 < p.1 then some p else r
    | none => some p) else r) none
def pointAbove (l : List (Rat × Rat)) (t : Rat) : Option (Rat × Rat) :=
  l.foldl (fun r p => if t ≤ p.1 then (match r with
    | some q => if p.1 < q.1 then some p else r
    | none => some p) else r) none

/-- A quantity at a temperature (R408): linear between the points on either side, clamped outside their span; sample phase
takes the nearest point (Table 12.4). -/
def interpolate (q : Nat) (l : List (Rat × Rat)) (t : Rat) : Option Rat :=
  match pointBelow l t, pointAbove l t with
  | none, none => none
  | some a, none => some a.2
  | none, some b => some b.2
  | some a, some b =>
    if a.1 = b.1 then some a.2
    else if q = 0x22 then some (if t - a.1 ≤ b.1 - t then a.2 else b.2)
    else some (a.2 + (b.2 - a.2) * (t - a.1) / (b.1 - a.1))

/-! ### Sensors -/

/-- Last valid reading of an external input; of a die sensor, °C. -/
def State.extReading (s : State) (e : Nat) : Option Rat := (tfind s.therm.ext e).join
def State.dieReading (s : State) (i : Nat) : Option Rat := (tfind s.therm.die i).join

/-- The highest of readings that may be absent. -/
def highest (l : List (Option Rat)) : Option Rat :=
  l.foldl (fun a b => match a, b with
    | some x, some y => some (maxR x y)
    | some x, none => some x
    | none, y => y) none

/-- The readings of a zone's sensors: the highest of those that have not failed, or the highest that was held where all have
(R411, R418, R426). -/
def zoneOf (sensors failed : List Nat) (f : Nat → Option Rat) : Option Rat :=
  let good := sensors.filter (fun i => !failed.contains i)
  highest ((if good.isEmpty then sensors else good).map f)

/-- The sensors configured for the laser-module zone of course k: external inputs that are not off (R426, R429). -/
def State.laserSensors (s : State) (k : Nat) : List Nat :=
  ([s.nat (0x4140 + k) 1, s.nat (0x4140 + k) 2].filter (fun e => decide (e < 32) && s.nat (0x4120 + e) 1 != 0)).eraseDups

/-- Last valid reading of the laser-module zone of course k (R426). -/
def State.laserReading (s : State) (k : Nat) : Option Rat := zoneOf (s.laserSensors k) s.therm.extFailed s.extReading

/-- Last valid reading of a die zone (R418). -/
def State.zoneReading (s : State) (z : Nat) : Option Rat := zoneOf [2 * z, 2 * z + 1] s.therm.dieFailed s.dieReading

/-- Every sensor of a list has failed. -/
def allFailed (sensors failed : List Nat) : Bool := !sensors.isEmpty && sensors.all failed.contains

/-! ### Bands (R137, R279) -/

/-- The frets of a band, nut or bridge (R137). -/
def FretMap.bandFrets (m : FretMap) (bridge : Bool) : List Nat :=
  if bridge then (List.range m.bridgeBand).map (fun i => m.frets.length - m.bridgeBand + i) else List.range m.nutBand

/-- The probe frets of a band: its frets less the guard at each end (R279). -/
def FretMap.probeFrets (m : FretMap) (guard : Nat) (bridge : Bool) : List Nat :=
  let l := m.bandFrets bridge
  (l.drop guard).take (l.length - 2 * guard)

/-- A fiducial's angle lies in a band. -/
def FretMap.bandHolds (m : FretMap) (bridge : Bool) (angle : Int) : Bool :=
  (m.bandFrets bridge).any (fun i =>
    let a := m.angle i
    let b := m.angle (i + 1)
    if m.reverse then decide (b < angle) && decide (angle ≤ a) else decide (a ≤ angle) && decide (angle < b))

end Sys2Proof.Machine
end

