-- ==== Sys2Proof/Machine/Warp.lean ====
section
/-! DEFINITION. Warp meshes, angles of samples, tiles, and mesh copies (R199 to R216). -/

namespace Sys2Proof.Machine

open Sys2Proof

/-! ### Meshes (R202 to R206) -/

/-- The grid of a mesh (Table 6.1), or of a blend or uniformity map. -/
structure Grid where
  nu : Nat
  nv : Nat
  u0 : Int
  du : Nat
  v0 : Int
  dv : Nat
  deriving DecidableEq, Repr

def meshGrid (b : List Byte) : Grid :=
  { nu := leAt b 6 2, nv := leAt b 8 2, u0 := sext 32 (leAt b 12 4), du := leAt b 16 4, v0 := sext 32 (leAt b 20 4),
    dv := leAt b 24 4 }

/-- Planes of a mesh (R203). -/
def meshPlanes (b : List Byte) : Nat := if bit (leAt b 3 1) 0 then 2 else 1

/-- Check W1 (Table 6.2). -/
def meshW1 (b : List Byte) : Bool :=
  slice 0 3 b == [0x57, 0x4D, 0x01] && bits (leAt b 3 1) 7 1 == 0 && leAt b 10 2 == 0 && leAt b 28 4 == 0 &&
    b.length == 32 + 8 * leAt b 6 2 * leAt b 8 2 * meshPlanes b

/-- Check W2 (Table 6.2). -/
def gridW2 (g : Grid) : Bool :=
  decide (2 ≤ g.nu) && decide (g.nu ≤ 257) && decide (2 ≤ g.nv) && decide (g.nv ≤ 257) && decide (1 ≤ g.du) &&
    decide (1 ≤ g.dv) && decide (g.u0 + ((g.nu - 1) * g.du : Nat) ≤ 2147483647) &&
    decide (g.v0 + ((g.nv - 1) * g.dv : Nat) ≤ 2147483647)

/-- The cell and fraction of an angle on one axis (R204): the last node uses the last cell with fraction 1. -/
def cellOf (x : Rat) (x0 : Int) (d n : Nat) : Option (Nat × Rat) :=
  let t := (x - x0) / (d : Rat)
  let j := t.floor
  if t = ((n - 1 : Nat) : Rat) then some (n - 2, 1)
  else if 0 ≤ j ∧ j ≤ ((n - 2 : Nat) : Int) then some (j.toNat, t - j) else none

/-- Displacement of a node by refinement, in 1/4096 pixel (R209). -/
def dispOf (l : List (Nat × Int × Int)) (node : Nat) : Int × Int :=
  match l.find? (fun d => d.1 == node) with
  | some d => (d.2.1, d.2.2)
  | none => (0, 0)

/-- A node of a copy, in 1/4096 pixel; `none` for a node marked outside (Table 6.1). -/
def meshNode (c : MeshCopy) (g : Grid) (plane j q : Nat) : Option (Int × Int) :=
  let off := 32 + 8 * (plane * (g.nu * g.nv) + q * g.nu + j)
  let x := leAt c.blob off 4
  if x = 0x80000000 then none
  else
    let d := dispOf c.disp (q * g.nu + j)
    some (sext 32 x + d.1, sext 32 (leAt c.blob (off + 4) 4) + d.2)

/-- Bilinear interpolation of four values. -/
def bilinear (a c v00 v10 v01 v11 : Rat) : Rat :=
  (1 - c) * ((1 - a) * v00 + a * v10) + c * ((1 - a) * v01 + a * v11)

/-- A query of a mesh copy (R204): the canvas position in pixels, `none` outside. -/
def meshAt (c : MeshCopy) (forward : Bool) (u v : Rat) : Option (Rat × Rat) :=
  let g := meshGrid c.blob
  let plane := if meshPlanes c.blob = 2 ∧ forward = false then 1 else 0
  match cellOf u g.u0 g.du g.nu, cellOf v g.v0 g.dv g.nv with
  | some (j, a), some (q, b) =>
    match meshNode c g plane j q, meshNode c g plane (j + 1) q, meshNode c g plane j (q + 1), meshNode c g plane (j + 1) (q + 1) with
    | some n00, some n10, some n01, some n11 =>
      some (bilinear a b n00.1 n10.1 n01.1 n11.1 / 4096, bilinear a b n00.2 n10.2 n01.2 n11.2 / 4096)
    | _, _, _, _ => none
  | _, _ => none

/-! ### Angles (R199, R200) -/

/-- Slow-axis beam offset σ of a lane (R199). -/
def State.sigma (s : State) (l : Nat) : Int := s.int (laneIx l) 6

/-- Slow angle of beam row r on lane l in active bow b (R199). -/
def State.slowAngle (s : State) (k b r l : Nat) : Int :=
  s.int (0x2680 + k) 4 + ((b * s.nat (crs k) 7 + r : Nat) : Int) * s.int (0x2680 + k) 5 + s.sigma l

/-- Fast angle of fret i (R200). -/
def FretMap.fast (m : FretMap) (i : Nat) : Rat := ((m.angle i + m.angle (i + 1) : Int) : Rat) / 2

/-! ### Shaft offsets (R210 to R212) -/

/-- Reduction of Δ modulo counts per revolution into [−cpr/2, cpr/2). -/
def reduceTurn (cpr : Nat) (d : Rat) : Rat :=
  if cpr = 0 then d else d - (cpr : Rat) * ((d / cpr + 1 / 2).floor : Rat)

/-- Position of the shaft of course k extrapolated to slot time t (R210). -/
def State.shaftAtSlot (s : State) (k : Nat) (t : Rat) : Rat :=
  let j := s.nat (0x2680 + k) 7
  (s.shaftPos j : Rat) + (s.shaftRate j : Rat) * (t - (s.clk.slot : Rat)) / 400000000

/-- Δ of a bow whose centre is at slot time t (Table 6.4): counts from the base of its mode. `n` is the shaft frame number
of the bow's frame, `p` the position at its start. -/
def State.shaftDelta (s : State) (k : Nat) (t : Rat) (p n : Int) : Rat :=
  let cpr := s.nat (0x1218 + s.nat (0x2680 + k) 7) 2
  match s.nat (0x2680 + k) 6 with
  | 1 => reduceTurn cpr ((p - s.int (0x2680 + k) 0x0A : Int) : Rat)
  | 2 => reduceTurn cpr (s.shaftAtSlot k t - s.int (0x2680 + k) 0x0A)
  | 3 => s.shaftAtSlot k t - (((s.nat (refIx k) 7 : Nat) : Int) + n * ((s.nat (refIx k) 6 : Nat) : Int) : Int)
  | _ => 0

/-- The shaft of course k is uncertain, by reference state 5 or 6 (R212). -/
def State.shaftUncertain (s : State) (k : Nat) : Bool :=
  s.nat (0x1218 + s.nat (0x2680 + k) 7) 0x10 == 5 || s.nat (0x1218 + s.nat (0x2680 + k) 7) 0x10 == 6

/-! ### Taps and tiles (R213 to R216, R219) -/

/-- First tap column and phase in 1/64 of a position (R213). -/
def tapOf (x : Rat) : Int × Nat :=
  let x0 := (x - 1 / 2).floor
  let f := roundHalfUp (64 * (x - 1 / 2 - x0))
  if f = 64 then (x0 + 1, 0) else (x0, f.toNat)

/-- Offsets of the taps of a filter (R214): bilinear or bicubic. -/
def tapRange (filter : Nat) : List Int := if filter = 0 then [0, 1] else [-1, 0, 1, 2]

/-- A weight in units of 1/16,384 before the residual is added to w0 (Table 6.5). -/
def rawWeight (filter : Nat) (f : Rat) (o : Int) : Int :=
  let w : Rat :=
    if filter = 0 then (if o = 0 then 1 - f else f)
    else
      match o with
      | -1 => (-(f * f * f) + 2 * f * f - f) / 2
      | 0 => (3 * f * f * f - 5 * f * f + 2) / 2
      | 1 => (-(3 * f * f * f) + 4 * f * f + f) / 2
      | _ => (f * f * f - f * f) / 2
  roundHalfUp (16384 * w)

/-- The weights at a phase of p/64: they sum to 16,384 (R214). -/
def weights (filter p : Nat) : List Int :=
  let f : Rat := (p : Rat) / 64
  let raw := (tapRange filter).map (rawWeight filter f)
  let residual := 16384 - raw.sum
  ((tapRange filter).zip raw).map (fun q => if q.1 = 0 then q.2 + residual else q.2)

/-- The pixel that a tap reads: clamped with edge mode 1, `none` outside with mode 0 (R215). -/
def tapPixel (edge w h : Nat) (x y : Int) : Option (Nat × Nat) :=
  if 0 ≤ x ∧ x < w ∧ 0 ≤ y ∧ y < h then some (x.toNat, y.toNat)
  else if edge = 1 then some ((clampI 0 ((w : Int) - 1) x).toNat, (clampI 0 ((h : Int) - 1) y).toNat)
  else none

/-- A list without repeats, sorted. -/
def insertNat (n : Nat) : List Nat → List Nat
  | [] => [n]
  | a :: r => if n < a then n :: a :: r else if n = a then a :: r else a :: insertNat n r
def sortNat (l : List Nat) : List Nat := l.foldl (fun r n => insertNat n r) []

/-- The sample position of a string at a fret (R201). -/
def State.samplePos (s : State) (k : Nat) (c : MeshCopy) (m : FretMap) (forward : Bool) (b r l i : Nat) (ox oy : Rat) :
    Option (Rat × Rat) :=
  (meshAt c forward (m.fast i) (s.slowAngle k b r l)).map (fun p => (p.1 + ox, p.2 + oy))

/-- The pixels that the taps of a sample read. -/
def State.tapPixels (s : State) (k canvas : Nat) (p : Rat × Rat) : List (Nat × Nat) :=
  let fl := s.nat (0x2680 + k) 2
  let ed := s.nat (0x2680 + k) 3
  (tapRange fl).flatMap (fun dy => (tapRange fl).filterMap (fun dx =>
    tapPixel ed (s.cvWidth canvas) (s.cvHeight canvas) ((tapOf p.1).1 + dx) ((tapOf p.2).1 + dy)))

/-- The tile of a pixel, row-major (R163). -/
def State.tileOf (s : State) (canvas x y : Nat) : Nat := y / 16 * ceilDiv (s.cvWidth canvas) 16 + x / 16

/-- How fetch names a tile of a buffer: canvas, buffer and tile in one number (log 36). -/
def tileKey (canvas buffer tile : Nat) : Nat := (canvas * 4 + buffer) * 2 ^ 20 + tile

/-- Spans of 64 frets that are not in the harmonic band (R137, R219). -/
def FretMap.spans (m : FretMap) : List (List Nat) :=
  (List.range (m.frets.length / 64 + 1)).map (fun q =>
    ((List.range 64).map (fun i => 64 * q + i)).filter (fun i => decide (i < m.frets.length) && !m.inBand i))

/-- The tiles of one span of a bow, in row order. -/
def State.spanTiles (s : State) (k : Nat) (c : MeshCopy) (m : FretMap) (forward : Bool) (b canvas : Nat) (ox oy : Rat)
    (span : List Nat) : List Nat :=
  sortNat ((s.stringsOf k).flatMap (fun str => span.flatMap (fun i =>
    match s.samplePos k c m forward b (s.rowPrimary k str).1 (s.laneOf str) i ox oy with
    | some p => (s.tapPixels k canvas p).map (fun x => s.tileOf canvas x.1 x.2)
    | none => [])))

/-- The tiles of a bow, in span order and row order within a span, each once (R219). -/
def State.bowTiles (s : State) (k : Nat) (c : MeshCopy) (forward : Bool) (b canvas : Nat) (ox oy : Rat) : List Nat :=
  match s.mapOf k forward with
  | none => []
  | some m => ((m.spans.map (s.spanTiles k c m forward b canvas ox oy)).flatten).eraseDups

/-! ### Warp recompute (R205 to R207) -/

/-- The tiles that check W4 gives one bow: each span's tiles widened by one tile on every side (Table 6.2). -/
def State.wideTiles (s : State) (k : Nat) (c : MeshCopy) (forward : Bool) (b canvas : Nat) : List (Int × Int) :=
  match s.mapOf k forward with
  | none => []
  | some m =>
    let w := ceilDiv (s.cvWidth canvas) 16
    (m.spans.flatMap (fun span =>
      let ts := s.spanTiles k c m forward b canvas 0 0 span
      match ts with
      | [] => []
      | t :: r =>
        let x0 := r.foldl (fun a t => min a (t % w)) (t % w)
        let x1 := r.foldl (fun a t => max a (t % w)) (t % w)
        let y0 := r.foldl (fun a t => min a (t / w)) (t / w)
        let y1 := r.foldl (fun a t => max a (t / w)) (t / w)
        (List.range (y1 - y0 + 3)).flatMap (fun (j : Nat) => (List.range (x1 - x0 + 3)).map (fun (i : Nat) =>
          ((x0 : Int) - 1 + (i : Int), (y0 : Int) - 1 + (j : Int)))))).eraseDups

/-- Direction of active bow b of a frame that begins with direction `first` (R150). -/
def State.dirOfActive (s : State) (k : Nat) (first : Bool) (b : Nat) : Bool :=
  match s.nat (crs k) 0x0A with
  | 0 => if b % 2 = 0 then first else !first
  | 1 => true
  | _ => false

/-- W4 for four consecutive active bows from b, where bow b has a direction: tiles needed. -/
def State.w4At (s : State) (k : Nat) (c : MeshCopy) (canvas : Nat) (first : Bool) (b : Nat) : Nat :=
  (((List.range 4).filter (fun i => decide (b + i < s.nat (crs k) 0x11))).flatMap (fun i =>
    s.wideTiles k c (s.dirOfActive k first (b + i)) (b + i) canvas)).eraseDups.length

/-- The worst footprint of a copy in tiles, over every active bow and both ways that a frame may begin (W4). -/
def State.footprint (s : State) (k : Nat) (c : MeshCopy) : Nat :=
  let canvas := leAt c.blob 4 2
  (List.range (s.nat (crs k) 0x11)).foldl (fun n b =>
    max n (max (s.w4At k c canvas true b) (s.w4At k c canvas false b))) 0

/-- A copy of a mesh replaced. -/
def State.putCopy (s : State) (mesh copy : Nat) (c : MeshCopy) : State :=
  let x := s.meshesAt mesh
  s.meshesPut mesh (if copy = 0 then { x with copy0 := c } else { x with copy1 := c })

/-- A copy is in use or decided by its course (Table 6.3 state 3). -/
def State.copyUsed (s : State) (mesh copy : Nat) : Bool :=
  (s.fetAt (mesh / 4)).mesh == some (mesh, copy) || (s.fetAt (mesh / 4)).nextMesh == some (mesh, copy)

/-- State of a copy as shown (Table 6.3). -/
def State.copyState (s : State) (mesh copy : Nat) : Nat := if s.copyUsed mesh copy then 3 else (s.copyAt mesh copy).state

/-- The length of a displacement, rounded down (log 169). -/
def dispLen (d : Int × Int) : Nat := isqrt (d.1 * d.1 + d.2 * d.2).toNat

/-- A mesh is written to a copy, and its recompute begins (R206). -/
def State.writeCopy (s : State) (mesh copy : Nat) (blob : List Byte) (disp : List (Nat × Int × Int)) : State :=
  let x := s.meshesAt mesh
  let s1 := s.meshesPut mesh { x with nextAge := x.nextAge + 1 }
  let s2 := s1.putCopy mesh copy { state := 1, blob := blob, age := x.nextAge, disp := disp }
  let big := disp.foldl (fun n d => max n (dispLen d.2)) 0
  (s2.putN (0x2600 + mesh) 3 (leAt blob 8 2 * 65536 + leAt blob 6 2)).putN (0x2600 + mesh) 6 big

/-- A mesh written by a commit or by refinement: to the copy not in use, to the older of two unused ones, or held (R206). -/
def State.writeMesh (s : State) (mesh : Nat) (blob : List Byte) (disp : List (Nat × Int × Int)) : State :=
  let x := s.meshesAt mesh
  match s.copyUsed mesh 0, s.copyUsed mesh 1 with
  | true, true => s.meshesPut mesh { x with held := some (blob, disp) }
  | true, false => s.writeCopy mesh 1 blob disp
  | false, true => s.writeCopy mesh 0 blob disp
  | false, false => s.writeCopy mesh (if x.copy0.age ≤ x.copy1.age then 0 else 1) blob disp

/-- Mesh writes that are held apply to the copies that a frame start of course k has released (R206). -/
def State.releaseHeldMeshes (s : State) (k : Nat) : State :=
  s.each ((List.range 4).map (4 * k + ·)) (fun s m =>
    match (s.meshesAt m).held with
    | some h =>
      if s.copyUsed m 0 ∧ s.copyUsed m 1 then s
      else (s.meshesPut m { s.meshesAt m with held := none }).writeMesh m h.1 h.2
    | none => s)

/-- Tile slots of the partition of course k (R217, R227). -/
def State.tileSlots (s : State) (k : Nat) : Nat := (s.nat (0x2680 + k) 0x0D - (s.fetAt k).shrunk) * 256

/-- Warp recompute runs: throttling does not pause it (R16, Table 6.7 I1), and the device is not in STANDBY (I7). -/
def State.warpRuns (s : State) : Bool := decide (s.therm.warpPause ≤ s.clk.up) && s.nat 0x4200 1 != 3

/-- A copy of a mesh is its newest. -/
def MeshSt.newest (x : MeshSt) (copy : Nat) : Bool :=
  if copy = 0 then decide (x.copy1.age ≤ x.copy0.age) else decide (x.copy0.age ≤ x.copy1.age)

/-- WARP_RECOMPUTE_COMPLETE: a copy becomes ready, or too large for the course's partition (R206, R227, W4). -/
def execWarpRecomputeComplete (mesh : Fin 128) (copy : Fin 2) (s : State) : Host.Outcome State Fault Refusal :=
  let m := mesh.val
  let c := s.copyAt m copy.val
  .next (
    if c.state = 1 ∧ s.warpRuns = true then
      let k := m / 4
      let n := s.footprint k c
      let ok := decide (n ≤ s.tileSlots k)
      let s1 := (s.putCopy m copy.val { c with state := if ok then 2 else 4 }).putN (0x2600 + m) 4 (if ok then 0 else 4 * 2 ^ 24)
      if (s.meshesAt m).newest copy.val then s1.putN (0x2600 + m) 5 n else s1
    else s)

/-- The newest ready copy of a mesh: ready, or ready and in use (R207). -/
def State.readyCopy (s : State) (mesh : Nat) : Option Nat :=
  let x := s.meshesAt mesh
  match x.copy0.state == 2, x.copy1.state == 2 with
  | true, true => some (if x.copy0.age ≤ x.copy1.age then 1 else 0)
  | true, false => some 0
  | false, true => some 1
  | false, false => none

/-- A displacement scaled, where it is longer, to at most a length. -/
def withinLen (r : Nat) (d : Int × Int) : Int × Int :=
  if d.1 * d.1 + d.2 * d.2 ≤ (r * r : Nat) then d
  else (Int.tdiv (d.1 * r) (dispLen d + 1), Int.tdiv (d.2 * r) (dispLen d + 1))

/-- A displacement moved by at most 1/64 pixel, and within the limit (R209). Where rounding would carry a node that lies within the
limit further than that, it stays; a node beyond a limit that has been lowered comes back at once (log 169). -/
def moveDisp (limit : Nat) (old move : Int × Int) : Int × Int :=
  let m := withinLen 64 move
  let d := withinLen limit (old.1 + m.1, old.2 + m.2)
  let by_ : Int × Int := (d.1 - old.1, d.2 - old.2)
  if withinLen limit old = old ∧ ¬ by_.1 * by_.1 + by_.2 * by_.2 ≤ 64 * 64 then old else d

end Sys2Proof.Machine
end

