-- ==== Sys2Proof/Machine/Colour.lean ====
section
/-! DEFINITION. Colour: primaries and their temperature, the colour matrix, the stages of a sample, and the constancy loop
(R232 to R269). -/

namespace Sys2Proof.Machine

open Sys2Proof

/-! ### Three-vectors and matrices -/

abbrev V3 := Rat × Rat × Rat
abbrev M3 := V3 × V3 × V3

def dot3 (a b : V3) : Rat := a.1 * b.1 + a.2.1 * b.2.1 + a.2.2 * b.2.2
def scale3 (q : Rat) (a : V3) : V3 := (q * a.1, q * a.2.1, q * a.2.2)
def add3 (a b : V3) : V3 := (a.1 + b.1, a.2.1 + b.2.1, a.2.2 + b.2.2)
def mulV (m : M3) (v : V3) : V3 := (dot3 m.1 v, dot3 m.2.1 v, dot3 m.2.2 v)
def trans3 (m : M3) : M3 :=
  ((m.1.1, m.2.1.1, m.2.2.1), (m.1.2.1, m.2.1.2.1, m.2.2.2.1), (m.1.2.2, m.2.1.2.2, m.2.2.2.2))
/-- A row vector times a matrix. -/
def rowMul (v : V3) (m : M3) : V3 := mulV (trans3 m) v
def mulM (a b : M3) : M3 := (rowMul a.1 b, rowMul a.2.1 b, rowMul a.2.2 b)
def diag3 (v : V3) : M3 := ((v.1, 0, 0), (0, v.2.1, 0), (0, 0, v.2.2))
def cross3 (a b : V3) : V3 := (a.2.1 * b.2.2 - a.2.2 * b.2.1, a.2.2 * b.1 - a.1 * b.2.2, a.1 * b.2.1 - a.2.1 * b.1)
def det3 (m : M3) : Rat := dot3 m.1 (cross3 m.2.1 m.2.2)

/-- A quotient; for a divisor of 0, to which the spec gives no result, a free value (log 37). -/
def divF (n : Nat) (a b : Rat) : Rat := if b = 0 then Config.freeRat n else a / b

/-- A free vector (log 37). -/
def freeV (n : Nat) : V3 := (Config.freeRat n, Config.freeRat (n + 1), Config.freeRat (n + 2))

/-- The inverse of a matrix; of a singular one, to which the spec gives no result, a free one (log 37). -/
def inv3 (n : Nat) (m : M3) : M3 :=
  if det3 m = 0 then (freeV n, freeV (n + 3), freeV (n + 6))
  else trans3 (scale3 (1 / det3 m) (cross3 m.2.1 m.2.2), scale3 (1 / det3 m) (cross3 m.2.2 m.1),
    scale3 (1 / det3 m) (cross3 m.1 m.2.1))

/-! ### Primaries (R236 to R241) -/

def colIx (k : Nat) : Nat := 0x2700 + k

/-- One primary (Table 7.4). -/
structure Primary where
  model : Nat
  sensor : Nat
  lam0 : Rat
  tref : Rat
  slope : Rat
  fwhm : Rat
  x : Rat
  y : Rat
  y0 : Rat
  eff : Rat
  weight : Rat
  deriving DecidableEq, Repr

/-- Primary p of a description (Tables 7.3, 7.4). -/
def primaryOf (b : List Byte) (p : Nat) : Primary :=
  let o := 8 + 40 * p
  let f (i : Nat) : Rat := ratOfF32 (leAt b (o + i) 4)
  { model := leAt b o 1, sensor := leAt b (o + 1) 1, lam0 := f 4, tref := f 8, slope := f 12, fwhm := f 16, x := f 20, y := f 24,
    y0 := f 28, eff := f 32, weight := f 36 }

/-- The primaries of course k; none while its description is empty. -/
def State.primaries (s : State) (k : Nat) : List Primary :=
  let b := s.blob (colIx k) 0x0A
  (List.range (leAt b 3 1)).map (primaryOf b)

/-- The lanes of the emitters of primary p in service (R240). -/
def State.emittersOf (s : State) (k p : Nat) : List Nat :=
  ((s.stringsOf k).filter (fun str => (s.rowPrimary k str).2 == p)).map s.laneOf

/-- T of a primary: the last valid reading of its sensor (R241), a free value before the first one; its own Tref where it
names a laser-module zone with no sensor configured (R429). -/
def State.primTemp (s : State) (k : Nat) (q : Primary) : Rat :=
  if q.sensor = 0xFF then
    (if (s.laserSensors k).isEmpty then q.tref else (s.laserReading k).getD (Config.freeRat s.free))
  else (s.extReading q.sensor).getD (Config.freeRat s.free)

/-- The sensor of a primary has failed (R241); a laser-module zone fails with the last of its sensors. -/
def State.primHeld (s : State) (k : Nat) (q : Primary) : Bool :=
  if q.sensor = 0xFF then allFailed (s.laserSensors k) s.therm.extFailed else s.therm.extFailed.contains q.sensor

/-- The wavelength of primary p (R238). -/
def State.wavelength (s : State) (k p : Nat) (q : Primary) : Rat :=
  if q.model = 1 then
    (interpolate 0x05 (s.pointsOf k 0x05 p) (s.primTemp k q)).getD (Config.freeRat (s.free + 1))
  else q.lam0 + q.slope * (s.primTemp k q - q.tref)

/-- The colour-matching functions at a wavelength. -/
def cmf (lam : Rat) : V3 := (Config.cmfX lam, Config.cmfY lam, Config.cmfZ lam)

/-- XYZ of a spectrum (R239): a line, or a Gaussian truncated at ±3σ on 1 nm steps from 360 to 830 nm. -/
def spectrumXyz (lam fwhm : Rat) : V3 :=
  if fwhm = 0 then cmf lam
  else
    let sg := fwhm / (23548 / 10000)
    (List.range 471).foldl (fun a i =>
      let nm : Rat := ((360 + i : Nat) : Rat)
      if absR (nm - lam) ≤ 3 * sg then add3 a (scale3 (expR (-((nm - lam) * (nm - lam)) / (2 * sg * sg))) (cmf nm)) else a)
      (0, 0, 0)

/-- XYZ at luminance 1. -/
def unitY (n : Nat) (v : V3) : V3 := (divF n v.1 v.2.1, 1, divF (n + 1) v.2.2 v.2.1)

/-- XYZ at luminance 1 of a chromaticity. -/
def xyzOf (n : Nat) (x y : Rat) : V3 := (divF n x y, 1, divF (n + 1) (1 - x - y) y)

/-- XYZ at luminance 1 of primary p: of the equal-weight sum of its emitters (R240). -/
def State.primUnit (s : State) (k p : Nat) (q : Primary) : V3 :=
  let n := s.free + 8 + 8 * p
  if q.model = 2 then xyzOf n q.x q.y
  else
    let lam := s.wavelength k p q
    unitY n (((s.emittersOf k p).map (fun l =>
      unitY (n + 2) (spectrumXyz (lam + s.f32 (emitIx l) 0x12) q.fwhm))).foldl add3 (0, 0, 0))

/-! ### The colour matrix (R242 to R246) -/

/-- Target gain of primary p: the least ĝ of its emitters (R260). -/
def State.targetGain (s : State) (k p : Nat) : Rat :=
  match (s.emittersOf k p).map (fun l => s.f32 (emitIx l) 0x14) with
  | [] => 1
  | g :: r => r.foldl minR g

/-- A primary gain moved toward its target by at most the step limit (R260). -/
def stepGain (limit g t : Rat) : Rat := clampR (g - g * limit / 100) (g + g * limit / 100) t

/-- Primary gains of a new matrix (R249, R260); the first ones are at their targets (log 38). -/
def State.nextGains (s : State) (k : Nat) (jump : Bool) : List Rat :=
  (List.range (s.primaries k).length).map (fun p =>
    match s.nat (colIx k) 0x0E with
    | 0 => 1
    | 1 =>
      let q := primaryOf (s.blob (colIx k) 0x0A) p
      1 + q.eff * (s.primTemp k q - q.tref) / 100
    | _ =>
      match (s.colAt k).gu[p]? with
      | some g => if jump then s.targetGain k p else stepGain (s.f32 (colIx k) 0x11) g (s.targetGain k p)
      | none => s.targetGain k p)

/-- A source: red, green, blue and white chromaticities (Table 7.5, R242). -/
def State.sourceOf (s : State) (k : Nat) : List Rat :=
  match s.nat (colIx k) 2 with
  | 0 => [64 / 100, 33 / 100, 30 / 100, 60 / 100, 15 / 100, 6 / 100, 3127 / 10000, 3290 / 10000]
  | 1 => [708 / 1000, 292 / 1000, 170 / 1000, 797 / 1000, 131 / 1000, 46 / 1000, 3127 / 10000, 3290 / 10000]
  | 2 => [680 / 1000, 320 / 1000, 265 / 1000, 690 / 1000, 150 / 1000, 60 / 1000, 3127 / 10000, 3290 / 10000]
  | _ => (List.range 8).map (fun i => ratOfF32 (leAt (s.blob (colIx k) 3) (4 * i) 4))

/-- RGB to XYZ of a source, its white at Y = 1 (R242). -/
def rgbToXyz (n : Nat) (src : List Rat) : M3 :=
  let at_ (i : Nat) : Rat := src.getD i 0
  let cols : M3 := (xyzOf n (at_ 0) (at_ 1), xyzOf (n + 2) (at_ 2) (at_ 3), xyzOf (n + 4) (at_ 4) (at_ 5))
  let m := trans3 cols
  mulM m (diag3 (mulV (inv3 (n + 8) m) (xyzOf (n + 6) (at_ 6) (at_ 7))))

/-- The Bradford cone matrix (R242). -/
def coneM : M3 :=
  ((8951 / 10000, 2664 / 10000, -1614 / 10000), (-7502 / 10000, 17135 / 10000, 367 / 10000),
    (389 / 10000, -685 / 10000, 10296 / 10000))

/-- The Bradford transform between two whites in XYZ (R242). -/
def bradford (n : Nat) (src dst : V3) : M3 :=
  let a := mulV coneM src
  let b := mulV coneM dst
  mulM (inv3 (n + 3) coneM)
    (mulM (diag3 (divF n b.1 a.1, divF (n + 1) b.2.1 a.2.1, divF (n + 2) b.2.2 a.2.2)) coneM)

/-- pi of R242: the drive of each primary per unit X, Y, Z. -/
def sharesOf (n : Nat) (prs : List Primary) (cols : List V3) : List V3 :=
  let g : M3 := (prs.zip cols).foldl (fun m q =>
    let w := q.1.weight * q.1.weight
    (add3 m.1 (scale3 (w * q.2.1) q.2), add3 m.2.1 (scale3 (w * q.2.2.1) q.2), add3 m.2.2 (scale3 (w * q.2.2.2) q.2)))
    ((0, 0, 0), (0, 0, 0), (0, 0, 0))
  let i := inv3 n g
  (prs.zip cols).map (fun q => rowMul (scale3 (q.1.weight * q.1.weight) q.2) i)

/-- CIE 1976 u′, v′ of an XYZ. -/
def uvOf (n : Nat) (v : V3) : Rat × Rat :=
  let d := v.1 + 15 * v.2.1 + 3 * v.2.2
  (divF n (4 * v.1) d, divF (n + 1) (9 * v.2.1) d)

/-- XYZ at luminance 1 of a u′, v′. -/
def xyzOfUv (n : Nat) (u v : Rat) : V3 := (divF n (9 * u) (4 * v), 1, divF (n + 1) (12 - 3 * u - 20 * v) (4 * v))

/-- The fraction of the way from u′v′ a to b at which the white is first reachable (R244): along the line each weight times
4 v′ is linear. Where no point of it is reachable the spec gives no white: a free fraction. -/
def firstReachable (n : Nat) (pi : List V3) (a b : Rat × Rat) : Rat :=
  let lin (c : Rat × Rat) : V3 := (9 * c.1, 4 * c.2, 12 - 3 * c.1 - 20 * c.2)
  let ab := pi.map (fun r => (dot3 r (lin a), dot3 r (lin b)))
  let t := ab.foldl (fun t p => if p.1 < 0 then maxR t (divF n p.1 (p.1 - p.2)) else t) 0
  if ab.all (fun p => decide (0 ≤ p.1 + t * (p.2 - p.1))) && decide (t ≤ 1) then t
  else clampR 0 1 (Config.freeRat (n + 1))

/-- Columns of a (R242) for primary gains. -/
def State.primColumns (s : State) (k : Nat) (gu : List Rat) : List V3 :=
  ((s.primaries k).zip (List.range (s.primaries k).length)).map (fun q =>
    scale3 (q.1.y0 * gu.getD q.2 1) (s.primUnit k q.2 q.1))

/-- Target white of course k, XYZ at luminance 1. -/
def State.targetWhite (s : State) (k : Nat) : V3 :=
  xyzOf (s.free + 70) (s.f32 (colIx k) 4) (s.f32 (colIx k) 5)

/-- The target white is reachable with given gains (R244). -/
def State.whiteReachable (s : State) (k : Nat) (gu : List Rat) : Bool :=
  (sharesOf (s.free + 80) (s.primaries k) (s.primColumns k gu)).all (fun r => decide (0 ≤ dot3 r (s.targetWhite k)))

/-- The white of a matrix and how far it was moved (R244). -/
def State.whiteUsed (s : State) (k : Nat) (pi : List V3) : V3 × Rat × Bool :=
  let tw := s.targetWhite k
  if pi.all (fun r => decide (0 ≤ dot3 r tw)) then (tw, 0, false)
  else
    let sum := (((s.primaries k).zip (List.range (s.primaries k).length)).map (fun q => s.primUnit k q.2 q.1)).foldl add3
      (0, 0, 0)
    let a := uvOf (s.free + 90) tw
    let b := uvOf (s.free + 92) sum
    let t := firstReachable (s.free + 94) pi a b
    let du := t * (b.1 - a.1)
    let dv := t * (b.2 - a.2)
    (xyzOfUv (s.free + 96) (a.1 + du) (a.2 + dv), sqrtR (du * du + dv * dv), true)

/-- Corrections of the lanes of course k (R249). -/
def State.corrections (s : State) (k : Nat) (gu : List Rat) : List (Nat × Rat) :=
  (s.stringsOf k).map (fun str =>
    let l := s.laneOf str
    (l, if s.nat (colIx k) 0x0E = 2 then
        divF (s.free + 98) (gu.getD (s.rowPrimary k str).2 1) (s.f32 (emitIx l) 0x14) else 1))

/-- A new matrix of course k from the values that hold in `s` (R242 to R244); `jump` sets the primary gains to their targets
(R260). -/
def State.newMatrix (s : State) (k : Nat) (jump : Bool) : MatrixSt :=
  let n := s.free
  let gu := s.nextGains k jump
  let pi := sharesOf (n + 80) (s.primaries k) (s.primColumns k gu)
  let wu := s.whiteUsed k pi
  let w1 := pi.map (fun r => dot3 r wu.1)
  let avail := divF (n + 100) 1 (match w1 with
    | [] => 0
    | a :: r => r.foldl maxR a)
  let c := s.colAt k
  let w := s.f32 (colIx k) 6
  let w0 := if c.fixW then (if 0 < w then w else 9 / 10 * avail) else c.w0
  let a0 := if c.fixW then avail else c.avail0
  let want := if s.nat (colIx k) 7 = 1 then w0 * divF (n + 101) avail a0 else w0
  let white := minR want avail
  let src := s.sourceOf k
  let b := mulM (bradford (n + 102) (xyzOf (n + 105) (src.getD 6 0) (src.getD 7 0)) wu.1) (rgbToXyz (n + 110) src)
  { rows := pi.map (fun r => rowMul (scale3 white r) b), gu := gu, white := white, avail := avail, w0 := w0, avail0 := a0,
    headroom := decide (white < want), moved := wu.2.2, held := (s.primaries k).any (s.primHeld k), shift := wu.2.1,
    corr := s.corrections k gu }

/-- Bytes of 2700 + k:14 (R245). -/
def matrixBytes (counter : Nat) (rows : List V3) : List Byte :=
  leBytes 4 counter ++ rows.flatMap (fun r =>
    leBytes 4 (f32OfRat r.1) ++ leBytes 4 (f32OfRat r.2.1) ++ leBytes 4 (f32OfRat r.2.2))

/-- A matrix comes into use at a frame start with a counter (R245). -/
def State.useMatrix (s : State) (k counter : Nat) (m : MatrixSt) : State :=
  let c := s.colAt k
  let s1 : State := { s with free := s.free + 256 }
  let s2 := s1.colPut k { c with
    inUse := some m, next := none, nextForced := false, gu := m.gu, w0 := m.w0, avail0 := m.avail0, fixW := false, lastNew := s.clk.up,
    forced := false }
  let s3 := ((((s2.putB (colIx k) 0x14 (matrixBytes counter m.rows)).putF (colIx k) 0x15 m.avail).putF (colIx k) 0x16
    m.white).putF (colIx k) 0x18 m.shift).bump (colIx k) 0x19
  (m.corr.foldl (fun s p => s.putF (emitIx p.1) 0x15 p.2) s3).setFlag (colIx k) 0x17 7 false

/-! ### Emitter states (R257 to R263) -/

/-- The emitter of a lane is in service: its course can be armed (Table 7.7, R236). -/
def State.inService (s : State) (l : Nat) : Bool :=
  match s.courseOfLane l with
  | some k => !(s.blob (colIx k) 0x0A).isEmpty
  | none => false

/-- State of the emitter of a lane (Table 7.7): 0 when it is not in service, and acquiring when it comes into service. -/
def State.emitterState (s : State) (l : Nat) : Nat :=
  if s.inService l then (if s.nat (emitIx l) 0x16 = 0 then 1 else s.nat (emitIx l) 0x16) else 0

/-- LIT time of the course of the string that a lane carries. -/
def State.laneLit (s : State) (l : Nat) : Nat :=
  match s.courseOfLane l with
  | some k => s.litTimeNow k
  | none => 0

/-- Whether ĝ lies below the wear threshold, and since when in LIT time (Table 7.7). -/
def State.noteWear (s : State) (l : Nat) : State :=
  let x := s.emitAt l
  match s.courseOfLane l with
  | none => s
  | some k =>
    s.emitPut l { x with
      belowSince := if s.f32 (emitIx l) 0x14 < s.f32 (colIx k) 0x13 then some (x.belowSince.getD (s.litTimeNow k)) else none }

/-- The emitter begins its acquisition (R258); one whose capture input has changed stays held (R263). -/
def State.acquire (s : State) (l : Nat) : State :=
  let x := s.emitAt l
  ((s.emitPut l { x with run := 0, acquired := 0, begun := s.laneLit l }).putN (emitIx l) 0x16
    (if x.inputChanged then 3 else 1)).noteWear l

/-- A switch-in at a frame start takes the emitter of a lane out of service, or brings it in (R258, R264). -/
def State.emitterOut (s : State) (l : Nat) : State :=
  (s.emitPut l { s.emitAt l with run := 0, acquired := 0 }).putN (emitIx l) 0x16 0
def State.emitterIn (s : State) (l : Nat) : State := s.acquire l

/-- The capture input of course k changes: every emitter is held until a tuning run (R263). -/
def State.inputChanges (s : State) (k : Nat) : State :=
  s.each (s.lanesOf k) (fun s l => (s.emitPut l { s.emitAt l with inputChanged := true, run := 0 }).putN (emitIx l) 0x16 3)

/-- Constancy status, 2700 + k:17 (Table 7.11): bit 7 is stored. -/
def State.constancyStatus (s : State) (k : Nat) : Nat :=
  let mode := s.nat (colIx k) 0x0E
  let st := (s.lanesOf k).map s.emitterState
  let any (l : List Nat) : Bool := st.any (fun x => l.contains x)
  let m := (s.colAt k).inUse
  let flag (b : Bool) (i : Nat) : Nat := if b then 2 ^ i else 0
  flag (s.flag (colIx k) 0x17 7) 7 + flag (m.any (·.held)) 6 + flag (m.any (·.moved)) 5 + flag (any [6]) 4 +
    flag (any [3, 4, 5]) 3 + flag (m.any (·.headroom)) 2 + flag (mode == 2 && any [1, 2, 6]) 1 +
    flag (mode == 1 || mode == 2) 0

/-- MATRIX_COMPLETE: firmware has computed the matrix for the fence to come (R246). -/
def execMatrixComplete (k : CourseId) (s : State) : Host.Outcome State Fault Refusal :=
  .next (
    if s.nat (colIx k.val) 0x0E ≠ 0 ∧ s.primaries k.val ≠ [] ∧ (s.colAt k.val).ready = none ∧ s.fw.restarting = false then
      { (s.colPut k.val { s.colAt k.val with ready := some (s.newMatrix k.val false) }) with free := s.free + 256 }
    else s)

/-- A harmonic's measured gain m = h / (ρ L_h) (R256). -/
def State.measuredGain (s : State) (r : HarmonicRec) (k : Nat) : Rat :=
  divF s.free (ratOfF32 r.h) (s.f32 (emitIx r.lane) 0x13 * s.f32 (0x2800 + k) 8)

/-- State after an accepted harmonic whose filtered gain is g before the clamp (Table 7.7). A worn emitter stays worn while g lies
below the wear threshold (log 171). -/
def emitterAfter (old acquired : Nat) (g wear : Rat) : Nat :=
  if old = 6 ∧ g < wear then 6 else if g < 3 / 10 ∨ 3 / 2 < g then 5 else if acquired < 32 then 1 else 2

/-- The emitter of a lane is in acquisition: fewer than 32 harmonics accepted since it began (R258). -/
def State.acquiring (s : State) (l : Nat) : Bool := decide ((s.emitAt l).acquired < 32)

/-- The gain time constant of an emitter, in seconds (R257, R258). -/
def State.tauOf (s : State) (k l : Nat) : Rat := s.f32 (colIx k) 0x0F / (if s.acquiring l then 16 else 1)

/-- An accepted harmonic of an emitter (R257, R258). -/
def State.acceptHarmonic (s : State) (k l : Nat) (m : Rat) : State :=
  let ix := emitIx l
  let x := s.emitAt l
  let old := s.emitterState l
  let g := s.f32 ix 0x14
  let tau := s.tauOf k l
  let dt : Rat := ((s.litTimeNow k - x.lastLit : Nat) : Rat) / (tS : Rat)
  let g1 := g + minR 1 (dt / tau) * (m - g)
  let acquired := if old = 3 ∨ old = 4 then 0 else if x.acquired < 32 then x.acquired + 1 else 32
  let s1 := s.emitPut l { x with run := 0, acquired := acquired, lastLit := s.litTimeNow k }
  ((((s1.putF ix 0x14 (clampR (3 / 10) (3 / 2) g1)).putN ix 0x16 (emitterAfter old acquired g1 (s.f32 (colIx k) 0x13))).bump
    ix 0x17).putN ix 0x19 (time80 s.taiNs)).noteWear l

/-- A rejected harmonic of an emitter: the 64th in a row makes it disputed (R257, Table 7.7). -/
def State.rejectHarmonic (s : State) (l : Nat) : State :=
  let x := s.emitAt l
  let s1 := (s.emitPut l { x with run := x.run + 1 }).bump (emitIx l) 0x18
  if 64 ≤ x.run + 1 then s1.putN (emitIx l) 0x16 4 else s1

/-- What a harmonic record of course k does to the constancy loop (R256, R257): one that is void, or of a tuning run, does nothing
(R262). -/
def State.takeRecord (s : State) (k : Nat) (r : HarmonicRec) : State :=
  let l := r.lane
  if r.void ∨ r.tuning ∨ r.fiducialOnly ∨ s.nat (colIx k) 0x0E ≠ 2 ∨ s.f32 (emitIx l) 0x13 ≤ 0 ∨ s.courseOfLane l ≠ some k ∨
      s.emitterState l = 0 ∨ (s.emitAt l).inputChanged then s
  else
    let m := s.measuredGain r k
    let g := s.f32 (emitIx l) 0x14
    let win := s.f32 (colIx k) 0x12 / 100 * (if s.acquiring l then 3 else 1)
    let s1 := s.takeFree
    if win * g < absR (m - g) then s1.rejectHarmonic l else s1.acceptHarmonic k l m

/-- HARMONIC_GAIN_UPDATE: firmware takes the oldest harmonic record of course k and commits the tail of its queue, as one step (R257,
R285). -/
def execHarmonicGainUpdate (k : CourseId) (s : State) : Host.Outcome State Fault Refusal :=
  .next (
    match (s.captAt k.val).records with
    | [] => s
    | r :: l =>
      if s.fw.restarting then s
      else
        ((s.captPut k.val { s.captAt k.val with records := l }).queueCommit (useRecords k.val)).takeRecord k.val r)

/-- No harmonic of an emitter of course k has been accepted for its gain time constant of LIT time, nor has its acquisition begun
since (Table 7.7). -/
def State.gainStale (s : State) (k l : Nat) : Bool :=
  let x := s.emitAt l
  decide (s.tauOf k l * (tS : Rat) ≤ ((s.litTimeNow k - max x.lastLit x.begun : Nat) : Rat))

/-- ĝ of an emitter of course k has lain below the wear threshold for 60 s of LIT time (Table 7.7). -/
def State.gainWorn (s : State) (k l : Nat) : Bool :=
  let x := s.emitAt l
  decide (s.f32 (emitIx l) 0x14 < s.f32 (colIx k) 0x13) && decide (x.belowSince.getD x.begun + 60 * tS ≤ s.litTimeNow k)

/-- EMITTER_GAIN_HELD: no accepted harmonic for the gain time constant of LIT time (Table 7.7). -/
def execEmitterGainHeld (l : LaneId) (s : State) : Host.Outcome State Fault Refusal :=
  .next (
    match s.courseOfLane l.val with
    | none => s
    | some k =>
      if s.emitterState l.val = 0 ∨ s.emitterState l.val = 3 ∨ s.emitterState l.val = 4 ∨ s.gainStale k l.val = false then s
      else s.putN (emitIx l.val) 0x16 3)

/-- EMITTER_WORN: ĝ below the wear threshold for 60 s of LIT time, whichever state the emitter in service was in (Table 7.7, log 171):
offered, and it keeps emitting (R259). -/
def execEmitterWorn (l : LaneId) (s : State) : Host.Outcome State Fault Refusal :=
  .next (
    match s.courseOfLane l.val with
    | none => s
    | some k =>
      if s.emitterState l.val ≠ 0 ∧ s.emitterState l.val ≠ 6 ∧ s.gainWorn k l.val = true then
        (s.putN (emitIx l.val) 0x16 6).offer .lane l.val true
      else s)

/-- Every emitter's ĝ goes to the store (R261). -/
def State.gainPersist (s : State) : State :=
  s.each allLanes (fun s l => s.persist (dkey (emitIx l) 0x14) (s.val (emitIx l) 0x14))

/-- GAIN_PERSIST: the hourly persistence point of R261. -/
def execGainPersist (s : State) : Host.Outcome State Fault Refusal := .next s.gainPersist

/-! ### Stages of a sample (R232 to R235, R247 to R255) -/

/-- A decoded component with the error that R233 allows; black stays black (log 39). -/
def slackDecode (curve : Nat) (v e : Rat) : Rat :=
  let x := Config.decodeError curve v
  if e = 0 then 0
  else if e < 1 / 65536 then e + clampR (-(1 / 17179869184)) (1 / 17179869184) x
  else e * (1 + clampR (-(1 / 262144)) (1 / 262144) x)

/-- The curves of one component (Table 7.2). -/
def decodeOne (curve : Nat) (pref v : Rat) : Rat :=
  match curve with
  | 0 => v
  | 1 => if v < 81 / 1000 then v / (45 / 10) else powR ((v + 99 / 1000) / (1099 / 1000)) (100 / 45)
  | 2 => powR v (24 / 10)
  | 3 => if v ≤ 4045 / 100000 then v / (1292 / 100) else powR ((v + 55 / 1000) / (1055 / 1000)) (24 / 10)
  | _ =>
    let z := powR v (1 / (7884375 / 100000))
    let y := 10000 * powR (maxR (z - 8359375 / 10000000) 0 / (188515625 / 10000000 - 186875 / 10000 * z))
      (1 / (1593017578125 / 10000000000000))
    minR 1 (y / pref)

/-- HLG scene light of one component (Table 7.2). -/
def hlgScene (v : Rat) : Rat :=
  if v ≤ 1 / 2 then v * v / 3
  else (expR ((v - 55991073 / 100000000) / (17883277 / 100000000)) + 28466892 / 100000000) / 12

/-- Stage 2: linear light of normalised codes on course k (R234). -/
def State.decodeLight (s : State) (k : Nat) (v : V3) : V3 :=
  let c := s.nat (colIx k) 1
  if c = 5 then
    let r := hlgScene v.1
    let g := hlgScene v.2.1
    let b := hlgScene v.2.2
    let ys := 2627 / 10000 * r + 6780 / 10000 * g + 593 / 10000 * b
    let f := powR ys (s.f32 (colIx k) 9 - 1)
    (slackDecode 5 v.1 (f * r), slackDecode 5 v.2.1 (f * g), slackDecode 5 v.2.2 (f * b))
  else
    let one (x : Rat) : Rat := slackDecode c x (decodeOne c (s.f32 (colIx k) 8) x)
    (one v.1, one v.2.1, one v.2.2)

/-- The grid of a blend or uniformity map (Table 7.6). -/
def lightGrid (b : List Byte) : Grid :=
  { nu := leAt b 4 2, nv := leAt b 6 2, u0 := sext 32 (leAt b 8 4), du := leAt b 12 4, v0 := sext 32 (leAt b 16 4),
    dv := leAt b 20 4 }

/-- A map at an angle (R251): clamped to its edge; an empty map reads 1. -/
def lightMapAt (b : List Byte) (plane : Nat) (u v : Rat) : Rat :=
  if b.isEmpty then 1
  else
    let g := lightGrid b
    let cu := clampR g.u0 (g.u0 + ((g.nu - 1) * g.du : Nat)) u
    let cv := clampR g.v0 (g.v0 + ((g.nv - 1) * g.dv : Nat)) v
    let node (j q : Nat) : Rat := (leAt b (32 + 2 * (plane * (g.nu * g.nv) + q * g.nu + j)) 2 : Rat) / 32768
    match cellOf cu g.u0 g.du g.nu, cellOf cv g.v0 g.dv g.nv with
    | some (j, a), some (q, c) => bilinear a c (node j q) (node (j + 1) q) (node j (q + 1)) (node (j + 1) (q + 1))
    | _, _ => 1

/-- Stage 4: the drive fraction of primary p before its clamp (R242). -/
def State.driveOf (s : State) (k p : Nat) (e : V3) : Rat :=
  match (s.colAt k).inUse with
  | some m => dot3 (m.rows.getD p (0, 0, 0)) e
  | none => 0

/-- Stages 4 to 7: light of a string of primary p on a lane at an angle (R247 to R251). -/
def State.lightOf (s : State) (k str lane p : Nat) (u v : Rat) (e : V3) : Rat :=
  let uni := s.blob (colIx k) 0x0C
  clampR 0 1 (clampR 0 1 (s.driveOf k p e) * s.f32 (0x2000 + str) 0x10 * s.f32 (emitIx lane) 0x15 *
    lightMapAt (s.blob (colIx k) 0x0B) 0 u v * lightMapAt uni (if leAt uni 3 1 = 1 then 0 else p) u v)

/-- Entry i of a light-to-code table; of an empty one, by R252. -/
def tableEntry (b : List Byte) (i : Nat) : Nat :=
  if b.isEmpty then (roundHalfUp (65520 * ((i : Rat) / 4095) * ((i : Rat) / 4095))).toNat else leAt b (8 + 2 * i) 2

/-- Stage 8 (R253): the code in 1/16, and whether it came from the pulse-density branch. -/
def lightToCode (b : List Byte) (l : Rat) (t : Nat) : Nat × Bool :=
  if l ≤ 0 then (0, false)
  else
    let x := sqrtR l * 4095
    let i := x.floor.toNat
    let fr := x - (i : Rat)
    if 4095 ≤ i then (tableEntry b 4095, false)
    else if 1 ≤ i then
      (((tableEntry b i : Rat) + fr * ((tableEntry b (i + 1) : Rat) - (tableEntry b i : Rat)) + 1 / 2).floor.toNat, false)
    else (if (t : Rat) < l * 16769025 * 4096 then tableEntry b 1 else 0, true)

/-- The dither matrix in row-major order: each place's rank in the part's order of the 4,096 places, so that each value from 0 to 4,095
occurs once (R254). -/
def ditherEntry (i : Nat) : Nat :=
  let key := Config.ditherMatrix i
  ((List.range 4096).filter (fun j =>
    let q := Config.ditherMatrix j
    decide (q < key) || (q == key && decide (j < i)))).length

/-- t of R255 for fret i of image row y and primary p, in frame n. -/
def ditherT (mode n i y p : Nat) : Nat :=
  let ox := if mode = 2 then 29 * n % 64 else 0
  let oy := if mode = 2 then 47 * n % 64 else 0
  ditherEntry ((y + oy) % 64 * 64 + (i + ox + 17 * p) % 64)

/-- Stage 9 (R255): the level of a code. -/
def ditherLevel (mode t : Nat) (c : Nat × Bool) : Nat :=
  if c.2 ∨ mode = 0 then min 4095 ((c.1 + 8) / 16) else min 4095 ((c.1 + t / 256) / 16)

/-- Stages 8 and 9 of a sample. -/
def State.levelOf (s : State) (k lane p n i y : Nat) (l : Rat) : Nat :=
  let mode := s.nat (colIx k) 0x0D
  let t := ditherT mode n i y p
  ditherLevel mode t (lightToCode (s.blob (emitIx lane) 0x11) l t)

/-! ### Checks (R237, R242, R250, R252, R265) -/

/-- A description passes R237, apart from its target white. -/
def State.descriptionOk (s : State) (k : Nat) : Bool :=
  let b := s.blob (colIx k) 0x0A
  let n := leAt b 3 1
  b.isEmpty ||
    (slice 0 3 b == [0x50, 0x44, 0x01] && leAt b 4 4 == 0 && n == s.nat (crs k) 8 && b.length == 8 + 40 * n &&
      (List.range n).all (fun p =>
        let q := primaryOf b p
        decide (q.model ≤ 2) && (decide (q.sensor ≤ 31) || q.sensor == 0xFF) && leAt b (8 + 40 * p + 2) 2 == 0 &&
          decide (380 ≤ q.lam0) && decide (q.lam0 ≤ 780) && decide (0 ≤ q.fwhm) && decide (q.fwhm ≤ 40) &&
          decide (0 < q.y0) && decide (0 < q.weight) && (q.model != 1 || !(s.points k).isEmpty)))

/-- A blend or uniformity map passes R250. -/
def lightMapOk (magic0 : Byte) (planes : List Nat) (limit : Nat) (b : List Byte) : Bool :=
  let g := lightGrid b
  b.isEmpty ||
    (slice 0 3 b == [magic0, 0x4D, 0x01] && planes.contains (leAt b 3 1) && decide (2 ≤ g.nu) && decide (g.nu ≤ 129) &&
      decide (2 ≤ g.nv) && decide (g.nv ≤ 129) && decide (1 ≤ g.du) && decide (1 ≤ g.dv) && leAt b 24 4 == 0 &&
      leAt b 28 4 == 0 && b.length == 32 + 2 * leAt b 3 1 * g.nu * g.nv &&
      (List.range (leAt b 3 1 * g.nu * g.nv)).all (fun i => decide (leAt b (32 + 2 * i) 2 ≤ limit)))

def blendOk (b : List Byte) : Bool := lightMapOk 0x42 [1] 32768 b
def uniformityOk (prims : Nat) (b : List Byte) : Bool := lightMapOk 0x55 [1, prims] 65535 b

/-- The check of a light-to-code table, as 2000 + ℓ:1A shows it (R252, Table 7.12): 0 where it passes. -/
def tableCheck (b : List Byte) : Nat :=
  if b.isEmpty then 0
  else if slice 0 4 b ≠ [0x4C, 0x43, 0x01, 0x00] ∨ leAt b 6 2 ≠ 0 ∨ b.length ≠ 8200 ∨ 4095 < leAt b 4 2 then 1 * 2 ^ 24
  else if tableEntry b 0 ≠ 0 then 2 * 2 ^ 24
  else if tableEntry b 1 < 16 * leAt b 4 2 then 3 * 2 ^ 24 + 1
  else
    match (List.range 4096).find? (fun i => decide (2 ≤ i) && decide (tableEntry b i < tableEntry b (i - 1))) with
    | some i => 4 * 2 ^ 24 + i
    | none => if 65520 < tableEntry b 4095 then 5 * 2 ^ 24 + 4095 else 0

/-- A spare lane has what R265 asks of it. -/
def State.spareColourOk (s : State) (l : Nat) : Bool :=
  !(s.blob (emitIx l) 0x11).isEmpty && decide (s.f32 (emitIx l) 0x13 ≠ 0) && decide (absR (s.f32 (emitIx l) 0x12) ≤ 10)

end Sys2Proof.Machine
end

