-- ==== Sys2Proof/Machine/MapCheck.lean ====
section
/-! DEFINITION. The checks of fret maps at a commit (R146 to R149, R153, Table 4.3), on the state that the commit would
produce. A check that fails is a number 1 to 9 with the failing fret, N for the bridge. -/

namespace Sys2Proof.Machine

open Sys2Proof

/-- The committed envelope (R146): amplitudes and frequencies. -/
def State.aLo (s : State) (k : Nat) : Rat := 95 / 100 * (s.nat (crs k) 0x0D : Rat)
def State.aHi (s : State) (k : Nat) : Rat := 105 / 100 * (s.nat (crs k) 0x0D : Rat)
def State.fHi (s : State) (k : Nat) : Rat :=
  if s.nat (refIx k) 0x0B = 1 then maxR (s.f32 (crs k) 0x0C) (s.consortHz k) else s.f32 (crs k) 0x0C
def State.fLo (s : State) (k : Nat) : Rat :=
  if s.nat (refIx k) 0x0B = 1 then minR (s.f32 (crs k) 0x0B) (s.consortHz k) else s.f32 (crs k) 0x0B

/-- The first position of a list at which a condition fails. -/
def firstBad {α : Type} (p : α → Bool) : Nat → List α → Option Nat
  | _, [] => none
  | i, a :: r => if p a then firstBad p (i + 1) r else some i

/-- Angles of a map in emission order, the bridge last. -/
def FretMap.angles (m : FretMap) : List Int := m.frets ++ [m.bridge]

/-- V3: strict order of R136; the failing fret is the later of the pair. -/
def FretMap.orderBad (m : FretMap) : Option Nat :=
  (firstBad (fun p : Int × Int => if m.reverse then decide (p.2 < p.1) else decide (p.1 < p.2)) 1
    (m.angles.zip m.angles.tail))

/-- V1, V3 and V4, of a map by itself. -/
def formatCheck (b : List Byte) : Option (Nat × Nat) :=
  match fretMapOf b with
  | none => some (1, 0)
  | some m =>
    match m.orderBad with
    | some i => some (3, i)
    | none => if m.nutBand + m.bridgeBand < m.frets.length then none else some (4, 0)

/-- Beam offset and delay trim of a lane (R140). -/
def State.delta (s : State) (l : Nat) : Int := s.int (laneIx l) 5
def State.trim (s : State) (l : Nat) : Int := s.int (laneIx l) 7

/-- V6: the first fret, or the bridge, out of reach on some lane. -/
def State.reachBad (s : State) (k : Nat) (m : FretMap) : Option Nat :=
  firstBad (fun f : Int => (s.lanesOf k).all (fun l =>
    decide (absR ((f - s.delta l : Int) : Rat) ≤ 985 / 1000 * s.aLo k))) 0 m.angles

/-- Instant of an angle within a bow, in slots from its centre, on an amplitude and a half period (R141). -/
def bowInstant (reverse : Bool) (a hp : Rat) (theta : Int) : Rat :=
  let t := hp * asinR ((theta : Rat) / a) / piR
  if reverse then -t else t

/-- Spacings of consecutive placements on a lane at a_hi and f_hi, in slots. -/
def State.spacings (s : State) (k : Nat) (m : FretMap) (l : Nat) : List Rat :=
  let ts := m.angles.map (fun f => bowInstant m.reverse (s.aHi k) (halfPeriod (s.fHi k)) (f - s.delta l))
  (ts.zip ts.tail).map (fun p => p.2 - p.1)

/-- V7: the first fret less than a slot after the one before, on some lane. -/
def State.densityBad (s : State) (k : Nat) (m : FretMap) : Option Nat :=
  ((s.lanesOf k).filterMap (fun l => firstBad (fun d : Rat => decide (1 ≤ d)) 1 (s.spacings k m l))).foldl (fun r i =>
    match r with
    | some j => some (min i j)
    | none => some i) none

/-- The V7 value: the peak fret rate in M frets/s. -/
def State.peakRate (s : State) (k : Nat) (m : FretMap) : Rat :=
  let l := (s.lanesOf k).flatMap (fun l => s.spacings k m l)
  match l with
  | [] => 0
  | d :: r =>
    let x := r.foldl minR d
    if x ≤ 0 then 0 else 400 / x

/-- V8 from a bow on map m to the next bow on map n, `steps` half periods later. -/
def State.turnOk (s : State) (k : Nat) (m n : FretMap) (steps : Nat) : Bool :=
  let hp := halfPeriod (s.fHi k)
  let a := s.aLo k
  (s.lanesOf k).all (fun l => (s.lanesOf k).all (fun l2 =>
    decide (800 ≤ (steps : Rat) * hp +
      (bowInstant n.reverse a hp (n.angle 0 - s.delta l2) - (s.trim l2 : Rat) / 2500) -
      (bowInstant m.reverse a hp (m.bridge - s.delta l) - (s.trim l : Rat) / 2500))))

/-- V8 for the directions in use. -/
def State.turnaroundOk (s : State) (k : Nat) : Bool :=
  match s.nat (crs k) 0x0A, s.mapOf k true, s.mapOf k false with
  | 0, some m, some n => s.turnOk k m n 1 && s.turnOk k n m 1
  | 1, some m, _ => s.turnOk k m m 2
  | 2, _, some n => s.turnOk k n n 2
  | _, _, _ => true

/-- V9 (R153). -/
def State.framesFit (s : State) (k : Nat) : Bool :=
  let n := s.nat (crs k) 0x11
  if s.nat (refIx k) 1 ≠ 0 then true
  else
    let bows := if s.nat (crs k) 0x0A = 0 then n + 1 else 2 * n + 1
    decide ((bows : Rat) / (2 * s.fLo k) + (s.nat (crs k) 0x12 : Rat) / 1000000 ≤
      (s.nat (refIx k) 4 : Rat) / (s.nat (refIx k) 3 : Rat))

/-- The checks of the map selected for a direction. An empty map fails where `strict` asks for one (log 43), and passes all but V5 and
V9, which do not look into it. -/
def State.selectedCheck (s : State) (k : Nat) (forward strict : Bool) : Option (Nat × Nat) :=
  let b := s.blob (mapIx k (s.mapNo k forward)) 1
  if b.isEmpty then
    if strict ∧ s.dirUsed k forward then some (1, 0)
    else if s.mapNo k true = s.mapNo k false then some (5, 0)
    else if s.framesFit k then none else some (9, 0)
  else
    match formatCheck b, fretMapOf b with
    | some (1, f), _ => some (1, f)
    | c, some m =>
      if m.reverse = forward then some (2, 0)
      else
        match c with
        | some x => some x
        | none =>
          if s.mapNo k true = s.mapNo k false then some (5, 0)
          else
            match s.reachBad k m with
            | some i => some (6, i)
            | none =>
              match s.densityBad k m with
              | some i => some (7, i)
              | none => if s.turnaroundOk k then (if s.framesFit k then none else some (9, 0)) else some (8, m.frets.length)
    | _, none => some (1, 0)

/-- V6 to V8 pass for course k as it stands (R149). -/
def State.placementOk (s : State) (k : Nat) : Bool :=
  [true, false].all (fun d =>
    match s.selectedCheck k d false with
    | some (c, _) => c != 6 && c != 7 && c != 8
    | none => true)

end Sys2Proof.Machine
end

