-- ==== Sys2Proof/Machine/Fetch.lean ====
section
/-! DEFINITION. What a course decides at its commit fence (switch-ins, matrix, mesh copy, buffer), the frame to come as it
will be, and fetch: schedule, tiles, residency, watermarks, bank errors (R188, R207, R210 to R212, R217 to R227, R245, R246,
R334, R335, R543). -/

namespace Sys2Proof.Machine

open Sys2Proof

/-! ### The frame to come -/

/-- An entry replaced by its key. -/
def State.putKey (s : State) (key : Nat) (v : Val) : State := s.put (key / 256) (key % 256) v

/-- The key of a flip entry 2400 + c:08 (R193). -/
def flipKey (key : Nat) : Bool := key % 256 == 8 && decide (0x2400 ≤ key / 256) && decide (key / 256 ≤ 0x24FF)

/-- The frame-boundary items of commits that apply at a frame start of course k, in order; flips are decided apart (R188). -/
def State.dueItems (s : State) (k counter : Nat) (start : Int) : List Todo :=
  s.oz.commits.flatMap (fun p =>
    p.todo.filter (fun t => (t.cls == .frame k || t.cls == .restart k) && itemDue p t counter start && !flipKey t.key))

/-- A colour entry of a course or of a lane (R245). -/
def colourKey (key : Nat) : Bool :=
  let i := key / 256
  let b := key % 256
  (decide (0x2700 ≤ i) && decide (i ≤ 0x271F) && decide (b ≤ 0x13)) ||
    ((decide (0x2000 ≤ i) && decide (i ≤ 0x20FF) || decide (0x27F0 ≤ i) && decide (i ≤ 0x27FF)) && decide (0x10 ≤ b) &&
      decide (b ≤ 0x13))

/-! ### Spare-lane switch-ins (R334, R335, R543) -/

/-- The switch-in that spare i is to make for course k at its coming frame start: a string, or none for a return. -/
def State.wantedOf (s : State) (k i counter : Nat) (start : Int) : Option (Option Nat) :=
  match (s.dueItems k counter start).reverse.find? (fun t => t.key == dkey (0x2100 + i) 1) with
  | some t => some (if valInt t.val = 0xFFFF then none else some (valInt t.val).toNat)
  | none =>
    let x := s.sparesAt i
    let str := match x.want with
      | some a => some a
      | none => s.stringOn (256 + i)
    if x.applied ∧ str.bind s.courseOfString = some k then some x.want else none

/-- The lane that a switch-in of spare i needs UP. -/
def State.switchLane (s : State) (i : Nat) (want : Option Nat) : Option Nat :=
  match want with
  | some _ => some (256 + i)
  | none => s.stringOn (256 + i)

/-- The lane that a switch-in needs is UP, and a spare has what R265 asks. -/
def State.switchOk (s : State) (i : Nat) (want : Option Nat) : Bool :=
  (match s.switchLane i want with
   | some l => (s.lanesAt l).state == 2
   | none => false) && (want.isNone || s.spareColourOk (256 + i))

/-- A decided switch-in moves its string (R333): to the spare, or back to the lane of its number. A string that the spare
carried before goes back to its own lane. -/
def State.moveString (s : State) (i : Nat) : State :=
  let back := match s.stringOn (256 + i) with
    | some old => s.putN (0x2000 + old) 4 old
    | none => s
  match (s.sparesAt i).want with
  | some str => back.putN (0x2000 + str) 4 (256 + i)
  | none => back

/-- The course that a decided switch-in of spare i concerns. -/
def State.switchCourse (s : State) (i : Nat) : Option Nat :=
  let x := s.sparesAt i
  if x.decided then
    (match x.want with
     | some a => some a
     | none => s.stringOn (256 + i)).bind s.courseOfString
  else none

/-- The spares whose switch-in is decided for course k. -/
def State.switching (s : State) (k : Nat) : List Nat := (List.range 16).filter (fun i => s.switchCourse i == some k)

/-- The flips of canvas c that are due at the coming frame start of course k are decided at its fence (R188, R193). -/
def State.flipsDecided (s : State) (k c : Nat) : State :=
  let n := s.comingCounter k
  let t0 := s.comingStart k
  { s with oz := { s.oz with commits := s.oz.commits.map (fun p => { p with todo := p.todo.map (fun t =>
      if t.key = dkey (cvIx c) 8 ∧ t.cls = .frame k ∧ itemDue p t n t0 = true then { t with fenced := true } else t) }) } }

/-- The frame to come of course k before its matrix: the items due at its start, the decided switch-ins, its counter. -/
def State.previewBare (s : State) (k : Nat) : State :=
  let due := s.dueItems k (s.comingCounter k) (s.comingStart k)
  let s0 := due.foldl (fun s t => s.putKey t.key t.val) s
  let s1 := if due.any (fun t => t.key == dkey (colIx k) 6) then s0.colPut k { s0.colAt k with fixW := true } else s0
  (s1.each (s.switching k) State.moveString).putN (refIx k) 0x10 (s.comingCounter k)

/-- The frame to come of course k: with the matrix decided for it (R155). -/
def State.preview (s : State) (k : Nat) : State :=
  let s1 := s.previewBare k
  match (s1.colAt k).next with
  | some m => m.corr.foldl (fun s p => s.putF (emitIx p.1) 0x15 p.2) (s1.colPut k { s1.colAt k with inUse := some m })
  | none => s1

/-- A switch-in is decided for course k: the lane it needs is UP (R543). -/
def State.decideSpare (s : State) (k i : Nat) : State :=
  match s.wantedOf k i (s.comingCounter k) (s.comingStart k) with
  | none => s
  | some w =>
    let x := s.sparesAt i
    if w.isSome ∧ w.map s.laneOf = some (256 + i) then s
    else s.sparesPut i { x with want := w, decided := s.switchOk i w }

/-- The frame to come of course k is one that its decided switch-ins may make: the target white reachable (R265), and the maps, as
they will be, within V6 to V8 with the spares' offsets (R149, K3). -/
def State.switchFits (s : State) (k : Nat) : Bool :=
  let v := s.previewBare k
  ((v.primaries k).isEmpty || v.whiteReachable k (v.nextGains k true)) && v.placementOk k

/-- The switch-ins of course k are decided, in order; one that would not fit is refused, and its string stays (R149, R265). -/
def State.decideSpares (s : State) (k : Nat) : State :=
  s.each (List.range 16) (fun s i =>
    let s1 := s.decideSpare k i
    if s1.switchCourse i = some k ∧ s1.switchFits k = false then s1.sparesPut i { s1.sparesAt i with decided := false } else s1)

/-! ### Matrix, mesh copy and buffer -/

/-- The matrix of the coming frame of course k is decided (R245, R246). -/
def State.decideMatrix (s : State) (k : Nat) : State :=
  let c := s.colAt k
  let mode := s.nat (colIx k) 0x0E
  let force := c.forced || !(s.switching k).isEmpty ||
    (s.dueItems k (s.comingCounter k) (s.comingStart k)).any (fun t => colourKey t.key)
  let v := s.previewBare k
  if v.primaries k = [] then s.colPut k { c with ready := none, next := none, nextForced := false }
  else if force then
    let m := v.newMatrix k (!(s.switching k).isEmpty)
    { (s.colPut k { c with ready := none, next := some m, nextForced := true }) with free := s.free + 256 }
  else if (mode = 1 ∨ mode = 2) ∧ c.lastNew + s.nat (colIx k) 0x10 * tMs ≤ s.clk.up then
    let s1 := s.colPut k { c with ready := none, next := c.ready, nextForced := false }
    if c.ready.isSome then s1 else (s1.setFlag (colIx k) 0x17 7 true).bump 0x27E0 2
  else s.colPut k { c with ready := none, next := none, nextForced := false }

/-- The mesh copy of the coming frame of course k is decided (R207). -/
def State.decideMesh (s : State) (k : Nat) : State :=
  let f := s.fetAt k
  let mesh := 4 * k + (s.previewBare k).nat (0x2680 + k) 1
  match s.readyCopy mesh with
  | some c =>
    let s1 := s.fetPut k { f with nextMesh := some (mesh, c) }
    if f.mesh = some (mesh, c) then s1 else s1.bump (0x2600 + mesh) 7
  | none => (s.fetPut k { f with nextMesh := f.mesh }).bump (0x2680 + k) 0x15

/-- The buffer of the coming frame of course k is decided on the canvas that its decided copy names (R188, R207). -/
def State.decideNextBuffer (s : State) (k : Nat) : State :=
  match s.canvasNext k with
  | none => s.fetPut k { s.fetAt k with nextBuffer := none }
  | some c =>
    let r := (s.flipsDecided k c).decideBuffer k c
    r.1.fetPut k { r.1.fetAt k with nextBuffer := r.2 }

/-- Everything that a course decides at its fence (R154, R188, R207, R245, R335). Mesh and buffer that a repeat frame has not
taken stand as they were decided (R99, log 47). -/
def State.decideFrame (s : State) (k : Nat) : State :=
  let s0 := (s.decideSpares k).decideMatrix k
  let s1 := if (s.fetAt k).carried then s0 else (s0.decideMesh k).decideNextBuffer k
  s1.fetPut k { s1.fetAt k with decided := true, scheduledNext := 0 }

/-! ### Bows to fetch -/

/-- Centre of bow m by the latest snapshot of course k, in slots (R131). -/
def State.centreOf (s : State) (k m : Nat) : Rat :=
  match (s.bowAt k).snap with
  | some n => n.c + (((m : Int) - (n.bow : Int) : Int) : Rat) * n.hp
  | none => (s.bowAt k).c + (((m : Int) - ((s.bowAt k).bow : Int) : Int) : Rat) * (s.bowAt k).hp

/-- Direction of bow m of course k. -/
def State.forwardOf (s : State) (k m : Nat) : Bool :=
  let b := s.bowAt k
  if (m + b.bow) % 2 = 0 then b.forward else !b.forward

/-- The bow expected to be bow 0 of the coming frame (R150). -/
def State.comingFirst (s : State) (k : Nat) : Nat :=
  let b := s.bowAt k
  let t : Rat := (s.clk.slot : Rat) + ((s.comingStart k - (s.clk.tai : Int) : Int) : Rat) / (tSlot : Rat)
  let n := if b.hp = 0 then 1 else ((t - (s.centreOf k b.bow - b.hp / 2)) / b.hp).ceil
  let m := b.bow + (if n < 1 then 1 else n.toNat)
  if s.dirUsed k (s.forwardOf k m) then m else m + 1

/-- The number of active bow i of the frame in progress, or as expected of the coming one. -/
def State.bowOfActive (s : State) (k : Nat) (next : Bool) (i : Nat) : Option Nat :=
  if next then some (s.comingFirst k + i * (s.preview k).bowStep k)
  else (s.plcAt k).firstBow.map (fun b => b + i * s.bowStep k)

/-- The state that the bows of a frame use: the present one, or the frame to come (R155). -/
def State.frameView (s : State) (k : Nat) (next : Bool) : State := if next then s.preview k else s

/-- Shaft position expected at the coming frame start (log 40). -/
def State.comingShaft (s : State) (k : Nat) : Int :=
  let j := s.nat (0x2680 + k) 7
  s.shaftPos j + (s.shaftRate j * (s.comingStart k - (s.clk.tai : Int))) / (tS : Int)

/-- Δ of a bow (R210, R212). -/
def State.bowDelta (s : State) (k m : Nat) (next : Bool) : Rat :=
  let v := s.frameView k next
  let f := s.fetAt k
  if v.shaftUncertain k then f.delta
  else v.shaftDelta k (s.centreOf k m) (if next then v.comingShaft k else f.frameP)
    (if next then v.shaftPredicted k else f.frameN)

/-- The bow as fetch schedules it: offset, and tiles named by canvas, buffer and tile (R211, R219). -/
def State.newFetchBow (s : State) (k m i : Nat) (next : Bool) : FetchBow :=
  let v := s.frameView k next
  let f := s.fetAt k
  let d := s.bowDelta k m next
  let ox := v.fix (0x2680 + k) 8 * d
  let oy := v.fix (0x2680 + k) 9 * d
  let mesh := if next then f.nextMesh else f.mesh
  let buf := if next then f.nextBuffer else f.buffer
  let fwd := s.forwardOf k m
  { next := next, bow := m, forward := fwd, active := i, mesh := mesh, buffer := buf, ox := ox, oy := oy, levels := none,
    tiles := match mesh, buf with
      | some c, some b =>
        let cv := s.copyCanvas c
        if v.cvUsed cv then
          (v.bowTiles k (s.copyAt c.1 c.2) fwd i cv ox oy).map (tileKey cv b)
        else []
      | _, _ => [] }

/-- Fetch and render run (R221). -/
def State.fetchRuns (s : State) (k : Nat) : Bool := s.cst k == 3 || s.cst k == 4 || s.cst k == 5

/-- Whether the next bow to schedule is of the coming frame, its index, if there is one (R220). -/
def State.nextToFetch (s : State) (k : Nat) : Option (Bool × Nat) :=
  let f := s.fetAt k
  if f.fetching ∧ f.scheduled < s.nat (crs k) 0x11 then some (false, f.scheduled)
  else if f.decided ∧ f.scheduledNext < (s.preview k).nat (crs k) 0x11 then some (true, f.scheduledNext)
  else none

/-- FETCH_SCHEDULE: fetch schedules its next bow, within the prefetch depth and while tile slots are free (R211, R219 to
R221). -/
def execFetchSchedule (k : CourseId) (s : State) : Host.Outcome State Fault Refusal :=
  .next (
    if s.fetchRuns k.val = false ∨ (s.bowAt k.val).seeded = false then s
    else
      match s.nextToFetch k.val with
      | none => s
      | some (next, i) =>
        match s.bowOfActive k.val next i with
        | none => s
        | some m =>
          let f := s.fetAt k.val
          if (s.bowAt k.val).bow + s.nat (0x2680 + k.val) 0x0E < m ∨ s.tileSlots k.val ≤ f.resident.length then s
          else
            let b := s.newFetchBow k.val m i next
            let f1 := if next then { f with scheduledNext := i + 1 } else { f with scheduled := i + 1 }
            ((s.fetPut k.val { f1 with
              bows := f.bows ++ [b], delta := s.bowDelta k.val m next }).putX (0x2680 + k.val) 0x18 b.ox).putX
                (0x2680 + k.val) 0x19 b.oy)

/-! ### Residency and watermarks (R218, R223, R224) -/

/-- The tiles that a bow not yet scheduled would need, as fetch would schedule it now (R219, log 170). -/
def State.unscheduledTiles (s : State) (k : Nat) (next : Bool) (i : Nat) : List Nat :=
  match s.bowOfActive k next i with
  | some m => (s.newFetchBow k m i next).tiles
  | none => []

/-- The tiles that decided bows not yet scheduled need: of the frame in progress and of the frame to come. -/
def State.laterTiles (s : State) (k : Nat) : List Nat :=
  let f := s.fetAt k
  let cur := if f.fetching then (List.range (s.nat (crs k) 0x11)).drop f.scheduled else []
  let nxt := if f.decided then (List.range ((s.preview k).nat (crs k) 0x11)).drop f.scheduledNext else []
  cur.flatMap (s.unscheduledTiles k false) ++ nxt.flatMap (s.unscheduledTiles k true)

/-- Tiles of a bow that is committed, or let go, are released: those that no other bow to be rendered needs, and poisoned ones
(R218, R226). -/
def State.releaseTiles (s : State) (k : Nat) (b : FetchBow) : State :=
  let f := s.fetAt k
  let need (t : Nat) : Bool := f.bows.any (fun x => x.levels.isNone && x.tiles.contains t)
  let free (t : Nat) : Bool := b.tiles.contains t && (!need t || f.poisoned.contains t)
  if f.resident.any free then
    let later := s.laterTiles k
    let gone (t : Nat) : Bool := free t && (!later.contains t || f.poisoned.contains t)
    s.fetPut k { f with resident := f.resident.filter (fun t => !gone t), poisoned := f.poisoned.filter (fun t => !gone t) }
  else s

/-- The tiles of a scheduled bow are all resident, or it is rendered. -/
def FetchSt.bowReady (f : FetchSt) (b : FetchBow) : Bool := b.levels.isSome || b.tiles.all (fun t => f.resident.contains t)

/-- Active bow i of the frame in progress or to come counts as resident: the tiles it needs are all resident, whether fetch has
scheduled it or not (R223). -/
def State.indexCounts (s : State) (k : Nat) (next : Bool) (m i : Nat) : Bool :=
  let f := s.fetAt k
  match f.bows.find? (fun b => b.next == next && b.active == i) with
  | some b => f.bowReady b
  | none => (s.newFetchBow k m i next).tiles.all (fun t => f.resident.contains t)

/-- Bow m counts as resident: it needs no tiles, or they are all resident. A bow of a frame not yet decided ends the count
(R223). -/
def State.bowCounts (s : State) (k m : Nat) : Bool :=
  let f := s.fetAt k
  match s.activeIndex k m with
  | some i => s.indexCounts k false m i
  | none =>
    let m0 := s.comingFirst k
    if m < m0 then true
    else
      let v := s.preview k
      if f.decided = false then false
      else if (m - m0) % v.bowStep k ≠ 0 then true
      else if v.nat (crs k) 0x11 ≤ (m - m0) / v.bowStep k then false
      else s.indexCounts k true m ((m - m0) / v.bowStep k)

/-- Consecutive bows from m on that count, up to a limit. -/
def State.countFrom (s : State) (k : Nat) : Nat → Nat → Nat
  | 0, _ => 0
  | n + 1, m => if s.bowCounts k m then s.countFrom k n (m + 1) + 1 else 0

/-- Resident count of course k, capped at 255 (R223). -/
def State.residentCount (s : State) (k : Nat) : Nat := s.countFrom k 255 ((s.bowAt k).bow + 1)

/-- Watermark level of a count (Table 6.6). -/
def levelOfCount (n : Nat) : Nat := if 4 ≤ n then 0 else if 2 ≤ n then 1 else 2

/-- Resident count and watermark are evaluated, while fetch runs (R221, R224), and published to the DRAM controller. -/
def State.refreshWater (s : State) (k : Nat) : State :=
  if s.fetchRuns k then
    let n := s.residentCount k
    let old := s.nat (0x2680 + k) 0x10
    let lev := levelOfCount n
    let s1 := ((if lev = old then s else s.drainAll).putN (0x2680 + k) 0x0F n).putN (0x2680 + k) 0x10 lev
    let s2 := if lev = old then s1 else if lev = 1 then s1.bump (0x2680 + k) 0x11 else
      if lev = 2 then s1.bump (0x2680 + k) 0x12 else s1
    s2.panicRefresh
  else s

/-- Address and size of a tile of a buffer in the data class. -/
def State.tileSpan (s : State) (tile : Nat) : Nat × Nat :=
  let c := tile / 2 ^ 22
  let size := 256 * pixelBytes (s.cvLayout c)
  (s.bufBase c (tile / 2 ^ 20 % 4) + tile % 2 ^ 20 * size, size)

/-- A unit of a tile is poisoned in DRAM (R226, R450). -/
def State.tilePoison (s : State) (tile : Nat) : Bool :=
  let sp := s.tileSpan tile
  (unitStarts sp.1 sp.2).any (fun a => s.mem.poison.contains (s.mem.unitOf (s.mem.dataClass a).1 (s.mem.dataClass a).2))

/-- A tile of a scheduled bow is marked poisoned (R226). -/
def State.poisonTile (s : State) (k tile : Nat) : State :=
  let f := s.fetAt k
  (s.fetPut k { f with poisoned := f.poisoned.filter (· != tile) ++ [tile] }).bump (0x2680 + k) 0x14

/-- TILE_ARRIVAL: a tile that a scheduled bow needs arrives in a free tile slot (R218, R224, R226). -/
def execTileArrival (k : CourseId) (tile : Nat) (poisoned : Bool) (s : State) : Host.Outcome State Fault Refusal :=
  let f := s.fetAt k.val
  .next (
    if s.fetchRuns k.val ∧ f.resident.contains tile = false ∧ f.resident.length < s.tileSlots k.val ∧
        f.bows.any (fun b => b.levels.isNone && b.tiles.contains tile) = true then
      let s1 := (s.fetPut k.val { f with resident := f.resident ++ [tile] }).add64 (0x2680 + k.val) 0x13 1
      (if poisoned || s.tilePoison tile then s1.poisonTile k.val tile else s1).refreshWater k.val
    else s)

/-! ### Faults of the fetch store (R227) -/

/-- A bank is to be retired at the next frame start of its course. -/
def State.retireBank (s : State) (k bank : Nat) : State :=
  let f := s.fetAt k
  if f.retire.contains bank ∨ s.svc.retired.contains bank then s else s.fetPut k { f with retire := f.retire ++ [bank] }

/-- FETCH_STORE_ERROR: a bank's word was corrected, or was not; the second poisons the tile it holds (R227). -/
def execFetchStoreError (k : CourseId) (bank : Fin 258) (tile : Nat) (uncorrectable : Bool) (s : State) :
    Host.Outcome State Fault Refusal :=
  .next (
    if uncorrectable then
      let s1 := (s.bump 0x26F0 5).retireBank k.val bank.val
      if (s1.fetAt k.val).resident.contains tile then s1.poisonTile k.val tile else s1
    else
      let l := (tgetD s.svc.bankErrors [] bank.val).filter (fun t => decide (s.clk.up < t + 86400 * tS)) ++ [s.clk.up]
      let s1 : State := { s with svc := { s.svc with bankErrors := tput s.svc.bankErrors [] bank.val l } }
      let s2 := s1.bump 0x26F0 4
      if 16 ≤ l.length then s2.retireBank k.val bank.val else s2)

/-- A bank is retired at a frame start: a spare takes its place, or the partition shrinks (R227). -/
def State.retireOne (k : Nat) (s : State) (bank : Nat) : State :=
  let s1 := ({ s with svc := { s.svc with
    retired := s.svc.retired ++ [bank], bankErrors := terase s.svc.bankErrors bank } } : State).bump 0x26F0 3
  let s2 := s1.recover 12 0 0 k
  if 0 < s.nat 0x26F0 2 then (s2.putN 0x26F0 2 (s.nat 0x26F0 2 - 1)).switchIn 7 bank (258 - s.nat 0x26F0 2)
  else s2.fetPut k { s2.fetAt k with shrunk := (s2.fetAt k).shrunk + 1 }

def State.retireBanks (s : State) (k : Nat) : State :=
  let l := (s.fetAt k).retire
  (s.each l (State.retireOne k)).fetPut k { (s.each l (State.retireOne k)).fetAt k with retire := [] }

end Sys2Proof.Machine
end

