-- ==== Sys2Proof/Machine/Render.lean ====
section
/-! DEFINITION. The render slice: resampling, the levels of a bow, the release of its tiles, and slice faults (R213 to R216,
R218, R222, R226, R228 to R230, R232). -/

namespace Sys2Proof.Machine

open Sys2Proof

/-- The largest code of a layout (R234). -/
def layoutMax (layout : Nat) : Nat := if layout = 0 then 65535 else if layout = 3 then 1023 else 255

/-- The components R, G, B and A of a pixel's number (Table 5.1). -/
def pixelCodes (layout v : Nat) : List Nat :=
  match layout with
  | 0 => [v, v, v, 0]
  | 1 => [bits v 7 0, bits v 15 8, bits v 23 16, 0]
  | 2 => [bits v 7 0, bits v 15 8, bits v 23 16, bits v 31 24]
  | _ => [bits v 9 0, bits v 19 10, bits v 29 20, 0]

/-- The components of a pixel of a buffer. -/
def State.pixelAt (s : State) (canvas buffer x y : Nat) : List Nat :=
  let lay := s.cvLayout canvas
  pixelCodes lay (leNat (s.dataRead (s.bufBase canvas buffer + pixelOffset (s.cvWidth canvas) lay x y) (pixelBytes lay)))

/-- The components that a tap reads: 0 outside the canvas with edge mode 0 (R215). -/
def State.tapCodes (s : State) (k canvas buffer : Nat) (x y : Int) : List Nat :=
  match tapPixel (s.nat (0x2680 + k) 3) (s.cvWidth canvas) (s.cvHeight canvas) x y with
  | some p => s.pixelAt canvas buffer p.1 p.2
  | none => [0, 0, 0, 0]

/-- One component resampled at a position (R213, R214, R216): clamped, with 6 fractional bits, halves upward. -/
def State.resample (s : State) (k canvas buffer : Nat) (p : Rat × Rat) (comp : Nat) : Rat :=
  let fl := s.nat (0x2680 + k) 2
  let tx := tapOf p.1
  let ty := tapOf p.2
  let xs := (tapRange fl).zip (weights fl tx.2)
  let ys := (tapRange fl).zip (weights fl ty.2)
  let v : Int := (ys.map (fun wy => wy.2 * (xs.map (fun wx =>
    wx.2 * (((s.tapCodes k canvas buffer (tx.1 + wx.1) (ty.1 + wy.1)).getD comp 0 : Nat) : Int))).sum)).sum
  let q : Rat := (v : Rat) / (16384 * 16384)
  (roundHalfUp (64 * clampR 0 (layoutMax (s.cvLayout canvas)) q) : Rat) / 64

/-- Stages 1 to 3 of a sample: linear light (Table 7.1). -/
def State.sampleLight (s : State) (k canvas buffer : Nat) (p : Rat × Rat) : V3 :=
  let lay := s.cvLayout canvas
  let norm (i : Nat) : Rat := s.resample k canvas buffer p i / (layoutMax lay : Rat)
  let e := s.decodeLight k (norm 0, norm 1, norm 2)
  if lay = 2 then scale3 (norm 3) e else e

/-- What course k reads for one bow: the copy's number, canvas and buffer, and the poisoned tiles. -/
structure RenderCtx where
  copy : Nat × Nat
  canvas : Nat
  buffer : Nat
  poisoned : List Nat

/-- The level of a sample of a string at a fret, and whether stage 4 clamped it (R232, R247): 0 outside the mesh, and with a
tap in a poisoned tile (R226). -/
def State.sampleLevel (s : State) (k : Nat) (f : FetchBow) (c : RenderCtx) (m : FretMap) (str i : Nat) : Nat × Bool :=
  let rp := s.rowPrimary k str
  let l := s.laneOf str
  match s.samplePos k (s.copyAt c.copy.1 c.copy.2) m f.forward f.active rp.1 l i f.ox f.oy with
  | none => (0, false)
  | some p =>
    if (s.tapPixels k c.canvas p).any (fun x => c.poisoned.contains (tileKey c.canvas c.buffer (s.tileOf c.canvas x.1 x.2)))
    then (0, false)
    else
      let e := s.sampleLight k c.canvas c.buffer p
      let w := s.driveOf k rp.2 e
      let light := s.lightOf k str l rp.2 (m.fast i) (s.slowAngle k f.active rp.1 l) e
      (s.levelOf k l rp.2 (s.nat (refIx k) 0x10) i (f.active * s.nat (crs k) 7 + rp.1) light,
        decide (w < 0) || decide (1 < w))

/-- The levels of a string in a bow, fret by fret; the harmonic band carries none. -/
def State.stringLevels (s : State) (k : Nat) (f : FetchBow) (c : Option RenderCtx) (m : FretMap) (str : Nat) :
    List (Nat × Bool) :=
  (List.range m.frets.length).map (fun i =>
    match c with
    | some c => if m.inBand i then (0, false) else s.sampleLevel k f c m str i
    | none => (0, false))

/-- A bow rendered: per string its levels, and whether any sample was clamped. -/
def State.renderBow (s : State) (k : Nat) (f : FetchBow) (poisoned : List Nat) : List (Nat × List Nat) × Bool :=
  match s.mapOf k f.forward with
  | none => ([], false)
  | some m =>
    let c : Option RenderCtx := match f.mesh, f.buffer with
      | some p, some b =>
        if s.cvUsed (s.copyCanvas p) then
          some { copy := p, canvas := s.copyCanvas p, buffer := b, poisoned := poisoned }
        else none
      | _, _ => none
    let l := (s.stringsOf k).map (fun str => (str, s.stringLevels k f c m str))
    (l.map (fun q => (q.1, q.2.map (·.1))), l.any (fun q => q.2.any (·.2)))

/-- BOW_RENDER: the first bow that is not rendered is rendered, once its tiles are resident and no earlier than three bows
before it (R222). -/
def execBowRender (k : CourseId) (s : State) : Host.Outcome State Fault Refusal :=
  let f := s.fetAt k.val
  .next (
    if s.fetchRuns k.val = false then s
    else
      match f.bows.find? (fun b => b.levels.isNone) with
      | none => s
      | some b =>
        if f.bowReady b = false ∨ (s.bowAt k.val).bow + 3 < b.bow then s
        else
          let r := (s.frameView k.val b.next).renderBow k.val b f.poisoned
          let f1 := { f with bows := f.bows.map (fun x => if x = b then { x with levels := some r.1 } else x) }
          let s1 := (s.fetPut k.val f1).releaseTiles k.val b
          let c := s1.colAt k.val
          if r.2 then
            s1.colPut k.val (if b.next then { c with clampedNext := true } else { c with clamped := true })
          else s1)

/-! ### Slice faults (R229, R230) -/

/-- The course that a render slice serves. -/
def State.sliceCourse (s : State) (slice : Nat) : Option Nat := allCourses.find? (fun k => s.nat (0x2680 + k) 0x16 == slice)

/-- A slice is failed (26F0:09). -/
def State.sliceFailed (s : State) (slice : Nat) : Bool := s.flag 0x26F0 9 slice

/-- The lowest slice that is neither assigned nor failed. -/
def State.spareSlice (s : State) : Option Nat :=
  (List.range 36).find? (fun x => !s.sliceFailed x && (s.sliceCourse x).isNone)

/-- RENDER_SLICE_FAULT: a slice is marked failed; a spare serves its course from the first bow not committed, or the course
is hushed (R229, R230). -/
def execRenderSliceFault (slice : Fin 36) (s : State) : Host.Outcome State Fault Refusal :=
  .next (
    if s.sliceFailed slice.val then s
    else
      let s1 := s.setFlag 0x26F0 9 slice.val true
      match s.sliceCourse slice.val with
      | none => s1
      | some k =>
        match s1.spareSlice with
        | some x => (((s1.putN (0x2680 + k) 0x16 x).bump (0x2680 + k) 0x17).switchIn 2 slice.val x).recover 1 0 (4 * tUs) k
        | none => (s1.setCause k 4).recover 2 4 (4 * tUs) k)

end Sys2Proof.Machine
end

