-- ==== Sys2Proof/Machine/Capture.lean ====
section
/-! DEFINITION. The sympathetic path: capture inputs, harmonic records, fiducial events, capture frames and streams
(R270 to R303). What the inputs see comes from outside the part, with HARMONIC_RECORD (log 42). -/

namespace Sys2Proof.Machine

open Sys2Proof

def capIx (k : Nat) : Nat := 0x2800 + k
def inIx (x : Nat) : Nat := 0x2820 + x
def strIx (s : Nat) : Nat := 0x2880 + s

/-! ### Inputs (R270 to R276) -/

/-- The course that an input is bound to (2820 + x:01). -/
def State.inputCourse (s : State) (x : Nat) : Option Nat := allCourses.find? (fun k => s.nat (capIx k) 1 == x)

/-- The state of an input (Table 8.1). The stored state is 2 while it is suspect, and 3 once it has failed. -/
def State.inputState (s : State) (x : Nat) : Nat :=
  if s.nat (inIx x) 2 = 3 then 3
  else if (s.inputCourse x).isNone then 0
  else if s.nat (inIx x) 2 = 2 then 2 else 1

/-- LIT time of the course that input x is bound to. -/
def State.inputLit (s : State) (x : Nat) : Nat :=
  match s.inputCourse x with
  | some k => s.litTimeNow k
  | none => 0

/-- n seconds of LIT time of input x's course have passed since an instant of it (R275). -/
def State.litFor (s : State) (x : Nat) (since : Option Nat) (n : Nat) : Bool :=
  since.any (fun t => decide (t + n * tS ≤ s.inputLit x))

/-- The input of course k, if it has one. -/
def State.inputOf (s : State) (k : Nat) : Option Nat := if s.nat (capIx k) 1 ≤ 33 then some (s.nat (capIx k) 1) else none

/-- Spare inputs neither bound nor failed (28F0:05). -/
def State.spareInputs (s : State) : List Nat := [32, 33].filter (fun x => s.inputState x == 0)

/-- CAPTURE_INPUT_SUSPECT: the dark level has been outside the dark window for 1 s of LIT time (R275); offered. -/
def execCaptureInputSuspect (x : InputId) (s : State) : Host.Outcome State Fault Refusal :=
  .next (
    if s.inputState x.val = 1 ∧ s.litFor x.val (s.inputsAt x.val).outSince 1 = true then
      (((s.inputsPut x.val { s.inputsAt x.val with suspectAt := s.inputLit x.val }).putN (inIx x.val) 2 2).bump (inIx x.val)
        0x0A).offer .input x.val true
    else s)

/-- CAPTURE_INPUT_FAILED: every sample has lain within a span of 2 codes for 1 s, or the input has been suspect for 60 s, of LIT
time (R275); offered. -/
def execCaptureInputFailed (x : InputId) (s : State) : Host.Outcome State Fault Refusal :=
  let y := s.inputsAt x.val
  .next (
    if ((s.inputState x.val = 1 ∨ s.inputState x.val = 2) ∧ s.litFor x.val (y.flat.map (·.2.2)) 1 = true) ∨
        (s.inputState x.val = 2 ∧ s.litFor x.val (some y.suspectAt) 60 = true) then
      (s.putN (inIx x.val) 2 3).offer .input x.val false
    else s)

/-- CAPTURE_INPUT_RECOVER: the suspect condition has been absent for 10 s of LIT time (R275). -/
def execCaptureInputRecover (x : InputId) (s : State) : Host.Outcome State Fault Refusal :=
  .next (
    if s.inputState x.val = 2 ∧ s.litFor x.val (s.inputsAt x.val).inSince 10 = true then s.putN (inIx x.val) 2 0 else s)

/-! ### Streams (R297 to R299) -/

/-- The streams of a kind of content of course k. -/
def State.streamsOf (s : State) (k content : Nat) : List Nat :=
  (List.range 16).filter (fun i => s.nat (strIx i) 1 != 0 && s.nat (strIx i) 2 == content && s.nat (strIx i) 3 == k)

/-- Records go to every stream of their kind; one that finds no room in the stream's queue is dropped and counted (R13, R285,
R297). -/
def State.toStreams (s : State) (k content : Nat) (rec_ : List Byte) : State :=
  s.each (s.streamsOf k content) (fun s i =>
    let x := s.cstreamsAt i
    if s.hasCredit (useStream i) then (s.cstreamsPut i { x with batch := x.batch ++ [rec_] }).queuePush (useStream i)
    else s.bump (strIx i) 0x0C)

/-- Payloads of at most n bytes: (offset, bytes). -/
def payloads (n : Nat) : Nat → Nat → List Byte → List (Nat × List Byte)
  | 0, _, _ => []
  | f + 1, off, b => if b.length ≤ n then [(off, b)] else (off, b.take n) :: payloads n f (off + n) (b.drop n)

/-- One packet of stream i (Table 8.12). -/
def State.sendPacket (s : State) (i unit total : Nat) (poisoned : Bool) (p : Nat × List Byte) : State :=
  let seq := (s.nat (strIx i) 0x0D + 1) % 2 ^ 32
  let last := decide (p.1 + p.2.length = total)
  let b := [0x4F, 0x53, 0x01] ++ leBytes 1 (s.nat (strIx i) 2) ++ leBytes 1 i ++ leBytes 1 (s.nat (strIx i) 3) ++
    leBytes 1 ((if last then 1 else 0) + if poisoned then 2 else 0) ++ [0x00] ++ leBytes 4 seq ++ leBytes 4 unit ++
    leBytes 4 p.1 ++ leBytes 4 total ++ leBytes 2 p.2.length ++ List.replicate 6 0 ++ p.2
  (((s.putN (strIx i) 0x0D seq).add64 (strIx i) 0x0B 1)).send
    (.packet (s.nat (strIx i) 1 - 1) (s.nat (strIx i) 4) (s.nat (strIx i) 5) (b ++ leBytes 4 (crc32c b)))

/-- A completion of a buffer descriptor, if a completion ring is named (R299). -/
def State.streamDone (s : State) (i tag status written unit : Nat) : State :=
  let s1 := s.ringTake (s.nat (strIx i) 7)
  if s.nat (strIx i) 8 = 0 then s1
  else s1.ringPush (s.nat (strIx i) 8)
    (leBytes 4 tag ++ leBytes 1 status ++ leBytes 1 (s.nat (strIx i) 2) ++ [0x00, 0x00] ++ leBytes 4 written ++
      leBytes 4 unit)

/-- A unit is sent on stream i: packets, or the next waiting descriptor's buffer (R298, R299). The stream's rate limit holds the next
one back (R297). -/
def State.sendUnit (s : State) (i : Nat) (b : List Byte) (poisoned : Bool) : State :=
  let x := s.cstreamsAt i
  let unit := (x.unit + 1) % 2 ^ 32
  let y := { x with unit := unit, busyTo := s.clk.up + 8 * b.length * tUs / s.nat (strIx i) 6 }
  let s1 := (s.cstreamsPut i y).bump (strIx i) 9
  if s.nat (strIx i) 1 = 3 then
    match x.descs with
    | [] => s
    | (addr, len, tag) :: r =>
      let d := b.take len
      (((s1.cstreamsPut i { y with descs := r }).send (.hostWrite addr d)).streamDone i tag
        (if len < b.length then stLength else stOk) d.length unit)
  else (payloads (s.nat (strIx i) 0x0E) b.length 0 b).foldl (fun s p => s.sendPacket i unit b.length poisoned p) s1

/-- A unit that finds no descriptor is skipped (R299). -/
def State.noDesc (s : State) (i : Nat) : Bool := s.nat (strIx i) 1 == 3 && (s.cstreamsAt i).descs.isEmpty

/-- The completion ring of stream i has room, or there is none. -/
def State.streamRoom (s : State) (i : Nat) : Bool :=
  s.nat (strIx i) 1 != 3 || s.nat (strIx i) 8 == 0 || s.ringHasRoom (s.nat (strIx i) 8)

/-- The 64-byte blocks of a capture unit: affected ones read as zero (R300). -/
def State.capBlocks (s : State) (base : Nat) : Nat → Nat → List Byte × Bool
  | 0, _ => ([], false)
  | n + 1, i =>
    let a := base + 64 * i
    let bad := s.mem.poison.contains (s.mem.unitOf (s.mem.dataClass a).1 (s.mem.dataClass a).2)
    let r := s.capBlocks base n (i + 1)
    ((if bad then List.replicate 64 0 else s.dataRead a 64) ++ r.1, bad || r.2)

/-- The capture buffer at an address, wherever it is listed. -/
def State.bufferAt (s : State) (base : Nat) : Option CapBuf :=
  (allCourses.flatMap (fun k => (s.captAt k).bufs ++ (s.captAt k).old)).find? (fun b => b.base == base && b.frame.isSome)

/-- Bytes of a capture frame as a unit. -/
def CapFrame.bytes (f : CapFrame) : Nat := 64 + f.rowCount * f.rowLength

/-- Stream i sends what it has, once its rate limit lets it: its capture frame, or a batch of up to 64 records; a batch without a
descriptor is skipped (R297 to R299). -/
def State.streamFlush (s : State) (i : Nat) : State :=
  let x := s.cstreamsAt i
  if s.nat (strIx i) 1 = 0 ∨ s.streamRoom i = false ∨ s.clk.up < x.busyTo then s
  else if s.nat (strIx i) 2 = 0 then
    match x.holding with
    | none => s
    | some base =>
      if x.sent ∨ s.noDesc i then s
      else
        match (s.bufferAt base).bind (·.frame) with
        | none => s
        | some f =>
          let r := s.capBlocks base (ceilDiv f.bytes 64) 0
          let b := if r.2 then r.1.set 7 (r.1.getD 7 0 ||| 2) else r.1
          (s.cstreamsPut i { x with sent := true }).sendUnit i (b.take f.bytes) r.2
  else if x.batch.isEmpty then s
  else
    let n := min 64 x.batch.length
    let s1 := (List.range n).foldl (fun s _ => s.queueCommit (useStream i)) (s.cstreamsPut i { x with batch := x.batch.drop 64 })
    if s.noDesc i then s1.bump (strIx i) 0x0A else s1.sendUnit i (x.batch.take 64).flatten false

/-- STREAM_UNIT_SEND. -/
def execStreamUnitSend (i : StreamId) (s : State) : Host.Outcome State Fault Refusal := .next (s.streamFlush i.val)

/-- STREAM_BATCH_TIMER: 10 ms have passed; a partial batch is sent (R298). -/
def execStreamBatchTimer (i : StreamId) (s : State) : Host.Outcome State Fault Refusal :=
  .next (if s.nat (strIx i.val) 2 = 0 then s else s.streamFlush i.val)

/-- A buffer descriptor is good (R299): its op, and zero in every byte that is no field; the flags are reserved (R6). -/
def streamDescOk (d : List Byte) : Bool :=
  leAt d 0 1 == 0x11 && leAt d 2 2 == 0 && leAt d 8 8 == 0 && leAt d 28 4 == 0

/-- STREAM_BUFFER_DESCRIPTOR: a host-ring stream reads a descriptor; a bad one is completed at once, a good one takes the
unit that is ready, or waits for one (R299). -/
def execStreamBufferDescriptor (i : StreamId) (desc : List Byte) (s : State) : Host.Outcome State Fault Refusal :=
  let x := s.cstreamsAt i.val
  .next (
    if s.nat (strIx i.val) 1 = 3 ∧ s.ringHasEntry (s.nat (strIx i.val) 7) ∧
        x.descs.length < (s.ringAt (s.nat (strIx i.val) 7)).outstanding ∧ s.streamRoom i.val then
      if streamDescOk desc then
        (s.cstreamsPut i.val { x with
          descs := x.descs ++ [(leAt desc 16 8, leAt desc 4 4, leAt desc 24 4)] }).streamFlush i.val
      else s.streamDone i.val (leAt desc 24 4) stRange 0 x.unit
    else s)

/-! ### Samples (R271 to R274, R277) -/

/-- Voff of input x at an instant in 1/64 slot, in µV: (Vpeg − 1.25 V) × 0.4 with the code that its peg drove then (R271, R399). -/
def State.inputOffset (s : State) (x t64 : Nat) : Rat :=
  let p := s.pegsAt (336 + x)
  let code := if t64 < 64 * p.loadedAt then p.before else p.code
  ((code : Rat) * 2500000 / 16384 - 1250000) * (4 / 10)

/-- The code of a sample of so many µV (R271), halves upward (log 173). -/
def sampleCode (off : Rat) (v : Int) : Nat :=
  (clampI 0 4095 (roundHalfUp (2048 + 4096 * ((v : Rat) - off) / 1000000))).toNat

/-- A code is overrange (R271). -/
def overCode (c : Nat) : Bool := c == 0 || c == 4095

/-- The samples of a run that input x takes, from an instant in 1/64 slot on: instants by R272, and codes. -/
def State.runSamples (s : State) (x start : Nat) (r : SampleRun) : List (Nat × Nat) :=
  let ph := s.nat (inIx x) 3
  (r.volts.zipIdx).filterMap (fun p =>
    let t := (r.slot + p.2 / 2) * 64 + ph + 32 * (p.2 % 2)
    if start ≤ t then some (t, sampleCode (s.inputOffset x t) p.1) else none)

/-- A code joins those that have all lain within a span of 2 codes, or begins anew (R275). -/
def InputSt.seen (lit : Nat) (x : InputSt) (c : Nat) : InputSt :=
  match x.flat with
  | some (lo, hi, t) =>
    if max hi c - min lo c ≤ 2 then { x with flat := some (min lo c, max hi c, t) } else { x with flat := some (c, c, lit) }
  | none => { x with flat := some (c, c, lit) }

/-- Input x of course k samples (R271, R272): overrange codes are counted. -/
def State.takeSamples (s : State) (k x : Nat) (r : SampleRun) : State :=
  let y := s.captAt k
  let l := s.runSamples x y.nextAt r
  let s1 := s.captPut k { y with
    samples := y.samples ++ l
    nextAt := match l.getLast? with
      | some p => p.1 + 1
      | none => y.nextAt }
  let n := (l.filter (fun p => overCode p.2)).length
  let s2 := if n = 0 then s1 else s1.addSat (inIx x) 8 n
  s2.inputsPut x (l.foldl (fun y p => y.seen (s.litTimeNow k) p.2) (s.inputsAt x))

/-- t_e: the instant at which the light of a sample left the emitters, in slots (R273). -/
def State.emissionTime (s : State) (x t64 : Nat) : Rat := (t64 : Rat) / 64 - (s.int (inIx x) 4 : Rat) / 2500

/-- T(f) of an angle in a bow: no beam offset or latency is applied (R277). -/
def PlacedBow.timeOf (b : PlacedBow) (f : Rat) : Rat :=
  let t := b.hp * asinR (f / b.a) / piR
  b.c + (if b.forward then t else -t)

/-- Start and end of a bow on its snapshot (R277). -/
def PlacedBow.start (b : PlacedBow) : Rat := b.c - b.hp / 2
def PlacedBow.finish (b : PlacedBow) : Rat := b.c + b.hp / 2

/-- Samples between bounds, one list of codes for each pair of neighbours; samples and bounds rise. -/
def tagSamples : List Rat → List (Rat × Nat) → List (List Nat)
  | t :: u :: r, l =>
    let l1 := l.dropWhile (fun p => decide (p.1 < t))
    (l1.takeWhile (fun p => decide (p.1 < u))).map (·.2) :: tagSamples (u :: r) (l1.dropWhile (fun p => decide (p.1 < u)))
  | _, _ => []

/-- The codes of each fret of a bow (R277). -/
def PlacedBow.fretCodes (b : PlacedBow) (l : List (Rat × Nat)) : List (List Nat) :=
  tagSamples (b.marks.angles.map (fun f : Int => b.timeOf (f : Rat))) (l.filter (fun p => decide (b.start ≤ p.1) && decide (p.1 < b.finish)))

/-- The mean of codes; of none, a free value (log 42). -/
def meanCode (n : Nat) (l : List Nat) : Rat := if l.isEmpty then Config.freeRat n else (l.sum : Rat) / (l.length : Rat)

/-- The instants, by R136, of an angle on every lane of course k in a bow. -/
def State.laneTimes (s : State) (k : Nat) (b : PlacedBow) (f : Int) : List Rat :=
  (s.lanesOf k).map (fun l => b.timeOf ((f - s.delta l : Int) : Rat))

/-- The dark interval of a bow, from 0.5 µs after its last bridge to 0.5 µs before the first nut of the bow after it (R274). A bow with
no map has neither nut nor bridge: the whole of it is dark (log 175). -/
def State.darkInterval (s : State) (k : Nat) (b : PlacedBow) (next : Option PlacedBow) : Rat × Option Rat :=
  let from_ := match b.marks.angles.getLast? with
    | some f => (s.laneTimes k b f).foldl maxR b.start + 200
    | none => b.start
  (from_, next.map (fun n => match n.marks.angles.head? with
    | some f => (s.laneTimes k n f).foldl minR n.finish - 200
    | none => n.finish))

/-- The codes of a bow's dark interval. -/
def State.darkCodes (s : State) (k : Nat) (b : PlacedBow) (l : List (Rat × Nat)) : List Nat :=
  let d := s.darkInterval k b (s.plcAt k).cur
  (l.filter (fun p => decide (d.1 ≤ p.1) && (match d.2 with
    | some t => decide (p.1 ≤ t)
    | none => true))).map (·.2)

/-- The dark level of a bow shown (R274), and how long it has lain outside its window, or inside (R275). -/
def State.showDark (s : State) (k x dark8 : Nat) : State :=
  let y := s.inputsAt x
  let out := decide (dark8 < 8 * s.nat (inIx x) 6) || decide (8 * s.nat (inIx x) 7 < dark8)
  let lit := s.litTimeNow k
  ((s.putN (capIx k) 0x16 dark8).putN (inIx x) 9 dark8).inputsPut x { y with
    outSince := if out then some (y.outSince.getD lit) else none, inSince := if out then none else some (y.inSince.getD lit) }

/-! ### Harmonic records (R279 to R285) -/

/-- Harmonics of course k count: its input is in state 1, and a spare one has its delay calibrated (X5, N9). -/
def State.inputCounts (s : State) (k : Nat) : Bool :=
  match s.inputOf k with
  | some x => s.inputState x == 1 && (decide (x < 32) || s.nat (inIx x) 5 == 1)
  | none => false

/-- Void cause of a harmonic once its bow has ended (Table 8.2): the lowest that holds, 0 none. -/
def State.voidCause (s : State) (k : Nat) (b : PlacedBow) (h : PlacedHarmonic) (overrange : Bool) : Nat :=
  if b.cut.any (fun c => decide (c.2 < 0x10) && decide (c.1 ≤ h.lastSlot)) then 1
  else if b.dark.isSome || !b.emitted then 2
  else if overrange then 3
  else if h.void = 4 then 4
  else if s.inputCounts k = false then 5
  else h.void

/-- The harmonic's probe frets yield a return: at least 8 gain frets (R281). -/
def PlacedHarmonic.fiducialOnly (h : PlacedHarmonic) : Bool := decide (h.gainFrets.length < 8)

/-- The return h in codes: the mean of the gain frets' values, less the dark level of the bow (R281). -/
def returnOf (n : Nat) (h : PlacedHarmonic) (frets : List (List Nat)) (dark8 : Nat) : Rat :=
  ((h.gainFrets.map (fun i => meanCode (n + i) (frets.getD i []))).foldl (· + ·) 0) / (h.gainFrets.length : Rat) - (dark8 : Rat) / 8

/-- The capture delay of course k's input is calibrated. -/
def State.calibrated (s : State) (k : Nat) : Bool := (s.inputOf k).any (fun x => s.nat (inIx x) 5 == 1)

/-- The record of a harmonic (Table 8.4). -/
def State.harmonicRec (s : State) (k : Nat) (b : PlacedBow) (h : PlacedHarmonic) (void ret : Nat) : HarmonicRec :=
  { bow := b.bow % 2 ^ 32, lane := h.lane, string := h.string, void := void != 0, tuning := h.tuning
    fiducialOnly := h.fiducialOnly, uncalibrated := !(s.calibrated k), cause := void, level := h.level
    gainFrets := h.gainFrets.length, h := ret }

/-- Its 16 bytes. -/
def harmonicBytes (r : HarmonicRec) : List Byte :=
  let flags := (if r.void then 128 else 0) + (if r.tuning then 64 else 0) + (if r.fiducialOnly then 32 else 0) +
    (if r.uncalibrated then 16 else 0) + r.cause
  leBytes 4 r.bow ++ leBytes 2 r.lane ++ leBytes 1 r.string ++ leBytes 1 flags ++ leBytes 2 r.level ++
    leBytes 2 r.gainFrets ++ leBytes 4 r.h

/-- A record goes to firmware, for the constancy loop or the tuning run that asked for it; without a credit it is dropped and counted
(R285). -/
def State.toFirmware (s : State) (k : Nat) (r : HarmonicRec) : State :=
  let x := s.captAt k
  if s.hasCredit (useRecords k) then (s.captPut k { x with records := x.records ++ [r] }).queuePush (useRecords k)
  else s.captPut k { x with dropped := min (x.dropped + 1) 0xFFFFFFFF }

/-- The records of a bow's harmonics, in order: void ones are counted; each goes to firmware and to the harmonic streams (R282,
R285). -/
def State.deliver (s : State) (k : Nat) (b : PlacedBow) (frets : List (List Nat)) (dark8 : Nat) :
    List (PlacedHarmonic × Nat) → State
  | [] => s
  | (h, void) :: l =>
    let ret := if void = 0 ∧ h.fiducialOnly = false then f32OfRat (returnOf s.free h frets dark8) else 0
    let r := s.harmonicRec k b h void ret
    let s0 : State := { s with free := s.free + frets.length }
    let s1 := if void = 0 then s0 else s0.bump (capIx k) 0x12
    ((s1.toFirmware k r).toStreams k 1 (harmonicBytes r)).deliver k b frets dark8 l

/-! ### Rows (R290 to R295) -/

/-- First emission slot of a bow's slot form (R292). -/
def PlacedBow.slot0 (b : PlacedBow) : Int := b.start.floor

/-- The values that a bow gives the records of its row, each with its overrange bit (Table 8.8): 8 times the mean of a fret's samples,
or the sum of a slot's two. -/
def PlacedBow.records (b : PlacedBow) (form : Nat) (frets : List (List Nat)) (l : List (Rat × Nat)) : List (Option (Rat × Bool)) :=
  if form = 1 then
    frets.map (fun c => if c.isEmpty then none else some (8 * meanCode 0 c, c.any overCode))
  else
    let n := (b.finish.floor - b.slot0).toNat
    (tagSamples ((List.range (n + 1)).map (fun j : Nat => ((b.slot0 + (j : Int) : Int) : Rat))) l).map (fun c =>
      if c.length = 2 then some ((c.sum : Rat), c.any overCode) else none)

/-- A record's cell with the value of one more frame. -/
def cellAdd (c : Rat × Nat × Bool) (v : Option (Rat × Bool)) : Rat × Nat × Bool :=
  match v with
  | some (q, o) => (c.1 + q, c.2.1 + 1, c.2.2 || o)
  | none => c

/-- The cells of a row with the values of one more frame. -/
def cellsAdd : List (Rat × Nat × Bool) → List (Option (Rat × Bool)) → List (Rat × Nat × Bool)
  | l, [] => l
  | [], v :: r => cellAdd (0, 0, false) v :: cellsAdd [] r
  | c :: l, v :: r => cellAdd c v :: cellsAdd l r

/-- A row with one more contributing frame. -/
def CapRow.add (q : Option CapRow) (p : RowPart) : CapRow :=
  let r := q.getD { frames := 0, bow := 0, reverse := false, harmonic := false, records := 0, offset := 0, darkSum := 0,
                    darkN := 0, lost := false, cells := [] }
  { frames := r.frames + 1, bow := p.bow, reverse := p.reverse, harmonic := r.harmonic || p.harmonic
    records := p.records.length, offset := p.offset, darkSum := r.darkSum + p.dark.getD 0
    darkN := r.darkN + (if p.dark.isSome then 1 else 0), lost := r.lost || p.lost, cells := cellsAdd r.cells p.records }

/-- The accumulator of a course lies behind its buffers, and gives a byte of a buffer two (R293, log 182): the unit that accumulates
record j of row i of a frame. -/
def State.accUnit (s : State) (k : Nat) (f : CapFrame) (i j : Nat) : Nat :=
  let at_ := (s.captAt k).bufs.foldl (fun a b => max a (b.base + b.size)) 0
  let p := s.mem.dataClass (at_ + 2 * (64 + i * f.rowLength + 16 + 2 * j))
  s.mem.unitOf p.1 p.2

/-- The records of row i whose accumulator units are poisoned restart from zero (UE3 of Table 13.9). -/
def State.accRestart (s : State) (k : Nat) (f : CapFrame) (i : Nat) (r : CapRow) : CapRow :=
  { r with cells := r.cells.zipIdx.map (fun c => if s.mem.poison.contains (s.accUnit k f i c.2) then (0, 0, false) else c.1) }

/-- A row's contribution reaches its buffer, while that is being written; a row that has one already is read from the accumulator,
whose units are then written whole (UE3, R451). -/
def State.mergeRow (s : State) (r : StagedRow) : State :=
  let x := s.captAt r.course
  let held (f : CapFrame) : Option CapRow := (f.rows.find? (fun q => q.1 == r.row)).map (·.2)
  let bad (f : CapFrame) : List Nat := match held f with
    | some q => (List.range q.cells.length).map (s.accUnit r.course f r.row)
    | none => []
  let into (f : CapFrame) : CapFrame :=
    { f with
      lastFrame := r.part.counter
      rows := f.rows.filter (fun q => q.1 != r.row) ++
        [(r.row, CapRow.add ((held f).map (s.accRestart r.course f r.row)) r.part)]
      poisoned := f.poisoned || (bad f).any (fun u => s.mem.poison.contains u) }
  let here (b : CapBuf) : Bool := decide (b.base = r.base) && decide (b.state = 1)
  let clean := (x.bufs.filter here).flatMap (fun b => (b.frame.map bad).getD [])
  { s.captPut r.course { x with bufs := x.bufs.map (fun b => if here b then { b with frame := b.frame.map into } else b) } with
    mem := { s.mem with poison := s.mem.poison.filter (fun u => !clean.contains u) } }

/-- What accumulation has drained reaches its buffers. -/
def State.mergeArrived (s : State) : State :=
  (s.inputs.filter (fun p => !p.2.arrived.isEmpty)).foldl (fun s p =>
    p.2.arrived.foldl State.mergeRow (s.inputsPut p.1 { s.inputsAt p.1 with arrived := [] })) s

/-- Records of a contribution that a room in bytes holds; the rest is lost (R295). -/
def RowPart.fit (room : Nat) (p : RowPart) : RowPart :=
  let n := room / 2
  if (p.records.filter (·.isSome)).length ≤ n then p
  else { p with records := p.records.take n ++ List.replicate (p.records.length - n) none, lost := true }

/-- A bow's records go through the staging store of input x (R295): 128 KiB. Accumulation takes them as they come, at twice their rate,
unless it was paused meanwhile. -/
def State.stageRow (s : State) (x : Nat) (r : StagedRow) (slots : Nat) : State :=
  let y := s.inputsAt x
  let d := drainRows (y.part + s.drainRoom y) y.staged
  let p := r.part.fit (131072 - ((d.2.1.map StagedRow.bytes).sum - d.2.2.1))
  let q := { r with part := p }
  let e := if d.2.1.isEmpty then drainRows (min d.2.2.2 (4 * slots)) [q] else ([], d.2.1 ++ [q], d.2.2.1, 0)
  let s1 := s.inputsPut x { y with staged := e.2.1, part := e.2.2.1, arrived := y.arrived ++ d.1 ++ e.1, drained := s.clk.up }
  (if p.lost then (s1.bump 0x28F0 4).bump (capIx r.course) 0x10 else s1).mergeArrived

/-! ### Tuning probes (R413, R415) -/

/-- The lanes of emitters of course k in service, in lane order. -/
def State.serviceLanes (s : State) (k : Nat) : List Nat :=
  let l := s.lanesOf k
  allLanes.filter (fun x => l.contains x && s.inService x)

/-- What the run of course k has measured of the emitter on a lane in its phase. -/
def State.probeSum (s : State) (k l : Nat) : ProbeSum := ((s.runsAt k).probes.find? (fun p => p.lane == l)).getD { lane := l }

/-- The run of course k still wants probes of an emitter that takes part in its phase, in a direction: N probes in phases 3 and 4,
N events in each direction in phase 5 (4000:05, Z6). -/
def State.runWants (s : State) (k l : Nat) (reverse : Bool) : Bool :=
  let n := s.nat 0x4000 5
  match (s.runsAt k).phase, (s.runsAt k).probes.find? (fun p => p.lane == l) with
  | 3, some p | 4, some p => decide (p.n < n)
  | 5, some p => decide ((if reverse then p.nr else p.n) < n)
  | _, _ => false

/-- The run of course k takes a measurement of an emitter, while it proceeds and wants it. -/
def State.addProbe (s : State) (k l : Nat) (reverse : Bool) (v speed : Rat) : State :=
  let x := s.runsAt k
  if x.active && s.runMay k && s.runWants k l reverse then
    let p := s.probeSum k l
    let q : ProbeSum := if reverse then { p with nr := p.nr + 1, sumr := p.sumr + v, speed := p.speed + speed }
      else { p with n := p.n + 1, sum := p.sum + v, speed := p.speed + speed }
    s.runsPut k { x with probes := x.probes.filter (fun y => y.lane != l) ++ [q] }
  else s

/-- The first pair of neighbouring samples that bracket a level in a direction: its time in 1/64 slot, interpolated and rounded (R287).
A pair brackets a level that lies between its two codes or at one of them (log 176). -/
def crossingOf (rises : Bool) (mid : Rat) : List (Nat × Nat) → Option Nat
  | p :: q :: r =>
    let a : Rat := p.2
    let b : Rat := q.2
    if (if rises then a ≤ mid ∧ mid ≤ b ∧ a < b else b ≤ mid ∧ mid ≤ a ∧ b < a) then
      some (roundHalfUp ((p.1 : Rat) + ((q.1 : Rat) - (p.1 : Rat)) * ((mid - a) / (b - a)))).toNat
    else crossingOf rises mid (q :: r)
  | _ => none

/-- D_ℓ − D of a probe in ps (phase 3): the rise of the return through 50 % at the first probe fret, referred by R273, less the
instant at which the first probe symbol is due at the emitter, its delay trim counted (R142, R415, log 177). -/
def State.probeDelay (s : State) (x : Nat) (b : PlacedBow) (h : PlacedHarmonic) (frets : List (List Nat)) (dark8 : Nat)
    (samples : List (Nat × Nat)) : Option Rat :=
  let i := h.probeFrets.headD 0
  let on := h.probeFrets.flatMap (fun j => frets.getD j [])
  let mid := (meanCode 0 on + (dark8 : Rat) / 8) / 2
  let u := b.timeOf ((b.marks.angles.getD (i - 1) 0 : Int) : Rat)
  let v := b.timeOf ((b.marks.angles.getD (i + 2) 0 : Int) : Rat)
  let near := samples.filter (fun p => decide (u ≤ s.emissionTime x p.1) && decide (s.emissionTime x p.1 ≤ v))
  match h.firstAt, crossingOf true mid near with
  | some q, some t =>
    some ((s.emissionTime x t - ((q : Rat) / 16 + s.latency h.lane)) * 2500 - (s.trim h.lane : Rat))
  | _, _ => none

/-- What a tuning probe gives its run (Table 12.5): phase 3 its delay, phase 4 its return. -/
def State.takeProbe (s : State) (k x : Nat) (b : PlacedBow) (h : PlacedHarmonic) (frets : List (List Nat)) (dark8 : Nat)
    (samples : List (Nat × Nat)) : State :=
  if h.tuning = false then s
  else
    match (s.runsAt k).phase with
    | 3 =>
      match s.probeDelay x b h frets dark8 samples with
      | some d => s.addProbe k h.lane false d 0
      | none => s
    | 4 => if h.fiducialOnly then s else s.addProbe k h.lane false (returnOf s.free h frets dark8) 0
    | _ => s

/-- The dark level of a bow reaches phase 1 of the run of course k, unless its capture peg is still to be loaded. -/
def State.takeDark (s : State) (k x dark8 : Nat) : State :=
  let r := s.runsAt k
  if r.active && s.runMay k && r.phase == 1 && (s.pegsAt (336 + x)).shadow.isNone then
    s.runsPut k { r with count := r.count + 1, sum := r.sum + dark8 }
  else s

/-- The row that a bow contributes to takes its records (R290 to R292). -/
def State.contribute (s : State) (k x : Nat) (b : PlacedBow) (frets : List (List Nat)) (l : List (Rat × Nat)) (dark : Option Nat) :
    State :=
  let c := s.captAt k
  match c.row with
  | none => s
  | some (base, i, counter) =>
    match (c.bufs.find? (fun y => y.base == base && y.state == 1)).bind (·.frame) with
    | none => s.captPut k { c with row := none }
    | some f =>
      let p : RowPart :=
        { bow := b.bow, reverse := !b.forward, harmonic := !b.harmonics.isEmpty
          records := (b.records f.form frets l).take ((f.rowLength - 16) / 2)
          offset := if f.form = 1 then 0 else roundEven (((b.slot0 : Rat) - b.c) * 64)
          dark := dark, counter := counter, lost := false }
      (s.captPut k { c with row := none }).stageRow x { course := k, base := base, row := i, part := p } b.hp.floor.toNat

/-- The samples of a bow that ended are tagged (R274, R277, R281, R285): its dark level, its harmonic records, and its row. -/
def State.recordBow (s : State) (k x : Nat) (b : PlacedBow) : State :=
  let all := (s.captAt k).samples
  let l := all.map (fun p => (s.emissionTime x p.1, p.2))
  let frets := b.fretCodes l
  let darks := s.darkCodes k b l
  let failed := s.inputState x == 3
  let level := if darks.isEmpty ∨ failed = true then none else some (roundHalfUp (8 * meanCode 0 darks)).toNat
  let s1 := match level with
    | some d => (s.showDark k x d).takeDark k x d
    | none => s
  let voids := b.harmonics.map (fun h =>
    s1.voidCause k b h (darks.any overCode || (h.probeFrets.flatMap (fun i => frets.getD i [])).any overCode))
  let dark8 := s1.nat (capIx k) 0x16
  let s2 := (s1.deliver k b frets dark8 (b.harmonics.zip voids)).each (List.range b.harmonics.length) (fun s i =>
    match b.harmonics[i]?, voids[i]? with
    | some h, some 0 => s.takeProbe k x b h frets dark8 all
    | _, _ => s)
  let s3 := if failed then s2.captPut k { s2.captAt k with row := none } else s2.contribute k x b frets l level
  s3.captPut k { s3.captAt k with
    recorded := some b.bow
    tagged := some { bow := b, voids := voids
                     samples := all.filter (fun p => decide (b.start ≤ s.emissionTime x p.1) && decide (s.emissionTime x p.1 < b.finish)) }
    samples := all.filter (fun p => decide ((b.finish.floor : Rat) ≤ s.emissionTime x p.1)) }

/-- HARMONIC_RECORD: what the input of course k has sampled since the record before; and the bow that ended, once it has been TRACKING,
has its dark level, its harmonic records and its row (R271 to R285, R290, N1, N2). In STANDBY the inputs are powered down (N6). -/
def execHarmonicRecord (k : CourseId) (slot : Nat) (volts : List Int) (s : State) : Host.Outcome State Fault Refusal :=
  .next (
    match s.inputOf k.val with
    | none => s
    | some x =>
      if s.dst = 3 then s
      else
        let s1 := s.takeSamples k.val x { slot := slot, volts := volts }
        match (s1.plcAt k.val).last with
        | none => s1
        | some b =>
          if 2 ≤ s1.cst k.val ∧ (s1.captAt k.val).recorded ≠ some b.bow then s1.recordBow k.val x b else s1)

/-! ### Fiducials (R286 to R289) -/

/-- A fiducial of a table (Table 8.5). -/
structure Fiducial where
  angle : Int
  reverse : Bool
  rises : Bool
  contrast : Nat
  first : Nat
  last : Nat
  deriving DecidableEq, Repr

def fiducialOf (b : List Byte) (n : Nat) : Fiducial :=
  let o := 8 + 16 * n
  { angle := sext 32 (leAt b o 4), reverse := leAt b (o + 4) 1 == 1, rises := leAt b (o + 5) 1 == 1,
    contrast := leAt b (o + 6) 2, first := leAt b (o + 8) 2, last := leAt b (o + 10) 2 }

/-- The fiducials of a table, and those of course k. -/
def fiducialsOf (b : List Byte) : List Fiducial := (List.range (leAt b 3 1)).map (fiducialOf b)
def State.fiducials (s : State) (k : Nat) : List Fiducial := fiducialsOf (s.blob (capIx k) 0x0A)

/-- A fiducial's bow range and direction take in a bow. -/
def Fiducial.takes (f : Fiducial) (forward : Bool) (active : Nat) : Bool :=
  f.reverse != forward && decide (f.first ≤ active) && decide (active ≤ f.last)

/-- Mirror angle at a slot time on a bow's model (R132). -/
def PlacedBow.mirrorAngle (b : PlacedBow) (t : Rat) : Rat :=
  let th := if b.hp = 0 then 0 else b.a * sinR (piR * (t - b.c) / b.hp)
  if b.forward then th else -th

/-- Magnitude of the angular speed at a mirror angle on a bow's model, in nrad per slot (R132, R415). -/
def PlacedBow.speedAt (b : PlacedBow) (theta : Rat) : Rat :=
  if b.hp = 0 then 0 else piR * sqrtR (b.a * b.a - theta * theta) / b.hp

/-- The error of a crossing (R273, R288). -/
def State.crossingError (s : State) (k : Nat) (b : PlacedBow) (f : Fiducial) (lane t64 : Nat) : Int :=
  let te : Rat := match s.inputOf k with
    | some x => s.emissionTime x t64
    | none => (t64 : Rat) / 64
  sat32 (roundEven (b.mirrorAngle te + (s.int (laneIx lane) 5 : Rat) - (f.angle : Rat)))

/-- A fret of a bow reaches into the exclusion zone of a fiducial (R281). -/
def BowMarks.inZone (m : BowMarks) (f : Fiducial) (i : Nat) : Bool :=
  let a := m.angles.getD i 0
  let b := m.angles.getD (i + 1) 0
  decide (min a b < f.angle + m.window) && decide (f.angle - m.window < max a b)

/-- A fiducial's angle lies in a list of frets. -/
def BowMarks.holds (m : BowMarks) (frets : List Nat) (f : Fiducial) : Bool :=
  frets.any (fun i =>
    let a := m.angles.getD i 0
    let b := m.angles.getD (i + 1) 0
    decide (min a b ≤ f.angle) && decide (f.angle < max a b))

/-- What a harmonic's samples say of a fiducial (R287): the contrast in codes, and the crossing; neither where a level has no
samples. -/
def State.fiducialSeen (s : State) (x : Nat) (t : BowRecord) (h : PlacedHarmonic) (f : Fiducial) : Option (Rat × Option Nat) :=
  let m := t.bow.marks
  let zone := h.probeFrets.filter (m.inZone f)
  let others := (fiducialsOf m.table).filter (fun g => g.reverse == f.reverse && g != f && m.holds h.probeFrets g)
  let before := h.probeFrets.filter (fun i => zone.all (fun z => decide (i < z)))
  let after_ := h.probeFrets.filter (fun i => zone.all (fun z => decide (z < i)))
  let post := after_.takeWhile (fun i => !(others.any (fun g => m.inZone g i)))
  let pre := if 8 ≤ h.gainFrets.length then h.gainFrets else before
  let frets := t.bow.fretCodes (t.samples.map (fun p => (s.emissionTime x p.1, p.2)))
  let codes (l : List Nat) : List Nat := l.flatMap (fun i => frets.getD i [])
  if codes pre = [] ∨ codes post = [] then none
  else
    let a := meanCode 0 (codes pre)
    let b := meanCode 0 (codes post)
    let u := t.bow.timeOf ((f.angle - m.window : Int) : Rat)
    let v := t.bow.timeOf ((f.angle + m.window : Int) : Rat)
    let inside := t.samples.filter (fun p =>
      decide (minR u v ≤ s.emissionTime x p.1) && decide (s.emissionTime x p.1 ≤ maxR u v))
    some (absR (b - a), crossingOf f.rises ((a + b) / 2) inside)

/-- The event of one fiducial (Table 8.6), whether it is void, and whether it is a mismatch. -/
def State.fiducialEvent (s : State) (k : Nat) (t : BowRecord) (h : PlacedHarmonic) (j : Nat) (f : Fiducial) :
    List Byte × Bool × Bool :=
  let seen := (s.inputOf k).bind (fun x => s.fiducialSeen x t h f)
  let con : Rat := (seen.map (·.1)).getD 0
  let at_ := seen.bind (·.2)
  let void := decide (con < (f.contrast : Rat)) || at_.isNone
  let e : Int := if void then 0 else s.crossingError k t.bow f h.lane (at_.getD 0)
  let mis := !void && decide (t.bow.marks.window < e.natAbs)
  let flags := (if mis then 1 else 0) + (if void then 2 else 0) + (if s.calibrated k then 0 else 4)
  (leBytes 4 (t.bow.bow % 2 ^ 32) ++ leBytes 1 j ++ leBytes 1 flags ++ leBytes 2 h.lane ++
    leBytes 4 (trunc 32 e) ++ leBytes 2 ((roundHalfUp (8 * con)).toNat % 2 ^ 16) ++ [0x00, 0x00], void, mis)

/-- One event taken into the snapshot: it neither counts in the run nor resets it while the delay is not calibrated, or when
it is void (R289). -/
def State.takeEvent (s : State) (k : Nat) (t : BowRecord) (h : PlacedHarmonic) (j : Nat) (f : Fiducial) : State :=
  let e := s.fiducialEvent k t h j f
  let x := s.captAt k
  let blank := List.replicate 16 (0 : Byte)
  let l := x.events ++ List.replicate ((s.fiducials k).length - x.events.length) (blank, 0)
  let l1 := l.modify j (fun q =>
    (e.1, if e.2.1 ∨ s.calibrated k = false then q.2 else if e.2.2 then min (q.2 + 1) 255 else 0))
  let s1 := s.captPut k { x with events := l1 }
  let s2 := if e.2.1 then s1 else s1.bump (capIx k) 0x13
  let s3 := if h.tuning ∧ (s.runsAt k).phase = 5 ∧ e.2.1 = false then
      s2.addProbe k h.lane f.reverse ((sext 32 (leAt e.1 8 4) : Int) : Rat) (t.bow.speedAt (((f.angle - s.delta h.lane : Int)) : Rat))
    else s2
  (if e.2.2 then s3.bump (capIx k) 0x14 else s3).toStreams k 2 e.1

/-- 2800 + k:15 brought up to date (R289). -/
def State.showSnapshot (s : State) (k : Nat) : State :=
  s.putB (capIx k) 0x15 ((s.captAt k).events.flatMap (fun e => e.1 ++ leBytes 1 e.2))

/-- The events of a bow: its harmonics that are not void, each with the fiducials of its band that take in the bow (R282, R287). -/
def State.bowEvents (s : State) (k : Nat) (t : BowRecord) (active : Nat) : State :=
  (t.bow.harmonics.zip t.voids).foldl (fun s p =>
    if p.2 ≠ 0 then s
    else
      ((fiducialsOf t.bow.marks.table).zipIdx).foldl (fun s g =>
        if g.1.takes t.bow.forward active && t.bow.marks.holds p.1.probeFrets g.1 then s.takeEvent k t p.1 g.2 g.1 else s) s) s

/-- FIDUCIAL_SNAPSHOT: the events of a bow that has been recorded last are taken, once, and the snapshot shows them (R287 to R289). -/
def execFiducialSnapshot (k : CourseId) (bow : Nat) (s : State) : Host.Outcome State Fault Refusal :=
  .next (
    match (s.captAt k.val).tagged with
    | none => s
    | some t =>
      if t.bow.bow = bow then
        let s1 := s.captPut k.val { s.captAt k.val with tagged := none }
        match t.bow.active with
        | some i => (s1.bowEvents k.val t i).showSnapshot k.val
        | none => s1
      else s)

/-! ### Capture frames (R290 to R296) -/

/-- Length of a row in bytes (R293). -/
def State.rowLength (s : State) (k : Nat) : Nat :=
  let n := if s.nat (capIx k) 2 = 1 then 4096 else
    (let low := s.f32 (crs k) 0x0B
     if low ≤ 0 then 0 else (400000000 / (2 * low)).ceil.toNat)
  ceilDiv (16 + 2 * n) 64 * 64

/-- Size of a capture buffer (R293). -/
def State.capSize (s : State) (k : Nat) : Nat :=
  ceilDiv (64 + s.nat (crs k) 0x11 * s.rowLength k) 65536 * 65536

/-- Bytes that the buffers of course k and its accumulator take (R293). -/
def State.capSpan (s : State) (k : Nat) : Nat :=
  if s.nat (capIx k) 2 = 0 then 0
  else s.nat (capIx k) 6 * s.capSize k + if 1 < s.nat (capIx k) 4 then 2 * s.capSize k else 0

/-- The spans of the capture pool in use, without those of course k: (base, bytes). -/
def State.capSpans (s : State) (skip : Option Nat) : List (Nat × Nat) :=
  s.capt.flatMap (fun p =>
    (if some p.1 = skip then [] else
      match p.2.bufs with
      | b :: _ => [(b.base, p.2.span)]
      | [] => []) ++ p.2.old.map (fun b => (b.base, b.size)))

/-- Start and room of the capture pool in the data class (R442). -/
def State.capPool (s : State) : Nat × Nat := (s.mem.canvasPool * mib, min (s.nat 0x28F0 1) s.mem.capturePool * mib)

/-- The lowest base at which n bytes fit in the capture pool (log 31). -/
def State.capPlace (s : State) (skip : Option Nat) (n : Nat) : Option Nat :=
  let l := s.capSpans skip
  let p := s.capPool
  let fits (a : Nat) : Bool := decide (a + n ≤ p.1 + p.2) && l.all (fun q => decide (a + n ≤ q.1) || decide (q.1 + q.2 ≤ a))
  let ok := (p.1 :: l.map (fun q => q.1 + q.2)).filter fits
  match ok with
  | [] => none
  | a :: r => some (r.foldl min a)

/-- 28F0:02 brought up to date. -/
def State.showCapUse (s : State) : State := s.putN 0x28F0 2 (ceilDiv ((s.capSpans none).map (·.2)).sum mib)

/-- The buffers of course k take n bytes of the capture pool from a on, all of them free. -/
def State.capTake (s : State) (k n a : Nat) : State :=
  let size := s.capSize k
  let bufs := (List.range (s.nat (capIx k) 6)).map (fun i =>
    ({ state := 0, base := a + i * size, size := size, holders := [], frame := none } : CapBuf))
  ((s.captPut k { s.captAt k with bufs := bufs, span := n }).putN (capIx k) 0x1A a).putN (capIx k) 0x1B size

/-- The spans in use are packed together at the bottom of the capture pool with their contents, so that what is free is one span.
DESIGN CHOICE (log 67): the spec says nothing of gaps. -/
def State.capPack (s : State) : State :=
  let p := s.capPool
  let l := packSpans p.1 (((s.capSpans none).mergeSort (fun a b => decide (a.1 ≤ b.1))).map (fun q => (0, q.1, q.2)))
  let moved (a : Nat) : Option Nat :=
    (l.find? (fun q => decide (q.2.1 ≤ a) && decide (a < q.2.1 + q.2.2.1))).map (fun q => a - q.2.1 + q.2.2.2)
  let lands (a : Nat) : Nat := (moved a).getD a
  let buf (b : CapBuf) : CapBuf := { b with base := lands b.base }
  let row (r : StagedRow) : StagedRow := { r with base := lands r.base }
  let s1 := s.dataMove (p.1 + p.2) (fun a => if a < p.1 then some a else moved a)
  let s2 : State := { s1 with
    capt := s1.capt.map (fun x => (x.1, { x.2 with
      bufs := x.2.bufs.map buf, old := x.2.old.map buf, row := x.2.row.map (fun r => (lands r.1, r.2)) }))
    cstreams := s1.cstreams.map (fun x => (x.1, { x.2 with holding := x.2.holding.map lands }))
    inputs := s1.inputs.map (fun x => (x.1, { x.2 with staged := x.2.staged.map row, arrived := x.2.arrived.map row })) }
  s2.each allCourses (fun s k => match (s.captAt k).bufs with
    | b :: _ => s.putN (capIx k) 0x1A b.base
    | [] => s)

/-- The buffers of course k take n bytes at the base found for them, if any. -/
def State.capFill (s : State) (k n : Nat) (a : Option Nat) : State :=
  (match a with
   | some a => s.capTake k n a
   | none => s).showCapUse

/-- Course k without buffers: those that are held keep their contents until they are released (R296). -/
def State.capDrop (s : State) (k : Nat) : State :=
  let x := s.captAt k
  ((s.captPut k { x with
    bufs := [], span := 0, old := x.old ++ x.bufs.filter (fun b => b.state == 3), writing := none }).putN (capIx k) 0x1A 0).putN
      (capIx k) 0x1B 0

/-- The capture buffers of course k are allocated anew (R293, R296). Where held ones leave no room there are none before a later change
(log 67). -/
def State.capAlloc (s0 : State) (k : Nat) : State :=
  let s := s0.capDrop k
  let n := s.capSpan k
  if n = 0 then s.showCapUse
  else if (s.capPlace (some k) n).isSome then s.capFill k n (s.capPlace (some k) n)
  else s.capPack.capFill k n (s.capPack.capPlace (some k) n)

/-- 2800 + k:19 (Table 8.11). -/
def State.capStates (s : State) (k : Nat) : Nat :=
  let l := (s.captAt k).bufs
  (List.range 8).foldl (fun n i => n + (match l[i]? with
    | some b => b.state
    | none => 0xF) * 16 ^ i) 0

/-- A buffer of course k modified. -/
def State.modCap (s : State) (k b : Nat) (f : CapBuf → CapBuf) : State :=
  let x := s.captAt k
  s.captPut k { x with bufs := x.bufs.modify b f }

/-- The bytes of a frame header (Table 8.9). -/
def State.capHeader (s : State) (k : Nat) (f : CapFrame) : List Byte :=
  [0x43, 0x41, 0x01] ++ leBytes 1 f.form ++ leBytes 1 k ++ leBytes 1 f.input ++ leBytes 1 f.wanted ++
    leBytes 1 ((if f.incomplete then 1 else 0) + (if f.poisoned then 2 else 0)) ++ leBytes 4 f.firstFrame ++ leBytes 4 f.lastFrame ++
    leBytes 10 (time80 (f.startTai / tNs)) ++ leBytes 2 f.rowCount ++ leBytes 4 f.rowLength ++
    leBytes 4 (trunc 32 (s.int (inIx f.input) 4)) ++ leBytes 2 f.forwardFrets ++ leBytes 2 f.reverseFrets ++
    List.replicate 24 0

/-- The bits of a record (Table 8.8): the mean of its frames' values, halves upward (R290), and bit 15; the value of a record that no
frame gave one is free (log 42). -/
def recordBits (form n : Nat) (c : Rat × Nat × Bool) : Nat :=
  let top := if form = 1 then 2 ^ 15 else 2 ^ 13
  (if c.2.1 = 0 then Config.freeNat n % top else (roundHalfUp (c.1 / (c.2.1 : Rat))).toNat % top) + (if c.2.2 then 2 ^ 15 else 0)

/-- The bytes of row i (Table 8.10). -/
def capRowBytes (n : Nat) (f : CapFrame) (i : Nat) : List Byte :=
  match f.rows.find? (fun r => r.1 == i) with
  | none => leBytes 4 0 ++ leBytes 2 i ++ leBytes 1 2 ++ List.replicate (f.rowLength - 7) 0
  | some (_, r) =>
    let m := n + i * f.rowLength
    let cells := (r.cells.take r.records)
    let flags := (if r.reverse then 1 else 0) + (if r.frames < f.wanted then 2 else 0) +
      (if cells.any (·.2.2) then 4 else 0) + (if r.lost then 8 else 0) + (if r.harmonic then 16 else 0)
    let dark := if r.darkN = 0 then Config.freeNat m % 2 ^ 16 else (2 * r.darkSum + r.darkN) / (2 * r.darkN)
    leBytes 4 (r.bow % 2 ^ 32) ++ leBytes 2 i ++ leBytes 1 flags ++ leBytes 1 r.frames ++ leBytes 2 dark ++
      leBytes 2 r.records ++ leBytes 4 (trunc 32 r.offset) ++
      (cells.zipIdx).flatMap (fun c => leBytes 2 (recordBits f.form (m + 1 + c.2) c.1)) ++
      List.replicate (f.rowLength - 16 - 2 * cells.length) 0

/-- The READY buffers of course k other than b are freed (R294). -/
def State.freeReady (s : State) (k b : Nat) : State :=
  s.each (List.range 8) (fun s i =>
    if i = b then s
    else s.modCap k i (fun x => if x.state = 2 then { x with state := 0, frame := none } else x))

/-- Refinement and the free capture-frame streams of course k take buffer b (R294, R297, R299). -/
def State.takeCap (s : State) (k b base : Nat) : State :=
  let add (s : State) (c : Nat) : State := s.modCap k b (fun x => { x with state := 3, holders := x.holders ++ [c] })
  let s1 := if s.nat (0x2680 + k) 0x0B = 1 then add s 16 else s
  s1.each (s1.streamsOf k 0) (fun s i =>
    let x := s.cstreamsAt i
    if x.holding.isSome ∨ s.noDesc i then s.bump (strIx i) 0x0A
    else add (s.cstreamsPut i { x with holding := some base, sent := false }) i)

/-- A capture frame that has ended becomes READY (R293, R294). -/
def State.capReady (s : State) (k b : Nat) (x : CapBuf) (f : CapFrame) : State :=
  let n := s.free
  let s0 : State := { s with free := n + f.rowCount * f.rowLength + 1 }
  let s1 := (s0.dataWrite 35 x.base (s0.capHeader k f)).1
  let s2 := (List.range f.rowCount).foldl (fun s i =>
    (s.dataWrite 35 (x.base + 64 + i * f.rowLength) (capRowBytes n f i)).1) s1
  let s3 := ((s2.modCap k b (fun y => { y with state := 2, frame := some f })).freeReady k b).bump (capIx k) 0x0D
  (if f.incomplete then s3.bump (capIx k) 0x0E else s3).takeCap k b x.base

/-- Rows of the buffer of course k at an address have not reached it yet: the bow that ended has not been recorded, or a staging
store holds some. -/
def State.rowsOut (s : State) (k base : Nat) : Bool :=
  (s.captAt k).row.any (fun r => r.1 == base) || s.inputs.any (fun p => p.2.staged.any (fun r => r.course == k && r.base == base))

/-- The buffer of course k in WRITING whose frame has ended and whose rows are all accumulated. -/
def State.capEnded (s : State) (k : Nat) : Option (Nat × CapBuf × CapFrame) :=
  (List.range 8).findSome? (fun i =>
    match (s.captAt k).bufs[i]? with
    | some x =>
      match x.frame with
      | some f => if x.state = 1 ∧ f.ended = true ∧ s.rowsOut k x.base = false then some (i, x, f) else none
      | none => none
    | none => none)

/-- Every row of course k that is staged reaches its buffer, and a bow not yet recorded contributes no more: its buffers are to be laid
out anew. -/
def State.rowsIn (s : State) (k : Nat) : State :=
  let s1 := s.captPut k { s.captAt k with row := none }
  ((s1.inputs.filter (fun p => p.2.staged.any (fun r => r.course == k))).foldl (fun s p =>
    s.inputsPut p.1 { p.2 with
      arrived := p.2.arrived ++ p.2.staged.filter (fun r => r.course == k), part := 0
      staged := p.2.staged.filter (fun r => r.course != k) }) s1).mergeArrived

/-- CAPTURE_COMPLETE: the accumulation of a capture frame finishes, and its buffer becomes READY (R294). -/
def execCaptureComplete (k : CourseId) (s : State) : Host.Outcome State Fault Refusal :=
  let s1 := s.drainAll.mergeArrived
  .next (
    match s1.capEnded k.val with
    | some (b, x, f) => s1.capReady k.val b x f
    | none => s)

/-- The capture frame in progress ends; `early` flags it incomplete (R276, R296). -/
def State.capEnd (s : State) (k : Nat) (early : Bool) : State :=
  match (s.captAt k).writing with
  | none => s
  | some b =>
    let s1 := s.modCap k b (fun x => { x with frame := x.frame.map (fun f =>
      { f with ended := true, incomplete := f.incomplete || early }) })
    s1.captPut k { s1.captAt k with writing := none }

/-- Changes of the capture entries at a frame start: the capture in progress ends, with the rows it has, and buffers are allocated
anew (R296). -/
def State.capRealloc (s : State) (k : Nat) : State :=
  let s1 := (s.capEnd k true).rowsIn k
  (match s1.capEnded k with
   | some (b, x, f) => s1.capReady k b x f
   | none => s1).capAlloc k

/-- The capture input of course k has changed from input `was` on (R273, R276, R263): the samples of the one before are let go, and
neither input's delay counts as calibrated. -/
def State.rebindInput (s : State) (k was : Nat) : State :=
  let s0 := s.captPut k { s.captAt k with samples := [], row := none, tagged := none }
  let clear (s : State) (x : Nat) : State :=
    if x < 34 then
      (s.putRP (inIx x) 5 (.num 0)).inputsPut x { s.inputsAt x with outSince := none, inSince := none, flat := none }
    else s
  let s1 := clear ((s0.capEnd k true).inputChanges k) was
  match s1.inputOf k with
  | none => s1
  | some x =>
    let s2 := if s1.nat (inIx x) 2 = 2 then s1.putN (inIx x) 2 0 else s1
    let s3 := clear s2 x
    if 32 ≤ x then s3.bump 0x28F0 6 else s3

/-- Frets of a map in use. -/
def State.mapFrets (s : State) (k : Nat) (forward : Bool) : Nat :=
  match s.mapOf k forward with
  | some m => m.frets.length
  | none => 0

/-- A new capture frame begins in buffer b of course k. -/
def State.capBegin (s : State) (k b counter : Nat) : State :=
  let f : CapFrame :=
    { form := s.nat (capIx k) 2, input := s.nat (capIx k) 1, wanted := s.nat (capIx k) 4, firstFrame := counter,
      lastFrame := counter, startTai := (s.frmAt k).startTai, frames := 1, incomplete := false, ended := false,
      rowCount := s.nat (crs k) 0x11, rowLength := s.rowLength k, forwardFrets := s.mapFrets k true,
      reverseFrets := s.mapFrets k false, rows := [] }
  let s1 := s.modCap k b (fun x => { x with state := 1, holders := [], frame := some f })
  s1.captPut k { s1.captAt k with writing := some b }

/-- A capture that has its frames ends at a frame start; another counts the frame (R290, R294). -/
def State.captureEnd (s : State) (k : Nat) : State :=
  let x := s.captAt k
  match x.writing with
  | none => s
  | some b =>
    match (x.bufs[b]?).bind (·.frame) with
    | none => s
    | some f =>
      if f.wanted ≤ f.frames then s.capEnd k false
      else s.modCap k b (fun y => { y with frame := some { f with frames := f.frames + 1 } })

/-- A capture may begin with the frame that starts, the one that makes its course LIT among them (R290); a failed input gives none
(Table 8.1). -/
def State.captureBegin (s : State) (k counter : Nat) : State :=
  let form := s.nat (capIx k) 2
  if s.cst k = 4 ∧ (form = 1 ∨ form = 2) ∧ (s.inputOf k).any (fun x => s.inputState x != 3) = true ∧
      (s.captAt k).writing = none ∧ counter % s.nat (capIx k) 5 = 0 then
    match (List.range 8).find? (fun b => ((s.captAt k).bufs[b]?).any (fun y => y.state == 0)) with
    | some b => s.capBegin k b counter
    | none => s.bump (capIx k) 0x0F
  else s

/-- The bow in progress ends: the row it contributes to, where it was emitted whole (R291). -/
def State.capMark (s : State) (k : Nat) : State :=
  let p := s.plcAt k
  let x := s.captAt k
  let row := match p.cur, (x.writing.bind (fun w => x.bufs[w]?)) with
    | some b, some y =>
      match b.active with
      | some i => if p.opened ∧ p.cut.isNone ∧ b.dark.isNone ∧ p.lit then some (y.base, i, s.nat (refIx k) 0x10) else none
      | none => none
    | _, _ => none
  s.captPut k { x with row := row }

/-- Consumer c lets buffer b of course k go, or else the buffer of an earlier allocation that it holds; a buffer that no
consumer holds is FREE (R294, R296). -/
def State.capRelease (s : State) (k b c : Nat) : State :=
  let x := s.captAt k
  let drop (y : CapBuf) : CapBuf :=
    let h := y.holders.filter (· != c)
    if h.isEmpty then { y with state := 0, holders := [], frame := none } else { y with holders := h }
  let base := match x.bufs[b]? with
    | some y => if y.state = 3 ∧ y.holders.contains c = true then some y.base else none
    | none => none
  let oldBase := (x.old.find? (fun y => y.holders.contains c)).map (·.base)
  let free (s : State) (a : Nat) : State :=
    if c < 16 ∧ (s.cstreamsAt c).holding = some a then s.cstreamsPut c { s.cstreamsAt c with holding := none, sent := false } else s
  match base, oldBase with
  | some a, _ => free (s.modCap k b drop) a
  | none, some a =>
    (free (s.captPut k { x with
      old := (x.old.map (fun y => if y.base = a then drop y else y)).filter (fun y => y.state == 3) }) a).showCapUse
  | none, none => s

/-- CAPTURE_BUFFER_RELEASE: a consumer releases a HELD buffer; the last release frees it (R294, R296). -/
def execCaptureBufferRelease (k : CourseId) (b : Fin 8) (consumer : Fin 17) (s : State) :
    Host.Outcome State Fault Refusal :=
  .next (s.capRelease k.val b.val consumer.val)

/-! ### Refinement (R209, R300) -/

/-- The capture buffers of course k that refinement holds. -/
def State.refineHeld (s : State) (k : Nat) : List CapBuf :=
  ((s.captAt k).bufs ++ (s.captAt k).old).filter (fun b => b.state == 3 && b.holders.contains 16)

/-- A read of a capture frame that refinement holds meets an uncorrectable error. -/
def State.refineBad (s : State) (k : Nat) : Bool :=
  (s.refineHeld k).any (fun b => b.frame.any (fun f => (s.capBlocks b.base (ceilDiv f.bytes 64) 0).2))

/-- Refinement lets the frames it holds go, without having used them. -/
def State.refineDrop (s : State) (k : Nat) : State := s.each (List.range 8) (fun s b => s.capRelease k b 16)

/-- REFINEMENT_UPDATE: firmware writes a refined copy of the selected mesh: the moves it asks for each node, in 1/4096
pixel, limited by R209. A frame that refinement holds, and of which a read meets an uncorrectable error, is discarded (R300). -/
def execRefinementUpdate (mesh : Fin 128) (moves : List (Nat × Int × Int)) (s : State) : Host.Outcome State Fault Refusal :=
  let m := mesh.val
  let k := m / 4
  let x := s.meshesAt m
  let base := if x.copy0.age ≤ x.copy1.age then x.copy1 else x.copy0
  let limit := (s.int (0x2680 + k) 0x0C * 4096 / 65536).toNat
  .next (
    if s.refineBad k then s.refineDrop k
    else if s.nat (0x2680 + k) 0x0B = 1 ∧ s.nat (0x2680 + k) 1 = m % 4 ∧ base.blob ≠ [] ∧ x.held.isNone then
      let moved := moves.map (fun d =>
        let o := dispOf base.disp d.1
        (d.1, moveDisp limit o d.2))
      let kept := (base.disp.filter (fun d => !moved.any (fun e => e.1 == d.1))).map (fun d => (d.1, withinLen limit d.2))
      s.writeMesh m base.blob (kept ++ moved)
    else s)

end Sys2Proof.Machine
end

