-- ==== Sys2Proof/Machine/Supply.lean ====
section
/-! DEFINITION. Supply monitors and supply hold (R518 to R521, R539). -/

namespace Sys2Proof.Machine

open Sys2Proof

/-- Nominal voltage of a rail in mV (Table 15.1); VDDIO_SYNC by its detected level (R518). -/
def State.railNominal (s : State) (rail : Nat) : Nat :=
  match rail with
  | 0 => 750
  | 1 => 800
  | 2 => 850
  | 3 => 1200
  | 4 => 1050
  | 5 => 500
  | 6 => 1800
  | 7 => 1800
  | 8 => 3300
  | 9 => if 2 ≤ s.f32 0x4200 0x15 then 3300 else 1800
  | _ => 800

/-- A voltage lies below the warning level of its rail, −4 % (R518). -/
def State.belowWarning (s : State) (rail mv : Nat) : Bool := decide (mv * 100 < s.railNominal rail * 96)

/-- The rail of a list of (rail, lowest mV) that went lowest in percent of its nominal (PW10). -/
def State.worst (s : State) (l : Tab Nat) : Option (Nat × Nat) :=
  l.foldl (fun r p => match r with
    | some q => if p.2 * s.railNominal q.1 < q.2 * s.railNominal p.1 then some p else r
    | none => some p) none

/-- Supply hold is active. -/
def State.inHold (s : State) : Bool := s.flag 0x4200 4 0

/-- Event kinds of this chapter (Config). -/
def evSupplyHold : Nat := 20
def evOvervoltage : Nat := 21

/-- Supply hold ends: its record, :06, :16 and an event of severity 2 (R520); tuning runs resume (R413), and no DRAM retrain is
withheld any more (bit 1 of 5000:1A). -/
def State.holdFinish (s : State) : State :=
  if s.inHold then
    let dur := s.clk.up - s.pwr.holdSince
    let rec_ := s.pwr.worstRail * 2 ^ 56 + s.pwr.worstMv % 2 ^ 16 * 2 ^ 40 + (dur / tNs) % 2 ^ 40
    let s1 := ((((s.putN 0x4200 4 0).bump 0x4200 6).putN 0x4200 7 rec_).add64 0x4200 0x16 (dur / tUs)).setFlag 0x5000 0x1A 1 false
    (s1.logWith 2 14 (Config.eventCode evSupplyHold % 65536) s.pwr.worstRail rec_ 0).each allCourses (fun s k => s.runStart k)
  else s

/-- SUPPLY_HOLD_ENTRY: a rail has been below its warning level for 500 ns (R519); it is supply hold in every device state but
START and SHUTDOWN. -/
def execSupplyHoldEntry (rail : Fin 11) (milliVolt : Nat) (s : State) : Host.Outcome State Fault Refusal :=
  .next (
    if s.belowWarning rail.val milliVolt then
      let low := tput s.pwr.low 0 rail.val
        (if (tfind s.pwr.low rail.val).any (fun v => decide (v < milliVolt)) then tgetD s.pwr.low 0 rail.val else milliVolt)
      let s1 := ({ s with pwr := { s.pwr with low := low } } : State).setFlag 0x4200 5 rail.val true
      if s.dst = 0 ∨ s.dst = 4 then s1
      else
        let w := if s.inHold then s.worst ((s.pwr.worstRail, s.pwr.worstMv) :: low) else s.worst low
        let s2 : State := { s1 with pwr := { s1.pwr with
          worstRail := (w.getD (0, 0)).1, worstMv := (w.getD (0, 0)).2
          holdSince := if s.inHold then s.pwr.holdSince else s.clk.up } }
        if s.inHold then s2
        else
          ((s2.putN 0x4200 4 1).setFlag 0x5000 0x1A 1 true).each allCourses (fun s k =>
            if (s.runsAt k).active then s.bump 0x4000 8 else s)
    else s)

/-- SUPPLY_HOLD_END: every rail has been above its warning-cleared level for 100 µs (R519). -/
def execSupplyHoldEnd (s : State) : Host.Outcome State Fault Refusal :=
  let s1 : State := { s with pwr := { s.pwr with low := [] } }
  .next ((s1.each (List.range 11) (fun s r => s.setFlag 0x4200 5 r false)).holdFinish)

/-- OVERVOLTAGE: a rail above its overvoltage level, +6 %: bit 11 of 4200:05, an event of severity 3, and :17 (R521). -/
def execOvervoltage (rail : Fin 11) (s : State) : Host.Outcome State Fault Refusal :=
  .next (((s.setFlag 0x4200 5 11 true).bump 0x4200 0x17).logAt 3 14 evOvervoltage rail.val)

end Sys2Proof.Machine
end

