-- ==== Sys2Proof/Machine/Thermal.lean ====
section
/-! DEFINITION. Temperature sensors, die zones and laser-module zones: readings, throttling, shut-down (R45, R418 to
R429). -/

namespace Sys2Proof.Machine

open Sys2Proof

/-! ### Conversions (R418, R419, R421) -/

/-- Boltzmann's constant over the elementary charge, V/K (log 44). -/
def kOverQ : Rat := 8617333262 / 100000000000000

/-- The reading that a conversion gives in °C: the type of an external input (Table 12.13) must be that of the conversion;
`none` where it gives none. R419 -/
def State.extConvert (s : State) (e : Nat) (c : Conversion) : Option Rat :=
  let ix := 0x4120 + e
  match c with
  | .ntc m =>
    let inv := 20 / 5963 + lnR ((m : Rat) / 1000 / s.f32 ix 2) / s.f32 ix 3
    if m = 0 ∨ inv ≤ 0 then none else some (1 / inv - 27315 / 100 + s.f32 ix 5)
  | .diode v => some ((v : Rat) / 1000000000 / (s.f32 ix 4 * kOverQ * lnR 10) - 27315 / 100 + s.f32 ix 5)
  | _ => none

/-- A die or store reading in °C. -/
def directReading (c : Conversion) : Option Rat :=
  match c with
  | .milliC t => some ((t : Rat) / 1000)
  | _ => none

/-- A reading inside −55 °C to 175 °C (R421). -/
def validReading (r : Option Rat) : Option Rat :=
  match r with
  | some t => if -55 ≤ t ∧ t ≤ 175 then some t else none
  | none => none

/-- The conversion is of the kind that a sensor makes. -/
def State.convertsAs (s : State) (x : Sensor) (c : Conversion) : Bool :=
  match x, c with
  | .die _, .milliC _ => true
  | .die _, .fault => true
  | .store, .milliC _ => true
  | .store, .fault => true
  | .ext e, .ntc _ => s.nat (0x4120 + e.val) 1 == 1
  | .ext e, .diode _ => s.nat (0x4120 + e.val) 1 == 2
  | .ext e, .fault => s.nat (0x4120 + e.val) 1 != 0
  | _, _ => false

/-! ### Throttle levels (R422, R424) -/

/-- The highest level whose entry temperature a reading reaches; the highest whose exit temperature it is not below. -/
def levelIn (throttle t : Rat) : Nat := (List.range 8).foldl (fun (n i : Nat) => if throttle + (i : Rat) ≤ t then i + 1 else n) 0
def levelStay (throttle t : Rat) : Nat :=
  (List.range 8).foldl (fun (n i : Nat) => if throttle + (i : Rat) - 5 ≤ t then i + 1 else n) 0

/-- The next throttle level of a zone, from its level, its floor and its reading (Table 12.8, R422, R426). -/
def nextLevel (throttle : Rat) (old floor : Nat) (t : Rat) : Nat :=
  max floor (max (levelIn throttle t) (min old (levelStay throttle t)))

/-- What thermal management reads of a zone: a failed sensor reads the throttle threshold plus 1 K; with no valid sensor the
zone reads its shut-down threshold (R422). -/
def zoneManaged (sensors failed : List Nat) (f : Nat → Option Rat) (throttle shut : Rat) : Option Rat :=
  if allFailed sensors failed then some shut
  else highest (sensors.map (fun i => if failed.contains i then some (throttle + 1) else f i))

/-! ### Die shut-down (D2) -/

/-- What a die shutdown records and stops: the shutdown word, the device state, every course and every DRAM channel
(D2 of Table 1.3). -/
def State.dieStops (s : State) (z cause : Nat) : State :=
  let word := z * 2 ^ 56 + cause * 2 ^ 48 + s.upUs % 2 ^ 48
  let s1 := ((s.holdFinish.putN 0x4100 0x0A word).putN 0x4200 1 4).each allCourses (fun s k => s.toStopped k)
  (s1.each (List.range 32) (fun s c => s.setChan c 0)).putN 0x5000 1 0

/-- D2 of Table 1.3, from zone z with a cause (4100:0A): the device is in SHUTDOWN, every course STOPPED, the capo's latch
set, THERMTRIP_N low, a supply hold ended (PW3), the store stopped, pegs at code 0 and DRAM held in reset. EMIT_OK falls with the capo's
hush (R322, R389). -/
def State.dieShutdown (s : State) (z cause : Nat) : State :=
  if s.dst = 0 ∨ s.dst = 4 then s
  else
    let s3 := s.dieStops z cause
    { s3 with
      capo := { s3.capo with emitOk := s.capo.emitOk, shutLatch := true }
      pwr := { s3.pwr with thermtrip := true, entering := false, exiting := false, litAfter := false }
      store := storeCut s3.store
      pegs := []
      chans := []
      mem := { s3.mem with chanMiB := 0, cells := [], poison := [], waiting := [], dueOrder := [] } }

/-! ### Die zones (R418, R423 to R425) -/

def zoneIx (z : Nat) : Nat := 0x4110 + z

/-- A reading within d of a threshold. -/
def within (d t th : Rat) : Bool := decide (absR (t - th) ≤ d)

/-- The sampling interval in µs for a reading against thresholds, the last of them shut-down (Table 12.6). -/
def sampleInterval (t : Rat) (ths : List Rat) (shut : Rat) : Nat :=
  if shut - 3 ≤ t then 125 else if (shut :: ths).any (within 10 t) then 1000 else 8000

/-- The disagreement of a zone ends, as it began, with the difference of its valid readings (R418). -/
def State.zonesDiffer (s : State) (z : Nat) : Bool :=
  match s.dieReading (2 * z), s.dieReading (2 * z + 1) with
  | some a, some b => decide (10 < absR (a - b))
  | _, _ => false

/-- State of a zone, 4110 + z:04. -/
def State.zoneState (s : State) (z : Nat) : Nat :=
  if s.therm.dieFailed.contains (2 * z) || s.therm.dieFailed.contains (2 * z + 1) then 1
  else if s.nat (zoneIx z) 4 = 2 ∧ s.zonesDiffer z = true then 2
  else 0

/-- Time base of 4100:09: the level-1-or-above time started or stopped. -/
def ThermSt.throttle (x : ThermSt) (now : Nat) (on : Bool) : ThermSt :=
  match x.throttledSince with
  | none => if on then { x with throttledSince := some now } else x
  | some t => if on then x else { x with throttledSince := none, throttled := x.throttled + (now - t) }

/-- Event kinds of this chapter (Config). -/
def evDieWarning : Nat := 10

/-- The entries of the device that the zones make: TJ, device level, status bits 0, 1, 3 and 4, throttle entries and time
(R423, R424). -/
def State.dieSummary (s : State) : State :=
  let readings := (List.range 12).map (fun z =>
    zoneManaged [2 * z, 2 * z + 1] s.therm.dieFailed s.dieReading 110 125)
  let tj := (highest readings).getD 0
  let level := ((List.range 12).map (fun z => s.nat (zoneIx z) 5)).foldl max 0
  let was := s.nat 0x4100 2
  let warn := decide (100 ≤ tj) || (s.flag 0x4100 3 0 && decide (95 ≤ tj))
  let s1 := if warn && !(s.flag 0x4100 3 0) then s.logEvent 9 evDieWarning 0 else s
  let s2 := ((((s1.putF 0x4100 1 tj).putN 0x4100 2 level).setFlag 0x4100 3 0 warn).setFlag 0x4100 3 1 (level != 0)).setFlag
    0x4100 3 3 (!s1.therm.dieFailed.isEmpty)
  let s3 := s2.setFlag 0x4100 3 4 ((List.range 12).any (fun z => s2.nat (zoneIx z) 4 == 2))
  let s4 := if was = 0 ∧ level ≠ 0 then s3.bump 0x4100 0x0C else s3
  { s4 with therm := s4.therm.throttle s.clk.up (level != 0) }

/-- Zone z is judged anew (R418, R422 to R425). -/
def State.zoneUpdate (s : State) (z : Nat) : State :=
  match zoneManaged [2 * z, 2 * z + 1] s.therm.dieFailed s.dieReading 110 125 with
  | none => s
  | some t =>
    let ix := zoneIx z
    let s1 := (((s.putF ix 1 t).putN ix 4 (s.zoneState z)).putN ix 5
      (nextLevel 110 (s.nat ix 5) (tgetD s.therm.dieFloor 0 z) t)).putN ix 7 (sampleInterval t [100, 110] 125)
    let s2 := (if s.f32 ix 6 < t then s1.putF ix 6 t else s1).dieSummary
    if allFailed [2 * z, 2 * z + 1] s.therm.dieFailed then s2.dieShutdown z 3
    else if 125 ≤ t then s2.dieShutdown z 1
    else s2

/-- A die sensor is sampled (R420, R421). -/
def State.dieSample (s : State) (i : Nat) (c : Conversion) : State :=
  let z := i / 2
  if s.therm.dieFailed.contains i then s
  else
    match validReading (directReading c) with
    | some t =>
      (({ s with therm := { s.therm with die := tput s.therm.die none i (some t) } } : State).putF (zoneIx z) (2 + i % 2) t).zoneUpdate z
    | none =>
      let lv := max (tgetD s.therm.dieFloor 0 z) (s.nat (zoneIx z) 5)
      (({ s with therm := { s.therm with
          dieFailed := s.therm.dieFailed ++ [i], dieFloor := tput s.therm.dieFloor 0 z lv } } : State).setFlag
        0x4100 0x0B i true).zoneUpdate z

/-- ZONE_DISAGREEMENT: the valid readings of a zone have differed by more than 10 K for 1 s (R418). -/
def execZoneDisagreement (z : Fin 12) (s : State) : Host.Outcome State Fault Refusal :=
  .next (
    if s.zonesDiffer z.val ∧ s.therm.dieFailed.contains (2 * z.val) = false ∧
        s.therm.dieFailed.contains (2 * z.val + 1) = false then
      (s.putN (zoneIx z.val) 4 2).setFlag 0x4100 3 4 true
    else s)

/-- DIE_COMPARATOR_TRIP: a zone comparator trips at 125 °C (R425). -/
def execDieComparatorTrip (z : Fin 12) (s : State) : Host.Outcome State Fault Refusal := .next (s.dieShutdown z.val 2)

/-! ### Laser-module zones (R426 to R429) -/

def laserIx (k : Nat) : Nat := 0x4140 + k

/-- Bits 5 and 6 of 4100:03. -/
def State.laserSummary (s : State) : State :=
  (s.setFlag 0x4100 3 5 (allCourses.any (fun k => s.nat (laserIx k) 8 != 0))).setFlag 0x4100 3 6
    (allCourses.any (fun k => s.nat (laserIx k) 7 == 3))

/-- What thermal management reads of the zone of course k. -/
def State.laserManaged (s : State) (k : Nat) : Option Rat :=
  zoneManaged (s.laserSensors k) s.therm.extFailed s.extReading (s.f32 (laserIx k) 4) (s.f32 (laserIx k) 5)

/-- State of the zone of course k with reading t (Table 12.13): shut down while hush cause bit 2 is set. -/
def State.laserState (s : State) (k : Nat) (level : Nat) (t : Rat) : Nat :=
  let w := s.f32 (laserIx k) 3
  let old := s.nat (laserIx k) 7
  if s.flag (crs k) 3 2 then 3
  else if level ≠ 0 then 2
  else if w ≤ t ∨ (1 ≤ old ∧ old ≤ 3 ∧ w - 5 ≤ t) then 1
  else 0

/-- The zone of course k is judged anew (R422, R426, R428, R429). -/
def State.laserUpdate (s : State) (k : Nat) : State :=
  let ix := laserIx k
  if (s.laserSensors k).isEmpty then ((s.putN ix 7 4).putN ix 8 0).laserSummary
  else
    match s.laserManaged k with
    | none => s
    | some t =>
      let lv := nextLevel (s.f32 ix 4) (s.nat ix 8) (tgetD s.therm.laserFloor 0 k) t
      let hot := decide (s.f32 ix 5 ≤ t)
      let s1 := (if s.f32 ix 0x0B < t then s.putF ix 0x0B t else s).putF ix 6 t
      let s2 := if hot ∧ s1.flag (crs k) 3 2 = false then (s1.bump ix 0x0A).setCause k 2 else s1
      ((s2.putN ix 8 lv).putN ix 7 (s2.laserState k lv t)).laserSummary

/-- The courses whose zone an external input feeds. -/
def State.laserFed (s : State) (e : Nat) : List Nat := allCourses.filter (fun k => (s.laserSensors k).contains e)

/-- An external input is sampled (R419 to R421). -/
def State.extSample (s : State) (e : Nat) (c : Conversion) : State :=
  let ix := 0x4120 + e
  if s.therm.extFailed.contains e then s
  else
    let ks := s.laserFed e
    match validReading (s.extConvert e c) with
    | some t =>
      ((({ s with therm := { s.therm with ext := tput s.therm.ext none e (some t) } } : State).putF ix 6 t).putN ix 7 1).each ks
        (fun s k => s.laserUpdate k)
    | none =>
      let fl := ks.foldl (fun f k => tput f 0 k (max (tgetD f 0 k) (s.nat (laserIx k) 8))) s.therm.laserFloor
      (((({ s with therm := { s.therm with extFailed := s.therm.extFailed ++ [e], laserFloor := fl } } : State).putN ix 7 2).bump
        ix 8)).each ks (fun s k => s.laserUpdate k)

/-- The store die is sampled: bit 7 of 4100:03 shows it outside −20 °C to 105 °C (R45); a reading that fails counts as
outside (log 44). -/
def State.storeSample (s : State) (c : Conversion) : State :=
  match validReading (directReading c) with
  | some t =>
    (({ s with therm := { s.therm with store := some t } } : State).putF 0x4100 7 t).setFlag 0x4100 3 7
      (decide (t < -20) || decide (105 < t))
  | none => s.setFlag 0x4100 3 7 true

/-- A sensor is sampled (R420). -/
def State.sampleSensor (s : State) (x : Sensor) (c : Conversion) : State :=
  match x with
  | .die i => s.dieSample i.val c
  | .ext e => s.extSample e.val c
  | .store => s.storeSample c

/-- A write of 4100:08 clears hush cause bit 2 of each course of a mask that has cooled (R428). A zone with no sensor
configured has no shut-down (R429). -/
def State.laserRearm (s : State) (mask : Nat) : State × Nat :=
  let ks := bitsSet 32 mask
  let cool : Nat → Bool := fun k =>
    (s.laserSensors k).isEmpty ||
      (!allFailed (s.laserSensors k) s.therm.extFailed &&
        (match s.laserManaged k with
         | some t => decide (t < s.f32 (laserIx k) 5 - 5)
         | none => false))
  let s1 := s.each ks (fun x k => if x.flag (crs k) 3 2 && cool k then (x.clearCause k 2).laserUpdate k else x)
  (s1, if ks.any (fun k => s1.flag (crs k) 3 2) then stRejected else stOk)

/-- LASER_REARM: a write of a course mask to 4100:08. -/
def execLaserRearm (_m : MasterId) (mask : BitVec 32) (s : State) : Host.Outcome State Fault Refusal :=
  .next (s.hostWrite (writeItem 0x04 0x4100 8 4) (fun s => s.laserRearm mask.toNat))

/-- Uptime at which the last pause of a unit ends. -/
def State.pauseEnd (s : State) (u : PauseUnit) : Nat :=
  match u with
  | .ingest | .hostRings => s.therm.ingestPause
  | .warp => s.therm.warpPause
  | .capture => s.therm.capturePause

/-- THROTTLE_PAUSE: a throttled unit that has worked for 16 µs since its last one takes the pause of the level in force (R16, R424); ingest pauses with host-ring
processing, and 25F0:07 counts both. -/
def execThrottlePause (u : PauseUnit) (s : State) : Host.Outcome State Fault Refusal :=
  .next (
    if s.nat 0x4100 2 = 0 ∨ s.clk.up < s.pauseEnd u + 16 * tUs then s
    else
      let till := s.clk.up + 2 ^ (s.nat 0x4100 2 - 1) * tUs
      let set (s : State) (f : ThermSt → ThermSt) : State := { s with therm := f s.therm }
      match u with
      | .ingest | .hostRings => (set s (fun t => { t with ingestPause := till })).bump 0x25F0 7
      | .warp => (set s (fun t => { t with warpPause := till })).bump 0x26F0 8
      | .capture => (set s.drainAll (fun t => { t with capturePause := till })).bump 0x28F0 3)

end Sys2Proof.Machine
end

