-- ==== Sys2Proof/Machine/Tuning.lean ====
section
/-! DEFINITION. Pegs, tuning domains and tuning runs (R398 to R417), and the sampling of sensors, which feeds them. -/

namespace Sys2Proof.Machine

open Sys2Proof

/-- The device sets a live value: an RP entry that changes is persisted as the change is made (R44). -/
def State.putLive (s : State) (index sub : Nat) (v : Val) : State :=
  match rowOf index sub with
  | some r => if r.acc = .rp then s.putCommitted index sub v else s.put index sub v
  | none => s

/-! ### Domains (Table 12.2) -/

/-- The course of domain d, if it has one. -/
def State.domainCourse (s : State) (d : Nat) : Option Nat :=
  if d < 32 then some d else if d < 64 then some (d - 32) else s.inputCourse (d - 64)

/-- Domain kind of Table 12.3. -/
def domainKind (d : Nat) : Nat := if d < 32 then 0 else if d < 64 then 1 else 2

/-- The key temperature of domain d: the last valid reading of its key sensor (R405, R411). -/
def State.keyTemp (s : State) (d : Nat) : Option Rat :=
  let c := s.nat (domIx d) 1
  if c < 32 then s.extReading c
  else if c ≠ 0xFF then s.zoneReading (c - 0x40)
  else (s.domainCourse d).bind s.laserReading

/-- The key sensor of domain d has failed (R411). -/
def State.keyFailed (s : State) (d : Nat) : Bool :=
  let c := s.nat (domIx d) 1
  if c < 32 then s.therm.extFailed.contains c
  else if c ≠ 0xFF then allFailed [2 * (c - 0x40), 2 * (c - 0x40) + 1] s.therm.dieFailed
  else (s.domainCourse d).any (fun k => allFailed (s.laserSensors k) s.therm.extFailed)

/-- A sensor feeds the key temperature of domain d. -/
def State.keyUses (s : State) (d : Nat) (x : Sensor) : Bool :=
  let c := s.nat (domIx d) 1
  match x with
  | .die i => c == 0x40 + i.val / 2
  | .ext e => c == e.val || (c == 0xFF && (s.domainCourse d).any (fun k => (s.laserSensors k).contains e.val))
  | .store => false

/-- The course whose optics domain a lane belongs to: that of the string it carries; of a spare lane, 2100 + i:02. -/
def State.laneDomain (s : State) (l : Nat) : Option Nat :=
  match s.courseOfLane l with
  | some k => some k
  | none => if 256 ≤ l ∧ s.nat (laneIx l) 2 < 32 then some (s.nat (laneIx l) 2) else none

/-- An element belongs to a quantity of domain d (Tables 12.2, 12.4). -/
def State.elementOk (s : State) (d q e : Nat) : Bool :=
  match domainKind d with
  | 0 => (1 ≤ q && q ≤ 4 && e < 272 && s.laneDomain e == some d) || (q == 0x05 && decide (e < s.nat (crs d) 8))
  | 1 => (0x10 ≤ q && q ≤ 0x13 && e / 2 == d - 32) || (q == 0x14 && e == d - 32)
  | _ => 0x20 ≤ q && q ≤ 0x22 && e == d - 64

/-! ### Live values of quantities (Table 12.4) -/

/-- The key of a sense path delay, of which 40F0:03 holds 64. -/
def delayKey (c : Nat) : Nat := 2 ^ 24 + c

/-- The key of the live value of a quantity that is no peg code and no wavelength. -/
def quantityKey (q e : Nat) : Nat :=
  match q with
  | 0x02 => dkey (laneIx e) 7
  | 0x03 => dkey (laneIx e) 5
  | 0x04 => dkey (laneIx e) 6
  | 0x11 => dkey (0x3110 + e) 1
  | 0x12 => dkey (0x3110 + e) 3
  | 0x13 => delayKey e
  | 0x14 => dkey (0x3150 + e) 7
  | 0x21 => dkey (0x2820 + e) 4
  | _ => dkey (0x2820 + e) 3

/-- The quantity is a peg code; it takes effect at a frame start (R409). -/
def isPegQuantity (q : Nat) : Bool := q == 0x01 || q == 0x10 || q == 0x20
def atFrameKey (key : Nat) : Bool := key / 256 < 0x2200 || (0x3150 ≤ key / 256 && key / 256 ≤ 0x316F)

/-- A live value of a domain, and the state with it replaced. -/
def State.liveOf (s : State) (key : Nat) : Val :=
  if 2 ^ 24 ≤ key then .num (sext 32 (leAt s.senseDelays (4 * (key - 2 ^ 24)) 4)) else s.val (key / 256) (key % 256)
def State.setLiveOf (s : State) (key : Nat) (v : Val) : State :=
  if 2 ^ 24 ≤ key then
    let o := 4 * (key - 2 ^ 24)
    let b := s.senseDelays
    s.putB 0x40F0 3 (b.take o ++ leBytes 4 (trunc 32 (valInt v)) ++ b.drop (o + 4))
  else s.putLive (key / 256) (key % 256) v

/-- A value of a point lies in the range of its live entry (R407). -/
def valueInRange (q e raw : Nat) : Bool :=
  if isPegQuantity q then decide (0 ≤ sext 32 raw) && decide (sext 32 raw ≤ 16383)
  else if q = 0x05 then f32Finite raw && decide (380 ≤ ratOfF32 raw) && decide (ratOfF32 raw ≤ 780)
  else if q = 0x13 then true
  else
    let key := quantityKey q e
    match rowOf (key / 256) (key % 256) with
    | some r => valueOk (key / 256) (key % 256) r (.num (if quantityF32 q then (raw : Int) else sext 32 raw))
    | none => false

/-! ### Pegs (R398 to R404) -/

/-- Domain, quantity and element of a peg (Table 12.1). -/
def State.pegDomain (s : State) (p : Nat) : Option (Nat × Nat × Nat) :=
  if p < 272 then (s.laneDomain p).map (fun k => (k, 0x01, p))
  else if p < 336 then some (32 + (p - 272) / 2, 0x10, p - 272)
  else some (64 + (p - 336), 0x20, p - 336)

/-- The course that a peg belongs to (Table 12.1). -/
def State.pegCourse (s : State) (p : Nat) : Option Nat :=
  if p < 272 then s.courseOfLane p
  else if p < 336 then some ((p - 272) / 2)
  else s.inputCourse (p - 336)

/-- A quantity of an element as domain d gives it while it applies: none where it does not apply, has not been evaluated, or
holds no point of it (R400, R408, R410). -/
def State.tuned (s : State) (d q e : Nat) : Option Rat :=
  if s.nat (domIx d) 3 = 1 then (s.domainsAt d).used.bind (interpolate q (s.pointsOf d q e)) else none

/-- The requested code of a peg, 40F0:02. -/
def State.pegRequested (s : State) (p : Nat) : Nat := leAt (s.blob 0x40F0 2) (2 * p) 2

/-- The code that a tuning run in progress has moved a peg to (R414, R415). -/
def State.runPeg (s : State) (p : Nat) : Option Nat := (s.pegCourse p).bind (fun k => tfind (s.runsAt k).pegs p)

/-- The code that a peg is to drive (R400, R408, R414). -/
def State.pegTarget (s : State) (p : Nat) : Nat :=
  match s.runPeg p, (s.pegDomain p).bind (fun x => s.tuned x.1 x.2.1 x.2.2) with
  | some c, _ => c
  | none, some v => (clampI 0 16383 (roundHalfUp v)).toNat
  | none, none => s.pegRequested p

/-- A code that a peg is to take is held in its shadow until a load (R401). In START and SHUTDOWN pegs drive 0 (R404). -/
def State.pegRefresh (s : State) (p : Nat) : State :=
  if s.dst = 0 ∨ s.dst = 4 then s
  else
    let x := s.pegsAt p
    let t := if s.pegTarget p = x.code then none else some (s.pegTarget p)
    s.pegsPut p { x with shadow := t, since := if t = x.shadow then x.since else s.clk.up }

def allPegs : List Nat := List.range 370

/-- Every peg brought up to date. -/
def State.pegsRefresh (s : State) : State := s.each allPegs (fun s p => s.pegRefresh p)

/-- One load of a peg: at most 256 codes, the rest stays pending (R402). -/
def loadPeg (x : PegSt) : PegSt :=
  match x.shadow with
  | none => x
  | some t =>
    let c := (clampI ((x.code : Int) - 256) ((x.code : Int) + 256) t).toNat
    { x with code := c, shadow := if c = t then none else some t }

/-- A load of the pegs of a list that have a code pending: counted, and counted again where it was limited (R401, R402). -/
def State.pegLoad (s : State) (ps : List Nat) : State :=
  let due := ps.filter (fun p => (s.pegsAt p).shadow.isSome)
  if due.isEmpty then s
  else
    let s1 := (s.each due (fun s p => s.pegsPut p { loadPeg (s.pegsAt p) with before := (s.pegsAt p).code, loadedAt := s.clk.slot })).bump 0x40F0 4
    if due.any (fun p => (s1.pegsAt p).shadow.isSome) then s1.bump 0x40F0 5 else s1

/-- At D5 every peg takes its first code at once, without the limit (R404). -/
def State.pegsFirst (s : State) : State :=
  s.each allPegs (fun s p => s.pegsPut p { code := s.pegTarget p, shadow := none })

/-- A load that changes the capture peg of course k is pending (R403). -/
def State.captureLoadPending (s : State) (k : Nat) : Bool :=
  (s.inputOf k).any (fun x => (s.pegsAt (336 + x)).shadow.isSome)

/-! ### Evaluation (R408 to R411) -/

/-- The (quantity, element) pairs that the points of domain d hold. -/
def State.pairsOf (s : State) (d : Nat) : List (Nat × Nat) :=
  ((s.points d).flatMap (fun p => p.2.map (fun r => (r.1, r.2.1)))).eraseDups

/-- The values that domain d gives now, by key; peg codes and wavelengths have their own ways. -/
def State.tunedValues (s : State) (d : Nat) : List (Nat × Val) :=
  ((s.pairsOf d).filter (fun p => !isPegQuantity p.1 && p.1 != 0x05)).filterMap (fun p =>
    (s.tuned d p.1 p.2).map (fun v =>
      (quantityKey p.1 p.2, .num (if quantityF32 p.1 then (f32OfRat v : Int) else roundHalfUp v))))

/-- Those of a list of values that differ from the live values. -/
def State.unlike (s : State) (l : List (Nat × Val)) : List (Nat × Val) := l.filter (fun p => s.liveOf p.1 != p.2)

/-- Values that wait for a load instant take effect (R409). -/
def State.domainLoad (s : State) (d : Nat) : State :=
  let x := s.domainsAt d
  (s.domainsPut d { x with waiting := x.waiting.filter (fun p => atFrameKey p.1) }).each (List.range x.waiting.length)
    (fun s i =>
      match x.waiting[i]? with
      | some (key, v) => if atFrameKey key then s else s.setLiveOf key v
      | none => s)

/-- Values that wait for a frame start take effect, unless a check of R149 fails: then the previous values stay in force,
and bit 5 of the domain status is set until a later evaluation passes (R409). Those evaluated after the fence wait for the next one
(R65). -/
def State.domainFrame (s : State) (d k : Nat) : State :=
  let x := s.domainsAt d
  let due := x.waiting.filter (fun p => atFrameKey p.1)
  let stays := x.waiting.filter (fun p => !atFrameKey p.1)
  let s0 := s.domainsPut d { x with waiting := stays, late := [] }
  let s1 := due.foldl (fun s p => s.setLiveOf p.1 p.2) s0
  let s2 := if due.isEmpty then s0
    else if s1.placementOk k then s1.setFlag (domIx d) 4 5 false else s0.setFlag (domIx d) 4 5 true
  s2.domainsPut d { x with waiting := stays ++ s2.unlike x.late, late := [] }

/-- Domain d has no course that runs: its values take effect without waiting for a bow or a frame. -/
def State.domainIdle (s : State) (d : Nat) : Bool :=
  match s.domainCourse d with
  | some k => s.cst k == 0
  | none => true

/-- Domain d is evaluated at its key temperature, a free value before the first valid reading of its sensor (log 45). A
domain under a run is not evaluated (R414). -/
def State.evaluate (s : State) (d : Nat) : State :=
  if (s.domainCourse d).any (fun k => (s.runsAt k).active) then s
  else
    let t := (s.keyTemp d).getD (Config.freeRat s.free)
    let s1 := ({ (s.domainsPut d { s.domainsAt d with used := some t }) with
      free := s.free + if (s.keyTemp d).isSome then 0 else 1 } : State)
    let s2 := ((s1.putF (domIx d) 6 t).setFlag (domIx d) 4 2 (s.keyFailed d)).setFlag (domIx d) 4 3 (s.points d).isEmpty
    let all := s2.tunedValues d
    let fenced := (s2.domainCourse d).any (fun k => (s2.frmAt k).fenced && s2.cst k != 0)
    let x : DomainSt :=
      if fenced then
        { waiting := (s2.domainsAt d).waiting.filter (fun p => atFrameKey p.1) ++ s2.unlike (all.filter (fun p => !atFrameKey p.1))
          late := all.filter (fun p => atFrameKey p.1), used := some t }
      else { waiting := s2.unlike all, used := some t }
    let s3 := (s2.domainsPut d x).pegsRefresh
    if s3.domainIdle d then
      match s3.domainCourse d with
      | some k => s3.domainFrame d k
      | none => s3
    else s3

/-- A run is requested where the key temperature of an applying domain has left its temperature at last tuning by more than
ΔT (R412). A domain without a point has no such temperature. -/
def State.runCheck (s : State) (d : Nat) : State :=
  match s.keyTemp d, s.domainCourse d with
  | some t, some k =>
    if s.nat (domIx d) 3 = 1 ∧ (s.points d).isEmpty = false ∧ s.fix (domIx d) 2 < absR (t - s.f32 (domIx d) 9) then s.runRequest k
    else s
  | _, _ => s

/-- A run in progress takes the key temperature of domain d into its mean (R416). -/
def State.runTemp (s : State) (d : Nat) : State :=
  match s.domainCourse d, s.keyTemp d with
  | some k, some t =>
    let x := s.runsAt k
    if x.active then
      let a := (tfind x.temps d).getD (0, 0)
      s.runsPut k { x with temps := tins d (a.1 + t, a.2 + 1) (terase x.temps d) }
    else s
  | _, _ => s

/-- A key-sensor sample reaches domain d (R408, R411, R412). -/
def State.domainSample (s0 : State) (d : Nat) : State :=
  let s := s0.runTemp d
  let moved := match s.keyTemp d, (s.domainsAt d).used with
    | some t, some u => decide (1 / 10 ≤ absR (t - u))
    | some _, none => true
    | none, _ => false
  let s1 := if moved || (s.keyFailed d && !(s.flag (domIx d) 4 2)) then s.evaluate d else s
  (s1.setFlag (domIx d) 4 2 (s1.keyFailed d)).runCheck d

/-- TEMPERATURE_SAMPLE: a sensor is sampled; zones, thresholds and domains follow (R408, R418 to R429). -/
def execTemperatureSample (sensor : Sensor) (c : Conversion) (s : State) : Host.Outcome State Fault Refusal :=
  .next (
    if s.convertsAs sensor c then
      (s.sampleSensor sensor c).each ((List.range 98).filter (fun d => s.keyUses d sensor)) (fun s d => s.domainSample d)
    else s)

/-- A live value belongs to a domain that applies and holds a point of it: the AP256 owns it (R410). -/
def State.ownedValue (s : State) (key : Nat) : Bool :=
  (List.range 98).any (fun d => s.nat (domIx d) 3 == 1 &&
    (s.pairsOf d).any (fun p => !isPegQuantity p.1 && p.1 != 0x05 && quantityKey p.1 p.2 == key))

/-! ### Points (R406, R407, R416) -/

/-- The bytes of a point (Table 12.3). -/
def pointBytes (kind : Nat) (temp time : Nat) (rs : List (Nat × Nat × Nat)) : List Byte :=
  [0x54, 0x53, 0x01] ++ leBytes 1 kind ++ leBytes 2 rs.length ++ [0, 0] ++ leBytes 4 temp ++ [0, 0, 0, 0] ++ leBytes 10 time ++
    List.replicate 6 0 ++ rs.flatMap (fun r => leBytes 1 r.1 ++ [0] ++ leBytes 2 r.2.1 ++ leBytes 4 r.2.2)

/-- The checks of R407 on a point that a host writes to place i of domain d. -/
def State.pointOk (s : State) (d i : Nat) (b : List Byte) : Bool :=
  let n := leAt b 4 2
  let rs := (pointOf b).2
  let t := (pointOf b).1
  !(s.domainCourse d).any (fun k => (s.runsAt k).active) &&
  (b.isEmpty ||
    (slice 0 3 b == [0x54, 0x53, 0x01] && leAt b 3 1 == domainKind d && 1 ≤ n && n ≤ 2048 && b.length == 32 + 8 * n &&
      leAt b 6 2 == 0 && f32Finite (leAt b 8 4) && decide (-40 ≤ t) && decide (t ≤ 150) && leAt b 12 20 == 0 &&
      (List.range n).all (fun j => leAt b (33 + 8 * j) 1 == 0) &&
      rs.all (fun r => s.elementOk d r.1 r.2.1 && valueInRange r.1 r.2.1 r.2.2) &&
      (rs.map (fun r => (r.1, r.2.1))).eraseDups.length == n &&
      (List.range 8).all (fun j => j == i || (s.blob (domIx d) (0x0A + j)).isEmpty ||
        decide (1 / 2 < absR ((pointOf (s.blob (domIx d) (0x0A + j))).1 - t)))))

/-- A point of domain d that holds a capture delay is in use: its input is calibrated (R273, R406, log 183). -/
def State.delayKnown (s : State) (d : Nat) (rs : List (Nat × Nat × Nat)) : State :=
  if 64 ≤ d ∧ s.nat (domIx d) 3 = 1 ∧ rs.any (fun r => r.1 == 0x21) = true then s.putRP (0x2820 + (d - 64)) 5 (.num 1) else s

/-- A point of domain d takes place i, or is deleted: its time is set; count, time and temperature at last tuning follow
(R406, R412, R416). A point that holds a capture delay makes its input calibrated. -/
def State.pointApplied (s : State) (d i : Nat) (b : List Byte) : State :=
  let ix := domIx d
  let now := time80 s.taiNs
  let s1 := s.putRP ix (0x0A + i) (.bytes (if b.isEmpty then [] else b.take 16 ++ leBytes 10 now ++ b.drop 26))
  let s2 := s1.putN ix 5 (s1.points d).length
  let s3 := if b.isEmpty then s2
    else ((s2.addWrap ix 7 1).putN ix 8 now).putN ix 9 (leAt b 8 4)
  (s3.delayKnown d (pointOf b).2).evaluate d

/-! ### Runs (R412 to R417) -/

/-- Runs of the courses of a mask are requested. -/
def State.runCommand (s : State) (mask : Nat) : State := s.each (bitsSet 32 mask) (fun s k => s.runRequest k)

/-- RUN_COMMAND: a write of a course mask to 4000:01 requests runs (R412). -/
def execRunCommand (_m : MasterId) (mask : BitVec 32) (s : State) : Host.Outcome State Fault Refusal :=
  .next (s.hostWrite (writeItem 0x04 0x4000 1 4) (fun s => (s.runCommand mask.toNat, stOk)))

/-- The domain kind of a quantity (Table 12.4). -/
def quantityKind (q : Nat) : Nat := if q < 0x10 then 0 else if q < 0x20 then 1 else 2

/-- The records of a run's new point of domain d at temperature t: the values measured, and the others that a point of the
domain holds, interpolated at t (R416). -/
def State.runRecords (s : State) (d : Nat) (t : Rat) (ms : List Measured) : List (Nat × Nat × Nat) :=
  let mine := ms.filter (fun m => quantityKind m.quantity == domainKind d &&
    s.elementOk d m.quantity m.element && valueInRange m.quantity m.element (trunc 32 m.value))
  let fresh := mine.map (fun m => (m.quantity, m.element, trunc 32 m.value))
  let old := ((s.pairsOf d).filter (fun p => !fresh.any (fun r => r.1 == p.1 && r.2.1 == p.2))).filterMap (fun p =>
    (interpolate p.1 (s.pointsOf d p.1 p.2) t).map (fun v =>
      (p.1, p.2, if quantityF32 p.1 then f32OfRat v else trunc 32 (roundHalfUp v))))
  fresh ++ old

/-- The place of a run's new point: that of a point within ΔT / 2 of it, else a free place, else the nearest (R416). -/
def State.pointPlace (s : State) (d : Nat) (t : Rat) : Nat :=
  let held := (List.range 8).filter (fun i => !(s.blob (domIx d) (0x0A + i)).isEmpty)
  let dist : Nat → Rat := fun i => absR ((pointOf (s.blob (domIx d) (0x0A + i))).1 - t)
  let nearest := held.foldl (fun r i =>
    match r with
    | some j => if dist i < dist j then some i else some j
    | none => some i) (none : Option Nat)
  let free := (List.range 8).find? (fun i => (s.blob (domIx d) (0x0A + i)).isEmpty)
  match nearest, free with
  | some j, some i => if dist j ≤ s.fix (domIx d) 2 / 2 then j else i
  | some j, none => j
  | none, some i => i
  | none, none => 0

/-- A run's new point of domain d (R416); a domain with nothing to hold gets none. -/
def State.runPoint (s : State) (d : Nat) (t : Rat) (ms : List Measured) : State :=
  let rs := s.runRecords d t ms
  if rs.isEmpty then s else s.pointApplied d (s.pointPlace d t) (pointBytes (domainKind d) (f32OfRat t) 0 rs)

/-- ρ of an emitter of course k from its mean return h over L_h and the ĝ in force (R262, Table 12.5); held emitters acquire. -/
def State.runRho (s : State) (k l : Nat) (h : Rat) : State :=
  let rho := divF s.free h (s.f32 (0x2800 + k) 8 * s.f32 (emitIx l) 0x14)
  let s1 := ({ s with free := s.free + 1 } : State).putRP (emitIx l) 0x13 (.num (f32OfRat rho))
  if (s1.emitAt l).inputChanged then
    (s1.emitPut l { s1.emitAt l with inputChanged := false }).acquire l
  else s1

/-- The needs of a phase are met (Table 12.5); phases 1 and 4 need an input to measure with. -/
def State.phaseMay (s : State) (k p : Nat) : Bool :=
  match p with
  | 1 | 4 => (s.inputOf k).isSome
  | 3 => s.calibrated k
  | 5 => s.calibrated k && (s.fiducials k).any (fun f => !f.reverse && (s.fiducials k).any (fun g => g.reverse && g.angle == f.angle))
  | _ => true

/-- The run of course k goes on to its next phase whose needs are met, and past the last (R415). -/
def State.runAdvance (s : State) (k : Nat) : State :=
  let x := s.runsAt k
  let p := ([1, 2, 3, 4, 5].find? (fun p => decide (x.phase < p) && s.phaseMay k p)).getD 6
  s.runsPut k { x with phase := p, step := 0, count := 0, sum := 0, dir := 1, before := none
                       probes := (s.serviceLanes k).map (fun l => { lane := l }) }

/-- A phase of the run of course k ends with values measured. -/
def State.runGives (s : State) (k : Nat) (ms : List Measured) : State :=
  (s.runsPut k { s.runsAt k with measured := (s.runsAt k).measured ++ ms }).runAdvance k

/-- A step of phase 1 or 2 moves a peg by a number of codes. -/
def State.runMove (s : State) (k p : Nat) (by_ : Int) : State :=
  let x := s.runsAt k
  let c := (clampI 0 16383 (((s.pegsAt p).code : Int) + by_)).toNat
  (s.runsPut k { x with step := x.step + 1, count := 0, sum := 0, pegs := tins p c (terase x.pegs p) }).pegRefresh p

/-- Phase 1: after 16 bows the dark level is within 2 codes of the target, or 8 steps are made; else the capture peg moves by four
times the difference (Table 12.5). -/
def State.runDarkStep (s : State) (k x : Nat) : State :=
  let r := s.runsAt k
  let diff : Rat := (r.sum : Rat) / 128 - (s.nat 0x4000 6 : Rat)
  if r.count < 16 then s
  else if absR diff ≤ 2 ∨ 8 ≤ r.step then s.runGives k [{ quantity := 0x20, element := x, value := (s.pegsAt (336 + x)).code }]
  else s.runMove k (336 + x) (roundHalfUp (4 * diff))

/-- Phase 2: the asymmetry of each bow, 64 to a step; the first step is +64, and each later one half as long, in the direction that
the step before showed to reduce its magnitude (Table 12.5). DEDUCED (log 178): bows count once the peg is loaded; a tie reverses. -/
def State.runBridgeStep (s : State) (k : Nat) : State :=
  let r := s.runsAt k
  let p := 272 + 2 * k
  if (s.pegsAt p).shadow.isSome then s
  else
    let sum := r.sum + s.int (crs k) 0x19
    let mag : Rat := absR ((sum : Rat) / 64)
    if r.count + 1 < 64 then s.runsPut k { r with count := r.count + 1, sum := sum }
    else if 7 ≤ r.step then s.runGives k [{ quantity := 0x10, element := 2 * k, value := (s.pegsAt p).code }]
    else
      let d := match r.before with
        | some b => if mag < b then r.dir else -r.dir
        | none => 1
      (s.runsPut k { r with dir := d, before := some mag }).runMove k p (d * (64 / 2 ^ r.step : Nat))

/-- A mean; of nothing, 0. -/
def meanR (sum : Rat) (n : Nat) : Rat := if n = 0 then 0 else sum / (n : Rat)

/-- The results of phases 3 to 5 once every emitter in service that takes part has been measured (Table 12.5). -/
def State.runProbeStep (s : State) (k : Nat) : State :=
  let svc := (s.serviceLanes k).filter (fun l => (s.runsAt k).probes.any (fun p => p.lane == l))
  let p := s.probeSum k
  if svc.any (fun l => s.runWants k l false || s.runWants k l true) then s
  else
    match (s.runsAt k).phase with
    | 3 => s.runGives k (svc.map (fun l =>
        { quantity := 0x02, element := l, value := roundHalfUp ((s.trim l : Rat) + meanR (p l).sum (p l).n) }))
    | 4 => (svc.foldl (fun s l => s.runRho k l (meanR (p l).sum (p l).n)) s).runGives k []
    | _ =>
      let e (l : Nat) : Rat := meanR (p l).sum (p l).n
      let r (l : Nat) : Rat := meanR (p l).sumr (p l).nr
      let late (l : Nat) : Rat := divF s.free (r l - e l) (2 * meanR (p l).speed ((p l).n + (p l).nr))
      let delay : Int := sext 32 (leAt s.senseDelays (8 * k) 4)
      s.runGives k (svc.map (fun l => { quantity := 0x03, element := l, value := roundHalfUp ((s.delta l : Rat) - (e l + r l) / 2) }) ++
        (if svc.isEmpty then [] else
          [{ quantity := 0x13, element := 2 * k, value := roundHalfUp ((delay : Rat) + 2500 * meanR (sumR (svc.map late)) svc.length) }]))

/-- A bow of course k ends, and its run, while it proceeds, takes its phase's step (R413, R415). -/
def State.runStep (s : State) (k : Nat) : State :=
  let r := s.runsAt k
  if (r.active && s.runMay k) = false ∨ 6 ≤ r.phase then s
  else if s.phaseMay k r.phase = false then s.runAdvance k
  else
    match r.phase, s.inputOf k with
    | 1, some x => s.runDarkStep k x
    | 2, _ => s.runBridgeStep k
    | _, _ => s.runProbeStep k

/-- The mean key temperature of domain d over the run of course k; of a run that took no sample, the temperature in use
(log 178). -/
def State.runMean (s : State) (k d : Nat) : Rat :=
  match tfind (s.runsAt k).temps d with
  | some (a, n) => meanR a n
  | none => (s.keyTemp d).getD (s.f32 (domIx d) 6)

/-- The run of course k ends: its domains take new points and are evaluated (R416). -/
def State.runEnd (s : State) (k : Nat) : State :=
  let ds := s.domainsOf k
  let ms := (s.runsAt k).measured
  let temps := ds.map (fun d => (d, s.runMean k d))
  let s1 := ((s.runsPut k {}).domainBit k 0 false).domainBit k 4 false
  let s2 := temps.foldl (fun s p => s.runPoint p.1 p.2 ms) s1
  (s2.bump 0x4000 7).each ds (fun s d => (s.evaluate d).runCheck d)

/-- TUNING_RUN_END: the run of course k has been through its phases, with so many values measured, and one point is written for each
of so many domains (R416). -/
def execTuningRunEnd (k : CourseId) (points values : Nat) (s : State) : Host.Outcome State Fault Refusal :=
  let x := s.runsAt k.val
  .next (
    if x.active ∧ s.runMay k.val = true ∧ x.phase = 6 ∧ points = (s.domainsOf k.val).length ∧ values = x.measured.length then s.runEnd k.val
    else s)

/-- TUNING_RUN_TIMEOUT: the run timeout of LIT time outside supply hold has passed (R417). -/
def execTuningRunTimeout (k : CourseId) (s : State) : Host.Outcome State Fault Refusal :=
  .next (if (s.runsAt k.val).active ∧ s.cst k.val = 4 ∧ s.flag 0x4200 0x04 0 = false then s.runAbort k.val else s)

/-- TUNING_SLICE_FORCED: a run has placed no probe in its course's bands for 10 s: both bands of the next active bow are
owed to it (R284). -/
def execTuningSliceForced (k : CourseId) (s : State) : Host.Outcome State Fault Refusal :=
  .next (
    if (s.runsAt k.val).active ∧ s.runMay k.val = true ∧ (s.runsAt k.val).probedAt + 10 * tS ≤ s.clk.up then
      ((s.plcPut k.val { s.plcAt k.val with slice := true }).runsPut k.val { s.runsAt k.val with probedAt := s.clk.up }).bump
        (0x2800 + k.val) 0x18
    else s)

/-! ### Loads -/

/-- The bow before the turnaround of course k carries a harmonic: the bow in progress once its nut has passed, else the
last one (R401, R403). -/
def State.turnHarmonic (s : State) (k : Nat) : Bool :=
  let p := s.plcAt k
  match (if p.nutPassed then p.cur else p.last) with
  | some b => !b.harmonics.isEmpty
  | none => false

/-- The load instant of the turnaround that ends the latest bow of course k in slot time (R401): 20 slots after the latest bridge on
its lanes where the bow opened a span, else the end of the bow. -/
def State.loadInstant (s : State) (k : Nat) : Rat :=
  let p := s.plcAt k
  let opened := if p.nutPassed then p.opened else (p.last.map (·.emitted)).getD false
  match (if p.nutPassed then p.cur else p.last) with
  | some b =>
    if opened then (((b.plans.map (fun q => q.bridgeSlot + s.latency q.lane)).foldl max 0 + 20 : Nat) : Rat) else b.c + b.hp / 2
  | none => 0

/-- PEG_LOAD: the load instant of a turnaround of course k; or, with no course, the load within 10 µs of the pegs of STOPPED
courses and of no course (R401 to R404, R409). A code that has been pending for less than 2 µs waits for the next. -/
def execPegLoad (k : Option CourseId) (s0 : State) : Host.Outcome State Fault Refusal :=
  let s := s0.pegsRefresh
  .next (
    if s0.dst = 0 ∨ s0.dst = 4 then s0
    else
      match k with
      | some k =>
        if s.cst k.val = 0 ∨ (s.captureLoadPending k.val = true ∧ s.turnHarmonic k.val = true) ∨
            (s.clk.slot : Rat) < s.loadInstant k.val then s
        else
          (s.pegLoad (allPegs.filter (fun p => s.pegCourse p == some k.val && decide ((s.pegsAt p).since + 2 * tUs ≤ s.clk.up)))).each (s.domainsOf k.val) (fun s d => s.domainLoad d)
      | none =>
        let idle : Option Nat → Bool := fun c => match c with
          | some c => s.cst c == 0
          | none => true
        (s.pegLoad (allPegs.filter (fun p => idle (s.pegCourse p)))).each ((List.range 98).filter s.domainIdle)
          (fun s d => s.domainLoad d))

end Sys2Proof.Machine
end

