-- ==== Sys2Proof/Machine/Placement.lean ====
section
/-! DEFINITION. Placement: slots and phases of a bow on every lane, harmonics, the nut, the span as it is sent, and the
beginning and the turnaround of a bow (R132 to R158, R278 to R284, R307 to R313, R320, R379, R380, R427, R492). -/

namespace Sys2Proof.Machine

open Sys2Proof

/-! ### Placement times (R141, R143, R144) -/

/-- A symbol as placed: slot, phase, level, kind (0 a band fret, 1 a content fret, 2 a probe fret, 3 the bridge), fret. -/
structure Sym where
  slot : Nat
  phase : Nat
  level : Nat
  kind : Nat
  fret : Nat
  deriving DecidableEq, Repr

/-- The scheduled instant ts of a fret angle on a lane, in slots, of a bow with centre c (R141). -/
def State.placeTime (s : State) (sn : Snapshot) (c : Rat) (forward : Bool) (lane : Nat) (angle : Int) : Rat :=
  let theta : Rat := ((angle - s.delta lane : Int) : Rat)
  let t := sn.hp * asinR (theta / sn.a) / piR
  c + (if forward then t else -t) - (s.latency lane : Rat) - (s.trim lane : Rat) / 2500

/-- The arithmetic error of a placement, at most 1/64 slot (R141, log 10). -/
def placeError (n : Nat) : Rat := clampR (-(1 / 64)) (1 / 64) (Config.freeRat n)

/-- Slot and phase of an instant (R141): the nearest 1/16 slot, halves upward. -/
def slotPhase (ts : Rat) : Nat × Nat :=
  let q := (16 * ts + 1 / 2).floor.toNat
  (q / 16, q % 16)

/-- The angle θ of every fret and of the bridge lies inside the amplitude on a lane (R134). -/
def State.anglesOk (s : State) (m : FretMap) (a : Rat) (lane : Nat) : Bool :=
  m.angles.all (fun f => decide (absR ((f - s.delta lane : Int) : Rat) < a))

/-- The symbols kept so far, latest first, take the next placement: the later fret takes a shared slot, or one that does not
follow; a probe gives way to a content fret (R144, R280). Kept symbols, symbols dropped, probe frets dropped by R280. -/
def keepSym (x : Sym) : List Sym → List Sym × Nat × List Nat
  | [] => ([x], 0, [])
  | y :: r =>
    if y.slot < x.slot then (x :: y :: r, 0, [])
    else if x.kind = 2 ∧ y.kind = 1 then (y :: r, 1, [x.fret])
    else
      let k := keepSym x r
      (k.1, k.2.1 + 1, k.2.2)

/-- Every placement of a lane in emission order. -/
def keepAll (l : List Sym) : List Sym × Nat × List Nat :=
  l.foldl (fun acc x =>
    let k := keepSym x acc.1
    (k.1, acc.2.1 + k.2.1, acc.2.2 ++ k.2.2)) ([], 0, [])

/-! ### Harmonics (R278 to R284) -/

/-- The fiducials of a band in a bow, first in emission order first. -/
def State.bandFiducials (s : State) (k : Nat) (m : FretMap) (bridge forward : Bool) (active : Nat) : List Fiducial :=
  (s.fiducials k).filter (fun f => f.takes forward active && m.bandHolds bridge f.angle)

/-- The gain frets of a band (R281): the probe frets whose span lies before the exclusion zone of the first fiducial of the
band and direction. -/
def State.gainFretsOf (s : State) (k : Nat) (m : FretMap) (bridge : Bool) : List Nat :=
  let w : Int := s.nat (0x2800 + k) 0x0C
  let zones := ((s.fiducials k).filter (fun f => f.reverse == m.reverse && m.bandHolds bridge f.angle)).map (fun f =>
    if m.reverse then f.angle + w else f.angle - w)
  (m.probeFrets (s.nat (0x2800 + k) 9) bridge).filter (fun i =>
    zones.all (fun z => if m.reverse then decide (z ≤ m.angle (i + 1)) else decide (m.angle (i + 1) ≤ z)))

/-- c_h: the code of the harmonic light on a lane, halves upward and without dither (R279). -/
def State.harmonicCode (s : State) (k lane : Nat) : Nat :=
  min 4095 (((lightToCode (s.blob (emitIx lane) 0x11) (s.f32 (0x2800 + k) 8) 0).1 + 8) / 16)

/-- The next lane in turn: the first at or after `turn`, else the first of all. -/
def nextInTurn (l : List Nat) (turn : Nat) : Option Nat :=
  match l.find? (fun x => decide (turn ≤ x)) with
  | some x => some x
  | none => l.head?

/-- Credits of the harmonic buckets of course k brought up to now (R283). -/
def State.fillBuckets (s : State) (k : Nat) : State :=
  let p := s.plcAt k
  let dt : Rat := ((s.clk.up - p.filled : Nat) : Rat) / (tS : Rat)
  s.plcPut k { p with
    filled := s.clk.up
    colourCredit := minR 16 (p.colourCredit + (s.nat (0x2800 + k) 7 : Rat) * dt)
    fiducialCredit := minR 16 (p.fiducialCredit + (s.nat (0x2800 + k) 0x0B : Rat) * dt) }

/-- A use of a band: 2 colour, 3 fiducial, 4 tuning probe, with its lane; none where no kind takes it (R283, R284). A
run asks for what its phase still lacks, emitter by emitter in turn; in phase 5 where a fiducial takes in the band (R415, log 46). -/
def State.bandUse (s : State) (k : Nat) (m : FretMap) (bridge forward : Bool) (active : Nat) (forced : Bool) :
    Option (Nat × Nat) :=
  let p := s.plcAt k
  let svc := s.serviceLanes k
  let run := (s.runsAt k).active && s.runMay k
  let colour := if s.nat (colIx k) 0x0E = 2 ∧ 1 ≤ p.colourCredit then
      nextInTurn (svc.filter (fun l => decide (0 < s.f32 (emitIx l) 0x13))) p.colourTurn else none
  let fid := if 1 ≤ p.fiducialCredit ∧ (s.bandFiducials k m bridge forward active).isEmpty = false then
      nextInTurn svc p.fiducialTurn else none
  let want := svc.filter (fun l => s.runWants k l (!forward) &&
    ((s.runsAt k).phase != 5 || !(s.bandFiducials k m bridge forward active).isEmpty))
  let tune := if run then nextInTurn want p.tuningTurn else none
  if (m.probeFrets (s.nat (0x2800 + k) 9) bridge).length < 4 then none
  else
    match (if forced then tune else none), colour, fid with
    | some l, _, _ => some (4, l)
    | none, some l, _ => some (2, l)
    | none, none, some l => some (3, l)
    | none, none, none => tune.map (fun l => (4, l))

/-- A use of a band spends its credit and its turn. -/
def PlaceSt.spend (p : PlaceSt) (u : Nat × Nat) : PlaceSt :=
  match u.1 with
  | 2 => { p with colourCredit := p.colourCredit - 1, colourTurn := u.2 + 1 }
  | 3 => { p with fiducialCredit := p.fiducialCredit - 1, fiducialTurn := u.2 + 1 }
  | _ => { p with tuningTurn := u.2 + 1 }

/-- The harmonic of one band of the bow being placed (R279 to R282). The lanes' symbols give its last slot and X6 later. -/
def State.takeBand (s : State) (k : Nat) (m : FretMap) (bridge forward : Bool) (active : Nat) (forced : Bool) :
    State × List PlacedHarmonic :=
  match s.bandUse k m bridge forward active forced with
  | none => (s, [])
  | some u =>
    let str := (s.stringOn u.2).getD 0
    let code := s.harmonicCode k u.2
    let h : PlacedHarmonic :=
      { lane := u.2, string := str, bridgeBand := bridge, level := code
        probeFrets := m.probeFrets (s.nat (0x2800 + k) 9) bridge
        gainFrets := s.gainFretsOf k m bridge, tuning := u.1 == 4, lastSlot := 0
        void := if s.codeLimit str < code then 4 else if s.modelState k = 3 then 7 else 0 }
    let s1 := (s.plcPut k ((s.plcAt k).spend u)).bump (0x2800 + k) 0x11
    (if u.1 = 4 then (s1.runsPut k { s1.runsAt k with probedAt := s1.clk.up }).bump (0x2800 + k) 0x17 else s1, [h])

/-- The harmonics of an active bow of a LIT course: at most one in each band (R278). With a capture-peg load pending the bow
has none, and that is counted (R403). -/
def State.takeHarmonics (s : State) (k : Nat) (m : FretMap) (forward : Bool) (active : Nat) :
    State × List PlacedHarmonic :=
  if s.cst k ≠ 4 then (s, [])
  else if s.captureLoadPending k then (s.bump 0x40F0 6, [])
  else
    let s0 := s.fillBuckets k
    let forced := (s0.plcAt k).slice
    let s1 := s0.plcPut k { s0.plcAt k with slice := false }
    let a := s1.takeBand k m false forward active forced
    let b := a.1.takeBand k m true forward active forced
    (b.1, a.2 ++ b.2)

/-! ### A bow placed -/

/-- Level of fret i on a string, and the kind of its symbol (R137, R143, R279). -/
def fretLevel (m : FretMap) (guard : Nat) (hs : List PlacedHarmonic) (lane i content : Nat) : Nat × Nat :=
  if m.inBand i then
    match hs.find? (fun h => h.lane == lane && (m.probeFrets guard h.bridgeBand).contains i) with
    | some h => (h.level, 2)
    | none => (0, 0)
  else (content, 1)

/-- The symbols of a lane before collisions, fret by fret and then the bridge; `n` counts the free errors. -/
def State.laneSyms (s : State) (k : Nat) (sn : Snapshot) (c : Rat) (forward : Bool) (m : FretMap)
    (hs : List PlacedHarmonic) (lane : Nat) (content : List Nat) (n : Nat) : List Sym :=
  (List.range (m.frets.length + 1)).map (fun i =>
    let sp := slotPhase (s.placeTime sn c forward lane (m.angle i) + placeError (n + i))
    let lv := if i = m.frets.length then (0, 3) else fretLevel m (s.nat (0x2800 + k) 9) hs lane i (content.getD i 0)
    { slot := sp.1, phase := sp.2, level := lv.1, kind := lv.2, fret := i })

/-- The plan of a lane from its kept symbols, latest first. -/
def lanePlan (lane str : Nat) (kept : List Sym) (hs : List PlacedHarmonic) : LanePlan :=
  let l := kept.reverse
  let bridge := kept.head?
  { lane := lane, string := str
    symbols := (l.filter (fun x => x.kind != 3)).map (fun x => (x.slot, x.phase, x.level))
    nutSlot := (l.head?.map (·.slot)).getD 0
    bridgeSlot := (bridge.map (·.slot)).getD 0
    bridgePhase := (bridge.map (·.phase)).getD 0
    nutHarmonic := hs.any (fun h => h.lane == lane && !h.bridgeBand)
    bridgeHarmonic := hs.any (fun h => h.lane == lane && h.bridgeBand) }

/-- A harmonic after its lane's collisions: its last probe slot, and X6 where a probe symbol gave way (R280, R282). -/
def settleHarmonic (m : FretMap) (guard lane : Nat) (kept : List Sym) (lost : List Nat) (h : PlacedHarmonic) :
    PlacedHarmonic :=
  if h.lane ≠ lane then h
  else
    let probes := m.probeFrets guard h.bridgeBand
    let last := ((kept.filter (fun x => x.kind == 2 && probes.contains x.fret)).map (·.slot)).foldl max h.lastSlot
    let first := (kept.filter (fun x => x.kind == 2 && probes.contains x.fret)).getLast?.map (fun x => 16 * x.slot + x.phase)
    let gone := lost.any probes.contains
    { h with lastSlot := last, firstAt := first, void := if gone ∧ (h.void = 0 ∨ h.void = 7) then 6 else h.void }

/-- One lane of a bow placed: its plan joins the bow's, and drops are counted on the lane and on the course (R144). -/
def State.placeLane (k : Nat) (sn : Snapshot) (c : Rat) (forward : Bool) (m : FretMap)
    (levels : List (Nat × List Nat)) (acc : State × List LanePlan × List PlacedHarmonic) (str : Nat) :
    State × List LanePlan × List PlacedHarmonic :=
  let s := acc.1
  let lane := s.laneOf str
  let content := ((levels.find? (fun l => l.1 == str)).map (·.2)).getD []
  let r := keepAll (s.laneSyms k sn c forward m acc.2.2 lane content s.free)
  let hs := acc.2.2.map (settleHarmonic m (s.nat (0x2800 + k) 9) lane r.1 r.2.2)
  let s1 : State := { s with free := s.free + m.frets.length + 1 }
  let s2 := if r.2.1 = 0 then s1 else (s1.addSat (laneIx lane) 9 r.2.1).addSat (crs k) 0x1D r.2.1
  (s2, acc.2.1 ++ [lanePlan lane str r.1 hs], hs)

/-- The model-dark conditions of R134 for a bow on a snapshot and a map. -/
def State.modelDark (s : State) (k : Nat) (sn : Snapshot) (m : FretMap) : Bool :=
  s.modelState k == 1 || s.modelState k == 4 || decide (sn.setPoint / 20 < absR (sn.a - sn.setPoint)) ||
    (s.lanesOf k).any (fun l => !s.anglesOk m sn.a l)

/-- An active bow is blanked by the laser throttle level of its course (R427). -/
def State.laserBlank (s : State) (k active : Nat) : Bool :=
  decide ((7 * active + s.nat (refIx k) 0x10) % 16 < s.nat (0x4140 + k) 8)

/-- The model is lost for a bow to be placed more than 4 bows after its snapshot (Table 4.1). -/
def State.loseModel (s : State) (k m : Nat) : State :=
  match (s.bowAt k).snap with
  | some sn =>
    if 1 ≤ s.modelState k ∧ s.modelState k ≤ 3 ∧ sn.bow + 4 < m then s.setModel k 4 else s
  | none => s

/-- A bow that carries nothing: flyback, of a direction not in use, or placed dark. -/
def plainBow (m : Nat) (forward : Bool) (active : Option Nat) (dark : Option DarkCause) (c hp a : Rat) (st : Nat)
    (marks : BowMarks) : PlacedBow :=
  { bow := m, forward := forward, active := active, dark := dark, c := c, hp := hp, a := a, plans := [], harmonics := [],
    modelState := st, emitted := false, cut := none, marks := marks }

/-- What the samples of a bow of course k are referred to: the map of its direction, and the fiducials of the course. -/
def State.marksOf (s : State) (k : Nat) (forward : Bool) : BowMarks :=
  match s.mapOf k forward with
  | some m => { angles := m.angles, nutBand := m.nutBand, bridgeBand := m.bridgeBand, table := s.blob (capIx k) 0x0A
                window := s.nat (capIx k) 0x0C }
  | none => {}

/-- An active bow whose model serves: blanked, or placed on every lane with its harmonics; one that was not rendered in time
is incomplete (R141 to R144, R222, R427). A blanked bow is placed dark and carries no harmonic (R278, Table 7.9 H4, log 46). -/
def State.placeActive (s : State) (k m : Nat) (forward : Bool) (i : Nat) (sn : Snapshot) (map : FretMap) (c : Rat) :
    State × PlacedBow :=
  let blank := s.laserBlank k i
  let got := (s.fetAt k).bows.find? (fun b => !b.next && b.active == i)
  let levels := got.bind (·.levels)
  let ready := levels.isSome && (s.plcAt k).rendered.contains (false, i)
  let h := if blank then (s, []) else s.takeHarmonics k map forward i
  let s1 := if blank then h.1.bump (0x4140 + k) 9 else h.1
  let r := (s1.stringsOf k).foldl (State.placeLane k sn c forward map (levels.getD [])) (s1, [], h.2)
  (r.1, { (plainBow m forward (some i) (if blank then some 0x12 else if ready then none else some 0x10) c sn.hp sn.a
      (s.modelState k) (s.marksOf k forward)) with plans := r.2.1, harmonics := r.2.2 })

/-- The next bow of course k is placed (R134, R141, R150, R155). DESIGN CHOICE (log 163): the model-dark count :1C takes active bows only,
since flyback bows and those of a direction not in use are dark in any case; an active bow for whose direction no map is selected is
placed dark and counted with them. -/
def State.placeNext (s0 : State) (k : Nat) : State :=
  let b := s0.bowAt k
  let m := (b.bow + 1) % 2 ^ 48
  let forward := !b.forward
  let s := s0.loseModel k m
  if (s.plcAt k).restart then
    s.plcPut k { s.plcAt k with next := some (plainBow m forward (s.activeIndex k m) ((s.activeIndex k m).map (fun _ => 0x13))
      (b.c + b.hp) b.hp b.a (s.modelState k) (s.marksOf k forward)) }
  else
  match b.snap with
  | none =>
    let i := s.activeIndex k m
    let s1 := if i.isSome then s.bump (crs k) 0x1C else s
    s1.plcPut k { s1.plcAt k with
      next := some (plainBow m forward i (i.map (fun _ => 0x11)) (b.c + b.hp) b.hp b.a (s.modelState k) (s.marksOf k forward)) }
  | some sn =>
    let c := sn.c + (((m : Int) - (sn.bow : Int) : Int) : Rat) * sn.hp
    match s.activeIndex k m, s.mapOf k forward with
    | none, _ => s.plcPut k { s.plcAt k with next := some (plainBow m forward none none c sn.hp sn.a (s.modelState k)
      (s.marksOf k forward)) }
    | some i, none =>
      let s1 := s.bump (crs k) 0x1C
      s1.plcPut k { s1.plcAt k with next := some (plainBow m forward (some i) (some 0x11) c sn.hp sn.a (s.modelState k)
        (s.marksOf k forward)) }
    | some i, some map =>
      if s.modelDark k sn map then
        let s1 := s.bump (crs k) 0x1C
        s1.plcPut k { s1.plcAt k with
          next := some (plainBow m forward (some i) (some 0x11) c sn.hp sn.a (s.modelState k)
        (s.marksOf k forward)) }
      else
        let r := s.placeActive k m forward i sn map c
        r.1.plcPut k { r.1.plcAt k with next := some r.2 }

/-- BOW_PLACEMENT: placement of the next bow runs during the bow in progress (R141). -/
def execBowPlacement (k : CourseId) (s : State) : Host.Outcome State Fault Refusal :=
  .next (
    if s.cst k.val = 0 ∨ s.modelState k.val = 0 ∨ s.clk.refclk = false ∨ (s.plcAt k.val).next.isSome then s
    else s.placeNext k.val)

/-! ### The span (R307, R310 to R312, R379, R380) -/

/-- The symbols of `n` slots from `slot` on: level and phase. Between placements the latest level stands; after the bridge
the level is 0 (R143). -/
def spanGo (bridge bphase : Nat) : Nat → Nat → Nat → List (Nat × Nat × Nat) → List (Nat × Nat)
  | 0, _, _, _ => []
  | n + 1, slot, lv, l =>
    if slot = bridge then (0, bphase) :: spanGo bridge bphase n (slot + 1) 0 []
    else
      match l with
      | [] => (lv, 0) :: spanGo bridge bphase n (slot + 1) lv []
      | x :: r =>
        if x.1 = slot then (x.2.2, x.2.1) :: spanGo bridge bphase n (slot + 1) x.2.2 r
        else (lv, 0) :: spanGo bridge bphase n (slot + 1) lv (x :: r)

/-- The symbols of a plan's span in slot order. -/
def LanePlan.span (p : LanePlan) : List (Nat × Nat) :=
  spanGo p.bridgeSlot p.bridgePhase (4 * (p.last + 1 - p.first)) (4 * p.first) 0 p.symbols

/-- A symbol on the wire: level [15:4], held at the code limit, and phase [3:0] (R307, R379). -/
def symbolWord (limit : Nat) (x : Nat × Nat) : Nat := min x.1 limit * 16 + x.2

/-- Payloads of the data blocks from words in slot order (Table 9.2). -/
def dataPayloads : Nat → List Nat → List Nat
  | 0, _ => []
  | n + 1, l => (l.getD 0 0 + l.getD 1 0 * 2 ^ 16 + l.getD 2 0 * 2 ^ 32 + l.getD 3 0 * 2 ^ 48) :: dataPayloads n (l.drop 4)

/-- The span CRC (Table 9.5): each symbol as two bytes, bits [15:8] first. -/
def spanCrc (words : List Nat) : Nat := crc16 (words.flatMap (fun w => beBytes 2 w))

/-- A lane queues its span for a bow: DRONE, PROBE-SYNC, NUT, the data blocks, BRIDGE, DRONE (R312). -/
def State.sendSpan (s : State) (b : PlacedBow) (p : LanePlan) : State :=
  let l := p.lane
  let limit := s.codeLimit p.string
  let words := p.span.map (symbolWord limit)
  let bands := (if p.nutHarmonic then [0] else []) ++ (if p.bridgeHarmonic then [1] else [])
  let b0 := p.first
  let w := b.bow % 2 ^ 16
  let s1 := s.queueBlock l { pos := b0 - 2 - bands.length, rank := 0, kind := .drone false }
  let s2 := (List.range bands.length).foldl (fun s i =>
    s.queueControl l (b0 - 1 - bands.length + i) 0 blkProbe (w * 2 ^ 24 + bands.getD i 0 * 2 ^ 23)) s1
  let s3 := s2.queueControl l (b0 - 1) 0 blkNut (b.active.getD 0 * 2 ^ 24 + w * 2 ^ 8 + (if b.forward then 0 else 128) +
    (if bands.isEmpty then 0 else 64))
  let d := dataPayloads (p.last + 1 - b0) words
  let s4 := (List.range d.length).foldl (fun s i =>
    s.queueBlock l { pos := b0 + i, rank := 0, kind := .data (d.getD i 0) }) s3
  (s4.queueControl l (p.last + 1) 0 blkBridge (w * 2 ^ 24 + spanCrc words * 2 ^ 8)).queueBlock l
    { pos := p.last + 2, rank := 0, kind := .drone true }

/-- Every lane of a bow can still send its span from the DRONE before it on (R156, R312, log 153). -/
def State.spanFits (s : State) (b : PlacedBow) : Bool :=
  b.plans.all (fun p =>
    decide (s.blockNow + 2 + (if p.nutHarmonic then 1 else 0) + (if p.bridgeHarmonic then 1 else 0) ≤ p.first))

/-- Limits are summed up to a slot of the running sub-window, under limit `l` (R380). -/
def EnergySt.limitsTo (e : EnergySt) (l slot : Nat) : EnergySt :=
  { e with lim := e.lim + l * (slot - e.upTo), upTo := max e.upTo slot }

/-- The energy window rolls to sub-window w under limit `l` (R380); with the highest value of S / (524,288 + n) on the way. -/
def energyRoll (l : Nat) : Nat → Nat → EnergySt × Nat → EnergySt × Nat
  | 0, w, (e, pk) => ({ e with win := w, upTo := max e.upTo (w * 32768) }, pk)
  | n + 1, w, (e, pk) =>
    if e.win < w then
      let x := e.limitsTo l ((e.win + 1) * 32768)
      let d := (x.done ++ [(x.sum, x.lim)]).drop (x.done.length + 1 - 16)
      energyRoll l n w
        ({ done := d, win := e.win + 1, sum := 0, lim := 0, upTo := (e.win + 1) * 32768 }, max pk ((d.map (·.1)).sum / 524288))
    else (e, pk)

/-- The energy window of a string brought to a slot (R380). -/
def State.energyTo (s : State) (str slot : Nat) : EnergySt :=
  let l := s.meanLimit str
  ((energyRoll l 17 (slot / 32768) (s.energyAt str, 0)).1).limitsTo l slot

/-- The sums S of the levels and Λ of the limits; sub-windows before the first known one count with limit `l` (R380). -/
def EnergySt.levels (e : EnergySt) : Nat := (e.done.map (·.1)).sum + e.sum
def EnergySt.limits (e : EnergySt) (l : Nat) : Nat := (e.done.map (·.2)).sum + (16 - e.done.length) * (32768 * l) + e.lim

/-- The energy window after a slot with a level, under limit `l` (R380). -/
def energySlot (l : Nat) (acc : EnergySt × Nat × Nat) (x : Nat × Nat) : EnergySt × Nat × Nat :=
  let slot := acc.2.2
  let r := energyRoll l 17 (slot / 32768) (acc.1, acc.2.1)
  let e := { r.1.limitsTo l (slot + 1) with sum := r.1.sum + x.1 }
  (e, max r.2 (e.levels / (524288 + slot % 32768 + 1)), slot + 1)

/-- What a lane has sent of a span is counted: levels held at the limit, 3810 + k:0D, and the energy window, 3810 + k:0E
(R379, R380); `cut` is the first slot not sent. -/
def State.countSpan (s : State) (k : Nat) (cut : Option Nat) (p : LanePlan) : State :=
  let limit := s.codeLimit p.string
  let all := p.span
  let sent := match cut with
    | some n => all.take (n - 4 * p.first)
    | none => all
  let n := (sent.filter (fun x => decide (limit < x.1))).length
  let r := (sent.map (fun x => (min x.1 limit, x.2))).foldl (energySlot (s.meanLimit p.string)) (s.energyAt p.string, 0, 4 * p.first)
  let s1 := (s.energyPut p.string r.1).addSat (0x3810 + k) 0x0D n
  s1.putN (0x3810 + k) 0x0E (max (s1.nat (0x3810 + k) 0x0E) r.2.1)

/-- What the bow in progress of course k has sent before a slot, if any is named, is counted, once (log 112). -/
def State.countBow (s : State) (k : Nat) (cut : Option Nat) : State :=
  let p := s.plcAt k
  match p.cur with
  | some b =>
    if p.opened ∧ p.counted = false then
      (s.each (List.range b.plans.length) (fun s i =>
        match b.plans[i]? with
        | some q => s.countSpan k cut q
        | none => s)).plcPut k { p with counted := true }
    else s
  | none => s

/-- What the bow in progress of course k has sent is counted as it ends. -/
def State.closeSpan (s : State) (k : Nat) : State := s.countBow k ((s.plcAt k).cut.map (·.1))

/-- The counters of course k as they stand within a bow (R379, R380). -/
def State.countedNow (s : State) (k : Nat) : State :=
  s.countBow k (some (match (s.plcAt k).cut with
    | some c => min c.1 s.clk.slot
    | none => s.clk.slot))

/-- The level sum of a string of course k exceeds its limit sum (R380). -/
def State.energyOver (s : State) (k str : Nat) : Bool :=
  let e := (s.countedNow k).energyTo str s.clk.slot
  decide (e.limits (s.meanLimit str) < e.levels)

/-- The mean-level limits of strings are to change: what they were is summed up to now (R380, J7). -/
def State.energySync (s : State) (l : List Nat) : State := s.each l (fun s str => s.energyPut str (s.energyTo str s.clk.slot))

/-- ENERGY_TRIP: the level sum of a string exceeds its limit sum (R380). -/
def execEnergyTrip (string : CanvasId) (s : State) : Host.Outcome State Fault Refusal :=
  .next (
    if s.capo.vaon then
      match s.courseOfString string.val with
      | some k => if s.energyOver k string.val then s.trip k 1 else s
      | none => s
    else s)

/-! ### The nut (R15, R24, R156, R320) -/

/-- The transition that the nut of a bow brings: the first of C2, C3 and C9 whose trigger holds (Table 1.6, R24). The flag
tells that a hush took effect. -/
def State.nutMove (s : State) (k : Nat) : State × Bool :=
  if s.cst k = 4 ∧ (s.creq k = 0 ∨ (s.mirAt k).failed = true) then
    ((s.hushCourse k (if s.creq k = 0 then 0 else 4)).toStopped k, false)
  else if (s.cst k = 2 ∨ s.cst k = 3 ∨ s.cst k = 4) ∧ s.causes k ≠ 0 then
    ((s.toHushed k).hushCourse k (hushField (s.causes k)), true)
  else if s.cst k = 4 ∧ (s.creq k = 2 ∨ s.creq k = 3 ∨ (s.dst = 2 ∧ s.nat 0x4200 2 = 1)) then (s.setCst k 3, false)
  else (s, false)

/-- A course whose emission is no longer permitted drops EMIT_OK at its nut, but where a hush of R319 gives the instant (R387). -/
def State.emitAtNut (s : State) (k : Nat) : State :=
  if s.permitted k ∨ (s.capo.dropDue.any (fun d => d.1 == k)) = true then s else s.setEmitOk k false

/-- The bow opens its span on every lane that is UP. -/
def State.openSpans (s : State) (k : Nat) (b : PlacedBow) : State :=
  let s1 := s.plcPut k { s.plcAt k with opened := true }
  b.plans.foldl (fun s p => if (s.lanesAt p.lane).state = 2 then s.sendSpan b p else s) s1

/-- The bow opens no span: its record where the course was LIT when it began (R492), and :1B for an underrun (R156). -/
def State.nutDark (s : State) (k : Nat) (b : PlacedBow) (hushed : Bool) : State :=
  let p := s.plcAt k
  let cause := if s.causes k ≠ 0 ∧ (hushed ∨ s.cst k = 5) then lowestCause (s.causes k) else (b.dark.getD 0x10)
  let n := (b.c - b.hp / 2).floor.toNat
  if p.lit = false ∨ p.cut.isSome ∨ b.active.isNone ∨ (s.cst k ≠ 4 ∧ s.cst k ≠ 5) then s
  else
    let s1 := if cause = 0x10 then s.bump (crs k) 0x1B else s
    (s1.plcPut k { p with cut := some (n, cause) }).darkBow k { slot := n, bow := b.bow, cause := cause, cut := false }

/-- NUT_REACHED: the nut of the bow in progress; `queued` tells that every lane's transmit queue held its span in time (R156), and
a span whose first block position has passed was not (log 153). -/
def execNutReached (k : CourseId) (queued : Bool) (s : State) : Host.Outcome State Fault Refusal :=
  let p := s.plcAt k.val
  .next (
    if s.cst k.val = 0 ∨ p.nutPassed then s
    else
      let s0 := s.plcPut k.val { p with nutPassed := true }
      let m := s0.nutMove k.val
      let r := (m.1.emitAtNut k.val, m.2)
      let s1 := match p.cur with
        | none => r.1
        | some b =>
          if r.1.cst k.val = 4 ∧ b.active.isSome ∧ b.dark.isNone ∧ queued = true ∧ r.1.spanFits b = true ∧
              r.1.clk.refclk = true then
            r.1.openSpans k.val b
          else r.1.nutDark k.val b r.2
      s1.darkIfDone)

/-! ### The beginning and the turnaround of a bow -/

/-- The bows that are rendered as a bow begins (R222); those of bows that have begun are let go. -/
def State.fetchBow (s : State) (k : Nat) : State :=
  let m := (s.bowAt k).bow
  let f := s.fetAt k
  let bows := f.bows.filter (fun b => b.next || decide (m < b.bow))
  let gone := f.bows.filter (fun b => !b.next && decide (b.bow ≤ m) && b.levels.isNone)
  let s1 := gone.foldl (fun s b => s.releaseTiles k b) (s.fetPut k { f with bows := bows })
  s1.plcPut k { s1.plcAt k with rendered := (bows.filter (·.levels.isSome)).map (fun b => (b.next, b.active)) }

/-- LIT time of course k does not count while a bow that laser-module throttling blanked is in progress (Table 7.9, H4). -/
def State.litClock (s : State) (k : Nat) : State :=
  let c := s.colAt k
  let blank := (s.plcAt k).cur.any (fun b => b.dark == some 0x12)
  if s.cst k ≠ 4 ∨ c.litSince.isNone = blank then s
  else s.colPut k { c with litTime := s.litTimeNow k, litSince := if blank then none else some s.clk.up }

/-- BOW_START: a modelled bow begins (R132); the one before it ends. -/
def execBowStart (k : CourseId) (s : State) : Host.Outcome State Fault Refusal :=
  .next (
    if s.cst k.val ≠ 0 ∧ (s.bowAt k.val).seeded = true ∧ s.clk.slotRun = true ∧ s.clk.refclk = true then
      let s1 := (((s.closeBow k.val).closeSpan k.val).closeLedger k.val).capMark k.val
      ((((((s1.nextBow k.val).frameBow k.val).countAmp k.val).fetchBow k.val).refreshWater k.val).litClock k.val)
    else s)

/-- Capo limits of the strings of course k that wait for a turnaround take effect (R378). -/
def State.limitsTake (s0 : State) (k : Nat) : State :=
  let l := s0.stringsOf k
  let s := (s0.closeSpan k).energySync (l.filter (fun str => (tfind s0.capo.mean str).isSome))
  { s with capo := { s.capo with
      code := s.capo.code.filter (fun p => !l.contains p.1), mean := s.capo.mean.filter (fun p => !l.contains p.1) } }

end Sys2Proof.Machine
end

