-- ==== Sys2Proof/Machine/Shaft.lean ====
section
/-! DEFINITION. Shaft channels: counts, index pulses, SSI polls, line breaks, and the frame requests of SHAFT courses (R97 to
R99, R102, R103, R190). -/

namespace Sys2Proof.Machine

open Sys2Proof

/-- Index of shaft channel j. -/
def shIx (j : Nat) : Nat := 0x1218 + j

/-- Reference state of shaft channel j (Table 3.8). -/
def State.shaftState (s : State) (j : Nat) : Nat := s.nat (shIx j) 0x10

/-- The courses that follow shaft channel j. -/
def State.shaftCourses (s : State) (j : Nat) : List Nat := allCourses.filter (fun k => s.follows k 2 j)

/-- The frame number of course k at a position (R98); none with no counts per frame. -/
def State.shaftFrame (s : State) (k : Nat) (p : Int) : Option Int :=
  if s.nat (refIx k) 6 = 0 then none else some ((p - (s.nat (refIx k) 7 : Int)) / (s.nat (refIx k) 6 : Int))

/-- When the shaft crossed into frame n of course k on its way to position p (R98): now; or, between two polls of an SSI channel, the
first at time t0 and position p0, by linear interpolation. -/
def State.crossedAt (s : State) (k : Nat) (n p : Int) (before : Option (Nat × Int)) : Nat :=
  match before with
  | none => s.clk.tai
  | some (t0, p0) =>
    let c : Int := s.nat (refIx k) 6
    let edge : Int := (s.nat (refIx k) 7 : Int) + c * (if p0 < p then n else n + 1)
    if p = p0 then s.clk.tai else ((t0 : Int) + ((s.clk.tai : Int) - t0) * (edge - p0) / (p - p0)).toNat

/-- Course k takes the shaft's frame number: a change requests a frame, and one of more than one realigns (R92, R98). -/
def State.frameNumber (s : State) (k : Nat) (p : Int) (before : Option (Nat × Int)) : State :=
  match s.shaftFrame k p, (s.frmAt k).shaftN with
  | none, _ => s
  | some n, none => s.frmPut k { s.frmAt k with shaftN := some n }
  | some n, some old =>
    if n = old then s
    else
      let s1 := s.frmPut k { s.frmAt k with shaftN := some n }
      let s2 := if 1 < (n - old).natAbs then s1.realign k else s1
      s2.requestFrame k none (s.crossedAt k n p before)

/-- The uncertain policy of channel j: hush cause bit 6 of its courses while it is uncertain or broken (R103). -/
def State.shaftHush (s : State) (j : Nat) : State :=
  let bad := (s.shaftState j == 5 || s.shaftState j == 6) && s.nat (shIx j) 0x0C == 0
  s.each (s.shaftCourses j) (fun s k => if bad then s.setCause k 6 else s.clearCause k 6)

/-- Channel j takes a reference state. -/
def State.setShaft (s : State) (j st : Nat) : State := (s.putN (shIx j) 0x10 st).shaftHush j

/-- Channel j moves to position p: rate, state, frame numbers, and the buffers that fall out of reach (R97, R98, R190). `before`: time
and position of the poll before, for an SSI channel. -/
def State.shaftMove (s : State) (j : Nat) (p : Int) (before : Option (Nat × Int)) : State :=
  let d := p - s.shaftPos j
  let x := s.shaftsAt j
  let s1 := (s.shaftsPut j { x with
    last := s.clk.up, recent := x.recent.filter (fun r => decide (s.clk.up < r.1 + tMs)) ++ [(s.clk.up, d)] }).putI (shIx j)
      0x0D (sext 64 (trunc 64 p))
  let s2 := s1.setShaft j (if x.certain then 2 else 5)
  s2.each (s2.shaftCourses j) (fun s k => (s.frameNumber k p before).releaseTravel k)

/-- Quadrature direction of a change of (A, B); A leading B counts up (log 48). -/
def quadStep (a b a1 b1 : Bool) : Int :=
  if a = a1 then (if b = b1 then 0 else if b1 = a then 1 else -1) else if a1 = b then -1 else 1

/-- The duty of A: its high time over its last full cycle, in units of 2⁻³¹ (Table 10.2 kind 0x06). -/
def ShaftSt.edgeA (x : ShaftSt) (now : Nat) (a : Bool) : ShaftSt :=
  if a = x.a then x
  else if a then
    match x.rise, x.fall with
    | some r, some f => { x with rise := some now, duty := if now = r then x.duty else (f - r) * 2 ^ 31 / (now - r) }
    | _, _ => { x with rise := some now }
  else { x with fall := some now }

/-- SHAFT_COUNT: an accepted quadrature state (R97). -/
def execShaftCount (j : Fin 8) (a b : Bool) (s : State) : Host.Outcome State Fault Refusal :=
  let x := s.shaftsAt j.val
  .next (
    if s.nat (shIx j.val) 1 ≠ 1 ∨ s.shaftState j.val = 6 ∨ (a = x.a ∧ b = x.b) then s
    else
      let y := { x.edgeA s.clk.tai a with a := a, b := b }
      if a ≠ x.a ∧ b ≠ x.b then
        ((s.shaftsPut j.val { y with certain := false }).bump (shIx j.val) 0x11).setShaft j.val 5
      else if x.zPending then
        (s.shaftsPut j.val { y with zPending := false, certain := true }).shaftMove j.val (s.nat (shIx j.val) 3) none
      else (s.shaftsPut j.val y).shaftMove j.val (s.shaftPos j.val + quadStep x.a x.b a b) none)

/-- SHAFT_INDEX: Z is active; the next count sets the position (R97). -/
def execShaftIndex (j : Fin 8) (s : State) : Host.Outcome State Fault Refusal :=
  .next (
    if s.nat (shIx j.val) 1 = 1 ∧ s.shaftState j.val ≠ 6 then s.shaftsPut j.val { s.shaftsAt j.val with zPending := true }
    else s)

/-! ### SSI -/

/-- The binary number of a Gray code of n bits. -/
def grayToBin : Nat → Nat → Nat
  | 0, _ => 0
  | n + 1, g => if (popcount 64 (g / 2 ^ n)) % 2 = 1 then 2 ^ n + grayToBin n g else grayToBin n g

/-- The position that a poll's data bits give. -/
def State.ssiValue (s : State) (j bits_ : Nat) : Nat :=
  let n := s.nat (shIx j) 4
  let v := bits_ % 2 ^ n
  if s.nat (shIx j) 5 = 1 then grayToBin n v else v

/-- The parity of a poll is wrong. -/
def State.ssiParityBad (s : State) (j v : Nat) (parity : Bool) : Bool :=
  let ones := popcount 32 v + if parity then 1 else 0
  match s.nat (shIx j) 6 with
  | 1 => ones % 2 == 1
  | 2 => ones % 2 == 0
  | _ => false

/-- SSI_POLL: a frame of channel j (R97). The change from poll to poll is taken modulo the code's length (log 48). -/
def execSsiPoll (j : Fin 8) (f : SsiFrame) (s : State) : Host.Outcome State Fault Refusal :=
  let ix := shIx j.val
  let x := s.shaftsAt j.val
  let n := s.nat ix 4
  let v := s.ssiValue j.val f.bits
  let framed := f.highBefore && f.highAfter && !s.ssiParityBad j.val (f.bits % 2 ^ n) f.parity
  let jump := match x.poll with
    | some p => decide (s.nat ix 0x0A < (sext n (trunc n ((v : Int) - (p : Int)))).natAbs)
    | none => false
  .next (
    if s.nat ix 1 ≠ 2 ∨ s.shaftState j.val = 6 then s
    else if framed then
      let y := { x with poll := some v, polledAt := s.clk.tai }
      if jump then ((s.shaftsPut j.val { y with certain := false }).bump ix 0x12).setShaft j.val 5
      else
        let p : Int := match x.poll with
          | some _ => s.shaftPos j.val + sext n (trunc n ((v : Int) - s.shaftPos j.val))
          | none => v
        let s1 := s.shaftsPut j.val { y with certain := true }
        if p = s.shaftPos j.val ∧ s.shaftState j.val = 7 then s1
        else s1.shaftMove j.val p (x.poll.map (fun _ => (x.polledAt, s.shaftPos j.val)))
    else ((s.shaftsPut j.val { x with certain := false }).bump ix 0x12).setShaft j.val 5)

/-! ### Breaks and stops -/

/-- SHAFT_LINE_BREAK: a pair stays below 200 mV for 1 µs (F7). -/
def execShaftLineBreak (j : Fin 8) (s : State) : Host.Outcome State Fault Refusal :=
  .next (
    if s.nat (shIx j.val) 1 = 0 then s
    else (s.shaftsPut j.val { s.shaftsAt j.val with certain := false, zPending := false }).setShaft j.val 6)

/-- SHAFT_LINE_RESTORED: the line is back; the position stays uncertain until the next Z pulse or valid frame (F7). -/
def execShaftLineRestored (j : Fin 8) (s : State) : Host.Outcome State Fault Refusal :=
  .next (if s.shaftState j.val = 6 then s.setShaft j.val 5 else s)

/-- SHAFT_STOPPED: no count change for the stop time; the position stays certain (F8). -/
def execShaftStopped (j : Fin 8) (s : State) : Host.Outcome State Fault Refusal :=
  .next (if s.shaftState j.val = 2 then s.setShaft j.val 7 else s)

/-- REPEAT_FRAME: the maximum frame period of a SHAFT or SYNC_IN course passes without a request (R99). -/
def execRepeatFrame (k : CourseId) (s : State) : Host.Outcome State Fault Refusal :=
  let r := s.nat (refIx k.val) 1
  .next (
    if (r = 1 ∨ r = 2) ∧ s.nat (refIx k.val) 8 ≠ 0 then
      let s1 := s.requestFrame k.val none s.clk.tai
      s1.frmPut k.val { s1.frmAt k.val with held := (s1.frmAt k.val).held.map (fun r => { r with isRepeat := true }) }
    else s)

end Sys2Proof.Machine
end

