-- ==== Sys2Proof/Machine/Firmware.lean ====
section
/-! DEFINITION. The management pairs, firmware images and unit restarts (R488 to R501, Tables 14.5 and 14.7). -/

namespace Sys2Proof.Machine

open Sys2Proof

/-! ### Pairs (R494 to R497, R501). Pair 0 is A, pair 1 is B. -/

/-- The role of a pair, and the state with it replaced. -/
def FwSt.role (f : FwSt) (p : Nat) : Nat := if p = 0 then f.roleA else f.roleB
def FwSt.setRole (f : FwSt) (p r : Nat) : FwSt := if p = 0 then { f with roleA := r } else { f with roleB := r }

/-- The active pair, and the other. -/
def FwSt.active (f : FwSt) : Nat := if f.roleA = 1 then 0 else 1
def FwSt.other (f : FwSt) : Nat := 1 - f.active

/-- The standby can take over: it is standby or on probation, and synchronised (R496, R501). -/
def FwSt.ready (f : FwSt) : Bool := f.synced && (f.role f.other == 2 || f.role f.other == 5)

/-- Uptimes of the faults of a pair in the last 24 h, with one more at `now` (R496). -/
def FwSt.faults (f : FwSt) (p now : Nat) : List Nat :=
  (if p = 0 then f.faultsA else f.faultsB).filter (fun t => decide (now < t + 86400 * tS)) ++ [now]

def FwSt.setFaults (f : FwSt) (p : Nat) (l : List Nat) : FwSt :=
  if p = 0 then { f with faultsA := l } else { f with faultsB := l }

/-- The image in a firmware slot, and the state of the slot (5100:0A, :0B). -/
def State.slotImage (s : State) (i : Nat) : List Byte := s.store.slots.getD i []
def State.slotState (s : State) (i : Nat) : Nat :=
  match s.store.slotStates.getD i none with
  | some n => n
  | none => Config.firmwareSlotState i % 3

/-- The state of a firmware slot replaced. -/
def State.setSlotState (s : State) (i n : Nat) : State :=
  { s with store := { s.store with slotStates := s.store.slotStates.set i (some n) } }

/-- The firmware slot in use, 1000:07, and the other. -/
def State.slotInUse (s : State) : Nat := s.nat 0x1000 7
def State.otherSlot (s : State) : Nat := 1 - s.slotInUse

/-- The firmware of a slot runs: 1000:06 and :07 show it. -/
def State.runSlot (s : State) (i : Nat) : State :=
  (s.putN 0x1000 7 i).putN 0x1000 6 (Config.imageVersion (s.slotImage i) % 2 ^ 32)

/-- A write of an image in progress is abandoned: the slot reads invalid and the update state shows a failed write (QE6,
PW6, R499). -/
def State.abandonWrite (s : State) : State :=
  match s.fw.writing with
  | none => s
  | some (i, _) => (({ s with fw := { s.fw with writing := none } } : State).setSlotState i 2).putN 0x7F00 0x0A 8

/-- The standby becomes active (R496, Table 14.7 step 5): counted; an image write is abandoned (QE6). -/
def State.swapPairs (s : State) (oldRole : Nat) : State :=
  let f := s.fw
  let a := f.active
  let f1 := (f.setRole f.other 1).setRole a oldRole
  (({ s with fw := { f1 with switchDue := false } } : State).abandonWrite.bump 0x7F00 8).switchIn 4 a f.other

/-- The active pair restarts in place: the dictionary gives no responses and heartbeats pause (R497). -/
def State.restartInPlace (s : State) : State :=
  if s.fw.restarting then s
  else ({ s with fw := { s.fw with restarting := true, switchDue := false } } : State).recover 5 0 (2 * tS) s.fw.active

/-- The standby takes over from a faulty active pair (R496). A pair's second fault within 24 h fails it until START; with
policy 0 it does not return. A fault of the new pair in probation ends the update at state 7 (R501); one before the
switch-over of an update leaves the update idle (log 49). -/
def State.takeOver (s : State) : State :=
  let a := s.fw.active
  let l := s.fw.faults a s.clk.up
  let failed := decide (2 ≤ l.length)
  let st := s.nat 0x7F00 0x0A
  let s1 := s.swapPairs (if failed then 4 else if s.nat 0x7000 4 = 0 then 0 else 3)
  let s2 : State := { s1 with
    fw := { s1.fw.setFaults a l with synced := false, faulty := if failed then 0 else a + 1 } }
  let s3 :=
    if st = 5 then (s2.runSlot s.otherSlot).putN 0x7F00 0x0A 7
    else if st = 4 then (s2.runSlot s.otherSlot).putN 0x7F00 0x0A 0
    else s2
  let s4 := s3.recover 4 0 (100 * tUs) a
  if failed then s4.offer .pair a false else s4

/-- FD3 detects a fault of the active pair: the synchronised standby takes over, else the pair restarts in place (R496,
R497), though it were its second fault within 24 h (log 180). -/
def State.pairFault (s : State) : State :=
  if s.fw.restarting then s
  else if s.fw.ready then s.takeOver
  else
    let a := s.fw.active
    ({ s with fw := s.fw.setFaults a (s.fw.faults a s.clk.up) } : State).restartInPlace

/-- PAIR_FAULT: the lockstep comparison of the active pair fails (FD3). -/
def execPairFault (s : State) : Host.Outcome State Fault Refusal := .next (s.bump 0x7F00 9).pairFault

/-- WATCHDOG_EXPIRY: the active pair's watchdog of 10 ms expires (FD3). -/
def execWatchdogExpiry (s : State) : Host.Outcome State Fault Refusal := .next (s.bump 0x7F00 0x0C).pairFault

/-- PAIR_RESTART_IN_PLACE: the active pair has faulted with no standby synchronised (R497). -/
def execPairRestartInPlace (s : State) : Host.Outcome State Fault Refusal :=
  .next (if s.fw.ready then s else s.restartInPlace)

/-- PAIR_RESTART_COMPLETE: the pair that restarted in place runs again, and tuning runs resume (R497). -/
def execPairRestartComplete (s : State) : Host.Outcome State Fault Refusal :=
  .next (({ s with fw := { s.fw with restarting := false } } : State).each allCourses (fun s k => s.runStart k))

/-- PAIR_STANDBY_READY: the faulty pair has passed its self-test, reloaded the image in use and synchronised; with policy 0
its return is withheld (R496). -/
def execPairStandbyReady (s : State) : Host.Outcome State Fault Refusal :=
  .next (
    if s.fw.faulty = 0 ∨ s.nat 0x7000 4 = 0 then s
    else
      ({ s with fw := { s.fw.setRole (s.fw.faulty - 1) 2 with synced := true, faulty := 0 } } : State).putN 0x7F00 7
        (s.nat 0x1000 6))

/-! ### Images and the hitless update (R499, R500) -/

/-- The slot that a committed image is written to: the one not in use, slot 0 in recovery mode (R498, R499). -/
def State.imageSlot (s : State) : Nat := if s.flag 0x7F00 0x0B 0 then 0 else s.otherSlot

/-- An accepted image begins to be written: the slot state word is cleared first (R499). -/
def State.imageBegin (s : State) (b : List Byte) : State :=
  ({ s with fw := { s.fw with writing := some (s.imageSlot, b) } } : State).setSlotState s.imageSlot 2

/-- IMAGE_WRITE_COMPLETE: the slot is written and valid, or the write failed (R499); in recovery mode the boot slot is then
0 (R498). A write is not completed during a supply hold (PW7). -/
def execImageWriteComplete (ok : Bool) (s : State) : Host.Outcome State Fault Refusal :=
  .next (
    match s.fw.writing with
    | none => s
    | some (i, b) =>
      if s.canPersist = false then s
      else if ok then
        let s1 := ({ s with
          fw := { s.fw with writing := none }
          store := { s.store with slots := s.store.slots.set i b } } : State).setSlotState i 1
        let s2 := (s1.putN 0x7F00 0x0A 2).putN 0x7F00 0x0D (Config.imageCrc b % 2 ^ 32)
        if s.flag 0x7F00 0x0B 0 then s2.putRP 0x7F00 2 (.num 0) else s2
      else s.abandonWrite)

/-- Status of a write that the update state does not allow: busy in states 3 to 5, else rejected (log 49). -/
def State.updateStatus (s : State) : Nat :=
  if 3 ≤ s.nat 0x7F00 0x0A ∧ s.nat 0x7F00 0x0A ≤ 5 then stBusy else stRejected

/-- A write of 7F00:03: the standby pair stops and loads the new image (Table 14.7 step 2). -/
def State.loadStandby (s : State) (v : Nat) : State × Nat :=
  if v ≠ 1 then (s, stRange)
  else if s.nat 0x7F00 0x0A ≠ 2 ∨ s.fw.writing.isSome = true ∨ s.fw.role s.fw.other = 4 then (s, s.updateStatus)
  else
    (({ s with fw := { s.fw.setRole s.fw.other 3 with synced := false, faulty := 0 } } : State).putN 0x7F00 0x0A 3, stOk)

/-- LOAD_STANDBY: a host write of 7F00:03. -/
def execLoadStandby (_m : MasterId) (v : Byte) (s : State) : Host.Outcome State Fault Refusal :=
  .next (s.hostWrite (writeItem 0x02 0x7F00 3 1) (fun s => s.loadStandby v.toNat))

/-- STANDBY_SYNCHRONISED: the standby has loaded the new image, passed self-test and synchronised (steps 3 and 4). -/
def execStandbySynchronised (s : State) : Host.Outcome State Fault Refusal :=
  .next (
    if s.nat 0x7F00 0x0A = 3 then
      (({ s with fw := { s.fw.setRole s.fw.other 2 with synced := true } } : State).putN 0x7F00 0x0A 4).putN 0x7F00 7
        (Config.imageVersion (s.slotImage s.otherSlot) % 2 ^ 32)
    else s)

/-- The switch-over of an update: the old pair becomes probation standby on the old image (step 5). -/
def State.switchNow (s : State) : State :=
  let v := s.nat 0x1000 6
  (((s.swapPairs 5).runSlot s.otherSlot).putN 0x7F00 0x0A 5).putN 0x7F00 7 v

/-- The lowest-numbered course that is not STOPPED. -/
def State.lowestRunning (s : State) : Option Nat := allCourses.find? (fun k => s.cst k != 0)

/-- A write of 7F00:04: the switch-over at the next frame start of the lowest-numbered course not STOPPED, or at once. -/
def State.switchOver (s : State) (v : Nat) : State × Nat :=
  if v ≠ 1 then (s, stRange)
  else if s.nat 0x7F00 0x0A ≠ 4 ∨ s.fw.ready = false then (s, s.updateStatus)
  else if s.lowestRunning.isNone then (s.switchNow, stOk)
  else ({ s with fw := { s.fw with switchDue := true } }, stOk)

/-- SWITCH_OVER: a host write of 7F00:04. -/
def execSwitchOver (_m : MasterId) (v : Byte) (s : State) : Host.Outcome State Fault Refusal :=
  .next (s.hostWrite (writeItem 0x02 0x7F00 4 1) (fun s => s.switchOver v.toNat))

/-- A frame start of course k takes a switch-over that waits for it. -/
def State.switchAtFrame (s : State) (k : Nat) : State :=
  if s.fw.switchDue && s.lowestRunning == some k then s.switchNow else s

/-- A switch-over that waits is taken at once when every course is STOPPED. -/
def State.switchIfStopped (s : State) : State :=
  if s.fw.switchDue && s.lowestRunning.isNone then s.switchNow else s

/-- PROBATION_END: the old pair has reloaded the new image and synchronised; the boot slot is the new slot (step 6). -/
def execProbationEnd (s : State) : Host.Outcome State Fault Refusal :=
  .next (
    if s.nat 0x7F00 0x0A = 5 then
      ((({ s with fw := { s.fw.setRole s.fw.other 2 with synced := true } } : State).putRP 0x7F00 2
        (.num s.slotInUse)).putN 0x7F00 0x0A 6).putN 0x7F00 7 (s.nat 0x1000 6)
    else s)

/-! ### Unit restarts (R493, Table 14.5) -/

/-- The placement engine of course k restarts at the next frame start; the bows it has placed are dark until then (RS10). -/
def State.placementRestart (s : State) (k : Nat) : State :=
  let p := s.plcAt k
  (s.plcPut k { p with
    restart := true
    next := p.next.map (fun b => { b with dark := b.active.map (fun _ => 0x13), plans := [], harmonics := [] }) }).recover 10 1
    (2 * s.framePeriod k).floor.toNat k

/-- The fetch engine of course k restarts: its partition is emptied, and the bows not committed are fetched again (RS9). -/
def State.fetchRestart (s : State) (k : Nat) : State :=
  let f := s.fetAt k
  ((s.fetPut k { f with
    bows := f.bows.map (fun b => { b with levels := none }), resident := [], poisoned := [] }).refreshWater k).recover 9 1
    (16 * (s.bowAt k).hp.floor.toNat * tSlot) k

/-- A unit detects its own fault and restarts (R493). -/
def State.unitRestart (s : State) (u : RestartUnit) : State :=
  match u with
  | .ingest => s.ingestRestart.recover 6 0 tMs 0
  | .queueEngine =>
    (({ s with queues := { s.queues with resident := [] } } : State).bump 0x6000 7).recover 7 0 (50 * tUs) 0
  | .portReceive p => ({ s with rx := s.rx.filter (fun x => x.port != p.val) } : State).recover 8 0 tMs p.val
  | .fetch k => s.fetchRestart k.val
  | .placement k => s.placementRestart k.val
  | .lane l =>
    if 2 ≤ (s.lanesAt l.val).state ∧ (s.lanesAt l.val).state ≤ 4 then
      (s.enterRetrain l.val 1).recover 11 1 (2 * tMs) l.val
    else s

/-- UNIT_RESTART: ingest, queue engine, port receive, a course engine of fetch or placement, or a lane (RS6 to RS11). -/
def execUnitRestart (u : RestartUnit) (s : State) : Host.Outcome State Fault Refusal := .next (s.unitRestart u)

end Sys2Proof.Machine
end

