-- ==== Sys2Proof/Machine/Persist.lean ====
section
/-! DEFINITION. The commands of the persistent store (R44, R45, R47, R469 to R472), and the clears of logs and times (R511,
R513). -/

namespace Sys2Proof.Machine

open Sys2Proof

/-! ### The journal -/

/-- A block whose write failed verification is remapped while a spare is left (R469); its next write follows at once
(log 50). -/
def storeRemap (st : StoreSt) (block : Option Nat) : StoreSt :=
  match block with
  | some n => if n < 8192 ∧ st.remapped.length < 432 then { st with remapped := st.remapped ++ [n] } else st
  | none => st

/-- PERSISTENT_WRITE: the oldest write passes through the journal: commit word, home, done word (R471); made only where a
write can be made at once (R473). -/
def execPersistentWrite (verifyFailed : Option Nat) (s : State) : Host.Outcome State Fault Refusal :=
  .next (
    if s.store.stopped = true ∨ s.store.under.isEmpty = true ∨ s.canPersist = false then s
    else { s with store := storeCommit (storeRemap s.store verifyFailed) })

/-- HELD_WRITES_FLUSH: the condition of R45 has ended; held writes go to the store in order. -/
def execHeldWritesFlush (s : State) : Host.Outcome State Fault Refusal :=
  .next (
    if s.canPersist = true ∧ s.store.stopped = false ∧ s.store.held.isEmpty = false then
      { s with store := storeFlush s.store }
    else s)

/-- The store once the host has written 0 to 7100:0A: state 3 gives way to what the held writes make it (Table 2.3). -/
def storeStateClear (st : StoreSt) : StoreSt :=
  if st.pstate = 3 then
    { st with pstate := if st.held.isEmpty then 0 else if heldBytes st = heldMax then 2 else 1 }
  else st

/-- 7100:0A has been written 0: state 3 is cleared (R47). -/
def State.pstateClear (s : State) : State := { s with store := storeStateClear s.store }

/-- Powered time in s, 7100:0D: what it was at START, and the time since. -/
def State.poweredTime (s : State) : Int := s.int 0x7100 0x0D + (((s.clk.up - s.clk.began) / tS : Nat) : Int)

/-- POWERED_TIME_PERSIST: an hour of uptime has passed (R44). -/
def execPoweredTimePersist (s : State) : Host.Outcome State Fault Refusal :=
  .next (s.persist (dkey 0x7100 0x0D) (.num s.poweredTime))

/-! ### Clears -/

/-- The store with an empty critical log; entries that wait to be written are gone with it. -/
def storeLogClear (st : StoreSt) : StoreSt :=
  let keep : PWrite → Bool := fun w => !(decide (2 ^ 24 ≤ w.key) && decide (w.key < 2 ^ 25))
  { st with critical := [], criticalNext := 0, under := st.under.filter keep, held := st.held.filter keep }

/-- A write of 7100:07: 1 clears the critical log, whose entries then fill from position 0 again (R511). -/
def State.criticalClear (s : State) (v : Nat) : State × Nat :=
  if v = 1 then ({ s with store := storeLogClear s.store }, stOk) else (s, stRange)

/-- CRITICAL_LOG_CLEAR: a host write of 7100:07. -/
def execCriticalLogClear (_m : MasterId) (v : Byte) (s : State) : Host.Outcome State Fault Refusal :=
  .next (s.hostWrite (writeItem 0x02 0x7100 7 1) (fun s => s.criticalClear v.toNat))

/-- A write of 7000:16: 1 clears the demand and dark times (R513). -/
def State.availabilityClear (s : State) (v : Nat) : State × Nat :=
  if v = 1 then ({ s with svc := { s.svc with times := [0, 0, 0, 0, 0], at_ := s.clk.up } }, stOk) else (s, stRange)

/-- AVAILABILITY_CLEAR: a host write of 7000:16. -/
def execAvailabilityClear (_m : MasterId) (v : Byte) (s : State) : Host.Outcome State Fault Refusal :=
  .next (s.hostWrite (writeItem 0x02 0x7000 0x16 1) (fun s => s.availabilityClear v.toNat))

end Sys2Proof.Machine
end

