-- ==== Sys2Proof/Machine/Power.lean ====
section
/-! DEFINITION. Reset, start-up, STANDBY, JTAG and fuses (R19 to R21, R498, R515 to R534). -/

namespace Sys2Proof.Machine

open Sys2Proof

/-! ### What a reset leaves (R522 to R524) -/

/-- The writes of the store that are not yet committed, in order. -/
def storeWaiting (st : StoreSt) : List PWrite := st.under ++ st.held

/-- The persisted dictionary entries as START takes them: the image, and over it each write still on its way (R45). -/
def storeEntries (st : StoreSt) : Tab Val :=
  (st.image ++ ((storeWaiting st).filter (fun w => decide (w.key < 2 ^ 24))).map (fun w => (w.key, w.val))).foldl
    (fun d p => tput d (dfltOf (p.1 / 256) (p.1 % 256)) p.1 p.2) []

/-- The repair list as START takes it (R466). -/
def storeRepairList (st : StoreSt) : List (Nat × Nat × Bool) :=
  ((storeWaiting st).filter (fun w => decide (2 ^ 25 ≤ w.key))).foldl (fun l w =>
    let b := valBytes w.val
    l.filter (fun x => !(x.1 == leAt b 0 2 && x.2.1 == leAt b 2 8)) ++ [(leAt b 0 2, leAt b 2 8, leAt b 10 1 == 1)]) st.repairs

/-- The store at a reset: a loss of supply loses what is held (R45), and a firmware slot being written reads invalid (PW6). Its
counters return to their defaults. -/
def State.storeAtReset (s : State) (loss : Bool) : StoreSt :=
  let st := if loss then storePowerOff s.store else s.store
  { st with
    stopped := false, pstate := if st.lost then 3 else st.pstate, lost := false, writes := 0, refusals := 0, cuts := 0
    criticalRefused := 0
    slotStates := match s.fw.writing with
      | some (i, _) => st.slotStates.set i (some 2)
      | none => st.slotStates }

/-- A key of the safety domain's entries, 3800 and 3810 + k. -/
def safetyKey (key : Nat) : Bool :=
  decide (key / 256 = 0x3800) || (decide (0x3810 ≤ key / 256) && decide (key / 256 ≤ 0x382F))

/-- The entries at a reset: RP entries at their persisted values, the others at their defaults (R40), but for 7100:0B, 7100:0D,
4100:0A, the safety domain's where they survive (R523), and failed capture inputs, which a power cycle alone clears (R275). -/
def State.dictAtReset (s : State) (cold loss : Bool) (st : StoreSt) : Tab Val :=
  let kept := (if cold then [] else s.dict.filter (fun p => safetyKey p.1)) ++
    [(dkey 0x7100 0x0B, s.val 0x7100 0x0B), (dkey 0x7100 0x0D, Val.num s.poweredTime), (dkey 0x4100 0x0A, s.val 0x4100 0x0A)] ++
    (if loss then [] else (dkey 0x4200 0x15, s.val 0x4200 0x15) ::
      ((List.range 34).map (fun x => dkey (0x2820 + x) 2)).filterMap (fun key =>
        if s.val (key / 256) (key % 256) = .num 3 then some (key, .num 3) else none))
  kept.foldl (fun d p => tput d (dfltOf (p.1 / 256) (p.1 % 256)) p.1 p.2) (storeEntries st)

/-- 1100:01 to :04 as a reset leaves them, which are in force from START (R78). -/
def addressAtReset (d : Tab Val) : List Nat :=
  [1, 2, 3, 4].map (fun b => (valInt (tgetD d (dfltOf 0x1100 b) (dkey 0x1100 b))).toNat)

/-- The capo at a reset: cleared by code 1 only; by any other its pins fall and its limits stand as written (R523). -/
def CapoSt.atReset (c : CapoSt) (cold : Bool) (now : Nat) : CapoSt :=
  if cold then { blown := c.blown, interlock := c.interlock, highSince := now }
  else { c with emitOk := 0, dropDue := [], code := [], mean := [] }

/-- START begins with a reset of a code of Table 15.2 (D1). After a loss of supply it waits for power to be valid. DEDUCED (log 184):
until then the device is held in reset, and no other source begins START or takes the place of a code with a lower number. -/
def State.deviceReset (s : State) (code : Nat) : State :=
  let cold := code == 1
  let loss := decide (code ≤ 2)
  let held := loss || !s.pwr.valid
  let st := s.storeAtReset loss
  let s1 : State := {
    dict := s.dictAtReset cold loss st
    store := st
    oz := { answered := s.oz.answered, addrInForce := addressAtReset (s.dictAtReset cold loss st) }
    clk := { up := s.clk.up, began := s.clk.up, refclk := s.clk.refclk }
    capo := s.capo.atReset cold s.clk.up
    mem := { listed := storeRepairList st }
    svc := { at_ := s.clk.up }
    pwr := { valid := !held, step := if held then 0 else 1, low := if loss then [] else s.pwr.low
             thermtrip := s.pwr.thermtrip && !cold, cause := if s.pwr.valid then code else min s.pwr.cause code }
    out := s.out, free := s.free, pending := s.pending }
  let s2 := if cold then s1.putN 0x3800 5 (if s.capo.interlock then 1 else 0)
    else s1.each allCourses (fun x k => x.capoCPut k { s.capoCAt k with armed := false })
  if loss then s2
  else
    let s3 := s2.each (s2.pwr.low.map (·.1)) (fun s r => s.setFlag 0x4200 5 r true)
    if held then s3 else s3.putRP 0x7100 0x0B (.num ((s.nat 0x7100 0x0B + 1) % 2 ^ 32))

/-! ### The reset sources (Table 15.2) -/

/-- RAIL_RESET: a rail has been below its reset level for 100 ns: code 1 for VAON, code 2 for any other (R521). -/
def execRailReset (rail : Fin 11) (s : State) : Host.Outcome State Fault Refusal :=
  .next (s.deviceReset (if rail.val = 10 then 1 else 2))

/-- RST_N_RESET: RST_N has been low for 1 µs. -/
def execRstNReset (s : State) : Host.Outcome State Fault Refusal := .next (s.deviceReset 3)

/-- DEVICE_RESET_COMMAND: a host write of 4200:08; the reset follows the response (R525). -/
def execDeviceResetCommand (_m : MasterId) (v : BitVec 16) (s : State) : Host.Outcome State Fault Refusal :=
  .next (
    if s.ozRuns = false then s
    else if s.serves 0x4200 = false then s.answer 0x02 (writeItem 0x03 0x4200 8 2) stRestarting []
    else if v = 0xA5C3 then (s.answer 0x02 (writeItem 0x03 0x4200 8 2) stOk []).deviceReset 4
    else s.answer 0x02 (writeItem 0x03 0x4200 8 2) stRange [])

/-- RESTART_WATCHDOG_RESET: the active pair is not running 2 s after a restart in place began (R522). -/
def execRestartWatchdogReset (s : State) : Host.Outcome State Fault Refusal :=
  .next (if s.fw.restarting then s.deviceReset 5 else s)

/-- DEVRESET: the JTAG instruction (Table 15.9). -/
def execDevreset (s : State) : Host.Outcome State Fault Refusal := .next (s.deviceReset 6)

/-! ### The start sequence (Table 15.3) -/

/-- POWER_VALID: every rail has been above its reset level for 2 ms (R516); the SYNC bank's level is detected (R518), and this
START is counted in 7100:0B. -/
def execPowerValid (syncMilliVolt : Nat) (s : State) : Host.Outcome State Fault Refusal :=
  .next (
    if s.pwr.valid = true ∨ s.capo.vaon = false then s
    else
      let s1 : State := { s with pwr := { s.pwr with valid := true, step := 1 } }
      (s1.putF 0x4200 0x15 (if 2500 < syncMilliVolt then 33 / 10 else 18 / 10)).putRP 0x7100 0x0B
        (.num ((s.nat 0x7100 0x0B + 1) % 2 ^ 32)))

/-- A step of the start sequence may be taken: it pauses while a rail lies below its warning level (R520) and, from step 2 on,
while REFCLK is absent. -/
def State.startMay (s : State) : Bool := s.dst == 0 && s.pwr.valid && s.pwr.low.isEmpty && s.clk.refclk

/-- SLOT_PLL_LOCK: step 2: the slot timeline begins, and every lane trains unless the shut-down latch is set (R124, R325,
R523). -/
def execSlotPllLock (s : State) : Host.Outcome State Fault Refusal :=
  .next (
    if s.startMay = true ∧ s.pwr.step = 1 then
      let s1 : State := { s with
        pwr := { s.pwr with step := 2 }, clk := { s.clk with slot := 0, slotRun := true } }
      if s.capo.shutLatch then s1
      else
        (s1.each allLanes (fun s l => s.lanesPut l { s.lanesAt l with state := 1 })).each allCourses (fun s k =>
          s.retsPut k { s.retsAt k with enabled := true })
    else s)

/-- The slot that START runs: the boot slot where it is valid, else the other; `none` where neither is (R498). -/
def State.bootChoice (s : State) : Option Nat :=
  let b := s.nat 0x7F00 2
  if s.slotState b = 1 then some b else if s.slotState (1 - b) = 1 then some (1 - b) else none

/-- Event kinds of this chapter (Config). -/
def evBootSlot : Nat := 30

/-- Steps 4 and 5: the boot slot chosen, the image loaded, both pairs running (R498). A slot other than the boot slot is written
to the critical log; with none valid the device is in recovery mode. -/
def State.boot (s : State) : State :=
  match s.bootChoice with
  | none => (s.putN 0x7F00 0x0B 1).logCritical 11 evBootSlot 0
  | some i =>
    let s1 := (s.runSlot i).putN 0x7F00 7 (Config.imageVersion (s.slotImage i) % 2 ^ 32)
    let s2 := s1.putN 0x7F00 0x0D (Config.imageCrc (s.slotImage (1 - i)) % 2 ^ 32)
    if i = s.nat 0x7F00 2 then s2 else s2.logCritical 11 evBootSlot i

/-- No die zone reads 120 °C or more (R425, Table 15.3). -/
def State.zonesCool (s : State) : Bool := (List.range 12).all (fun z => decide (s.f32 (zoneIx z) 1 < 120))

/-- The configuration of course k lets it run (C4, R119, R120). -/
def State.courseOk (s : State) (k : Nat) : Bool :=
  let n := s.nat (crs k) 6
  let a := s.nat (crs k) 5
  n != 0 && s.nat (crs k) 7 * s.nat (crs k) 8 == n && decide (a + n ≤ 256) &&
    allCourses.all (fun j => j == k || s.nat (crs j) 6 == 0 ||
      decide (s.nat (crs j) 5 + s.nat (crs j) 6 ≤ a) || decide (a + n ≤ s.nat (crs j) 5))

/-- Entries that change only while course k is STOPPED: 2200 + k:05 to :09, and its fetch banks (R122, R217). -/
def restKey (k key : Nat) : Bool :=
  (key / 256 == crs k && decide (5 ≤ key % 256) && decide (key % 256 ≤ 9)) || key == dkey (0x2680 + k) 0x0D

/-- An accepted change of such an entry still waits for its frame start: C4 waits for it, since it may not apply later (log 164). -/
def State.restPending (s : State) (k : Nat) : Bool := s.oz.commits.any (fun p => p.todo.any (fun t => restKey k t.key))

/-- A course state request takes effect: C2 at once on a course that is not LIT; C4 on a STOPPED one; bit 9 follows request 5
(Tables 1.6 and 1.7). The other transitions follow at their own points. -/
def State.courseRequest (s : State) (k v : Nat) : State :=
  let s1 := s.accrue.putN (crs k) 2 v
  let s2 := if v = 5 then s1.setCause k 9 else s1.clearCause k 9
  if v = 0 then (if s2.cst k = 4 then s2 else s2.toStopped k)
  else if 2 ≤ v ∧ v ≤ 4 ∧ s2.cst k = 0 ∧ (s2.dst = 1 ∨ s2.dst = 2) ∧ s2.courseOk k = true ∧ s2.restPending k = false ∧ s2.pwr.dramFailed = false then
    ((s2.toSpinning k).retrainRefresh k).hushIfSpinning k
  else s2

/-- Tuning domains at D5: what their points say of themselves (4010 + d:05, :08, :09), their values evaluated and in force. -/
def State.domainStart (s : State) (d : Nat) : State :=
  let ix := domIx d
  let times := (List.range 8).map (fun i => s.blob ix (0x0A + i)) |>.filter (fun b => !b.isEmpty)
  let key : List Byte → Nat := fun b => leAt b 16 6 * 10 ^ 9 + leAt b 22 4
  let latest := times.foldl (fun r b => match r with
    | some c => if key c < key b then some b else some c
    | none => some b) (none : Option (List Byte))
  let s1 := s.putN ix 5 times.length
  let s2 := match latest with
    | some b => (s1.putN ix 8 (leAt b 16 10)).putN ix 9 (leAt b 8 4)
    | none => s1
  (s2.evaluate d).domainLoad d

/-- The state that D5 takes: SHUTDOWN while the shut-down latch is set; DARK in recovery mode or with DRAM failed; else the
start-up target, LIT only with INTERLOCK_N high (Table 1.3, R464, R498, R523). -/
def State.startTarget (s : State) : Nat :=
  if s.capo.shutLatch then 4
  else if s.flag 0x7F00 0x0B 0 || s.pwr.dramFailed then 1
  else if s.nat 0x4200 3 = 2 ∧ s.capo.interlock = true then 2
  else 1

/-- Step 7: persisted entries act, pegs take their first codes, D5, and each start-up course request is written. -/
def State.startEnd (s0 : State) : State :=
  let s := s0.boot
  let target := s.startTarget
  let s1 := (s.putN 0x4200 1 target).putN 0x7100 0x0C s.pwr.cause
  let s2 : State := { s1 with
    pwr := { s1.pwr with step := 7, rstout := false }
    oz := { s1.oz with addrInForce := [s.nat 0x1100 1, s.nat 0x1100 2, s.nat 0x1100 3, s.nat 0x1100 4] } }
  let s3 := s2.each (List.range 8) (fun s j => s.setShaft j (if s.nat (shIx j) 1 = 0 then 0 else 5))
  if target = 4 then s3.each allCourses (fun s k => s.putN (crs k) 2 (s.nat (crs k) 4))
  else
    let s4 := if target = 2 then s3.putN 0x4200 2 2 else s3
    let s5 := (s4.each allCourses (fun s k => s.laserUpdate k)).each (List.range 98) (fun s d => s.domainStart d)
    s5.pegsFirst.each allCourses (fun s k => s.courseRequest k (s.nat (crs k) 4))

/-- START_COMPLETE: step 7 of the start sequence, after the slot PLL, the capo's self-test, and DRAM training, which is skipped
with the shut-down latch set; it waits while a zone reads 120 °C or more. -/
def execStartComplete (s : State) : Host.Outcome State Fault Refusal :=
  .next (
    if s.startMay = true ∧ s.pwr.step = 2 ∧ s.nat 0x3800 1 ≠ 0 ∧ (s.pwr.dramTrained = true ∨ s.capo.shutLatch = true) ∧
        s.zonesCool = true then s.startEnd
    else s)

/-! ### STANDBY (D7, D8, R20, R21) -/

/-- Every permanent repair is made and every channel is in self-refresh, or has failed. -/
def State.dramAsleep (s : State) : Bool :=
  (s.nat 0x5000 0x28 == 0 || s.mem.listed.all (fun r => r.2.2)) &&
    (List.range 32).all (fun c => s.chanState c == 3 || s.chanState c == 5)

/-- STANDBY_ENTRY_COMPLETE: D7: the lanes cease transitions (Table 9.9), and gains are persisted (R261). -/
def execStandbyEntryComplete (s : State) : Host.Outcome State Fault Refusal :=
  .next (
    if s.pwr.entering = true ∧ s.dst = 1 ∧ s.allStopped = true ∧ (s.dramAsleep = true ∨ s.pwr.dramFailed = true) then
      let s1 : State := { s.gainPersist with pwr := { s.pwr with entering := false } }
      (s1.putN 0x4200 1 3).each allLanes (fun s l =>
        if (s.lanesAt l).state = 5 then s else s.lanesPut l ((s.lanesAt l).quiet 0))
    else s)

/-- D6 on reaching DARK, for a commit of LIT: dropped where INTERLOCK_N is low, and 4200:02 then reads 1 (R20). DEDUCED (log 165): also
where REFCLK is absent, since D3 of that cause would end LIT at once. -/
def State.litIfAsked (s : State) : State :=
  if s.pwr.litAfter then
    let s1 : State := { s with pwr := { s.pwr with litAfter := false } }
    if s.capo.interlock && s.clk.refclk then s1.putN 0x4200 1 2 else s1.putN 0x4200 2 1
  else s

/-- DRAM_EXIT_COMPLETE: every channel has left self-refresh and is retrained (R458): D8 from STANDBY, where the lanes train
again; in an entry to STANDBY that was ended, the device has stayed DARK (R20). -/
def execDramExitComplete (s : State) : Host.Outcome State Fault Refusal :=
  .next (
    if s.pwr.exiting = true ∧ s.clk.refclk = true then
      let s1 := ({ s with pwr := { s.pwr with exiting := false } } : State).dramExit
      let s2 :=
        if s.dst = 3 then
          ((s1.flowsAfterStandby).putN 0x4200 1 1).each allLanes (fun s l =>
            if (s.lanesAt l).state = 0 then s.lanesPut l { s.lanesAt l with state := 1 } else s)
        else s1
      s2.litIfAsked
    else s)

/-! ### PCIe, JTAG and fuses (R527, R533, R534) -/

/-- PCIE_PERST_DEASSERT: the endpoint comes to answer configuration requests (R527). -/
def execPciePerstDeassert (s : State) : Host.Outcome State Fault Refusal :=
  .next (if s.pwr.valid then { s with pwr := { s.pwr with pcieUp := true } } else s)

/-- A JTAG instruction is selected. -/
def State.select (s : State) (op : Nat) : State := { s with pwr := { s.pwr with jtag := op } }

/-- The device accepts EXTEST and FUSEPROG: in START before step 7, or in STANDBY (R534). -/
def State.testMay (s : State) : Bool := s.dst == 0 || s.dst == 3

/-- EXTEST: boundary cells are driven, but for those of bank V, which follow the capo; elsewhere it acts as BYPASS. -/
def execExtest (cells : List Bool) (s : State) : Host.Outcome State Fault Refusal :=
  .next (
    if s.testMay then ({ s with pwr := { s.pwr with boundary := cells } } : State).select 0x00 else s.select 0xFF)

/-- SAMPLE_PRELOAD: the boundary register takes what is shifted in. -/
def execSamplePreload (cells : List Bool) (s : State) : Host.Outcome State Fault Refusal :=
  .next (({ s with pwr := { s.pwr with boundary := cells } } : State).select 0x01)

/-- The identity: version 1, part 0x0256, manufacturer 0x52F, and the bit 0 of IEEE 1149.1. -/
def idcodeWord : Nat := 0x1 * 2 ^ 28 + 0x0256 * 2 ^ 12 + 0x52F * 2 + 1

/-- IDCODE: the 32-bit identity is shifted out. -/
def execIdcode (s : State) : Host.Outcome State Fault Refusal := .next ((s.select 0x02).send (.tdo 32 idcodeWord))

/-- FUSEPROG: each bit set blows the matching capo fuse bit; a blown fuse shows after the next reset of code 1. -/
def execFuseprog (mask : BitVec 3) (s : State) : Host.Outcome State Fault Refusal :=
  .next (
    if s.testMay then
      ({ s with capo := { s.capo with blown := s.capo.blown ||| mask.toNat } } : State).select 0x5A
    else s.select 0xFF)

/-- BYPASS: opcode 0xFF, and every opcode that Table 15.9 does not name. -/
def execBypass (opcode : Byte) (s : State) : Host.Outcome State Fault Refusal :=
  .next (if [0x00, 0x01, 0x02, 0x3C, 0x5A].contains opcode.toNat then s else s.select 0xFF)

end Sys2Proof.Machine
end

