-- ==== Sys2Proof/Machine/Items.lean ====
section
/-! DEFINITION. The items of accepted commits: their classes (Table 2.6a), the taking of items at a point of application
(R65, R67, R69), and what an entry's new value does besides being read back. -/

namespace Sys2Proof.Machine

open Sys2Proof

/-! ### Classes (Table 2.6a) -/

/-- An item of a course, frame-boundary; device-level where no course is concerned. -/
def courseClass (k : Option Nat) : List ItemClass :=
  match k with
  | some k => [.frame k]
  | none => [.device]

/-- The spare switch-in items still pending for spare i, in order. -/
def State.spareItems (s : State) (i : Nat) : List Todo :=
  (s.oz.commits.flatMap (·.todo)).filter (fun t => t.key == dkey (0x2100 + i) 1)

/-- The course that a spare lane is committed to, waits for or serves (R334). -/
def State.spareCourse (s : State) (i : Nat) : Option Nat :=
  match (s.spareItems i).reverse.find? (fun t => valInt t.val != 0xFFFF) with
  | some t => s.courseOfString (valInt t.val).toNat
  | none =>
    match (s.sparesAt i).want with
    | some a => s.courseOfString a
    | none => (s.stringOn (256 + i)).bind s.courseOfString

/-- The course that a value of 2100 + i:01 concerns (R334). -/
def State.switchInCourse (s : State) (i : Nat) (v : Val) : Option Nat :=
  if valInt v = 0xFFFF then s.spareCourse i else s.courseOfString (valInt v).toNat

/-- The requested code of peg p in a value of 40F0:02. -/
def pegOf (v : Val) (p : Nat) : Nat := leAt (valBytes v) (2 * p) 2

/-- The classes of the pegs that a value of 40F0:02 asks a new code of (R400): that of each course, and device-level for pegs
of no course. A class with an earlier item pending takes part, so that the last commit decides (R67). -/
def State.pegClasses (s : State) (v : Val) : List ItemClass :=
  let cls : Nat → ItemClass := fun p => match s.pegCourse p with
    | some k => .peg k
    | none => .device
  let was := ((s.oz.commits.flatMap (·.todo)).filter (fun t => t.key == dkey 0x40F0 2)).map (·.cls)
  ((allPegs.filter (fun p => s.pegRequested p != pegOf v p)).map cls ++ was).eraseDups

/-- The classes of an item (Table 2.6a, R122 and the entry tables): one for each course that it applies to. -/
def State.classesOf (s : State) (key : Nat) (v : Val) : List ItemClass :=
  let i := key / 256
  let b := key % 256
  if 0x1220 ≤ i ∧ i < 0x1240 then [.frame (i - 0x1220)]
  else if 0x2000 ≤ i ∧ i < 0x2100 then
    if b = 0x14 then [.device]
    else courseClass (if b = 0x10 then s.courseOfString (i - 0x2000) else s.courseOfLane (i - 0x2000))
  else if 0x2100 ≤ i ∧ i < 0x2110 then
    if b = 1 then
      match s.switchInCourse (i - 0x2100) v with
      | some k => if s.cst k = 0 then [.device] else [.frame k]
      | none => [.device]
    else courseClass (s.spareCourse (i - 0x2100))
  else if 0x27F0 ≤ i ∧ i < 0x2800 then if b = 0x14 then [.device] else courseClass (s.spareCourse (i - 0x27F0))
  else if 0x2200 ≤ i ∧ i < 0x2220 then
    let k := i - 0x2200
    if b = 2 then [.request k] else if b = 4 then [.device]
    else if 0x0A ≤ b ∧ b ≤ 0x0C then [.restart k] else [.frame k]
  else if 0x2300 ≤ i ∧ i < 0x2400 then [.frame ((i - 0x2300) / 8)]
  else if 0x2400 ≤ i ∧ i < 0x2500 then
    if b = 8 ∧ s.readers (i - 0x2400) ≠ [] then (s.readers (i - 0x2400)).map .frame else [.device]
  else if 0x2680 ≤ i ∧ i < 0x26A0 then if b = 0x0D then [.device] else [.frame (i - 0x2680)]
  else if 0x2700 ≤ i ∧ i < 0x2720 then [.frame (i - 0x2700)]
  else if 0x2800 ≤ i ∧ i < 0x2820 then [.frame (i - 0x2800)]
  else if 0x3150 ≤ i ∧ i < 0x3170 then if 0x0A ≤ b ∧ b ≤ 0x11 then [.device] else [.frame (i - 0x3150)]
  else if 0x4010 ≤ i ∧ i < 0x4072 then
    match s.domainCourse (i - 0x4010) with
    | some k => [.peg k]
    | none => [.device]
  else if key = dkey 0x40F0 2 then s.pegClasses v
  else [.device]

/-- An item applies as its commit is accepted (Table 2.6a). A peg or tuning item of a STOPPED course, which makes no bows,
waits for none (log 52). -/
def State.atOnce (s : State) (selector : Nat) (c : ItemClass) : Bool :=
  match c with
  | .device => selector != 2
  | .request _ => selector == 0
  | .peg k => selector == 0 && s.cst k == 0
  | _ => false

/-! ### Taking items (R65, R67, R69) -/

/-- The earlier item `a` is dropped where the later `b` applies first (R67). An entry whose item stands once for each course
is dropped course by course. -/
def supersedes (b a : Todo) : Bool :=
  b.key == a.key && (b.cls == a.cls || (!(flipKey a.key) && a.key != dkey 0x40F0 2))

/-- The items of a list of commits that a point takes, with the number of their commit. -/
def picked (l : List Pending) (pick : Pending → Todo → Bool) : List (Nat × Todo) :=
  l.flatMap (fun p => (p.todo.filter (pick p)).map (fun t => (p.id, t)))

/-- A commit once a point has taken its items, and once those that a later commit overtakes are dropped. -/
def Pending.rest (p : Pending) (pick : Pending → Todo → Bool) (taken : List (Nat × Todo)) : Pending :=
  let left := p.todo.filter (fun t => !pick p t)
  let kept := left.filter (fun t => !taken.any (fun x => decide (p.id < x.1) && supersedes x.2 t))
  { p with todo := kept, superseded := p.superseded || decide (kept.length < left.length) }

/-- 1400:05 with its state field replaced (R69). -/
def commitState (w st : Nat) : Nat := w - w % 256 + st

/-- A master sees the end of its last commit: applied, or partly superseded (R69). -/
def Master.commitDone (x : Master) (p : Pending) : Master :=
  if x.lastId = some p.id then
    { x with lastId := none, lastCommit := commitState x.lastCommit (if p.superseded then 5 else 2) }
  else x

/-- Commits that have no item left are over. -/
def State.commitsDone (s : State) : State :=
  let done := s.oz.commits.filter (fun p => p.todo.isEmpty)
  let s1 := done.foldl (fun s p => s.masterPut p.master ((s.masterAt p.master).commitDone p)) s
  { s1 with oz := { s1.oz with commits := s1.oz.commits.filter (fun p => !p.todo.isEmpty) } }

/-- The items that a point takes, and the state without them. -/
def State.takeItems (s : State) (pick : Pending → Todo → Bool) : State × List Todo :=
  let taken := picked s.oz.commits pick
  (({ s with oz := { s.oz with commits := s.oz.commits.map (fun p => p.rest pick taken) } } : State).commitsDone,
    taken.map (·.2))

/-! ### What a new value does -/

/-- Hush cause bit 7 of course k follows its reference and its policy (F1, F4, R104); bit 6 its shaft (R103). -/
def State.refHush (s : State) (k : Nat) : State :=
  let r := s.nat (refIx k) 1
  let ch := s.nat (refIx k) 2
  let gone := (r == 0 && s.servoState == svExpired) || (r == 1 && s.nat (0x1210 + ch) 8 == 4)
  let s1 := if gone && s.nat (refIx k) 9 == 1 then s.setCause k 7 else s.clearCause k 7
  if r == 2 && (s.shaftState ch == 5 || s.shaftState ch == 6) && s.nat (shIx ch) 0x0C == 0 then s1.setCause k 6
  else s1.clearCause k 6

/-- Course k passes through hush cause bit 8, and its tracker goes over to phase lock or leaves it (R29, R114). -/
def State.relock (s : State) (k : Nat) (ok : Bool) : State :=
  if s.cst k = 0 then s
  else
    let s1 := s.restartRequired k
    if (s1.mirAt k).phase = 4 then
      (s1.mirPut k { s1.mirAt k with lockRun := 0 }).setTracker k (if ok then trPhase else trPulling)
    else s1

/-- The admission of course k is decided again; a change of it, or of f_c while admitted, passes through hush cause bit 8, and phase
pull-in then begins (R113, R114). -/
def State.admission (s old : State) (k : Nat) : State :=
  let moved := s.consortHz k != old.consortHz k
  let s1 := s.decideAdmission k moved
  let ok := (s1.mirAt k).admitted
  if ok ≠ (old.mirAt k).admitted ∨ (ok = true ∧ moved = true) then s1.relock k ok else s1

/-- The consort id of course k has changed, which decides no admission (R113): a course that is no longer a member has no phase lock
(R114), and one that becomes a member waits for the next decision (log 74). -/
def State.memberChanged (s : State) (k : Nat) : State :=
  if s.nat (refIx k) 0x0A = 0 then
    if (s.mirAt k).admitted then (s.setAdmitted k false).relock k false else s.setAdmitted k false
  else if (s.mirAt k).admitted then s else s.putN (refIx k) 0x13 (s.unlockedState k)

/-- Entries 1220 + k on whose commit admission is decided (R113). -/
def admissionKey (k key : Nat) : Bool :=
  key / 256 == refIx k && (key % 256 == 3 || key % 256 == 4 || (decide (0x0B ≤ key % 256) && decide (key % 256 ≤ 0x0D)))

/-- Entries 2200 + k whose change restarts the course (R29, Table 4.6). -/
def restartKey (k key : Nat) : Bool := key / 256 == crs k && decide (0x0A ≤ key % 256) && decide (key % 256 ≤ 0x0C)

/-- `key` is the first of the keys committed together that meet a condition. -/
def isFirst (keys : List Nat) (p : Nat → Bool) (key : Nat) : Bool := keys.find? p == some key

/-- A reference entry of course k has changed: the schedule moves (R92), shaft frames and content follow begin anew. -/
def State.refChanged (s : State) (k b : Nat) : State :=
  let s1 := if 1 ≤ b ∧ b ≤ 9 then s.realign k else s
  let s2 := if b = 1 ∨ b = 2 ∨ b = 6 ∨ b = 7 then
      s1.frmPut k { s1.frmAt k with shaftN := s1.shaftFrame k (s1.shaftPos (s1.channelOf k)) }
    else s1
  let s3 := if b = 1 ∨ b = 2 then s2.frmPut k { s2.frmAt k with d := 0, acc := 0, cfHold := false } else s2
  let s4 := if b = 1 ∨ b = 2 ∨ b = 9 then s3.refHush k else s3
  if b = 0x0A then s4.memberChanged k else s4

/-- The defaults of the PTP profile selected, except for entries of the same commit (R89). -/
def State.ptpProfile (s : State) (keys : List Nat) : State :=
  let d : List (Nat × Int) := if s.nat 0x1201 2 = 1 then [(3, 127), (4, -2), (5, -3), (6, -3), (7, 3)]
    else [(3, 0), (4, 1), (5, 0), (6, 0), (7, 3)]
  d.foldl (fun s p => if keys.contains (dkey 0x1201 p.1) then s else s.putRP 0x1201 p.1 (.num p.2)) s

/-- The capture buffers of course k are laid out again where its rows change in size (R293, R296). -/
def State.capIfResized (s old : State) (k : Nat) : State :=
  if s.nat (capIx k) 2 ≠ 0 ∧ s.capSize k ≠ old.capSize k then s.capRealloc k else s

/-- A course entry of 2200 + k has changed: a restart-required one sets hush cause bit 8 (R29, R123). -/
def State.courseChanged (s old : State) (keys : List Nat) (k b : Nat) : State :=
  let changed : Nat → Bool := fun key =>
    restartKey k key && s.val (key / 256) (key % 256) != old.val (key / 256) (key % 256)
  let s1 := if isFirst keys changed (dkey (crs k) b) = true ∧ s.cst k ≠ 0 then s.restartRequired k else s
  if b = 0x0B ∨ b = 0x11 then s1.capIfResized old k else s1

/-- A spare's string is moved where no frame start waits for it (R334): the course is STOPPED, or there is none. -/
def State.switchNowSpare (s : State) (i : Nat) : State :=
  let was := s.stringOn (256 + i)
  let s1 := s.moveString i
  let now := s1.stringOn (256 + i)
  if now = was then s1
  else
    let s2 := match now with
      | some str => ((s1.emitterIn (256 + i)).emitterOut str).bump (0x2100 + i) 3 |>.switchIn 1 str (256 + i)
      | none => s1.emitterOut (256 + i)
    match was with
    | some str => if s2.laneOf str = str then s2.emitterIn str else s2
    | none => s2

/-- 2100 + i:01 has its new value: the spare waits for the fence that decides it, or moves its string at once (R334, R335). -/
def State.spareSet (s : State) (i : Nat) : State :=
  let v := s.nat (0x2100 + i) 1
  let w := if v = 0xFFFF then none else some v
  let x := s.sparesAt i
  let k := match w with
    | some a => s.courseOfString a
    | none => (s.stringOn (256 + i)).bind s.courseOfString
  let s0 : State := { s with svc := { s.svc with placed := s.svc.placed.filter (fun p => p.1 != i || w == some p.2.1) } }
  let s1 := s0.sparesPut i { want := w, decided := x.decided && x.want == w, applied := true }
  match k with
  | some k => if s.cst k = 0 then ((s1.switchNowSpare i).retrainRefresh k).pegsRefresh else s1
  | none => (s1.switchNowSpare i).pegsRefresh

/-- Host stream h takes new rings or a new canvas, `old` before it: the buffer that it was filling is discarded to FREE
(log 77). -/
def State.hstreamChanged (s old : State) (h : Nat) : State :=
  let s1 := match (s.hstreamsAt h).buffer with
    | some b =>
      let c := old.nat (hsIx h) 3
      if c < 256 then s.freeBuf c b else s
    | none => s
  s1.hstreamsPut h {}

/-- Capture stream i takes a new transport, content or course (R297): it lets its capture buffer go and begins anew. -/
def State.cstreamChanged (s : State) (i : Nat) : State :=
  let s1 := s.each allCourses (fun s k => s.each (List.range 8) (fun s b => s.capRelease k b i))
  let n := (s.cstreamsAt i).batch.length
  (List.range n).foldl (fun s _ => s.queueCommit (useStream i)) (s1.cstreamsPut i { unit := (s.cstreamsAt i).unit })

/-- Refinement of course k is switched off: its meshes are used as written (R209). -/
def State.refinementOff (s : State) (k : Nat) : State :=
  s.each ((List.range 4).map (4 * k + ·)) (fun s m =>
    let x := s.meshesAt m
    if x.copy0.disp ≠ [] ∨ x.copy1.disp ≠ [] ∨ (x.held.any (fun h => !h.2.isEmpty)) = true then s.writeMesh m (s.blob (0x2600 + m) 1) [] else s)

/-- A warp or fetch entry of course k has changed. -/
def State.fetchChanged (s old : State) (k b : Nat) : State :=
  if b = 0x0B ∧ s.nat (0x2680 + k) 0x0B = 0 then s.refinementOff k
  else if b = 0x0D then
    let s1 := s.emptyPartition k
    s1.fetPut k { s1.fetAt k with shrunk := 0 }
  else if b = 0x16 then
    (s.clearCause k 4).switchIn 2 (old.nat (0x2680 + k) 0x16) (s.nat (0x2680 + k) 0x16)
  else s

/-- A capture entry of course k has changed (R275, R293, R296, R412). -/
def State.captureChanged (s old : State) (k b : Nat) : State :=
  if b = 1 then
    let s1 := ((s.runAbort k).rebindInput k (old.nat (capIx k) 1))
    let x := s.nat (capIx k) 1
    let s2 := if 32 ≤ x ∧ x < 34 then s1.switchIn 5 (old.nat (capIx k) 1) x else s1
    s2.runRequest k
  else if b = 2 ∨ b = 4 ∨ b = 5 ∨ b = 6 then s.capRealloc k
  else if b = 0x0A then s.captPut k { s.captAt k with events := [] }
  else s

/-- A loop slot's entry has its new value (R340, R353, R356, R370). The slot takes it at its next period boundary (R342), but one that
takes no further step drops its output at once with mode 0. -/
def State.slotChanged (s old : State) (keys : List Nat) (i b : Nat) : State :=
  let ix := slotIx i
  if b = 1 then
    let m := s.nat ix 1
    let s1 := s.slotsPut i { s.slotsAt i with
      acting := false, toManual := m == 1 && old.nat ix 1 != 1 && !keys.contains (dkey ix 0x18) }
    let s2 := if m = 0 ∧ (s.slotsAt i).dead = true then
        let s2 := s1.slotOff i
        s2.slotsPut i { s2.slotsAt i with dead := true }
      else s1
    s2.reschedule
  else if b = 2 then s.reschedule
  else if b = 4 ∨ b = 5 then
    let src := s.nat ix b
    let base := if src / 256 = 4 then s.shaftPos (src % 256) else 0
    let x := s.slotsAt i
    s.slotsPut i { x with shaftBase := if b = 4 then (base, x.shaftBase.2) else (x.shaftBase.1, base) }
  else s

/-- New code or mean-level limits: a string of a running course keeps its effective limit until its next turnaround (R378). -/
def State.limitsChanged (s old : State) : State :=
  let keep (eff : Nat → Nat) (now : Tab Nat) : Tab Nat := (List.range 256).foldl (fun t str =>
    match old.courseOfString str with
    | some k => if old.cst k ≠ 0 then tins str (eff str) (terase t str) else terase t str
    | none => terase t str) now
  let now := (List.range 256).filter (fun str => s.meanLimit str != old.meanLimit str && !((old.courseOfString str).any (fun k => old.cst k != 0)))
  let s1 := s.each now (fun s str => s.energyPut str (old.energyTo str old.clk.slot))
  { s1 with capo := { s.capo with code := keep old.codeLimit s.capo.code, mean := keep old.meanLimit s.capo.mean } }

/-- An external input's type is 0: it has no reading (R419). -/
def State.sensorOff (s : State) (e : Nat) : State :=
  let s1 : State := { s with therm := { s.therm with
    ext := terase s.therm.ext e, extFailed := s.therm.extFailed.filter (· != e) } }
  (s1.putN (0x4120 + e) 7 0).each (s1.laserFed e) (fun s k => s.laserUpdate k)

/-- Candidates that no policy could serve are offered again where a candidate's entries change (R505). -/
def State.offerAgain (s : State) : State :=
  { s with svc := { s.svc with
    offers := s.svc.offers ++ s.svc.refused.filter (fun o => !s.svc.offers.contains o), refused := [] } }

/-- Entries of which a change lets a policy look again for a spare (R505). -/
def candidateKey (key : Nat) : Bool :=
  let i := key / 256
  (decide (0x7040 ≤ i) && decide (i < 0x7050)) || (decide (0x2100 ≤ i) && decide (i < 0x2110)) ||
    (decide (0x27F0 ≤ i) && decide (i < 0x2800)) || key == dkey 0x7000 0x0D || key == dkey 0x7000 0x0E

/-- What a new value of an entry does besides being read back; `old` is the state before the items applied, `keys` what
applied together. -/
def State.afterChange (s old : State) (keys : List Nat) (key : Nat) : State :=
  let i := key / 256
  let b := key % 256
  if 0x1220 ≤ i ∧ i < 0x1240 then s.refChanged (i - 0x1220) b
  else if 0x1210 ≤ i ∧ i < 0x1214 then
    if b = 1 then (s.syncsPut (i - 0x1210) {}).putN i 8 (if s.nat i 1 = 0 then 0 else 1) else s
  else if 0x1218 ≤ i ∧ i < 0x1220 then
    let j := i - 0x1218
    if b = 1 then (s.shaftsPut j { s.shaftsAt j with certain := false, zPending := false, poll := none }).setShaft j (if s.nat i 1 = 0 then 0 else 5)
    else if b = 0x0C then s.shaftHush j
    else s
  else if i = 0x1201 then if b = 1 ∨ b = 3 then s.portsChanged else s
  else if i = 0x1100 then
    if 1 ≤ b ∧ b ≤ 4 then { s with oz := { s.oz with addrPending := true } } else s
  else if 0x2200 ≤ i ∧ i < 0x2220 then s.courseChanged old keys (i - 0x2200) b
  else if 0x2400 ≤ i ∧ i < 0x2500 then if 1 ≤ b ∧ b ≤ 4 then s.canvasAlloc (i - 0x2400) else s
  else if 0x2500 ≤ i ∧ i < 0x2540 then s.flowChanged old (i - 0x2500)
  else if 0x2540 ≤ i ∧ i < 0x2580 then s.hstreamChanged old (i - 0x2540)
  else if 0x2680 ≤ i ∧ i < 0x26A0 then s.fetchChanged old (i - 0x2680) b
  else if 0x2800 ≤ i ∧ i < 0x2820 then s.captureChanged old (i - 0x2800) b
  else if 0x2880 ≤ i ∧ i < 0x2890 then
    if b ≤ 3 ∨ b = 7 ∨ b = 8 then s.cstreamChanged (i - 0x2880) else s
  else if key = dkey 0x40F0 2 then s.pegsRefresh
  else if 0x4120 ≤ i ∧ i < 0x4140 then if b = 1 ∧ s.nat i 1 = 0 then s.sensorOff (i - 0x4120) else s
  else if 0x4140 ≤ i ∧ i < 0x4160 then s.laserUpdate (i - 0x4140)
  else s

/-- What a value does when it is committed, be it new or not. -/
def State.afterPut (s old : State) (keys : List Nat) (key : Nat) : State :=
  let i := key / 256
  let b := key % 256
  if 0x1220 ≤ i ∧ i < 0x1240 then
    if isFirst keys (admissionKey (i - 0x1220)) key then s.admission old (i - 0x1220) else s
  else if key = dkey 0x1201 2 then
    if s.nat 0x1201 3 = (s.ptpProfile keys).nat 0x1201 3 then s.ptpProfile keys else (s.ptpProfile keys).portsChanged
  else if ((0x2000 ≤ i ∧ i < 0x2100) ∨ (0x27F0 ≤ i ∧ i < 0x2800)) ∧ b = 0x14 then
    s.acquire (if i < 0x2100 then i - 0x2000 else 256 + (i - 0x27F0))
  else if 0x2100 ≤ i ∧ i < 0x2110 ∧ b = 1 then s.spareSet (i - 0x2100)
  else if flipKey key then s.flipNow (i - 0x2400) (s.nat i 8)
  else if 0x2820 ≤ i ∧ i < 0x2842 ∧ b = 4 then
    if keys.contains (dkey i 5) then s else s.putRP i 5 (.num 1)
  else if 0x2600 ≤ i ∧ i < 0x2680 then s.writeMesh (i - 0x2600) (s.blob i 1) []
  else if 0x2700 ≤ i ∧ i < 0x2720 ∧ b = 6 then s.colPut (i - 0x2700) { s.colAt (i - 0x2700) with fixW := true }
  else if 0x3000 ≤ i ∧ i < 0x3058 then s.slotChanged old keys (i - 0x3000) b
  else if 0x2700 ≤ i ∧ i < 0x2720 ∧ b = 0x13 then s.each (s.lanesOf (i - 0x2700)) State.noteWear
  else if key = dkey 0x3800 0x10 ∨ key = dkey 0x3800 0x11 then s.limitsChanged old
  else if 0x4010 ≤ i ∧ i < 0x4072 ∧ b = 1 then s.evaluate (i - 0x4010)
  else if 0x4010 ≤ i ∧ i < 0x4072 ∧ b = 3 then
    (s.delayKnown (i - 0x4010) ((s.points (i - 0x4010)).flatMap (·.2))).evaluate (i - 0x4010)
  else if key = dkey 0x7F00 1 then s.imageBegin (s.blob 0x7F00 1)
  else s

/-! ### Requests -/

/-- A device state request (R19 to R21): LIT at once where the device is DARK and may be; DARK once no course is LIT; STANDBY
stops every course first; an entry to STANDBY that is not over is ended by a request of DARK or LIT (R20). DEDUCED (log 165): D6 also
asks for REFCLK, whose absence is a cause of D3, which stands above it in Table 1.3. -/
def State.deviceRequest (s0 : State) (v : Nat) : State :=
  let s1 := s0.putN 0x4200 2 v
  let s := if v = 3 then s1.each allCourses (fun s k => s.courseRequest k 0) else s1
  let pw (f : PwrSt → PwrSt) : State := { s with pwr := f s.pwr }
  if s.dst = 1 then
    if v = 3 then
      if s.pwr.entering then s else pw (fun p => { p with entering := true, exiting := false, litAfter := false })
    else if s.pwr.entering then pw (fun p => { p with entering := false, exiting := true, litAfter := v == 2 })
    else if s.pwr.exiting then pw (fun p => { p with litAfter := v == 2 })
    else if v = 2 ∧ s.capo.interlock = true ∧ s.clk.refclk = true then s.putN 0x4200 1 2
    else s
  else if s.dst = 2 then (if v = 1 then s.darkIfDone else s)
  else if s.dst = 3 then
    if v = 3 then pw (fun p => { p with exiting := false, litAfter := false })
    else pw (fun p => { p with exiting := true, litAfter := v == 2 })
  else s

/-- A request entry: it takes effect through the transitions of Tables 1.3 and 1.6. -/
def isRequest (key : Nat) : Bool :=
  key == dkey 0x4200 2 || (decide (0x2200 ≤ key / 256) && decide (key / 256 < 0x2220) && key % 256 == 2)

def State.requestItem (s : State) (t : Todo) : State :=
  if t.key = dkey 0x4200 2 then s.deviceRequest (valInt t.val).toNat
  else
    let k := t.key / 256 - 0x2200
    let s1 := s.courseRequest k (valInt t.val).toNat
    if s.cst k = 0 then s1.mirPut k { s1.mirAt k with failed := false } else s1

/-! ### Applying -/

/-- The pegs of one class of an item of 40F0:02 take their requested codes; the others keep theirs. -/
def State.mergePegs (s : State) (c : ItemClass) (v : Val) : State :=
  let mine : Nat → Bool := fun p => match c with
    | .peg k => s.pegCourse p == some k
    | _ => (s.pegCourse p).isNone
  s.putB 0x40F0 2 (allPegs.flatMap (fun p => leBytes 2 (if mine p then pegOf v p else s.pegRequested p)))

/-- One item's value put in force. Powered time counts on from the value written. -/
def State.putItem (s : State) (t : Todo) : State :=
  let i := t.key / 256
  let b := t.key % 256
  if 0x6001 ≤ i ∧ i ≤ 0x6FFF then s.commitWindow i b t.val
  else if 0x4010 ≤ i ∧ i < 0x4072 ∧ 0x0A ≤ b ∧ b ≤ 0x11 then s.pointApplied (i - 0x4010) (b - 0x0A) (valBytes t.val)
  else if t.key = dkey 0x40F0 2 then s.mergePegs t.cls t.val
  else if t.key = dkey 0x7100 0x0D then
    (s.put i b (.num (valInt t.val - (((s.clk.up - s.clk.began) / tS : Nat) : Int)))).persist t.key t.val
  else if t.key = dkey 0x7100 0x0A then s.pstateClear
  else s.putLive i b t.val

/-- A queue window's own entry: its queue number, or its enable. -/
def windowSub (b key : Nat) : Bool := decide (0x6001 ≤ key / 256) && decide (key / 256 ≤ 0x6FFF) && key % 256 == b

/-- Items in an order in which a window's queue number comes before its configuration and its enable after it, so that a ring
is allocated with what is committed with it (R484). -/
def inWindowOrder {α : Type} (key : α → Nat) (l : List α) : List α :=
  l.filter (fun x => windowSub 1 (key x)) ++ l.filter (fun x => !(windowSub 1 (key x)) && !(windowSub 0x0A (key x))) ++
    l.filter (fun x => windowSub 0x0A (key x))

/-- Items take effect together (R65): every value first, then what the values do, then requests. -/
def State.applyItems (s : State) (l : List Todo) : State :=
  if l.isEmpty then s
  else
    let puts := l.filter (fun t => !isRequest t.key)
    let keys := (puts.map (·.key)).eraseDups
    let old := s.accrue
    let s0 := keys.foldl (fun s key =>
      if 0x2200 ≤ key / 256 ∧ key / 256 < 0x2220 ∧ key % 256 = 0x0D then s.rampAdvance (key / 256 - 0x2200) else s) old
    let s1 := (inWindowOrder (fun t : Todo => t.key) puts).foldl State.putItem s0
    let s2 := keys.foldl (fun s key => s.afterPut old keys key) s1
    let s3 := keys.foldl (fun s key =>
      if s.val (key / 256) (key % 256) = old.val (key / 256) (key % 256) then s else s.afterChange old keys key) s2
    let s4 := (l.filter (fun t => isRequest t.key)).foldl State.requestItem s3
    if keys.any candidateKey then s4.offerAgain else s4

/-- The items that a point takes are applied, and commits that are over are closed (R65, R69). -/
def State.applyPoint (s : State) (pick : Pending → Todo → Bool) : State :=
  let r := s.takeItems pick
  r.1.applyItems r.2

end Sys2Proof.Machine
end

