-- ==== Sys2Proof/Machine/Frame.lean ====
section
/-! DEFINITION. Frame starts, commit fences and the points at which items of commits apply (R65, R91 to R100, R150 to R156,
R188, R207, R210, R219 to R222, R245 to R247, R290, R316, R335, R400, R409, R543). -/

namespace Sys2Proof.Machine

open Sys2Proof

/-! ### Items at a frame start -/

/-- The items that a frame start of course k takes: frame-boundary ones that are due, flips where the fence has decided them
(R188), and peg items and requests with a target (Table 2.6a). -/
def frameItem (k counter : Nat) (start : Int) (decided : Bool) (p : Pending) (t : Todo) : Bool :=
  match t.cls with
  | .frame j => j == k && (if flipKey t.key then decided && t.fenced else itemDue p t counter start)
  | .restart j => j == k && itemDue p t counter start
  | .peg j => j == k && p.selector != 0 && itemDue p t counter start
  | .request j => j == k && p.selector != 0 && itemDue p t counter start
  | .device => false

/-- An item of course k that was passed over by the frame start after its fence waits no longer (Table 2.6a). -/
def Todo.passed (t : Todo) (k : Nat) : Todo :=
  if t.cls = .frame k ∨ t.cls = .restart k then { t with after := false } else t

/-- The frame start after a fence has passed. -/
def State.passFence (s : State) (k : Nat) : State :=
  { s with oz := { s.oz with commits := s.oz.commits.map (fun p => { p with todo := p.todo.map (fun t => t.passed k) }) } }

/-- A flip that has been taken is what 2400 + c:08 reads; the buffers it has overtaken are released (R190, R193). -/
def State.flipTaken (s : State) (t : Todo) : State :=
  (s.putKey t.key t.val).flipDone (t.key / 256 - 0x2400) (valInt t.val).toNat

/-- Items of a frame start take effect; flips are the decisions of their fences (R188). -/
def State.applyAtFrame (s : State) (l : List Todo) : State :=
  (l.filter (fun t => flipKey t.key)).foldl State.flipTaken (s.applyItems (l.filter (fun t => !(flipKey t.key))))

/-! ### The parts of a frame start -/

/-- A switch-in that the fence decided takes effect if its lane is still UP; otherwise it waits for later fences (R543). -/
def State.switchAtStart (s : State) (i : Nat) : State :=
  let x := s.sparesAt i
  let up := match s.switchLane i x.want with
    | some l => (s.lanesAt l).state == 2
    | none => false
  let s1 := if up then s.switchNowSpare i else s
  s1.sparesPut i { s1.sparesAt i with decided := false }

/-- The switch-ins of course k at its frame start. -/
def State.switchIns (s : State) (k : Nat) : State :=
  if s.switching k = [] then s else (((s.each (s.switching k) State.switchAtStart).retrainRefresh k).pegsRefresh)

/-- The matrix of the frame: the one decided; computed at the start itself where a colour entry applies that the fence did not
see, or where none is in use (R245, R246). -/
def State.frameMatrix (s : State) (k counter : Nat) (colour switched : Bool) : State :=
  let c := s.colAt k
  if s.primaries k = [] then s.colPut k { c with next := none, nextForced := false }
  else if (colour && !c.nextForced) || (c.forced && c.next.isNone) then s.useMatrix k counter (s.newMatrix k switched)
  else
    match c.next with
    | some m => s.useMatrix k counter m
    | none => s

/-- A frame in which a weight was clamped is counted as the next one starts (R247), which may have rendered bows with one already. -/
def State.frameClamped (s : State) (k : Nat) : State :=
  let c := s.colAt k
  let s1 := s.colPut k { c with clamped := c.clampedNext, clampedNext := false }
  if c.clamped then s1.bump (colIx k) 0x1A else s1

/-- Mesh copy and buffer of the frame: those decided; a repeat frame keeps what it has, and the decision stands (R99, R188,
R207). -/
def State.frameMesh (s : State) (k : Nat) (isRepeat : Bool) : State :=
  let f := s.fetAt k
  let g :=
    if isRepeat then { f with carried := f.carried || f.decided, decided := false }
    else if f.decided then { f with mesh := f.nextMesh, buffer := f.nextBuffer, carried := false, decided := false }
    else f
  (s.fetPut k g).releaseHeldMeshes k

/-- Lanes of course k take the latency declared as they came UP (R316). -/
def State.frameLatency (s : State) (k : Nat) : State :=
  s.each (allLanes.filter (fun l => s.laneCourse l == some k)) (fun s l =>
    match (s.lanesAt l).newLatency with
    | some n => (s.lanesPut l { s.lanesAt l with newLatency := none }).putN (laneIx l) 8 n
    | none => s)

/-- The bow that is bow 0 of a frame starting now (R150). -/
def State.bowZero (s : State) (k : Nat) : Option Nat :=
  let b := s.bowAt k
  if b.seeded then some (if s.dirUsed k (!b.forward) then b.bow + 1 else b.bow + 2) else none

/-- Fetch at a frame start: the bows fetched for the coming frame are those of the frame, as far as they fit its bows, mesh copy
and buffer; the rest is let go (R219 to R221). -/
def State.frameFetch (s : State) (k : Nat) : State :=
  let f := s.fetAt k
  let first := (s.bowZero k).getD 0
  let step := s.bowStep k
  let moved := (f.bows.filter (·.next)).map (fun b => { b with next := false, bow := first + b.active * step })
  let kept := moved.takeWhile (fun b => s.forwardOf k b.bow == b.forward && b.mesh == f.mesh && b.buffer == f.buffer)
  let p := s.plcAt k
  let s1 := s.fetPut k { f with
    bows := kept, scheduled := kept.length, scheduledNext := 0, fetching := s.fetchRuns k
    frameP := s.shaftPos (s.nat (0x2680 + k) 7), frameN := (s.frmAt k).shaftN.getD 0 }
  let s2 := s1.plcPut k { p with
    firstBow := s.bowZero k, restart := false
    rendered := (p.rendered.filter (fun x => x.1 && kept.any (fun b => b.active == x.2))).map (fun x => (false, x.2)) }
  let later := if f.resident = [] then [] else s2.laterTiles k
  let needed : Nat → Bool := fun t =>
    kept.any (fun b => b.levels.isNone && b.tiles.contains t) || (later.contains t && !f.poisoned.contains t)
  s2.fetPut k { s2.fetAt k with resident := f.resident.filter needed, poisoned := f.poisoned.filter needed }

/-- A bow that was placed before its frame started is placed again with the frame's values (R155). -/
def State.placeAgain (s : State) (k : Nat) : State :=
  match (s.plcAt k).next, (s.plcAt k).firstBow with
  | some b, some m =>
    if m ≤ b.bow ∧ s.cst k ≠ 0 ∧ s.modelState k ≠ 0 ∧ s.clk.refclk = true then
      (s.plcPut k { s.plcAt k with next := none }).placeNext k
    else s
  | _, _ => s

/-- A FRAME block on every lane of course k (R312, Table 9.5). -/
def State.sendFrames (s : State) (k counter : Nat) : State :=
  if s.clk.slotRun then
    s.each (s.lanesOf k) (fun s l =>
      if s.sends l then s.queueControl l s.blockNow 4 blkFrame (counter * 2 ^ 8) else s)
  else s

/-- The frame period servo of a content-follow course (R100): the arrival phase is the time from the last completed buffer to the
latest fence, as a fraction of the frame period. -/
def State.contentServo (s : State) (k : Nat) : State :=
  let f := s.frmAt k
  let done := s.contentDone k
  match f.fenceTai with
  | some t =>
    if s.nat (refIx k) 1 = 3 ∧ f.cfHold = false ∧ done ≠ 0 ∧ 0 < s.framePeriod k then
      let r := contentStep f.d f.acc (((t : Int) - (done : Int) : Int) / s.framePeriod k)
      s.frmPut k { f with d := r.1, acc := r.2 }
    else s
  | none => s

/-- C4 for a course whose configuration a frame start has made valid (Table 1.6). -/
def State.retrySpin (s : State) (k : Nat) (keys : List Nat) : State :=
  if s.cst k = 0 ∧ (s.mirAt k).failed = false ∧ 2 ≤ s.creq k ∧ s.creq k ≤ 4 ∧
      keys.any (restKey k) = true then
    s.courseRequest k (s.creq k)
  else s

/-- The frame counter of a frame that starts (Table 3.3, R91). -/
def State.startCounter (s : State) (k : Nat) (r : FrameReq) : Nat :=
  match r.counter with
  | some n => n
  | none => (s.nat (refIx k) 0x10 + 1) % 2 ^ 32

/-- When the frame of a request starts: at the request, or now where it had to wait (R91). -/
def State.startTime (s : State) (r : FrameReq) : Nat := if r.waits then s.clk.tai else r.at_

/-- The generator of course k as a frame starts. -/
def State.frameBegins (s : State) (k : Nat) (r : FrameReq) : State :=
  ((s.frmPut k { s.frmAt k with
    running := true, held := none, realigning := false, fenced := false, begun := 0, fresh := true
    startTai := s.startTime r, isRepeat := r.isRepeat }).putN (refIx k) 0x10 (s.startCounter k r)).putN (refIx k) 0x11
      (time80 (s.startTime r / tNs))

/-- A course without an estimate takes the sense level of the frame for its stamps from the frame start on; one with an estimate
takes it with bow 0 (R158). -/
def State.frameLevel (s : State) (k : Nat) : State :=
  let b := s.bowAt k
  if b.seeded ∨ b.lev = s.nat (crs k) 0x0E then s else s.bowPut k { b with lev := s.nat (crs k) 0x0E, stamp := none }

/-- A frame of course k starts (R91, R155): its items, decisions and switch-ins take effect together. -/
def State.startFrame (s : State) (k : Nat) (r : FrameReq) : State :=
  let n := s.startCounter k r
  let s0 := ((s.frameClamped k).contentServo k).frameBegins k r
  let got := s0.takeItems (frameItem k n (s.startTime r : Int) ((s.fetAt k).decided && !r.isRepeat))
  let keys := got.2.map (·.key)
  let s1 := ((got.1.passFence k).applyAtFrame got.2).frameLevel k
  let switched := !(s1.switching k).isEmpty
  let s2 := (((s1.switchIns k).frameMatrix k n (keys.any colourKey) switched).frameMesh k r.isRepeat).frameLatency k
  let s3 := (((s2.retireBanks k).domainFrame k k).domainFrame (32 + k) k).frameFetch k
  let s4 := s3.frmPut k { s3.frmAt k with flyback := s3.nat (crs k) 0x11 == 0 || !(s3.bowAt k).seeded, lastEnd := none }
  let s5 := (((s4.captureEnd k).sendFrames k n).placeAgain k).retrySpin k keys
  (((s5.frameMove k).switchAtFrame k).captureBegin k n).refreshWater k

/-- The request that FRAME_START takes: the one held, or, on a course whose SYNC_IN input is in holdover, the part's own at the
last period (R96, F4, log 98). -/
def State.frameAsked (s : State) (k : Nat) : Option FrameReq :=
  match (s.frmAt k).held with
  | some r => some r
  | none =>
    if s.nat (refIx k) 1 = 1 ∧ (s.nat (0x1210 + s.channelOf k) 8 = 3 ∨ s.nat (0x1210 + s.channelOf k) 8 = 4) then
      some { counter := none, at_ := s.clk.tai }
    else none

/-- FRAME_START: a requested frame starts, with every active bow of the frame before it emitted and the minimum flyback passed
(R91). -/
def execFrameStart (k : CourseId) (s : State) : Host.Outcome State Fault Refusal :=
  .next (
    match s.frameAsked k.val with
    | some r => if s.flybackOver k.val = true ∧ s.clk.refclk = true then s.startFrame k.val r else s
    | none => s)

/-- The bow in progress of course k is its commit fence: active bow N_a − 1 − F (R154). -/
def State.atFence (s : State) (k : Nat) : Bool :=
  decide (s.nat (crs k) 0x13 < s.nat (crs k) 0x11) && s.nat (crs k) 0x1E == s.nat (crs k) 0x11 - 1 - s.nat (crs k) 0x13

/-- COMMIT_FENCE: a course reaches its commit fence and decides its next frame (R154, R188, R207, R245, R335). -/
def execCommitFence (k : CourseId) (s : State) : Host.Outcome State Fault Refusal :=
  let f := s.frmAt k.val
  .next (
    if 2 ≤ s.cst k.val ∧ s.cst k.val ≤ 5 ∧ f.running = true ∧ f.fenced = false ∧ s.atFence k.val = true ∧
        s.clk.refclk = true then
      (s.frmPut k.val { f with fenced := true, fenceTai := some s.clk.tai }).decideFrame k.val
    else s)

/-! ### Other points of application -/

/-- The natural peg and tuning items of course k, which a bow turnaround takes (Table 2.6a). -/
def turnItem (k : Nat) (p : Pending) (t : Todo) : Bool := p.selector == 0 && t.cls == .peg k

/-- BOW_TURNAROUND: a bow of course k ends: loops judged, capo limits taken, a tuning run's step made, peg and tuning items applied, and the transition
of the turnaround (R24, R65, R378). -/
def execBowTurnaround (k : CourseId) (s : State) : Host.Outcome State Fault Refusal :=
  .next (
    if s.cst k.val = 0 ∨ s.clk.refclk = false then s
    else ((((s.lockRefresh k.val).limitsTake k.val).runStep k.val).applyPoint (turnItem k.val)).turnaroundMove k.val)

/-- A flip item of canvas c for a course that does not read it: no fence will decide it. -/
def State.strayFlip (s : State) (c : Nat) (p : Pending) (t : Todo) : Bool :=
  t.key == dkey (0x2400 + c) 8 &&
    match t.cls with
    | .frame k => !(s.readers c).contains k &&
        (match p.selector with
         | 0 => true
         | 1 => atOrAfter (s.nat (refIx k) 0x10) p.frame
         | _ => decide (p.time ≤ s.clk.tai))
    | _ => false

/-- COMMIT_APPLY: items of accepted commits apply at a point of theirs: a time, a frame start of a course, a bow turnaround of a
course; or a flip of a canvas that no course reads any more, which waits for no fence (R65, R193). -/
def execCommitApply (pt : Point) (s : State) : Host.Outcome State Fault Refusal :=
  .next (
    match pt with
    | .time => s.applyPoint (fun p t => p.selector == 2 && t.cls == .device && decide (p.time ≤ s.clk.tai))
    | .frameStart k =>
      let f := s.frmAt k.val
      if f.running then
        s.applyPoint (fun p t => p.selector != 0 && !(flipKey t.key) &&
          frameItem k.val (s.nat (refIx k.val) 0x10) (f.startTai : Int) false p t)
      else s
    | .turnaround k => s.applyPoint (turnItem k.val)
    | .canvas c =>
      if (s.readers c.val).isEmpty then s.applyPoint (s.strayFlip c.val)
      else
        let r := s.takeItems (s.strayFlip c.val)
        r.2.foldl State.flipTaken r.1)

end Sys2Proof.Machine
end

