-- ==== Sys2Proof/Machine/Commit.lean ====
section
/-! DEFINITION. What a commit is checked for before it is accepted (R64 to R68): every item on the state that the commit
produces, which is the live state with every pending item and its own items (R148, log 51). A check is a condition with the
status that its failure returns. -/

namespace Sys2Proof.Machine

open Sys2Proof

/-- The status of the first condition that fails. -/
def firstFail (l : List (Bool × Nat)) : Option Nat := (l.find? (fun p => !p.1)).map (·.2)

/-- A state with an item's value in it, as far as checks look. -/
def State.withItem (s : State) (key : Nat) (v : Val) : State :=
  let i := key / 256
  let b := key % 256
  if 0x6001 ≤ i ∧ i ≤ 0x6FFF then s.commitWindow i b v
  else if 0x2100 ≤ i ∧ i < 0x2110 ∧ b = 1 then
    let s1 := s.put i b v
    (s1.sparesPut (i - 0x2100) { s1.sparesAt (i - 0x2100) with
      want := if valInt v = 0xFFFF then none else some (valInt v).toNat }).moveString (i - 0x2100)
  else s.put i b v

/-- A state with the values of a list of items in it. -/
def State.withItems (s : State) (items : List (Nat × Val)) : State :=
  (inWindowOrder (fun p : Nat × Val => p.1) items).foldl (fun s p => s.withItem p.1 p.2) s

/-- A key is a spare switch-in, 2100 + i:01 (R334). -/
def switchInKey (key : Nat) : Bool := decide (0x2100 ≤ key / 256) && decide (key / 256 < 0x2110) && key % 256 == 1

/-- The live state with every pending item applied. Pending switch-ins count only for a commit that holds one: for another, a
switch-in that its values rule out is the one that is refused (R149, K3). -/
def State.withPending (s : State) (spares : Bool) : State :=
  s.withItems (((s.oz.commits.flatMap (·.todo)).map (fun t => (t.key, t.val))).filter (fun p => spares || !(switchInKey p.1)))

/-- The state that pending commits produce, as a commit of some items is checked on it. -/
def State.withPendingFor (s : State) (items : List (Nat × Val)) : State := s.withPending (items.any (fun p => switchInKey p.1))

/-- Both maps selected for course k pass Table 4.3; an empty one fails where the course is asked to emit (log 43). A failure
of V1 to V5 is the failure of the item of that map, or of its selection: map `own` (R148); V6 to V9 concern every item that
R149 and R153 name. -/
def State.mapsPass (v : State) (k : Nat) (own : Option Nat) : List (Bool × Nat) :=
  let strict := v.creq k == 3 || v.creq k == 4
  [true, false].map (fun d =>
    match v.selectedCheck k d strict with
    | none => (true, stMap)
    | some (9, _) => (false, stRejected)
    | some (c, _) => (!(own == some (v.mapNo k d) || decide (6 ≤ c) || (v.blob (mapIx k (v.mapNo k d)) 1).isEmpty), stMap))
def State.mapsOk (v : State) (k : Nat) : List (Bool × Nat) := v.mapsPass k none

/-! ### References and courses -/

/-- f_c of a member that asks for phase lock fits R112. -/
def State.consortOk (v : State) (k : Nat) : Bool :=
  !(v.asksPhaseLock k) ||
    (v.nat (refIx k) 0x0C * v.nat (refIx k) 3 % (2 * v.nat (refIx k) 4) == 0 && decide (10000 ≤ v.consortHz k) &&
      decide (v.consortHz k ≤ 40000))

/-- The canvases of flip mode 3 that course k reads have a SHAFT reference (R194). -/
def State.shaftReads (s v : State) (k : Nat) : Bool :=
  (List.range 256).all (fun c => v.cvMode c != 3 || !(s.readers c).contains k || v.nat (refIx k) 1 == 2)

/-- Shaft offset mode 3 needs the course's own SHAFT channel (Table 6.4). -/
def State.offsetOk (v : State) (k : Nat) : Bool :=
  v.nat (0x2680 + k) 6 != 3 || v.follows k 2 (v.nat (0x2680 + k) 7)

/-- The source channel of a frame reference exists (1220 + k:02). -/
def State.sourceOk (v : State) (k : Nat) : Bool :=
  match v.nat (refIx k) 1 with
  | 1 => decide (v.channelOf k ≤ 3)
  | 2 => decide (v.channelOf k ≤ 7)
  | 3 => decide (v.channelOf k ≤ 255)
  | _ => true

/-- Checks of an entry 1220 + k:b. -/
def State.refChecks (s v : State) (k b : Nat) : List (Bool × Nat) :=
  let num := v.nat (refIx k) 3
  let den := v.nat (refIx k) 4
  (if b = 3 ∨ b = 4 then
    [((den == 1 || den == 1001) && decide (den ≤ num) && decide (num ≤ 480 * den), stRange)] else []) ++
  (if 3 ≤ b ∧ b ≤ 5 then
    [(decide ((v.int (refIx k) 5).natAbs * num ≤ den * 1000000000), stRejected)] else []) ++
  (if b = 1 ∨ b = 6 then [(v.nat (refIx k) 1 != 2 || v.nat (refIx k) 6 != 0, stRejected)] else []) ++
  (if b = 1 ∨ b = 2 then [(v.sourceOk k, stRejected), (v.offsetOk k, stRejected)] else []) ++
  (if b = 1 then [(s.shaftReads v k, stRejected)] else []) ++
  (if b = 1 ∨ b = 0x0A then [(v.nat (refIx k) 1 != 3 || v.nat (refIx k) 0x0A == 0, stRejected)] else []) ++
  (if b = 3 ∨ b = 4 ∨ b = 0x0A ∨ b = 0x0B ∨ b = 0x0C then [(v.consortOk k, stRejected)] else []) ++
  (if b = 1 ∨ b = 3 ∨ b = 4 ∨ b = 0x0B ∨ b = 0x0C then v.mapsOk k else [])

/-- Every used course has its own strings, inside 256, rows × primaries of them (R120). -/
def State.stringsOk (v : State) (k : Nat) : Bool := v.nat (crs k) 6 == 0 || v.courseOk k

/-- The target white of course k is reachable with the gains of the matrix that the commit brings: a switch-in takes them to their
targets at once (R244, R260). A description that fails R237 in another way is not looked at. -/
def State.whiteOk (v : State) (k : Nat) (jump : Bool) : Bool :=
  (v.primaries k).isEmpty || !(v.descriptionOk k) || v.whiteReachable k (v.nextGains k jump)

/-- The uniformity map of course k has a plane for every primary, or one for all (R250). -/
def State.uniformityFits (v : State) (k : Nat) : Bool :=
  (v.blob (colIx k) 0x0C).isEmpty || uniformityOk (v.nat (crs k) 8) (v.blob (colIx k) 0x0C)

/-- The capture buffers of every course fit the capture pool (R293). -/
def State.captureFits (v : State) : Bool :=
  decide ((allCourses.map v.capSpan).sum ≤ min (v.nat 0x28F0 1) v.mem.capturePool * mib)

/-- A fiducial's window, widened by 2 fret pitches on each side, lies within the probe frets of one band (R286). -/
def fiducialFits (m : FretMap) (guard : Nat) (w : Int) (f : Fiducial) : Bool :=
  let lo := if m.reverse then f.angle + w else f.angle - w
  let hi := if m.reverse then f.angle - w else f.angle + w
  let before (a x : Int) : Bool := if m.reverse then decide (x < a) else decide (a < x)
  [true, false].any (fun bridge =>
    match m.probeFrets guard bridge with
    | [] => false
    | i :: r =>
      let last := r.getLastD i
      !(before lo (m.angle (i + 2))) && !(before (m.angle (last + 1 - 2)) hi) && decide (i + 4 ≤ last + 1))

/-- The fiducial table of course k passes R286 on the maps it would have. A course without a map in a direction has no probe
frets there. -/
def State.fiducialsOk (v : State) (k : Nat) : Bool :=
  let b := v.blob (capIx k) 0x0A
  let n := leAt b 3 1
  b.isEmpty ||
    (slice 0 3 b == [0x46, 0x44, 0x01] && decide (1 ≤ n) && decide (n ≤ 16) && leAt b 4 4 == 0 && b.length == 8 + 16 * n &&
      (List.range n).all (fun j =>
        leAt b (20 + 16 * j) 4 == 0 && decide (leAt b (12 + 16 * j) 1 ≤ 1) && decide (leAt b (13 + 16 * j) 1 ≤ 1)) &&
      (v.fiducials k).all (fun f =>
        match v.mapOf k (!f.reverse) with
        | some m => fiducialFits m (v.nat (capIx k) 9) (v.nat (capIx k) 0x0C : Int) f
        | none => false))

/-- The slots that are on after a commit that requests course k: those on, and the mirror slots of each STOPPED course that
C4 takes on the requests of that commit (R340, R354). -/
def State.slotsWanted (v : State) (k : Nat) : List (Nat × Nat) :=
  (List.range 88).filterMap (fun i =>
    let j := i / 2
    let starts := decide (i < 64) && v.cst j == 0 && decide (2 ≤ v.creq j) && decide (v.creq j ≤ 4) &&
      (j == k || !(v.mirAt j).failed)
    if v.nat (0x3000 + i) 1 ≠ 0 ∨ starts = true then some (i, v.nat (0x3000 + i) 2) else none)

/-- A request of state 2, 3 or 4 for course k (R119, R152, R217, R236, R340, R464). -/
def State.requestChecks (s v : State) (k n : Nat) : List (Bool × Nat) :=
  if n = 1 then [(false, stRange)]
  else if 2 ≤ n ∧ n ≤ 4 then
    [(v.nat (crs k) 6 != 0, stRejected), (v.nat (0x2680 + k) 0x0D != 0, stRejected), (!s.pwr.dramFailed, stRejected),
      ((fitSlots (v.slotsWanted k) v.assigns).isSome, stRejected)] ++
    (if 3 ≤ n then
      [(v.nat (crs k) 0x11 != 0, stRejected), (!(v.blob (colIx k) 0x0A).isEmpty, stRejected)] ++ v.mapsOk k else [])
  else []

/-- Checks of an entry 2200 + k:b. -/
def State.courseChecks (s w v : State) (k b : Nat) : List (Bool × Nat) :=
  let same := w.val (crs k) b == v.val (crs k) b
  let target := v.nat (crs k) 0x0D
  let now := s.nat (crs k) 0x0D
  let lo := v.f32 (crs k) 0x0B
  let hi := v.f32 (crs k) 0x0C
  (if b = 2 then s.requestChecks v k (v.nat (crs k) 2) else []) ++
  (if 5 ≤ b ∧ b ≤ 9 then
    [(same || s.cst k == 0, stRejected), (allCourses.all v.stringsOk, stRejected)] else []) ++
  (if b = 8 then [(v.descriptionOk k, stRejected), (v.uniformityFits k, stRejected)] else []) ++
  (if 5 ≤ b ∧ b ≤ 9 then [(v.whiteOk k false, stRejected)] else []) ++
  (if b = 0x0B ∨ b = 0x0C then
    [(decide (10000 ≤ lo) && decide (lo < hi) && decide (hi ≤ 40000) && decide (hi ≤ 12 / 10 * lo), stRejected)] else []) ++
  (if b = 0x0D then
    [(!(s.cst k == 3 || s.cst k == 4) || decide ((50 : Int) * ((target : Int) - now).natAbs ≤ now), stRejected)] else []) ++
  (if b = 0x0D ∨ b = 0x0E then
    [(decide (target ≤ 5 * v.nat (crs k) 0x0E) && decide (5 * v.nat (crs k) 0x0E ≤ 4 * target), stRejected)] else []) ++
  (if b = 0x11 ∨ b = 0x13 then
    [(decide (v.nat (crs k) 0x13 < v.nat (crs k) 0x11), stRejected)] else []) ++
  (if (5 ≤ b ∧ b ≤ 6) ∨ (0x0A ≤ b ∧ b ≤ 0x0D) ∨ (b = 0x11 ∨ b = 0x12) then v.mapsOk k else []) ++
  (if b = 0x0F ∨ b = 0x10 then v.mapsPass k (some (v.mapNo k (b == 0x0F))) ++ [(v.fiducialsOk k, stRejected)] else []) ++
  (if b = 0x0B ∨ b = 0x11 then [(v.captureFits, stRejected)] else [])

/-- Checks of a fret map 2300 + 8k + m (R148): with Table 4.3 where it is selected, else by itself. -/
def State.mapChecks (v : State) (k m : Nat) : List (Bool × Nat) :=
  let b := v.blob (mapIx k m) 1
  (if m = v.mapNo k true ∨ m = v.mapNo k false then v.mapsPass k (some m) ++ [(v.fiducialsOk k, stRejected)]
   else [(b.isEmpty || (formatCheck b).isNone, stMap)])

/-! ### Lanes -/

/-- V6 to V8 for the course of a lane in the state to come (R149). -/
def State.laneMaps (v : State) (l : Nat) : List (Bool × Nat) :=
  match v.courseOfLane l with
  | some k => [(v.placementOk k, stMap)]
  | none => []

/-- The target white of the course of a lane stays reachable (R244). -/
def State.laneWhite (v : State) (l : Nat) : List (Bool × Nat) :=
  match v.courseOfLane l with
  | some k => [(v.whiteOk k false, stRejected)]
  | none => []

/-- A string is carried by a spare other than i, or committed to one (R334). -/
def State.carriedElsewhere (s v : State) (i str : Nat) : Bool :=
  (List.range 16).any (fun j => j != i && (s.stringOn (256 + j) == some str || v.nat (0x2100 + j) 1 == str))

/-- Checks of 2100 + i:01 (R265, R334). -/
def State.spareChecks (s w v : State) (i : Nat) : List (Bool × Nat) :=
  let n := v.nat (0x2100 + i) 1
  if n = 0xFFFF then
    match w.stringOn (256 + i) with
    | some str =>
      ((s.lanesAt str).state == 2 || (s.stringOn (256 + i)).isNone, stRejected) ::
        (match w.courseOfString str with
         | some k => [(v.whiteOk k true, stRejected), (v.placementOk k, stMap)]
         | none => [])
    | none => []
  else
    [(s.nat (0x2100 + i) 2 == (v.courseOfString n).getD 0xFF, stRejected), (!(s.carriedElsewhere v i n), stRejected),
     ((s.lanesAt (256 + i)).state == 2, stRejected), (v.spareColourOk (256 + i), stRejected)] ++
    (match v.courseOfString n with
     | some k => [(v.whiteOk k true, stRejected), (v.placementOk k, stMap)]
     | none => [])

/-- Checks of a lane entry of Table 4.8 or of the colour chapter. -/
def State.laneChecks (v : State) (l b : Nat) : List (Bool × Nat) :=
  (if b = 5 ∨ b = 7 then v.laneMaps l else []) ++
  (if b = 0x11 then [(tableCheck (v.blob (emitIx l) 0x11) == 0, stRejected)] else []) ++
  (if b = 0x12 ∨ b = 0x14 then v.laneWhite l else [])

/-! ### Canvases, flows and streams -/

/-- The buffers of every canvas fit the canvas pool (R165). -/
def State.canvasesFit (v : State) : Bool :=
  decide (((List.range 256).map (fun c =>
    if v.cvUsed c then v.nat (cvIx c) 4 * bufferBytes (v.cvWidth c) (v.cvHeight c) (v.cvLayout c) else 0)).sum ≤ v.canvasRoom)

/-- The host streams that write canvas c. -/
def State.boundStreams (s : State) (c : Nat) : List Nat := (List.range 64).filter (fun h => s.hsCanvas h == some c)

/-- The pixels that flow f covers: columns and rows, first and end. -/
def State.flowRect (v : State) (f : Nat) : (Nat × Nat) × (Nat × Nat) :=
  let x := v.nat (flIx f) 0x12
  let y := v.nat (flIx f) 0x13
  ((x, x + v.nat (flIx f) 0x0B), (y, y + v.nat (flIx f) 0x0C))

/-- Two rectangles have no pixel in common. -/
def disjoint (a b : (Nat × Nat) × (Nat × Nat)) : Bool :=
  decide (a.1.2 ≤ b.1.1) || decide (b.1.2 ≤ a.1.1) || decide (a.2.2 ≤ b.2.1) || decide (b.2.2 ≤ a.2.1)

/-- The writers of canvas c are at most 4 flows side by side, or one host stream (R178). -/
def State.writersOk (v : State) (c : Nat) : Bool :=
  let fs := v.boundFlows c
  let hs := v.boundStreams c
  decide (fs.length ≤ 4) && decide (hs.length ≤ 1) && (fs.isEmpty || hs.isEmpty) &&
    fs.all (fun f => fs.all (fun g => f == g || disjoint (v.flowRect f) (v.flowRect g)))

/-- The format of flow f is one of Table 5.3. -/
def State.flowFormat (v : State) (f : Nat) : Bool :=
  let depth := v.nat (flIx f) 0x0A
  if v.nat (flIx f) 9 = 1 then depth == 10 else depth == 8 || depth == 10 || depth == 12

/-- Flow f fits its canvas: size, layout by Table 5.4, and a flip mode that allows flows (Table 5.9). -/
def State.flowFits (v : State) (f c : Nat) : Bool :=
  let lay := v.cvLayout c
  decide (v.nat (flIx f) 0x0B ≤ v.cvWidth c) && decide (v.nat (flIx f) 0x0C ≤ v.cvHeight c) &&
    (lay == 3 || (v.nat (flIx f) 9 == 0 && v.nat (flIx f) 0x0A == 8 && (lay == 1 || lay == 2))) && v.cvMode c != 3

/-- Checks of an entry 2500 + f (R171, R174, R178, R180). -/
def State.flowChecks (v : State) (f : Nat) : List (Bool × Nat) :=
  [(v.flowFormat f, stRejected), (decide (v.reservation 0 ≤ 4096) && decide (v.reservation 1 ≤ 4096), stRejected)] ++
  (if v.nat (flIx f) 1 ≠ 0 ∧ v.nat (flIx f) 0x11 < 256 then
    [(v.flowFits f (v.nat (flIx f) 0x11), stRejected), (v.writersOk (v.nat (flIx f) 0x11), stRejected)] else [])

/-- Checks of an entry 2400 + c:b (R165, R167, R180, R193, R194). -/
def State.canvasChecks (s w v : State) (c b : Nat) : List (Bool × Nat) :=
  let same := w.val (cvIx c) b == v.val (cvIx c) b
  let front := v.nat (cvIx c) 8
  (if 1 ≤ b ∧ b ≤ 4 then
    [(same || ((s.readers c).isEmpty && (w.boundFlows c).isEmpty && (w.boundStreams c).isEmpty), stRejected),
     (v.canvasesFit, stRejected), ((v.boundFlows c).all (fun f => v.flowFits f c), stRejected)] else []) ++
  (if b = 5 then
    [((s.readers c).all (fun k => v.cvMode c != 3 || v.nat (refIx k) 1 == 2), stRejected),
     (v.cvMode c != 3 || (v.boundFlows c).isEmpty, stRejected)] else []) ++
  (if b = 8 then
    [(v.cvMode c == 0 && (s.bufState c front == 2 || (s.nat (cvIx c) 9 == front && decide (front < 4))), stRejected)] else [])

/-- A ring that a stream names is allocated with its direction and entry size (R487). -/
def State.ringOk (v : State) (q : Nat) (toHost : Bool) (size : Nat) : Bool :=
  q == 0 || ((v.ringAt q).allocated && (v.ringAt q).deviceToHost == toHost && (v.ringAt q).entrySize == size)

/-- Checks of an entry 2540 + h:b (R178, R487). -/
def State.hstreamChecks (v : State) (h b : Nat) : List (Bool × Nat) :=
  (if b = 1 then [(v.ringOk (v.nat (hsIx h) 1) false 32, stRejected)] else []) ++
  (if b = 2 then [(v.ringOk (v.nat (hsIx h) 2) true 16, stRejected)] else []) ++
  (match v.hsCanvas h with
   | some c => [(v.writersOk c, stRejected)]
   | none => [])

/-- Checks of an entry 2880 + i:b (R487). -/
def State.cstreamChecks (v : State) (i b : Nat) : List (Bool × Nat) :=
  (if b = 7 then [(v.ringOk (v.nat (strIx i) 7) false 32, stRejected)] else []) ++
  (if b = 8 then [(v.ringOk (v.nat (strIx i) 8) true 16, stRejected)] else [])

/-- A stream names ring q. -/
def State.ringNamed (v : State) (q : Nat) : Bool :=
  (List.range 64).any (fun h => v.nat (hsIx h) 1 == q || v.nat (hsIx h) 2 == q) ||
    (List.range 16).any (fun i => v.nat (strIx i) 7 == q || v.nat (strIx i) 8 == q)

/-- Checks of a queue window's entry (R484). -/
def State.windowChecks (w v : State) (ix b : Nat) (x : Val) : List (Bool × Nat) :=
  let q := v.nat ix 1
  let r := w.ringAt q
  let n := (valInt x).toNat
  if b < 3 ∨ q = 0xFFFFFFFF then []
  else if isHostRing q = false then [(false, stRejected)]
  else if b ≤ 9 then [(!r.enabled || r.config b n == r, stRejected)]
  else [(n != 0 || !r.enabled || !(v.ringNamed q), stRejected)]

/-! ### Warp, fetch and colour -/

/-- The first of W1 to W3 that a mesh fails, 0 where it passes (R205). -/
def State.meshCheck (v : State) (b : List Byte) : Nat :=
  let g := meshGrid b
  let inI32 (z : Int) : Bool := decide (-2147483648 ≤ z) && decide (z ≤ 2147483647)
  if slice 0 3 b ≠ [0x57, 0x4D, 0x01] ∨ 1 < leAt b 3 1 ∨ leAt b 10 2 ≠ 0 ∨ leAt b 28 4 ≠ 0 ∨
      b.length ≠ 32 + 8 * g.nu * g.nv * meshPlanes b then 1
  else if g.nu < 2 ∨ 257 < g.nu ∨ g.nv < 2 ∨ 257 < g.nv ∨ g.du = 0 ∨ g.dv = 0 ∨
      inI32 (g.u0 + ((g.nu - 1) * g.du : Nat)) = false ∨ inI32 (g.v0 + ((g.nv - 1) * g.dv : Nat)) = false then 2
  else if leAt b 4 2 < 256 ∧ v.cvUsed (leAt b 4 2) = true then 0 else 3

/-- A mesh that its course selects may name a canvas of flip mode 3 only where the course follows a SHAFT reference (R194). -/
def State.meshMode (v : State) (m : Nat) (b : List Byte) : Bool :=
  b.isEmpty || v.nat (0x2680 + m / 4) 1 != m % 4 || v.cvMode (leAt b 4 2) != 3 || v.nat (refIx (m / 4)) 1 == 2

/-- Checks of an entry 2680 + k:b (R35, R194, R208, R217, R228, Table 6.4). -/
def State.fetchChecks (s w v : State) (keys : List Nat) (k b : Nat) : List (Bool × Nat) :=
  let ix := 0x2680 + k
  let same := w.val ix b == v.val ix b
  let mesh := 4 * k + v.nat ix 1
  (if b = 1 then
    [(same || (!(keys.contains (dkey (0x2600 + mesh) 1)) &&
        [0, 1].any (fun c => s.copyState mesh c == 2 || s.copyState mesh c == 3)), stRejected),
     ([0, 1].all (fun c => v.cvMode (s.copyCanvas (mesh, c)) != 3 || !(s.copyState mesh c == 2 || s.copyState mesh c == 3) ||
        v.nat (refIx k) 1 == 2), stRejected)] else []) ++
  (if b = 6 ∨ b = 7 then [(v.offsetOk k, stRejected)] else []) ++
  (if b = 0x0D then
    [(same || s.cst k == 0, stRejected),
     (decide ((allCourses.map (fun j => v.nat (0x2680 + j) 0x0D)).sum ≤ 256), stRejected)] else []) ++
  (if b = 0x16 then
    [(!(s.sliceFailed (v.nat ix 0x16)), stRejected),
     (allCourses.all (fun j => j == k || v.nat (0x2680 + j) 0x16 != v.nat ix 0x16), stRejected)] else [])

/-- Checks of an entry 2700 + k:b (R236, R237, R242, R244, R250). -/
def State.colourChecks (v : State) (k b : Nat) : List (Bool × Nat) :=
  (if b = 2 ∨ b = 3 then [(v.nat (colIx k) 2 != 3 || (v.blob (colIx k) 3).length == 32, stRejected)] else []) ++
  (if b = 0x0A then [(v.descriptionOk k, stRejected)] else []) ++
  (if b = 0x0B then [((v.blob (colIx k) 0x0B).isEmpty || blendOk (v.blob (colIx k) 0x0B), stRejected)] else []) ++
  (if b = 0x0C then [(v.uniformityFits k, stRejected)] else []) ++
  (if b = 4 ∨ b = 5 ∨ b = 0x0A ∨ b = 0x0E ∨ b = 0x11 then [(v.whiteOk k false, stRejected)] else [])

/-- Checks of an entry 2800 + k:b (R270, R286, R290, R293). -/
def State.captureChecks (s v : State) (k b : Nat) : List (Bool × Nat) :=
  let x := v.nat (capIx k) 1
  (if b = 1 then
    [(decide (34 ≤ x) || allCourses.all (fun j => j == k || v.nat (capIx j) 1 != x), stRejected),
     (decide (34 ≤ x) || s.inputState x != 3, stRejected)] else []) ++
  (if b = 4 ∨ b = 5 then [(decide (v.nat (capIx k) 4 ≤ v.nat (capIx k) 5), stRejected)] else []) ++
  (if b = 2 ∨ b = 4 ∨ b = 6 then [(v.captureFits, stRejected)] else []) ++
  (if b = 9 ∨ b = 0x0A ∨ b = 0x0C then [(v.fiducialsOk k, stRejected)] else [])

/-! ### Loop slots -/

/-- A source of Table 10.2 in its use (R343). -/
def loopSourceOk (setPoint : Bool) (src : Nat) : Bool :=
  let ch := src % 256
  match src / 256 with
  | 0x00 | 0x01 => true
  | 0x02 => decide (ch ≤ 63)
  | 0x03 | 0x04 | 0x05 | 0x06 => decide (ch ≤ 7)
  | 0x07 => decide (ch ≤ 87)
  | 0x08 | 0x09 => setPoint && decide (ch ≤ 31)
  | 0x0A => decide (ch ≤ 31)
  | _ => false

/-- A destination of Table 10.3 that an auxiliary slot may have. -/
def auxDestOk (d : Nat) : Bool := d / 256 == 0 || (d / 256 == 3 && decide (d % 256 ≤ 63))

/-- A biquad BLOB fits Table 10.14. -/
def biquadOk (b : List Byte) : Bool :=
  b.isEmpty || (b.length == 28 && (List.range 5).all (fun i => decide (leAt b (20 + i) 1 ≤ 31)))

/-- A mode that the host commits for slot i (R354, R370, log 53). -/
def State.modeOk (s : State) (i m : Nat) : Bool :=
  (!((s.slotsAt i).dead) || m == 0 || !s.freeSpares.isEmpty) &&
    (decide (64 ≤ i) ||
      (match m with
       | 0 => s.cst (i / 2) == 0
       | 1 => s.cst (i / 2) == 2
       | _ => s.cst (i / 2) != 0))

/-- Checks of an entry 3000 + i:b (R339 to R343, R350, R354, R356, R370). -/
def State.slotChecks (s w v : State) (i b : Nat) : List (Bool × Nat) :=
  let ix := slotIx i
  let n := v.nat ix b
  let same := w.val ix b == v.val ix b
  (if b = 1 then [(s.modeOk i n, stRejected)] else []) ++
  (if b = 1 ∨ b = 2 then [((fitSlots v.slotsOn v.assigns).isSome, stRejected)] else []) ++
  (if b = 2 ∨ b = 3 then [(v.nat ix 2 != 1 || v.nat ix 3 != 0, stRejected)] else []) ++
  (if b = 4 then [((if i < 64 then same else loopSourceOk false n), stRejected)] else []) ++
  (if b = 5 then [(loopSourceOk true n, stRejected)] else []) ++
  (if b = 0x0A then [((if i < 64 then same else auxDestOk n), stRejected)] else []) ++
  (if b = 0x12 ∨ b = 0x13 then [(biquadOk (v.blob ix b), stRejected)] else []) ++
  (if b = 0x1C then [((if i < 64 then n == 4 else decide (n ≤ 3)), stRejected)] else [])

/-! ### The rest -/

/-- The parameters of R441. -/
def State.dramChecks (s v : State) (b : Nat) : List (Bool × Nat) :=
  (if b = 0x0A then [(s.mem.chanMiB == 0 || decide (2 * v.nat 0x5000 0x0A ≤ s.mem.chanMiB), stRange)] else []) ++
  (if b = 9 ∨ b = 0x0A then
    [(decide (1024 ≤ popcount 32 (v.nat 0x5000 9) * v.nat 0x5000 0x0A), stRejected)] else [])

/-- The thresholds of a laser-module zone (R426). -/
def State.thresholdsOk (v : State) (k : Nat) : Bool :=
  decide (v.f32 (laserIx k) 3 ≤ v.f32 (laserIx k) 4) && decide (v.f32 (laserIx k) 4 < v.f32 (laserIx k) 5) &&
    decide (v.f32 (laserIx k) 5 ≤ 80)

/-- A device state request (R20). -/
def State.deviceChecks (s : State) (n : Nat) : List (Bool × Nat) :=
  [(decide (1 ≤ n) && decide (n ≤ 3), stRange), (s.dst != 4, stRejected), (!(s.dst == 2 && n == 3), stRejected)]

/-- A firmware image (R499). -/
def State.imageChecks (s : State) (b : List Byte) : List (Bool × Nat) :=
  [(!([3, 4, 5].contains s.updateStatus), stBusy), (Config.imageGood b, stRejected)]

/-- The unit that owns an entry is restarting: the placement engine of its course, until the next frame start (RS10). The other
restarts of Table 14.5 are over within the command that begins them (log 150). -/
def State.ownerRestarts (s : State) (i b : Nat) : Bool :=
  if 0x2200 ≤ i ∧ i < 0x2220 ∧ 5 ≤ b then (s.plcAt (i - 0x2200)).restart
  else if 0x2300 ≤ i ∧ i < 0x2400 then (s.plcAt ((i - 0x2300) / 8)).restart
  else false

/-- The checks of one item: `s` is live, `w` has the pending items too, `v` the commit's own. -/
def State.itemChecks (s w v : State) (keys : List Nat) (key : Nat) (x : Val) : List (Bool × Nat) :=
  let i := key / 256
  let b := key % 256
  [(s.serves i && !(s.ownerRestarts i b), stRestarting),
   (w.val i b == v.val i b || !(s.ownedValue key), stRejected)] ++
  (if 0x1220 ≤ i ∧ i < 0x1240 then s.refChecks v (i - 0x1220) b
   else if 0x2000 ≤ i ∧ i < 0x2100 then v.laneChecks (i - 0x2000) b
   else if 0x2100 ≤ i ∧ i < 0x2110 then if b = 1 then s.spareChecks w v (i - 0x2100) else v.laneChecks (256 + (i - 0x2100)) b
   else if 0x27F0 ≤ i ∧ i < 0x2800 then v.laneChecks (256 + (i - 0x27F0)) b
   else if 0x2200 ≤ i ∧ i < 0x2220 then s.courseChecks w v (i - 0x2200) b
   else if 0x2300 ≤ i ∧ i < 0x2400 then v.mapChecks ((i - 0x2300) / 8) ((i - 0x2300) % 8)
   else if 0x2400 ≤ i ∧ i < 0x2500 then s.canvasChecks w v (i - 0x2400) b
   else if 0x2500 ≤ i ∧ i < 0x2540 then v.flowChecks (i - 0x2500)
   else if 0x2540 ≤ i ∧ i < 0x2580 then v.hstreamChecks (i - 0x2540) b
   else if i = 0x25F0 then [(v.canvasesFit, stRejected)]
   else if 0x2600 ≤ i ∧ i < 0x2680 then
     [(v.meshCheck (valBytes x) == 0, stRejected), (v.meshMode (i - 0x2600) (valBytes x), stRejected)]
   else if 0x2680 ≤ i ∧ i < 0x26A0 then s.fetchChecks w v keys (i - 0x2680) b
   else if 0x2700 ≤ i ∧ i < 0x2720 then v.colourChecks (i - 0x2700) b
   else if 0x2800 ≤ i ∧ i < 0x2820 then s.captureChecks v (i - 0x2800) b
   else if 0x2880 ≤ i ∧ i < 0x2890 then v.cstreamChecks (i - 0x2880) b
   else if i = 0x28F0 then [(v.captureFits, stRejected)]
   else if 0x3000 ≤ i ∧ i < 0x3058 then s.slotChecks w v (i - 0x3000) b
   else if 0x3810 ≤ i ∧ i < 0x3830 then
     if b = 3 ∨ b = 5 then [(decide (v.nat i 3 < v.nat i 5), stRejected)] else []
   else if 0x4010 ≤ i ∧ i < 0x4072 ∧ 0x0A ≤ b ∧ b ≤ 0x11 then
     (v.pointOk (i - 0x4010) (b - 0x0A) (valBytes x), stRejected) ::
       (if i < 0x4030 then [(v.descriptionOk (i - 0x4010), stRejected), (v.whiteOk (i - 0x4010) false, stRejected)] else [])
   else if key = dkey 0x40F0 2 then
     [((valBytes x).length == 740 && allPegs.all (fun p => decide (pegOf x p ≤ 16383)), stRejected)]
   else if 0x4140 ≤ i ∧ i < 0x4160 ∧ 3 ≤ b ∧ b ≤ 5 then [(v.thresholdsOk (i - 0x4140), stRejected)]
   else if key = dkey 0x4200 2 then s.deviceChecks (valInt x).toNat
   else if i = 0x5000 then s.dramChecks v b
   else if 0x6001 ≤ i ∧ i ≤ 0x6FFF then w.windowChecks v i b x
   else if key = dkey 0x7F00 1 then s.imageChecks (valBytes x)
   else [])

/-! ### The whole commit -/

/-- The first RP item with which the held writes would exceed 64 KiB (R46). -/
def State.heldOverflow (s : State) : Nat → List (Nat × Val) → Option Nat
  | _, [] => none
  | n, (key, x) :: r =>
    let rp := match rowOf (key / 256) (key % 256) with
      | some row => row.acc == .rp && s.val (key / 256) (key % 256) != x
      | none => false
    let m := if rp then n + pwSize x else n
    if rp && s.wouldOverflow m then some key else s.heldOverflow m r

/-- Bytes that RP items of accepted commits will add to the held writes as they apply (R46, R64). -/
def State.pendingHeld (s : State) : Nat :=
  ((s.oz.commits.flatMap (·.todo)).map (fun t =>
    match rowOf (t.key / 256) (t.key % 256) with
    | some row => if row.acc == .rp && s.val (t.key / 256) (t.key % 256) != t.val then pwSize t.val else 0
    | none => 0)).sum

/-- The first failure of a list of items: its key and status. -/
def State.failingItem (s : State) (items : List (Nat × Val)) : Option (Nat × Nat) :=
  let w := s.withPendingFor items
  let v := w.withItems items
  let keys := items.map (·.1)
  match items.findSome? (fun p => (firstFail (s.itemChecks w v keys p.1 p.2)).map (fun st => (p.1, st))) with
  | some f => some f
  | none => (s.heldOverflow s.pendingHeld items).map (fun key => (key, stPersist))

/-- The classes of a list of items, each with its item (Table 2.6a). -/
def State.todoOf (s : State) (selector : Nat) (items : List (Nat × Val)) : List Todo :=
  items.flatMap (fun p => (s.classesOf p.1 p.2).map (fun c =>
    { key := p.1, val := p.2, cls := c
      after := selector == 0 && (match c with
        | .frame k | .restart k => (s.frmAt k).fenced
        | _ => false) }))

/-- The courses that a list of items touches. -/
def touched (l : List Todo) : List Nat :=
  (l.filterMap (fun t => match t.cls with
    | .frame k | .restart k | .peg k | .request k => some k
    | .device => none)).eraseDups

/-- Frames from the frame in progress of course k to one with a counter, modulo 2³². -/
def State.framesAhead (s : State) (k n : Nat) : Nat := (n % 2 ^ 32 + 2 ^ 32 - s.nat (refIx k) 0x10 % 2 ^ 32) % 2 ^ 32

/-- A target is late for course k: its frame has started, or is the next one and the fence has passed (R66). -/
def State.lateFor (s : State) (selector frame time k : Nat) : Bool :=
  let f := s.frmAt k
  if selector = 1 then
    f.running && (s.framesAhead k frame == 0 ||
      (f.fenced && decide (s.framesAhead k frame ≤ s.framesAhead k (s.comingCounter k))))
  else
    f.running && (decide (time ≤ f.startTai) || (f.fenced && decide ((time : Int) ≤ s.comingStart k)))

/-- The status of a commit's target (R66). A frame number already passed lies more than 2³¹ − 1 frames ahead by modular comparison
and is late as well: the model answers 0x05, the range first (log 151, DESIGN CHOICE). -/
def State.targetFail (s : State) (selector frame time : Nat) (l : List Todo) : Option (Nat × Nat) :=
  let ks := touched l
  if selector = 1 then
    if ks.any (fun k => decide (2 ^ 31 ≤ s.framesAhead k frame)) then some (dkey 0x1400 2, stRange)
    else if ks.any (s.lateFor 1 frame time) then some (dkey 0x1400 2, stRejected)
    else none
  else if selector = 2 then
    if s.clk.tai + 86400 * tS < time then some (dkey 0x1400 3, stRange)
    else if ks.any (s.lateFor 2 frame time) then some (dkey 0x1400 3, stRejected)
    else none
  else none

/-- What a check has found is shown: the maps of the courses concerned (2300:03, :04), meshes (2600:04) and tables (:1A). -/
def State.showChecked (s v : State) (items : List (Nat × Val)) : State :=
  let ofMaps : Nat → Option Nat := fun key =>
    let i := key / 256
    let b := key % 256
    if 0x2300 ≤ i ∧ i < 0x2400 then some ((i - 0x2300) / 8)
    else if 0x2200 ≤ i ∧ i < 0x2220 ∧ ((0x0A ≤ b ∧ b ≤ 0x0D) ∨ (0x0F ≤ b ∧ b ≤ 0x12) ∨ b = 5 ∨ b = 6 ∨
        (b = 2 ∧ 3 ≤ v.creq (i - 0x2200) ∧ v.creq (i - 0x2200) ≤ 4)) then some (i - 0x2200)
    else if 0x1220 ≤ i ∧ i < 0x1240 ∧ (b = 1 ∨ b = 3 ∨ b = 4 ∨ b = 0x0B ∨ b = 0x0C) then some (i - 0x1220)
    else if 0x2000 ≤ i ∧ i < 0x2100 ∧ (b = 5 ∨ b = 7) then v.courseOfLane (i - 0x2000)
    else if 0x2100 ≤ i ∧ i < 0x2110 ∧ (b = 5 ∨ b = 7) then v.courseOfLane (256 + (i - 0x2100))
    else if switchInKey key then
      (if v.nat i 1 = 0xFFFF then (s.stringOn (256 + (i - 0x2100))).bind v.courseOfString else v.courseOfString (v.nat i 1))
    else none
  let ks := (items.filterMap (fun p => ofMaps p.1)).eraseDups
  let one (s : State) (k : Nat) (d : Bool) : State :=
    let ix := mapIx k (v.mapNo k d)
    let r := (v.selectedCheck k d (v.creq k == 3 || v.creq k == 4)).getD (0, 0)
    let s1 := s.putN ix 4 (r.1 * 2 ^ 24 + r.2)
    match v.mapOf k d with
    | some m => s1.putF ix 3 (v.peakRate k m)
    | none => s1
  let s1 := s.each ks (fun s k => one (one s k true) k false)
  items.foldl (fun s p =>
    let i := p.1 / 256
    if 0x2300 ≤ i ∧ i < 0x2400 then
      match formatCheck (valBytes p.2) with
      | some r => s.putN i 4 (r.1 * 2 ^ 24 + r.2)
      | none =>
        let k := (i - 0x2300) / 8
        if i = mapIx k (v.mapNo k true) ∨ i = mapIx k (v.mapNo k false) then s else s.putN i 4 0
    else if 0x2600 ≤ i ∧ i < 0x2680 then s.putN i 4 (v.meshCheck (valBytes p.2) * 2 ^ 24)
    else if ((0x2000 ≤ i ∧ i < 0x2100) ∨ (0x27F0 ≤ i ∧ i < 0x2800)) ∧ p.1 % 256 = 0x11 then
      s.putN i 0x1A (tableCheck (valBytes p.2))
    else s) s1

/-- The result of checking a commit: the key and status of its first failure, and the state with what the checks show. -/
def State.checkCommit (s : State) (selector frame time : Nat) (items : List (Nat × Val)) : State × Option (Nat × Nat) :=
  let v := (s.withPendingFor items).withItems items
  (s.showChecked v items,
    match s.targetFail selector frame time (s.todoOf selector items) with
    | some f => some f
    | none => s.failingItem items)

/-- A commit is accepted: its items wait for their points, and those that apply at once do (R64, R65). -/
def State.accept (s : State) (m : Nat) (policy : Bool) (selector frame time : Nat) (items : List (Nat × Val)) : State :=
  let id := s.oz.nextId
  let p : Pending := { id := id, master := m, policy := policy, selector := selector, frame := frame, time := time
                       todo := s.todoOf selector items, superseded := false }
  let s1 : State := { s with oz := { s.oz with commits := s.oz.commits ++ [p], nextId := id + 1 } }
  s1.applyPoint (fun q t => q.id == id && s.atOnce selector t.cls)

/-- The limits of R68: four pending commits of a master, 256 of the device. -/
def State.commitsFull (s : State) (m : Nat) : Bool :=
  decide (4 ≤ (s.oz.commits.filter (fun p => p.master == m && !p.policy)).length) || decide (256 ≤ s.oz.commits.length)

/-- A commit has failed with a status: a refusal of R46 is counted and shown by the store. -/
def State.heldRefused (s : State) (st : Nat) : State :=
  if st = stPersist then { s with store := storeRefuse s.store } else s

/-- A WRITE to an RW or RP entry: a commit of one item with the natural selector, within the limits of R68 (R43, R45, R46). -/
def State.writeOne (s : State) (m key : Nat) (x : Val) : State × Nat :=
  if s.commitsFull m then (s, stBusy)
  else
    let r := s.checkCommit 0 0 0 [(key, x)]
    match r.2 with
    | some (_, st) => (r.1.heldRefused st, st)
    | none =>
      let s2 := r.1.accept m false 0 0 0 [(key, x)]
      (s2, if heldBytes r.1.store < heldBytes s2.store then stPersist else stOk)

/-- Pending items of an entry that a new value overtakes are dropped (R67). -/
def State.overtake (s : State) (key : Nat) : State :=
  let drop (p : Pending) : Pending :=
    let left := p.todo.filter (fun t => t.key != key)
    { p with todo := left, superseded := p.superseded || decide (left.length < p.todo.length) }
  ({ s with oz := { s.oz with commits := s.oz.commits.map drop } } : State).commitsDone

/-- A WRITE of 0 to an RW entry that is cleared so, 3000 + s:22 or 7100:0A: a commit of one item with the natural selector,
within the limits of R68, which applies at once (R43, R47, R67, R352). -/
def State.clearWrite (s : State) (m key v : Nat) (f : State → State) : State × Nat :=
  if v ≠ 0 then (s, stRange)
  else if s.commitsFull m then (s, stBusy)
  else (f (s.overtake key), stOk)

/-- The result word of 1400:05: tag, status and state (R69). -/
def resultWord (tag status state : Nat) : Nat := tag * 2 ^ 24 + status * 2 ^ 16 + state

/-- A commit of master m is rejected: 1400:05 shows its status and state 3, 1400:06 the first failing item where there is one; the
stage set is kept (R64, R69). -/
def State.commitRejected (s : State) (m tag st : Nat) (key : Option Nat) : State × Nat :=
  let y := s.masterAt m
  (s.masterPut m { y with
    lastCommit := resultWord tag st 3, lastId := none
    firstFail := match key with
      | some k => k / 256 * 2 ^ 16 + k % 256 * 2 ^ 8
      | none => y.firstFail }, st)

/-- Master m's stage set becomes empty on acceptance, and its commit is pending (R64, R69). -/
def State.commitTaken (s : State) (m tag : Nat) : State :=
  s.masterPut m { s.masterAt m with stage := [], lastCommit := resultWord tag 0 1, lastId := some s.oz.nextId }

/-- The value of a target, 1400:02 or :03, as a commit of master m takes it: the staged one, or the live one. -/
def State.commitTarget (s : State) (m b : Nat) : Nat :=
  match (s.masterAt m).stage.find? (fun t => t.key == dkey 0x1400 b) with
  | some t => (valInt t.val).toNat
  | none => s.nat 0x1400 b

/-- The instant that a time target names, in 2⁻¹⁶ ns. -/
def commitTime (v : Nat) : Nat := nsOfTime80 v * tNs

/-- A commit of a master's stage set (R63, R64, R68, R69). -/
def State.commitStage (s : State) (m word : Nat) : State × Nat :=
  let tag := bits word 31 24
  let sel := bits word 7 4
  let stage := (s.masterAt m).stage
  let items := stage.map (fun t => (t.key, t.val))
  let frame := s.commitTarget m 2
  let time := commitTime (s.commitTarget m 3)
  if s.commitsFull m then s.commitRejected m tag stBusy none
  else if 2 < sel then s.commitRejected m tag stRange none
  else
    match stage.find? (fun t => !t.finished) with
    | some t => s.commitRejected m tag stLength (some t.key)
    | none =>
      let r := s.checkCommit sel frame time items
      match r.2 with
      | some (key, st) => (r.1.heldRefused st).commitRejected m tag st (some key)
      | none => ((r.1.commitTaken m tag).accept m false sel frame time items, stOk)

/-- An abort of a master's stage set (R63). -/
def State.abortStage (s : State) (m word : Nat) : State × Nat :=
  let x := s.masterAt m
  (s.masterPut m { x with stage := [], lastCommit := resultWord (bits word 31 24) 0 4, lastId := none }, stOk)

/-- A write of 1400:01 (R63). -/
def State.commitWord (s : State) (m word : Nat) : State × Nat :=
  if bit word 0 then s.abortStage m word else s.commitStage m word

/-- COMMIT: a write of 1400:01 with abort 0. -/
def execCommit (m : MasterId) (word : BitVec 32) (s : State) : Host.Outcome State Fault Refusal :=
  .next (s.hostWrite (writeItem 0x04 0x1400 1 4) (fun s => s.commitWord m.val word.toNat))

/-- ABORT: a write of 1400:01 with abort 1. -/
def execAbort (m : MasterId) (word : BitVec 32) (s : State) : Host.Outcome State Fault Refusal :=
  .next (s.hostWrite (writeItem 0x04 0x1400 1 4) (fun s => s.abortStage m.val word.toNat))

end Sys2Proof.Machine
end

