-- ==== Sys2Proof/Machine/Consort.lean ====
section
/-! DEFINITION. Consorts: beacons, peers and phase-lock states (R106 to R110, R115, R116). -/

namespace Sys2Proof.Machine

open Sys2Proof

/-- The courses of consort `id` on this device. -/
def State.members (s : State) (id : Nat) : List Nat :=
  if id = 0 then [] else allCourses.filter (fun k => s.nat (refIx k) 0x0A == id)

/-- The present peers of consort `id`. -/
def State.peersOf (s : State) (id : Nat) : List Peer := s.beacon.peers.filter (fun p => p.present && p.consort == id)

/-- The smaller and larger of binary32 values, by value; 0 of none. -/
def f32Min (l : List Nat) : Nat :=
  match l with
  | [] => 0
  | a :: r => r.foldl (fun m x => if ratOfF32 x < ratOfF32 m then x else m) a
def f32Max (l : List Nat) : Nat :=
  match l with
  | [] => 0
  | a :: r => r.foldl (fun m x => if ratOfF32 m < ratOfF32 x then x else m) a

/-- Resonance estimates of this device's members (3150 + k:02). -/
def State.memberResonances (s : State) (id : Nat) : List Nat := (s.members id).map (fun k => s.nat (0x3150 + k) 2)

/-- A beacon's 44 bytes before its CRC (Table 3.5). The rate and bows fields are those of the lowest-numbered member. -/
def State.beaconBody (s : State) (id : Nat) : List Byte :=
  let ms := s.members id
  let k := ms.headD 0
  let flags : Nat := (if s.servoState = svLocked then 1 else 0) +
    (if ms.any (fun k => s.nat (refIx k) 0x13 == 4) then 2 else 0)
  [0x4F, 0x43, 0x01] ++ leBytes 1 flags ++ leBytes 4 (s.nat 0x1240 1) ++ leBytes 2 id ++ leBytes 1 ms.length ++ [0x00] ++
    leBytes 4 (s.nat (refIx k) 3) ++ leBytes 4 (s.nat (refIx k) 4) ++
    leBytes 4 (if s.nat (refIx k) 0x0B = 1 then s.nat (refIx k) 0x0C else 0) ++
    leBytes 4 (f32Min (s.memberResonances id)) ++ leBytes 4 (f32Max (s.memberResonances id)) ++
    leBytes 8 Config.serial ++ leBytes 4 (s.beacon.seq + 1)

/-- BEACON_SEND: the beacon period expires for a consort id in use (R108, R109). -/
def execBeaconSend (id : Fin 65536) (s : State) : Host.Outcome State Fault Refusal :=
  .next (
    if (s.members id.val).isEmpty then s
    else
      let b := s.beaconBody id.val
      ({ s with beacon := { s.beacon with seq := (s.beacon.seq + 1) % 2 ^ 32 } } : State).send
        (.beacon (s.nat 0x1240 2) (s.nat 0x1240 3) (b ++ leBytes 4 (crc32c b))))

/-- The peer that a beacon describes (Table 3.5). -/
def peerOf (m : List Byte) : Peer :=
  { consort := leAt m 8 2, node := leAt m 4 4 % 2 ^ 18, serial := leAt m 32 8, num := leAt m 12 4, den := leAt m 16 4,
    bows := leAt m 20 4, low := leAt m 24 4, high := leAt m 28 4, present := true }

/-- A beacon's magic, version and CRC are right (R109). -/
def beaconOk (m : List Byte) : Bool :=
  m.length == 48 && slice 0 3 m == [0x4F, 0x43, 0x01] && leAt m 44 4 == crc32c (m.take 44)

/-- BEACON_RECEIVE: a wrong beacon is counted; a right one updates its peer, and one with this device's node number and
another serial sets 1240:05 (R107 to R110). -/
def execBeaconReceive (msg : List Byte) (s : State) : Host.Outcome State Fault Refusal :=
  .next (
    if beaconOk msg then
      let p := peerOf msg
      let s1 := s.bump 0x1240 6
      if p.serial = Config.serial then s1
      else
        let s2 := if p.node = s.nat 0x1240 1 then s1.putN 0x1240 5 1 else s1
        let l := s2.beacon.peers.filter (fun q => !(q.consort == p.consort && q.node == p.node && q.serial == p.serial))
        { s2 with beacon := { s2.beacon with peers := l ++ [p] } }
    else s.bump 0x1240 7)

/-- CONSORT_PEER_ABSENT: a peer's beacon has not arrived for 3 beacon periods (R108). -/
def execConsortPeerAbsent (id : Fin 65536) (node : Fin 262144) (s : State) : Host.Outcome State Fault Refusal :=
  .next { s with beacon := { s.beacon with peers := s.beacon.peers.map (fun p =>
    if p.consort = id.val ∧ p.node = node.val then { p with present := false } else p) } }

/-- DUPLICATE_NODE_CLEAR: 3 beacon periods without a duplicate (1240:05). -/
def execDuplicateNodeClear (s : State) : Host.Outcome State Fault Refusal := .next (s.putN 0x1240 5 0)

/-- Consort status, 1220 + k:16: 0 frame rate and 1 bows per frame against present peers (R110), 2 resonance outside the
admission band while phase-locked (R116), 3 non-PTP reference with members elsewhere (R106). It shows what holds now
(log 18). DESIGN CHOICE (log 154): a peer that sends bows per frame 0 is frame-lock only, and raises no bit 1 in a member whose
own value is not 0. -/
def State.consortStatus (s : State) (k : Nat) : Nat :=
  let id := s.nat (refIx k) 0x0A
  let ps := if id = 0 then [] else s.peersOf id
  let b := s.nat (refIx k) 0x0C
  let pl := s.nat (refIx k) 0x13
  let fc := s.consortHz k
  (if ps.any (fun p => p.num * s.nat (refIx k) 4 != s.nat (refIx k) 3 * p.den) then 1 else 0) +
  (if ps.any (fun p => p.bows != 0 && b != 0 && p.bows != b) then 2 else 0) +
  (if (pl = 4 ∨ pl = 5 ∨ pl = 3) ∧
      s.fix (refIx k) 0x0D / 100 * fc < absR (s.f32 (0x3150 + k) 2 - fc) then 4 else 0) +
  (if s.nat (refIx k) 1 ≠ 0 ∧ !ps.isEmpty then 8 else 0)

/-- PHASE_LOCKED: a pulling course whose phase error has stayed within 50 ns on 64 consecutive bows is phase-locked (R115). -/
def execPhaseLocked (k : CourseId) (s : State) : Host.Outcome State Fault Refusal :=
  .next (
    if (s.nat (refIx k.val) 0x13 = 3 ∨ s.nat (refIx k.val) 0x13 = 5) ∧ 64 ≤ (s.mirAt k.val).nearBows then
      s.putN (refIx k.val) 0x13 4
    else s)

/-- PHASE_LOCK_LOST: a phase-locked course whose phase error has exceeded 500 ns on 16 consecutive bows pulls again (R116). -/
def execPhaseLockLost (k : CourseId) (s : State) : Host.Outcome State Fault Refusal :=
  .next (if s.nat (refIx k.val) 0x13 = 4 ∧ 16 ≤ (s.mirAt k.val).farBows then s.putN (refIx k.val) 0x13 5 else s)

end Sys2Proof.Machine
end

