-- ==== Sys2Proof/Machine/Spares.lean ====
section
/-! DEFINITION. The spare policies (R502 to R506): units offered, and the switch-in that a policy commits. -/

namespace Sys2Proof.Machine

open Sys2Proof

/-- Units of each kind; a unit is a lane, a slice, a physical loop slot, a management pair, a capture input or a bank. -/
def spareUnits (k : SpareKind) : Nat :=
  match k with
  | .lane => 272
  | .slice => 36
  | .loopSlot => 96
  | .pair => 2
  | .input => 34
  | .bank => 258

/-- The kinds in the order of Table 14.8; the policy of a kind is 7000:(rank + 1) (R502). -/
def kindRank (k : SpareKind) : Nat :=
  match k with
  | .lane => 0
  | .slice => 1
  | .loopSlot => 2
  | .pair => 3
  | .input => 4
  | .bank => 5

/-- SPARE_OFFER: a unit meets a criterion of Table 14.8 and is offered to its policy (R503). -/
def execSpareOffer (kind : SpareKind) (unit : Nat) (worn : Bool) (s : State) : Host.Outcome State Fault Refusal :=
  .next (if unit < spareUnits kind then s.offer kind unit worn else s)

/-- The policy of its kind replaces the unit: 1 failed units, 2 failed and worn ones (R502). -/
def State.policyServes (s : State) (o : Offer) : Bool :=
  decide ((if o.worn then 2 else 1) ≤ s.nat 0x7000 (kindRank o.kind + 1))

/-- An offer waits before another: failed before worn, then by kind (log 54), the lowest gain among emitters, the lowest unit
number (R504). -/
def State.offerBefore (s : State) (a b : Offer) : Bool :=
  if a.worn != b.worn then !a.worn
  else if kindRank a.kind ≠ kindRank b.kind then decide (kindRank a.kind < kindRank b.kind)
  else
    let ga := s.f32 (emitIx a.unit) 0x14
    let gb := s.f32 (emitIx b.unit) 0x14
    if a.kind = .lane ∧ ga ≠ gb then decide (ga < gb) else decide (a.unit < b.unit)

/-- The first of a list of offers. -/
def State.firstOffer (s : State) (l : List Offer) : Option Offer :=
  l.foldl (fun m o => match m with
    | none => some o
    | some b => if s.offerBefore o b then some o else m) none

/-- The logical slot that a physical slot runs. -/
def State.slotOn (s : State) (p : Nat) : Option Nat :=
  (List.range 88).find? (fun i => s.physOf i == p && !(s.slotsAt i).dead)

/-- The course that uses a unit: a lane by the string that it carries, a slice or an input by its course. -/
def State.offerCourse (s : State) (o : Offer) : Option Nat :=
  match o.kind with
  | .lane => s.courseOfLane o.unit
  | .slice => s.sliceCourse o.unit
  | .loopSlot => (s.slotOn o.unit).bind (fun i => if i < 64 then some (i / 2) else none)
  | .input => allCourses.find? (fun k => s.nat (capIx k) 1 == o.unit)
  | .pair | .bank => none

/-- A policy's commit is pending for course k (R504). -/
def State.policyPending (s : State) (k : Nat) : Bool :=
  s.oz.commits.any (fun p => p.policy && (touched p.todo).contains k)

/-- The candidates for a unit, lowest first: the spare's number and the item that switches it in (R504, R505). -/
def State.candidates (s : State) (o : Offer) : List (Nat × Nat × Val) :=
  match o.kind with
  | .lane =>
    match s.stringOn o.unit, s.courseOfLane o.unit with
    | some str, some k =>
      let rp := s.rowPrimary k str
      ((List.range 16).filter (fun i =>
        s.nat (0x2100 + i) 2 == k && (s.stringOn (256 + i)).isNone && (s.lanesAt (256 + i)).state == 2 &&
          s.nat (0x7040 + i) 1 == rp.2 && bit (s.nat (0x7040 + i) 2) rp.1)).map
        (fun i => (256 + i, dkey (0x2100 + i) 1, .num str))
    | _, _ => []
  | .slice =>
    match s.sliceCourse o.unit with
    | some k =>
      ((List.range 36).filter (fun x => !(s.sliceFailed x) && (s.sliceCourse x).isNone)).map
        (fun x => (x, dkey (0x2680 + k) 0x16, .num x))
    | none => []
  | .input =>
    match s.offerCourse o with
    | some k => ([32, 33].filter (fun x => bit (s.nat 0x7000 (0x0D + (x - 32))) k)).map (fun x => (x, dkey (capIx k) 1, .num x))
    | none => []
  | _ => []

/-- The unit is in use: a unit that carries nothing needs no spare (log 54). -/
def State.offerUsed (s : State) (o : Offer) : Bool :=
  match o.kind with
  | .loopSlot => (s.slotOn o.unit).isSome
  | _ => (s.offerCourse o).isSome

/-- Kind of Table 1.11 of a switch-in, S1 to S5 and S7. -/
def kindCode (k : SpareKind) : Nat :=
  match k with
  | .bank => 7
  | k => kindRank k + 1

/-- Event of a policy's decision (R505). -/
def evPolicy : Nat := 40

/-- A policy's commit of a candidate was refused: 7000:09 shows it, and a spare lane counts it. -/
def State.policyRefused (s : State) (o : Offer) (spare st : Nat) : State :=
  let s1 := (s.logEvent 15 evPolicy o.unit).putN 0x7000 9
    (kindCode o.kind * 2 ^ 56 + st * 2 ^ 48 + o.unit % 65536 * 2 ^ 32 + spare % 65536 * 2 ^ 16)
  if o.kind = .lane then s1.bump (0x7040 + (spare - 256)) 3 else s1

/-- An offer is no longer waiting. -/
def State.dropOffer (s : State) (o : Offer) : State :=
  { s with svc := { s.svc with offers := s.svc.offers.filter (fun x => x != o) } }

/-- No candidate is left: 7000:08 counts, and the unit waits for a candidate's entries to change (R505). -/
def State.offerLost (s : State) (o : Offer) : State :=
  let s1 := (s.dropOffer o).bump 0x7000 8
  { s1 with svc := { s1.svc with refused := s1.svc.refused ++ [o] } }

/-- The policy has switched in a candidate for an offer: it keeps watch over a spare lane's (QE12 of R512). -/
def State.policyPlaced (s : State) (o : Offer) (spare : Nat) (v : Val) : State :=
  if o.kind = .lane then
    { s with svc := { s.svc with
      placed := s.svc.placed.filter (fun p => p.1 != spare - 256) ++ [(spare - 256, (valInt v).toNat, o)] } }
  else s

/-- The candidates tried in order: the first whose commit passes every check is committed (R504, R505). -/
def State.tryCandidates (s : State) (o : Offer) : List (Nat × Nat × Val) → State
  | [] => s.offerLost o
  | (spare, key, v) :: r =>
    match (s.checkCommit 0 0 0 [(key, v)]).2 with
    | some (_, st) => ((s.checkCommit 0 0 0 [(key, v)]).1.policyRefused o spare st).tryCandidates o r
    | none =>
      ((((s.checkCommit 0 0 0 [(key, v)]).1.dropOffer o).policyPlaced o spare v).logEvent 15 evPolicy o.unit).accept 0 true 0 0 0
        [(key, v)]

/-- The policy acts on an offer. -/
def State.policyAct (s : State) (o : Offer) : State :=
  if s.offerUsed o = false then s.dropOffer o
  else
    match o.kind with
    | .loopSlot =>
      match s.slotOn o.unit, s.openSpares with
      | some i, q :: _ =>
        let s1 := (s.dropOffer o).logEvent 15 evPolicy o.unit
        s1.slotsPut i { s1.slotsAt i with moveTo := some q }
      | _, _ => s.offerLost o
    | .pair | .bank => s.dropOffer o
    | _ => s.tryCandidates o (s.candidates o)

/-- A switch-in of the policy that still waits by R543, for a spare lane that has FAILED (QE12 of R512). -/
def State.policyStuck (s : State) : Option (Nat × Nat × Offer) :=
  s.svc.placed.find? (fun p => (s.sparesAt p.1).want == some p.2.1 && s.stringOn (256 + p.1) != some p.2.1 &&
    (s.lanesAt (256 + p.1)).state == 5 && (s.spareItems p.1).isEmpty)

/-- The policy withdraws it by a commit of 0xFFFF, and offers the unit again, for the next candidate (QE12 of R512). -/
def State.policyWithdraw (s : State) (p : Nat × Nat × Offer) : State :=
  let item := (dkey (0x2100 + p.1) 1, Val.num 0xFFFF)
  match s.checkCommit 0 0 0 [item] with
  | (s1, none) => (({ s1 with svc := { s1.svc with
      placed := s1.svc.placed.filter (fun q => q.1 != p.1) } } : State).offer p.2.2.kind p.2.2.unit p.2.2.worn).accept 0 true 0 0 0 [item]
  | (s1, some _) => s1

/-- POLICY_SWITCH_IN: a switch-in that can no longer be made is withdrawn; else the first offer that its policy serves, and whose course has no policy switch-in pending, is acted on
(R502 to R505). -/
def execPolicySwitchIn (s : State) : Host.Outcome State Fault Refusal :=
  let ready := s.svc.offers.filter (fun o => s.policyServes o && (match s.offerCourse o with
    | some k => !(s.policyPending k)
    | none => true))
  .next (
    if 256 ≤ s.oz.commits.length then s
    else
      match s.policyStuck, s.firstOffer ready with
      | some p, _ => s.policyWithdraw p
      | none, some o => s.policyAct o
      | none, none => s)

end Sys2Proof.Machine
end

