-- ==== Sys2Proof/Machine/Views.lean ====
section
/-! DEFINITION. What a read of an entry returns (R42): its stored live value, or for an entry whose home is elsewhere in the
state a value computed at the read. One function holds each chapter's computed entries. -/

namespace Sys2Proof.Machine

open Sys2Proof

/-- A number, a binary32 value and bytes as a value. -/
def vN (n : Nat) : Val := .num n
def vF (q : Rat) : Val := .num (f32OfRat q)

/-- One field of each lane, in bytes. -/
def State.lanesBlob (s : State) (n : Nat) (f : LaneSt → Nat) : Val :=
  .bytes (allLanes.flatMap (fun l => leBytes n (f (s.lanesAt l))))

/-! ### Dictionary, time and references -/

/-- Masters in use (1100:05): UDP masters assigned, fixed ones from their first request. -/
def State.mastersInUse (s : State) : Nat :=
  (s.oz.masters.filter (fun p => if 65 ≤ p.1 then p.2.addr.isSome else p.2.seen)).length

/-- Subscriptions in use (1100:14). -/
def State.subsInUse (s : State) : Nat := (s.oz.masters.map (fun p => p.2.subs.length)).sum

def State.viewComm (s : State) (m i b : Nat) : Option Val :=
  if i = 0x1000 then
    (match b with
     | 0x04 => some (.bytes Config.stepping)
     | 0x05 => some (vN (Config.serial % 2 ^ 64))
     | 0x09 => some (vN (Config.macA % 2 ^ 48))
     | 0x0A => some (vN (Config.macB % 2 ^ 48))
     | _ => none)
  else if i = 0x1100 then
    (match b with
     | 0x05 => some (vN s.mastersInUse)
     | 0x14 => some (vN s.subsInUse)
     | _ => none)
  else if i = 0x1400 then
    (match b with
     | 0x04 => some (vN s.oz.commits.length)
     | 0x05 => some (vN (s.masterAt m).lastCommit)
     | 0x06 => some (vN (s.masterAt m).firstFail)
     | _ => none)
  else none

/-- IEEE 1588 port state: 3 disabled, 4 listening, 7 passive, 8 uncalibrated, 9 slave (log 19). -/
def State.portState (s : State) (p : Nat) : Nat :=
  if bit (s.nat 0x1201 1) p = false then 3
  else if s.nat 0x1201 0x0B = p then (if s.servoState = svLocked then 9 else 8)
  else if s.servo.foreign.any (fun f => f.port == p) then 7 else 4

/-- Reference state of course k (Table 3.8). -/
def State.refState (s : State) (k : Nat) : Nat :=
  let ch := s.channelOf k
  match s.nat (refIx k) 1 with
  | 0 => if s.servoState ≤ 1 then 1 else s.servoState
  | 1 => s.nat (0x1210 + ch) 8
  | 2 => s.nat (0x1218 + ch) 0x10
  | _ => if (s.frmAt k).cfHold then 3 else 2

/-- Resonances of the present members of the consort of course k, as binary32. -/
def State.resonancesSeen (s : State) (k : Nat) : List Nat × List Nat :=
  let id := s.nat (refIx k) 0x0A
  let own := s.memberResonances id
  ((s.peersOf id).map (·.low) ++ own, (s.peersOf id).map (·.high) ++ own)

def State.viewTime (s : State) (i b : Nat) : Option Val :=
  if i = 0x1200 then
    (match b with
     | 0x01 => some (vN (time80 s.taiNs))
     | 0x02 => some (vN (s.clk.tai % tNs))
     | 0x0C => some (vN s.holdElapsed)
     | _ => none)
  else if i = 0x1201 ∧ b = 0x0D then some (vN (s.portState 1 * 256 + s.portState 0))
  else if 0x1218 ≤ i ∧ i < 0x1220 then
    let j := i - 0x1218
    (match b with
     | 0x0E =>
       let cpr := s.nat i 2
       some (vN (if cpr = 0 then trunc 32 (s.shaftPos j) else (s.shaftPos j % (cpr : Int)).toNat))
     | 0x0F => some (.num (s.shaftRate j))
     | _ => none)
  else if 0x1220 ≤ i ∧ i < 0x1240 then
    let k := i - 0x1220
    let id := s.nat i 0x0A
    (match b with
     | 0x12 => some (vN (s.refState k))
     | 0x15 => some (vN (if id = 0 then 0 else (s.peersOf id).length + 1))
     | 0x16 => some (vN (s.consortStatus k))
     | 0x17 => some (vN (if id = 0 then 0 else f32Min (s.resonancesSeen k).1))
     | 0x18 => some (vN (if id = 0 then 0 else f32Max (s.resonancesSeen k).2))
     | _ => none)
  else none

/-! ### Courses, canvases, warp and colour -/

/-- The map is selected for the frame in progress: 1 forward, 2 reverse (R139). -/
def State.mapInUse (s : State) (k m : Nat) : Nat :=
  if (s.frmAt k).running = false then 0
  else if m = s.nat (crs k) 0x0F then 1
  else if m = s.nat (crs k) 0x10 then 2 else 0

/-- The greater V7 value of the maps selected for course k, in M frets/s. -/
def State.peakSelected (s : State) (k : Nat) : Rat :=
  let one (d : Bool) : Rat := match s.mapOf k d with
    | some m => s.peakRate k m
    | none => 0
  if one true < one false then one false else one true

def State.viewCourse (s : State) (i b : Nat) : Option Val :=
  if 0x2000 ≤ i ∧ i < 0x2100 then
    let str := i - 0x2000
    let k := s.courseOfString str
    (match b with
     | 0x01 => some (vN (k.getD 0xFF))
     | 0x02 => some (vN (match k with
        | some k => (s.rowPrimary k str).1
        | none => 0))
     | 0x03 => some (vN (match k with
        | some k => (s.rowPrimary k str).2
        | none => 0))
     | 0x16 => some (vN (s.emitterState str))
     | _ => none)
  else if 0x27F0 ≤ i ∧ i < 0x2800 ∧ b = 0x16 then some (vN (s.emitterState (256 + (i - 0x27F0))))
  else if 0x2200 ≤ i ∧ i < 0x2220 ∧ b = 0x1F then some (vF (s.peakSelected (i - 0x2200)))
  else if 0x2300 ≤ i ∧ i < 0x2400 then
    (match b with
     | 0x02 => some (vN (match fretMapOf (s.blob i 1) with
        | some m => m.frets.length
        | none => 0))
     | 0x05 => some (vN (s.mapInUse ((i - 0x2300) / 8) ((i - 0x2300) % 8)))
     | _ => none)
  else none

/-- Buffer states of canvas c, 4 bits each (Table 5.13). -/
def State.bufStates (s : State) (c : Nat) : Nat :=
  s.bufState c 0 + 16 * s.bufState c 1 + 256 * s.bufState c 2 + 4096 * s.bufState c 3

/-- Slices that serve a course, and spare ones. -/
def State.slicesAssigned (s : State) : Nat := maskOf ((List.range 36).filter (fun x => (s.sliceCourse x).isSome))
def State.slicesSpare (s : State) : Nat :=
  ((List.range 36).filter (fun x => !s.sliceFailed x && (s.sliceCourse x).isNone)).length

def State.viewContent (s : State) (i b : Nat) : Option Val :=
  if 0x2400 ≤ i ∧ i < 0x2500 then
    (match b with
     | 0x0A => some (vN (s.bufStates (i - 0x2400)))
     | 0x0D => some (vN (maskOf (s.readers (i - 0x2400))))
     | _ => none)
  else if 0x2540 ≤ i ∧ i < 0x2580 ∧ b = 4 then some (vN (s.hsState (i - 0x2540)))
  else if i = 0x25F0 ∧ b = 3 then some (vN (s.reservation 0))
  else if i = 0x25F0 ∧ b = 4 then some (vN (s.reservation 1))
  else if 0x2600 ≤ i ∧ i < 0x2680 ∧ b = 2 then
    some (vN (16 * s.copyState (i - 0x2600) 1 + s.copyState (i - 0x2600) 0))
  else if i = 0x26F0 then
    (match b with
     | 0x01 => some (vN (allCourses.map (fun k => s.nat (0x2680 + k) 0x0D)).sum)
     | 0x06 => some (vN s.slicesAssigned)
     | 0x07 => some (vN s.slicesSpare)
     | _ => none)
  else if 0x2700 ≤ i ∧ i < 0x2720 ∧ b = 0x17 then some (vN (s.constancyStatus (i - 0x2700)))
  else if i = 0x27E0 ∧ b = 1 then
    some (.bytes ((List.range 4096).flatMap (fun j => leBytes 2 (ditherEntry j))))
  else none

/-! ### Capture, loop engine, capo -/

/-- Spare inputs neither bound nor failed (28F0:05). -/
def State.inputsSpare (s : State) : Nat := ([32, 33].filter (fun x => s.inputState x == 0)).length

def State.viewCapture (s : State) (i b : Nat) : Option Val :=
  if 0x2800 ≤ i ∧ i < 0x2820 ∧ b = 0x19 then some (vN (s.capStates (i - 0x2800)))
  else if 0x2820 ≤ i ∧ i < 0x2842 then
    (match b with
     | 0x01 => some (vN ((s.inputCourse (i - 0x2820)).getD 0xFF))
     | 0x02 => some (vN (s.inputState (i - 0x2820)))
     | _ => none)
  else if i = 0x28F0 ∧ b = 5 then some (vN s.inputsSpare)
  else none

/-- Capo state of course k (3810 + k:01): tripped, permitting, satisfied, unsatisfied. -/
def State.capoCourseState (s : State) (k : Nat) : Nat :=
  if (s.capoCAt k).trips ≠ 0 then 3 else if s.permitted k then 2 else if s.satisfied k then 1 else 0

def State.viewControl (s : State) (i b : Nat) : Option Val :=
  if i = 0x3100 then
    (match b with
     | 0x03 => some (vN ((s.clk.up - s.clk.began) / (625 * tNs)))
     | 0x05 => some (.bytes (leBytes 12 (maskOf s.pool.failed)))
     | 0x07 => some (vN ((List.range 96).foldl (fun n x => n ||| s.nat (slotIx x) 0x22) 0))
     | _ => none)
  else if 0x3110 ≤ i ∧ i < 0x3150 ∧ i % 2 = 0 ∧ b = 7 then some (.num (s.dacNow (i - 0x3110)))
  else if 0x3150 ≤ i ∧ i < 0x3170 ∧ b = 1 then
    some (vF ((s.mirAt (i - 0x3150)).hzAt (convIndex s.clk.up)))
  else if i = 0x3800 then
    (match b with
     | 0x05 => some (vN (if s.capo.interlock then 1 else 0))
     | 0x08 => some (vN (courseMask (fun k => (s.capoCAt k).trips != 0)))
     | 0x09 => some (vN s.capo.emitOk)
     | 0x0A => some (vN (courseMask (fun k => s.nat (0x3150 + k) 0x1C == 1)))
     | _ => none)
  else if 0x3810 ≤ i ∧ i < 0x3830 then
    (match b with
     | 0x01 => some (vN (s.capoCourseState (i - 0x3810)))
     | 0x02 => some (vN (s.capoCAt (i - 0x3810)).trips)
     | 0x0D | 0x0E => some ((s.countedNow (i - 0x3810)).val i b)
     | _ => none)
  else none

/-! ### Tuning, thermal, power -/

/-- The phase of the tuning run of course k; a run through its phases and not yet ended is still in the last (R415). -/
def State.runPhase (s : State) (k : Nat) : Nat := if (s.runsAt k).active then min 5 (s.runsAt k).phase else 0

/-- Time throttled in ms, with the throttling in progress (4100:09). -/
def State.throttledMs (s : State) : Nat :=
  (s.therm.throttled + (match s.therm.throttledSince with
    | some t => s.clk.up - t
    | none => 0)) / tMs

def State.viewThermal (s : State) (i b : Nat) : Option Val :=
  if i = 0x4000 then
    (match b with
     | 0x02 => some (vN (courseMask (fun k => (s.runsAt k).active)))
     | 0x03 => some (vN (courseMask (fun k => (s.runsAt k).pending || ((s.runsAt k).active && !s.runMay k))))
     | 0x09 => some (.bytes (allCourses.map (fun k => BitVec.ofNat 8 (s.runPhase k))))
     | _ => none)
  else if i = 0x40F0 ∧ b = 1 then some (.bytes (allPegs.flatMap (fun p => leBytes 2 (s.pegsAt p).code)))
  else if i = 0x40F0 ∧ b = 3 then some (.bytes s.senseDelays)
  else if i = 0x4100 ∧ b = 9 then some (vN s.throttledMs)
  else if i = 0x4200 then
    (match b with
     | 0x16 => some (vN (s.nat i b + (if s.nat i 4 = 1 then (s.clk.up - s.pwr.holdSince) / tUs else 0)))
     | _ => if b = 9 ∨ (0x0A ≤ b ∧ b ≤ 0x14) then some (vF (Config.monitor b s.clk.up)) else none)
  else none

/-! ### Memory and the persistent store -/

/-- KiB of the tuning area that its points take, each in a slot of its domain's largest size (R470, Table 12.4). -/
def State.tuningKiB (s : State) : Nat :=
  let size (d : Nat) : Nat := if d < 32 then 2640 else if d < 64 then 104 else 56
  ceilDiv (((List.range 98).map (fun d =>
    size d * ((List.range 8).filter (fun j => !(s.blob (0x4010 + d) (0x0A + j)).isEmpty)).length)).sum) 1024

def State.viewMemory (s : State) (i b : Nat) : Option Val :=
  if i = 0x5000 then
    (match b with
     | 0x1E => some (vN s.mem.poison.length)
     | 0x25 => some (vN (s.mem.listed.filter (fun r => r.2.2)).length)
     | 0x26 => some (vN (s.mem.listed.filter (fun r => !r.2.2)).length)
     | 0x29 => some (vN ((s.mem.panicTime + (match s.mem.panicSince with
        | some t => s.clk.up - t
        | none => 0)) / tUs))
     | _ => none)
  else if 0x5010 ≤ i ∧ i < 0x5030 then
    let x := s.chansAt (i - 0x5010)
    (match b with
     | 0x08 => some (vN (s.repairRoom (i - 0x5010)))
     | 0x09 => some (vN ((x.downTime + (match x.downSince with
        | some t => s.clk.up - t
        | none => 0)) / tMs))
     | 0x0A => some (vN (Config.bandwidth (i - 0x5010) s.clk.up % 2 ^ 32))
     | _ => none)
  else if i = 0x5100 then
    (match b with
     | 0x02 => some (vN (432 - s.store.remapped.length))
     | 0x03 => some (vN s.store.remapped.length)
     | 0x05 => some (vN s.store.writes)
     | 0x06 => some (vN (heldBytes s.store))
     | 0x07 => some (vN s.store.refusals)
     | 0x08 => some (vN s.store.cuts)
     | 0x0A => some (vN (s.slotState 0))
     | 0x0B => some (vN (s.slotState 1))
     | 0x0C => some (vN s.tuningKiB)
     | 0x0D => some (vN (Config.dictionaryImageKiB % 2049))
     | _ => none)
  else none

/-! ### Queues -/

/-- The stream that names a ring: content stream h as 0x100 + h, capture stream i as 0x200 + i, 0 none. -/
def State.ringUser (s : State) (q : Nat) : Nat :=
  match (List.range 64).find? (fun h => s.nat (hsIx h) 1 == q || s.nat (hsIx h) 2 == q) with
  | some h => 0x100 + h
  | none =>
    match (List.range 16).find? (fun i => s.nat (strIx i) 7 == q || s.nat (strIx i) 8 == q) with
    | some i => 0x200 + i
    | none => 0

/-- Queue state shown by a window (6001:02). -/
def State.windowState (s : State) (w : Nat) : Nat :=
  let q := s.nat w 1
  if q = 0xFFFFFFFF then 0
  else if isHostRing q = false then 5
  else if (s.ringAt q).allocated = false then 1
  else if (s.ringAt q).enabled then 3 else 2

def State.viewWindow (s : State) (w b : Nat) : Option Val :=
  match s.windowQueue w with
  | none =>
    let q := s.nat w 1
    let r := s.shownQueue q
    if b = 2 then some (vN (s.windowState w))
    else if q = 0xFFFFFFFF then none
    else
      (match b with
       | 0x05 => some (vN (queueCount q))
       | 0x0B => some (vN r.head)
       | 0x0C => some (vN r.tail)
       | 0x0D => some (vN (r.credits q))
       | 0x0F => some (vN r.processed)
       | _ => none)
  | some q =>
    let r := s.windowRing w q
    (match b with
     | 0x02 => some (vN (s.windowState w))
     | 0x03 => some (vN (if r.deviceToHost then 1 else 0))
     | 0x04 => some (vN r.entrySize)
     | 0x05 => some (vN r.count)
     | 0x06 => some (vN r.base)
     | 0x07 => some (vN r.writeBack)
     | 0x08 => some (vN r.vector)
     | 0x09 => some (vN r.moderation)
     | 0x0A => some (vN (if r.enabled then 1 else 0))
     | 0x0B => some (vN r.head)
     | 0x0C => some (vN r.tail)
     | 0x0D => some (vN (if r.allocated then r.credits else 0))
     | 0x0E => some (vN (s.ringUser q))
     | 0x0F => some (vN r.processed)
     | 0x10 => some (vN r.errors)
     | 0x11 => some (vN r.lastError)
     | _ => none)

/-! ### Spares, logs, firmware, lanes -/

/-- Spares remaining of kinds S1 to S10 (7000:0A, Table 1.11), each in one byte (log 55). -/
def State.sparesLeft (s : State) : List Nat :=
  [((List.range 16).filter (fun i => (s.stringOn (256 + i)).isNone && (s.lanesAt (256 + i)).state != 5)).length,
   s.slicesSpare, s.freeSpares.length, if s.fw.ready then 1 else 0, s.inputsSpare,
   ((List.range 12).filter (fun z => s.nat (0x4110 + z) 4 == 0)).length, s.nat 0x26F0 2,
   min 255 ((List.range 32).map s.repairRoom).sum, min 255 (432 - s.store.remapped.length), 1]

/-- The times of R507 in µs, and availability (R508). -/
def State.timeUs (s : State) (j : Nat) : Nat := s.timesNow.getD j 0 / tUs
def State.availability (s : State) : Rat :=
  if s.timesNow.getD 0 0 = 0 then 1 else 1 - (s.timesNow.getD 1 0 : Rat) / (s.timesNow.getD 0 0 : Rat)

/-- The event log, entry n at byte 32 × (n mod 65,536) (R510). -/
def State.eventBlob (s : State) : List Byte :=
  let n := s.svc.events.length
  let first := s.svc.eventSeq - n
  (List.range 65536).flatMap (fun p =>
    s.svc.events.getD ((p + 65536 - first % 65536) % 65536) (List.replicate 32 0))

/-- The critical log, 4,096 positions of 64 bytes (R511). -/
def State.criticalBlob (s : State) : List Byte :=
  (List.range 4096).flatMap (fun p => match tgetD s.store.critical [] p with
    | [] => List.replicate 64 0
    | e => e)

def State.viewService (s : State) (i b : Nat) : Option Val :=
  if i = 0x6000 then
    (match b with
     | 0x01 => some (vN (s.queues.rings.filter (fun p => p.2.enabled)).length)
     | 0x02 => some (vN (s.queues.resident.length + Config.pinnedQueues % 16384))
     | 0x04 => some (vN (Config.pinnedQueues % 16384))
     | _ => none)
  else if 0x6001 ≤ i ∧ i ≤ 0x6FFF then s.viewWindow i b
  else if i = 0x7000 then
    (match b with
     | 0x0A => some (.bytes (s.sparesLeft.flatMap (leBytes 1)))
     | 0x15 => some (vF s.availability)
     | _ => if 0x10 ≤ b ∧ b ≤ 0x14 then some (vN (s.timeUs (b - 0x10))) else none)
  else if 0x7020 ≤ i ∧ i < 0x7040 ∧ b = 4 then
    let l := s.ledgerAt (i - 0x7020)
    some (.bytes ((l.drop (l.length - 64)).flatMap ledgerBytes))
  else if i = 0x7100 then
    (match b with
     | 0x01 => some (vN s.upNs)
     | 0x02 => some (.bytes s.eventBlob)
     | 0x03 => some (vN s.svc.eventSeq)
     | 0x04 => some (vN s.svc.overwritten)
     | 0x05 => some (.bytes s.criticalBlob)
     | 0x06 => some (vN (min s.store.criticalNext 0xFFFFFFFF))
     | 0x08 => some (vN s.store.criticalRefused)
     | 0x0A => some (vN s.store.pstate)
     | 0x0D => some (.num s.poweredTime)
     | _ => none)
  else if i = 0x7F00 ∧ b = 5 then some (vN (16 * s.fw.roleB + s.fw.roleA))
  else if i = 0x7F40 then
    (match b with
     | 0x01 => some (s.lanesBlob 1 (·.state))
     | 0x02 => some (s.lanesBlob 2 (·.declared))
     | 0x03 => some (s.lanesBlob 1 (·.far))
     | 0x04 => some (s.lanesBlob 4 (·.retrains))
     | 0x05 => some (s.lanesBlob 4 (·.hushEvents))
     | 0x06 => some (s.lanesBlob 4 (·.crcMismatches))
     | 0x07 => some (s.lanesBlob 4 (·.invalidFar))
     | 0x0B => some (.bytes (leBytes 34 (maskOf (allLanes.filter (fun l => (s.lanesAt l).state == 5)))))
     | 0x0E => some (vN (min ((allLanes.map (fun l => (s.lanesAt l).clamped)).sum) 0xFFFFFFFF))
     | _ => none)
  else none

/-- The value of an entry that is computed at a read, for master m. -/
def State.view (s : State) (m i b : Nat) : Option Val :=
  if i < 0x1200 then s.viewComm m i b
  else if i < 0x1400 then s.viewTime i b
  else if i < 0x2000 then s.viewComm m i b
  else if i < 0x2400 ∨ (0x27F0 ≤ i ∧ i < 0x2800) then s.viewCourse i b
  else if i < 0x2800 then s.viewContent i b
  else if i < 0x3000 then s.viewCapture i b
  else if i < 0x4000 then s.viewControl i b
  else if i < 0x5000 then s.viewThermal i b
  else if i < 0x6000 then s.viewMemory i b
  else s.viewService i b

/-- The highest sub-index that an index implements, read at sub-index 00 (R38). -/
def State.liveVal (s : State) (m i b : Nat) : Val := (s.view m i b).getD (s.val i b)

end Sys2Proof.Machine
end

