-- ==== Sys2Proof/Machine/Dictionary.lean ====
section
/-! DEFINITION. The items of the dictionary service: look-up, reads, writes, staging, subscriptions (R38 to R43, R53, R62, R70,
R75, R377, R541). -/

namespace Sys2Proof.Machine

open Sys2Proof

/-! ### Look-up and values -/

/-- The entry of an item, or the status that refuses it: 0x0C outside what recovery mode serves, 0x01, 0x02 (R39, R76, R498). -/
def State.lookup (s : State) (it : Item) : Except Nat Row :=
  if s.serves it.index = false then .error stRestarting
  else if inRangeMap it.index = false ∨ (groupOf it.index).isNone = true then .error stIndex
  else
    match rowOf it.index it.sub with
    | none => .error stSub
    | some r => .ok r

/-- The value that an item brings: type, then length; an offset belongs to a STR or BLOB only (R41, Table 2.5). -/
def itemValue (it : Item) (r : Row) (v : List Byte) : Except Nat Val :=
  if it.type ≠ codeOf r.ty then .error stType
  else
    match sizeOf r.ty with
    | some n =>
      if v.length ≠ n then .error stLength else if it.offset ≠ 0 then .error stRange else .ok (decodeVal r.ty v)
    | none => .ok (.bytes v)

/-- The range of a capo limit: its two ends, and whether the bound of Table 11.2 is the lower end. -/
def State.capoRange (s : State) (i b : Nat) : Option (Int × Int × Bool) :=
  if i = 0x3800 ∧ b = 6 then some (100, 60000, true)
  else if 0x3810 ≤ i ∧ i < 0x3830 then
    (match b with
     | 3 => some (100, 950, true)
     | 4 => some (1000, 60000, false)
     | 5 => some (0, 950, false)
     | 6 => some (0, (capoCeilings s.classInForce).2.2, false)
     | 7 => some (0, (capoCeilings s.classInForce).2.2, false)
     | _ => none)
  else none

/-- The per-string limits and their ceilings. -/
def State.capoBlob (s : State) (i b : Nat) : Option Nat :=
  if i = 0x3800 ∧ b = 0x10 then some (capoCeilings s.classInForce).1
  else if i = 0x3800 ∧ b = 0x11 then some (capoCeilings s.classInForce).2.1
  else none

/-- A value held at the bound of a capo limit, with whether it was clamped; a value outside the other end of the range, or one
that is no multiple of 20 ns, is refused (R75, R377, R396). -/
def State.capoClamp (s : State) (i b : Nat) (v : Val) : Except Nat (Val × Bool) :=
  match s.capoBlob i b with
  | some top =>
    let l := (List.range 256).map (fun j => leAt (valBytes v) (2 * j) 2)
    .ok (.bytes (l.flatMap (fun x => leBytes 2 (min x top))), l.any (fun x => decide (top < x)))
  | none =>
    match s.capoRange i b with
    | none => .ok (v, false)
    | some (lo, hi, low) =>
      let z := valInt v
      if b = 4 ∧ z % 20 ≠ 0 then .error stRange
      else if low then
        if hi < z then .error stRange else .ok (.num (if z < lo then lo else z), decide (z < lo))
      else if z < lo then .error stRange
      else .ok (.num (if hi < z then hi else z), decide (hi < z))

/-- The largest length of a STR or BLOB entry (Table 2.1). -/
def maxLen (r : Row) : Nat :=
  let top := if r.ty = .str then 255 else 2 ^ 24
  match r.rng with
  | .len n => min n top
  | _ => top

/-- A whole value as it is applied or staged: without its reserved bits (R6), its own range (R62), and the bound of a capo
limit. -/
def State.wholeValue (s : State) (i b : Nat) (r : Row) (v : Val) : Except Nat (Val × Bool) :=
  if (s.capoBlob i b).isSome = true ∧ (valBytes v).length ≠ 512 then .error stLength
  else if valueOk i b r (maskReserved i b v) = false ∨ maxLen r < (valBytes v).length then .error stRange
  else s.capoClamp i b (maskReserved i b v)

/-! ### Staging (R53, R62) -/

/-- A stage set with an entry's staged value: it replaces the value there, or joins at the end. -/
def stagePut (l : List Staged) (x : Staged) : List Staged :=
  if l.any (fun t => t.key == x.key) then l.map (fun t => if t.key = x.key then x else t) else l ++ [x]

/-- Master m's stage set with a staged value in it. -/
def State.stageSet (s : State) (m key : Nat) (v : Val) (finished : Bool) : State :=
  let x := s.masterAt m
  s.masterPut m { x with stage := stagePut x.stage { key := key, val := v, finished := finished } }

/-- A segment of a STR or BLOB. A segment out of order, or one that the entry cannot hold, discards the copy built so far and
leaves the entry unfinished (R53). -/
def State.stageSegment (s : State) (m : Nat) (it : Item) (r : Row) (v : List Byte) : State × Nat :=
  let key := dkey it.index it.sub
  let old := (s.masterAt m).stage.find? (fun t => t.key == key)
  let start : Option (List Byte) :=
    if it.offset = 0 then some []
    else
      match old with
      | some t => if t.finished = false ∧ (valBytes t.val).length = it.offset then some (valBytes t.val) else none
      | none => none
  let drop := if it.offset = 0 ∨ old.isSome = true then s.stageSet m key (.bytes []) false else s
  match start with
  | none => (drop, stLength)
  | some b =>
    if maxLen r < (b ++ v).length then (drop, stRange)
    else if it.final = false then (s.stageSet m key (.bytes (b ++ v)) false, stStaged)
    else
      match s.wholeValue it.index it.sub r (.bytes (b ++ v)) with
      | .error e => (drop, e)
      | .ok (x, c) => (s.stageSet m key x true, if c then stClamped else stStaged)

/-- A value staged by master m, at most 1,024 items (R62). -/
def State.stageItem (s : State) (m : Nat) (it : Item) (r : Row) (v : List Byte) : State × Nat :=
  match itemValue it r v with
  | .error e => (s, e)
  | .ok x =>
    let stage := (s.masterAt m).stage
    if stage.any (fun t => t.key == dkey it.index it.sub) = false ∧ 1024 ≤ stage.length then (s, stRange)
    else if (sizeOf r.ty).isNone then s.stageSegment m it r v
    else
      match s.wholeValue it.index it.sub r x with
      | .error e => (s, e)
      | .ok (y, c) => (s.stageSet m (dkey it.index it.sub) y true, if c then stClamped else stStaged)

/-! ### Writes -/

/-- A value written to a command entry (Table 2.2, WO). -/
def State.commandEntry (s : State) (m i b : Nat) (v : Val) : State × Nat :=
  let n := (valInt v).toNat
  if i = 0x1200 then s.setTime n
  else if i = 0x1400 then s.commitWord m n
  else if 0x2400 ≤ i ∧ i < 0x2500 then (s.releaseReady (i - 0x2400) n, stOk)
  else if i = 0x3100 then s.moveToSpare n
  else if i = 0x3800 then s.rearm n
  else if i = 0x4000 then (s.runCommand n, stOk)
  else if i = 0x4100 then s.laserRearm n
  else if i = 0x4200 then
    if n = 0xA5C3 then ({ s with oz := { s.oz with resetPending := true } }, stOk) else (s, stRange)
  else if i = 0x7000 then s.availabilityClear n
  else if i = 0x7100 then s.criticalClear n
  else if i = 0x7F00 then (if b = 3 then s.loadStandby n else s.switchOver n)
  else if i = 0x7F40 then s.retrainCommand n
  else (s, stAccess)

/-- The entries that a write of 0 clears: sticky flags and the persistence state. -/
def State.stickyWrite (s : State) (m i v : Nat) : State × Nat :=
  s.clearWrite m (dkey (slotIx i) 0x22) v (fun s => s.clearSticky i)
def State.pstateWrite (s : State) (m v : Nat) : State × Nat := s.clearWrite m (dkey 0x7100 0x0A) v State.pstateClear

/-- A value written to an RW or RP entry (R43). -/
def State.directWrite (s : State) (m i b : Nat) (v : Val) : State × Nat :=
  if 0x3000 ≤ i ∧ i < 0x3060 ∧ b = 0x22 then s.stickyWrite m (i - 0x3000) (valInt v).toNat
  else if i = 0x7100 ∧ b = 0x0A then s.pstateWrite m (valInt v).toNat
  else s.writeOne m (dkey i b) v

/-- WRITE of an item (Table 2.2, R53, R75). -/
def State.writeEntry (s : State) (m : Nat) (it : Item) (r : Row) (v : List Byte) : State × Nat :=
  match accOf it.index r with
  | .ro => (s, stAccess)
  | .rs => s.stageItem m it r v
  | acc =>
    match itemValue it r v with
    | .error e => (s, e)
    | .ok x =>
      if it.offset ≠ 0 then (s, stRange)
      else
        match s.wholeValue it.index it.sub r x with
        | .error e => (s, e)
        | .ok (y, c) =>
          let w := if acc = .wo then s.commandEntry m it.index it.sub y else s.directWrite m it.index it.sub y
          (w.1, if w.2 = stOk ∧ c = true then stClamped else w.2)

/-- STAGE of an item: refused with 0x04 for RO and 0x05 for WO entries (Table 2.2). -/
def State.stageEntry (s : State) (m : Nat) (it : Item) (r : Row) (v : List Byte) : State × Nat :=
  match accOf it.index r with
  | .ro => (s, stAccess)
  | .wo => (s, stRange)
  | _ => s.stageItem m it r v

/-! ### Reads and subscriptions -/

/-- The most bytes that a read item asks for (R541). -/
def readLength (it : Item) : Nat := if 1 ≤ it.length ∧ it.length ≤ 1440 then it.length else 1440

/-- The control-class address of the event log of R510, 2 MiB (log 181). -/
def MemSt.logBase (m : MemSt) : Nat := Config.eventLogUnit % ((m.classBytes .control - 2 * mib) / 64 + 1) * 64

/-- A read of the event log is a request of the active pair to the units that hold it (R443): it wakes their channel (R457), and
whether one of them is uncorrectable is what UE5 of Table 13.9 asks. Without REFCLK it would wait (R459): the answer then makes no
access (log 181). -/
def State.logRead (s : State) (it : Item) : State × Bool :=
  if it.index = 0x7100 ∧ it.sub = 2 ∧ s.mem.chanMiB ≠ 0 ∧ s.clk.refclk = true ∧ it.offset < 2 * mib then
    let a := s.mem.logBase + it.offset
    let l := s.mem.loc .control a
    ((s.reachChan l.1 (l.2 / 64)).neighbourDraw l.1 (l.2 / 64)).readSpan .control (39 + s.fw.active) 0 a
      (min (readLength it) (2 * mib - it.offset))
  else (s, false)

/-- The bytes that a read item asks of a value (R541): status, bytes, and FINAL where they reach the end of a STR or BLOB. -/
def readBytes (it : Item) (ty : Ty) (v : Val) : Nat × List Byte × Bool :=
  let b := encodeVal ty v
  if (sizeOf ty).isSome then (if it.offset = 0 then (stOk, b, false) else (stRange, [], false))
  else if b.length < it.offset then (stRange, [], false)
  else
    (stOk, slice it.offset (readLength it) b, decide (b.length ≤ it.offset + readLength it))

/-- READ, or READ STAGED, of an item by master m. -/
def State.readEntry (s : State) (m : Nat) (it : Item) (r : Row) (staged : Bool) : Nat × List Byte × Bool :=
  match accOf it.index r with
  | .wo => (stAccess, [], false)
  | _ =>
    let live := s.liveVal m it.index it.sub
    let v := if staged then
        (match (s.masterAt m).stage.find? (fun t => t.key == dkey it.index it.sub) with
         | some t => t.val
         | none => live)
      else live
    readBytes it r.ty v

/-- SUBSCRIBE: a period below the entry's minimum is raised to it; at most 64 for a master and 4,096 for the device (R70). A WO
entry, which has no live value, is refused with 0x04: the spec does not say (log 148, DESIGN CHOICE). -/
def State.subscribe (s : State) (m : Nat) (it : Item) (r : Row) (v : List Byte) : State × Nat :=
  let key := dkey it.index it.sub
  let x := s.masterAt m
  let p := bits (leNat v) 31 16
  let sub : Sub := { key := key, period := if p = 0 then 0 else max p (minPeriod it.index it.sub)
                     shown := s.liveVal m it.index it.sub }
  match accOf it.index r with
  | .wo => (s, stAccess)
  | _ =>
    if v.length ≠ 4 then (s, stLength)
    else if x.subs.any (fun t => t.key == key) then
      (s.masterPut m { x with subs := x.subs.map (fun t => if t.key = key then sub else t) }, stOk)
    else if 64 ≤ x.subs.length ∨ 4096 ≤ s.subsInUse then (s, stBusy)
    else (s.masterPut m { x with subs := x.subs ++ [sub] }, stOk)

/-- UNSUBSCRIBE. -/
def State.unsubscribe (s : State) (m : Nat) (it : Item) : State × Nat :=
  let x := s.masterAt m
  (s.masterPut m { x with subs := x.subs.filter (fun t => t.key != dkey it.index it.sub) }, stOk)

/-! ### Items -/

/-- READ, or READ STAGED, of an item: a value held in DRAM that cannot be read is answered 0x0C (UE5). -/
def State.readItem (s : State) (m : Nat) (it : Item) (r : Row) (typed : Item) (staged : Bool) : State × Item × Nat × List Byte :=
  let q := s.logRead it
  let w := if q.2 then (stRestarting, [], false) else s.readEntry m it r staged
  (q.1, { typed with final := w.2.2 }, w.1, w.2.1)

/-- One item of master m executed (R51, Table 2.5a): the state after it, the header of its response item with the entry's own
type, its status and the value it carries. -/
def State.doItem (s : State) (m op : Nat) (it : Item) (v : List Byte) : State × Item × Nat × List Byte :=
  let plain : Item := { it with final := false }
  if op < 1 ∨ 6 < op then (s, plain, stRange, [])
  else
    match s.lookup it with
    | .error e => (s, plain, e, [])
    | .ok r =>
      let typed : Item := { plain with type := codeOf r.ty }
      let done (w : State × Nat) : State × Item × Nat × List Byte := (w.1, typed, w.2, [])
      match op with
      | 1 => s.readItem m it r typed false
      | 2 => done (s.writeEntry m it r v)
      | 3 => done (s.stageEntry m it r v)
      | 4 => s.readItem m it r typed true
      | 5 => done (s.subscribe m it r v)
      | _ => done (s.unsubscribe m it)

/-- One item executed by itself, its response kept in `answered`; nothing happens while the service does not run (R60). -/
def State.itemCommand (s : State) (m op : Nat) (it : Item) (v : List Byte) : State :=
  if s.ozRuns then
    let w := s.doItem m op it v
    w.1.answer op w.2.1 w.2.2.1 w.2.2.2
  else s

/-- A device reset that an item has asked for follows its response (R525). -/
def State.resetIfDue (s : State) : State := if s.oz.resetPending then s.deviceReset 4 else s

/-- READ: the live value of an entry. -/
def execRead (m : MasterId) (it : Item) (s : State) : Host.Outcome State Fault Refusal := .next (s.itemCommand m.val 1 it [])

/-- WRITE: a value applied at once, or staged for an RS entry. -/
def execWrite (m : MasterId) (it : Item) (v : List Byte) (s : State) : Host.Outcome State Fault Refusal :=
  .next (s.itemCommand m.val 2 it v).resetIfDue

/-- STAGE: a value put into the master's stage set. -/
def execStage (m : MasterId) (it : Item) (v : List Byte) (s : State) : Host.Outcome State Fault Refusal :=
  .next (s.itemCommand m.val 3 it v)

/-- READ_STAGED: the staged value of an entry, or its live value. -/
def execReadStaged (m : MasterId) (it : Item) (s : State) : Host.Outcome State Fault Refusal :=
  .next (s.itemCommand m.val 4 it [])

/-- SUBSCRIBE: publications of an entry to the master. -/
def execSubscribe (m : MasterId) (it : Item) (v : List Byte) (s : State) : Host.Outcome State Fault Refusal :=
  .next (s.itemCommand m.val 5 it v)

/-- PERSISTENCE_STATE_CLEAR: a host write of 7100:0A; 0 clears state 3, any other value returns 0x05 (R47). -/
def execPersistenceStateClear (m : MasterId) (v : Byte) (s : State) : Host.Outcome State Fault Refusal :=
  .next (s.hostWrite (writeItem 0x02 0x7100 0x0A 1) (fun s => s.pstateWrite m.val v.toNat))

/-- STICKY_FLAGS_CLEAR: a host write of 3000 + s:22; 0 clears the flags, any other value returns 0x05 (R352). -/
def execStickyFlagsClear (m : MasterId) (i : SlotId) (v : BitVec 32) (s : State) : Host.Outcome State Fault Refusal :=
  .next (s.hostWrite (writeItem 0x04 (slotIx i.val) 0x22 4) (fun s => s.stickyWrite m.val i.val v.toNat))

/-- UNSUBSCRIBE: no more of them. -/
def execUnsubscribe (m : MasterId) (it : Item) (s : State) : Host.Outcome State Fault Refusal :=
  .next (s.itemCommand m.val 6 it [])

end Sys2Proof.Machine
end

