-- ==== Sys2Proof/Machine/Ozilo.lean ====
section
/-! DEFINITION. Ozilo messages: transports, masters, the handling of a request, heartbeats and publications (R48 to R61, R70 to
R72, R78, R540). -/

namespace Sys2Proof.Machine

open Sys2Proof

/-! ### Masters (R54) -/

/-- The UDP master of a source. -/
def State.udpMaster (s : State) (ip port : Nat) : Option Nat :=
  (s.oz.masters.find? (fun p => decide (65 ≤ p.1) && p.2.addr == some (ip, port))).map (·.1)

/-- The number that a source already has. -/
def State.knownMaster (s : State) (src : Source) : Option Nat :=
  match src with
  | .spi => some 0
  | .pcie c => some (c.val + 1)
  | .udp ip port _ _ => s.udpMaster ip port

/-- The lowest free UDP number from one on, over at most a number of them. -/
def State.freeMaster (s : State) : Nat → Nat → Option Nat
  | 0, _ => none
  | n + 1, m => if (s.masterAt m).addr.isNone then some m else s.freeMaster n (m + 1)

/-- The master of a source, which a new UDP source is assigned (R54, R55): `none` where all are in use. -/
def State.masterFor (s : State) (src : Source) : Option (State × Nat) :=
  match s.knownMaster src with
  | some m => some (s, m)
  | none =>
    match src, s.freeMaster 16319 65 with
    | .udp ip port _ _, some m => some (s.masterPut m { addr := some (ip, port) }, m)
    | _, _ => none

/-- The address and port in force on the network (R78): 1100:01, or what DHCP gave, and 1100:04. -/
def State.localIp (s : State) : Nat :=
  let ip := s.oz.addrInForce.getD 0 0
  if ip = 0 then Config.dhcpAddress else ip
def State.localPort (s : State) : Nat := s.oz.addrInForce.getD 3 41620

/-- A transport unit reaches the service: a datagram does where it was sent to the address and port in force (R78). -/
def State.reaches (s : State) (src : Source) : Bool :=
  match src with
  | .udp _ _ ip port => ip == s.localIp && port == s.localPort
  | _ => true

/-- The source that a UDP master's publications and heartbeats go to. -/
def State.udpPeer (s : State) (ip port : Nat) : Source := .udp ip port s.localIp s.localPort

/-! ### Transports (R56, R57) -/

/-- A message placed in a context's response area: the ready word is set, and the context's vector raised. -/
def State.placeCtx (s : State) (c : Nat) (x : PcieCtx) (m : List Byte) : State :=
  (s.ctxPut c { x with response := m, ready := leAt m 3 1 * 65536 + m.length % 65536 }).send (.msix c)

/-- The response to an accepted request of master m goes out: its credit and its request's entry are given back (R12, R13). -/
def State.answerOut (s : State) (m : Nat) (accepted : Bool) : State := if accepted then s.responseOut m else s

/-- A response to a source: sent on UDP from the address it was sent to; placed in the context, or waiting for its ready word;
waiting on the SPI port. `accepted` says that it answers an accepted request, which is outstanding until then (R58, R540). -/
def State.respond (s : State) (src : Source) (accepted : Bool) (m : List Byte) : State :=
  match src with
  | .udp ip port _ _ =>
    (match s.udpMaster ip port with
     | some n => s.answerOut n accepted
     | none => s).send (.ozilo src m)
  | .pcie c =>
    let x := s.ctxAt c.val
    if x.ready = 0 then (s.placeCtx c.val x m).answerOut (c.val + 1) accepted
    else s.ctxPut c.val { x with queued := x.queued ++ [(accepted, m)] }
  | .spi => { s with oz := { s.oz with spi := s.oz.spi ++ [(accepted, m)] } }

/-- The most bytes of a response's items (R48): a payload of 1,472 bytes, or the response area of a context, less header and
trailer. -/
def bodyMax : Nat := 1452

/-! ### Requests (R51, R58, R59, R540) -/

/-- The items of a request executed in order: the state, and the bytes of the response's body, of which `used` bytes are
filled. Where the spec is silent the model answers (DESIGN CHOICE): 0x05 for an item whose value exceeds 1,440 bytes (log 149);
0x0D and no value for an item whose value would not fit a response of R48's size beside the headers of the items after it
(log 126). -/
def State.runItems (s : State) (m used : Nat) : List ReqItem → State × List Byte
  | [] => (s, [])
  | i :: r =>
    let w := if itemTooLong i then (s, { i.it with final := false }, stRange, []) else s.doItem m i.op i.it i.value
    let full := itemBytes i.op w.2.1.final w.2.1 w.2.2.1 w.2.2.2
    let body := if used + full.length + 12 * r.length ≤ bodyMax then full
      else itemBytes i.op false { w.2.1 with final := false } stLength []
    let rest := w.1.runItems m (used + body.length) r
    (rest.1, body ++ rest.2)

/-- A request is accepted: its items are executed, its response is kept among the last 8 and sent, and a device reset that it
asked for follows (R51, R59, R525). -/
def State.acceptRequest (s : State) (src : Source) (m seq : Nat) (items : List ReqItem) : State :=
  let s1 := (s.masterPut m { s.masterAt m with seen := true, last := some seq }).requestIn m
  let r := s1.runItems m 0 items
  let msg := message 0x02 seq m items.length stOk r.2
  let x := r.1.masterAt m
  let kept := x.kept ++ [({ seq := seq, response := msg } : Kept)]
  ((r.1.masterPut m { x with kept := kept.drop (kept.length - 8) }).respond src true msg).resetIfDue

/-- The sequence window of R59: the first request of a master, or one up to 32,767 after the last accepted. -/
def inWindow (last : Option Nat) (seq : Nat) : Bool :=
  match last with
  | none => true
  | some l => decide (1 ≤ (seq + 65536 - l) % 65536) && decide ((seq + 65536 - l) % 65536 ≤ 32767)

/-- A message that passed R540, from master m (R58, R59). -/
def State.onRequest (s : State) (src : Source) (m seq : Nat) (items : List ReqItem) : State :=
  let x := s.masterAt m
  match x.kept.find? (fun k => k.seq == seq) with
  | some k => s.respond src false k.response
  | none =>
    if inWindow x.last seq = false then s.bump 0x1100 8
    else if 8 ≤ s.outstanding m then s.respond src false (message 0x02 seq m 0 stBusy [])
    else s.acceptRequest src m seq items

/-- A transport unit arrives (R540). -/
def State.receive (s : State) (src : Source) (unit : List Byte) : State :=
  if s.ozRuns = false ∨ s.reaches src = false then s
  else
    match checkMessage unit with
    | .discard => s
    | .badCrc => s.bump 0x1100 7
    | .answer seq st => s.respond src false (message 0x02 seq ((s.knownMaster src).getD 0xFFFF) 0 st [])
    | .pass seq items =>
      match s.masterFor src with
      | none => (s.bump 0x1100 9).respond src false (message 0x02 seq 0xFFFF 0 stBusy [])
      | some (s1, m) => s1.onRequest src m seq items

/-- OZILO_REQUEST: a message arrives on a transport. -/
def execOziloRequest (src : Source) (msg : List Byte) (s : State) : Host.Outcome State Fault Refusal := .next (s.receive src msg)

/-- DICTIONARY_DOORBELL: the doorbell of a context gives the length of the request in its window (R56). A length beyond the
request area is no Ozilo message. -/
def execDictionaryDoorbell (ctx : Fin 64) (window : List Byte) (v : BitVec 64) (s : State) : Host.Outcome State Fault Refusal :=
  let n := bits v.toNat 15 0
  .next (if window.length < n then s else s.receive (.pcie ctx) (window.take n))

/-- READY_WORD_CLEAR: the host clears the ready word; the next response that waits is placed, else the next publication. -/
def execReadyWordClear (ctx : Fin 64) (s : State) : Host.Outcome State Fault Refusal :=
  let x := { s.ctxAt ctx.val with ready := 0 }
  .next (
    match x.queued, x.waiting with
    | m :: r, _ => (s.placeCtx ctx.val { x with queued := r } m.2).answerOut (ctx.val + 1) m.1
    | [], p :: r => s.placeCtx ctx.val { x with waiting := r } p.2
    | [], [] => s.ctxPut ctx.val x)

/-- SPI_REQUEST: command 0x02 with its length and a request (R57). A transfer that ends before its length gives no unit. -/
def execSpiRequest (length : Nat) (msg : List Byte) (s : State) : Host.Outcome State Fault Refusal :=
  .next (if msg.length < length then s else s.receive .spi (msg.take length))

/-- SPI_READ_RESPONSE: command 0x0B returns the length and the response that waits, or length 0. -/
def execSpiReadResponse (s : State) : Host.Outcome State Fault Refusal :=
  .next (
    match s.oz.spi with
    | [] => s.send (.spi [0x00, 0x00])
    | m :: r =>
      (({ s with oz := { s.oz with spi := r } } : State).send (.spi (leBytes 2 m.2.length ++ m.2))).answerOut 0 m.1)

/-- SPI_IRQ_N is driven low (R530). -/
def State.spiIrq (s : State) : Bool := !s.oz.spi.isEmpty

/-- SPI_STATUS: command 0x05 returns bit 0 response waiting and bit 1 busy (R57, R60). -/
def execSpiStatus (s : State) : Host.Outcome State Fault Refusal :=
  .next (s.send (.spi (leBytes 1 ((if s.spiIrq then 1 else 0) + if s.ozRuns then 0 else 2))))

/-- SPI_UNKNOWN_COMMAND: no effect but 0xFF for every byte of the transfer. -/
def execSpiUnknownCommand (_cmd : Byte) (len : Nat) (s : State) : Host.Outcome State Fault Refusal :=
  .next (s.send (.spi (List.replicate len 0xFF)))

/-! ### Forgetting and address changes (R55, R78) -/

/-- A commit of a forgotten master still applies, and counts for no master to come (R55, R68). -/
def Pending.orphan (p : Pending) : Pending := { p with master := 16384 }

/-- The commits of the masters that a condition forgets are no master's. -/
def State.orphans (s : State) (gone : Nat → Bool) : State :=
  { s with oz := { s.oz with commits := s.oz.commits.map (fun p => if gone p.master then p.orphan else p) } }

/-- The queues of a forgotten master's number are empty again. -/
def State.queuesFreed (s : State) (m : Nat) : State :=
  (s.queuePut (requestQueue m) {}).queuePut (responseQueue m) {}

/-- MASTER_FORGOTTEN: 60 s without a request of a UDP master; its commits still apply (R55). -/
def execMasterForgotten (m : MasterId) (s : State) : Host.Outcome State Fault Refusal :=
  .next (if 65 ≤ m.val then ((s.masterPut m.val {}).queuesFreed m.val).orphans (· == m.val) else s)

/-- ADDRESS_CHANGE: the response that carried new address entries has been sent; they take effect, and UDP masters are
forgotten (R78). -/
def execAddressChange (s : State) : Host.Outcome State Fault Refusal :=
  .next (
    if s.oz.addrPending then
      let gone := (s.oz.masters.filter (fun p => decide (65 ≤ p.1))).map (·.1)
      let s1 := (s.each gone State.queuesFreed).orphans (fun m => decide (65 ≤ m))
      { s1 with oz := { s1.oz with
          addrPending := false
          addrInForce := [s.nat 0x1100 1, s.nat 0x1100 2, s.nat 0x1100 3, s.nat 0x1100 4]
          masters := s1.oz.masters.filter (fun p => decide (p.1 < 65)) } }
    else s)

/-! ### Heartbeats and publications (R70 to R72) -/

/-- The 32 bytes of a heartbeat's body (R72). -/
def State.heartbeatBody (s : State) : List Byte :=
  leBytes 8 (Config.serial % 2 ^ 64) ++ leBytes 8 s.upNs ++ leBytes 4 (s.nat 0x1240 1 % 2 ^ 18) ++ leBytes 1 s.dst ++
    leBytes 1 s.store.pstate ++ [0x00, 0x00] ++ leBytes 4 (courseMask (fun k => s.cst k == 4)) ++
    leBytes 4 (courseMask (fun k => s.cst k == 5))

/-- HEARTBEAT: a heartbeat period has passed, or D5 has been reached. -/
def execHeartbeat (s : State) : Host.Outcome State Fault Refusal :=
  .next (
    if s.ozRuns = false then s
    else
      let n := (s.nat 0x1100 0x13 + 1) % 2 ^ 32
      let body := s.heartbeatBody
      let s1 := s.putN 0x1100 0x13 n
      if s.nat 0x1100 0x11 ≠ 0 then
        s1.send (.heartbeat (s.nat 0x1100 0x11) (s.nat 0x1100 0x12) (message 0x04 (n % 65536) 0xFFFF 0 stOk body))
      else
        s.oz.masters.foldl (fun s p => match p.2.addr with
          | some (ip, port) => s.send (.ozilo (s.udpPeer ip port) (message 0x04 (n % 65536) p.1 0 stOk body))
          | none => s) s1)

/-- The publication of an entry to master m. -/
def State.publicationOf (s : State) (m index sub : Nat) (r : Row) : List Byte :=
  let it : Item := { final := false, type := codeOf r.ty, index := index, sub := sub, length := 0, offset := 0 }
  let b := readBytes it r.ty (s.liveVal m index sub)
  message 0x03 ((s.masterAt m).pubSeq) m 1 stOk (itemBytes 0x01 b.2.2 it stOk b.2.1)

/-- The course in whose frames changes of an entry are published at most once (R161, R303). -/
def State.frameCourse (s : State) (i b : Nat) : Option Nat :=
  if 0x2200 ≤ i ∧ i < 0x2220 ∧ (b = 0x15 ∨ b = 0x1B ∨ b = 0x1C) then some (i - 0x2200)
  else if 0x2800 ≤ i ∧ i < 0x2820 ∧ b = 0x16 then some (i - 0x2800)
  else if 0x2820 ≤ i ∧ i < 0x2842 ∧ b = 2 then allCourses.find? (fun k => s.nat (0x2800 + k) 1 == i - 0x2820)
  else none

/-- The frame that a publication of an entry counts for. -/
def State.frameMark (s : State) (i b : Nat) : Nat :=
  match s.frameCourse i b with
  | some k => (s.frmAt k).startTai
  | none => 0

/-- A subscription is due (R70): its period has passed since its last publication; with period 0, the value has changed, the
least time between publications of its changes has passed, and a frame has, where they come once per frame. -/
def State.subDue (s : State) (m : Nat) (t : Sub) : Bool :=
  let i := t.key / 256
  let b := t.key % 256
  let past (ms : Nat) : Bool := match t.sent with
    | some (u, _) => decide (u + ms * tMs ≤ s.clk.up)
    | none => true
  if t.period = 0 then
    t.shown != s.liveVal m i b && past (changePeriod i b) &&
      ((s.frameCourse i b).isNone || (match t.sent with
        | some (_, f) => f != s.frameMark i b
        | none => true))
  else past t.period

/-- PUBLICATION: an entry that master m subscribes falls due; a newer one of the same entry replaces one that waits (R56,
R71). -/
def execPublication (m : MasterId) (index sub : Nat) (s : State) : Host.Outcome State Fault Refusal :=
  let key := dkey index sub
  let x := s.masterAt m.val
  .next (
    if s.ozRuns = false ∨ m.val = 0 ∨ x.subs.any (fun t => t.key == key && s.subDue m.val t) = false ∨
        s.serves index = false then s
    else
      match rowOf index sub with
      | none => s
      | some r =>
        let msg := s.publicationOf m.val index sub r
        let s1 := s.masterPut m.val { x with
          pubSeq := (x.pubSeq + 1) % 65536
          subs := x.subs.map (fun t => if t.key = key then
            { t with shown := s.liveVal m.val index sub, sent := some (s.clk.up, s.frameMark index sub) } else t) }
        if m.val < 65 then
          let c := m.val - 1
          let y := s1.ctxAt c
          if y.ready = 0 then s1.placeCtx c y msg
          else
            let known := y.waiting.any (fun p => p.1 == key)
            s1.ctxPut c { y with
              waiting := if known then y.waiting.map (fun p => if p.1 = key then (key, msg) else p) else y.waiting ++ [(key, msg)] }
        else
          match x.addr with
          | some (ip, port) => s1.send (.ozilo (s1.udpPeer ip port) msg)
          | none => s1)

end Sys2Proof.Machine
end

