-- ==== Sys2Proof/Machine/Dispatch.lean ====
section
/-! DEFINITION. The meaning of each command, one arm each. -/

namespace Sys2Proof.Machine

def exec (i : Instr) (s : State) : Host.Outcome State Fault Refusal :=
  match i with
  | .oziloRequest src msg => Sys2Proof.Machine.execOziloRequest src msg s
  | .read m it => Sys2Proof.Machine.execRead m it s
  | .write m it v => Sys2Proof.Machine.execWrite m it v s
  | .stage m it v => Sys2Proof.Machine.execStage m it v s
  | .readStaged m it => Sys2Proof.Machine.execReadStaged m it s
  | .subscribe m it v => Sys2Proof.Machine.execSubscribe m it v s
  | .unsubscribe m it => Sys2Proof.Machine.execUnsubscribe m it s
  | .commit m word => Sys2Proof.Machine.execCommit m word s
  | .abort m word => Sys2Proof.Machine.execAbort m word s
  | .commitApply pt => Sys2Proof.Machine.execCommitApply pt s
  | .masterForgotten m => Sys2Proof.Machine.execMasterForgotten m s
  | .heartbeat => Sys2Proof.Machine.execHeartbeat s
  | .publication m index sub => Sys2Proof.Machine.execPublication m index sub s
  | .dictionaryDoorbell ctx window v => Sys2Proof.Machine.execDictionaryDoorbell ctx window v s
  | .readyWordClear ctx => Sys2Proof.Machine.execReadyWordClear ctx s
  | .spiRequest length msg => Sys2Proof.Machine.execSpiRequest length msg s
  | .spiReadResponse => Sys2Proof.Machine.execSpiReadResponse s
  | .spiStatus => Sys2Proof.Machine.execSpiStatus s
  | .spiUnknownCommand cmd len => Sys2Proof.Machine.execSpiUnknownCommand cmd len s
  | .addressChange => Sys2Proof.Machine.execAddressChange s
  | .heldWritesFlush => Sys2Proof.Machine.execHeldWritesFlush s
  | .persistenceStateClear m v => Sys2Proof.Machine.execPersistenceStateClear m v s
  | .persistentWrite verifyFailed => Sys2Proof.Machine.execPersistentWrite verifyFailed s
  | .poweredTimePersist => Sys2Proof.Machine.execPoweredTimePersist s
  | .ptpSync port sync => Sys2Proof.Machine.execPtpSync port sync s
  | .ptpAnnounce port a => Sys2Proof.Machine.execPtpAnnounce port a s
  | .ptpDelayResponse port delay => Sys2Proof.Machine.execPtpDelayResponse port delay s
  | .announceReceiptTimeout => Sys2Proof.Machine.execAnnounceReceiptTimeout s
  | .holdoverExpired => Sys2Proof.Machine.execHoldoverExpired s
  | .setTime m t => Sys2Proof.Machine.execSetTime m t s
  | .syncInEdge x falling t => Sys2Proof.Machine.execSyncInEdge x falling t s
  | .syncInHoldover x => Sys2Proof.Machine.execSyncInHoldover x s
  | .shaftCount j a b => Sys2Proof.Machine.execShaftCount j a b s
  | .shaftIndex j => Sys2Proof.Machine.execShaftIndex j s
  | .ssiPoll j f => Sys2Proof.Machine.execSsiPoll j f s
  | .shaftLineBreak j => Sys2Proof.Machine.execShaftLineBreak j s
  | .shaftStopped j => Sys2Proof.Machine.execShaftStopped j s
  | .ptpFrameEpoch k => Sys2Proof.Machine.execPtpFrameEpoch k s
  | .contentFollowPeriodEnd k => Sys2Proof.Machine.execContentFollowPeriodEnd k s
  | .contentFollowHoldover k => Sys2Proof.Machine.execContentFollowHoldover k s
  | .repeatFrame k => Sys2Proof.Machine.execRepeatFrame k s
  | .frameStart k => Sys2Proof.Machine.execFrameStart k s
  | .refclkLoss => Sys2Proof.Machine.execRefclkLoss s
  | .refclkReturn => Sys2Proof.Machine.execRefclkReturn s
  | .beaconSend id => Sys2Proof.Machine.execBeaconSend id s
  | .beaconReceive msg => Sys2Proof.Machine.execBeaconReceive msg s
  | .consortPeerAbsent id node => Sys2Proof.Machine.execConsortPeerAbsent id node s
  | .duplicateNodeClear => Sys2Proof.Machine.execDuplicateNodeClear s
  | .phaseLocked k => Sys2Proof.Machine.execPhaseLocked k s
  | .phaseLockLost k => Sys2Proof.Machine.execPhaseLockLost k s
  | .senseCrossingStamp k upper t64 => Sys2Proof.Machine.execSenseCrossingStamp k upper t64 s
  | .bowStart k => Sys2Proof.Machine.execBowStart k s
  | .bowPlacement k => Sys2Proof.Machine.execBowPlacement k s
  | .bowTurnaround k => Sys2Proof.Machine.execBowTurnaround k s
  | .nutReached k queued => Sys2Proof.Machine.execNutReached k queued s
  | .commitFence k => Sys2Proof.Machine.execCommitFence k s
  | .startComplete => Sys2Proof.Machine.execStartComplete s
  | .standbyEntryComplete => Sys2Proof.Machine.execStandbyEntryComplete s
  | .dramExitComplete => Sys2Proof.Machine.execDramExitComplete s
  | .st2110Packet port p => Sys2Proof.Machine.execSt2110Packet port p s
  | .mergeDeadline f => Sys2Proof.Machine.execMergeDeadline f s
  | .flowPathSilent f port => Sys2Proof.Machine.execFlowPathSilent f port s
  | .writeRect h desc pixels pcieError => Sys2Proof.Machine.execWriteRect h desc pixels pcieError s
  | .complete h desc => Sys2Proof.Machine.execComplete h desc s
  | .abortBuffer h desc => Sys2Proof.Machine.execAbortBuffer h desc s
  | .descriptorResume h => Sys2Proof.Machine.execDescriptorResume h s
  | .releaseReadyBuffers c mask => Sys2Proof.Machine.execReleaseReadyBuffers c mask s
  | .canvasZeroFillComplete c b => Sys2Proof.Machine.execCanvasZeroFillComplete c b s
  | .warpRecomputeComplete mesh copy => Sys2Proof.Machine.execWarpRecomputeComplete mesh copy s
  | .refinementUpdate mesh moves => Sys2Proof.Machine.execRefinementUpdate mesh moves s
  | .fetchSchedule k => Sys2Proof.Machine.execFetchSchedule k s
  | .tileArrival k tile poisoned => Sys2Proof.Machine.execTileArrival k tile poisoned s
  | .bowRender k => Sys2Proof.Machine.execBowRender k s
  | .renderSliceFault slice => Sys2Proof.Machine.execRenderSliceFault slice s
  | .fetchStoreError k bank tile uncorrectable => Sys2Proof.Machine.execFetchStoreError k bank tile uncorrectable s
  | .matrixComplete k => Sys2Proof.Machine.execMatrixComplete k s
  | .harmonicGainUpdate k => Sys2Proof.Machine.execHarmonicGainUpdate k s
  | .emitterGainHeld l => Sys2Proof.Machine.execEmitterGainHeld l s
  | .emitterWorn l => Sys2Proof.Machine.execEmitterWorn l s
  | .gainPersist => Sys2Proof.Machine.execGainPersist s
  | .harmonicRecord k slot volts => Sys2Proof.Machine.execHarmonicRecord k slot volts s
  | .fiducialSnapshot k bow => Sys2Proof.Machine.execFiducialSnapshot k bow s
  | .captureInputSuspect x => Sys2Proof.Machine.execCaptureInputSuspect x s
  | .captureInputFailed x => Sys2Proof.Machine.execCaptureInputFailed x s
  | .captureInputRecover x => Sys2Proof.Machine.execCaptureInputRecover x s
  | .captureComplete k => Sys2Proof.Machine.execCaptureComplete k s
  | .captureBufferRelease k b consumer => Sys2Proof.Machine.execCaptureBufferRelease k b consumer s
  | .streamUnitSend x => Sys2Proof.Machine.execStreamUnitSend x s
  | .streamBatchTimer x => Sys2Proof.Machine.execStreamBatchTimer x s
  | .streamBufferDescriptor x desc => Sys2Proof.Machine.execStreamBufferDescriptor x desc s
  | .droneTimer l => Sys2Proof.Machine.execDroneTimer l s
  | .align l block => Sys2Proof.Machine.execAlign l block s
  | .retIdle k wire => Sys2Proof.Machine.execRetIdle k wire s
  | .retStatus k wire => Sys2Proof.Machine.execRetStatus k wire s
  | .retLane k wire => Sys2Proof.Machine.execRetLane k wire s
  | .retErrors k wire => Sys2Proof.Machine.execRetErrors k wire s
  | .retIdent k wire => Sys2Proof.Machine.execRetIdent k wire s
  | .retFault k wire => Sys2Proof.Machine.execRetFault k wire s
  | .returnLaneDown k => Sys2Proof.Machine.execReturnLaneDown k s
  | .capoHush trips whole courses => Sys2Proof.Machine.execCapoHush trips whole courses s
  | .emitOkDrop k => Sys2Proof.Machine.execEmitOkDrop k s
  | .lanesOff => Sys2Proof.Machine.execLanesOff s
  | .laneRetrainCommand m lane => Sys2Proof.Machine.execLaneRetrainCommand m lane s
  | .quadPllLoss q => Sys2Proof.Machine.execQuadPllLoss q s
  | .laneRetrainQuietEnd l => Sys2Proof.Machine.execLaneRetrainQuietEnd l s
  | .laneRetrainTimeout l => Sys2Proof.Machine.execLaneRetrainTimeout l s
  | .loopStep x earlier latest => Sys2Proof.Machine.execLoopStep x earlier latest s
  | .loopOutputWrite x => Sys2Proof.Machine.execLoopOutputWrite x s
  | .trackerUpdate k bow => Sys2Proof.Machine.execTrackerUpdate k bow s
  | .mirrorFailed k => Sys2Proof.Machine.execMirrorFailed k s
  | .excitationStart k => Sys2Proof.Machine.execExcitationStart k s
  | .ringWindowStart k => Sys2Proof.Machine.execRingWindowStart k s
  | .ringWindowEnd k m => Sys2Proof.Machine.execRingWindowEnd k m s
  | .startTimeout k => Sys2Proof.Machine.execStartTimeout k s
  | .axisEnRelease k => Sys2Proof.Machine.execAxisEnRelease k s
  | .loopSlotFault phys => Sys2Proof.Machine.execLoopSlotFault phys s
  | .moveToSpare m slot => Sys2Proof.Machine.execMoveToSpare m slot s
  | .stickyFlagsClear m x v => Sys2Proof.Machine.execStickyFlagsClear m x v s
  | .loopRefclkHoldExpired => Sys2Proof.Machine.execLoopRefclkHoldExpired s
  | .vaonValid sel => Sys2Proof.Machine.execVaonValid sel s
  | .capoSelfTestComplete pass => Sys2Proof.Machine.execCapoSelfTestComplete pass s
  | .capoFault deviation => Sys2Proof.Machine.execCapoFault deviation s
  | .interlockTrip => Sys2Proof.Machine.execInterlockTrip s
  | .interlockRise => Sys2Proof.Machine.execInterlockRise s
  | .scanExcursion k positive begins t => Sys2Proof.Machine.execScanExcursion k positive begins t s
  | .scanWatchMiss k t => Sys2Proof.Machine.execScanWatchMiss k t s
  | .energyTrip string => Sys2Proof.Machine.execEnergyTrip string s
  | .overtravelTrip k => Sys2Proof.Machine.execOvertravelTrip k s
  | .rearm m mask => Sys2Proof.Machine.execRearm m mask s
  | .laserRearm m mask => Sys2Proof.Machine.execLaserRearm m mask s
  | .temperatureSample sensor c => Sys2Proof.Machine.execTemperatureSample sensor c s
  | .zoneDisagreement z => Sys2Proof.Machine.execZoneDisagreement z s
  | .dieComparatorTrip z => Sys2Proof.Machine.execDieComparatorTrip z s
  | .throttlePause u => Sys2Proof.Machine.execThrottlePause u s
  | .pegLoad k => Sys2Proof.Machine.execPegLoad k s
  | .runCommand m mask => Sys2Proof.Machine.execRunCommand m mask s
  | .tuningRunEnd k points values => Sys2Proof.Machine.execTuningRunEnd k points values s
  | .tuningRunTimeout k => Sys2Proof.Machine.execTuningRunTimeout k s
  | .tuningSliceForced k => Sys2Proof.Machine.execTuningSliceForced k s
  | .memoryRequest port cls addr op badBytes => Sys2Proof.Machine.execMemoryRequest port cls addr op badBytes s
  | .correctedWriteBack c unit => Sys2Proof.Machine.execCorrectedWriteBack c unit s
  | .refresh c rank bank issue => Sys2Proof.Machine.execRefresh c rank bank issue s
  | .scrubRead c badBytes => Sys2Proof.Machine.execScrubRead c badBytes s
  | .scrubOverdue => Sys2Proof.Machine.execScrubOverdue s
  | .neighbourRefresh c => Sys2Proof.Machine.execNeighbourRefresh c s
  | .powerDownEntry c rank => Sys2Proof.Machine.execPowerDownEntry c rank s
  | .selfRefreshEntry c => Sys2Proof.Machine.execSelfRefreshEntry c s
  | .oscillatorRead c count => Sys2Proof.Machine.execOscillatorRead c count s
  | .mr4Read c multiplier hot => Sys2Proof.Machine.execMr4Read c multiplier hot s
  | .retrainForced c => Sys2Proof.Machine.execRetrainForced c s
  | .retrainPause c => Sys2Proof.Machine.execRetrainPause c s
  | .retrainOverdue c => Sys2Proof.Machine.execRetrainOverdue c s
  | .dramTrainingComplete r => Sys2Proof.Machine.execDramTrainingComplete r s
  | .softRepair => Sys2Proof.Machine.execSoftRepair s
  | .hardRepair => Sys2Proof.Machine.execHardRepair s
  | .hostDoorbell v => Sys2Proof.Machine.execHostDoorbell v s
  | .ringWriteBack q => Sys2Proof.Machine.execRingWriteBack q s
  | .moderationExpiry q => Sys2Proof.Machine.execModerationExpiry q s
  | .pairFault => Sys2Proof.Machine.execPairFault s
  | .watchdogExpiry => Sys2Proof.Machine.execWatchdogExpiry s
  | .pairRestartInPlace => Sys2Proof.Machine.execPairRestartInPlace s
  | .restartWatchdogReset => Sys2Proof.Machine.execRestartWatchdogReset s
  | .unitRestart u => Sys2Proof.Machine.execUnitRestart u s
  | .loadStandby m v => Sys2Proof.Machine.execLoadStandby m v s
  | .standbySynchronised => Sys2Proof.Machine.execStandbySynchronised s
  | .switchOver m v => Sys2Proof.Machine.execSwitchOver m v s
  | .probationEnd => Sys2Proof.Machine.execProbationEnd s
  | .spareOffer kind unit worn => Sys2Proof.Machine.execSpareOffer kind unit worn s
  | .policySwitchIn => Sys2Proof.Machine.execPolicySwitchIn s
  | .availabilityClear m v => Sys2Proof.Machine.execAvailabilityClear m v s
  | .criticalLogClear m v => Sys2Proof.Machine.execCriticalLogClear m v s
  | .powerValid syncMilliVolt => Sys2Proof.Machine.execPowerValid syncMilliVolt s
  | .supplyHoldEntry rail milliVolt => Sys2Proof.Machine.execSupplyHoldEntry rail milliVolt s
  | .supplyHoldEnd => Sys2Proof.Machine.execSupplyHoldEnd s
  | .railReset rail => Sys2Proof.Machine.execRailReset rail s
  | .overvoltage rail => Sys2Proof.Machine.execOvervoltage rail s
  | .rstNReset => Sys2Proof.Machine.execRstNReset s
  | .deviceResetCommand m v => Sys2Proof.Machine.execDeviceResetCommand m v s
  | .pciePerstDeassert => Sys2Proof.Machine.execPciePerstDeassert s
  | .extest cells => Sys2Proof.Machine.execExtest cells s
  | .samplePreload cells => Sys2Proof.Machine.execSamplePreload cells s
  | .idcode => Sys2Proof.Machine.execIdcode s
  | .devreset => Sys2Proof.Machine.execDevreset s
  | .fuseprog mask => Sys2Proof.Machine.execFuseprog mask s
  | .bypass opcode => Sys2Proof.Machine.execBypass opcode s
  | .slotPllLock => Sys2Proof.Machine.execSlotPllLock s
  | .shaftLineRestored j => Sys2Proof.Machine.execShaftLineRestored j s
  | .returnBlockInvalid b => Sys2Proof.Machine.execReturnBlockInvalid b s
  | .hushUnconfirmed l => Sys2Proof.Machine.execHushUnconfirmed l s
  | .flowIdle f => Sys2Proof.Machine.execFlowIdle f s
  | .pairStandbyReady => Sys2Proof.Machine.execPairStandbyReady s
  | .pairRestartComplete => Sys2Proof.Machine.execPairRestartComplete s
  | .imageWriteComplete ok => Sys2Proof.Machine.execImageWriteComplete ok s

end Sys2Proof.Machine
end

