-- ==== Sys2Proof/Machine/Tick.lean ====
section
/-! DEFINITION. The passing of time: what a step does when no command waits (log 2). -/

namespace Sys2Proof.Machine

open Sys2Proof

/-- The frequency correction in force, in steps of 2⁻³² of nominal frequency (R80): c to the nearest step (log 166). -/
def State.steerSteps (s : State) : Int := roundEven (s.servo.c * 4294967296 / 1000000000)

/-- Clocks after one slot of the slot domain, steered by `q` steps of 2⁻³² (R79, R80, R105, R124). A slot lasts 2.5 ns over
1 + q / 2³² of uptime, which REFCLK counts unsteered; the time base advances 5 ns every second slot. Without REFCLK the safety
domain counts the elapsed time, and the slot counter and the time base go on until the slot domain stops (R125, R323). -/
def ClkSt.tick (c : ClkSt) (q : Int) : ClkSt :=
  let d := (4294967296 + q).toNat
  let n := tSlot * 4294967296 + c.rest
  let dt := n / d
  let runs := c.refclk || c.slotRun
  { c with
    up := c.up + dt, rest := n % d
    tai := if runs && c.half then c.tai + 2 * tSlot else c.tai
    half := if runs then !c.half else c.half
    slot := if c.slotRun then c.slot + 1 else c.slot
    elapsed := if c.refclk then c.elapsed else c.elapsed + dt }

/-- One slot passes: the clocks advance, and with every fourth slot of the slot domain the next block leaves every lane that sends
(R307, R314); predicted SYNC_IN edges that pass stand in for edges (R96), requests whose phase offset has passed arrive (R90), and ingest goes on
after a pause (R16). -/
def State.tick (s : State) : State :=
  let s1 : State := { s with clk := s.clk.tick s.steerSteps }
  let s2 := if s1.clk.slotRun = true ∧ 24 ≤ s1.clk.slot ∧ s1.clk.slot % 4 = 0 then s1.transmit ((s1.clk.slot - 24) / 4) else s1
  ((s2.each [0, 1, 2, 3] (fun s i => s.standIns i s.clk.tai 1)).each allCourses State.arrive).rxDrain

end Sys2Proof.Machine
end

