-- ==== Sys2Proof/Safety.lean ====
section
/-! DEFINITION. What counts as safe, in the terms that the statements use: what no command but those named may change, the
limits that firmware cannot reach, and the invariant that every step keeps. -/

namespace Sys2Proof.Machine

open Sys2Proof

/-- `t` keeps of `s` what almost no command changes: the queue, the time counted, the straps sampled and the fuses blown, from
which the capo class follows (R375), and that VAON is good. -/
@[simp] abbrev State.Keeps (s t : State) : Prop :=
  t.pending = s.pending ∧ t.clk.up = s.clk.up ∧ t.capo.sel = s.capo.sel ∧ t.capo.blown = s.capo.blown ∧
    t.capo.blownSeen = s.capo.blownSeen ∧ t.capo.vaon = s.capo.vaon

/-- `t` keeps that and every byte of memory. -/
@[simp] abbrev State.KeepsMem (s t : State) : Prop := s.Keeps t ∧ t.mem.cells = s.mem.cells

/-- `t` keeps that, and memory stays canonical. -/
@[simp] abbrev State.KeepsWf (s t : State) : Prop :=
  s.Keeps t ∧ (Memory.wf s.mem.cells = true → Memory.wf t.mem.cells = true)

/-- A command completes: it answers a next state, of which `P` holds. -/
def Completes (i : Instr) (s : State) (P : State → Prop) : Prop := ∃ t, exec i s = .next t ∧ P t

/-- The entries listed apart, every dictionary entry holds in `t` what it held in `s`. -/
def State.EntriesBut (s t : State) (entries : List (Nat × Nat)) : Prop :=
  ∀ i b, (∀ p ∈ entries, dkey p.1 p.2 ≠ dkey i b) → t.val i b = s.val i b

/-- `t` differs from `s` in dictionary entries only, and of those only in the entries listed. -/
def State.OnlyEntries (s t : State) (entries : List (Nat × Nat)) : Prop :=
  t = { s with dict := t.dict } ∧ s.EntriesBut t entries

/-- The invariant of every step: memory is in its canonical form. -/
def State.Inv (s : State) : Prop := Memory.wf s.mem.cells = true

end Sys2Proof.Machine
end

