-- ==== Sys2Proof/Certificates/Slice0/Obligations.lean ====
section
/-! DEFINITION. The statements for the provers, family by family of the command table. -/

open Sys2Proof
open Sys2Proof.Machine

/-! ### The block -/

/-- The command at the front of the queue runs on the state with the queue's rest (the block's reading of "a step").
Choices of the model's it rests on: log 8. -/
def Obligations.StepRunsFrontCommand : Prop :=
  ∀ (c : Instr) (s : State), step (s.pushFront c) = exec c s

/-- The model's choice (log 2): with an empty queue one slot of the slot domain passes. The slot counter advances by one while
the domain runs; the time base advances by 5 ns at every second slot (R79) while the domain runs or REFCLK is present. A slot is
2.5 ns of uptime over 1 + q / 2³², q the steps of steering that the servo's correction makes (R80), the remainder carried on.
Without REFCLK the elapsed time of the safety domain advances with the uptime. REFCLK, the queue and the capo's class stay. -/
def Obligations.EmptyQueueIsOneSlot : Prop :=
  ∀ s : State, s.pending = [] →
    ∃ t, step s = .next t ∧ t.pending = [] ∧
      t.clk.slot = (if s.clk.slotRun then s.clk.slot + 1 else s.clk.slot) ∧
      (s.clk.refclk = true ∨ s.clk.slotRun = true →
        t.clk.half = !s.clk.half ∧ t.clk.tai = if s.clk.half then s.clk.tai + 327680 else s.clk.tai) ∧
      (s.clk.refclk = false → s.clk.slotRun = false → t.clk.half = s.clk.half ∧ t.clk.tai = s.clk.tai) ∧
      (∀ q : Int, q = roundEven (s.servo.c * 4294967296 / 1000000000) → -4294967296 < q →
        ((t.clk.up - s.clk.up : Nat) : Int) * (4294967296 + q) + t.clk.rest = 163840 * 4294967296 + s.clk.rest ∧
        (t.clk.rest : Int) < 4294967296 + q) ∧
      s.clk.up ≤ t.clk.up ∧
      t.clk.elapsed = (if s.clk.refclk then s.clk.elapsed else s.clk.elapsed + (t.clk.up - s.clk.up)) ∧
      t.clk.refclk = s.clk.refclk ∧ t.clk.slotRun = s.clk.slotRun ∧ t.capo.sel = s.capo.sel ∧ t.capo.blown = s.capo.blown

/-- Memory is canonical at reset. -/
def Obligations.ResetMeetsInvariant : Prop := State.reset.Inv ∧ State.reset.pending = []

/-- Every step from a state with canonical memory gives a state with canonical memory. -/
def Obligations.StepKeepsMemoryCanonical : Prop :=
  ∀ s t : State, s.Inv → step s = .next t → t.Inv

/-- Every command other than MEMORY_REQUEST answers a next state in every state, whatever its operands; it leaves the queue of
the commands that wait and the time counted as they were: time passes on an empty queue only. MEMORY_REQUEST does so too, but for
an address beyond the region of its class (R438), which is a fault. That an event out of its state does nothing is the model's
choice (log 1). -/
def Obligations.EveryCommandAnswers : Prop :=
  ∀ (c : Instr) (s : State),
    ((∀ port cls addr op bad, c ≠ .memoryRequest port cls addr op bad) →
      ∃ t, exec c s = .next t ∧ t.pending = s.pending ∧ t.clk.up = s.clk.up) ∧
    (∀ port cls addr op bad, c = .memoryRequest port cls addr op bad →
      (addr + reqLen op ≤ s.mem.classBytes cls → ∃ t, exec c s = .next t ∧ t.pending = s.pending ∧ t.clk.up = s.clk.up) ∧
      (s.mem.classBytes cls < addr + reqLen op → s.mem.chanMiB ≠ 0 → portClass port.val cls = true →
        s.hasCredit (useMemory port.val) = true → exec c s = .fault .noSuchAddress))

/-- R375: the class comes from the straps sampled at VAON and from the fuses blown by then. No command but VAON_VALID and
the reset of the always-on rail changes what the class in force is made of, and FUSEPROG alone blows a fuse. -/
def Obligations.OnlyPowerChangesTheClass : Prop :=
  ∀ (c : Instr) (s t : State), exec c s = .next t →
    ((∀ sel, c ≠ .vaonValid sel) → c ≠ .railReset 10 →
      t.capo.sel = s.capo.sel ∧ t.capo.blownSeen = s.capo.blownSeen ∧ t.classInForce = s.classInForce) ∧
    ((∀ mask, c ≠ .fuseprog mask) → t.capo.blown = s.capo.blown)

/-! ### Dictionary items -/

/-- R39, R76: an item that the look-up refuses is answered with the status and changes nothing. R60: before the start sequence
completes no item is answered or carried out. Table 2.2: a read of a WO
entry, a write or a staging of an RO entry is answered 0x04, a staging of a WO entry 0x05; none changes anything. R43:
WRITE of an RW or RP entry of fixed size is answered at once; a value whose type, length or range the entry does not
take leaves everything as it was. -/
def Obligations.RefusalsChangeNothing : Prop :=
  (∀ (m : MasterId) (it : Item) (v : List Byte) (s : State), s.ozRuns = false → s.oz.resetPending = false →
     exec (.read m it) s = .next s ∧ exec (.write m it v) s = .next s ∧ exec (.stage m it v) s = .next s ∧
     exec (.readStaged m it) s = .next s ∧ exec (.subscribe m it v) s = .next s ∧ exec (.unsubscribe m it) s = .next s) ∧
  (∀ (m : MasterId) (it : Item) (v : List Byte) (e : Nat) (s : State),
     s.ozRuns = true → s.lookup it = .error e → s.oz.resetPending = false →
     exec (.read m it) s = .next (s.answer 0x01 { it with final := false } e []) ∧
     exec (.write m it v) s = .next (s.answer 0x02 { it with final := false } e []) ∧
     exec (.stage m it v) s = .next (s.answer 0x03 { it with final := false } e []) ∧
     exec (.readStaged m it) s = .next (s.answer 0x04 { it with final := false } e []) ∧
     exec (.subscribe m it v) s = .next (s.answer 0x05 { it with final := false } e []) ∧
     exec (.unsubscribe m it) s = .next (s.answer 0x06 { it with final := false } e [])) ∧
  (∀ (m : MasterId) (it : Item) (r : Row) (v : List Byte) (s : State),
     s.ozRuns = true → s.lookup it = .ok r → s.oz.resetPending = false →
     (accOf it.index r = .wo →
       exec (.read m it) s = .next (s.answer 0x01 { it with final := false, type := codeOf r.ty } 0x04 []) ∧
       exec (.readStaged m it) s = .next (s.answer 0x04 { it with final := false, type := codeOf r.ty } 0x04 []) ∧
       exec (.stage m it v) s = .next (s.answer 0x03 { it with final := false, type := codeOf r.ty } 0x05 [])) ∧
     (accOf it.index r = .ro →
       exec (.write m it v) s = .next (s.answer 0x02 { it with final := false, type := codeOf r.ty } 0x04 []) ∧
       exec (.stage m it v) s = .next (s.answer 0x03 { it with final := false, type := codeOf r.ty } 0x04 []))) ∧
  (∀ (m : MasterId) (it : Item) (r : Row) (v : List Byte) (s : State),
     s.ozRuns = true → s.lookup it = .ok r → (accOf it.index r = .rw ∨ accOf it.index r = .rp) → s.oz.resetPending = false →
     (∀ e, itemValue it r v = .error e →
       exec (.write m it v) s = .next (s.answer 0x02 { it with final := false, type := codeOf r.ty } e [])) ∧
     (∀ x e, itemValue it r v = .ok x → it.offset = 0 → s.wholeValue it.index it.sub r x = .error e →
       exec (.write m it v) s = .next (s.answer 0x02 { it with final := false, type := codeOf r.ty } e [])))

/-- R42, R541: READ of an entry of fixed size answers its live value, READ_STAGED the master's staged value or else the
live one; neither changes anything but the answers given. -/
def Obligations.ReadAnswersValue : Prop :=
  ∀ (m : MasterId) (it : Item) (r : Row) (n : Nat) (s : State),
    s.ozRuns = true → s.lookup it = .ok r → accOf it.index r ≠ .wo → Sys2Proof.Machine.sizeOf r.ty = some n → it.offset = 0 →
    exec (.read m it) s = .next (s.answer 0x01 { it with final := false, type := codeOf r.ty } 0x00
      (encodeVal r.ty (s.liveVal m.val it.index it.sub))) ∧
    exec (.readStaged m it) s = .next (s.answer 0x04 { it with final := false, type := codeOf r.ty } 0x00
      (encodeVal r.ty (match (s.masterAt m.val).stage.find? (fun t => t.key == dkey it.index it.sub) with
        | some t => t.val
        | none => s.liveVal m.val it.index it.sub)))

/-- R62: a value staged by STAGE, or by WRITE of an RS entry, joins the master's own stage set, replacing the value staged
there before, and is answered 0x06 (0x0B where a capo limit held it at its bound); nothing else changes. -/
def Obligations.StagingFillsTheStageSet : Prop :=
  ∀ (m : MasterId) (it : Item) (r : Row) (n : Nat) (v : List Byte) (x y : Val) (held : Bool) (s : State),
    s.ozRuns = true → s.lookup it = .ok r → Sys2Proof.Machine.sizeOf r.ty = some n → itemValue it r v = .ok x →
    s.wholeValue it.index it.sub r x = .ok (y, held) →
    ((s.masterAt m.val).stage.any (fun t => t.key == dkey it.index it.sub) = true ∨ (s.masterAt m.val).stage.length < 1024) →
    s.oz.resetPending = false →
    let put := s.masterPut m.val { s.masterAt m.val with
      stage := stagePut (s.masterAt m.val).stage { key := dkey it.index it.sub, val := y, finished := true } }
    let status := if held then 0x0B else 0x06
    (accOf it.index r ≠ .ro → accOf it.index r ≠ .wo →
      exec (.stage m it v) s = .next (put.answer 0x03 { it with final := false, type := codeOf r.ty } status [])) ∧
    (accOf it.index r = .rs →
      exec (.write m it v) s = .next (put.answer 0x02 { it with final := false, type := codeOf r.ty } status []))

/-- R70: SUBSCRIBE adds the entry to the master's subscriptions with its period, raised to the entry's minimum, or renews
it there, as from the value it has now; UNSUBSCRIBE takes it out. Nothing else changes. -/
def Obligations.SubscriptionsFollowTheMaster : Prop :=
  ∀ (m : MasterId) (it : Item) (r : Row) (v : List Byte) (s : State),
    s.ozRuns = true → s.lookup it = .ok r →
    let x := s.masterAt m.val
    let key := dkey it.index it.sub
    let p := bits (leNat v) 31 16
    let sub : Sub := { key := key, period := if p = 0 then 0 else max p (minPeriod it.index it.sub),
                       shown := s.liveVal m.val it.index it.sub }
    let typed : Item := { it with final := false, type := codeOf r.ty }
    (accOf it.index r ≠ .wo → v.length = 4 → x.subs.any (fun t => t.key == key) = false → x.subs.length < 64 →
      s.subsInUse < 4096 →
      exec (.subscribe m it v) s = .next ((s.masterPut m.val { x with subs := x.subs ++ [sub] }).answer 0x05 typed 0x00 [])) ∧
    (accOf it.index r ≠ .wo → v.length = 4 → x.subs.any (fun t => t.key == key) = true →
      exec (.subscribe m it v) s = .next ((s.masterPut m.val { x with
        subs := x.subs.map (fun t => if t.key = key then sub else t) }).answer 0x05 typed 0x00 [])) ∧
    exec (.unsubscribe m it) s = .next ((s.masterPut m.val { x with
      subs := x.subs.filter (fun t => t.key != key) }).answer 0x06 typed 0x00 [])

/-! ### Commits -/

/-- R63, R69: ABORT empties the master's stage set and shows its tag with state 4 in 1400:05; a commit word with bit 0 set
is the same. R64, R68: a commit beyond four of its master's pending, or 256 of the device's, is answered 0x08 and
leaves the stage set as it was; 1400:05 shows the tag, the status and state 3. A WRITE of an RW or RP entry, which is a commit
of one item (R43), is answered 0x08 then and changes nothing. With fewer than four of its master's pending, and 256 of the
device's, a time commit that passes its checks is accepted and pends. -/
def Obligations.AbortedAndBusyCommits : Prop :=
  (∀ (m : MasterId) (word : BitVec 32) (s : State), s.ozRuns = true → s.serves 0x1400 = true →
     let t := (s.masterPut m.val { s.masterAt m.val with
       stage := [], lastCommit := resultWord (bits word.toNat 31 24) 0 4, lastId := none }).answer
         0x02 (writeItem 0x04 0x1400 1 4) 0x00 []
     exec (.abort m word) s = .next t ∧ (bit word.toNat 0 = true → exec (.commit m word) s = .next t)) ∧
  (∀ (m : MasterId) (word : BitVec 32) (s : State), s.ozRuns = true → s.serves 0x1400 = true → bit word.toNat 0 = false →
     (4 ≤ (s.oz.commits.filter (fun p => p.master == m.val && !p.policy)).length ∨ 256 ≤ s.oz.commits.length) →
     exec (.commit m word) s = .next ((s.masterPut m.val { s.masterAt m.val with
       lastCommit := resultWord (bits word.toNat 31 24) 0x08 3, lastId := none }).answer
         0x02 (writeItem 0x04 0x1400 1 4) 0x08 [])) ∧
  (∀ (m : MasterId) (it : Item) (r : Row) (v : List Byte) (x y : Val) (held : Bool) (s : State),
     s.ozRuns = true → s.lookup it = .ok r → (accOf it.index r = .rw ∨ accOf it.index r = .rp) → s.oz.resetPending = false →
     itemValue it r v = .ok x → it.offset = 0 → s.wholeValue it.index it.sub r x = .ok (y, held) →
     ¬ (0x3000 ≤ it.index ∧ it.index < 0x3060 ∧ it.sub = 0x22) → ¬ (it.index = 0x7100 ∧ it.sub = 0x0A) →
     (4 ≤ (s.oz.commits.filter (fun p => p.master == m.val && !p.policy)).length ∨ 256 ≤ s.oz.commits.length) →
     exec (.write m it v) s = .next (s.answer 0x02 { it with final := false, type := codeOf r.ty } 0x08 [])) ∧
  (∀ (m : MasterId) (word : BitVec 32) (u : State) (s : State),
     s.ozRuns = true → s.serves 0x1400 = true → bit word.toNat 0 = false → bits word.toNat 7 4 = 2 →
     (s.oz.commits.filter (fun p => p.master == m.val && !p.policy)).length < 4 → s.oz.commits.length < 256 →
     (s.masterAt m.val).stage.all (fun t => t.finished) = true →
     s.checkCommit 2 (s.commitTarget m.val 2) (commitTime (s.commitTarget m.val 3))
       ((s.masterAt m.val).stage.map (fun t => (t.key, t.val))) = (u, none) →
     u.oz.commits = s.oz.commits → (∀ q ∈ s.oz.commits, q.todo ≠ []) →
     (u.todoOf 2 ((s.masterAt m.val).stage.map (fun t => (t.key, t.val)))) ≠ [] →
     Completes (.commit m word) s (fun t => t.oz.commits.length = s.oz.commits.length + 1 ∧
       t.oz.answered = u.oz.answered ++ [(0x02, writeItem 0x04 0x1400 1 4, 0x00, [])]))

/-- R63, R64, R65: a time commit whose items pass every check joins the pending commits with the next number, empties the
stage set, shows state 1 in 1400:05 and is answered 0x00; none of its items has applied. `u` is the state with the
reports of the checks written. Choices of the model's it rests on: logs 51, 60. -/
def Obligations.TimeCommitIsTakenWhole : Prop :=
  ∀ (m : MasterId) (word : BitVec 32) (u : State) (s : State),
    s.ozRuns = true → s.serves 0x1400 = true → bit word.toNat 0 = false → bits word.toNat 7 4 = 2 →
    (s.oz.commits.filter (fun p => p.master == m.val && !p.policy)).length < 4 → s.oz.commits.length < 256 →
    (s.masterAt m.val).stage.all (fun t => t.finished) = true →
    let frame := s.commitTarget m.val 2
    let time := commitTime (s.commitTarget m.val 3)
    let items := (s.masterAt m.val).stage.map (fun t => (t.key, t.val))
    s.checkCommit 2 frame time items = (u, none) →
    (∀ q ∈ u.oz.commits, q.todo ≠ []) →
    let v := u.masterPut m.val { u.masterAt m.val with
      stage := [], lastCommit := resultWord (bits word.toNat 31 24) 0 1, lastId := some u.oz.nextId }
    v.todoOf 2 items ≠ [] →
    exec (.commit m word) s = .next (({ v with oz := { v.oz with
      nextId := u.oz.nextId + 1
      commits := u.oz.commits ++ [{ id := u.oz.nextId, master := m.val, policy := false, selector := 2, frame := frame, time := time,
                                    todo := v.todoOf 2 items, superseded := false }] } } : State).answer
        0x02 (writeItem 0x04 0x1400 1 4) 0x00 [])

/-- Table 2.6a: when the time base reaches its target, a pending time commit of the heartbeat period (1100:10) applies:
the entry takes the value, the commit is pending no more, and no other entry changes. -/
def Obligations.TimeCommitAppliesAtItsTime : Prop :=
  ∀ (q : Pending) (n : Nat) (s : State), s.oz.commits = [q] → q.selector = 2 → q.time ≤ s.clk.tai →
    q.todo = [{ key := dkey 0x1100 0x10, val := .num n, cls := .device, after := false }] →
    Completes (.commitApply .time) s (fun t =>
      t.nat 0x1100 0x10 = n ∧ t.oz.commits = [] ∧ s.EntriesBut t [(0x1100, 0x10)])

/-! ### Ozilo and its transports -/

/-- R59: a request whose sequence is that of a kept response is answered with that response and executed no second time;
one outside the window is discarded and 1100:08 counts it. R58: a ninth request of a master is answered 0x08 and not executed.
R60, R78: before D5, or sent to another address or port than those in force, a message is dropped. R540: a message that is too short or has another magic is
dropped in silence, one with a wrong CRC is counted in 1100:07, one with a wrong version, item count or length is
answered with a message status and no items. Choices of the model's it rests on: logs 125, 127. -/
def Obligations.RequestsAreCheckedFirst : Prop :=
  (∀ (src : Source) (msg : List Byte) (seq m : Nat) (items : List ReqItem) (s : State),
     s.ozRuns = true → s.reaches src = true → checkMessage msg = .pass seq items → s.knownMaster src = some m →
     (∀ k, (s.masterAt m).kept.find? (fun k => k.seq == seq) = some k →
       exec (.oziloRequest src msg) s = .next (s.respond src false k.response)) ∧
     (∀ l, (s.masterAt m).kept.find? (fun k => k.seq == seq) = none → (s.masterAt m).last = some l →
       ((seq + 65536 - l) % 65536 < 1 ∨ 32767 < (seq + 65536 - l) % 65536) →
       exec (.oziloRequest src msg) s = .next (s.bump 0x1100 8))) ∧
  (∀ (src : Source) (msg : List Byte) (seq m : Nat) (items : List ReqItem) (s : State),
     s.ozRuns = true → s.reaches src = true → checkMessage msg = .pass seq items → s.knownMaster src = some m →
     (s.masterAt m).kept.find? (fun k => k.seq == seq) = none → inWindow (s.masterAt m).last seq = true → 8 ≤ s.outstanding m →
     exec (.oziloRequest src msg) s = .next (s.respond src false (message 0x02 seq m 0 0x08 []))) ∧
  (∀ (src : Source) (msg : List Byte) (s : State), (s.ozRuns = false ∨ s.reaches src = false) →
     exec (.oziloRequest src msg) s = .next s) ∧
  (∀ (src : Source) (msg : List Byte) (s : State), s.ozRuns = true → s.reaches src = true →
     ((msg.length < 20 ∨ slice 0 2 msg ≠ [0x4F, 0x5A]) → exec (.oziloRequest src msg) s = .next s) ∧
     (20 ≤ msg.length → slice 0 2 msg = [0x4F, 0x5A] →
       leAt msg (msg.length - 4) 4 ≠ crc32c (msg.take (msg.length - 4)) →
       exec (.oziloRequest src msg) s = .next (s.bump 0x1100 7)) ∧
     (∀ seq st, checkMessage msg = .answer seq st →
       exec (.oziloRequest src msg) s = .next (s.respond src false (message 0x02 seq ((s.knownMaster src).getD 0xFFFF) 0 st []))))

/-- R51, R56, R57, R541: a request with one READ, from a known master and in sequence, is answered by one message that
carries the value and is kept among the last eight: sent on UDP, placed in a PCIe context whose ready word is clear
with its vector raised, and left waiting on the SPI port. The request takes an entry of the master's request queue and a
credit of its response queue (R12), which the response gives back as it goes out. Choices of the model's it rests on: logs 121, 122, 127. -/
def Obligations.ReadRequestIsAnswered : Prop :=
  ∀ (src : Source) (msg : List Byte) (seq m n : Nat) (it : Item) (r : Row) (s : State),
    s.ozRuns = true → s.reaches src = true → checkMessage msg = .pass seq [{ op := 1, it := it, value := [] }] →
    s.knownMaster src = some m →
    (s.masterAt m).kept.find? (fun k => k.seq == seq) = none → inWindow (s.masterAt m).last seq = true → s.outstanding m < 8 →
    itemTooLong { op := 1, it := it, value := [] } = false →
    s.lookup it = .ok r → accOf it.index r ≠ .wo → Sys2Proof.Machine.sizeOf r.ty = some n → it.offset = 0 →
    s.oz.resetPending = false →
    let u := (s.masterPut m { s.masterAt m with seen := true, last := some seq }).requestIn m
    let resp := message 0x02 seq m 1 0x00 (itemBytes 1 false { it with final := false, type := codeOf r.ty } 0x00
      (encodeVal r.ty (u.liveVal m it.index it.sub)))
    let kept := (u.masterAt m).kept ++ [{ seq := seq, response := resp }]
    let w := u.masterPut m { u.masterAt m with kept := kept.drop (kept.length - 8) }
    (∀ ip port toIp toPort, src = .udp ip port toIp toPort →
      exec (.oziloRequest src msg) s = .next ((w.responseOut m).send (.ozilo src resp))) ∧
    (∀ (ctx : Fin 64) (window : List Byte) (v : BitVec 64), src = .pcie ctx → (w.ctxAt ctx.val).ready = 0 →
      bits v.toNat 15 0 ≤ window.length → window.take (bits v.toNat 15 0) = msg →
      exec (.dictionaryDoorbell ctx window v) s = .next (((w.ctxPut ctx.val { w.ctxAt ctx.val with
        response := resp, ready := leAt resp 3 1 * 65536 + resp.length % 65536 }).send (.msix ctx.val)).responseOut m)) ∧
    (∀ (len : Nat) (unit : List Byte), src = .spi → len ≤ unit.length → unit.take len = msg →
      exec (.spiRequest len unit) s = .next { w with oz := { w.oz with spi := w.oz.spi ++ [(true, resp)] } })

/-- R56: clearing the ready word places the response that waits longest, with its type and length in the ready word and
the context's vector raised, and the request it answers, where there is one, is outstanding no more (R58); else the
publication that waits longest; else the word reads 0. R57: the SPI port returns
the length and the response that waits longest, or length 0; a status byte with bit 0 response waiting and bit 1 busy;
and 0xFF for every byte of an unknown command. Choices of the model's it rests on: logs 127, 128. -/
def Obligations.WaitingResponsesArePlacedAndRead : Prop :=
  (∀ (ctx : Fin 64) (s : State),
     let x := s.ctxAt ctx.val
     (∀ p l, x.queued = p :: l →
       let t := (s.ctxPut ctx.val { x with
         queued := l, response := p.2, ready := leAt p.2 3 1 * 65536 + p.2.length % 65536 }).send (.msix ctx.val)
       exec (.readyWordClear ctx) s = .next (if p.1 then t.responseOut (ctx.val + 1) else t)) ∧
     (∀ p l, x.queued = [] → x.waiting = p :: l → exec (.readyWordClear ctx) s = .next ((s.ctxPut ctx.val { x with
       waiting := l, response := p.2, ready := leAt p.2 3 1 * 65536 + p.2.length % 65536 }).send (.msix ctx.val))) ∧
     (x.queued = [] → x.waiting = [] → exec (.readyWordClear ctx) s = .next (s.ctxPut ctx.val { x with ready := 0 }))) ∧
  (∀ (cmd : Byte) (len : Nat) (s : State),
     (s.oz.spi = [] → exec .spiReadResponse s = .next (s.send (.spi [0x00, 0x00]))) ∧
     (∀ p l, s.oz.spi = p :: l →
       let t := ({ s with oz := { s.oz with spi := l } } : State).send (.spi (leBytes 2 p.2.length ++ p.2))
       exec .spiReadResponse s = .next (if p.1 then t.responseOut 0 else t)) ∧
     (∀ w b : Bool, s.oz.spi.isEmpty = !w → s.ozRuns = !b → exec .spiStatus s =
       .next (s.send (.spi [BitVec.ofNat 8 ((if w then 1 else 0) + (if b then 2 else 0))]))) ∧
     exec (.spiUnknownCommand cmd len) s = .next (s.send (.spi (List.replicate len 0xFF))))

/-- R72: a heartbeat to the address of 1100:11 has the next number, in 1100:13 and in its sequence field, and a body of 32
bytes. With no address set each copy goes to a UDP master under that master's number. R56, R71: a publication carries
the master's publication sequence, which advances by one; it is sent to a UDP master, and on PCIe it waits where the
ready word is set, in place of a waiting one of the same entry. R55, R78: a UDP master that is forgotten starts
afresh, its pending commits standing under no master's number; masters 0 to 64 are never forgotten. A change of address takes up the four entries and forgets the UDP
masters. Where a command's condition does not hold it does nothing: the model's choice (log 1). Other choices of the
model's it rests on: logs 129, 133. -/
def Obligations.HeartbeatsAndPublicationsAreSent : Prop :=
  (∀ s : State, s.ozRuns = true →
     let n := (s.nat 0x1100 0x13 + 1) % 2 ^ 32
     let u := s.putN 0x1100 0x13 n
     (s.nat 0x1100 0x11 ≠ 0 → exec .heartbeat s =
       .next (u.send (.heartbeat (s.nat 0x1100 0x11) (s.nat 0x1100 0x12) (message 0x04 (n % 65536) 0xFFFF 0 0x00 s.heartbeatBody)))) ∧
     (∀ m ip port x, s.nat 0x1100 0x11 = 0 → s.oz.masters = [(m, x)] → x.addr = some (ip, port) → exec .heartbeat s =
       .next (u.send (.ozilo (.udp ip port s.localIp s.localPort) (message 0x04 (n % 65536) m 0 0x00 s.heartbeatBody)))) ∧
     s.heartbeatBody.length = 32) ∧
  (∀ (m : MasterId) (index sub : Nat) (r : Row) (s : State),
     s.ozRuns = true → (s.masterAt m.val).subs.any (fun t => t.key == dkey index sub && s.subDue m.val t) = true →
     s.serves index = true → rowOf index sub = some r →
     let x := s.masterAt m.val
     let msg := s.publicationOf m.val index sub r
     let u := s.masterPut m.val { x with
       pubSeq := (x.pubSeq + 1) % 65536
       subs := x.subs.map (fun t => if t.key = dkey index sub then
         { t with shown := s.liveVal m.val index sub, sent := some (s.clk.up, s.frameMark index sub) } else t) }
     leAt msg 4 2 = x.pubSeq % 65536 ∧
     (∀ ip port, 65 ≤ m.val → x.addr = some (ip, port) →
       exec (.publication m index sub) s = .next (u.send (.ozilo (.udp ip port s.localIp s.localPort) msg))) ∧
     (∀ p, 1 ≤ m.val → m.val < 65 → (s.ctxAt (m.val - 1)).ready ≠ 0 → (s.ctxAt (m.val - 1)).waiting = [(dkey index sub, p)] →
       exec (.publication m index sub) s =
         .next (u.ctxPut (m.val - 1) { s.ctxAt (m.val - 1) with waiting := [(dkey index sub, msg)] })) ∧
     (∀ (j : Sub), x.subs = [j] → 0 < j.period → j.key = dkey index sub →
       Completes (.publication m index sub) s (fun t => 1 ≤ m.val → exec (.publication m index sub) t = .next t))) ∧
  (∀ (m : MasterId) (s : State),
     (65 ≤ m.val → Completes (.masterForgotten m) s (fun t => t.masterAt m.val = {} ∧
       (∀ k, k ≠ m.val → t.masterAt k = s.masterAt k) ∧
       t.oz.commits = s.oz.commits.map (fun p => if p.master = m.val then { p with master := 16384 } else p) ∧
       t.outstanding m.val = 0 ∧
       t = { s with oz := { s.oz with masters := t.oz.masters, commits := t.oz.commits }, queues := t.queues })) ∧
     (m.val < 65 → exec (.masterForgotten m) s = .next s) ∧
     (s.oz.addrPending = true → Completes .addressChange s (fun t =>
       t.oz.addrInForce = [s.nat 0x1100 1, s.nat 0x1100 2, s.nat 0x1100 3, s.nat 0x1100 4] ∧ t.oz.addrPending = false ∧
       t.oz.masters = s.oz.masters.filter (fun p => decide (p.1 < 65)) ∧
       t.oz.commits = s.oz.commits.map (fun p => if 65 ≤ p.master then { p with master := 16384 } else p) ∧
       t = { s with
         oz := { s.oz with
           addrPending := false, addrInForce := t.oz.addrInForce, masters := t.oz.masters, commits := t.oz.commits }
         queues := t.queues })))

/-! ### The persistent store -/

/-- R45, R47: once writes can be made again the held ones join those under way in the order they were made, and the
persistence state returns to 0 unless it reads 3; 3 is cleared by writing 0, and any other value is refused with 0x05.
R44, R471: a persistent write completes in journal order: the oldest write under way reaches the persisted values and
the journal sequence advances by one; while the journal has no room for the oldest held write, the held ones wait. The write of
7100:0A is a commit of one item, and answered 0x08 beyond the limits of R68. The powered-on time is persisted with the value it has reached. Choices of the
model's it rests on: logs 14, 50. -/
def Obligations.PersistentWritesKeepTheirOrder : Prop :=
  (∀ (m : MasterId) (v : Byte) (s : State),
     (s.canPersist = true → s.store.stopped = false → s.store.held.isEmpty = false →
       journalFill s.store + (s.store.held.map (fun w => w.size + 16)).sum ≤ journalMax → exec .heldWritesFlush s =
       .next { s with store := { s.store with
         under := s.store.under ++ s.store.held, held := [], pstate := if s.store.pstate = 3 then 3 else 0 } }) ∧
     (∀ w l, s.canPersist = true → s.store.stopped = false → s.store.held = w :: l →
       journalMax < journalFill s.store + (w.size + 16) →
       Completes .heldWritesFlush s (fun t => t.store.under = s.store.under ∧ t.store.held = s.store.held ∧
         t = { s with store := { s.store with pstate := t.store.pstate } })) ∧
     (s.ozRuns = true → s.serves 0x7100 = true → v ≠ 0 → exec (.persistenceStateClear m v) s =
       .next (s.answer 0x02 (writeItem 0x02 0x7100 0x0A 1) 0x05 [])) ∧
     (s.ozRuns = true → s.serves 0x7100 = true → s.commitsFull m.val = true → exec (.persistenceStateClear m 0) s =
       .next (s.answer 0x02 (writeItem 0x02 0x7100 0x0A 1) 0x08 [])) ∧
     (s.ozRuns = true → s.serves 0x7100 = true → s.commitsFull m.val = false → Completes (.persistenceStateClear m 0) s (fun t =>
       (s.store.pstate = 3 → s.store.held = [] → t.store.pstate = 0) ∧ t.dict = s.dict ∧ t.mem = s.mem ∧ t.out = s.out))) ∧
  (∀ (w : PWrite) (l : List PWrite) (s : State),
     (s.store.stopped = false → s.canPersist = true → s.store.under = w :: l → w.key < 2 ^ 24 →
       Completes (.persistentWrite none) s (fun t => t.store.under = l ∧ tfind t.store.image w.key = some w.val ∧
         (∀ k, k ≠ w.key → tfind t.store.image k = tfind s.store.image k) ∧ t.store.seq = s.store.seq + 1 ∧
         t = { s with store := t.store })) ∧
     (s.store.stopped = false → s.canPersist = true → s.store.held = [] → journalFill s.store + 48 ≤ journalMax →
       let v : Val := .num (s.int 0x7100 0x0D + (((s.clk.up - s.clk.began) / tS : Nat) : Int))
       exec .poweredTimePersist s = .next { s with store := { s.store with
         under := s.store.under ++ [{ key := dkey 0x7100 0x0D, val := v, size := pwSize v }] } }))

/-! ### Time -/

/-- R83: a Sync counts where it comes on the enabled port that is followed, in the committed domain and with nothing that is not
supported. R85: one within the step threshold, in LOCKED, computes the correction by the formula of R85: proportional and
integral terms, the slew bound, the steering range, the integral term frozen while the slew bound holds. R87: in
ACQUIRING an offset above the step threshold steps the time base by −o, restarts the integral term, keeps the
correction and counts in 1200:0F; in LOCKED the fourth such offset in a row is a jump: HOLDOVER, with 1200:10 and
1200:11 advanced and no step. Choices of the model's it rests on: logs 3, 16, 20. -/
def Obligations.ServoFollowsItsOffsets : Prop :=
  (∀ (port : PortId) (o : Int) (t0 : Nat) (s : State),
     s.flag 0x1201 1 port.val = true → s.servo.selected = true → s.nat 0x1201 0x0B = port.val → s.nat 0x1200 3 = 2 →
     o.natAbs ≤ s.nat 0x1200 8 → s.servo.lastSync = some t0 →
     let dt : Rat := ((s.clk.up - t0 : Nat) : Rat) / (tS : Rat)
     let i : Rat := s.servo.integ + s.fix 0x1200 0x0B * o
     let new : Rat := s.fix 0x1200 0x0A * o + i
     let bound : Rat := 1000 * s.fix 0x1200 7 * dt
     Completes (.ptpSync port { domain := s.nat 0x1201 3, beyond := [], offset := o }) s (fun t =>
       t.servo.c = clampR (-250000) 250000 (clampR (s.servo.c - bound) (s.servo.c + bound) new) ∧
       t.servo.integ = (if new < s.servo.c - bound ∨ s.servo.c + bound < new then s.servo.integ else i) ∧
       t.servo.lastSync = some s.clk.up ∧ t.nat 0x1200 3 = 2 ∧ t.clk = s.clk)) ∧
  (∀ (port : PortId) (o : Int) (s : State),
     s.flag 0x1201 1 port.val = true → s.servo.selected = true → s.nat 0x1201 0x0B = port.val →
     s.nat 0x1200 8 < o.natAbs →
     (s.nat 0x1200 3 = 1 → Completes (.ptpSync port { domain := s.nat 0x1201 3, beyond := [], offset := o }) s (fun t =>
       t.clk.tai = ((s.clk.tai : Int) - o * (tNs : Int)).toNat ∧ t.servo.integ = 0 ∧ t.servo.c = s.servo.c ∧
       t.servo.lastSync = some s.clk.up ∧ t.nat 0x1200 0x0F = min (s.nat 0x1200 0x0F + 1) 0xFFFFFFFF)) ∧
     (s.nat 0x1200 3 = 2 → s.servo.jumpRun = 3 → Completes (.ptpSync port { domain := s.nat 0x1201 3, beyond := [], offset := o }) s (fun t =>
       t.nat 0x1200 3 = 3 ∧ t.nat 0x1200 0x10 = min (s.nat 0x1200 0x10 + 1) 0xFFFFFFFF ∧
       t.nat 0x1200 0x11 = min (s.nat 0x1200 0x11 + 1) 0xFFFFFFFF ∧ t.servo.c = s.servo.c ∧ t.clk = s.clk))) ∧
  (∀ (port : PortId) (domain : Nat) (beyond : List PtpFeature) (o : Int) (s : State),
     (s.flag 0x1201 1 port.val = false ∨ domain ≠ s.nat 0x1201 3 ∨ beyond ≠ [] ∨ s.servo.selected = false ∨
       s.nat 0x1201 0x0B ≠ port.val) → exec (.ptpSync port { domain := domain, beyond := beyond, offset := o }) s = .next s)

/-- R83, R84, R86 (Table 3.2): the first Announce of the domain on an enabled port selects its sender in FREE and enters
ACQUIRING; a delay response of the slave port, by the delay mechanism of the profile, shows the path delay; a message of another
domain, on a port that is not enabled, or that uses what is not supported, is discarded; the expiry of every announce timeout enters
HOLDOVER from LOCKED and ACQUIRING with no master selected; and HOLDOVER that has lasted its limit is HOLDOVER
EXPIRED. R82: a write of 1200:0D sets the time base to the written value as a step, counted in 1200:0F, in FREE only;
in any other servo state it is refused with 0x07, and a time with a billion nanoseconds or more with 0x05, and nothing
changes. -/
def Obligations.TimeBaseFollowsItsStates : Prop :=
  (∀ (port : PortId) (a : Announce) (delay : Nat) (s : State), s.flag 0x1201 1 port.val = true →
     (a.domain = s.nat 0x1201 3 → a.beyond = [] → s.servo.foreign = [] → s.servo.selected = false → s.nat 0x1200 3 = 0 →
       Completes (.ptpAnnounce port a) s (fun t =>
         t.servo.selected = true ∧ t.nat 0x1200 3 = 1 ∧ t.nat 0x1201 9 = a.grandmaster ∧ t.nat 0x1201 0x0B = port.val ∧
         t.int 0x1200 0x0E = a.utcOffset)) ∧
     (s.nat 0x1201 0x0B = port.val → exec (.ptpDelayResponse port
         { peer := s.nat 0x1201 2 == 2, domain := s.nat 0x1201 3, beyond := [], meanPathDelay := delay }) s = .next (s.putN 0x1201 0x0C (min delay 0xFFFFFFFF))) ∧
     (s.nat 0x1200 3 = 1 ∨ s.nat 0x1200 3 = 2 → Completes .announceReceiptTimeout s (fun t =>
       t.nat 0x1200 3 = 3 ∧ t.servo.selected = false ∧ t.servo.foreign = [] ∧ t.nat 0x1201 0x0B = 0xFF ∧
       t.servo.fromAcquiring = (s.nat 0x1200 3 == 1) ∧ t.servo.c = s.servo.c)) ∧
     (s.nat 0x1200 3 = 3 → s.servo.holdSince + s.nat 0x1200 6 * tS ≤ s.clk.up →
       Completes .holdoverExpired s (fun t => t.nat 0x1200 3 = 4 ∧ t.servo.c = s.servo.c)) ∧
     (s.nat 0x1200 3 = 3 → s.clk.up < s.servo.holdSince + s.nat 0x1200 6 * tS →
       Completes .holdoverExpired s (fun t => t.nat 0x1200 3 = 3 ∧ t.servo = s.servo))) ∧
  (∀ (port : PortId) (a : Announce) (peer : Bool) (domain : Nat) (beyond : List PtpFeature) (delay : Nat) (s : State),
     ((s.flag 0x1201 1 port.val = false ∨ a.domain ≠ s.nat 0x1201 3 ∨ a.beyond ≠ []) → exec (.ptpAnnounce port a) s = .next s) ∧
     ((s.flag 0x1201 1 port.val = false ∨ domain ≠ s.nat 0x1201 3 ∨ beyond ≠ [] ∨ s.nat 0x1201 0x0B ≠ port.val) →
       exec (.ptpDelayResponse port { peer := peer, domain := domain, beyond := beyond, meanPathDelay := delay }) s = .next s)) ∧
  (∀ (m : MasterId) (v : Nat) (s : State), v < 2 ^ 80 → s.ozRuns = true → s.serves 0x1200 = true →
     let it := writeItem 0x0C 0x1200 0x0D 10
     (v / 2 ^ 48 ≤ 999999999 → s.nat 0x1200 3 = 0 → Completes (.setTime m v) s (fun t =>
       t.clk = { s.clk with tai := nsOfTime80 v * tNs } ∧ t.nat 0x1200 0x0F = min (s.nat 0x1200 0x0F + 1) 0xFFFFFFFF ∧
       t.oz.answered = s.oz.answered ++ [(0x02, it, 0x00, [])])) ∧
     (v / 2 ^ 48 ≤ 999999999 → s.nat 0x1200 3 ≠ 0 → exec (.setTime m v) s = .next (s.answer 0x02 it 0x07 [])) ∧
     (999999999 < v / 2 ^ 48 → exec (.setTime m v) s = .next (s.answer 0x02 it 0x05 [])))

/-- R95, R96: an edge of a valid input within the glitch window of its prediction is accepted: it is shown in 1210:07, is the next
prediction's base, and requests a frame, at its own time where the phase offset is 0, of each course that follows an input in
frame mode; one before the window is discarded and counted in 1210:09. An edge of an input that acquires is shown with the period
since the edge before, and the eighth good one in a row makes the input valid. The other kind of edge, and any edge of an input
that is off, does nothing. A valid input for which four predicted edges have passed enters holdover; with fewer passed, and none
due, it stays. Where a command's condition does not hold it does nothing: the model's choice (log 1). -/
def Obligations.SyncInputsFollowTheirEdges : Prop :=
  ∀ (i : Fin 4) (falling : Bool) (time l p : Nat) (s : State),
    let x := s.syncsAt i.val
    let ix := 0x1210 + i.val
    let window := s.nat ix 5 * tNs
    (s.nat ix 1 = 0 ∨ (s.nat ix 2 == 1) ≠ falling → exec (.syncInEdge i falling time) s = .next s) ∧
    (s.nat ix 1 ≠ 0 → (s.nat ix 2 == 1) = falling → s.nat ix 8 = 2 → x.predicted = some p → x.missed < 4 →
      (p ≤ time + window → time ≤ p + window →
        Completes (.syncInEdge i falling time) s (fun t =>
          t.nat ix 7 = time80 (time / tNs) ∧ t.nat ix 8 = 2 ∧ (t.syncsAt i.val).last = some time ∧ (t.syncsAt i.val).missed = 0 ∧
          ∀ k < 32, s.nat ix 1 = 1 → s.follows k 1 i.val = true → s.int (refIx k) 5 = 0 → time ≤ s.clk.tai →
            (t.frmAt k).held = some { counter := none, at_ := time, waits := !s.flybackOver k })) ∧
      (time + window < p → exec (.syncInEdge i falling time) s = .next (s.bump ix 9))) ∧
    (s.nat ix 1 ≠ 0 → (s.nat ix 2 == 1) = falling → s.nat ix 8 = 1 → x.last = some l →
      (x.predicted = none → Completes (.syncInEdge i falling time) s (fun t =>
        t.nat ix 6 = time - l ∧ t.nat ix 7 = time80 (time / tNs) ∧ (t.syncsAt i.val).last = some time ∧ t.nat ix 8 = 1)) ∧
      (x.predicted = some p → p ≤ time + window → time ≤ p + window → x.good = 7 →
        Completes (.syncInEdge i falling time) s (fun t => t.nat ix 8 = 2 ∧ t.nat ix 7 = time80 (time / tNs)))) ∧
    (s.nat ix 1 ≠ 0 → s.nat ix 8 = 2 → 4 ≤ x.missed → exec (.syncInHoldover i) s =
      .next ((s.syncsPut i.val { x with good := 0, predicted := none, holdSince := s.clk.up }).putN ix 8 3)) ∧
    (s.nat ix 1 ≠ 0 → s.nat ix 8 = 2 → x.missed = 0 → x.predicted = some p →
      (p + 3 * s.nat ix 6 + window < s.clk.tai → Completes (.syncInHoldover i) s (fun t =>
        t.nat ix 8 = 3 ∧ (t.syncsAt i.val).good = 0 ∧ (t.syncsAt i.val).holdSince = s.clk.up)) ∧
      (s.clk.tai ≤ p + window → exec (.syncInHoldover i) s = .next s)) ∧
    (s.nat ix 1 = 0 ∨ s.nat ix 8 ≠ 2 → exec (.syncInHoldover i) s = .next s)

/-- R97: in incremental mode a quadrature step moves the position by one, a change of both lines is an illegal transition,
counted, and the index arms the load of the index position, which the next count sets; in SSI mode the first good frame gives
the position and a bad frame is counted. R97, R102: a line break, the levels' return and a stop are the channel's states 6, 5 and
7, with the hush of R103 where a course follows it; a break of a channel that is off does nothing. Where a command's condition does not hold it does nothing: the model's choice (log 1). Other
choices of the model's it rests on: log 48. -/
def Obligations.ShaftsFollowTheirLines : Prop :=
  (∀ (j : Fin 8) (a b : Bool) (f : SsiFrame) (s : State), s.shaftState j.val ≠ 6 →
     let x := s.shaftsAt j.val
     (s.nat (shIx j.val) 1 = 1 → a ≠ x.a → b = x.b → x.zPending = false →
       -(2 : Int) ^ 62 ≤ s.shaftPos j.val → s.shaftPos j.val < (2 : Int) ^ 62 →
       Completes (.shaftCount j a b) s (fun t =>
         t.shaftPos j.val = s.shaftPos j.val + (if a = x.b then -1 else 1) ∧ (t.shaftsAt j.val).a = a ∧
         t.shaftState j.val = if x.certain then 2 else 5)) ∧
     (s.nat (shIx j.val) 1 = 1 → (a == x.a) = !(b == x.b) → x.zPending = true → Completes (.shaftCount j a b) s (fun t =>
         t.shaftPos j.val = (s.nat (shIx j.val) 3 : Nat) ∧ t.shaftState j.val = 2 ∧ (t.shaftsAt j.val).zPending = false)) ∧
     (s.nat (shIx j.val) 1 = 1 → a ≠ x.a → b ≠ x.b → Completes (.shaftCount j a b) s (fun t =>
         t.nat (shIx j.val) 0x11 = min (s.nat (shIx j.val) 0x11 + 1) 0xFFFFFFFF ∧ t.shaftPos j.val = s.shaftPos j.val ∧
         t.shaftState j.val = 5)) ∧
     (s.nat (shIx j.val) 1 = 1 → exec (.shaftIndex j) s = .next (s.shaftsPut j.val { x with zPending := true })) ∧
     (s.nat (shIx j.val) 1 = 2 → x.poll = none → f.highBefore = true → f.highAfter = true → s.nat (shIx j.val) 6 = 0 →
       s.nat (shIx j.val) 5 = 0 → s.nat (shIx j.val) 4 ≤ 32 →
       Completes (.ssiPoll j f) s (fun t => t.shaftPos j.val = (f.bits % 2 ^ s.nat (shIx j.val) 4 : Nat) ∧
         t.shaftState j.val = (if s.shaftState j.val = 7 ∧ t.shaftPos j.val = s.shaftPos j.val then 7 else 2))) ∧
     (s.nat (shIx j.val) 1 = 2 → f.highBefore = false → Completes (.ssiPoll j f) s (fun t =>
         t.nat (shIx j.val) 0x12 = min (s.nat (shIx j.val) 0x12 + 1) 0xFFFFFFFF ∧ t.shaftPos j.val = s.shaftPos j.val ∧
         t.shaftState j.val = 5))) ∧
  (∀ (j : Fin 8) (s : State),
     (s.nat (shIx j.val) 1 ≠ 0 → Completes (.shaftLineBreak j) s (fun t =>
       t.shaftState j.val = 6 ∧ (t.shaftsAt j.val).certain = false ∧ t.shaftPos j.val = s.shaftPos j.val)) ∧
     (s.shaftState j.val = 6 → exec (.shaftLineRestored j) s = .next (s.setShaft j.val 5)) ∧
     (s.shaftState j.val = 2 → exec (.shaftStopped j) s = .next (s.setShaft j.val 7)) ∧
     (∀ st, (s.setShaft j.val st).shaftState j.val = st ∧
       ((∀ k < 32, s.follows k 2 j.val = false) → s.setShaft j.val st = s.putN (shIx j.val) 0x10 st) ∧
       (∀ k < 32, s.follows k 2 j.val = true → st = 5 ∨ st = 6 → s.nat (shIx j.val) 0x0C = 0 →
         (s.setShaft j.val st).flag (crs k) 3 6 = true)) ∧
     (s.nat (shIx j.val) 1 = 0 → exec (.shaftLineBreak j) s = .next s))

/-- R93, R94, R99, R100: a frame epoch of PTP requests the frame whose counter the time base gives, at its epoch; the end of a
content-follow period requests the next frame; the holdover of its content is kept once no buffer has completed for 4 frame
periods; a repeat is requested as a repeat. A request that finds another waiting replaces it, counted in 1220:19; one says whether
it found a bow still to emit or the minimum flyback not over, when it waits. R91, R94: a frame start that was requested, once the
flyback is over, takes the requested counter, or the one after the last, modulo 2³², and shows when it started: at its request, or
now where it had to wait. Said where no commit and no tuned value waits. Choices of the model's it rests on: logs 97, 99. -/
def Obligations.FramesAreRequestedAndStart : Prop :=
  (∀ (k : CourseId) (s : State),
     let f := s.frmAt k.val
     let waits := !s.flybackOver k.val
     let n := ptpIndex s.clk.tai (s.nat (refIx k.val) 3) (s.nat (refIx k.val) 4) (s.int (refIx k.val) 5)
     let epoch := (ptpStart n (s.nat (refIx k.val) 3) (s.nat (refIx k.val) 4) (s.int (refIx k.val) 5)).toNat
     (s.nat (refIx k.val) 1 = 0 → f.held = none → exec (.ptpFrameEpoch k) s =
       .next (s.frmPut k.val { f with held := some { counter := some (n % (2 ^ 32 : Nat)).toNat, at_ := epoch, waits := waits } })) ∧
     (s.nat (refIx k.val) 1 = 3 → f.held = none → exec (.contentFollowPeriodEnd k) s =
       .next (s.frmPut k.val { f with held := some { counter := none, at_ := s.clk.tai, waits := waits } })) ∧
     (∀ r, s.nat (refIx k.val) 1 = 3 → f.held = some r → exec (.contentFollowPeriodEnd k) s =
       .next ((s.frmPut k.val { f with held := some { counter := none, at_ := s.clk.tai, waits := waits } }).bump
         (refIx k.val) 0x19)) ∧
     (s.nat (refIx k.val) 1 = 3 → (s.contentDone k.val = 0 ∨
         (s.contentDone k.val : Rat) + 4 * s.framePeriod k.val * (1 + f.d) ≤ (s.clk.tai : Rat)) →
       exec (.contentFollowHoldover k) s = .next (s.frmPut k.val { f with cfHold := true })) ∧
     (s.nat (refIx k.val) 1 = 3 → s.contentDone k.val ≠ 0 →
       (s.clk.tai : Rat) < (s.contentDone k.val : Rat) + 4 * s.framePeriod k.val * (1 + f.d) →
       exec (.contentFollowHoldover k) s = .next s) ∧
     ((s.nat (refIx k.val) 1 = 1 ∨ s.nat (refIx k.val) 1 = 2) → s.nat (refIx k.val) 8 ≠ 0 →
       Completes (.repeatFrame k) s (fun t => (t.frmAt k.val).held =
         some { counter := none, at_ := s.clk.tai, waits := waits, isRepeat := true }))) ∧
  (∀ (k : CourseId) (r : FrameReq) (s : State), (s.frmAt k.val).held = some r → s.clk.refclk = true →
     (s.flybackOver k.val = false → exec (.frameStart k) s = .next s) ∧
     (s.flybackOver k.val = true → s.oz.commits = [] → (∀ d < 98, (s.domainsAt d).waiting = []) →
       Completes (.frameStart k) s (fun t =>
         t.nat (refIx k.val) 0x10 = (match r.counter with
           | some n => n
           | none => (s.nat (refIx k.val) 0x10 + 1) % 2 ^ 32) ∧
         t.nat (refIx k.val) 0x11 = time80 ((if r.waits then s.clk.tai else r.at_) / tNs) ∧ (t.frmAt k.val).held = none)))

/-- R32, R105, R125: when REFCLK is lost the safety domain counts from zero with the slot number and the time base noted, 1200:12
counts the loss, the device leaves LIT, and every course that is not STOPPED has hush cause bit 10 and a lost bow model. When it
returns, the time base goes on from what was noted by the time counted, and the slots, once they have begun, by that time rounded
up to a whole number of 16,384 slots; bit 10 clears with INTERLOCK_N high. A loss that finds no clock, and a return that finds one,
do nothing: the model's choice (log 1). -/
def Obligations.RefclkLossIsBridged : Prop :=
  ∀ s : State,
    (s.clk.refclk = false → exec .refclkLoss s = .next s) ∧
    (s.clk.refclk = true → exec .refclkReturn s = .next s) ∧
    (s.clk.refclk = true → Completes .refclkLoss s (fun t =>
      t.clk = { s.clk with refclk := false, elapsed := 0, lossSlot := s.clk.slot, lossTai := s.clk.tai } ∧
      t.nat 0x1200 0x12 = min (s.nat 0x1200 0x12 + 1) 0xFFFFFFFF ∧ t.dst = (if s.dst = 2 then 1 else s.dst) ∧
      ∀ k < 32, s.cst k ≠ 0 → t.flag (crs k) 3 10 = true ∧ (t.cst k ≠ 0 → t.nat (crs k) 0x15 = 4))) ∧
    (s.clk.refclk = false → Completes .refclkReturn s (fun t =>
      t.clk = { s.clk with
        refclk := true, half := false, tai := s.clk.lossTai + s.clk.elapsed, elapsed := 0, slotRun := decide (2 ≤ s.pwr.step)
        slot := if 2 ≤ s.pwr.step then s.clk.lossSlot + (s.clk.elapsed / tSlot + 16383) / 16384 * 16384 else s.clk.slot } ∧
      (s.capo.interlock = true → ∀ k < 32, t.flag (crs k) 3 10 = false)))

/-! ### Consorts -/

/-- R108: a consort with a member course sends a beacon, its body followed by the body's CRC-32C, to the group of 1240:02
and :03, and the sequence advances; one without sends nothing. R107, R109: a beacon with magic, length and CRC right
is counted in 1240:06 and its sender is the latest peer; one that has this part's node number and another serial
raises 1240:05, which a write of 0 clears; one that fails the checks is counted in 1240:07 and does nothing else. A
peer that sends no more is absent. R115, R116: phase lock is reported from the states that seek it (3 and 5) once the error has
stayed within 50 ns on 64 consecutive bows, its loss from locked (4) once it has exceeded 500 ns on 16; otherwise nothing changes.
Where a command's condition does not hold it does nothing: the model's
choice (log 1). Other choices of the model's it rests on: log 101. -/
def Obligations.ConsortsBeaconAndLock : Prop :=
  (∀ (id : Fin 65536) (s : State),
     (s.members id.val ≠ [] → Completes (.beaconSend id) s (fun t =>
       t.out = s.out ++ [.beacon (s.nat 0x1240 2) (s.nat 0x1240 3) (s.beaconBody id.val ++ leBytes 4 (crc32c (s.beaconBody id.val)))] ∧
       t.beacon.seq = (s.beacon.seq + 1) % 2 ^ 32 ∧ t.beacon.peers = s.beacon.peers ∧ t.dict = s.dict ∧ t.mem = s.mem)) ∧
     (s.members id.val = [] → exec (.beaconSend id) s = .next s)) ∧
  (∀ (msg : List Byte) (id : Fin 65536) (node : Fin 262144) (s : State),
     (beaconOk msg = true → Completes (.beaconReceive msg) s (fun t => t.nat 0x1240 6 = min (s.nat 0x1240 6 + 1) 0xFFFFFFFF ∧
       (if (peerOf msg).serial = Config.serial then t = s.bump 0x1240 6
         else t.beacon.peers.getLast? = some (peerOf msg) ∧
           t.nat 0x1240 5 = (if (peerOf msg).node = s.nat 0x1240 1 then 1 else s.nat 0x1240 5)))) ∧
     (beaconOk msg = false → exec (.beaconReceive msg) s = .next (s.bump 0x1240 7)) ∧
     Completes .duplicateNodeClear s (fun t => t.nat 0x1240 5 = 0 ∧ s.OnlyEntries t [(0x1240, 5)]) ∧
     Completes (.consortPeerAbsent id node) s (fun t =>
       (∀ p ∈ t.beacon.peers, p.consort = id.val → p.node = node.val → p.present = false) ∧
       t.beacon.peers.length = s.beacon.peers.length ∧
       t = { s with beacon := { s.beacon with peers := t.beacon.peers } })) ∧
  (∀ (k : CourseId) (s : State),
     let st := s.nat (refIx k.val) 0x13
     let m := s.mirAt k.val
     (st = 3 ∨ st = 5 → 64 ≤ m.nearBows → Completes (.phaseLocked k) s (fun t =>
       t.nat (refIx k.val) 0x13 = 4 ∧ s.OnlyEntries t [(refIx k.val, 0x13)])) ∧
     (st = 4 → 16 ≤ m.farBows → Completes (.phaseLockLost k) s (fun t =>
       t.nat (refIx k.val) 0x13 = 5 ∧ s.OnlyEntries t [(refIx k.val, 0x13)])) ∧
     ((st ≠ 3 ∧ st ≠ 5 ∨ m.nearBows < 64) → exec (.phaseLocked k) s = .next s) ∧
     ((st ≠ 4 ∨ m.farBows < 16) → exec (.phaseLockLost k) s = .next s))

/-! ### Bows, placement, fences -/

/-- R126, R129, R130, R133, R542: a crossing stamp, its sense path delay removed, waits for the crossing of the other direction;
one of the same direction replaces it, and further stamps of a bow that has its pair do nothing. A valid pair on a course that is
not seeded seeds the bow model with the mid-point, the drive's half period and the direction (log 162). On a seeded course a pair
of the bow's own direction whose half period lies within 0.1 % of the estimate updates the half period by its gain, within the
relative error 2⁻⁴⁰ that R130 allows, and is the bow's mid-point; one further off is rejected and counted in 2200:1A, a fourth in a
row losing the model (state 4). -/
def Obligations.CrossingsSeedTheModel : Prop :=
  ∀ (k : CourseId) (upper : Bool) (t0 shown : Nat) (mid2 c2 : Rat) (s : State),
    s.cst k.val ≠ 0 → s.clk.refclk = true → s.clk.slotRun = true →
    let b := s.bowAt k.val
    let t64 := s.stampOf (2 * k.val) shown
    let start := halfPeriod (s.f32 (0x3150 + k.val) 1)
    let dt : Rat := ((t64 : Int) - (t0 : Int) : Int) / 64
    let mid : Rat := ((t64 : Rat) + (t0 : Rat)) / 128
    let raw := (mid - mid2) / 2
    (b.stamp = none → b.mid = none → b.rejected = false → exec (.senseCrossingStamp k upper shown) s =
      .next (s.bowPut k.val { b with stamp := some (upper, t64) })) ∧
    (b.stamp = none → (b.mid.isSome = true ∨ b.rejected = true) → exec (.senseCrossingStamp k upper shown) s = .next s) ∧
    (b.stamp = some (upper, t0) → exec (.senseCrossingStamp k upper shown) s =
      .next (s.bowPut k.val { b with stamp := some (upper, t64) })) ∧
    (b.stamp = some (!upper, t0) → b.seeded = false → 0 < start → start / 10 ≤ dt → dt ≤ 9 * start / 10 →
      Completes (.senseCrossingStamp k upper shown) s (fun t => (t.bowAt k.val).seeded = true ∧ (t.bowAt k.val).hp = start ∧
        (t.bowAt k.val).c = mid ∧ (t.bowAt k.val).forward = upper ∧ (t.bowAt k.val).stamp = none)) ∧
    (b.stamp = some (!upper, t0) → b.seeded = true → b.forward = upper → 0 < b.hp → b.hp / 10 ≤ dt → dt ≤ 9 * b.hp / 10 →
      b.prev2 = some ⟨some mid2, c2⟩ →
      (absR (raw - b.hp) ≤ b.hp / 1000 → Completes (.senseCrossingStamp k upper shown) s (fun t =>
        let g : Rat := (2 ^ bits (s.nat (crs k.val) 0x14) 7 0 : Nat)
        (t.bowAt k.val).mid = some mid ∧ (t.bowAt k.val).updated = true ∧ (t.bowAt k.val).stamp = none ∧
        absR ((t.bowAt k.val).hp - (b.hp + (raw - b.hp) / g)) ≤ absR (b.hp + (raw - b.hp) / g) / 1099511627776)) ∧
      (b.hp / 1000 < absR (raw - b.hp) → Completes (.senseCrossingStamp k upper shown) s (fun t =>
        (t.bowAt k.val).rejected = true ∧ (t.bowAt k.val).hp = b.hp ∧ (t.bowAt k.val).rejRun = b.rejRun + 1 ∧
        t.nat (crs k.val) 0x1A = min (s.nat (crs k.val) 0x1A + 1) 0xFFFFFFFF ∧
        (3 ≤ b.rejRun → t.nat (crs k.val) 0x15 = 4)))) ∧
    (b.stamp = some (!upper, t0) → b.seeded = true → b.forward ≠ upper → exec (.senseCrossingStamp k upper shown) s =
      .next (s.bowPut k.val { b with stamp := none, stampForward := some upper }))

/-- R24, R132: a bow start advances the bow number modulo 2⁴⁸, shown in 2200:16, and turns the direction; what was placed
for the bow becomes the bow under way. R141: placement leaves a placed bow for the next bow of a course whose model
runs; a bow already placed is not placed again, and a stopped course places none. Where a command's condition does not
hold it does nothing: the model's choice (log 1). -/
def Obligations.BowsArePlacedAndStart : Prop :=
  (∀ (k : CourseId) (s : State),
     s.cst k.val ≠ 0 → (s.bowAt k.val).seeded = true → s.clk.slotRun = true → s.clk.refclk = true →
     Completes (.bowStart k) s (fun t => (t.bowAt k.val).bow = ((s.bowAt k.val).bow + 1) % 2 ^ 48 ∧
       (t.bowAt k.val).forward = !(s.bowAt k.val).forward ∧ t.nat (crs k.val) 0x16 = ((s.bowAt k.val).bow + 1) % 2 ^ 48 ∧
       (t.plcAt k.val).cur = (s.plcAt k.val).next ∧ (t.plcAt k.val).next = none)) ∧
  (∀ (k : CourseId) (s : State),
     (s.cst k.val ≠ 0 → s.modelState k.val ≠ 0 → s.clk.refclk = true → (s.plcAt k.val).next = none →
       Completes (.bowPlacement k) s (fun t => (t.plcAt k.val).next.isSome = true)) ∧
     (s.cst k.val = 0 ∨ (s.plcAt k.val).next.isSome = true → exec (.bowPlacement k) s = .next s))

/-- Table 1.6: at its turnaround an ARMED course whose request is TRACKING is in TRACKING (C6), and a SPINNING course with no hush
cause whose loops are locked, as that turnaround finds them, is in TRACKING (C5); a stopped course does nothing. At the nut a LIT
course whose request is STOPPED is STOPPED (C2); a LIT bow whose blocks are queued in time opens its spans, and one whose blocks
are not is dark from its nut slot with cause 0x10, counted in 2200:1B (R156, R321, R492). Said where no commit waits. R154: the
commit fence of a frame under way, at the start of active bow N_a − 1 − F, closes the frame's content: the fence has passed, at the
time base read then, and the next frame is decided. A fence that has passed does not pass again, and none passes at another bow.
Where a command's condition does not hold it does nothing: the model's choice (log 1). -/
def Obligations.CoursesMoveAtBowsAndFences : Prop :=
  (∀ (k : CourseId) (queued : Bool) (s : State), s.oz.commits = [] → s.clk.refclk = true →
     let u := ((s.lockRefresh k.val).limitsTake k.val).runStep k.val
     (s.cst k.val = 3 → s.creq k.val = 2 → Completes (.bowTurnaround k) s (fun t => t.cst k.val = 2)) ∧
     (s.cst k.val = 1 → u.cst k.val = 1 → u.causes k.val = 0 → u.loopsLocked k.val = true → u.oz.commits = [] →
       Completes (.bowTurnaround k) s (fun t => t.cst k.val = 2 ∧ (t.mirAt k.val).starting = false)) ∧
     (s.cst k.val = 0 → exec (.bowTurnaround k) s = .next s) ∧
     (s.cst k.val = 4 → s.creq k.val = 0 → (s.plcAt k.val).nutPassed = false → (s.plcAt k.val).cur = none →
       Completes (.nutReached k queued) s (fun t => t.cst k.val = 0)) ∧
     (s.cst k.val = 0 ∨ (s.plcAt k.val).nutPassed = true → exec (.nutReached k queued) s = .next s)) ∧
  (∀ (k : CourseId) (b : PlacedBow) (s : State), s.cst k.val = 4 → s.creq k.val = 4 → s.causes k.val = 0 → s.dst = 2 →
     s.nat 0x4200 2 = 2 → s.clk.refclk = true → (s.mirAt k.val).failed = false → (s.plcAt k.val).nutPassed = false →
     (s.plcAt k.val).cur = some b → b.active.isSome = true → b.dark = none →
     (s.spanFits b = true → Completes (.nutReached k true) s (fun t =>
       (t.plcAt k.val).opened = true ∧ (t.plcAt k.val).nutPassed = true ∧ t.cst k.val = 4)) ∧
     ((s.plcAt k.val).lit = true → (s.plcAt k.val).cut = none → Completes (.nutReached k false) s (fun t =>
       (t.plcAt k.val).cut = some ((b.c - b.hp / 2).floor.toNat, 0x10) ∧ (t.plcAt k.val).opened = (s.plcAt k.val).opened ∧
       t.nat (crs k.val) 0x1B = min (s.nat (crs k.val) 0x1B + 1) 0xFFFFFFFF ∧ t.cst k.val = 4))) ∧
  (∀ (k : CourseId) (s : State), 2 ≤ s.cst k.val → s.cst k.val ≤ 5 → (s.frmAt k.val).running = true → s.clk.refclk = true →
     ((s.frmAt k.val).fenced = false → s.nat (crs k.val) 0x13 < s.nat (crs k.val) 0x11 →
       (s.nat (crs k.val) 0x1E = s.nat (crs k.val) 0x11 - 1 - s.nat (crs k.val) 0x13 → Completes (.commitFence k) s (fun t =>
         (t.frmAt k.val).fenced = true ∧ (t.frmAt k.val).fenceTai = some s.clk.tai ∧ (t.fetAt k.val).decided = true ∧
         (t.fetAt k.val).scheduledNext = 0)) ∧
       (s.nat (crs k.val) 0x1E ≠ s.nat (crs k.val) 0x11 - 1 - s.nat (crs k.val) 0x13 → exec (.commitFence k) s = .next s)) ∧
     ((s.frmAt k.val).fenced = true → exec (.commitFence k) s = .next s))

/-! ### Start and standby -/

/-- R19, R458, R526: start ends in SHUTDOWN with the shut-down latch set, in DARK where 4200:03 does not ask for LIT, with
reset released; an entry to STANDBY that is complete is STANDBY with every lane but the failed ones off; and a DRAM
exit from STANDBY that no LIT follows is DARK with DRAM running. Choices of the model's it rests on: logs 78, 117. -/
def Obligations.StartAndStandbyMoveTheDevice : Prop :=
  ∀ s : State,
    (s.startMay = true → s.pwr.step = 2 → s.nat 0x3800 1 ≠ 0 → (s.pwr.dramTrained = true ∨ s.capo.shutLatch = true) →
      s.zonesCool = true →
      (s.capo.shutLatch = true ∨ s.nat 0x4200 3 ≠ 2 ∧ ∀ d < 98, s.nat (domIx d) 3 ≠ 1 ∧ (s.domainsAt d).waiting = []) →
      Completes .startComplete s (fun t => t.dst = (if s.capo.shutLatch then 4 else 1) ∧ t.pwr.step = 7 ∧ t.pwr.rstout = false)) ∧
    (s.pwr.entering = true → s.dst = 1 → s.allStopped = true → (s.dramAsleep = true ∨ s.pwr.dramFailed = true) →
      Completes .standbyEntryComplete s (fun t => t.dst = 3 ∧ t.pwr.entering = false ∧
        ∀ l < 272, (t.lanesAt l).state = if (s.lanesAt l).state = 5 then 5 else 0)) ∧
    (s.pwr.exiting = true → s.clk.refclk = true → s.dst = 3 → s.pwr.litAfter = false → s.mem.waiting = [] →
      Completes .dramExitComplete s (fun t => t.dst = 1 ∧ t.pwr.exiting = false ∧ t.nat 0x5000 1 = 1))

/-! ### Canvases and ingest -/

/-- R172 to R176: a packet that one unmerged flow takes, from its own source and of a frame that has not ended, is counted
in 2500:16 and shows its timestamp in 2500:1D, while ingest runs; one with a field is counted in 2500:19 and assembles nothing; in START
and SHUTDOWN no packet is taken. R16, R174: while ingest pauses, port receive holds it where its flow's reservation has room, and drops
and counts it in 25F0:05 or :06 where neither that nor the shared half has. R176, R178, R196, R197: the merge deadline ends the oldest
frame that has not ended, and counts it in 2500:1B unless it had been refused, and does nothing
where there is none; a path that falls silent leaves a merged flow on one path (state 3), and a flow without packets
reads idle (state 1). R166, R190: releasing a canvas's ready buffers is answered 0x00 and leaves none of the named
ones ready but one that a flip names; the fill of a new buffer that is complete leaves zeros in it. Where a command's
condition does not hold it does nothing: the model's choice (log 1). Other choices of the model's it rests on: logs 3,
34. -/
def Obligations.FlowsFillTheirCanvases : Prop :=
  (∀ (f : FlowId) (port : PortId) (p : RtpPacket) (s : State),
     (s.dst = 0 ∨ s.dst = 4 → exec (.st2110Packet port p) s = .next s) ∧
     ((∀ g < 64, s.delivers g port.val p = decide (g = f.val)) → s.dst = 1 ∨ s.dst = 2 → s.rx = [] → s.ingestPaused = false →
       p.length ≤ 4194304 → (s.flowsAt f.val).ssrc = some p.ssrc → s.nat (flIx f.val) 1 ≠ 3 →
       (p.rows.any (·.field) = true → Completes (.st2110Packet port p) s (fun t =>
         t.nat (flIx f.val) 0x19 = min (s.nat (flIx f.val) 0x19 + 1) 0xFFFFFFFF ∧ (t.flowsAt f.val).asms = (s.flowsAt f.val).asms ∧
         t.rx = [] ∧ t.mem = s.mem)) ∧
       (p.rows.any (·.field) = false → (s.flowsAt f.val).skipStamp ≠ some p.timestamp →
         (s.flowsAt f.val).endedStamp ≠ some p.timestamp →
         (s.flowsAt f.val).asms.any (fun a => a.ended && a.stamp == p.timestamp) = false →
         Completes (.st2110Packet port p) s (fun t =>
           t.nat (flIx f.val) 0x16 = (s.nat (flIx f.val) 0x16 + 1) % 2 ^ 64 ∧ t.nat (flIx f.val) 0x1D = p.timestamp ∧ t.rx = []))) ∧
     ((∀ g < 64, s.delivers g port.val p = decide (g = f.val)) → 1 ≤ s.dst → s.dst ≤ 3 → s.ingestPaused = true →
       (s.rxBytes (fun y => y.port == port.val && y.flow == f.val && !y.shared) + p.length ≤ s.flowReserve f.val →
         Completes (.st2110Packet port p) s (fun t =>
           t.rx = s.rx ++ [{ port := port.val, flow := f.val, shared := false, packet := p }] ∧ t.dict = s.dict ∧ t.mem = s.mem)) ∧
       (s.flowReserve f.val < s.rxBytes (fun y => y.port == port.val && y.flow == f.val && !y.shared) + p.length →
         4194304 < s.rxBytes (fun y => y.port == port.val && y.shared) + p.length →
         exec (.st2110Packet port p) s = .next (s.bump 0x25F0 (5 + port.val))))) ∧
  (∀ (f : FlowId) (port : PortId) (a : Assembly) (s : State),
     ((s.flowsAt f.val).asms = [a] → a.ended = false → a.buffer = none → Completes (.mergeDeadline f) s (fun t =>
       (t.flowsAt f.val).asms = [] ∧ (t.flowsAt f.val).endedStamp = some a.stamp ∧ t.mem = s.mem ∧
       (a.refused = true → t.dict = s.dict) ∧
       (a.refused = false → t.nat (flIx f.val) 0x1B = min (s.nat (flIx f.val) 0x1B + 1) 0xFFFFFFFF ∧
         s.EntriesBut t [(flIx f.val, 0x1B), (flIx f.val, 0x18)]))) ∧
     ((s.flowsAt f.val).asms.all (·.ended) = true → exec (.mergeDeadline f) s = .next s) ∧
     (s.nat (flIx f.val) 1 = 3 → s.nat (flIx f.val) 0x15 = 2 → Completes (.flowPathSilent f port) s (fun t =>
       t.nat (flIx f.val) 0x15 = 3 ∧ s.EntriesBut t [(flIx f.val, 0x15)] ∧ t.mem = s.mem)) ∧
     (s.nat (flIx f.val) 1 ≠ 0 → Completes (.flowIdle f) s (fun t =>
       t.nat (flIx f.val) 0x15 = 1 ∧ s.OnlyEntries t [(flIx f.val, 0x15)]))) ∧
  (∀ (c : CanvasId) (b : Fin 4) (mask : Byte) (x : Buf) (s : State),
     (s.ozRuns = true → s.serves (cvIx c.val) = true → mask = 0 → exec (.releaseReadyBuffers c mask) s =
       .next (s.answer 0x02 (writeItem 0x02 (cvIx c.val) 0x14 1) 0x00 [])) ∧
     (s.ozRuns = true → s.serves (cvIx c.val) = true → mask = 1#8 <<< b.val → s.bufState c.val b.val = 2 →
       s.flipNames c.val b.val = false →
       Completes (.releaseReadyBuffers c mask) s (fun t => t.bufState c.val b.val ≠ 2 ∧
         t.nat (cvIx c.val) 0x10 = min (s.nat (cvIx c.val) 0x10 + 1) 0xFFFFFFFF)) ∧
     ((s.bufs c.val)[b.val]? = some x → x.filling0 = true → Completes (.canvasZeroFillComplete c b) s (fun t =>
       ((t.bufs c.val)[b.val]?.map (·.filling0)) = some false ∧
       t.mem.cells = (s.dataZero (s.bufBase c.val b.val) (s.nat (cvIx c.val) 0x0B)).mem.cells)))

/-- R185: a host content descriptor is read while its ring holds it and the device is neither starting, in standby nor
shut down; a rectangle that its canvas cannot take is done with 0x05; a completed buffer is ready with its time of
arrival, an aborted one free, and the stream holds none; a rectangle that waits for a buffer claims one when it is
free. Where a command's condition does not hold it does nothing: the model's choice (log 1). -/
def Obligations.HostContentFollowsItsDescriptors : Prop :=
  ∀ (h : FlowId) (desc pixels : List Byte) (err : Bool) (c b : Nat) (s : State),
    s.hsCanvas h.val = some c →
    (s.hsReads h.val desc = false → exec (.writeRect h desc pixels err) s = .next s ∧ exec (.complete h desc) s = .next s ∧
      exec (.abortBuffer h desc) s = .next s) ∧
    (s.hsReads h.val desc = true → s.rectFails c desc = true → exec (.writeRect h desc pixels err) s =
      .next (s.hsDone h.val desc 0x05 (s.hstreamsAt h.val).buffer)) ∧
    (s.hsReads h.val desc = true → s.rectFails c desc = false → (s.hstreamsAt h.val).buffer = some b → err = false →
      Completes (.writeRect h desc pixels err) s (fun t => (t.hstreamsAt h.val) = s.hstreamsAt h.val ∧
        t.nat (hsIx h.val) 9 = (s.nat (hsIx h.val) 9 + sourceBytes (leAt desc 2 1) (leAt desc 8 2) * leAt desc 10 2) % 2 ^ 64)) ∧
    (s.hsReads h.val desc = true → s.rectFails c desc = false → (s.hstreamsAt h.val).buffer = none → s.freeBuffer c = none →
      Completes (.writeRect h desc pixels err) s (fun t => (t.hstreamsAt h.val).waiting = some (desc, pixels, err) ∧
        t.mem = s.mem)) ∧
    (s.hsReads h.val desc = true → s.completeFails c desc = false → (s.hstreamsAt h.val).buffer = some b → s.bufState c b = 1 →
      Completes (.complete h desc) s (fun t => t.hstreamsAt h.val = {} ∧ t.bufState c b = 2 ∧ t.mem = s.mem)) ∧
    (s.hsReads h.val desc = true → descReserved desc = false → (s.hstreamsAt h.val).buffer = some b → s.bufState c b = 1 →
      Completes (.abortBuffer h desc) s (fun t => t.hstreamsAt h.val = {} ∧ t.bufState c b = 0 ∧ t.mem = s.mem)) ∧
    (∀ d src e, (s.hstreamsAt h.val).waiting = some (d, src, e) → s.freeBuffer c = some b → s.ingestPaused = false →
      s.dst = 1 ∨ s.dst = 2 →
      Completes (.descriptorResume h) s (fun t => (t.hstreamsAt h.val).buffer = some b ∧ (t.hstreamsAt h.val).waiting = none)) ∧
    (∀ d src e, (s.hstreamsAt h.val).waiting = some (d, src, e) → s.freeBuffer c = none →
      exec (.descriptorResume h) s = .next s)

/-! ### Warp, fetch and colour -/

/-- R206, R209, R227: while warp recompute runs (R16, R225), a mesh copy that is recomputed is valid where its footprint fits the tile
slots of its course's partition and failed where it does not, with the check's result in 2600:04 and, for the newest copy, the footprint
in 2600:05. A refinement writes a copy that the course does not use with the mesh of the newest, each node moved as R209 limits it; a
frame of which refinement has met an uncorrectable error is let go instead (R300). Where a command's condition does not hold it does
nothing: the model's choice (log 1). Other choices of the model's it rests on: logs 31, 169. -/
def Obligations.MeshCopiesAreRecomputed : Prop :=
  ∀ (mesh : Fin 128) (copy : Fin 2) (moves : List (Nat × Int × Int)) (s : State),
    let k := mesh.val / 4
    let c := s.copyAt mesh.val copy.val
    let n := s.footprint k c
    let fits := decide (n ≤ s.tileSlots k)
    let limit := (s.int (0x2680 + k) 0x0C * 4096 / 65536).toNat
    let x := s.meshesAt mesh.val
    (c.state = 1 → s.warpRuns = true → Completes (.warpRecomputeComplete mesh copy) s (fun t =>
      (t.copyAt mesh.val copy.val).state = (if fits then 2 else 4) ∧
      t.nat (0x2600 + mesh.val) 5 = (if x.newest copy.val then n else s.nat (0x2600 + mesh.val) 5) ∧
      t.nat (0x2600 + mesh.val) 4 = (if fits then 0 else 4 * 2 ^ 24) ∧ t.mem = s.mem)) ∧
    (c.state ≠ 1 ∨ s.warpRuns = false → exec (.warpRecomputeComplete mesh copy) s = .next s) ∧
    (s.refineBad k = false → s.nat (0x2680 + k) 0x0B = 1 → s.nat (0x2680 + k) 1 = mesh.val % 4 →
      x.held = none → x.copy1.age < x.copy0.age →
      x.copy0.blob ≠ [] → s.copyUsed mesh.val 0 = true → s.copyUsed mesh.val 1 = false →
      Completes (.refinementUpdate mesh moves) s (fun t =>
        (t.copyAt mesh.val 1).blob = x.copy0.blob ∧ (t.copyAt mesh.val 1).state = 1 ∧
        (∀ j d, (j, d) ∈ moves → moves.all (fun e => e.1 != j || e == (j, d)) = true →
          dispOf (t.copyAt mesh.val 1).disp j = moveDisp limit (dispOf x.copy0.disp j) d) ∧
        (∀ j, moves.any (fun e => e.1 == j) = false →
          dispOf (t.copyAt mesh.val 1).disp j = withinLen limit (dispOf x.copy0.disp j)) ∧
        t.copyAt mesh.val 0 = s.copyAt mesh.val 0)) ∧
    (s.refineBad k = true → (s.captAt k).old = [] → Completes (.refinementUpdate mesh moves) s (fun t =>
      t.meshes = s.meshes ∧ ∀ b < 8, ∀ y, (t.captAt k).bufs[b]? = some y → y.state = 3 → 16 ∉ y.holders)) ∧
    (s.refineBad k = false → s.nat (0x2680 + k) 0x0B ≠ 1 → exec (.refinementUpdate mesh moves) s = .next s)

/-- R219, R222, R224: scheduling appends the bow that is fetched next, with its tiles; a tile that a scheduled bow needs
becomes resident and is counted; a bow whose tiles are there is rendered; and a slice, a store or a course that does
not run takes part in none of it. Where a command's condition does not hold it does nothing: the model's choice (log
1). Other choices of the model's it rests on: log 36. -/
def Obligations.FetchFollowsTheSchedule : Prop :=
  ∀ (k : CourseId) (i m tile : Nat) (next : Bool) (s : State),
    let f := s.fetAt k.val
    (s.fetchRuns k.val = false → exec (.fetchSchedule k) s = .next s ∧ exec (.bowRender k) s = .next s ∧
      exec (.tileArrival k tile false) s = .next s) ∧
    (s.fetchRuns k.val = true → (s.bowAt k.val).seeded = true → s.nextToFetch k.val = some (next, i) →
      s.bowOfActive k.val next i = some m → m ≤ (s.bowAt k.val).bow + s.nat (0x2680 + k.val) 0x0E →
      f.resident.length < s.tileSlots k.val → Completes (.fetchSchedule k) s (fun t =>
        (t.fetAt k.val).bows = f.bows ++ [s.newFetchBow k.val m i next] ∧ (t.fetAt k.val).resident = f.resident ∧ t.mem = s.mem)) ∧
    (s.fetchRuns k.val = true → f.resident.contains tile = false → f.resident.length < s.tileSlots k.val →
      f.bows.any (fun b => b.levels.isNone && b.tiles.contains tile) = true →
      Completes (.tileArrival k tile false) s (fun t => tile ∈ (t.fetAt k.val).resident ∧
        t.nat (0x2680 + k.val) 0x13 = (s.nat (0x2680 + k.val) 0x13 + 1) % 2 ^ 64 ∧ t.mem.cells = s.mem.cells)) ∧
    (∀ b, s.fetchRuns k.val = true → f.bows = [b] → b.levels = none → f.bowReady b = true → b.bow ≤ (s.bowAt k.val).bow + 3 →
      Completes (.bowRender k) s (fun t =>
        (t.fetAt k.val).bows = [{ b with levels := some ((s.frameView k.val b.next).renderBow k.val b f.poisoned).1 }] ∧
        t.dict = s.dict ∧ t.mem = s.mem))

/-- R227, R229, R230: a render slice that fails is marked and, with a spare, replaced by it, counted for its course and in 7000:07, and
with none gives its course hush cause 4; a store
error is counted as corrected or uncorrectable, and an uncorrectable one poisons the tile and retires the bank at the
next frame. R246: the matrix of a course that computes one from its primaries is ready for the next frame; a matrix
that is ready already is not computed again. Where a command's condition does not hold it does nothing: the model's
choice (log 1). Other choices of the model's it rests on: log 5. -/
def Obligations.FetchFaultsAndMatrices : Prop :=
  (∀ (k : CourseId) (slice : Fin 36) (bank : Fin 258) (tile x : Nat) (s : State),
     (s.sliceFailed slice.val = false → s.sliceCourse slice.val = none → exec (.renderSliceFault slice) s =
       .next (s.setFlag 0x26F0 9 slice.val true)) ∧
     (s.sliceFailed slice.val = true → exec (.renderSliceFault slice) s = .next s) ∧
     (s.sliceFailed slice.val = false → s.sliceCourse slice.val = some k.val →
       (s.setFlag 0x26F0 9 slice.val true).spareSlice = some x → Completes (.renderSliceFault slice) s (fun t =>
         t.nat (0x2680 + k.val) 0x16 = x ∧ t.nat (0x2680 + k.val) 0x17 = min (s.nat (0x2680 + k.val) 0x17 + 1) 0xFFFFFFFF ∧
         t.nat 0x7000 7 = min (s.nat 0x7000 7 + 1) 0xFFFFFFFF)) ∧
     (s.sliceFailed slice.val = false → s.sliceCourse slice.val = some k.val →
       (s.setFlag 0x26F0 9 slice.val true).spareSlice = none → Completes (.renderSliceFault slice) s (fun t =>
         t.sliceFailed slice.val = true ∧ t.flag (crs k.val) 3 4 = true)) ∧
     Completes (.fetchStoreError k bank tile true) s (fun t =>
       t.nat 0x26F0 5 = min (s.nat 0x26F0 5 + 1) 0xFFFFFFFF ∧
       ((s.fetAt k.val).resident.contains tile = true → tile ∈ (t.fetAt k.val).poisoned) ∧
       (s.svc.retired.contains bank.val = false → bank.val ∈ (t.fetAt k.val).retire) ∧ t.mem = s.mem) ∧
     Completes (.fetchStoreError k bank tile false) s (fun t =>
       t.nat 0x26F0 4 = min (s.nat 0x26F0 4 + 1) 0xFFFFFFFF ∧ s.EntriesBut t [(0x26F0, 4)] ∧ t.mem = s.mem)) ∧
  (∀ (k : CourseId) (s : State),
     (s.nat (colIx k.val) 0x0E ≠ 0 → s.primaries k.val ≠ [] → (s.colAt k.val).ready = none → s.fw.restarting = false →
       Completes (.matrixComplete k) s (fun t => (t.colAt k.val).ready = some (s.newMatrix k.val false) ∧ t.dict = s.dict ∧
         t.mem = s.mem)) ∧
     ((s.colAt k.val).ready ≠ none → exec (.matrixComplete k) s = .next s))

/-- R257 to R261, R285: firmware takes the oldest harmonic record of its course; one that the constancy loop takes moves the gain toward
the measurement and counts it in 2000:17, or is rejected and counted in 2000:18; a void record, or one of a tuning run, moves no gain. An
emitter in service with no accepted harmonic for its time constant of LIT time is held (3), and one whose gain has lain
below the wear threshold for 60 s of LIT time is worn (6) and offered; and the gains of all
emitters are persisted together. Where a command's condition does not hold it does nothing: the model's choice (log
1). Other choices of the model's it rests on: logs 5, 171. -/
def Obligations.EmitterGainsFollowTheRecords : Prop :=
  ∀ (k : CourseId) (l : LaneId) (r : HarmonicRec) (rest : List HarmonicRec) (s : State),
    let m := s.measuredGain r k.val
    let g := s.f32 (emitIx l.val) 0x14
    let win := s.f32 (colIx k.val) 0x12 / 100 * (if s.acquiring l.val then 3 else 1)
    ((s.captAt k.val).records = [] → exec (.harmonicGainUpdate k) s = .next s) ∧
    ((s.captAt k.val).records = r :: rest → s.fw.restarting = true → exec (.harmonicGainUpdate k) s = .next s) ∧
    ((s.captAt k.val).records = r :: rest → s.fw.restarting = false →
      (r.void = true ∨ r.tuning = true → Completes (.harmonicGainUpdate k) s (fun t =>
        (t.captAt k.val).records = rest ∧ t.dict = s.dict ∧ t.emit = s.emit ∧ t.mem = s.mem)) ∧
      (r.lane = l → s.courseOfLane l.val = some k.val → r.void = false → r.tuning = false → r.fiducialOnly = false →
        s.nat (colIx k.val) 0x0E = 2 → 0 < s.f32 (emitIx l.val) 0x13 →
        s.emitterState l.val ≠ 0 → (s.emitAt l.val).inputChanged = false →
        (absR (m - g) ≤ win * g → Completes (.harmonicGainUpdate k) s (fun t =>
          (t.captAt k.val).records = rest ∧
          t.nat (emitIx l.val) 0x17 = min (s.nat (emitIx l.val) 0x17 + 1) 0xFFFFFFFF ∧ (t.emitAt l.val).run = 0 ∧
          t.nat (emitIx l.val) 0x19 = time80 s.taiNs ∧ t.free = s.free + 1)) ∧
        (win * g < absR (m - g) → Completes (.harmonicGainUpdate k) s (fun t =>
          (t.captAt k.val).records = rest ∧
          t.nat (emitIx l.val) 0x18 = min (s.nat (emitIx l.val) 0x18 + 1) 0xFFFFFFFF ∧
            (t.emitAt l.val).run = (s.emitAt l.val).run + 1 ∧
          t.val (emitIx l.val) 0x14 = s.val (emitIx l.val) 0x14)))) ∧
    (s.courseOfLane l.val = some k.val →
      (s.emitterState l.val ∉ [0, 3, 4] → s.gainStale k.val l.val = true →
        exec (.emitterGainHeld l) s = .next (s.putN (emitIx l.val) 0x16 3)) ∧
      (s.gainStale k.val l.val = false → exec (.emitterGainHeld l) s = .next s) ∧
      (s.emitterState l.val ∉ [0, 6] → s.gainWorn k.val l.val = true → Completes (.emitterWorn l) s (fun t =>
        t.nat (emitIx l.val) 0x16 = 6 ∧ s.EntriesBut t [(emitIx l.val, 0x16)] ∧
        ∃ o ∈ t.svc.offers, o.kind = .lane ∧ o.unit = l.val)) ∧
      (s.gainWorn k.val l.val = false → exec (.emitterWorn l) s = .next s)) ∧
    (s.store.stopped = false → s.canPersist = true → s.store.held = [] → journalFill s.store + 6528 ≤ journalMax →
      Completes .gainPersist s (fun t =>
      t.store.under.length = s.store.under.length + 272 ∧ t = { s with store := t.store }))

/-! ### Capture -/

/-- R271 to R274, R285: what a course's input samples joins the samples to be tagged; the bow that ended has its dark level in 2800:16,
and a record of each of its harmonics goes to firmware while its queue has a credit. A course in STOPPED or SPINNING, or one that has no
input, records no bow. R289: a fiducial snapshot takes the events of the bow recorded last, once, and shows the course's latest
events in 2800:15. R275: an input in state 1 whose dark level has been outside its window for 1 s of LIT time is suspect (2), counted
and offered for exchange as worn; one whose samples have lain within a span of 2 codes for 1 s, or suspect for 60 s, fails (3) and is
offered as failed; a suspect one whose dark level has been inside for 10 s recovers; no other state moves. R294: a capture
frame that has ended, with all its rows accumulated, is ready and counted in 2800:0D; a buffer that its last consumer releases is free; a
release by a consumer that holds none does nothing. Where a command's condition does not hold it does nothing: the model's choice (log
1). Other choices of the model's it rests on: log 42. -/
def Obligations.CaptureFollowsItsInputsAndBuffers : Prop :=
  (∀ (k : CourseId) (x slot bow : Nat) (volts : List Int) (b : PlacedBow) (r : BowRecord) (i : Nat) (h : PlacedHarmonic) (f : Fiducial) (s : State),
     let run : SampleRun := { slot := slot, volts := volts }
     (s.inputOf k.val = none ∨ s.dst = 3 → exec (.harmonicRecord k slot volts) s = .next s) ∧
     (s.inputOf k.val = some x → s.dst ≠ 3 →
       let u := s.takeSamples k.val x run
       let darks := u.darkCodes k.val b ((u.captAt k.val).samples.map (fun p => (u.emissionTime x p.1, p.2)))
       (u.captAt k.val).samples = (s.captAt k.val).samples ++ s.runSamples x (s.captAt k.val).nextAt run ∧
       (s.cst k.val < 2 ∨ (s.plcAt k.val).last = none → exec (.harmonicRecord k slot volts) s = .next u) ∧
       (2 ≤ s.cst k.val → (s.plcAt k.val).last = some b → (s.captAt k.val).recorded ≠ some b.bow →
         Completes (.harmonicRecord k slot volts) s (fun t =>
           (t.captAt k.val).recorded = some b.bow ∧ t.mem = s.mem ∧
           (darks ≠ [] → s.inputState x ≠ 3 →
             t.nat (capIx k.val) 0x16 = (roundHalfUp (8 * ((darks.sum : Rat) / (darks.length : Rat)))).toNat) ∧
           (b.harmonics = [h] → s.hasCredit (useRecords k.val) = true → ∃ q, (t.captAt k.val).records = (s.captAt k.val).records ++ [q] ∧
             q.bow = b.bow % 2 ^ 32 ∧ q.lane = h.lane ∧ q.string = h.string ∧ q.level = h.level ∧ q.tuning = h.tuning)))) ∧
     (((s.captAt k.val).tagged.all (fun r => r.bow.bow != bow)) = true → exec (.fiducialSnapshot k bow) s = .next s) ∧
     ((s.captAt k.val).tagged = some r → r.bow.active = some i → Completes (.fiducialSnapshot k r.bow.bow) s (fun t =>
       (t.captAt k.val).tagged = none ∧
       t.blob (capIx k.val) 0x15 = (t.captAt k.val).events.flatMap (fun e => e.1 ++ leBytes 1 e.2) ∧
       (r.bow.harmonics = [] → s.OnlyEntries { t with capt := s.capt } [(capIx k.val, 0x15)] ∧
         (t.captAt k.val).events = (s.captAt k.val).events) ∧
       (r.bow.harmonics = [h] → r.voids = [0] → fiducialsOf r.bow.marks.table = [f] → s.fiducials k.val = [f] →
         f.takes r.bow.forward i = true → r.bow.marks.holds h.probeFrets f = true →
         ((t.captAt k.val).events.head?.map (·.1)) = some (s.fiducialEvent k.val r h 0 f).1)))) ∧
  (∀ (x : InputId) (s : State),
     let y := s.inputsAt x.val
     (s.inputState x.val = 1 → s.litFor x.val y.outSince 1 = true → Completes (.captureInputSuspect x) s (fun t =>
       t.nat (inIx x.val) 2 = 2 ∧ t.nat (inIx x.val) 0x0A = min (s.nat (inIx x.val) 0x0A + 1) 0xFFFFFFFF ∧
       s.EntriesBut t [(inIx x.val, 2), (inIx x.val, 0x0A)] ∧ ∃ o ∈ t.svc.offers, o.kind = .input ∧ o.unit = x.val)) ∧
     ((s.inputState x.val = 1 ∨ s.inputState x.val = 2) ∧ s.litFor x.val (y.flat.map (·.2.2)) 1 = true ∨
       s.inputState x.val = 2 ∧ s.litFor x.val (some y.suspectAt) 60 = true → Completes (.captureInputFailed x) s (fun t =>
       t.nat (inIx x.val) 2 = 3 ∧ s.EntriesBut t [(inIx x.val, 2)] ∧
       ∃ o ∈ t.svc.offers, o.kind = .input ∧ o.unit = x.val ∧ o.worn = false)) ∧
     (s.inputState x.val = 2 → s.litFor x.val y.inSince 10 = true → Completes (.captureInputRecover x) s (fun t =>
       t.nat (inIx x.val) 2 = 0 ∧ s.OnlyEntries t [(inIx x.val, 2)])) ∧
     (s.inputState x.val = 0 ∨ s.inputState x.val = 3 → exec (.captureInputSuspect x) s = .next s ∧
       exec (.captureInputFailed x) s = .next s ∧ exec (.captureInputRecover x) s = .next s)) ∧
  (∀ (k : CourseId) (b : Fin 8) (c : Fin 17) (x : CapBuf) (f : CapFrame) (i : Nat) (s : State),
     (s.drainAll.mergeArrived.capEnded k.val = some (i, x, f) → Completes (.captureComplete k) s (fun t =>
       t.nat (capIx k.val) 0x0D = min (s.nat (capIx k.val) 0x0D + 1) 0xFFFFFFFF ∧
       (((t.captAt k.val).bufs[i]?.map (·.state)) = some 2 ∨ ((t.captAt k.val).bufs[i]?.map (·.state)) = some 3))) ∧
     (s.drainAll.mergeArrived.capEnded k.val = none → exec (.captureComplete k) s = .next s) ∧
     ((s.captAt k.val).bufs[b.val]? = some x → x.state = 3 → x.holders = [c.val] →
       Completes (.captureBufferRelease k b c) s (fun t =>
         ((t.captAt k.val).bufs[b.val]?.map (·.state)) = some 0 ∧ t.mem = s.mem ∧ t.dict = s.dict)) ∧
     ((s.captAt k.val).bufs[b.val]? = some x → x.state ≠ 3 → (s.captAt k.val).old = [] →
       exec (.captureBufferRelease k b c) s = .next s))

/-- R297 to R299: a stream that is off, or whose rate limit holds it back, sends nothing. A batch of up to 64 records is sent by
STREAM_UNIT_SEND and when its timer ends: into the next waiting buffer, cut to its length; discarded and counted in 2880:0A where a
host-ring stream has none; or as packets, the unit counted in 2880:09. A good descriptor joins the stream's buffers, and a bad one is
done with 0x05. Where
a command's condition does not hold it does nothing: the model's choice (log 1). Other choices of the model's it rests
on: log 41. -/
def Obligations.StreamsSendTheirUnits : Prop :=
  ∀ (i : StreamId) (desc : List Byte) (s : State),
    let x := s.cstreamsAt i.val
    let ix := strIx i.val
    (s.nat ix 1 = 0 ∨ s.clk.up < x.busyTo → exec (.streamUnitSend i) s = .next s ∧ exec (.streamBatchTimer i) s = .next s) ∧
    (s.nat ix 1 ≠ 0 → x.busyTo ≤ s.clk.up → s.streamRoom i.val = true → s.nat ix 2 ≠ 0 → x.batch.isEmpty = false →
      ∀ c ∈ [Instr.streamBatchTimer i, .streamUnitSend i],
        (s.nat ix 1 = 3 → x.descs = [] → Completes c s (fun t =>
          (t.cstreamsAt i.val) = { x with batch := x.batch.drop 64 } ∧ t.nat ix 0x0A = min (s.nat ix 0x0A + 1) 0xFFFFFFFF ∧
          s.EntriesBut t [(ix, 0x0A)] ∧ t.out = s.out ∧ t.mem = s.mem)) ∧
        (∀ addr len tag r, s.nat ix 1 = 3 → x.descs = (addr, len, tag) :: r →
          Completes c s (fun t => (t.cstreamsAt i.val).batch = x.batch.drop 64 ∧ (t.cstreamsAt i.val).descs = r ∧
            .hostWrite addr ((x.batch.take 64).flatten.take len) ∈ t.out ∧ (t.cstreamsAt i.val).unit = (x.unit + 1) % 2 ^ 32)) ∧
        (s.nat ix 1 ≠ 3 → Completes c s (fun t => (t.cstreamsAt i.val).batch = x.batch.drop 64 ∧
          (t.cstreamsAt i.val).unit = (x.unit + 1) % 2 ^ 32 ∧ t.nat ix 9 = min (s.nat ix 9 + 1) 0xFFFFFFFF ∧ t.mem = s.mem))) ∧
    (s.nat ix 1 = 3 → s.ringHasEntry (s.nat ix 7) = true →
      x.descs.length < (s.ringAt (s.nat ix 7)).outstanding → s.streamRoom i.val = true →
      (streamDescOk desc = false → exec (.streamBufferDescriptor i desc) s =
        .next (s.streamDone i.val (leAt desc 24 4) 0x05 0 x.unit)) ∧
      (streamDescOk desc = true → s.nat ix 2 ≠ 0 → x.batch = [] → exec (.streamBufferDescriptor i desc) s =
        .next (s.cstreamsPut i.val { x with descs := x.descs ++ [(leAt desc 16 8, leAt desc 4 4, leAt desc 24 4)] })))

/-! ### Lanes -/

/-- R312: a lane that sends queues a DRONE, for the first position that has not begun to leave, when its timer ends, and an ALIGN for a
block whose number is a multiple of 4,096 (of 64 while it trains); a lane that does not send queues neither. R306 to R308, R314: with
every fourth slot one block of each lane that sends leaves, 24 slots after its slot time: what is queued there, or IDLE, with the lane's
sequence, scrambled. A hush whose epoch the far end has not reported within 100 µs is counted in 7F40:0D. R319,
R322, R323: a hush for the loss of REFCLK moves every lane that sends to its next epoch, with HUSH copies 0 to 15 of
cause 3 queued from b_h on, and from UP to HUSHED; EMIT_OK[k] then falls when it is due; and the lanes cease
transitions and are OFF, but for failed ones, with the slot domain stopped and hush cause 5 of every course clear. A hush whose trigger
does not hold does
nothing. Where a command's condition does not hold it does nothing: the model's choice (log 1). Other choices of the
model's it rests on: logs 2, 3, 111. -/
def Obligations.LanesSendAndAreHushed : Prop :=
  (∀ (l : LaneId) (block : Nat) (s : State),
     let x := s.lanesAt l.val
     let put (y : TxBlock) := s.lanesPut l.val { x with txq := txInsert x.txq y }
     (s.sends l.val = false ∨ s.clk.slotRun = false → exec (.droneTimer l) s = .next s ∧ exec (.align l block) s = .next s) ∧
     (s.sends l.val = true → s.clk.slotRun = true →
       exec (.droneTimer l) s = .next (put { pos := s.blockNow, rank := 2, kind := .drone false }) ∧
       (block % 4096 = 0 ∨ (x.state = 1 ∨ x.state = 4) ∧ block % 64 = 0 → exec (.align l block) s =
         .next (put { pos := max block s.blockNow, rank := 3, kind := .align })) ∧
       (block % 64 ≠ 0 → exec (.align l block) s = .next s)) ∧
     (x.farEpoch ≠ x.epoch → exec (.hushUnconfirmed l) s = .next (s.bump 0x7F40 0x0D)) ∧
     (x.farEpoch = x.epoch → exec (.hushUnconfirmed l) s = .next s)) ∧
  (∀ (l : LaneId) (s : State),
     let x := s.lanesAt l.val
     let b := (s.clk.slot + 1 - 24) / 4
     let p := s.payloadAt l.val b
     let w := (scramble 64 p.2 x.scr).1
     s.pending = [] → s.clk.slotRun = true → 24 ≤ s.clk.slot + 1 → (s.clk.slot + 1) % 4 = 0 → s.sends l.val = true →
     ∃ t, step s = .next t ∧
       (if p.1 then Out.data l.val b p.2 (2 + 4 * w) else .block l.val b p.2 (1 + 4 * w)) ∈ t.out ∧
       (x.txq = [] → p = (false, ctlPayload 0x00 x.seq 0))) ∧
  (∀ (k : CourseId) (l : LaneId) (s : State),
     let x := s.lanesAt l.val
     let e := (x.epoch + 1) % 256
     (s.clk.refclk = true → exec (.capoHush 0 [.refclk] 0) s = .next s ∧ (s.capo.shutLatch = false → exec .lanesOff s = .next s)) ∧
     (s.clk.refclk = false → x.state = 1 ∨ x.state = 2 ∨ x.state = 3 → Completes (.capoHush 0 [.refclk] 0) s (fun t =>
       (t.lanesAt l.val).epoch = e ∧ (t.lanesAt l.val).state = (if x.state = 2 then 3 else x.state) ∧
       t.capo.dropDue.any (fun d => d.1 == k.val) = true ∧ t.mem = s.mem ∧
       (x.txq = [] → (t.lanesAt l.val).txq = (List.range 16).map (fun i =>
         { pos := s.blockNow + i, rank := 1, kind := .control 0x55 (i * 2 ^ 36 + 3 * 2 ^ 32 + e * 2 ^ 24) })))) ∧
     (∀ n, (k.val, n) ∈ s.capo.dropDue → n ≤ s.clk.slot ∨ s.clk.slotRun = false → Completes (.emitOkDrop k) s (fun t =>
       bit t.capo.emitOk k.val = false ∧ t.capo.dropDue.any (fun d => d.1 == k.val) = false ∧
       t = { s with capo := { s.capo with emitOk := t.capo.emitOk, dropDue := t.capo.dropDue } })) ∧
     (s.capo.dropDue.any (fun d => d.1 == k.val) = false → exec (.emitOkDrop k) s = .next s) ∧
     (s.clk.refclk = false → Completes .lanesOff s (fun t => (t.lanesAt l.val).state = (if x.state = 5 then 5 else 0) ∧
       t.clk = { s.clk with slotRun := false } ∧ t.flag (crs k.val) 3 5 = false ∧ t.mem = s.mem)))

/-- R306, R309, R329, R330, R332: a return block is descrambled, whatever it is; it is counted as invalid in 7F60 + k:0A, or valid: a gap
in its sequence is counted, the 64th in a row brings
the return lane UP, and its fields are what it reports of the far end: its status, an error counter of a lane, a page
of its identity, a fault, which is counted and has its emitter offered. A return lane that falls silent is DOWN,
counted. One that is not enabled does nothing. Where a command's condition does not hold it does nothing: the model's
choice (log 1). -/
def Obligations.ReturnBlocksAreReported : Prop :=
  ∀ (k : CourseId) (p : BitVec 66) (s : State),
    let x := s.retsAt k.val
    let ix := 0x7F60 + k.val
    let b := s.retPayload k.val p.toNat
    let y := { x with scr := (descramble 64 (p.toNat / 4) x.scr).2 }
    let z := { y with run := x.run + 1, lastSeq := some (bits b 15 8),
                      gaps := x.gaps + (if x.lastSeq.any (fun n => (n + 1) % 256 != bits b 15 8) then 1 else 0) }
    let l := bits b 55 47
    let head := decide (p.toNat % 4 = 1)
    let rest := (s.retsPut k.val y).retBlock k.val (bits b 15 8)
    (x.enabled = false → exec (.returnBlockInvalid { course := k, wire := p }) s = .next s ∧
      ∀ c ∈ [Instr.retIdle k p, .retStatus k p, .retLane k p, .retErrors k p, .retIdent k p, .retFault k p], exec c s = .next s) ∧
    (x.enabled = true →
      let bad := (s.retsPut k.val { y with run := 0 }).bump ix 0x0A
      (head = false ∨ retTypes.all (fun t => !retValid t b) = true → exec (.returnBlockInvalid { course := k, wire := p }) s = .next bad) ∧
      (∀ q ∈ [(0x00, Instr.retIdle k p), (0x1E, .retStatus k p), (0x2D, .retLane k p), (0x33, .retErrors k p), (0x4B, .retIdent k p),
        (0x55, .retFault k p)], head = false ∨ retValid q.1 b = false → exec q.2 s = .next bad) ∧
      (head = true →
        (retValid 0x00 b = true → Completes (.retIdle k p) s (fun t => (t.retsAt k.val) = z ∧
          t.nat ix 1 = (if 63 ≤ x.run then 2 else if s.nat ix 1 = 0 then 1 else s.nat ix 1) ∧ s.EntriesBut t [(ix, 1)])) ∧
        (retValid 0x1E b = true → Completes (.retStatus k p) s (fun t => (t.retsAt k.val) = { z with
          locked := bits b 55 49, live := bits b 48 42, emitOk := bit b 41, fault := bit b 40 } ∧
          t.int ix 7 = sext 8 (bits b 39 32) ∧ s.EntriesBut t [(ix, 1), (ix, 7)])) ∧
        (retValid 0x33 b = true → l ≤ 271 →
          (bits b 46 44 = 0 → exec (.retErrors k p) s = .next (rest.lanesPut l { s.lanesAt l with invalidFar := bits b 39 16 })) ∧
          (bits b 46 44 = 2 → exec (.retErrors k p) s = .next (rest.lanesPut l { s.lanesAt l with crcMismatches := bits b 39 16 })) ∧
          (bits b 46 44 = 7 → exec (.retErrors k p) s = .next (rest.lanesPut l { s.lanesAt l with clamped := bits b 39 16 }))) ∧
        (retValid 0x4B b = true →
          (bits b 55 48 = 0 → Completes (.retIdent k p) s (fun t => t.nat ix 2 = bits b 47 32 ∧ t.nat ix 3 = bits b 31 16 ∧
            s.EntriesBut t [(ix, 1), (ix, 2), (ix, 3)])) ∧
          (bits b 55 48 = 3 → Completes (.retIdent k p) s (fun t => t.nat ix 5 = bits b 47 40 ∧ t.nat ix 6 = bits b 39 32 ∧
            s.EntriesBut t [(ix, 1), (ix, 5), (ix, 6)]))) ∧
        (retValid 0x55 b = true → l ≤ 271 → Completes (.retFault k p) s (fun t =>
          t.nat ix 8 = l * 2 ^ 39 + bits b 46 40 * 2 ^ 32 + bits b 39 16 * 2 ^ 8 ∧ t.nat ix 9 = min (s.nat ix 9 + 1) 0xFFFFFFFF ∧
          (∃ o ∈ t.svc.offers, o.kind = .lane ∧ o.unit = l ∧ o.worn = false) ∧ (∀ j < 32, t.cst j = s.cst j))))) ∧
    (s.nat ix 1 ≠ 0 → exec (.returnLaneDown k) s = .next (((s.retsPut k.val { x with run := 0 }).putN ix 1 0).bump ix 0x0B)) ∧
    (s.nat ix 1 = 0 → exec (.returnLaneDown k) s = .next s)

/-- Table 9.9, R316, R326: a report of a trained lane on its own return lane brings it UP with the latency declared, in 2000:08 at once where the course that
reports it is STOPPED and for its next frame else; a
report of a lane in UP or HUSHED that is acquiring again, or has another latency, a loss of the quad PLL and a host
command each start a retrain, a failed lane's count afresh by the command; after its quiet time the lane sends again;
and a retrain that times out fails the lane, which is offered. Where a command's condition does not hold it does
nothing: the model's choice (log 1). Other choices of the model's it rests on: log 89. -/
def Obligations.LanesTrainAndRetrain : Prop :=
  ∀ (k : CourseId) (p : BitVec 66) (i : LaneId) (m : MasterId) (q : Fin 68) (s : State),
    let b := s.retPayload k.val p.toNat
    let l := bits b 55 47
    let lat := bits b 44 36
    let x := s.lanesAt l
    ((s.retsAt k.val).enabled = true → p.toNat % 4 = 1 → retValid 0x2D b = true → l ≤ 271 → s.nat (0x7F60 + k.val) 1 = 2 →
      ((x.state = 1 ∨ (x.state = 4 ∧ x.quietDone = true)) → bits b 46 45 = 1 → 64 ≤ lat → lat ≤ 256 → x.reporters = [k.val] →
        (∀ c, s.courseOfLane l = some c → c = k.val) → Completes (.retLane k p) s (fun t =>
          (t.lanesAt l).state = 2 ∧ (t.lanesAt l).declared = lat ∧
          (s.cst k.val = 0 → t.nat (laneIx l) 8 = 24 + lat) ∧ (s.cst k.val ≠ 0 → (t.lanesAt l).newLatency = some (24 + lat)))) ∧
      ((x.state = 2 ∨ x.state = 3) → (bits b 46 45 = 0 ∨ lat ≠ x.declared) → x.retrainTimes = [] →
        Completes (.retLane k p) s (fun t =>
        (t.lanesAt l).state = 4 ∧ (t.lanesAt l).quietDone = false ∧ (t.lanesAt l).retrainClass = 2))) ∧
    (s.ozRuns = true → s.serves 0x7F40 = true → 2 ≤ (s.lanesAt i.val).state →
      ((s.lanesAt i.val).state = 5 ∨ (s.lanesAt i.val).retrainTimes.length < 3) →
      Completes (.laneRetrainCommand m i.val) s (fun t => (t.lanesAt i.val).state = 4 ∧ (t.lanesAt i.val).quietDone = false ∧
        (t.lanesAt i.val).retrains = min ((s.lanesAt i.val).retrains + 1) 0xFFFFFFFF ∧
        ((s.lanesAt i.val).state = 5 → (t.lanesAt i.val).retrainTimes = [s.clk.up]) ∧
        (∀ j, j ≠ i.val → t.lanesAt j = s.lanesAt j) ∧ t.mem = s.mem)) ∧
    (s.ozRuns = true → s.serves 0x7F40 = true → ∀ n, 271 < n → n < 65536 → exec (.laneRetrainCommand m n) s =
      .next (s.answer 0x02 (writeItem 0x03 0x7F40 0x0A 2) 0x05 [])) ∧
    Completes (.quadPllLoss q) s (fun t => t.nat 0x7F40 0x0C = min (s.nat 0x7F40 0x0C + 1) 0xFFFFFFFF ∧
      (∀ j, j / 4 = q.val → 2 ≤ (s.lanesAt j).state → (s.lanesAt j).state ≤ 4 → (s.lanesAt j).retrainTimes = [] →
        (t.lanesAt j).state = 4 ∧ (t.lanesAt j).retrainClass = 1) ∧
      (∀ j, j / 4 ≠ q.val → t.lanesAt j = s.lanesAt j) ∧ t.mem = s.mem) ∧
    ((s.lanesAt i.val).state = 4 →
      exec (.laneRetrainQuietEnd i) s = .next (s.lanesPut i.val { s.lanesAt i.val with quietDone := true }) ∧
      Completes (.laneRetrainTimeout i) s (fun t => (t.lanesAt i.val).state = 5 ∧
        (∃ o ∈ t.svc.offers, o.kind = .lane ∧ o.unit = i.val ∧ o.worn = false) ∧ t.mem = s.mem)) ∧
    ((s.lanesAt i.val).state ≠ 4 → exec (.laneRetrainQuietEnd i) s = .next s ∧ exec (.laneRetrainTimeout i) s = .next s)

/-! ### Mirror loops -/

/-- R341, R342, R344, R348, R349, R353, R356: a step first takes what its period boundary brings and converts its measurement. A slot that
is off writes 0; in manual mode a step holds the manual value within the limits as
its next output; in automatic mode it leaves what the law computes from the measurement and the set-point source, unless a fault action
is in force; a
step whose latest sense conversion is out of range is skipped and counted. The output of the last step is written once. Where
a command's condition does not hold it does nothing: the model's choice (log 1). Other choices of the model's it rests
on: log 24. -/
def Obligations.LoopStepsFollowTheLaw : Prop :=
  ∀ (i : SlotId) (earlier : List Int) (latest : Option Int) (code o : Int) (s : State),
    let codes := earlier ++ latest.toList
    let ix := slotIx i.val
    let u := s.boundary i.val
    let v := u.takeInput (s.nat ix 4) codes
    let w := v.keepBack i.val
    let st := w.slotsAt i.val
    let par := w.loopPar i.val
    ((s.slotsAt i.val).dead = true → exec (.loopStep i earlier latest) s = .next u) ∧
    ((s.slotsAt i.val).dead = false → s.nat ix 1 = 0 → Completes (.loopStep i earlier latest) s (fun t =>
      t.int ix 0x21 = 0 ∧ t.int ix 0x20 = 0 ∧ (t.slotsAt i.val).next = none ∧ t.mem = s.mem)) ∧
    ((s.slotsAt i.val).dead = false → s.nat ix 1 ≠ 0 → (64 ≤ i.val ∨ (s.mirAt (i.val / 2)).phase ≠ 6) →
      (∀ c, c < 64 → s.nat ix 4 = 0x0200 + c →
        (code < -32768 ∨ 32767 < code → exec (.loopStep i [] (some code)) s = .next
          (((u.convertAll c [code]).setFlag ix 0x22 12 true).bump ix 0x26)) ∧
        (-32768 ≤ code → code ≤ 32767 → Completes (.loopStep i [] (some code)) s (fun t => t.int (0x3110 + c) 6 = code))) ∧
      (∀ x, v.source i.val (s.nat ix 4) (v.slotsAt i.val).shaftBase.1 = some x →
        (s.nat ix 1 = 1 → par.slew = 0 → st.acting = false → Completes (.loopStep i earlier latest) s (fun t =>
          (t.slotsAt i.val).next = some (clampI par.lo par.hi par.manual) ∧ t.int ix 0x1D = x ∧ (t.slotsAt i.val).xprev = x ∧
          t.nat ix 0x24 = (s.nat ix 0x24 + 1) % 2 ^ 64)) ∧
        (s.nat ix 1 = 2 →
          let r := loopLaw par st (st.modeAt == 1) x (w.int ix 0x1E) (w.int ix 0x20)
            (w.source i.val (s.nat ix 5) st.shaftBase.2)
          Completes (.loopStep i earlier latest) s (fun t => ((t.slotsAt i.val).acting = false → (t.slotsAt i.val).next = some r.o) ∧
            t.int ix 0x1E = r.sp ∧ t.int ix 0x1F = r.e ∧
            t.int ix 0x20 = r.i ∧ t.int ix 0x1D = x ∧ t.nat ix 0x22 = (w.nat ix 0x22 ||| r.flags))))) ∧
    ((s.slotsAt i.val).next = none → exec (.loopOutputWrite i) s = .next s) ∧
    ((s.slotsAt i.val).next = some o → Completes (.loopOutputWrite i) s (fun t =>
      t.int ix 0x21 = o ∧ (t.slotsAt i.val).next = none ∧ t.mem = s.mem ∧ t.out = s.out))

/-- R352, R369, R370: sticky flags are cleared by a write of 0, at once (a commit of the entry that waits is overtaken), and of nothing
else; a host move names a free spare, which the slot takes at its next period boundary, counted in 3100:06 and shown in 3000 + i:29; a
failing physical slot brings a free spare at once, the failing step's output discarded; with no
spare free a move is refused. R502 to R505, R511, R513: a unit that is offered waits once; the policy of loop slots
names the first free spare for a failed slot; policy 0 waits; the critical log and the availability times are cleared
by the word 1 and by no other. Where a command's condition does not hold it does nothing: the model's choice (log 1).
Other choices of the model's it rests on: logs 54, 84. -/
def Obligations.SparesServeFailedUnits : Prop :=
  (∀ (m : MasterId) (i : SlotId) (v : BitVec 32) (phys : Fin 96) (n q : Nat) (r : List Nat) (s : State),
     let ix := slotIx i.val
     let moved (t : State) : Prop := t.nat ix 0x29 = q ∧ t.nat (slotIx q) 0x29 = i.val ∧
       t.nat 0x3100 6 = min (s.nat 0x3100 6 + 1) 0xFFFFFFFF ∧ t.physOf i.val = q ∧ t.mem = s.mem
     let failed : State := { s with pool := { s.pool with failed := s.pool.failed ++ [phys.val] } }
     (s.ozRuns = true → s.serves ix = true →
       (s.commitsFull m.val = false → exec (.stickyFlagsClear m i 0) s =
         .next (((s.overtake (dkey ix 0x22)).putN ix 0x22 0).answer 0x02 (writeItem 0x04 ix 0x22 4) 0x00 [])) ∧
       (s.commitsFull m.val = true → exec (.stickyFlagsClear m i 0) s = .next (s.answer 0x02 (writeItem 0x04 ix 0x22 4) 0x08 [])) ∧
       (v ≠ 0 → exec (.stickyFlagsClear m i v) s = .next (s.answer 0x02 (writeItem 0x04 ix 0x22 4) 0x05 []))) ∧
     (s.ozRuns = true → s.serves 0x3100 = true →
       (88 ≤ n → n < 256 → exec (.moveToSpare m n) s = .next (s.answer 0x02 (writeItem 0x02 0x3100 0x11 1) 0x05 [])) ∧
       (s.openSpares = [] → exec (.moveToSpare m i.val) s = .next (s.answer 0x02 (writeItem 0x02 0x3100 0x11 1) 0x07 [])) ∧
       (s.openSpares = q :: r → exec (.moveToSpare m i.val) s = .next
         ((s.slotsPut i.val { s.slotsAt i.val with moveTo := some q }).answer 0x02 (writeItem 0x02 0x3100 0x11 1) 0x00 []))) ∧
     ((s.slotsAt i.val).moveTo = some q → 88 ≤ q → q < 96 → s.pool.failed.contains q = false →
       Completes (.loopStep i [] none) s (fun t => moved t ∧ (t.slotsAt i.val).moveTo = none)) ∧
     (s.pool.failed.contains phys.val = true → exec (.loopSlotFault phys) s = .next s) ∧
     (s.pool.failed.contains phys.val = false →
       ((∀ j < 88, s.physOf j ≠ phys.val) → exec (.loopSlotFault phys) s = .next (failed.putN 0x3100 4 failed.freeSpares.length)) ∧
       (s.physOf i.val = phys.val → (∀ j < 88, s.physOf j = phys.val → j = i.val) → (s.slotsAt i.val).moveTo = none →
         failed.openSpares = q :: r →
         Completes (.loopSlotFault phys) s (fun t => moved t ∧ (t.slotsAt i.val).next = none ∧ phys.val ∈ t.pool.failed ∧
           t.nat ix 0x2A = min (s.nat ix 0x2A + 1) 0xFFFFFFFF)))) ∧
  (∀ (m : MasterId) (v : Byte) (kind : SpareKind) (unit : Nat) (worn : Bool) (i q : Nat) (r : List Nat) (s : State),
     let o : Offer := { kind := kind, unit := unit, worn := worn }
     (unit < spareUnits kind → s.svc.offers = [] → exec (.spareOffer kind unit worn) s =
       .next { s with svc := { s.svc with offers := [o] } }) ∧
     (unit < spareUnits kind → o ∈ s.svc.offers → exec (.spareOffer kind unit worn) s = .next s) ∧
     (spareUnits kind ≤ unit → exec (.spareOffer kind unit worn) s = .next s) ∧
     (s.svc.placed = [] → (∀ n, 1 ≤ n → n ≤ 6 → s.nat 0x7000 n = 0) → exec .policySwitchIn s = .next s) ∧
     (s.svc.offers = [o] → s.svc.placed = [] → kind = .loopSlot → worn = false → 1 ≤ s.nat 0x7000 3 → s.oz.commits = [] →
       s.slotOn unit = some i → s.openSpares = q :: r → Completes .policySwitchIn s (fun t => t.svc.offers = [] ∧
         (t.slotsAt i) = { s.slotsAt i with moveTo := some q } ∧ t.pool = s.pool ∧ t.mem = s.mem)) ∧
     (s.ozRuns = true → s.serves 0x7000 = true →
       exec (.availabilityClear m 1) s = .next (({ s with svc := { s.svc with times := [0, 0, 0, 0, 0], at_ := s.clk.up } } : State).answer
         0x02 (writeItem 0x02 0x7000 0x16 1) 0x00 []) ∧
       (v ≠ 1 → exec (.availabilityClear m v) s = .next (s.answer 0x02 (writeItem 0x02 0x7000 0x16 1) 0x05 []))) ∧
     (s.ozRuns = true → s.serves 0x7100 = true →
       Completes (.criticalLogClear m 1) s (fun t => t.store.critical = [] ∧ t.store.criticalNext = 0 ∧ t.dict = s.dict ∧
         t.mem = s.mem ∧
         t.oz.answered = s.oz.answered ++ [(0x02, writeItem 0x02 0x7100 7 1, 0x00, [])]) ∧
       (v ≠ 1 → exec (.criticalLogClear m v) s = .next (s.answer 0x02 (writeItem 0x02 0x7100 7 1) 0x05 []))))

/-- R360, R365 (Table 10.9): a starting mirror is excited, rings, and pulls in at the frequency it rang at, with the
tracker pulling; a failed attempt begins again with twice the search drive, the fourth declares the course failed. In
free mode the tracker takes the drive's phase at the model centre of each forward bow, less the trim, as the lag, and moves the drive
frequency by gain times the lag error, by at most 20 ppm.
R358, R365, R367, R368, R371: a mirror that does not start in time, whose slot or AXIS_EN has failed it, or that
REFCLK has left for 10 s is declared failed, counted in 3150 + k:1A, and its course stops, a LIT one at its nut. When
AXIS_EN[k] is due it is released with the mirror at rest. Where a command's condition does not hold it does nothing:
the model's choice (log 1). Other choices of the model's it rests on: logs 3, 25. -/
def Obligations.MirrorsStartAndFail : Prop :=
  (∀ (k : CourseId) (m : RingMeas) (n : Snapshot) (bow : Nat) (s : State),
     let x := s.mirAt k.val
     let ix := 0x3150 + k.val
     let lag : Rat := s.lagAt k.val (n.c + (((s.bowAt k.val).bow : Int) - (n.bow : Int) : Int) * n.hp)
     (x.phase ≠ 1 → exec (.excitationStart k) s = .next s) ∧ (x.phase ≠ 2 → exec (.ringWindowStart k) s = .next s) ∧
     (x.phase ≠ 3 → exec (.ringWindowEnd k m) s = .next s) ∧
     (x.phase ≠ 4 ∨ s.clk.refclk = false ∨ (s.bowAt k.val).snap = none ∨ (s.bowAt k.val).forward = false ∨
         (s.bowAt k.val).bow ≠ bow → exec (.trackerUpdate k bow) s = .next s) ∧
     (x.phase = 1 → Completes (.excitationStart k) s (fun t => (t.mirAt k.val).phase = 2 ∧
       (t.mirAt k.val).attempts = x.attempts + 1 ∧
       (t.mirAt k.val).f = s.f32 (crs k.val) 0x0C ∧ t.nat ix 9 = 1 ∧ t.nat ix 0x18 = min (s.nat ix 0x18 + 1) 0xFFFFFFFF)) ∧
     (x.phase = 2 → Completes (.ringWindowStart k) s (fun t => (t.mirAt k.val).phase = 3 ∧ (t.mirAt k.val).drive = 0)) ∧
     (x.phase = 3 →
       (s.ringFails k.val m = true → x.attempts < 4 → Completes (.ringWindowEnd k m) s (fun t =>
         (t.mirAt k.val).phase = 2 ∧ (t.mirAt k.val).attempts = x.attempts + 1 ∧ (t.mirAt k.val).search = min 100 (2 * x.search))) ∧
       (s.ringFails k.val m = true → 4 ≤ x.attempts → Completes (.ringWindowEnd k m) s (fun t => (t.mirAt k.val).failed = true)) ∧
       (s.ringFails k.val m = false → s.asksPhaseLock k.val = false → Completes (.ringWindowEnd k m) s (fun t =>
         (t.mirAt k.val).phase = 4 ∧ (t.mirAt k.val).f = ringHz m.crossings ∧ (t.mirAt k.val).setPoint = 0 ∧ t.nat ix 9 = 2))) ∧
     (x.phase = 4 → s.clk.refclk = true → (s.bowAt k.val).snap = some n → (s.bowAt k.val).forward = true →
       Completes (.trackerUpdate k (s.bowAt k.val).bow) s (fun t => (t.mirAt k.val).lag = lag ∧
       (s.nat ix 9 ≠ 4 → (t.mirAt k.val).f = x.f + clampR (-(x.f / 50000)) (x.f / 50000) (s.f32 ix 8 * (90 - lag)))))) ∧
  (∀ (k : CourseId) (s : State),
     let ix := 0x3150 + k.val
     let fails (t : State) : Prop := (t.mirAt k.val).failed = true ∧ t.nat ix 0x1A = min (s.nat ix 0x1A + 1) 0xFFFFFFFF ∧
       t.nat (slotIx (2 * k.val)) 0x23 = 4 ∧ t.nat (slotIx (2 * k.val + 1)) 0x23 = 4 ∧
       t.cst k.val = (if s.cst k.val = 4 then 4 else 0) ∧ t.mem = s.mem
     (s.cst k.val = 1 → Completes (.startTimeout k) s (fun t => fails t ∧ t.nat ix 0x19 = min (s.nat ix 0x19 + 1) 0xFFFFFFFF)) ∧
     (s.cst k.val ≠ 1 → (s.mirAt k.val).starting = false → exec (.startTimeout k) s = .next s) ∧
     (s.cst k.val ≠ 0 → (s.mirAt k.val).failed = false →
       (s.nat (slotIx (2 * k.val)) 0x23 = 3 ∨ s.nat (slotIx (2 * k.val + 1)) 0x23 = 3 ∨ s.nat ix 0x1C = 0) →
       Completes (.mirrorFailed k) s fails) ∧
     (s.cst k.val = 0 → exec (.mirrorFailed k) s = .next s) ∧
     (s.clk.refclk = false → s.cst k.val ≠ 0 → Completes .loopRefclkHoldExpired s fails) ∧
     (s.clk.refclk = true → exec .loopRefclkHoldExpired s = .next s) ∧
     ((s.mirAt k.val).releaseDue = true → Completes (.axisEnRelease k) s (fun t =>
       t.nat ix 0x1C = 0 ∧ (t.mirAt k.val).phase = 0 ∧ (t.mirAt k.val).releaseDue = false ∧ t.mem = s.mem)) ∧
     ((s.mirAt k.val).releaseDue = false → exec (.axisEnRelease k) s = .next s))

/-! ### The capo -/

/-- R375, R393: when VAON becomes valid the straps and the fuse word are sampled, the class in force is the lower of strap
code and cap, and the self-test begins; passed, with REFCLK locked, the capo is in state 1 and expects no sign yet;
failed, or with its oscillator beyond 5 %, it is in state 2 with every course tripped by T5 and every AXIS_EN
released. Where a command's condition does not hold it does nothing: the model's choice (log 1). -/
def Obligations.CapoStartsAndFails : Prop :=
  ∀ (sel : BitVec 3) (dev : Int) (s : State),
    let fault (t : State) : Prop := t.nat 0x3800 1 = 2 ∧ t.nat 0x3800 0x0C = min (s.nat 0x3800 0x0C + 1) 0xFFFFFFFF ∧
      ∀ k < 32, bit (t.capoCAt k).trips 4 = true ∧ t.nat (0x3150 + k) 0x1C = 0
    (s.capo.vaon = true → exec (.vaonValid sel) s = .next s) ∧
    (s.capo.vaon = false → Completes (.vaonValid sel) s (fun t => t.capo.vaon = true ∧ t.capo.sel = sel.toNat ∧
      t.capo.blownSeen = s.capo.blown ∧ t.nat 0x3800 1 = 0 ∧ t.nat 0x3800 2 = sel.toNat ∧
      t.nat 0x3800 4 = min sel.toNat (7 - (7 &&& s.capo.blown)) ∧ t.capoC = [] ∧ t.mem = s.mem)) ∧
    (s.capo.vaon = true → s.nat 0x3800 1 = 0 → s.clk.refclk = true →
      Completes (.capoSelfTestComplete true) s (fun t => t.nat 0x3800 1 = 1 ∧ s.EntriesBut t [(0x3800, 1)] ∧
        ∀ k < 32, t.capoCAt k = { s.capoCAt k with expected := none, misses := 0 }) ∧
      Completes (.capoSelfTestComplete false) s fault) ∧
    (s.clk.refclk = false → exec (.capoSelfTestComplete true) s = .next s ∧ exec (.capoSelfTestComplete false) s = .next s ∧
      exec (.capoFault dev) s = .next s) ∧
    (s.capo.vaon = true → s.clk.refclk = true →
      (dev.natAbs ≤ 50000 → exec (.capoFault dev) s = .next (s.putI 0x3800 0x0D (sat32 dev))) ∧
      (50000 < dev.natAbs → s.nat 0x3800 1 ≠ 2 → Completes (.capoFault dev) s (fun t => fault t ∧ t.int 0x3800 0x0D = sat32 dev)))

/-- R383: the excursion of the expected sign that begins in time and ends in time is valid: it is counted in 3810 + k:08
and sets the expectation of the other sign. A miss, once the watch interval has passed without the excursion, or with the excursion of
the expected sign lasting longer, sets the same expectation again and the count to 0, and the second
in a row, with the arm signal high, is a scan trip. Where a command's condition does not hold it does nothing: the
model's choice (log 1). -/
def Obligations.ScanWatchCountsExcursions : Prop :=
  ∀ (k : CourseId) (sg : Bool) (t0 t1 time : Nat) (s : State),
    let c := s.capoCAt k.val
    let w := s.nat (0x3810 + k.val) 4 / 20
    let over_ : Prop := c.exc = none ∧ t0 + w ≤ time ∨ c.exc = some (sg, t1, true) ∧ t1 + w ≤ time
    (s.nat 0x3800 1 ≠ 1 → exec (.scanExcursion k sg true time) s = .next s ∧ exec (.scanExcursion k sg false time) s = .next s ∧
      exec (.scanWatchMiss k time) s = .next s) ∧
    (s.nat 0x3800 1 = 1 → s.capo.vaon = true →
      (c.expected = some (sg, t0) → Completes (.scanExcursion k sg true time) s (fun t =>
        t.capoCAt k.val = { c with exc := some (sg, time, decide (time - t0 ≤ w)) } ∧ s.EntriesBut t [(0x3810 + k.val, 9)])) ∧
      (c.exc = some (sg, t0, true) → time - t0 ≤ w → Completes (.scanExcursion k sg false time) s (fun t =>
        t.capoCAt k.val = { c with exc := none, lastEnd := some time, misses := 0, expected := some (!sg, time) } ∧
        t.nat (0x3810 + k.val) 8 = min (s.nat (0x3810 + k.val) 8 + 1) 255 ∧
          s.OnlyEntries { t with capoC := s.capoC } [(0x3810 + k.val, 8)])) ∧
      (s.watchOver k.val time = false → exec (.scanWatchMiss k time) s = .next s) ∧
      (c.expected = some (sg, t0) → over_ → c.misses = 0 → Completes (.scanWatchMiss k time) s (fun t =>
        (t.capoCAt k.val).misses = 1 ∧ (t.capoCAt k.val).expected = some (sg, time) ∧ (t.capoCAt k.val).trips = c.trips ∧
        t.nat (0x3810 + k.val) 8 = 0 ∧ s.EntriesBut t [(0x3810 + k.val, 8)])) ∧
      (c.expected = some (sg, t0) → over_ → 1 ≤ c.misses → c.armed = true → Completes (.scanWatchMiss k time) s (fun t =>
        (t.capoCAt k.val).misses = c.misses + 1 ∧ bit (t.capoCAt k.val).trips 0 = true ∧ t.nat (0x3810 + k.val) 8 = 0)))

/-- R380, R385, R388, R390: a string that has emitted more than its mean level allows trips T2; a trip latches on its course, sets its hush cause bit, is counted and shown in 3800:12, and hushes
the course; an interlock trip latches T4 on every course that is not STOPPED and takes the device from LIT to DARK;
overtravel releases AXIS_EN[k] and fails the mirror. A re-arm clears T4 after the interlock hold and never T5, for
which it answers 0x07, counted in 3800:0E. Where a command's condition does not hold it does nothing: the model's
choice (log 1). Other choices of the model's it rests on: logs 28, 86. -/
def Obligations.TripsLatchUntilTheyAreRearmed : Prop :=
  ∀ (k : CourseId) (string : CanvasId) (m : MasterId) (s : State),
    let c := s.capoCAt k.val
    (s.capo.vaon = true → s.courseOfString string.val = some k.val →
      (bit c.trips 1 = true ∨ s.energyOver k.val string.val = false → exec (.energyTrip string) s = .next s) ∧
      (bit c.trips 1 = false → s.energyOver k.val string.val = true → Completes (.energyTrip string) s (fun t =>
        (t.capoCAt k.val).trips = (c.trips ||| 2) ∧ t.flag (crs k.val) 3 0 = true ∧
        t.nat (0x3810 + k.val) 0x0B = min (s.nat (0x3810 + k.val) 0x0B + 1) 0xFFFFFFFF ∧
        t.nat 0x3800 0x12 = k.val * 2 ^ 56 + 2 * 2 ^ 48 + s.upUs % 2 ^ 48 ∧
        (s.flag (crs k.val) 3 0 = false → s.cst k.val ≠ 0 → t.cst k.val = 5 ∨ t.cst k.val = 0) ∧ t.mem = s.mem))) ∧
    (s.capo.vaon = true → Completes .interlockTrip s (fun t => t.capo.interlock = false ∧ t.nat 0x3800 5 = 0 ∧
      t.nat 0x3800 0x0B = min (s.nat 0x3800 0x0B + 1) 0xFFFFFFFF ∧ t.dst = (if s.dst = 2 then 1 else s.dst) ∧
      (s.cst k.val ≠ 0 → bit (t.capoCAt k.val).trips 3 = true ∧ (bit c.trips 3 = false → t.flag (crs k.val) 3 1 = true)) ∧
      (s.cst k.val = 0 → t.capoCAt k.val = c) ∧ t.mem = s.mem)) ∧
    (s.capo.interlock = false → Completes .interlockRise s (fun t =>
      t.capo.interlock = true ∧ t.capo.highSince = s.clk.up ∧ t.nat 0x3800 5 = 1 ∧ t.capoC = s.capoC)) ∧
    (s.capo.interlock = true → exec .interlockRise s = .next s) ∧
    (s.capo.vaon = true → Completes (.overtravelTrip k) s (fun t => bit (t.capoCAt k.val).trips 2 = true ∧
      t.nat (0x3150 + k.val) 0x1C = 0 ∧
      (s.cst k.val ≠ 0 → (t.mirAt k.val).failed = true) ∧ t.mem = s.mem)) ∧
    (s.capo.vaon = false → exec (.overtravelTrip k) s = .next s ∧ exec (.energyTrip string) s = .next s) ∧
    (s.ozRuns = true → s.serves 0x3800 = true → c.trips = 8 → s.capo.interlock = true → s.capo.highSince + s.nat 0x3800 6 * tMs ≤ s.clk.up →
      Completes (.rearm m (1#32 <<< k.val)) s (fun t => (t.capoCAt k.val).trips = 0 ∧ t.flag (crs k.val) 3 1 = false ∧
        t.oz.answered = s.oz.answered ++ [(0x02, writeItem 0x04 0x3800 7 4, 0x00, [])])) ∧
    (s.ozRuns = true → s.serves 0x3800 = true → bit c.trips 4 = true → Completes (.rearm m (1#32 <<< k.val)) s (fun t =>
      bit (t.capoCAt k.val).trips 4 = true ∧ t.nat 0x3800 0x0E = min (s.nat 0x3800 0x0E + 1) 0xFFFFFFFF ∧
      t.oz.answered = s.oz.answered ++ [(0x02, writeItem 0x04 0x3800 7 4, 0x07, [])]))

/-! ### Thermal management and tuning -/

/-- R421, R424, R425, R428: a die reading at or above 125 °C, and a comparator trip, shut the device down: SHUTDOWN with
every course STOPPED and the latch and THERMTRIP_N set; the store die's reading is shown with bit 7 of 4100:03; a
zone's disagreement is its state 2; a throttled unit that has worked for 16 µs pauses, at level n for 2^(n − 1) µs, counted; a laser re-arm clears bit 2 of a cooled
course and is refused with 0x07 for a hot one. Where a command's condition does not hold it does nothing: the model's
choice (log 1). Other choices of the model's it rests on: log 44. -/
def Obligations.TemperaturesAreManaged : Prop :=
  ∀ (i : Fin 24) (z : Fin 12) (k : CourseId) (m : MasterId) (v : Int) (s : State),
    let till := s.clk.up + 2 ^ (s.nat 0x4100 2 - 1) * tUs
    let down (t : State) : Prop := t.dst = 4 ∧ t.capo.shutLatch = true ∧ t.pwr.thermtrip = true ∧ (∀ j < 32, t.cst j = 0) ∧
      t.mem.cells = []
    ((s.dst = 1 ∨ s.dst = 2 ∨ s.dst = 3) →
      Completes (.dieComparatorTrip z) s (fun t => down t ∧ t.nat 0x4100 0x0A = z.val * 2 ^ 56 + 2 * 2 ^ 48 + s.upUs % 2 ^ 48) ∧
      (125000 ≤ v → v ≤ 175000 → s.therm.dieFailed = [] → (∀ d < 98, s.keyUses d (.die i) = false) →
        Completes (.temperatureSample (.die i) (.milliC v)) s down)) ∧
    (s.dst = 0 ∨ s.dst = 4 → exec (.dieComparatorTrip z) s = .next s) ∧
    (-55000 ≤ v → v ≤ 175000 → exec (.temperatureSample .store (.milliC v)) s =
      .next ((({ s with therm := { s.therm with store := some ((v : Rat) / 1000) } } : State).putF 0x4100 7 ((v : Rat) / 1000)).setFlag
        0x4100 3 7 (decide (v < -20000) || decide (105000 < v)))) ∧
    (s.zonesDiffer z.val = true → s.therm.dieFailed = [] → exec (.zoneDisagreement z) s =
      .next ((s.putN (zoneIx z.val) 4 2).setFlag 0x4100 3 4 true)) ∧
    (s.zonesDiffer z.val = false → exec (.zoneDisagreement z) s = .next s) ∧
    (∀ u, s.nat 0x4100 2 = 0 ∨ s.clk.up < s.pauseEnd u + 16 * tUs → exec (.throttlePause u) s = .next s) ∧
    (s.nat 0x4100 2 ≠ 0 →
      (s.therm.ingestPause + 16 * tUs ≤ s.clk.up → ∀ u ∈ [PauseUnit.ingest, .hostRings], exec (.throttlePause u) s =
        .next (({ s with therm := { s.therm with ingestPause := till } } : State).bump 0x25F0 7)) ∧
      (s.therm.warpPause + 16 * tUs ≤ s.clk.up → exec (.throttlePause .warp) s =
        .next (({ s with therm := { s.therm with warpPause := till } } : State).bump 0x26F0 8)) ∧
      (s.therm.capturePause + 16 * tUs ≤ s.clk.up → exec (.throttlePause .capture) s =
        .next (({ s.drainAll with therm := { s.therm with capturePause := till } } : State).bump 0x28F0 3))) ∧
    (s.ozRuns = true → s.serves 0x4100 = true → s.laserSensors k.val = [] → s.flag (crs k.val) 3 2 = true →
      Completes (.laserRearm m (1#32 <<< k.val)) s (fun t => t.flag (crs k.val) 3 2 = false ∧
        t.oz.answered = s.oz.answered ++ [(0x02, writeItem 0x04 0x4100 8 4, 0x00, [])])) ∧
    (∀ q : Rat, s.ozRuns = true → s.serves 0x4100 = true → s.laserSensors k.val ≠ [] → s.laserManaged k.val = some q →
      s.f32 (laserIx k.val) 5 - 5 ≤ q →
      s.flag (crs k.val) 3 2 = true → exec (.laserRearm m (1#32 <<< k.val)) s =
        .next (s.answer 0x02 (writeItem 0x04 0x4100 8 4) 0x07 []))

/-- R401, R402: at the load instant of its course a peg takes the code that has been pending in its shadow for 2 µs, moving by at most 256
codes, and the other pegs hold theirs; the pegs of stopped courses load at any time; no peg is loaded in START or SHUTDOWN, of a stopped
course with its course, before the instant, or, with a code for
the capture input pending, after a bow with a harmonic. Said where no domain has values that wait. R412
to R417, R284: a run command requests a run, which is active at once where its course is LIT outside supply hold and else
pending; a run that has been through its phases ends with its count advanced, and one at its timeout with the fault counted in each of
the course's domains;
and a run that has placed no probe for 10 s has the next bow's bands. Where a command's condition does not
hold it does nothing but to bring the shadows up to date: the model's choice (log 1). Other choices of the model's it rests on: logs 3, 5. -/
def Obligations.PegsLoadAndTuningRuns : Prop :=
  (∀ (k : CourseId) (p v : Nat) (s : State),
     let u := s.pegsRefresh
     let x := u.pegsAt p
     let loaded : PegSt := { x with
       code := if x.code + 256 < v then x.code + 256 else if v + 256 < x.code then x.code - 256 else v
       shadow := if x.code + 256 < v ∨ v + 256 < x.code then some v else none, before := x.code, loadedAt := s.clk.slot }
     let counted (t : State) : Prop := s.EntriesBut t [(0x40F0, 4), (0x40F0, 5)] ∧ t.mem = s.mem
     (s.dst = 0 ∨ s.dst = 4 → exec (.pegLoad (some k)) s = .next s ∧ exec (.pegLoad none) s = .next s) ∧
     (s.dst ≠ 0 → s.dst ≠ 4 →
       (s.cst k.val = 0 ∨ (u.captureLoadPending k.val = true ∧ s.turnHarmonic k.val = true) ∨
         (s.clk.slot : Rat) < s.loadInstant k.val → exec (.pegLoad (some k)) s = .next u) ∧
       (s.cst k.val ≠ 0 → (u.captureLoadPending k.val = false ∨ s.turnHarmonic k.val = false) →
         s.loadInstant k.val ≤ (s.clk.slot : Rat) → (∀ d < 98, (s.domainsAt d).waiting = []) →
         Completes (.pegLoad (some k)) s (fun t => counted t ∧
           (s.pegCourse p ≠ some k.val → t.pegsAt p = x) ∧
           (p < 370 → s.pegCourse p = some k.val → x.shadow = some v → v ≤ 16383 →
             (s.clk.up < x.since + 2 * tUs → t.pegsAt p = x) ∧ (x.since + 2 * tUs ≤ s.clk.up → t.pegsAt p = loaded)))) ∧
       ((∀ d < 98, (s.domainsAt d).waiting = []) → p < 370 → (∀ c, s.pegCourse p = some c → s.cst c = 0) →
         x.shadow = some v → v ≤ 16383 → Completes (.pegLoad none) s (fun t => counted t ∧ t.pegsAt p = loaded)))) ∧
  (∀ (k : CourseId) (m : MasterId) (points values : Nat) (s : State),
     let x := s.runsAt k.val
     let done := (s.domainsOf k.val).length
     (s.ozRuns = true → s.serves 0x4000 = true → x.pending = false → x.active = false →
       (s.runMay k.val = true → Completes (.runCommand m (1#32 <<< k.val)) s (fun t =>
         t.runsAt k.val = { active := true, phase := 1, probedAt := s.clk.up } ∧ t.flag (domIx k.val) 4 0 = true ∧ t.mem = s.mem)) ∧
       (s.runMay k.val = false → Completes (.runCommand m (1#32 <<< k.val)) s (fun t =>
         t.runsAt k.val = { pending := true } ∧ t.flag (domIx k.val) 4 1 = true ∧ t.mem = s.mem))) ∧
     (x.active = false → exec (.tuningRunEnd k points values) s = .next s ∧ exec (.tuningRunTimeout k) s = .next s ∧
       exec (.tuningSliceForced k) s = .next s) ∧
     (x.active = true → s.runMay k.val = true →
       (x.phase ≠ 6 ∨ points ≠ done ∨ values ≠ x.measured.length → exec (.tuningRunEnd k points values) s = .next s) ∧
       (x.phase = 6 → Completes (.tuningRunEnd k done x.measured.length) s (fun t => t.nat 0x4000 7 = min (s.nat 0x4000 7 + 1) 0xFFFFFFFF ∧
         (x.measured = [] → (∀ d ∈ s.domainsOf k.val, s.points d = []) → t.runsAt k.val = {})))) ∧
     (x.active = true → s.cst k.val = 4 → s.flag 0x4200 4 0 = false →
       Completes (.tuningRunTimeout k) s (fun t => t.runsAt k.val = {} ∧
       t.flag (domIx k.val) 4 4 = true ∧
         (∀ d ∈ s.domainsOf k.val, t.nat (domIx d) 0x12 = min (s.nat (domIx d) 0x12 + 1) 0xFFFFFFFF) ∧
       t.mem = s.mem)) ∧
     (x.active = true → s.runMay k.val = true →
       (x.probedAt + 10 * tS ≤ s.clk.up → exec (.tuningSliceForced k) s =
         .next (((s.plcPut k.val { s.plcAt k.val with slice := true }).runsPut k.val { x with probedAt := s.clk.up }).bump
           (0x2800 + k.val) 0x18)) ∧
       (s.clk.up < x.probedAt + 10 * tS → exec (.tuningSliceForced k) s = .next s)))

/-! ### Memory -/

/-- R437 to R451: a write leaves the bytes of its addresses in the cells that those addresses name and every other cell as
it was; a read changes no cell and answers the bytes there. A write of part of a poisoned unit is refused, and of the
whole unit clears its poison bit (5000:1E shows how many units are poisoned). An address past its region faults; a
request without REFCLK waits with a credit reserved for its response, and one that finds no credit is not issued (R11). Said of requests that find no erroneous bytes. -/
def Obligations.MemoryKeepsWhatIsWritten : Prop :=
  ∀ (port : Fin 42) (cls : AddrClass) (a n bad : Nat) (d : List Byte) (s : State),
    let key (i : Nat) : Nat := cellKey (s.mem.loc cls (a + i)).1 (s.mem.loc cls (a + i)).2
    let unit := unitKey (s.mem.loc cls a).1 ((s.mem.loc cls a).2 / 64)
    (s.mem.chanMiB = 0 ∨ portClass port.val cls = false ∨ s.hasCredit (useMemory port.val) = false →
      exec (.memoryRequest port cls a (.read n) bad) s = .next s ∧ exec (.memoryRequest port cls a (.write d) bad) s = .next s) ∧
    (s.mem.chanMiB ≠ 0 → portClass port.val cls = true → s.hasCredit (useMemory port.val) = true →
      (s.mem.classBytes cls < a + n → exec (.memoryRequest port cls a (.read n) bad) s = .fault .noSuchAddress) ∧
      (s.mem.classBytes cls < a + d.length → exec (.memoryRequest port cls a (.write d) bad) s = .fault .noSuchAddress) ∧
      (a + n ≤ s.mem.classBytes cls → s.clk.refclk = false → exec (.memoryRequest port cls a (.read n) bad) s =
        .next { s.reserveCredit (useMemory port.val) with mem := { s.mem with
          waiting := s.mem.waiting ++ [{ port := port.val, cls := cls, addr := a, op := .read n, bad := bad }] } }) ∧
      (a + n ≤ s.mem.classBytes cls → s.clk.refclk = true → s.mem.poison = [] →
        Completes (.memoryRequest port cls a (.read n) 0) s (fun t =>
        t.out = s.out ++ [.memory port.val false ((List.range n).map (fun i => memRead s.mem.cells (key i)))] ∧
        t.mem.cells = s.mem.cells)) ∧
      (a + d.length ≤ s.mem.classBytes cls → s.clk.refclk = true →
        (s.mem.poison = [] → (∀ i j, i < d.length → j < d.length → key i = key j → i = j) →
          Completes (.memoryRequest port cls a (.write d) 0) s (fun t => t.out = s.out ++ [.memory port.val false []] ∧
            (∀ i b, d[i]? = some b → memRead t.mem.cells (key i) = b) ∧
            ∀ c, (∀ i < d.length, c ≠ key i) → memRead t.mem.cells c = memRead s.mem.cells c)) ∧
        (d ≠ [] → d.length < 64 → a % 64 + d.length ≤ 64 → s.mem.poison.contains unit = true →
          Completes (.memoryRequest port cls a (.write d) 0) s (fun t =>
            t.out = s.out ++ [.memory port.val true []] ∧ t.mem.cells = s.mem.cells ∧ t.mem.poison = s.mem.poison)) ∧
        (d.length = 64 → a % 64 = 0 → Completes (.memoryRequest port cls a (.write d) 0) s (fun t =>
          t.out = s.out ++ [.memory port.val false []] ∧ t.mem.poison = s.mem.poison.filter (· != unit) ∧
          t.liveVal 0 0x5000 0x1E = .num t.mem.poison.length))))

/-- R449, R453 to R455, R436, R465 to R468: refreshes are issued or postponed by at most 8 intervals, scrubbing reads unit
after unit, while no port is at panic, and counts its passes, a neighbour refresh serves the oldest trigger, mode register 4 is shown; a candidate
row is repaired where a resource is left and else counted; and permanent repair makes the list permanent. Where a
command's condition does not hold it does nothing: the model's choice (log 1). Other choices of the model's it rests
on: logs 3, 118. -/
def Obligations.DramIsMaintained : Prop :=
  ∀ (c : ChannelId) (rank : Fin 2) (bank : Fin 16) (unit w : Nat) (l : List Nat) (s : State),
    let x := s.chansAt c.val
    let i := rank.val * 16 + bank.val
    let n := tgetD x.postponed 0 i
    (x.writeBack.contains unit = true → exec (.correctedWriteBack c unit) s =
      .next (s.chansPut c.val { x with writeBack := x.writeBack.filter (· != unit) })) ∧
    (x.writeBack.contains unit = false → exec (.correctedWriteBack c unit) s = .next s) ∧
    (s.chanLive c.val = false → (∀ b, exec (.refresh c rank bank b) s = .next s) ∧ exec (.scrubRead c 0) s = .next s ∧
      exec (.mr4Read c 1 false) s = .next s ∧ exec (.neighbourRefresh c) s = .next s) ∧
    (s.chanLive c.val = true → s.clk.refclk = true → n < 8 →
      exec (.refresh c rank bank true) s = .next (s.chansPut c.val { x with postponed := tput x.postponed 0 i (n - 1) }) ∧
      exec (.refresh c rank bank false) s = .next (s.chansPut c.val { x with postponed := tput x.postponed 0 i (n + 1) })) ∧
    (s.chanLive c.val = true → s.clk.refclk = true → 8 ≤ n → exec (.refresh c rank bank false) s =
      .next ((s.chansPut c.val { x with postponed := tput x.postponed 0 i 8 }).bump 0x5000 0x2A)) ∧
    (s.anyPanic = true → exec (.scrubRead c 0) s = .next s ∧ exec .softRepair s = .next s) ∧
    (s.chanLive c.val = true → s.clk.refclk = true → s.anyPanic = false → x.scrub < s.mem.units → s.mem.poison = [] →
      (s.mem.scrubbed + 1 < 32 * s.mem.units → exec (.scrubRead c 0) s =
        .next (({ (s.chansPut c.val { x with scrub := x.scrub + 1 }) with mem := { s.mem with scrubbed := s.mem.scrubbed + 1 } } : State).putN
          0x5000 0x12 ((s.mem.scrubbed + 1) * 100 / (32 * s.mem.units)))) ∧
      (32 * s.mem.units ≤ s.mem.scrubbed + 1 → Completes (.scrubRead c 0) s (fun t =>
        t.nat 0x5000 0x13 = min (s.nat 0x5000 0x13 + 1) 0xFFFFFFFF ∧ t.nat 0x5000 0x12 = 0 ∧ t.flag 0x5000 0x1A 3 = false ∧
        t.mem.scrubbed = 0 ∧ t.mem.cells = s.mem.cells ∧ ∀ k < 32, (t.chansAt k).scrub = 0))) ∧
    exec .scrubOverdue s = .next (({ s with mem := { s.mem with scrubLate := true } } : State).setFlag 0x5000 0x1A 3 true) ∧
    (x.neighbours = w :: l → s.chanLive c.val = true → s.anyPanic = false →
      2 ≤ w / 16 % 2 ^ s.mem.rowBits (s.nat 0x5000 3) →
        w / 16 % 2 ^ s.mem.rowBits (s.nat 0x5000 3) + 2 < 2 ^ s.mem.rowBits (s.nat 0x5000 3) →
      exec (.neighbourRefresh c) s = .next ((s.chansPut c.val { x with neighbours := l }).add64 0x5000 0x1F 4)) ∧
    (∀ m hot, s.chanLive c.val = true → m = 1 ∨ m = 2 ∨ m = 4 →
      Completes (.mr4Read c m hot) s (fun t => t.nat (0x5010 + c.val) 7 = m ∧
      (t.chansAt c.val).hot = hot ∧ s.OnlyEntries { t with chans := s.chans } [(0x5010 + c.val, 7), (0x5000, 0x1A)])) ∧
    ((∀ k < 32, (s.chansAt k).candidates = []) → exec .softRepair s = .next s) ∧
    ((∀ k < c.val, (s.chansAt k).candidates = []) → x.candidates = w :: l → s.anyPanic = false → s.chanLive c.val = true →
      s.clk.refclk = true → Completes .softRepair s (fun t =>
      (t.chansAt c.val).candidates = l.filter (· != w) ∧ t.mem.cells = s.mem.cells ∧
      (if 0 < s.repairRoom c.val then t.mem.listed = s.mem.listed ++ [(c.val, w, false)] ∧
          t.nat 0x5000 0x24 = min (s.nat 0x5000 0x24 + 1) 0xFFFFFFFF
        else t.mem.listed = s.mem.listed ∧ t.nat 0x5000 0x27 = min (s.nat 0x5000 0x27 + 1) 0xFFFFFFFF ∧
          t.flag 0x5000 0x1A 4 = true))) ∧
    (s.pwr.entering = true → s.nat 0x5000 0x28 = 1 → Completes .hardRepair s (fun t =>
      t.mem.listed = s.mem.listed.map (fun r => (r.1, r.2.1, true)) ∧
        t = { s with mem := { s.mem with listed := t.mem.listed }, store := t.store })) ∧
    (s.pwr.entering = false → exec .hardRepair s = .next s)

/-- R434, R442, R456, R457, R460 to R464: a rank that is idle enters power-down and an idle channel self-refresh while the
device enters STANDBY; drift beyond the threshold makes a retrain due, which is forced (counted, and again where it finds a port at panic, for which it waits), taken and counted; and the
training at START gives the sizes of memory, or DRAM that has failed. Where a command's condition does not hold it
does nothing: the model's choice (log 1). Other choices of the model's it rests on: logs 3, 117. -/
def Obligations.DramTrainsAndSleeps : Prop :=
  ∀ (c : ChannelId) (rank : Fin 2) (count : Int) (r : TrainingResult) (s : State),
    let x := s.chansAt c.val
    let ix := 0x5010 + c.val
    (s.chanLive c.val = false → exec (.powerDownEntry c rank) s = .next s ∧ exec (.selfRefreshEntry c) s = .next s ∧
      exec (.oscillatorRead c count) s = .next s) ∧
    (s.chanLive c.val = true → s.nat 0x5000 0x0E ≠ 0 → rank.val < s.nat 0x5000 4 → x.down = [] → x.downSince = none →
      exec (.powerDownEntry c rank) s = .next (((s.chansPut c.val { x with down := [rank.val], downSince := some s.clk.up }).setChan
        c.val 2).add64 0x5000 0x23 1)) ∧
    (s.chanLive c.val = true → s.allStopped = true → s.pwr.entering = true → s.repairsDone c.val = true →
      Completes (.selfRefreshEntry c) s (fun t => t.nat ix 1 = 3 ∧ (t.chansAt c.val).due = false ∧ t.mem.cells = s.mem.cells)) ∧
    (s.chanLive c.val = true → -32768 ≤ count → count ≤ 32767 → x.due = false →
      (s.nat 0x5000 0x15 < count.natAbs →
        Completes (.oscillatorRead c count) s (fun t => (t.chansAt c.val) = { x with due := true } ∧
        t.int ix 6 = count ∧ t.mem.dueOrder = s.mem.dueOrder ++ [c.val] ∧ s.EntriesBut t [(ix, 6)])) ∧
      (count.natAbs ≤ s.nat 0x5000 0x15 → s.clk.up < x.trainedAt + s.nat 0x5000 0x14 * tMs →
        exec (.oscillatorRead c count) s = .next (s.putI ix 6 count))) ∧
    (x.due = false → exec (.retrainForced c) s = .next s ∧ exec (.retrainPause c) s = .next s ∧
      exec (.retrainOverdue c) s = .next s) ∧
    (x.due = true →
      (x.forced = false → s.anyPanic = false →
        exec (.retrainForced c) s = .next ((s.chansPut c.val { x with forced := true, waited := false }).bump 0x5000 0x17)) ∧
      (x.forced = false → s.anyPanic = true → exec (.retrainForced c) s =
        .next (((s.chansPut c.val { x with forced := true, waited := true }).bump 0x5000 0x17).bump 0x5000 0x18)) ∧
      (x.overdue = false → exec (.retrainOverdue c) s =
        .next (((s.chansPut c.val { x with overdue := true }).bump 0x5000 0x19).setFlag 0x5000 0x1A 5 true)) ∧
      (s.mayRetrain c.val = true → Completes (.retrainPause c) s (fun t => (t.chansAt c.val) = { x with
          due := false, forced := false, waited := false, overdue := false, trainedAt := s.clk.up } ∧
        t.nat 0x5000 0x16 = min (s.nat 0x5000 0x16 + 1) 0xFFFFFFFF ∧ t.nat ix 5 = min (s.nat ix 5 + 1) 0xFFFFFFFF ∧
        t.int ix 6 = 0 ∧ t.mem.dueOrder = s.mem.dueOrder.filter (· != c.val)))) ∧
    (s.dst ≠ 0 → exec (.dramTrainingComplete r) s = .next s) ∧
    (s.dst = 0 → s.pwr.dramTrained = false → 2 ≤ s.pwr.step → s.clk.refclk = true →
      (trainingFails r = true → Completes (.dramTrainingComplete r) s (fun t =>
        t.nat 0x5000 1 = 3 ∧ t.flag 0x5000 0x1A 8 = true ∧ t.pwr.dramFailed = true ∧ t.pwr.dramTrained = true)) ∧
      (trainingFails r = false → Completes (.dramTrainingComplete r) s (fun t =>
        t.nat 0x5000 1 = 1 ∧ t.nat 0x5000 3 = r.density ∧ t.nat 0x5000 4 = r.ranks ∧
          t.nat 0x5000 5 = 32 * (r.density * 128 * r.ranks) ∧
        t.mem.chanMiB = (if s.nat 0x5000 7 = 1 then r.density * 128 * r.ranks * 7 / 8 else r.density * 128 * r.ranks) ∧
        t.nat 0x5000 6 = 32 * t.mem.chanMiB ∧ t.pwr.dramTrained = true ∧ ∀ k < 32, t.nat (0x5010 + k) 1 = 1)))

/-! ### Rings, management pairs and spares -/

/-- R478, R482, R483, R485: a doorbell moves the ring's head, or its tail toward the host, within what the ring holds, and
is counted in 6000:05 and shown in 6000:06 where it is refused; the index is written back to the host, then the vector
raised, at most once per moderation period. Where a command's condition does not hold it does nothing: the model's
choice (log 1). -/
def Obligations.HostRingsFollowTheirDoorbells : Prop :=
  ∀ (v : BitVec 64) (q : Fin 262144) (s : State),
    let n := bits v.toNat 49 32
    let i := bits v.toNat 31 0
    let r := s.ringAt n
    let x := s.ringAt q.val
    (0x18000 ≤ n → r.enabled = true → r.deviceToHost = false → idxAfter i r.head = true → idxDist i r.tail ≤ r.count →
      Completes (.hostDoorbell v) s (fun t => t.ringAt n = { r with head := i } ∧ s.EntriesBut t [(0x6000, 3)] ∧ t.out = s.out)) ∧
    (0x18000 ≤ n → r.enabled = true → r.deviceToHost = true → idxAfter i r.tail = true → idxDist i r.tail ≤ r.outstanding →
      Completes (.hostDoorbell v) s (fun t => t.ringAt n = { r with tail := i } ∧ s.EntriesBut t [(0x6000, 3)] ∧ t.out = s.out)) ∧
    (r.enabled = false → Completes (.hostDoorbell v) s (fun t => (t.ringAt n).head = r.head ∧ (t.ringAt n).tail = r.tail ∧
      t.nat 0x6000 5 = min (s.nat 0x6000 5 + 1) 0xFFFFFFFF ∧ t.nat 0x6000 6 = v.toNat)) ∧
    (x.enabled = true → x.dirty = true → x.writeBack ≠ 0 → Completes (.ringWriteBack q) s (fun t =>
      .hostWrite x.writeBack (leBytes 8 (if x.deviceToHost then x.head else x.tail)) ∈ t.out ∧ (t.ringAt q.val).dirty = false ∧
      (x.vector ≠ 0xFFFF → x.moderation = 0 → .msix x.vector ∈ t.out) ∧
      (x.vector ≠ 0xFFFF → x.moderation ≠ 0 → x.quiet = true → (t.ringAt q.val).withheld = true))) ∧
    (x.dirty = false → exec (.ringWriteBack q) s = .next s) ∧
    (x.withheld = false → exec (.moderationExpiry q) s = .next (s.ringPut q.val { x with quiet := false })) ∧
    (x.withheld = true → x.vector ≠ 0xFFFF → Completes (.moderationExpiry q) s (fun t =>
      t.out = s.out ++ [.msix x.vector] ∧ (t.ringAt q.val).withheld = false ∧ t.dict = s.dict))

/-- R493, R496, R497: a fault of the active pair, counted, lets a synchronised standby take over, else the pair restarts
in place; a pair that is ready is standby again unless policy 0 holds it back. A unit that restarts is counted in
7000:17, its own state cleared. Where a command's condition does not hold it does nothing: the model's choice (log 1).
Other choices of the model's it rests on: log 49. -/
def Obligations.PairsTakeOverOrRestart : Prop :=
  ∀ (k : CourseId) (l : LaneId) (p : PortId) (s : State),
    let f := s.fw
    let counted (t : State) : Prop := t.nat 0x7000 0x17 = min (s.nat 0x7000 0x17 + 1) 0xFFFFFFFF
    let taken (t : State) : Prop := t.fw.role f.other = 1 ∧ t.fw.role f.active ≠ 1 ∧ t.fw.synced = false ∧ t.fw.restarting = false ∧
      t.nat 0x7F00 8 = min (s.nat 0x7F00 8 + 1) 0xFFFFFFFF ∧ t.mem = s.mem
    (f.restarting = true → exec .pairFault s = .next (s.bump 0x7F00 9) ∧ exec .watchdogExpiry s = .next (s.bump 0x7F00 0x0C)) ∧
    (f.restarting = false → f.ready = true → Completes .pairFault s taken ∧ Completes .watchdogExpiry s taken ∧
      exec .pairRestartInPlace s = .next s) ∧
    (f.restarting = false → f.ready = false →
      Completes .pairFault s (fun t => t.fw.restarting = true ∧ counted t ∧ t.nat 0x7F00 9 = min (s.nat 0x7F00 9 + 1) 0xFFFFFFFF) ∧
      Completes .watchdogExpiry s (fun t => t.fw.restarting = true ∧ counted t ∧
        t.nat 0x7F00 0x0C = min (s.nat 0x7F00 0x0C + 1) 0xFFFFFFFF) ∧
      Completes .pairRestartInPlace s (fun t => t.fw = { f with restarting := true, switchDue := false } ∧ counted t ∧
        t.mem = s.mem)) ∧
    Completes .pairRestartComplete s (fun t => t.fw = { f with restarting := false } ∧ t.mem = s.mem ∧ t.store = s.store) ∧
    (f.faulty = 1 ∨ f.faulty = 2 → s.nat 0x7000 4 ≠ 0 → Completes .pairStandbyReady s (fun t =>
      t.fw.role (f.faulty - 1) = 2 ∧ t.fw.synced = true ∧ t.fw.faulty = 0 ∧ s.EntriesBut t [(0x7F00, 7)])) ∧
    (f.faulty = 0 ∨ s.nat 0x7000 4 = 0 → exec .pairStandbyReady s = .next s) ∧
    Completes (.unitRestart .queueEngine) s (fun t => t.queues = { s.queues with resident := [] } ∧ counted t ∧
      t.nat 0x6000 7 = min (s.nat 0x6000 7 + 1) 0xFFFFFFFF) ∧
    Completes (.unitRestart (.portReceive p)) s (fun t => counted t ∧ t.nat 0x7000 0x18 = 8 * 2 ^ 56 + s.upUs % 2 ^ 48 ∧
      t.rx = s.rx.filter (fun y => y.port != p.val) ∧ t.mem = s.mem) ∧
    Completes (.unitRestart (.placement k)) s (fun t => counted t ∧ (t.plcAt k.val).restart = true ∧
      (t.plcAt k.val).cur = (s.plcAt k.val).cur ∧ t.nat 0x7000 0x18 = 10 * 2 ^ 56 + 2 ^ 48 + s.upUs % 2 ^ 48) ∧
    Completes (.unitRestart (.fetch k)) s (fun t => counted t ∧ (t.fetAt k.val).resident = [] ∧
      ∀ b ∈ (t.fetAt k.val).bows, b.levels = none) ∧
    Completes (.unitRestart .ingest) s (fun t => counted t ∧ t.nat 0x25F0 8 = min (s.nat 0x25F0 8 + 1) 0xFFFFFFFF) ∧
    ((s.lanesAt l.val).state = 2 → (s.lanesAt l.val).retrainTimes = [] → Completes (.unitRestart (.lane l)) s (fun t =>
      counted t ∧ (t.lanesAt l.val).state = 4))

/-- R499, R500 (Table 14.7): an image written is valid in its slot with the update state 2, one that fails leaves the slot
invalid with state 8; the standby then loads it (3), is synchronised on it (4), is switched to at once where every
course is STOPPED and else at a frame start (5), and the update ends with the boot slot moved (6). A word that is not
1 is refused with 0x05. Where a command's condition does not hold it does nothing: the model's choice (log 1). Other
choices of the model's it rests on: log 49. -/
def Obligations.UpdatesGoThroughTheirSteps : Prop :=
  ∀ (m : MasterId) (v : Byte) (i : Fin 2) (b : List Byte) (s : State),
    let f := s.fw
    let it3 := writeItem 0x02 0x7F00 3 1
    let it4 := writeItem 0x02 0x7F00 4 1
    (f.writing = none ∨ s.canPersist = false → exec (.imageWriteComplete true) s = .next s ∧
      exec (.imageWriteComplete false) s = .next s) ∧
    (f.writing = some (i.val, b) → s.canPersist = true → s.store.slots.length = 2 → s.store.slotStates.length = 2 →
      Completes (.imageWriteComplete true) s (fun t => t.slotImage i.val = b ∧ t.slotState i.val = 1 ∧ t.nat 0x7F00 0x0A = 2 ∧
        t.fw = { f with writing := none } ∧ t.mem = s.mem) ∧
      Completes (.imageWriteComplete false) s (fun t => t.slotState i.val = 2 ∧ t.nat 0x7F00 0x0A = 8 ∧
        t.fw = { f with writing := none } ∧ t.store.slots = s.store.slots ∧ t.mem = s.mem)) ∧
    (s.ozRuns = true → v ≠ 1 → exec (.loadStandby m v) s = .next (s.answer 0x02 it3 0x05 []) ∧
      exec (.switchOver m v) s = .next (s.answer 0x02 it4 0x05 [])) ∧
    (s.ozRuns = true → s.nat 0x7F00 0x0A = 2 → f.writing = none → f.role f.other ≠ 4 → exec (.loadStandby m 1) s =
      .next ((({ s with fw := { f.setRole f.other 3 with synced := false, faulty := 0 } } : State).putN 0x7F00 0x0A 3).answer 0x02 it3 0x00 [])) ∧
    (s.nat 0x7F00 0x0A = 3 → Completes .standbySynchronised s (fun t => t.nat 0x7F00 0x0A = 4 ∧ t.fw.role f.other = 2 ∧
      t.fw.role f.active = f.role f.active ∧ t.fw.synced = true ∧ s.EntriesBut t [(0x7F00, 0x0A), (0x7F00, 7)])) ∧
    (s.nat 0x7F00 0x0A ≠ 3 → exec .standbySynchronised s = .next s) ∧
    (s.ozRuns = true → s.nat 0x7F00 0x0A = 4 → f.ready = true → (∀ k < 32, s.cst k = 0) → Completes (.switchOver m 1) s (fun t =>
      t.nat 0x7F00 0x0A = 5 ∧ t.fw.role f.other = 1 ∧ t.fw.role f.active = 5 ∧ t.nat 0x1000 7 = 1 - s.nat 0x1000 7 ∧
      t.nat 0x7F00 8 = min (s.nat 0x7F00 8 + 1) 0xFFFFFFFF ∧ t.oz.answered = s.oz.answered ++ [(0x02, it4, 0x00, [])])) ∧
    (∀ k < 32, s.ozRuns = true → s.nat 0x7F00 0x0A = 4 → f.ready = true → s.cst k ≠ 0 → exec (.switchOver m 1) s =
      .next (({ s with fw := { f with switchDue := true } } : State).answer 0x02 it4 0x00 [])) ∧
    (s.nat 0x7F00 0x0A = 5 → Completes .probationEnd s (fun t => t.nat 0x7F00 0x0A = 6 ∧ t.nat 0x7F00 2 = s.nat 0x1000 7 ∧
      t.fw.role f.other = 2 ∧ t.fw.synced = true ∧ s.EntriesBut t [(0x7F00, 2), (0x7F00, 7), (0x7F00, 0x0A)])) ∧
    (s.nat 0x7F00 0x0A ≠ 5 → exec .probationEnd s = .next s)

/-! ### Power, reset and JTAG -/

/-- R516, R519 to R521, R525: valid power begins START and is counted; a rail below its warning level is supply hold,
which ends with every rail back, counted and shown; overvoltage is shown and counted; the slot PLL's lock begins the
slot timeline with every lane in TRAINING. Where a command's condition does not hold it does nothing: the model's
choice (log 1). Other choices of the model's it rests on: log 96. -/
def Obligations.SuppliesAreWatched : Prop :=
  ∀ (mv : Nat) (rail : Fin 11) (l : LaneId) (k : CourseId) (s : State),
    (s.pwr.valid = true ∨ s.capo.vaon = false → exec (.powerValid mv) s = .next s) ∧
    (s.pwr.valid = false → s.capo.vaon = true → Completes (.powerValid mv) s (fun t => t.pwr.valid = true ∧ t.pwr.step = 1 ∧
      t.nat 0x7100 0x0B = (s.nat 0x7100 0x0B + 1) % 2 ^ 32 ∧
      t.val 0x4200 0x15 = .num (f32OfRat (if 2500 < mv then 33 / 10 else 18 / 10)) ∧
      s.EntriesBut t [(0x7100, 0x0B), (0x4200, 0x15)] ∧ t.mem = s.mem)) ∧
    (s.belowWarning rail.val mv = false → exec (.supplyHoldEntry rail mv) s = .next s) ∧
    (s.belowWarning rail.val mv = true → (s.dst = 1 ∨ s.dst = 2 ∨ s.dst = 3) → s.flag 0x4200 4 0 = false →
      Completes (.supplyHoldEntry rail mv) s (fun t => t.nat 0x4200 4 = 1 ∧ t.flag 0x4200 5 rail.val = true ∧
        t.flag 0x5000 0x1A 1 = true ∧
        t.pwr.holdSince = s.clk.up ∧ s.EntriesBut t [(0x4200, 4), (0x4200, 5), (0x5000, 0x1A), (0x4000, 8)] ∧ t.mem = s.mem)) ∧
    (s.flag 0x4200 4 0 = true → Completes .supplyHoldEnd s (fun t => t.nat 0x4200 4 = 0 ∧ t.pwr.low = [] ∧
      t.flag 0x4200 5 rail.val = false ∧
      t.flag 0x5000 0x1A 1 = false ∧ t.nat 0x4200 6 = min (s.nat 0x4200 6 + 1) 0xFFFFFFFF ∧ t.mem = s.mem)) ∧
    Completes (.overvoltage rail) s (fun t => t.flag 0x4200 5 11 = true ∧
      t.nat 0x4200 0x17 = min (s.nat 0x4200 0x17 + 1) 0xFFFFFFFF ∧
      s.EntriesBut t [(0x4200, 5), (0x4200, 0x17)] ∧ t.mem = s.mem) ∧
    (s.startMay = true → s.pwr.step = 1 → Completes .slotPllLock s (fun t => t.pwr.step = 2 ∧ t.clk.slot = 0 ∧
      t.clk.slotRun = true ∧
      (s.capo.shutLatch = false → (t.lanesAt l.val).state = 1 ∧ (t.retsAt k.val).enabled = true) ∧
      (s.capo.shutLatch = true → t.lanes = s.lanes) ∧ t.dict = s.dict ∧ t.mem = s.mem)) ∧
    (s.pwr.step ≠ 1 → exec .slotPllLock s = .next s)

/-- R521 to R525 (Table 15.2): each source of reset begins START with its own code: the device in START, lanes and mirrors
at their reset, DRAM contents gone. A reset of code 2 to 6 keeps the capo's shut-down latch, one of code 1 clears it.
Until power is valid the device stays held in reset, and the lowest code stands: the model's reading (log 184). Said of a store that
holds no value for the device state. -/
def Obligations.EverySourceResetsTheDevice : Prop :=
  ∀ (rail : Fin 11) (m : MasterId) (v : BitVec 16) (s : State),
    (∀ p ∈ s.store.image, p.1 ≠ dkey 0x4200 1) → (∀ w ∈ s.store.under ++ s.store.held, w.key ≠ dkey 0x4200 1) →
    let reset (code : Nat) (t : State) : Prop := t.dst = 0 ∧ t.pwr.cause = (if s.pwr.valid then code else min s.pwr.cause code) ∧
      t.pwr.step = (if code ≤ 2 ∨ s.pwr.valid = false then 0 else 1) ∧
      t.lanes = [] ∧ t.mir = [] ∧ t.slots = [] ∧ t.mem.cells = [] ∧ t.oz.masters = [] ∧ t.oz.commits = [] ∧
      t.clk.slotRun = false ∧ t.capo.emitOk = 0 ∧ t.capo.shutLatch = (if code = 1 then false else s.capo.shutLatch) ∧
      t.pending = s.pending
    Completes (.railReset 10) s (reset 1) ∧ (rail.val ≠ 10 → Completes (.railReset rail) s (reset 2)) ∧
    Completes .rstNReset s (reset 3) ∧ Completes .devreset s (reset 6) ∧
    (s.fw.restarting = true → Completes .restartWatchdogReset s (reset 5)) ∧
    (s.fw.restarting = false → exec .restartWatchdogReset s = .next s) ∧
    (s.ozRuns = true → s.serves 0x4200 = true →
      Completes (.deviceResetCommand m 0xA5C3) s (fun t => reset 4 t ∧
        t.oz.answered = s.oz.answered ++ [(0x02, writeItem 0x03 0x4200 8 2, 0x00, [])]) ∧
      (v ≠ 0xA5C3 → exec (.deviceResetCommand m v) s = .next (s.answer 0x02 (writeItem 0x03 0x4200 8 2) 0x05 [])))

/-- R375, R527, R533, R534 (Table 15.9): EXTEST and FUSEPROG act in START and STANDBY and as BYPASS elsewhere; IDCODE
shifts out the identity; FUSEPROG sets fuse bits, which stay; and the PCIe endpoint is up once power is valid. Where a
command's condition does not hold it does nothing: the model's choice (log 1). Other choices of the model's it rests
on: log 116. -/
def Obligations.JtagInstructionsAct : Prop :=
  ∀ (cells : List Bool) (mask : BitVec 3) (op : Byte) (s : State),
    let jtag (n : Nat) (u : State) : State := { u with pwr := { u.pwr with jtag := n } }
    (s.dst = 0 ∨ s.dst = 3 →
      exec (.extest cells) s = .next (jtag 0x00 { s with pwr := { s.pwr with boundary := cells } }) ∧
      exec (.fuseprog mask) s = .next (jtag 0x5A { s with capo := { s.capo with blown := s.capo.blown ||| mask.toNat } })) ∧
    (s.dst ≠ 0 → s.dst ≠ 3 → exec (.extest cells) s = .next (jtag 0xFF s) ∧ exec (.fuseprog mask) s = .next (jtag 0xFF s)) ∧
    exec (.samplePreload cells) s = .next (jtag 0x01 { s with pwr := { s.pwr with boundary := cells } }) ∧
    exec .idcode s = .next ((jtag 0x02 s).send (.tdo 32 0x10256A5F)) ∧
    (op.toNat ∉ [0x00, 0x01, 0x02, 0x3C, 0x5A] → exec (.bypass op) s = .next (jtag 0xFF s)) ∧
    (op.toNat ∈ [0x00, 0x01, 0x02, 0x3C, 0x5A] → exec (.bypass op) s = .next s) ∧
    (s.pwr.valid = true → exec .pciePerstDeassert s = .next { s with pwr := { s.pwr with pcieUp := true } }) ∧
    (s.pwr.valid = false → exec .pciePerstDeassert s = .next s)

/-! ### Frames -/

/-- What commands of time, frames, consorts, shafts, lanes, loops, mirrors and the capo may change: where one answers a next
state, every part of the state that is not named for it is as it was. Which dictionary entries change is said with each command. -/
def Obligations.FramesOfTimeLanesAndMirrors : Prop :=
  ∀ s : State,
    (∀ (port : PortId) (delay : PtpDelayMessage) (k : CourseId) (l : LaneId), ∀ c ∈ [Instr.ptpDelayResponse port delay,
      .duplicateNodeClear, .phaseLocked k, .phaseLockLost k, .hushUnconfirmed l], ∀ t, exec c s = .next t →
      t = { s with dict := t.dict }) ∧
    (∀ (k : CourseId) (t : State), exec (.contentFollowHoldover k) s = .next t →
      t = { s with frm := t.frm }) ∧
    (∀ (id : Fin 65536) (node : Fin 262144) (t : State), exec (.consortPeerAbsent id node) s = .next t →
      t = { s with beacon := t.beacon }) ∧
    (∀ (k : CourseId) (t : State), exec (.emitOkDrop k) s = .next t →
      t = { s with capo := t.capo }) ∧
    (∀ (l : LaneId) (block : Nat), ∀ c ∈ [Instr.laneRetrainQuietEnd l, .droneTimer l, .align l block], ∀ t,
      exec c s = .next t →
      t = { s with lanes := t.lanes }) ∧
    (∀ (j : Fin 8) (t : State), exec (.shaftIndex j) s = .next t →
      t = { s with shafts := t.shafts }) ∧
    (∀ (port : PortId) (a : Announce), ∀ c ∈ [Instr.ptpAnnounce port a, .announceReceiptTimeout], ∀ t, exec c s = .next t →
      t = { s with dict := t.dict, servo := t.servo }) ∧
    (∀ (k : CourseId), ∀ c ∈ [Instr.ptpFrameEpoch k, .contentFollowPeriodEnd k, .repeatFrame k], ∀ t, exec c s = .next t →
      t = { s with dict := t.dict, frm := t.frm }) ∧
    (∀ (m : MasterId) (slot : Nat) (t : State), exec (.moveToSpare m slot) s = .next t →
      t = { s with oz := t.oz, slots := t.slots }) ∧
    (∀ (id : Fin 65536) (t : State), exec (.beaconSend id) s = .next t →
      t = { s with beacon := t.beacon, out := t.out }) ∧
    (∀ (msg : List Byte) (t : State), exec (.beaconReceive msg) s = .next t →
      t = { s with dict := t.dict, beacon := t.beacon }) ∧
    (∀ (k : CourseId) (wire : BitVec 66) (b : ReturnBlock), ∀ c ∈ [Instr.retIdle k wire, .retStatus k wire,
      .retIdent k wire, .returnBlockInvalid b, .returnLaneDown k], ∀ t, exec c s = .next t →
      t = { s with dict := t.dict, rets := t.rets }) ∧
    (∀ (i : Fin 4) (t : State), exec (.syncInHoldover i) s = .next t →
      t = { s with dict := t.dict, syncs := t.syncs, frm := t.frm }) ∧
    (∀ (s0 : SlotId) (k : CourseId), ∀ c ∈ [Instr.loopOutputWrite s0, .excitationStart k, .ringWindowStart k,
      .axisEnRelease k], ∀ t, exec c s = .next t →
      t = { s with dict := t.dict, slots := t.slots, mir := t.mir }) ∧
    (∀ (sel : BitVec 3) (t : State), exec (.vaonValid sel) s = .next t →
      t = { s with dict := t.dict, capo := t.capo, capoC := t.capoC }) ∧
    (∀ (t : State), exec .interlockRise s = .next t →
      t = { s with dict := t.dict, capo := t.capo, svc := t.svc }) ∧
    (∀ (k : CourseId) (wire : BitVec 66) (t : State), exec (.retErrors k wire) s = .next t →
      t = { s with dict := t.dict, lanes := t.lanes, rets := t.rets }) ∧
    (∀ (m : MasterId) (t0 : Nat) (t : State), exec (.setTime m t0) s = .next t →
      t = { s with dict := t.dict, oz := t.oz, clk := t.clk, frm := t.frm }) ∧
    (∀ (i : Fin 4) (falling : Bool) (t0 : Nat) (t : State), exec (.syncInEdge i falling t0) s = .next t →
      t = { s with dict := t.dict, syncs := t.syncs, frm := t.frm, svc := t.svc }) ∧
    (∀ (k : CourseId) (bow : Nat) (t : State), exec (.trackerUpdate k bow) s = .next t →
      t = { s with dict := t.dict, mir := t.mir, svc := t.svc, free := t.free }) ∧
    (∀ (k : CourseId) (upper : Bool) (t64 : Nat) (t : State), exec (.senseCrossingStamp k upper t64) s = .next t →
      t = { s with dict := t.dict, bow := t.bow, mir := t.mir, free := t.free }) ∧
    (∀ (k : CourseId) (wire : BitVec 66) (t : State), exec (.retFault k wire) s = .next t →
      t = { s with dict := t.dict, store := t.store, rets := t.rets, svc := t.svc }) ∧
    (∀ (port : PortId) (sync : PtpSyncMessage) (t : State), exec (.ptpSync port sync) s = .next t →
      t = { s with dict := t.dict, clk := t.clk, servo := t.servo, frm := t.frm, svc := t.svc }) ∧
    (∀ (m : MasterId) (mask : BitVec 32) (t : State), exec (.rearm m mask) s = .next t →
      t = { s with dict := t.dict, oz := t.oz, capoC := t.capoC, svc := t.svc, free := t.free }) ∧
    (∀ (trips : BitVec 5) (whole : List HushTrigger) (courses : BitVec 32) (t : State),
      exec (.capoHush trips whole courses) s = .next t →
      t = { s with 
        dict := t.dict, bow := t.bow, plc := t.plc
        lanes := t.lanes, ledger := t.ledger, capo := t.capo, svc := t.svc }) ∧
    (∀ (l : LaneId) (j : Fin 8), ∀ c ∈ [Instr.laneRetrainTimeout l, .shaftLineRestored j, .shaftStopped j], ∀ t,
      exec c s = .next t →
      t = { s with 
        dict := t.dict, bow := t.bow, plc := t.plc, lanes := t.lanes, ledger := t.ledger
        fet := t.fet, col := t.col, capoC := t.capoC, runs := t.runs, svc := t.svc }) ∧
    (∀ (t : State), exec .holdoverExpired s = .next t →
      t = { s with 
        dict := t.dict, servo := t.servo, bow := t.bow, plc := t.plc, lanes := t.lanes
        ledger := t.ledger, fet := t.fet, col := t.col, capoC := t.capoC, runs := t.runs, svc := t.svc }) ∧
    (∀ (t : State), exec .lanesOff s = .next t →
      t = { s with 
        dict := t.dict, clk := t.clk, bow := t.bow, plc := t.plc, lanes := t.lanes
        ledger := t.ledger, fet := t.fet, col := t.col, capoC := t.capoC, runs := t.runs, svc := t.svc }) ∧
    (∀ (k : CourseId) (wire : BitVec 66) (t : State), exec (.retLane k wire) s = .next t →
      t = { s with 
        dict := t.dict, bow := t.bow, plc := t.plc, lanes := t.lanes, rets := t.rets
        ledger := t.ledger, fet := t.fet, col := t.col, capoC := t.capoC, runs := t.runs, svc := t.svc }) ∧
    (∀ (m : MasterId) (lane : Nat) (mask : BitVec 32), ∀ c ∈ [Instr.laneRetrainCommand m lane, .laserRearm m mask], ∀ t,
      exec c s = .next t →
      t = { s with 
        dict := t.dict, oz := t.oz, bow := t.bow, plc := t.plc, lanes := t.lanes
        ledger := t.ledger, fet := t.fet, col := t.col, capoC := t.capoC, runs := t.runs, svc := t.svc }) ∧
    (∀ (q : Fin 68) (slice : Fin 36), ∀ c ∈ [Instr.quadPllLoss q, .renderSliceFault slice], ∀ t, exec c s = .next t →
      t = { s with 
        dict := t.dict, store := t.store, bow := t.bow, plc := t.plc, lanes := t.lanes
        ledger := t.ledger, fet := t.fet, col := t.col, capoC := t.capoC, runs := t.runs, svc := t.svc }) ∧
    (∀ (j : Fin 8) (t : State), exec (.shaftLineBreak j) s = .next t →
      t = { s with 
        dict := t.dict, shafts := t.shafts, bow := t.bow, plc := t.plc, lanes := t.lanes
        ledger := t.ledger, fet := t.fet, col := t.col, capoC := t.capoC, runs := t.runs, svc := t.svc }) ∧
    (∀ (k : CourseId) (positive : Bool) (begins : Bool) (t0 : Nat) (string : CanvasId), ∀ c ∈ [Instr.interlockTrip,
      .scanExcursion k positive begins t0, .scanWatchMiss k t0, .energyTrip string], ∀ t, exec c s = .next t →
      t = { s with 
        dict := t.dict, frm := t.frm, bow := t.bow, plc := t.plc, ledger := t.ledger, fet := t.fet
        col := t.col, mir := t.mir, capo := t.capo, capoC := t.capoC, runs := t.runs, svc := t.svc }) ∧
    (∀ (k : CourseId) (t : State), exec (.bowStart k) s = .next t →
      t = { s with 
        dict := t.dict, frm := t.frm, bow := t.bow, plc := t.plc, ledger := t.ledger, fet := t.fet
        col := t.col, capt := t.capt, inputs := t.inputs, mir := t.mir, energy := t.energy,
        mem := { t.mem with cells := s.mem.cells } }) ∧
    (∀ (k : CourseId) (queued : Bool) (t : State), exec (.nutReached k queued) s = .next t →
      t = { s with 
        dict := t.dict, frm := t.frm, bow := t.bow, plc := t.plc, lanes := t.lanes, ledger := t.ledger
        fet := t.fet, col := t.col, mir := t.mir, capo := t.capo, capoC := t.capoC, runs := t.runs, svc := t.svc }) ∧
    (∀ (j : Fin 8) (a : Bool) (b : Bool) (f : SsiFrame), ∀ c ∈ [Instr.shaftCount j a b, .ssiPoll j f], ∀ t,
      exec c s = .next t →
      t = { s with 
        dict := t.dict, shafts := t.shafts, frm := t.frm, bow := t.bow, plc := t.plc, lanes := t.lanes
        ledger := t.ledger, canvases := t.canvases, fet := t.fet, col := t.col, capoC := t.capoC, runs := t.runs,
        svc := t.svc }) ∧
    (∀ (s0 : SlotId) (earlier : List Int) (latest : Option Int) (t : State), exec (.loopStep s0 earlier latest) s = .next t →
      t = { s with 
        dict := t.dict, bow := t.bow, plc := t.plc, lanes := t.lanes, ledger := t.ledger, fet := t.fet, col := t.col
        senses := t.senses, slots := t.slots, pool := t.pool, mir := t.mir, capoC := t.capoC, runs := t.runs, svc := t.svc }) ∧
    (∀ (k : CourseId) (pass : Bool) (deviation : Int), ∀ c ∈ [Instr.startTimeout k, .mirrorFailed k,
      .loopRefclkHoldExpired, .capoSelfTestComplete pass, .capoFault deviation, .overtravelTrip k], ∀ t, exec c s = .next t →
      t = { s with 
        dict := t.dict, frm := t.frm, bow := t.bow, plc := t.plc, lanes := t.lanes, ledger := t.ledger, fet := t.fet
        col := t.col, slots := t.slots, mir := t.mir, capo := t.capo, capoC := t.capoC, runs := t.runs, svc := t.svc }) ∧
    (∀ (k : CourseId) (m : RingMeas) (t : State), exec (.ringWindowEnd k m) s = .next t →
      t = { s with 
        dict := t.dict, frm := t.frm, bow := t.bow, plc := t.plc, lanes := t.lanes, ledger := t.ledger, fet := t.fet
        col := t.col, slots := t.slots, mir := t.mir, capo := t.capo, capoC := t.capoC, runs := t.runs, svc := t.svc,
        free := t.free }) ∧
    (∀ (phys : Fin 96) (t : State), exec (.loopSlotFault phys) s = .next t →
      t = { s with 
        dict := t.dict, store := t.store, frm := t.frm, bow := t.bow, plc := t.plc, lanes := t.lanes, ledger := t.ledger,
        fet := t.fet
        col := t.col, slots := t.slots, pool := t.pool, mir := t.mir, capo := t.capo, capoC := t.capoC, runs := t.runs,
        svc := t.svc })

/-- What commands of canvases, fetch, colour, capture, placement, pegs and tuning may change: every part of the state that
is not named is as it was. -/
def Obligations.FramesOfContentAndCapture : Prop :=
  ∀ s : State,
    (∀ (f : FlowId) (l : LaneId) (x : InputId) (z : Fin 12), ∀ c ∈ [Instr.flowIdle f, .emitterGainHeld l,
      .captureInputRecover x, .zoneDisagreement z], ∀ t, exec c s = .next t →
      t = { s with dict := t.dict }) ∧
    (∀ (c0 : CanvasId) (b : Fin 4) (t : State), exec (.canvasZeroFillComplete c0 b) s = .next t →
      t = { s with canvases := t.canvases, mem := t.mem }) ∧
    (∀ (f : FlowId) (port : PortId) (t : State), exec (.flowPathSilent f port) s = .next t →
      t = { s with dict := t.dict, flows := t.flows }) ∧
    (∀ (mesh : Fin 128) (copy : Fin 2) (t : State), exec (.warpRecomputeComplete mesh copy) s = .next t →
      t = { s with dict := t.dict, meshes := t.meshes }) ∧
    (∀ (k : CourseId) (t : State), exec (.matrixComplete k) s = .next t →
      t = { s with col := t.col, free := t.free }) ∧
    (∀ (k : CourseId) (t : State), exec (.fetchSchedule k) s = .next t →
      t = { s with dict := t.dict, fet := t.fet }) ∧
    (∀ (k : CourseId) (t : State), exec (.tuningRunTimeout k) s = .next t →
      t = { s with dict := t.dict, runs := t.runs }) ∧
    (∀ (c0 : CanvasId) (mask : Byte) (t : State), exec (.releaseReadyBuffers c0 mask) s = .next t →
      t = { s with dict := t.dict, oz := t.oz, canvases := t.canvases }) ∧
    (∀ (k : CourseId) (bank : Fin 258) (tile : Nat) (uncorrectable : Bool) (t : State),
      exec (.fetchStoreError k bank tile uncorrectable) s = .next t →
      t = { s with dict := t.dict, fet := t.fet, svc := t.svc }) ∧
    (∀ (k : CourseId) (t : State), exec (.bowRender k) s = .next t →
      t = { s with dict := t.dict, fet := t.fet, col := t.col }) ∧
    (∀ (k : CourseId) (b : Fin 8) (consumer : Fin 17) (t : State), exec (.captureBufferRelease k b consumer) s = .next t →
      t = { s with dict := t.dict, capt := t.capt, cstreams := t.cstreams }) ∧
    (∀ (m : MasterId) (mask : BitVec 32) (t : State), exec (.runCommand m mask) s = .next t →
      t = { s with dict := t.dict, oz := t.oz, runs := t.runs }) ∧
    (∀ (k : CourseId) (t : State), exec (.tuningSliceForced k) s = .next t →
      t = { s with dict := t.dict, plc := t.plc, runs := t.runs }) ∧
    (∀ (t : State), exec .pairRestartComplete s = .next t →
      t = { s with dict := t.dict, runs := t.runs, fw := t.fw }) ∧
    (∀ (f : FlowId) (t : State), exec (.mergeDeadline f) s = .next t →
      t = { s with dict := t.dict, frm := t.frm, canvases := t.canvases, flows := t.flows }) ∧
    (∀ (k : CourseId) (tile : Nat) (poisoned : Bool) (t : State), exec (.tileArrival k tile poisoned) s = .next t →
      t = { s with dict := t.dict, fet := t.fet, inputs := t.inputs, mem := { t.mem with cells := s.mem.cells } }) ∧
    (∀ (mesh : Fin 128) (moves : List (Nat × Int × Int)) (t : State), exec (.refinementUpdate mesh moves) s = .next t →
      t = { s with dict := t.dict, meshes := t.meshes, capt := t.capt, cstreams := t.cstreams }) ∧
    (∀ (k : Option CourseId) (t : State), exec (.pegLoad k) s = .next t →
      t = { s with dict := t.dict, store := t.store, pegs := t.pegs, domains := t.domains }) ∧
    (∀ (k : CourseId) (t : State), exec (.bowPlacement k) s = .next t →
      t = { s with dict := t.dict, plc := t.plc, runs := t.runs, free := t.free }) ∧
    (∀ (k : CourseId) (t : State), exec (.harmonicGainUpdate k) s = .next t →
      t = { s with dict := t.dict, emit := t.emit, capt := t.capt, queues := t.queues, free := t.free }) ∧
    (∀ (s0 : StreamId) (desc : List Byte), ∀ c ∈ [Instr.streamUnitSend s0, .streamBatchTimer s0,
      .streamBufferDescriptor s0 desc], ∀ t, exec c s = .next t →
      t = { s with dict := t.dict, oz := t.oz, cstreams := t.cstreams, queues := t.queues, out := t.out }) ∧
    (∀ (k : CourseId) (bow : Nat) (t : State), exec (.fiducialSnapshot k bow) s = .next t →
      t = { s with dict := t.dict, capt := t.capt, cstreams := t.cstreams, runs := t.runs, queues := t.queues }) ∧
    (∀ (t : State), exec .supplyHoldEnd s = .next t →
      t = { s with dict := t.dict, store := t.store, runs := t.runs, svc := t.svc, pwr := t.pwr }) ∧
    (∀ (h : FlowId) (desc : List Byte) (t : State), exec (.abortBuffer h desc) s = .next t →
      t = { s with 
        dict := t.dict, oz := t.oz, canvases := t.canvases
        hstreams := t.hstreams, queues := t.queues, out := t.out }) ∧
    (∀ (k : CourseId) (points : Nat) (values : Nat) (t : State), exec (.tuningRunEnd k points values) s = .next t →
      t = { s with dict := t.dict, store := t.store, pegs := t.pegs, runs := t.runs, domains := t.domains, free := t.free }) ∧
    (∀ (h : FlowId) (desc : List Byte) (t : State), exec (.complete h desc) s = .next t →
      t = { s with 
        dict := t.dict, oz := t.oz, frm := t.frm, canvases := t.canvases
        flows := t.flows, hstreams := t.hstreams, queues := t.queues, out := t.out }) ∧
    (∀ (k : CourseId) (t : State), exec (.commitFence k) s = .next t →
      t = { s with 
        dict := t.dict, oz := t.oz, frm := t.frm, spares := t.spares
        canvases := t.canvases, fet := t.fet, col := t.col, free := t.free }) ∧
    (∀ (k : CourseId) (t : State), exec (.captureComplete k) s = .next t →
      t = { s with 
        dict := t.dict, store := t.store, capt := t.capt, inputs := t.inputs
        cstreams := t.cstreams, mem := t.mem, chans := t.chans, svc := t.svc, free := t.free }) ∧
    (∀ (k : CourseId) (slot : Nat) (volts : List Int) (t : State), exec (.harmonicRecord k slot volts) s = .next t →
      t = { s with 
        dict := t.dict, bow := t.bow, capt := t.capt, inputs := t.inputs, cstreams := t.cstreams
        runs := t.runs, mem := { t.mem with cells := s.mem.cells }, queues := t.queues, out := t.out, free := t.free }) ∧
    (∀ (port : PortId) (p : RtpPacket) (t : State), exec (.st2110Packet port p) s = .next t →
      t = { s with 
        dict := t.dict, store := t.store, frm := t.frm, canvases := t.canvases, flows := t.flows
        rx := t.rx, mem := t.mem, chans := t.chans, queues := t.queues, svc := t.svc, free := t.free }) ∧
    (∀ (h : FlowId) (desc : List Byte) (pixels : List Byte) (pcieError : Bool),
      ∀ c ∈ [Instr.writeRect h desc pixels pcieError, .descriptorResume h], ∀ t, exec c s = .next t →
      t = { s with 
        dict := t.dict, oz := t.oz, store := t.store, canvases := t.canvases, flows := t.flows, hstreams := t.hstreams
        mem := t.mem, chans := t.chans, queues := t.queues, svc := t.svc, out := t.out, free := t.free }) ∧
    (∀ (t : State), exec .dramExitComplete s = .next t →
      t = { s with 
        dict := t.dict, store := t.store, lanes := t.lanes, canvases := t.canvases, flows := t.flows, mem := t.mem
        chans := t.chans, queues := t.queues, svc := t.svc, pwr := t.pwr, out := t.out, free := t.free }) ∧
    (∀ (t : State), exec .refclkLoss s = .next t →
      t = { s with 
        dict := t.dict, clk := t.clk, frm := t.frm, bow := t.bow, plc := t.plc, ledger := t.ledger, fet := t.fet
        col := t.col, mir := t.mir, capo := t.capo, capoC := t.capoC, runs := t.runs,
        mem := { t.mem with cells := s.mem.cells }, chans := t.chans, svc := t.svc })

/-- What commands of memory, the store, rings, firmware, the transports, supplies, start and JTAG may change: every part of
the state that is not named is as it was. -/
def Obligations.FramesOfMemoryPowerAndServices : Prop :=
  ∀ s : State,
    (∀ (c0 : ChannelId) (unit : Nat) (t : State), exec (.correctedWriteBack c0 unit) s = .next t →
      t = { s with chans := t.chans }) ∧
    (∀ (verifyFailed : Option Nat), ∀ c ∈ [Instr.gainPersist, .persistentWrite verifyFailed, .heldWritesFlush,
      .poweredTimePersist], ∀ t, exec c s = .next t →
      t = { s with store := t.store }) ∧
    (∀ (cells : List Bool) (opcode : Byte), ∀ c ∈ [Instr.pciePerstDeassert, .extest cells, .samplePreload cells,
      .bypass opcode], ∀ t, exec c s = .next t →
      t = { s with pwr := t.pwr }) ∧
    (∀ (m : MasterId) (word : BitVec 32) (t : State), exec (.abort m word) s = .next t →
      t = { s with oz := t.oz }) ∧
    (∀ (kind : SpareKind) (unit : Nat) (worn : Bool) (t : State), exec (.spareOffer kind unit worn) s = .next t →
      t = { s with svc := t.svc }) ∧
    (∀ (cmd : Byte) (len : Nat), ∀ c ∈ [Instr.spiStatus, .spiUnknownCommand cmd len], ∀ t, exec c s = .next t →
      t = { s with out := t.out }) ∧
    (∀ (v : BitVec 64) (t : State), exec (.hostDoorbell v) s = .next t →
      t = { s with dict := t.dict, queues := t.queues }) ∧
    (∀ (q : Fin 262144) (t : State), exec (.moderationExpiry q) s = .next t →
      t = { s with queues := t.queues, out := t.out }) ∧
    (∀ (c0 : ChannelId) (rank : Fin 2) (bank : Fin 16) (issue : Bool) (multiplier : Nat) (hot : Bool),
      ∀ c ∈ [Instr.refresh c0 rank bank issue, .neighbourRefresh c0, .powerDownEntry c0 rank, .mr4Read c0 multiplier hot,
      .retrainForced c0, .retrainOverdue c0], ∀ t, exec c s = .next t →
      t = { s with dict := t.dict, chans := t.chans }) ∧
    (∀ (t : State), exec .scrubOverdue s = .next t →
      t = { s with dict := t.dict, mem := { t.mem with cells := s.mem.cells } }) ∧
    (∀ (t : State), exec .hardRepair s = .next t →
      t = { s with store := t.store, mem := { t.mem with cells := s.mem.cells } }) ∧
    (∀ (l : LaneId) (x : InputId), ∀ c ∈ [Instr.emitterWorn l, .captureInputFailed x], ∀ t, exec c s = .next t →
      t = { s with dict := t.dict, svc := t.svc }) ∧
    (∀ (rail : Fin 11) (milliVolt : Nat) (t : State), exec (.supplyHoldEntry rail milliVolt) s = .next t →
      t = { s with dict := t.dict, pwr := t.pwr }) ∧
    (∀ c ∈ [Instr.pairStandbyReady, .standbySynchronised], ∀ t, exec c s = .next t →
      t = { s with dict := t.dict, fw := t.fw }) ∧
    (∀ (m : MasterId) (v : Byte), ∀ c ∈ [Instr.criticalLogClear m v, .persistenceStateClear m v], ∀ t, exec c s = .next t →
      t = { s with oz := t.oz, store := t.store }) ∧
    (∀ (m : MasterId) (v : Byte) (t : State), exec (.availabilityClear m v) s = .next t →
      t = { s with oz := t.oz, svc := t.svc }) ∧
    (∀ (t : State), exec .idcode s = .next t →
      t = { s with pwr := t.pwr, out := t.out }) ∧
    (∀ (mask : BitVec 3) (t : State), exec (.fuseprog mask) s = .next t →
      t = { s with capo := t.capo, pwr := t.pwr }) ∧
    (∀ (m : MasterId) (s0 : SlotId) (v : BitVec 32) (t : State), exec (.stickyFlagsClear m s0 v) s = .next t →
      t = { s with dict := t.dict, oz := t.oz }) ∧
    (∀ (m : MasterId), ∀ c ∈ [Instr.masterForgotten m, .addressChange], ∀ t, exec c s = .next t →
      t = { s with oz := t.oz, queues := t.queues }) ∧
    (∀ (t : State), exec .heartbeat s = .next t →
      t = { s with dict := t.dict, out := t.out }) ∧
    (∀ (m : MasterId) (index : Nat) (sub : Nat) (t : State), exec (.publication m index sub) s = .next t →
      t = { s with oz := t.oz, out := t.out }) ∧
    (∀ (q : Fin 262144) (ctx : Fin 64), ∀ c ∈ [Instr.ringWriteBack q, .readyWordClear ctx, .spiReadResponse], ∀ t,
      exec c s = .next t →
      t = { s with oz := t.oz, queues := t.queues, out := t.out }) ∧
    (∀ (c0 : ChannelId) (count : Int), ∀ c ∈ [Instr.selfRefreshEntry c0, .oscillatorRead c0 count, .retrainPause c0], ∀ t,
      exec c s = .next t →
      t = { s with dict := t.dict, mem := { t.mem with cells := s.mem.cells }, chans := t.chans }) ∧
    (∀ (x : InputId) (t : State), exec (.captureInputSuspect x) s = .next t →
      t = { s with dict := t.dict, inputs := t.inputs, svc := t.svc }) ∧
    (∀ (rail : Fin 11) (t : State), exec (.overvoltage rail) s = .next t →
      t = { s with dict := t.dict, store := t.store, svc := t.svc }) ∧
    (∀ (u : PauseUnit) (t : State), exec (.throttlePause u) s = .next t →
      t = { s with dict := t.dict, inputs := t.inputs, therm := t.therm }) ∧
    (∀ (ok : Bool), ∀ c ∈ [Instr.imageWriteComplete ok, .probationEnd], ∀ t, exec c s = .next t →
      t = { s with dict := t.dict, store := t.store, fw := t.fw }) ∧
    (∀ (m : MasterId) (v : Byte) (t : State), exec (.loadStandby m v) s = .next t →
      t = { s with dict := t.dict, oz := t.oz, fw := t.fw }) ∧
    (∀ (syncMilliVolt : Nat) (t : State), exec (.powerValid syncMilliVolt) s = .next t →
      t = { s with dict := t.dict, store := t.store, pwr := t.pwr }) ∧
    (∀ (r : TrainingResult) (t : State), exec (.dramTrainingComplete r) s = .next t →
      t = { s with dict := t.dict, mem := t.mem, chans := t.chans, pwr := t.pwr }) ∧
    (∀ (t : State), exec .softRepair s = .next t →
      t = { s with dict := t.dict, store := t.store, mem := { t.mem with cells := s.mem.cells }, chans := t.chans }) ∧
    (∀ c ∈ [Instr.pairFault, .watchdogExpiry, .pairRestartInPlace], ∀ t, exec c s = .next t →
      t = { s with dict := t.dict, store := t.store, fw := t.fw, svc := t.svc }) ∧
    (∀ (m : MasterId) (v : Byte) (t : State), exec (.switchOver m v) s = .next t →
      t = { s with dict := t.dict, oz := t.oz, store := t.store, fw := t.fw }) ∧
    (∀ (t : State), exec .slotPllLock s = .next t →
      t = { s with clk := t.clk, lanes := t.lanes, rets := t.rets, pwr := t.pwr }) ∧
    (∀ (t : State), exec .standbyEntryComplete s = .next t →
      t = { s with dict := t.dict, store := t.store, lanes := t.lanes, pwr := t.pwr }) ∧
    (∀ (c0 : ChannelId) (badBytes : Nat) (t : State), exec (.scrubRead c0 badBytes) s = .next t →
      t = { s with dict := t.dict, store := t.store, mem := t.mem, chans := t.chans, svc := t.svc, free := t.free }) ∧
    (∀ (port : Fin 42) (cls : AddrClass) (addr : Nat) (op : MemOp) (badBytes : Nat) (t : State),
      exec (.memoryRequest port cls addr op badBytes) s = .next t →
      t = { s with 
        dict := t.dict, store := t.store, mem := t.mem, chans := t.chans
        queues := t.queues, svc := t.svc, out := t.out, free := t.free }) ∧
    (∀ (t : State), exec .refclkReturn s = .next t →
      t = { s with 
        dict := t.dict, store := t.store, clk := t.clk, servo := t.servo, frm := t.frm, lanes := t.lanes
        mem := t.mem, chans := t.chans, queues := t.queues, svc := t.svc, out := t.out, free := t.free })
end

