-- ==== Sys2Proof/Laws/Table.lean ====
section
/-! SUPPORT. Laws of sparse tables and of memory: read after write, and the canonical form is kept. -/

namespace Sys2Proof.Machine

open Sys2Proof

variable {α : Type}

theorem tfind_terase (t : Tab α) (k j : Nat) : tfind (terase t k) j = if k = j then none else tfind t j := by
  induction t with
  | nil => simp [terase, tfind]
  | cons p r ih => grind [terase, tfind]

theorem tfind_tins (t : Tab α) (k j : Nat) (v : α) (h : tfind t k = none) :
    tfind (tins k v t) j = if k = j then some v else tfind t j := by
  induction t with
  | nil => simp [tins, tfind]
  | cons p r ih => grind [tins, tfind]

/-- A table reads, after a write, the value written at its key and what it held at every other key. -/
theorem tgetD_tput [DecidableEq α] (t : Tab α) (d v : α) (k j : Nat) :
    tgetD (tput t d k v) d j = if k = j then v else tgetD t d j := by
  unfold tput tgetD
  split
  · rw [tfind_terase]; grind
  · rw [tfind_tins _ _ _ _ (by rw [tfind_terase]; simp), tfind_terase]; grind

theorem tgetD_tput_self [DecidableEq α] (t : Tab α) (d v : α) (k : Nat) : tgetD (tput t d k v) d k = v := by
  simp [tgetD_tput]

theorem tgetD_tput_ne [DecidableEq α] (t : Tab α) (d v : α) {k j : Nat} (h : k ≠ j) :
    tgetD (tput t d k v) d j = tgetD t d j := by
  simp [tgetD_tput, h]

/-! ### The canonical form -/

theorem trising_mono {lo hi : Nat} (h : lo ≤ hi) (t : Tab α) (ht : trising hi t = true) : trising lo t = true := by
  cases t with
  | nil => rfl
  | cons p r =>
    simp only [trising, Bool.and_eq_true, decide_eq_true_eq] at *
    exact ⟨by omega, ht.2⟩

theorem trising_terase (t : Tab α) (k lo : Nat) (h : trising lo t = true) : trising lo (terase t k) = true := by
  induction t generalizing lo with
  | nil => rfl
  | cons p r ih =>
    simp only [trising, Bool.and_eq_true, decide_eq_true_eq] at h
    simp only [terase]
    split
    · exact trising_mono (by omega) _ (ih p.1 h.2)
    · simp only [trising, Bool.and_eq_true, decide_eq_true_eq]; exact ⟨h.1, ih p.1 h.2⟩

theorem trising_tins (t : Tab α) (k lo : Nat) (v : α) (hk : lo < k) (hn : tfind t k = none) (h : trising lo t = true) :
    trising lo (tins k v t) = true := by
  induction t generalizing lo with
  | nil => simp [tins, trising, hk]
  | cons p r ih =>
    simp only [trising, Bool.and_eq_true, decide_eq_true_eq] at h
    simp only [tfind] at hn
    simp only [tins]
    split
    · simp only [trising, Bool.and_eq_true, decide_eq_true_eq]; exact ⟨hk, by omega, h.2⟩
    · have hne : p.1 ≠ k := by intro e; simp [e] at hn
      simp only [trising, Bool.and_eq_true, decide_eq_true_eq]
      exact ⟨h.1, ih p.1 (by omega) (by simpa [hne] using hn) h.2⟩

theorem all_terase (q : Nat × α → Bool) (t : Tab α) (k : Nat) (h : t.all q = true) : (terase t k).all q = true := by
  induction t with
  | nil => rfl
  | cons p r ih =>
    simp only [List.all_cons, Bool.and_eq_true] at h
    simp only [terase]
    split
    · exact ih h.2
    · simp only [List.all_cons, Bool.and_eq_true]; exact ⟨h.1, ih h.2⟩

theorem all_tins (q : Nat × α → Bool) (t : Tab α) (k : Nat) (v : α) (hv : q (k, v) = true) (h : t.all q = true) :
    (tins k v t).all q = true := by
  induction t with
  | nil => simp [tins, hv]
  | cons p r ih =>
    simp only [List.all_cons, Bool.and_eq_true] at h
    simp only [tins]
    split
    · simp only [List.all_cons, Bool.and_eq_true]; exact ⟨hv, h⟩
    · simp only [List.all_cons, Bool.and_eq_true]; exact ⟨h.1, ih h.2⟩

/-- Keys rise strictly in a table. -/
def tsorted : Tab α → Bool
  | [] => true
  | (k, _) :: r => trising k r

theorem twf_eq [DecidableEq α] (d : α) (t : Tab α) :
    twf d t = (tsorted t && t.all (fun p => decide (p.2 ≠ d))) := by
  cases t <;> rfl

theorem tsorted_of_trising {lo : Nat} {t : Tab α} (h : trising lo t = true) : tsorted t = true := by
  cases t with
  | nil => rfl
  | cons p r => simp only [trising, Bool.and_eq_true] at h; exact h.2

theorem tsorted_terase (t : Tab α) (k : Nat) (h : tsorted t = true) : tsorted (terase t k) = true := by
  cases t with
  | nil => rfl
  | cons p r =>
    simp only [tsorted] at h
    simp only [terase]
    split
    · exact tsorted_of_trising (trising_terase r k p.1 h)
    · exact trising_terase r k p.1 h

theorem tsorted_tins (t : Tab α) (k : Nat) (v : α) (hn : tfind t k = none) (h : tsorted t = true) :
    tsorted (tins k v t) = true := by
  cases t with
  | nil => rfl
  | cons p r =>
    simp only [tsorted] at h
    simp only [tfind] at hn
    simp only [tins]
    split
    · simp only [tsorted, trising, Bool.and_eq_true, decide_eq_true_eq]; exact ⟨by assumption, h⟩
    · have hne : p.1 ≠ k := by intro e; simp [e] at hn
      exact trising_tins r k p.1 v (by omega) (by simpa [hne] using hn) h

/-- A write keeps a table canonical. -/
theorem twf_tput [DecidableEq α] (t : Tab α) (d v : α) (k : Nat) (h : twf d t = true) : twf d (tput t d k v) = true := by
  rw [twf_eq, Bool.and_eq_true] at *
  unfold tput
  split
  · exact ⟨tsorted_terase t k h.1, all_terase _ t k h.2⟩
  · exact ⟨tsorted_tins _ k v (by rw [tfind_terase]; simp) (tsorted_terase t k h.1),
      all_tins _ _ k v (by simpa using ‹_›) (all_terase _ t k h.2)⟩

theorem trising_of_forall (t : Tab α) (lo : Nat) (h : ∀ p ∈ t, lo < p.1) (hs : tsorted t = true) : trising lo t = true := by
  cases t with
  | nil => rfl
  | cons p r => simp only [trising, Bool.and_eq_true, decide_eq_true_eq]; exact ⟨h p (by simp), hs⟩

theorem trising_lt {t : Tab α} {lo : Nat} (h : trising lo t = true) : ∀ p ∈ t, lo < p.1 := by
  induction t generalizing lo with
  | nil => simp
  | cons p r ih =>
    simp only [trising, Bool.and_eq_true, decide_eq_true_eq] at h
    intro q hq
    rcases List.mem_cons.mp hq with rfl | hq
    · exact h.1
    · exact Nat.lt_trans h.1 (ih h.2 q hq)

theorem trising_filter (q : Nat × α → Bool) (t : Tab α) (lo : Nat) (h : trising lo t = true) :
    trising lo (t.filter q) = true := by
  induction t generalizing lo with
  | nil => rfl
  | cons p r ih =>
    simp only [trising, Bool.and_eq_true, decide_eq_true_eq] at h
    simp only [List.filter_cons]
    split
    · simp only [trising, Bool.and_eq_true, decide_eq_true_eq]; exact ⟨h.1, ih p.1 h.2⟩
    · exact trising_mono (by omega) _ (ih p.1 h.2)

/-- A part of a canonical table is canonical. -/
theorem twf_filter [DecidableEq α] (d : α) (q : Nat × α → Bool) (t : Tab α) (h : twf d t = true) :
    twf d (t.filter q) = true := by
  rw [twf_eq, Bool.and_eq_true] at *
  refine ⟨?_, ?_⟩
  · cases t with
    | nil => rfl
    | cons p r =>
      simp only [List.filter_cons]
      split
      · exact trising_filter q r p.1 h.1
      · exact tsorted_of_trising (trising_filter q r p.1 h.1)
  · rw [List.all_eq_true] at *
    intro p hp
    exact h.2 p (List.mem_filter.mp hp).1

/-! ### Memory -/

/-- A byte of memory reads, after a write, the byte written at its key and what it held everywhere else. -/
theorem memRead_memWrite (cells : List Host.Cell) (k j : Nat) (b : Byte) :
    memRead (memWrite cells k b) j = if k = j then b else memRead cells j := tgetD_tput ..

/-- A write keeps memory canonical. -/
theorem memWrite_wf (cells : List Host.Cell) (k : Nat) (b : Byte) (h : Memory.wf cells = true) :
    Memory.wf (memWrite cells k b) = true := twf_tput cells 0 b k h

theorem filter_wf (q : Host.Cell → Bool) (cells : List Host.Cell) (h : Memory.wf cells = true) :
    Memory.wf (cells.filter q) = true := twf_filter 0 q cells h

theorem nil_wf : Memory.wf [] = true := rfl

end Sys2Proof.Machine
end

