-- ==== Sys2Proof/Laws/Kept.lean ====
section
/-! SUPPORT. What the operations keep, one lemma (or two) each: `f_keeps` says that `f` keeps the queue, the time counted, the
straps sampled and the fuses blown (`State.Keeps`), and where `f` writes no memory every byte of it too (`State.KeepsMem`);
`f_wf` says that an `f` which writes memory leaves it canonical. A proof about a step cites these and unfolds no operation. -/

namespace Sys2Proof.Machine

open Sys2Proof

-- One proof at a time: as one text the proofs, elaborated side by side, want more threads than the memory limit grants.
set_option Elab.async false

theorem foldl_keepsMem {β : Type} (f : State → β → State) (h : ∀ s x, State.KeepsMem s (f s x)) (l : List β) (s : State) :
    State.KeepsMem s (l.foldl f s) := by
  induction l generalizing s with
  | nil => simp
  | cons x r ih =>
    have h1 := h s x
    have h2 := ih (f s x)
    simp_all

@[simp] theorem State.each_keeps (s : State) (l : List Nat) (f : State → Nat → State)
    (h : ∀ s x, State.KeepsMem s (f s x)) : s.KeepsMem (s.each l f) := foldl_keepsMem f h l s

@[simp] theorem ite_pending (c : Prop) [Decidable c] (a b : State) :
    (if c then a else b).pending = if c then a.pending else b.pending := by split <;> rfl
@[simp] theorem ite_up (c : Prop) [Decidable c] (a b : State) :
    (if c then a else b).clk.up = if c then a.clk.up else b.clk.up := by split <;> rfl
@[simp] theorem ite_sel (c : Prop) [Decidable c] (a b : State) :
    (if c then a else b).capo.sel = if c then a.capo.sel else b.capo.sel := by split <;> rfl
@[simp] theorem ite_blown (c : Prop) [Decidable c] (a b : State) :
    (if c then a else b).capo.blown = if c then a.capo.blown else b.capo.blown := by split <;> rfl
@[simp] theorem ite_seen (c : Prop) [Decidable c] (a b : State) :
    (if c then a else b).capo.blownSeen = if c then a.capo.blownSeen else b.capo.blownSeen := by split <;> rfl
@[simp] theorem ite_vaon (c : Prop) [Decidable c] (a b : State) :
    (if c then a else b).capo.vaon = if c then a.capo.vaon else b.capo.vaon := by split <;> rfl
@[simp] theorem ite_cells (c : Prop) [Decidable c] (a b : State) :
    (if c then a else b).mem.cells = if c then a.mem.cells else b.mem.cells := by split <;> rfl

@[simp] theorem State.foldl_keeps {β : Type} (f : State → β → State) (h : ∀ s x, State.KeepsMem s (f s x)) (l : List β) (s : State) :
    State.KeepsMem s (l.foldl f s) := foldl_keepsMem f h l s

theorem State.KeepsMem.trans {a b c : State} (h : a.KeepsMem b) (g : b.KeepsMem c) : a.KeepsMem c := by simp_all

theorem State.each_from {s x : State} (h : s.KeepsMem x) (l : List Nat) (f : State → Nat → State)
    (g : ∀ s x, State.KeepsMem s (f s x)) : s.KeepsMem (x.each l f) := h.trans (State.each_keeps x l f g)

theorem State.foldl_from {β : Type} {s x : State} (h : s.KeepsMem x) (l : List β) (f : State → β → State)
    (g : ∀ s x, State.KeepsMem s (f s x)) : s.KeepsMem (l.foldl f x) := h.trans (State.foldl_keeps f g l x)

@[simp] theorem State.foldl_fst_keeps {β γ : Type} (f : State × γ → β → State × γ) (h : ∀ (a : State × γ) x, a.1.KeepsMem (f a x).1)
    (l : List β) (a : State × γ) : a.1.KeepsMem (l.foldl f a).1 := by
  induction l generalizing a with
  | nil => simp
  | cons x r ih => exact State.KeepsMem.trans (h a x) (ih (f a x))

theorem State.foldl_keeps0 {β : Type} (f : State → β → State) (h : ∀ s x, State.Keeps s (f s x)) (l : List β) (s : State) :
    State.Keeps s (l.foldl f s) := by
  induction l generalizing s with
  | nil => simp
  | cons x r ih =>
    have h1 := h s x
    have h2 := ih (f s x)
    simp_all

theorem State.foldl_wf {β : Type} (f : State → β → State)
    (h : ∀ s x, Memory.wf s.mem.cells = true → Memory.wf (f s x).mem.cells = true) (l : List β) (s : State)
    (hw : Memory.wf s.mem.cells = true) : Memory.wf (l.foldl f s).mem.cells = true := by
  induction l generalizing s with
  | nil => exact hw
  | cons x r ih => exact ih _ (h s x hw)

theorem State.each_keeps0 (s : State) (l : List Nat) (f : State → Nat → State) (h : ∀ s x, State.Keeps s (f s x)) :
    s.Keeps (s.each l f) := State.foldl_keeps0 f h l s

theorem State.each_wf (s : State) (l : List Nat) (f : State → Nat → State)
    (h : ∀ s x, Memory.wf s.mem.cells = true → Memory.wf (f s x).mem.cells = true) (hw : Memory.wf s.mem.cells = true) :
    Memory.wf (s.each l f).mem.cells = true := State.foldl_wf f h l s hw

@[simp] theorem ite_wf (c : Prop) [Decidable c] (a b : List Host.Cell) :
    Memory.wf (if c then a else b) = if c then Memory.wf a else Memory.wf b := by split <;> rfl

@[simp] theorem MemSt.writeAt_wf (m : MemSt) (cls : AddrClass) (a : Nat) (d : List Byte) (hw : Memory.wf m.cells = true) :
    Memory.wf (m.writeAt cls a d).cells = true := by
  unfold MemSt.writeAt
  dsimp only
  generalize a = x
  have h : ∀ (l : List Byte) (p : List Host.Cell × Nat), Memory.wf p.1 = true →
      Memory.wf (l.foldl (fun x b => (memWrite x.1 (cellKey (m.loc cls x.2).1 (m.loc cls x.2).2) b, x.2 + 1)) p).1 = true := by
    intro l
    induction l with
    | nil => exact fun p h => h
    | cons b r ih => exact fun p h => ih _ (memWrite_wf _ _ _ h)
  exact h d (m.cells, x) hw

@[simp] theorem ite_fst {α β : Type} (c : Prop) [Decidable c] (a b : α × β) :
    (if c then a else b).1 = if c then a.1 else b.1 := by split <;> rfl

theorem State.KeepsWf.trans {a b c : State} (h : a.KeepsWf b) (g : b.KeepsWf c) : a.KeepsWf c := by simp_all

theorem State.foldl_fst_keepsWf {β γ : Type} (f : State × γ → β → State × γ)
    (h : ∀ (a : State × γ) x, a.1.KeepsWf (f a x).1) (l : List β) (a : State × γ) : a.1.KeepsWf (l.foldl f a).1 := by
  induction l generalizing a with
  | nil => simp
  | cons x r ih => exact State.KeepsWf.trans (h a x) (ih (f a x))

theorem State.foldl_keepsWf {β : Type} (f : State → β → State) (h : ∀ a x, State.KeepsWf a (f a x)) (l : List β)
    (a : State) : a.KeepsWf (l.foldl f a) := by
  induction l generalizing a with
  | nil => simp
  | cons x r ih => exact State.KeepsWf.trans (h a x) (ih (f a x))

theorem State.KeepsMem.kw {s t : State} (h : s.KeepsMem t) : s.KeepsWf t := by simp_all

theorem State.each_kw {s x : State} (h : s.KeepsWf x) (l : List Nat) (f : State → Nat → State)
    (g : ∀ s x, State.KeepsWf s (f s x)) : s.KeepsWf (x.each l f) := State.KeepsWf.trans h (State.foldl_keepsWf f g l x)

@[simp] theorem State.memAtStart_wf (s : State) (r : TrainingResult) : Memory.wf (s.memAtStart r).cells = true := by
  unfold State.memAtStart
  exact nil_wf

@[simp] theorem State.put_keeps (s : State) (index sub : Nat) (v : Val) :
    s.KeepsMem (State.put s index sub v) := by
  unfold State.put
  (repeat' split) <;> simp

@[simp] theorem State.putI_keeps (s : State) (index sub : Nat) (z : Int) :
    s.KeepsMem (State.putI s index sub z) := by
  unfold State.putI
  (repeat' split) <;> simp

@[simp] theorem State.putN_keeps (s : State) (index sub : Nat) (n : Nat) :
    s.KeepsMem (State.putN s index sub n) := by
  unfold State.putN
  (repeat' split) <;> simp

@[simp] theorem State.putB_keeps (s : State) (index sub : Nat) (b : List Byte) :
    s.KeepsMem (State.putB s index sub b) := by
  unfold State.putB
  (repeat' split) <;> simp

@[simp] theorem State.putF_keeps (s : State) (index sub : Nat) (q : Rat) :
    s.KeepsMem (State.putF s index sub q) := by
  unfold State.putF
  (repeat' split) <;> simp

@[simp] theorem State.putX_keeps (s : State) (index sub : Nat) (q : Rat) :
    s.KeepsMem (State.putX s index sub q) := by
  unfold State.putX
  (repeat' split) <;> simp

@[simp] theorem State.addSat_keeps (s : State) (index sub n : Nat) :
    s.KeepsMem (State.addSat s index sub n) := by
  unfold State.addSat
  (repeat' split) <;> simp

@[simp] theorem State.addWrap_keeps (s : State) (index sub n : Nat) :
    s.KeepsMem (State.addWrap s index sub n) := by
  unfold State.addWrap
  (repeat' split) <;> simp

@[simp] theorem State.add64_keeps (s : State) (index sub n : Nat) :
    s.KeepsMem (State.add64 s index sub n) := by
  unfold State.add64
  (repeat' split) <;> simp

@[simp] theorem State.bump_keeps (s : State) (index sub : Nat) :
    s.KeepsMem (State.bump s index sub) := by
  unfold State.bump
  (repeat' split) <;> simp

@[simp] theorem State.syncsPut_keeps (s : State) (k : Nat) (x : SyncSt) :
    s.KeepsMem (State.syncsPut s k x) := by
  unfold State.syncsPut
  (repeat' split) <;> simp

@[simp] theorem State.shaftsPut_keeps (s : State) (k : Nat) (x : ShaftSt) :
    s.KeepsMem (State.shaftsPut s k x) := by
  unfold State.shaftsPut
  (repeat' split) <;> simp

@[simp] theorem State.frmPut_keeps (s : State) (k : Nat) (x : FrameSt) :
    s.KeepsMem (State.frmPut s k x) := by
  unfold State.frmPut
  (repeat' split) <;> simp

@[simp] theorem State.bowPut_keeps (s : State) (k : Nat) (x : BowSt) :
    s.KeepsMem (State.bowPut s k x) := by
  unfold State.bowPut
  (repeat' split) <;> simp

@[simp] theorem State.plcPut_keeps (s : State) (k : Nat) (x : PlaceSt) :
    s.KeepsMem (State.plcPut s k x) := by
  unfold State.plcPut
  (repeat' split) <;> simp

@[simp] theorem State.lanesPut_keeps (s : State) (k : Nat) (x : LaneSt) :
    s.KeepsMem (State.lanesPut s k x) := by
  unfold State.lanesPut
  (repeat' split) <;> simp

@[simp] theorem State.sparesPut_keeps (s : State) (k : Nat) (x : SpareSt) :
    s.KeepsMem (State.sparesPut s k x) := by
  unfold State.sparesPut
  (repeat' split) <;> simp

@[simp] theorem State.retsPut_keeps (s : State) (k : Nat) (x : RetSt) :
    s.KeepsMem (State.retsPut s k x) := by
  unfold State.retsPut
  (repeat' split) <;> simp

@[simp] theorem State.canvasesPut_keeps (s : State) (k : Nat) (x : CanvasSt) :
    s.KeepsMem (State.canvasesPut s k x) := by
  unfold State.canvasesPut
  (repeat' split) <;> simp

@[simp] theorem State.flowsPut_keeps (s : State) (k : Nat) (x : FlowSt) :
    s.KeepsMem (State.flowsPut s k x) := by
  unfold State.flowsPut
  (repeat' split) <;> simp

@[simp] theorem State.hstreamsPut_keeps (s : State) (k : Nat) (x : HStreamSt) :
    s.KeepsMem (State.hstreamsPut s k x) := by
  unfold State.hstreamsPut
  (repeat' split) <;> simp

@[simp] theorem State.meshesPut_keeps (s : State) (k : Nat) (x : MeshSt) :
    s.KeepsMem (State.meshesPut s k x) := by
  unfold State.meshesPut
  (repeat' split) <;> simp

@[simp] theorem State.fetPut_keeps (s : State) (k : Nat) (x : FetchSt) :
    s.KeepsMem (State.fetPut s k x) := by
  unfold State.fetPut
  (repeat' split) <;> simp

@[simp] theorem State.colPut_keeps (s : State) (k : Nat) (x : ColourSt) :
    s.KeepsMem (State.colPut s k x) := by
  unfold State.colPut
  (repeat' split) <;> simp

@[simp] theorem State.emitPut_keeps (s : State) (k : Nat) (x : EmitterSt) :
    s.KeepsMem (State.emitPut s k x) := by
  unfold State.emitPut
  (repeat' split) <;> simp

@[simp] theorem State.inputsPut_keeps (s : State) (k : Nat) (x : InputSt) :
    s.KeepsMem (State.inputsPut s k x) := by
  unfold State.inputsPut
  (repeat' split) <;> simp

@[simp] theorem State.sensesPut_keeps (s : State) (k : Nat) (x : SenseSt) :
    s.KeepsMem (State.sensesPut s k x) := by
  unfold State.sensesPut
  (repeat' split) <;> simp

@[simp] theorem State.captPut_keeps (s : State) (k : Nat) (x : CaptSt) :
    s.KeepsMem (State.captPut s k x) := by
  unfold State.captPut
  (repeat' split) <;> simp

@[simp] theorem State.cstreamsPut_keeps (s : State) (k : Nat) (x : CStreamSt) :
    s.KeepsMem (State.cstreamsPut s k x) := by
  unfold State.cstreamsPut
  (repeat' split) <;> simp

@[simp] theorem State.slotsPut_keeps (s : State) (k : Nat) (x : SlotSt) :
    s.KeepsMem (State.slotsPut s k x) := by
  unfold State.slotsPut
  (repeat' split) <;> simp

@[simp] theorem State.mirPut_keeps (s : State) (k : Nat) (x : MirSt) :
    s.KeepsMem (State.mirPut s k x) := by
  unfold State.mirPut
  (repeat' split) <;> simp

@[simp] theorem State.capoCPut_keeps (s : State) (k : Nat) (x : CapoCourse) :
    s.KeepsMem (State.capoCPut s k x) := by
  unfold State.capoCPut
  (repeat' split) <;> simp

@[simp] theorem State.energyPut_keeps (s : State) (k : Nat) (x : EnergySt) :
    s.KeepsMem (State.energyPut s k x) := by
  unfold State.energyPut
  (repeat' split) <;> simp

@[simp] theorem State.pegsPut_keeps (s : State) (k : Nat) (x : PegSt) :
    s.KeepsMem (State.pegsPut s k x) := by
  unfold State.pegsPut
  (repeat' split) <;> simp

@[simp] theorem State.runsPut_keeps (s : State) (k : Nat) (x : RunSt) :
    s.KeepsMem (State.runsPut s k x) := by
  unfold State.runsPut
  (repeat' split) <;> simp

@[simp] theorem State.domainsPut_keeps (s : State) (k : Nat) (x : DomainSt) :
    s.KeepsMem (State.domainsPut s k x) := by
  unfold State.domainsPut
  (repeat' split) <;> simp

@[simp] theorem State.chansPut_keeps (s : State) (k : Nat) (x : ChanSt) :
    s.KeepsMem (State.chansPut s k x) := by
  unfold State.chansPut
  (repeat' split) <;> simp

@[simp] theorem State.ledgerPut_keeps (s : State) (k : Nat) (x : List LedgerRec) :
    s.KeepsMem (State.ledgerPut s k x) := by
  unfold State.ledgerPut
  (repeat' split) <;> simp

@[simp] theorem State.masterPut_keeps (s : State) (m : Nat) (x : Master) :
    s.KeepsMem (State.masterPut s m x) := by
  unfold State.masterPut
  (repeat' split) <;> simp

@[simp] theorem State.ctxPut_keeps (s : State) (c : Nat) (x : PcieCtx) :
    s.KeepsMem (State.ctxPut s c x) := by
  unfold State.ctxPut
  (repeat' split) <;> simp

@[simp] theorem State.ringPut_keeps (s : State) (q : Nat) (x : RingSt) :
    s.KeepsMem (State.ringPut s q x) := by
  unfold State.ringPut
  (repeat' split) <;> simp

@[simp] theorem State.queuePut_keeps (s : State) (q : Nat) (x : QueueRec) :
    s.KeepsMem (State.queuePut s q x) := by
  unfold State.queuePut
  (repeat' split) <;> simp

@[simp] theorem State.send_keeps (s : State) (o : Out) :
    s.KeepsMem (State.send s o) := by
  unfold State.send
  (repeat' split) <;> simp

@[simp] theorem State.takeFree_keeps (s : State) :
    s.KeepsMem (State.takeFree s) := by
  unfold State.takeFree
  (repeat' split) <;> simp

@[simp] theorem State.setFlag_keeps (s : State) (index sub i : Nat) (b : Bool) :
    s.KeepsMem (State.setFlag s index sub i b) := by
  unfold State.setFlag
  (repeat' split) <;> simp

@[simp] theorem State.setBits_keeps (s : State) (index sub hi lo v : Nat) :
    s.KeepsMem (State.setBits s index sub hi lo v) := by
  unfold State.setBits
  (repeat' split) <;> simp

@[simp] theorem State.persist_keeps (s : State) (key : Nat) (v : Val) :
    s.KeepsMem (State.persist s key v) := by
  unfold State.persist
  (repeat' split) <;> simp

@[simp] theorem State.putCommitted_keeps (s : State) (index sub : Nat) (v : Val) :
    s.KeepsMem (State.putCommitted s index sub v) := by
  unfold State.putCommitted
  (repeat' split) <;> simp

@[simp] theorem State.putRP_keeps (s : State) (index sub : Nat) (v : Val) :
    s.KeepsMem (State.putRP s index sub v) := by
  unfold State.putRP
  (repeat' split) <;> simp

@[simp] theorem State.logWith_keeps (s : State) (sev source code unit detail extra : Nat) :
    s.KeepsMem (State.logWith s sev source code unit detail extra) := by
  unfold State.logWith
  (repeat' split) <;> simp

@[simp] theorem State.logAt_keeps (s : State) (sev source kind unit : Nat) :
    s.KeepsMem (State.logAt s sev source kind unit) := by
  unfold State.logAt
  (repeat' split) <;> simp

@[simp] theorem State.logEvent_keeps (s : State) (source kind unit : Nat) :
    s.KeepsMem (State.logEvent s source kind unit) := by
  unfold State.logEvent
  (repeat' split) <;> simp

@[simp] theorem State.logCritical_keeps (s : State) (source kind unit : Nat) :
    s.KeepsMem (State.logCritical s source kind unit) := by
  unfold State.logCritical
  (repeat' split) <;> simp

@[simp] theorem State.recover_keeps (s : State) (rs cls dur unit : Nat) :
    s.KeepsMem (State.recover s rs cls dur unit) := by
  unfold State.recover
  (repeat' split) <;> simp

@[simp] theorem State.switchIn_keeps (s : State) (kind unit spare : Nat) :
    s.KeepsMem (State.switchIn s kind unit spare) := by
  unfold State.switchIn
  (repeat' split) <;> simp

@[simp] theorem State.queueBlock_keeps (s : State) (l : Nat) (x : TxBlock) :
    s.KeepsMem (State.queueBlock s l x) := by
  unfold State.queueBlock
  (repeat' split) <;> simp

@[simp] theorem State.queueControl_keeps (s : State) (l b rank type fields : Nat) :
    s.KeepsMem (State.queueControl s l b rank type fields) := by
  unfold State.queueControl
  (repeat' split) <;> simp

@[simp] theorem State.sendDrone_keeps (s : State) (l b : Nat) :
    s.KeepsMem (State.sendDrone s l b) := by
  unfold State.sendDrone
  (repeat' split) <;> simp

@[simp] theorem State.departBlock_keeps (s : State) (b l : Nat) :
    s.KeepsMem (State.departBlock s b l) := by
  unfold State.departBlock
  (repeat' split) <;> simp

@[simp] theorem State.transmit_keeps (s : State) (b : Nat) :
    s.KeepsMem (State.transmit s b) := by
  unfold State.transmit
  (repeat' split) <;> simp

@[simp] theorem State.hushCopies_keeps (s : State) (l b cause epoch : Nat) :
    s.KeepsMem (State.hushCopies s l b cause epoch) := by
  unfold State.hushCopies
  (repeat' split) <;> simp

@[simp] theorem State.hushLane_keeps (s : State) (b cause : Nat) (l : Nat) :
    s.KeepsMem (State.hushLane s b cause l) := by
  unfold State.hushLane
  (repeat' split) <;> simp

@[simp] theorem State.reschedule_keeps (s : State) :
    s.KeepsMem (State.reschedule s) := by
  unfold State.reschedule
  (repeat' split) <;> first | simp; done | exact State.each_keeps _ _ _ (fun s x => by dsimp only; (repeat' split) <;> simp)

@[simp] theorem State.accrue_keeps (s : State) :
    s.KeepsMem (State.accrue s) := by
  unfold State.accrue
  (repeat' split) <;> simp

@[simp] theorem State.darkBowTime_keeps (s : State) (k cls slots : Nat) :
    s.KeepsMem (State.darkBowTime s k cls slots) := by
  unfold State.darkBowTime
  (repeat' split) <;> simp

@[simp] theorem State.ledgerAdd_keeps (s : State) (k : Nat) (r : LedgerRec) :
    s.KeepsMem (State.ledgerAdd s k r) := by
  unfold State.ledgerAdd
  (repeat' split) <;> simp

@[simp] theorem State.ledgerDone_keeps (s : State) (k bow : Nat) :
    s.KeepsMem (State.ledgerDone s k bow) := by
  unfold State.ledgerDone
  (repeat' split) <;> simp

@[simp] theorem State.ledgerNote_keeps (s : State) (k : Nat) (r : LedgerRec) :
    s.KeepsMem (State.ledgerNote s k r) := by
  unfold State.ledgerNote
  (repeat' split) <;> simp

@[simp] theorem State.hushNoted_keeps (s : State) (k : Nat) :
    s.KeepsMem (State.hushNoted s k) := by
  unfold State.hushNoted
  (repeat' split) <;> simp

@[simp] theorem State.darkBow_keeps (s : State) (k : Nat) (r : LedgerRec) :
    s.KeepsMem (State.darkBow s k r) := by
  unfold State.darkBow
  (repeat' split) <;> simp

@[simp] theorem State.domainBit_keeps (s : State) (k i : Nat) (b : Bool) :
    s.KeepsMem (State.domainBit s k i b) := by
  unfold State.domainBit
  (repeat' split) <;> simp

@[simp] theorem State.runStart_keeps (s : State) (k : Nat) :
    s.KeepsMem (State.runStart s k) := by
  unfold State.runStart
  (repeat' split) <;> simp

@[simp] theorem State.runRequest_keeps (s : State) (k : Nat) :
    s.KeepsMem (State.runRequest s k) := by
  unfold State.runRequest
  (repeat' split) <;> simp

@[simp] theorem State.runAbort_keeps (s : State) (k : Nat) :
    s.KeepsMem (State.runAbort s k) := by
  unfold State.runAbort
  (repeat' split) <;> simp

@[simp] theorem State.emptyPartition_keeps (s : State) (k : Nat) :
    s.KeepsMem (State.emptyPartition s k) := by
  unfold State.emptyPartition
  (repeat' split) <;> simp

@[simp] theorem State.darkIfDone_keeps (s : State) :
    s.KeepsMem (State.darkIfDone s) := by
  unfold State.darkIfDone
  (repeat' split) <;> simp

@[simp] theorem State.setCst_keeps (s : State) (k st : Nat) :
    s.KeepsMem (State.setCst s k st) := by
  unfold State.setCst
  (repeat' split) <;> simp

@[simp] theorem State.setArm_keeps (s : State) (k : Nat) (b : Bool) :
    s.KeepsMem (State.setArm s k b) := by
  unfold State.setArm
  (repeat' split) <;> simp

@[simp] theorem State.setEmitOk_keeps (s : State) (k : Nat) (b : Bool) :
    s.KeepsMem (State.setEmitOk s k b) := by
  unfold State.setEmitOk
  (repeat' split) <;> simp

@[simp] theorem State.rampAdvance_keeps (s : State) (k : Nat) :
    s.KeepsMem (State.rampAdvance s k) := by
  unfold State.rampAdvance
  (repeat' split) <;> simp

@[simp] theorem State.mirrorStop_keeps (s : State) (k : Nat) :
    s.KeepsMem (State.mirrorStop s k) := by
  unfold State.mirrorStop
  (repeat' split) <;> simp

@[simp] theorem State.dropModel_keeps (s : State) (k : Nat) :
    s.KeepsMem (State.dropModel s k) := by
  unfold State.dropModel
  (repeat' split) <;> simp

@[simp] theorem State.toStopped_keeps (s : State) (k : Nat) :
    s.KeepsMem (State.toStopped s k) := by
  unfold State.toStopped
  (repeat' split) <;> simp

@[simp] theorem State.toHushed_keeps (s : State) (k : Nat) :
    s.KeepsMem (State.toHushed s k) := by
  unfold State.toHushed
  (repeat' split) <;> simp

@[simp] theorem State.mirrorSlotsOn_keeps (s : State) (k : Nat) :
    s.KeepsMem (State.mirrorSlotsOn s k) := by
  unfold State.mirrorSlotsOn
  (repeat' split) <;> simp

@[simp] theorem State.toSpinning_keeps (s : State) (k : Nat) :
    s.KeepsMem (State.toSpinning s k) := by
  unfold State.toSpinning
  (repeat' split) <;> simp

@[simp] theorem State.hushCourse_keeps (s : State) (k cause : Nat) :
    s.KeepsMem (State.hushCourse s k cause) := by
  unfold State.hushCourse
  (repeat' split) <;> simp

@[simp] theorem State.hushIfSpinning_keeps (s : State) (k : Nat) :
    s.KeepsMem (State.hushIfSpinning s k) := by
  unfold State.hushIfSpinning
  (repeat' split) <;> simp

@[simp] theorem State.causeBit_keeps (s : State) (k b : Nat) :
    s.KeepsMem (State.causeBit s k b) := by
  unfold State.causeBit
  (repeat' split) <;> simp

@[simp] theorem State.setCause_keeps (s : State) (k b : Nat) :
    s.KeepsMem (State.setCause s k b) := by
  unfold State.setCause
  (repeat' split) <;> simp

@[simp] theorem State.setCauseNow_keeps (s : State) (k b : Nat) :
    s.KeepsMem (State.setCauseNow s k b) := by
  unfold State.setCauseNow
  (repeat' split) <;> simp

@[simp] theorem State.clearCause_keeps (s : State) (k b : Nat) :
    s.KeepsMem (State.clearCause s k b) := by
  unfold State.clearCause
  (repeat' split) <;> simp

@[simp] theorem State.releaseLanes_keeps (s : State) (k : Nat) :
    s.KeepsMem (State.releaseLanes s k) := by
  unfold State.releaseLanes
  (repeat' split) <;> simp

@[simp] theorem State.toArmed_keeps (s : State) (k : Nat) :
    s.KeepsMem (State.toArmed s k) := by
  unfold State.toArmed
  (repeat' split) <;> simp

@[simp] theorem State.toTracking_keeps (s : State) (k : Nat) :
    s.KeepsMem (State.toTracking s k) := by
  unfold State.toTracking
  simp

@[simp] theorem State.turnaroundMove_keeps (s : State) (k : Nat) :
    s.KeepsMem (State.turnaroundMove s k) := by
  unfold State.turnaroundMove
  (repeat' split) <;> simp

@[simp] theorem State.frameMove_keeps (s : State) (k : Nat) :
    s.KeepsMem (State.frameMove s k) := by
  unfold State.frameMove
  (repeat' split) <;> simp

@[simp] theorem State.leaveLit_keeps (s : State) :
    s.KeepsMem (State.leaveLit s) := by
  unfold State.leaveLit
  (repeat' split) <;> simp

@[simp] theorem State.clearBit10_keeps (s : State) :
    s.KeepsMem (State.clearBit10 s) := by
  unfold State.clearBit10
  (repeat' split) <;> simp

@[simp] theorem State.queuePush_keeps (s : State) (q : Nat) :
    s.KeepsMem (State.queuePush s q) := by
  unfold State.queuePush
  (repeat' split) <;> simp

@[simp] theorem State.queueCommit_keeps (s : State) (q : Nat) :
    s.KeepsMem (State.queueCommit s q) := by
  unfold State.queueCommit
  (repeat' split) <;> simp

@[simp] theorem State.reserveCredit_keeps (s : State) (q : Nat) :
    s.KeepsMem (State.reserveCredit s q) := by
  unfold State.reserveCredit
  (repeat' split) <;> simp

@[simp] theorem State.useCredit_keeps (s : State) (q : Nat) :
    s.KeepsMem (State.useCredit s q) := by
  unfold State.useCredit
  (repeat' split) <;> simp

@[simp] theorem State.requestIn_keeps (s : State) (m : Nat) :
    s.KeepsMem (State.requestIn s m) := by
  unfold State.requestIn
  (repeat' split) <;> simp

@[simp] theorem State.responseOut_keeps (s : State) (m : Nat) :
    s.KeepsMem (State.responseOut s m) := by
  unfold State.responseOut
  (repeat' split) <;> simp

@[simp] theorem State.touchQueue_keeps (s : State) (q : Nat) :
    s.KeepsMem (State.touchQueue s q) := by
  unfold State.touchQueue
  (repeat' split) <;> simp

@[simp] theorem State.ringTake_keeps (s : State) (q : Nat) :
    s.KeepsMem (State.ringTake s q) := by
  unfold State.ringTake
  (repeat' split) <;> simp

@[simp] theorem State.ringPush_keeps (s : State) (q : Nat) (b : List Byte) :
    s.KeepsMem (State.ringPush s q b) := by
  unfold State.ringPush
  (repeat' split) <;> simp

@[simp] theorem State.raiseVector_keeps (s : State) (q : Nat) :
    s.KeepsMem (State.raiseVector s q) := by
  unfold State.raiseVector
  (repeat' split) <;> simp

@[simp] theorem State.commitWindow_keeps (s : State) (w sub : Nat) (v : Val) :
    s.KeepsMem (State.commitWindow s w sub v) := by
  unfold State.commitWindow
  (repeat' split) <;> simp

@[simp] theorem State.candidate_keeps (s : State) (c unit : Nat) :
    s.KeepsMem (State.candidate s c unit) := by
  unfold State.candidate
  (repeat' split) <;> simp

@[simp] theorem State.uncorrectable_keeps (s : State) (c unit port found : Nat) :
    s.KeepsMem (State.uncorrectable s c unit port found) := by
  unfold State.uncorrectable
  (repeat' split) <;> simp

@[simp] theorem State.correctedUnit_keeps (s : State) (c unit : Nat) :
    s.KeepsMem (State.correctedUnit s c unit) := by
  unfold State.correctedUnit
  (repeat' split) <;> simp

/-- Bytes written one after another keep the canonical form. -/
theorem memWrites_wf (key : Nat → Nat) (byte : Nat → Byte) : ∀ (l : List Nat) (m : List Host.Cell), Memory.wf m = true →
    Memory.wf (l.foldl (fun m i => memWrite m (key i) (byte i)) m) = true
  | [], _, h => h
  | _ :: r, _, h => memWrites_wf key byte r _ (memWrite_wf _ _ _ h)

@[simp] theorem State.garble_keeps (s : State) (c unit : Nat) :
    s.Keeps (State.garble s c unit) := by
  unfold State.garble
  simp

@[simp] theorem State.garble_wf (s : State) (c unit : Nat) (hw : Memory.wf s.mem.cells = true) :
    Memory.wf (State.garble s c unit).mem.cells = true := by
  unfold State.garble
  exact memWrites_wf _ _ _ _ hw

theorem State.checkUnit_kw (s : State) (c unit port found bad : Nat) :
    s.KeepsWf (s.checkUnit c unit port found bad).1 := by
  unfold State.checkUnit
  (repeat' split) <;> simp <;> intro hw <;> simp [hw]

theorem State.readUnit_kw (s : State) (cls : AddrClass) (a port found bad : Nat) :
    s.KeepsWf (s.readUnit cls a port found bad).1 := State.checkUnit_kw _ _ _ _ _ _

@[simp] theorem State.readUnit_keeps (s : State) (cls : AddrClass) (a port found bad : Nat) :
    s.Keeps (State.readUnit s cls a port found bad).1 := (State.readUnit_kw s cls a port found bad).1

@[simp] theorem State.readUnit_wf (s : State) (cls : AddrClass) (a port found bad : Nat) (hw : Memory.wf s.mem.cells = true) :
    Memory.wf (State.readUnit s cls a port found bad).1.mem.cells = true := (State.readUnit_kw s cls a port found bad).2 hw

@[simp] theorem State.cancelWriteBack_keeps (s : State) (c unit : Nat) :
    s.KeepsMem (State.cancelWriteBack s c unit) := by
  unfold State.cancelWriteBack
  (repeat' split) <;> simp

theorem State.writePiece_kw (s : State) (cls : AddrClass) (port bad a : Nat) (d : List Byte) :
    s.KeepsWf (s.writePiece cls port bad a d).1 := by
  have h := State.readUnit_kw s cls a port 3 bad
  unfold State.writePiece
  dsimp only
  split
  · simp; intro hw; simp [hw]
  · split
    · exact h
    · refine State.KeepsWf.trans h ?_
      simp; intro hw; simp [hw]

@[simp] theorem State.writePiece_keeps (s : State) (cls : AddrClass) (port bad a : Nat) (d : List Byte) :
    s.Keeps (State.writePiece s cls port bad a d).1 := (State.writePiece_kw s cls port bad a d).1

@[simp] theorem State.writePiece_wf (s : State) (cls : AddrClass) (port bad a : Nat) (d : List Byte) (hw : Memory.wf s.mem.cells = true) :
    Memory.wf (State.writePiece s cls port bad a d).1.mem.cells = true := (State.writePiece_kw s cls port bad a d).2 hw

theorem State.writeSpan_kw (s : State) (cls : AddrClass) (port bad a : Nat) (d : List Byte) :
    s.KeepsWf (s.writeSpan cls port bad a d).1 := by
  unfold State.writeSpan
  exact State.foldl_fst_keepsWf
    (fun (x : State × Bool) (p : Nat × List Byte) =>
      ((x.1.writePiece cls port (if p.1 = a then bad else 0) p.1 p.2).1,
        x.2 || (x.1.writePiece cls port (if p.1 = a then bad else 0) p.1 p.2).2))
    (fun x p => State.writePiece_kw _ _ _ _ _ _) _ (s, false)

@[simp] theorem State.writeSpan_keeps (s : State) (cls : AddrClass) (port bad a : Nat) (d : List Byte) :
    s.Keeps (State.writeSpan s cls port bad a d).1 := (State.writeSpan_kw s cls port bad a d).1

@[simp] theorem State.writeSpan_wf (s : State) (cls : AddrClass) (port bad a : Nat) (d : List Byte) (hw : Memory.wf s.mem.cells = true) :
    Memory.wf (State.writeSpan s cls port bad a d).1.mem.cells = true := (State.writeSpan_kw s cls port bad a d).2 hw

theorem State.readSpan_kw (s : State) (cls : AddrClass) (port bad a len : Nat) :
    s.KeepsWf (s.readSpan cls port bad a len).1 := by
  unfold State.readSpan
  exact State.foldl_fst_keepsWf
    (fun (x : State × Bool) (u : Nat) =>
      ((x.1.readUnit cls u port 1 (if u / 64 = a / 64 then bad else 0)).1,
        x.2 || (x.1.readUnit cls u port 1 (if u / 64 = a / 64 then bad else 0)).2))
    (fun x p => State.readUnit_kw _ _ _ _ _ _) _ (s, false)

@[simp] theorem State.readSpan_keeps (s : State) (cls : AddrClass) (port bad a len : Nat) :
    s.Keeps (State.readSpan s cls port bad a len).1 := (State.readSpan_kw s cls port bad a len).1

@[simp] theorem State.readSpan_wf (s : State) (cls : AddrClass) (port bad a len : Nat) (hw : Memory.wf s.mem.cells = true) :
    Memory.wf (State.readSpan s cls port bad a len).1.mem.cells = true := (State.readSpan_kw s cls port bad a len).2 hw

@[simp] theorem State.dataWrite_keeps (s : State) (port a : Nat) (d : List Byte) :
    s.Keeps (State.dataWrite s port a d).1 := by
  unfold State.dataWrite
  (repeat' split) <;> simp

@[simp] theorem State.dataWrite_wf (s : State) (port a : Nat) (d : List Byte) (hw : Memory.wf s.mem.cells = true) :
    Memory.wf (State.dataWrite s port a d).1.mem.cells = true := by
  unfold State.dataWrite
  (repeat' split) <;> simp [hw]

@[simp] theorem State.dataZero_keeps (s : State) (a len : Nat) :
    s.Keeps (State.dataZero s a len) := by
  unfold State.dataZero
  (repeat' split) <;> simp

@[simp] theorem State.dataZero_wf (s : State) (a len : Nat) (hw : Memory.wf s.mem.cells = true) :
    Memory.wf (s.dataZero a len).mem.cells = true := by
  unfold State.dataZero
  exact filter_wf _ _ hw

theorem memMove_wf (l : List Host.Cell) (key : Option Nat) (b : Byte) (hl : Memory.wf l = true) :
    Memory.wf (memMove l key b) = true := by
  unfold memMove
  split
  · exact memWrite_wf _ _ _ hl
  · exact hl

/-- Cells rewritten one after another keep the canonical form, where each rewriting does. -/
theorem foldl_cells_wf {β : Type} (f : List Host.Cell → β → List Host.Cell)
    (h : ∀ m x, Memory.wf m = true → Memory.wf (f m x) = true) : ∀ (l : List β) (m : List Host.Cell), Memory.wf m = true →
    Memory.wf (l.foldl f m) = true
  | [], _, hm => hm
  | x :: r, m, hm => foldl_cells_wf f h r _ (h m x hm)

@[simp] theorem State.dataMove_keeps (s : State) (top : Nat) (f : Nat → Option Nat) : s.Keeps (s.dataMove top f) :=
  ⟨rfl, rfl, rfl, rfl, rfl, rfl⟩

@[simp] theorem State.dataMove_wf (s : State) (top : Nat) (f : Nat → Option Nat) : Memory.wf (s.dataMove top f).mem.cells = true := by
  unfold State.dataMove
  exact foldl_cells_wf _ (fun m x hm => memMove_wf _ _ _ hm) _ _ nil_wf

@[simp] theorem State.drainInput_keeps (s : State) (i : Nat) :
    s.KeepsMem (State.drainInput s i) := by
  unfold State.drainInput
  (repeat' split) <;> simp

@[simp] theorem State.drainAll_keeps (s : State) :
    s.KeepsMem (State.drainAll s) := by
  unfold State.drainAll
  (repeat' split) <;> simp

@[simp] theorem State.panicRefresh_keeps (s : State) :
    s.KeepsMem (State.panicRefresh s) := by
  unfold State.panicRefresh
  dsimp only
  (repeat' split) <;> simp

@[simp] theorem State.setChan_keeps (s : State) (c st : Nat) :
    s.KeepsMem (State.setChan s c st) := by
  unfold State.setChan
  (repeat' split) <;> simp

@[simp] theorem State.rankWakes_keeps (s : State) (c rank : Nat) :
    s.KeepsMem (State.rankWakes s c rank) := by
  unfold State.rankWakes
  (repeat' split) <;> simp

@[simp] theorem State.ranksWake_keeps (s : State) (c : Nat) :
    s.KeepsMem (State.ranksWake s c) := by
  unfold State.ranksWake
  (repeat' split) <;> simp

@[simp] theorem State.chanExits_keeps (s : State) (c : Nat) :
    s.KeepsMem (State.chanExits s c) := by
  unfold State.chanExits
  (repeat' split) <;> simp

@[simp] theorem State.reachChan_keeps (s : State) (c unit : Nat) :
    s.KeepsMem (State.reachChan s c unit) := by
  unfold State.reachChan
  (repeat' split) <;> simp

@[simp] theorem State.neighbourDraw_keeps (s : State) (c unit : Nat) :
    s.KeepsMem (State.neighbourDraw s c unit) := by
  unfold State.neighbourDraw
  (repeat' split) <;> simp

@[simp] theorem State.serve_keeps (s : State) (r : MemReq) :
    s.Keeps (State.serve s r) := by
  unfold State.serve
  (repeat' split) <;> simp

@[simp] theorem State.serve_wf (s : State) (r : MemReq) (hw : Memory.wf s.mem.cells = true) :
    Memory.wf (State.serve s r).mem.cells = true := by
  unfold State.serve
  (repeat' split) <;> simp [hw]

@[simp] theorem State.scrubPass_keeps (s : State) :
    s.KeepsMem (State.scrubPass s) := by
  unfold State.scrubPass
  dsimp only
  (repeat' split) <;> simp

@[simp] theorem State.chanSleeps_keeps (s : State) (c : Nat) :
    s.KeepsMem (State.chanSleeps s c) := by
  unfold State.chanSleeps
  (repeat' split) <;> simp

@[simp] theorem State.dramHold_keeps (s : State) :
    s.KeepsMem (State.dramHold s) := by
  unfold State.dramHold
  (repeat' split) <;> simp

theorem State.dramExit_kw (s : State) : s.KeepsWf s.dramExit := by
  unfold State.dramExit
  dsimp only
  refine State.KeepsWf.trans ?_ (State.foldl_keepsWf _ (fun a x => ?_) _ _)
  · have h := State.each_keeps s (List.range 32) (fun s c =>
      if ((s.chanExits c).chanLive c) = true then
        ((s.chanExits c).putI (0x5010 + c) 6 0).chansPut c { (s.chanExits c).chansAt c with
          due := false, forced := false, waited := false, overdue := false, trainedAt := s.clk.up }
      else s.chanExits c) (fun s c => by split <;> simp)
    exact State.KeepsMem.kw (State.KeepsMem.trans h (by simp))
  · exact ⟨by simp, fun hw => by simp [hw]⟩

@[simp] theorem State.dramExit_keeps (s : State) :
    s.Keeps (State.dramExit s) := (State.dramExit_kw s).1

@[simp] theorem State.dramExit_wf (s : State) (hw : Memory.wf s.mem.cells = true) :
    Memory.wf (State.dramExit s).mem.cells = true := (State.dramExit_kw s).2 hw

@[simp] theorem State.retrainDue_keeps (s : State) (c : Nat) :
    s.KeepsMem (State.retrainDue s c) := by
  unfold State.retrainDue
  (repeat' split) <;> simp

@[simp] theorem State.dramFails_keeps (s : State) (r : TrainingResult) :
    s.Keeps (State.dramFails s r) := by
  unfold State.dramFails
  (repeat' split) <;> simp

@[simp] theorem State.dramFails_wf (s : State) (r : TrainingResult) (_hw : Memory.wf s.mem.cells = true) :
    Memory.wf (s.dramFails r).mem.cells = true := by
  unfold State.dramFails
  exact nil_wf

@[simp] theorem State.recordRepair_keeps (s : State) (c w : Nat) (perm : Bool) :
    s.KeepsMem (State.recordRepair s c w perm) := by
  unfold State.recordRepair
  (repeat' split) <;> simp

@[simp] theorem State.requestFrame_keeps (s : State) (k : Nat) (counter : Option Nat) (t : Nat) :
    s.KeepsMem (State.requestFrame s k counter t) := by
  unfold State.requestFrame
  (repeat' split) <;> simp

@[simp] theorem State.realign_keeps (s : State) (k : Nat) :
    s.KeepsMem (State.realign s k) := by
  unfold State.realign
  (repeat' split) <;> simp

@[simp] theorem State.arrive_keeps (s : State) (k : Nat) :
    s.KeepsMem (State.arrive s k) := by
  unfold State.arrive
  (repeat' split) <;> simp

@[simp] theorem State.realignPtp_keeps (s : State) :
    s.KeepsMem (State.realignPtp s) := by
  unfold State.realignPtp
  (repeat' split) <;> simp

@[simp] theorem State.expireRef_keeps (s : State) (f : Nat → Bool) :
    s.KeepsMem (State.expireRef s f) := by
  unfold State.expireRef
  (repeat' split) <;> simp

@[simp] theorem State.restoreRef_keeps (s : State) (f : Nat → Bool) :
    s.KeepsMem (State.restoreRef s f) := by
  unfold State.restoreRef
  (repeat' split) <;> simp

@[simp] theorem State.setServo_keeps (s : State) (st : Nat) :
    s.KeepsMem (State.setServo s st) := by
  unfold State.setServo
  (repeat' split) <;> simp

@[simp] theorem State.setFree_keeps (s : State) :
    s.KeepsMem (State.setFree s) := by
  unfold State.setFree
  (repeat' split) <;> simp

@[simp] theorem State.enterHoldover_keeps (s : State) (fromAcquiring : Bool) :
    s.KeepsMem (State.enterHoldover s fromAcquiring) := by
  unfold State.enterHoldover
  (repeat' split) <;> simp

@[simp] theorem State.enterAcquiring_keeps (s : State) :
    s.KeepsMem (State.enterAcquiring s) := by
  unfold State.enterAcquiring
  (repeat' split) <;> simp

@[simp] theorem State.enterLocked_keeps (s : State) :
    s.KeepsMem (State.enterLocked s) := by
  unfold State.enterLocked
  (repeat' split) <;> simp

@[simp] theorem State.steer_keeps (s : State) (o : Int) :
    s.KeepsMem (State.steer s o) := by
  unfold State.steer
  (repeat' split) <;> simp

@[simp] theorem State.setTai_keeps (s : State) (t : Nat) :
    s.KeepsMem (State.setTai s t) := by
  unfold State.setTai
  (repeat' split) <;> simp

@[simp] theorem State.stepTai_keeps (s : State) (t : Nat) :
    s.KeepsMem (State.stepTai s t) := by
  unfold State.stepTai
  (repeat' split) <;> simp

@[simp] theorem State.sync_keeps (s0 : State) (o : Int) :
    s0.KeepsMem (State.sync s0 o) := by
  unfold State.sync
  (repeat' split) <;> simp

@[simp] theorem State.selectMaster_keeps (s : State) :
    s.KeepsMem (State.selectMaster s) := by
  unfold State.selectMaster
  (repeat' split) <;> simp

@[simp] theorem State.portsChanged_keeps (s : State) :
    s.KeepsMem (State.portsChanged s) := by
  unfold State.portsChanged
  (repeat' split) <;> simp

@[simp] theorem State.expireSyncIn_keeps (s : State) :
    s.KeepsMem (State.expireSyncIn s) := by
  unfold State.expireSyncIn
  (repeat' split) <;> simp

@[simp] theorem State.setTime_keeps (s : State) (t : Nat) :
    s.KeepsMem (State.setTime s t).1 := by
  unfold State.setTime
  (repeat' split) <;> simp

@[simp] theorem State.answer_keeps (s : State) (op : Nat) (it : Item) (status : Nat) (value : List Byte) :
    s.KeepsMem (State.answer s op it status value) := by
  unfold State.answer
  (repeat' split) <;> simp

@[simp] theorem State.hostWrite_keeps (s : State) (it : Item) (f : State → State × Nat) (h : s.KeepsMem (f s).1) :
    s.KeepsMem (s.hostWrite it f) := by
  unfold State.hostWrite
  dsimp only
  split <;> simp_all

/-- A host write to an entry keeps what the entry's own effect keeps. -/
theorem State.hostWrite_kw (s : State) (it : Item) (f : State → State × Nat) (h : s.KeepsWf (f s).1) :
    s.KeepsWf (s.hostWrite it f) := by
  unfold State.hostWrite
  dsimp only
  split <;> simp_all

@[simp] theorem State.frameEdge_keeps (s : State) (i t : Nat) :
    s.KeepsMem (State.frameEdge s i t) := by
  unfold State.frameEdge
  (repeat' split) <;> simp

@[simp] theorem State.markLines_keeps (s : State) (i : Nat) :
    s.KeepsMem (State.markLines s i) := by
  unfold State.markLines
  (repeat' split) <;> simp

@[simp] theorem State.countEdge_keeps (s0 : State) (i t : Nat) :
    s0.KeepsMem (State.countEdge s0 i t) := by
  unfold State.countEdge
  (repeat' split) <;> simp

@[simp] theorem State.acceptEdge_keeps (s : State) (i t : Nat) :
    s.KeepsMem (State.acceptEdge s i t) := by
  unfold State.acceptEdge
  (repeat' split) <;> simp

@[simp] theorem State.acquireEdge_keeps (s : State) (i t : Nat) :
    s.KeepsMem (State.acquireEdge s i t) := by
  unfold State.acquireEdge
  (repeat' split) <;> simp

@[simp] theorem State.standIns_keeps (s : State) (i t n : Nat) : s.KeepsMem (s.standIns i t n) := by
  induction n generalizing s with
  | zero => simp [State.standIns]
  | succ n ih => unfold State.standIns; dsimp only; (repeat' split) <;> simp [ih]

@[simp] theorem State.syncHold_keeps (s : State) (i : Nat) :
    s.KeepsMem (State.syncHold s i) := by
  unfold State.syncHold
  (repeat' split) <;> simp

@[simp] theorem State.syncEdge_keeps (s : State) (i t : Nat) :
    s.KeepsMem (State.syncEdge s i t) := by
  unfold State.syncEdge
  (repeat' split) <;> simp

@[simp] theorem State.setBufs_keeps (s : State) (c : Nat) (l : List Buf) :
    s.KeepsMem (State.setBufs s c l) := by
  unfold State.setBufs
  (repeat' split) <;> simp

@[simp] theorem State.modBuf_keeps (s : State) (c b : Nat) (f : Buf → Buf) :
    s.KeepsMem (State.modBuf s c b f) := by
  unfold State.modBuf
  (repeat' split) <;> simp

@[simp] theorem State.freeBuf_keeps (s : State) (c b : Nat) :
    s.KeepsMem (State.freeBuf s c b) := by
  unfold State.freeBuf
  (repeat' split) <;> simp

@[simp] theorem State.releaseBuf_keeps (s : State) (c b : Nat) :
    s.KeepsMem (State.releaseBuf s c b) := by
  unfold State.releaseBuf
  (repeat' split) <;> simp

@[simp] theorem State.releaseWhere_keeps (s : State) (c : Nat) (f : Buf → Bool) :
    s.KeepsMem (State.releaseWhere s c f) := by
  unfold State.releaseWhere
  exact State.each_keeps _ _ _ (fun s x => by (repeat' split) <;> simp)

@[simp] theorem State.readyBuf_keeps (s : State) (c b kind : Nat) (target : Int) :
    s.KeepsMem (State.readyBuf s c b kind target) := by
  unfold State.readyBuf
  (repeat' split) <;> simp

@[simp] theorem State.contentArrived_keeps (s : State) (c : Nat) :
    s.KeepsMem (State.contentArrived s c) := by
  unfold State.contentArrived
  (repeat' split) <;> simp

@[simp] theorem State.showCanvasUse_keeps (s : State) :
    s.KeepsMem (State.showCanvasUse s) := by
  unfold State.showCanvasUse
  (repeat' split) <;> simp

theorem State.canvasPack_kw (s : State) : s.KeepsWf s.canvasPack := by
  unfold State.canvasPack
  dsimp only
  exact State.KeepsWf.trans ⟨State.dataMove_keeps _ _ _, fun _ => State.dataMove_wf _ _ _⟩
    (State.KeepsMem.kw (State.foldl_keeps _ (fun s x => by simp) _ _))

@[simp] theorem State.canvasPack_keeps (s : State) : s.Keeps s.canvasPack := s.canvasPack_kw.1

@[simp] theorem State.canvasPack_wf (s : State) (hw : Memory.wf s.mem.cells = true) :
    Memory.wf s.canvasPack.mem.cells = true := s.canvasPack_kw.2 hw

@[simp] theorem State.canvasAt_keeps (s : State) (c n size a : Nat) :
    s.KeepsMem (State.canvasAt s c n size a) := by
  unfold State.canvasAt
  (repeat' split) <;> simp

theorem State.canvasAlloc_kw (s : State) (c : Nat) : s.KeepsWf (s.canvasAlloc c) := by
  unfold State.canvasAlloc
  dsimp only
  (repeat' split) <;> exact ⟨by simp, fun hw => by simp [hw]⟩

@[simp] theorem State.canvasAlloc_keeps (s : State) (c : Nat) : s.Keeps (s.canvasAlloc c) := (s.canvasAlloc_kw c).1

@[simp] theorem State.canvasAlloc_wf (s : State) (c : Nat) (hw : Memory.wf s.mem.cells = true) :
    Memory.wf (s.canvasAlloc c).mem.cells = true := (s.canvasAlloc_kw c).2 hw

theorem State.writePixels_kw (s : State) (port c b : Nat) (px : List (Nat × Nat × List Byte)) :
    s.KeepsWf (s.writePixels port c b px) := by
  unfold State.writePixels
  exact State.foldl_keepsWf _ (fun a p => ⟨by simp, fun hw => by simp [hw]⟩) _ _

@[simp] theorem State.writePixels_keeps (s : State) (port c b : Nat) (px : List (Nat × Nat × List Byte)) :
    s.Keeps (State.writePixels s port c b px) := (State.writePixels_kw s port c b px).1

@[simp] theorem State.writePixels_wf (s : State) (port c b : Nat) (px : List (Nat × Nat × List Byte)) (hw : Memory.wf s.mem.cells = true) :
    Memory.wf (State.writePixels s port c b px).mem.cells = true := (State.writePixels_kw s port c b px).2 hw

@[simp] theorem State.dropBuffer_keeps (s : State) (c b : Nat) :
    s.KeepsMem (State.dropBuffer s c b) := by
  unfold State.dropBuffer
  (repeat' split) <;> simp

@[simp] theorem State.stampOver_keeps (s : State) (c stamp : Nat) :
    s.KeepsMem (State.stampOver s c stamp) := by
  unfold State.stampOver
  (repeat' split) <;> simp

@[simp] theorem State.flowReady_keeps (s : State) (c b stamp : Nat) :
    s.KeepsMem (State.flowReady s c b stamp) := by
  unfold State.flowReady
  (repeat' split) <;> simp

@[simp] theorem State.flowIncomplete_keeps (s : State) (c b stamp : Nat) :
    s.KeepsMem (State.flowIncomplete s c b stamp) := by
  unfold State.flowIncomplete
  (repeat' split) <;> simp

@[simp] theorem State.endFrame_keeps (s : State) (f : Nat) (a : Assembly) (complete : Bool) :
    s.KeepsMem (State.endFrame s f a complete) := by
  unfold State.endFrame
  (repeat' split) <;> simp

@[simp] theorem State.endComplete_keeps (s : State) (f n : Nat) : s.KeepsMem (s.endComplete f n) := by
  induction n generalizing s with
  | zero => simp [State.endComplete]
  | succ n ih => unfold State.endComplete; split <;> simp [ih]

@[simp] theorem State.discardFrames_keeps (s : State) (f : Nat) (canvas : Option Nat) :
    s.KeepsMem (State.discardFrames s f canvas) := by
  unfold State.discardFrames
  dsimp only
  (repeat' split) <;> first | (simp; done) | exact State.each_from (by simp) _ _ (fun s x => by (repeat' split) <;> simp) | exact State.foldl_from (by simp) _ _ (fun s x => by (repeat' split) <;> simp)

@[simp] theorem State.newFrame_keeps (s : State) (f stamp seq : Nat) :
    s.KeepsMem (State.newFrame s f stamp seq) := by
  unfold State.newFrame
  (repeat' split) <;> simp

theorem State.writeRows_kw (s : State) (port f c b : Nat) (raw : Tab (Nat × Nat × Nat × Nat)) (rows : List SampleRow) :
    s.KeepsWf (s.writeRows port f c b raw rows) := by
  unfold State.writeRows
  exact State.foldl_keepsWf _ (fun a p => State.writePixels_kw _ _ _ _ _) _ _

@[simp] theorem State.writeRows_keeps (s : State) (port f c b : Nat) (raw : Tab (Nat × Nat × Nat × Nat)) (rows : List SampleRow) :
    s.Keeps (State.writeRows s port f c b raw rows) := (State.writeRows_kw s port f c b raw rows).1

@[simp] theorem State.writeRows_wf (s : State) (port f c b : Nat) (raw : Tab (Nat × Nat × Nat × Nat)) (rows : List SampleRow) (hw : Memory.wf s.mem.cells = true) :
    Memory.wf (State.writeRows s port f c b raw rows).mem.cells = true := (State.writeRows_kw s port f c b raw rows).2 hw

theorem State.joinPacket_kw (s : State) (f port : Nat) (p : RtpPacket) : s.KeepsWf (s.joinPacket f port p) := by
  unfold State.joinPacket
  dsimp only
  refine State.KeepsWf.trans ?_ (State.KeepsMem.kw (State.endComplete_keeps _ f _))
  have base : ∀ (c : Prop) [Decidable c] (y : FlowSt), s.KeepsWf ((if c then (s.add64 (flIx f) 0x16 1).putN (flIx f) 0x1D p.timestamp
      else ((s.add64 (flIx f) 0x16 1).putN (flIx f) 0x1D p.timestamp).newFrame f p.timestamp p.seq).flowsPut f y) := by
    intro c _ y
    split <;> exact ⟨by simp, fun hw => by simp [hw]⟩
  have rows : ∀ (t : State) (c b : Nat) raw rows, s.KeepsWf t → s.KeepsWf (t.writeRows port f c b raw rows) :=
    fun t c b raw rows h => State.KeepsWf.trans h (State.writeRows_kw ..)
  split
  · split
    · split
      · exact State.KeepsWf.trans (rows _ _ _ _ _ (base _ _)) (State.KeepsMem.kw (State.bump_keeps _ _ _))
      · exact rows _ _ _ _ _ (base _ _)
    · exact base _ _
  · exact base _ _

@[simp] theorem State.joinPacket_keeps (s : State) (f port : Nat) (p : RtpPacket) :
    s.Keeps (s.joinPacket f port p) := (State.joinPacket_kw s f port p).1

@[simp] theorem State.joinPacket_wf (s : State) (f port : Nat) (p : RtpPacket) (hw : Memory.wf s.mem.cells = true) :
    Memory.wf (s.joinPacket f port p).mem.cells = true := (State.joinPacket_kw s f port p).2 hw

@[simp] theorem State.flowSeen_keeps (s : State) (f port : Nat) :
    s.KeepsMem (State.flowSeen s f port) := by
  unfold State.flowSeen
  (repeat' split) <;> simp

@[simp] theorem State.flowSource_keeps (s : State) (f ssrc : Nat) :
    s.KeepsMem (State.flowSource s f ssrc) := by
  unfold State.flowSource
  (repeat' split) <;> simp

@[simp] theorem State.flowAnew_keeps (s : State) (f : Nat) (canvas skip : Option Nat) :
    s.KeepsMem (State.flowAnew s f canvas skip) := by
  unfold State.flowAnew
  simp

theorem State.flowPacket_kw (s0 : State) (f port : Nat) (p : RtpPacket) : s0.KeepsWf (s0.flowPacket f port p) := by
  unfold State.flowPacket
  dsimp only
  (repeat' split) <;> exact ⟨by simp, fun hw => by simp [hw]⟩

@[simp] theorem State.flowPacket_keeps (s0 : State) (f port : Nat) (p : RtpPacket) :
    s0.Keeps (State.flowPacket s0 f port p) := (State.flowPacket_kw s0 f port p).1

@[simp] theorem State.flowPacket_wf (s0 : State) (f port : Nat) (p : RtpPacket) (hw : Memory.wf s0.mem.cells = true) :
    Memory.wf (State.flowPacket s0 f port p).mem.cells = true := (State.flowPacket_kw s0 f port p).2 hw

theorem State.rxDeliver_kw (s : State) (port : Nat) (p : RtpPacket) : s.KeepsWf (s.rxDeliver port p) :=
  State.foldl_keepsWf _ (fun a x => ⟨by simp, fun hw => by simp [hw]⟩) _ _

@[simp] theorem State.rxDeliver_keeps (s : State) (port : Nat) (p : RtpPacket) :
    s.Keeps (s.rxDeliver port p) := (State.rxDeliver_kw s port p).1

@[simp] theorem State.rxDeliver_wf (s : State) (port : Nat) (p : RtpPacket) (hw : Memory.wf s.mem.cells = true) :
    Memory.wf (s.rxDeliver port p).mem.cells = true := (State.rxDeliver_kw s port p).2 hw

@[simp] theorem State.rxHold_keeps (s : State) (port : Nat) (p : RtpPacket) (f : Nat) :
    s.KeepsMem (State.rxHold s port p f) := by
  unfold State.rxHold
  (repeat' split) <;> simp

theorem State.rxDrain_kw (s : State) : s.KeepsWf s.rxDrain := by
  have h : ∀ (l : List RxPacket) (t : State), s.KeepsWf t → s.KeepsWf (l.foldl (fun s x => s.rxDeliver x.port x.packet) t) := by
    intro l
    induction l with
    | nil => exact fun t h => h
    | cons x r ih => exact fun t h => ih _ (State.KeepsWf.trans h (State.rxDeliver_kw t x.port x.packet))
  unfold State.rxDrain
  split
  · exact ⟨by simp, id⟩
  · exact h _ _ ⟨by simp, id⟩

@[simp] theorem State.rxDrain_keeps (s : State) : s.Keeps s.rxDrain := s.rxDrain_kw.1

@[simp] theorem State.rxDrain_wf (s : State) (hw : Memory.wf s.mem.cells = true) :
    Memory.wf s.rxDrain.mem.cells = true := s.rxDrain_kw.2 hw

@[simp] theorem State.flowChanged_keeps (s old : State) (f : Nat) :
    s.KeepsMem (State.flowChanged s old f) := by
  unfold State.flowChanged
  (repeat' split) <;> simp

@[simp] theorem State.flowsAfterStandby_keeps (s : State) : s.KeepsMem (State.flowsAfterStandby s) := by
  unfold State.flowsAfterStandby
  exact State.each_from (by simp) _ _ (fun s x => by simp)

@[simp] theorem State.hsDone_keeps (s : State) (h : Nat) (d : List Byte) (status : Nat) (buffer : Option Nat) :
    s.KeepsMem (State.hsDone s h d status buffer) := by
  unfold State.hsDone
  (repeat' split) <;> simp

@[simp] theorem State.rectInto_keeps (s : State) (h c b : Nat) (d src : List Byte) (pcieError : Bool) :
    s.Keeps (State.rectInto s h c b d src pcieError) := by
  unfold State.rectInto
  (repeat' split) <;> simp

@[simp] theorem State.rectInto_wf (s : State) (h c b : Nat) (d src : List Byte) (pcieError : Bool) (hw : Memory.wf s.mem.cells = true) :
    Memory.wf (State.rectInto s h c b d src pcieError).mem.cells = true := by
  unfold State.rectInto
  (repeat' split) <;> simp [hw]

@[simp] theorem State.rectClaims_keeps (s : State) (h c : Nat) (d src : List Byte) (err : Bool) :
    s.Keeps (State.rectClaims s h c d src err) := by
  unfold State.rectClaims
  (repeat' split) <;> simp

@[simp] theorem State.rectClaims_wf (s : State) (h c : Nat) (d src : List Byte) (err : Bool) (hw : Memory.wf s.mem.cells = true) :
    Memory.wf (State.rectClaims s h c d src err).mem.cells = true := by
  unfold State.rectClaims
  (repeat' split) <;> simp [hw]

@[simp] theorem State.ingestRestart_keeps (s : State) :
    s.KeepsMem (State.ingestRestart s) := by
  unfold State.ingestRestart
  (repeat' split) <;> simp

@[simp] theorem State.releaseReady_keeps (s : State) (c mask : Nat) :
    s.KeepsMem (State.releaseReady s c mask) := by
  unfold State.releaseReady
  (repeat' split) <;> simp

@[simp] theorem State.releaseTravel_keeps (s : State) (k : Nat) :
    s.KeepsMem (State.releaseTravel s k) := by
  unfold State.releaseTravel
  (repeat' split) <;> simp

@[simp] theorem State.takeBuf_keeps (s : State) (c b : Nat) (late : Bool) :
    s.KeepsMem (State.takeBuf s c b late) := by
  unfold State.takeBuf
  (repeat' split) <;> simp

@[simp] theorem State.releaseEarlier_keeps (s : State) (k c b : Nat) :
    s.KeepsMem (State.releaseEarlier s k c b) := by
  unfold State.releaseEarlier
  (repeat' split) <;> simp

@[simp] theorem State.decideBuffer_keeps (s : State) (k c : Nat) :
    s.KeepsMem (State.decideBuffer s k c).1 := by
  unfold State.decideBuffer
  (repeat' split) <;> simp

@[simp] theorem State.flipDone_keeps (s : State) (c b : Nat) :
    s.KeepsMem (State.flipDone s c b) := by
  unfold State.flipDone
  (repeat' split) <;> simp

@[simp] theorem State.flipNow_keeps (s : State) (c b : Nat) :
    s.KeepsMem (State.flipNow s c b) := by
  unfold State.flipNow
  (repeat' split) <;> simp

@[simp] theorem State.convert_keeps (s : State) (c : Nat) (n : Nat) (code : Int) :
    s.KeepsMem (State.convert s c n code) := by
  unfold State.convert
  (repeat' split) <;> simp

@[simp] theorem State.convertAll_keeps (s : State) (c : Nat) (codes : List Int) :
    s.KeepsMem (State.convertAll s c codes) := by
  unfold State.convertAll
  (repeat' split) <;> simp

@[simp] theorem State.takeInput_keeps (s : State) (src : Nat) (codes : List Int) :
    s.KeepsMem (State.takeInput s src codes) := by
  unfold State.takeInput
  (repeat' split) <;> simp

@[simp] theorem State.convertDac_keeps (s : State) (c : Nat) :
    s.KeepsMem (State.convertDac s c) := by
  unfold State.convertDac
  (repeat' split) <;> simp

@[simp] theorem State.refreshDac_keeps (s : State) (i : Nat) :
    s.KeepsMem (State.refreshDac s i) := by
  unfold State.refreshDac
  (repeat' split) <;> simp

@[simp] theorem State.takeDest_keeps (s : State) (i : Nat) : s.KeepsMem (s.takeDest i) := by
  unfold State.takeDest
  dsimp only
  (repeat' split) <;> simp

@[simp] theorem State.setDrive_keeps (s : State) (k : Nat) (a : Int) :
    s.KeepsMem (State.setDrive s k a) := by
  unfold State.setDrive
  (repeat' split) <;> simp

@[simp] theorem State.writeOut_keeps (s : State) (i : Nat) (o : Int) :
    s.KeepsMem (State.writeOut s i o) := by
  unfold State.writeOut
  dsimp only
  (repeat' split) <;> simp

@[simp] theorem State.setSup_keeps (s : State) (i new : Nat) :
    s.KeepsMem (State.setSup s i new) := by
  unfold State.setSup
  (repeat' split) <;> simp

@[simp] theorem State.showChecks_keeps (s : State) (i : Nat) (chk sat : Bool) :
    s.KeepsMem (State.showChecks s i chk sat) := by
  unfold State.showChecks
  (repeat' split) <;> simp

@[simp] theorem State.supervise_keeps (s : State) (i : Nat) (spOk : Bool) :
    s.KeepsMem (State.supervise s i spOk) := by
  unfold State.supervise
  (repeat' split) <;> simp

@[simp] theorem State.lockRefresh_keeps (s : State) (k : Nat) :
    s.KeepsMem (State.lockRefresh s k) := by
  unfold State.lockRefresh
  (repeat' split) <;> simp

@[simp] theorem State.slotOff_keeps (s : State) (i : Nat) :
    s.KeepsMem (State.slotOff s i) := by
  unfold State.slotOff
  (repeat' split) <;> simp

@[simp] theorem State.stopRampEnd_keeps (s : State) (k : Nat) :
    s.KeepsMem (State.stopRampEnd s k) := by
  unfold State.stopRampEnd
  (repeat' split) <;> simp

@[simp] theorem State.declareFailed_keeps (s : State) (k : Nat) :
    s.KeepsMem (State.declareFailed s k) := by
  unfold State.declareFailed
  (repeat' split) <;> simp

@[simp] theorem State.slowWindow_keeps (s : State) (i : Nat) :
    s.KeepsMem (State.slowWindow s i) := by
  unfold State.slowWindow
  (repeat' split) <;> simp

@[simp] theorem State.storeStep_keeps (s : State) (i mode : Nat) (x : Int) (r : LoopRes) :
    s.KeepsMem (State.storeStep s i mode x r) := by
  unfold State.storeStep
  (repeat' split) <;> simp

@[simp] theorem State.actNow_keeps (s : State) (i : Nat) (o : Int) :
    s.KeepsMem (State.actNow s i o) := by
  unfold State.actNow
  (repeat' split) <;> simp

@[simp] theorem State.stepOn_keeps (s : State) (i : Nat) (x : Int) :
    s.KeepsMem (State.stepOn s i x) := by
  unfold State.stepOn
  (repeat' split) <;> simp

@[simp] theorem State.showPool_keeps (s : State) :
    s.KeepsMem (State.showPool s) := by
  unfold State.showPool
  (repeat' split) <;> simp

@[simp] theorem State.moveSlot_keeps (s : State) (i p : Nat) :
    s.KeepsMem (State.moveSlot s i p) := by
  unfold State.moveSlot
  (repeat' split) <;> simp

@[simp] theorem State.takeMove_keeps (s : State) (i : Nat) :
    s.KeepsMem (State.takeMove s i) := by
  unfold State.takeMove
  (repeat' split) <;> simp

@[simp] theorem State.keepBack_keeps (s : State) (i : Nat) :
    s.KeepsMem (State.keepBack s i) := by
  unfold State.keepBack
  (repeat' split) <;> simp

@[simp] theorem State.undoStep_keeps (s : State) (i : Nat) : s.KeepsMem (s.undoStep i) := by
  unfold State.undoStep
  dsimp only
  split <;> simp

@[simp] theorem State.takeManual_keeps (s : State) (i : Nat) :
    s.KeepsMem (State.takeManual s i) := by
  unfold State.takeManual
  (repeat' split) <;> simp

@[simp] theorem State.boundary_keeps (s : State) (i : Nat) :
    s.KeepsMem (State.boundary s i) := by
  unfold State.boundary
  (repeat' split) <;> simp

@[simp] theorem State.clearSticky_keeps (s : State) (i : Nat) :
    s.KeepsMem (State.clearSticky s i) := by
  unfold State.clearSticky
  (repeat' split) <;> simp

@[simp] theorem State.slotLost_keeps (s : State) (i : Nat) :
    s.KeepsMem (State.slotLost s i) := by
  unfold State.slotLost
  (repeat' split) <;> simp

@[simp] theorem State.moveToSpare_keeps (s : State) (i : Nat) :
    s.KeepsMem (State.moveToSpare s i).1 := by
  unfold State.moveToSpare
  (repeat' split) <;> simp

/-- A slot that passes moves the clocks, sends what is due and takes up what port receive held; memory stays canonical. -/
theorem State.tick_kw (s : State) : ({ s with clk := s.clk.tick s.steerSteps } : State).KeepsWf s.tick := by
  unfold State.tick
  dsimp only
  refine State.KeepsWf.trans (State.KeepsMem.kw ?_) (State.rxDrain_kw _)
  refine State.KeepsMem.trans ?_ (State.each_from (State.each_keeps _ _ _ (fun s i => State.standIns_keeps _ _ _ _)) _ _ (fun s k => State.arrive_keeps _ _))
  split
  · exact State.transmit_keeps _ _
  · simp

@[simp] theorem State.setTracker_keeps (s : State) (k st : Nat) :
    s.KeepsMem (State.setTracker s k st) := by
  unfold State.setTracker
  (repeat' split) <;> simp

@[simp] theorem State.setFreq_keeps (s : State) (k : Nat) (f : Rat) :
    s.KeepsMem (State.setFreq s k f) := by
  unfold State.setFreq
  (repeat' split) <;> simp

@[simp] theorem State.chirp_keeps (s : State) (k : Nat) (f low : Rat) :
    s.KeepsMem (State.chirp s k f low) := by
  unfold State.chirp
  (repeat' split) <;> simp

@[simp] theorem State.setAdmitted_keeps (s : State) (k : Nat) (ok : Bool) :
    s.KeepsMem (State.setAdmitted s k ok) := by
  unfold State.setAdmitted
  (repeat' split) <;> simp

@[simp] theorem State.decideAdmission_keeps (s : State) (k : Nat) (anew : Bool) :
    s.KeepsMem (State.decideAdmission s k anew) := by
  unfold State.decideAdmission
  (repeat' split) <;> simp

@[simp] theorem State.excite_keeps (s : State) (k : Nat) :
    s.KeepsMem (State.excite s k) := by
  unfold State.excite
  (repeat' split) <;> simp

@[simp] theorem State.startAgain_keeps (s : State) (k : Nat) :
    s.KeepsMem (State.startAgain s k) := by
  unfold State.startAgain
  simp

@[simp] theorem State.restartRequired_keeps (s : State) (k : Nat) :
    s.KeepsMem (State.restartRequired s k) := by
  unfold State.restartRequired
  dsimp only
  (repeat' split) <;> simp

@[simp] theorem State.pullIn_keeps (s : State) (k : Nat) (m : RingMeas) :
    s.KeepsMem (State.pullIn s k m) := by
  unfold State.pullIn
  (repeat' split) <;> simp

@[simp] theorem State.startFailed_keeps (s : State) (k : Nat) :
    s.KeepsMem (State.startFailed s k) := by
  unfold State.startFailed
  (repeat' split) <;> simp

@[simp] theorem State.releaseAxis_keeps (s : State) (k : Nat) :
    s.KeepsMem (State.releaseAxis s k) := by
  unfold State.releaseAxis
  (repeat' split) <;> simp

@[simp] theorem State.followG0_keeps (s : State) (k : Nat) :
    s.KeepsMem (State.followG0 s k) := by
  unfold State.followG0
  (repeat' split) <;> simp

@[simp] theorem State.trackPhase_keeps (s : State) (k : Nat) :
    s.KeepsMem (State.trackPhase s k) := by
  unfold State.trackPhase
  (repeat' split) <;> simp

@[simp] theorem State.trackFree_keeps (s : State) (k : Nat) (lag : Rat) :
    s.KeepsMem (State.trackFree s k lag) := by
  unfold State.trackFree
  (repeat' split) <;> simp

@[simp] theorem State.evalP3_keeps (s : State) (k : Nat) (lag : Rat) :
    s.KeepsMem (State.evalP3 s k lag) := by
  unfold State.evalP3
  (repeat' split) <;> simp

@[simp] theorem State.evalP2_keeps (s : State) (k : Nat) :
    s.KeepsMem (State.evalP2 s k) := by
  unfold State.evalP2
  (repeat' split) <;> simp

@[simp] theorem State.track_keeps (s : State) (k : Nat) (lag : Rat) :
    s.KeepsMem (State.track s k lag) := by
  unfold State.track
  (repeat' split) <;> simp

@[simp] theorem State.countAmp_keeps (s : State) (k : Nat) :
    s.KeepsMem (State.countAmp s k) := by
  unfold State.countAmp
  (repeat' split) <;> simp

@[simp] theorem State.setModel_keeps (s : State) (k st : Nat) :
    s.KeepsMem (State.setModel s k st) := by
  unfold State.setModel
  (repeat' split) <;> simp

@[simp] theorem State.publishModel_keeps (s : State) (k : Nat) :
    s.KeepsMem (State.publishModel s k) := by
  unfold State.publishModel
  (repeat' split) <;> simp

@[simp] theorem State.showAsymmetry_keeps (s : State) (k : Nat) (mid : Rat) :
    s.KeepsMem (State.showAsymmetry s k mid) := by
  unfold State.showAsymmetry
  (repeat' split) <;> simp

@[simp] theorem State.seedModel_keeps (s : State) (k : Nat) (fwd : Bool) (mid dt hp : Rat) :
    s.KeepsMem (State.seedModel s k fwd mid dt hp) := by
  unfold State.seedModel
  (repeat' split) <;> simp

@[simp] theorem State.rejectPair_keeps (s : State) (k : Nat) (mid : Rat) :
    s.KeepsMem (State.rejectPair s k mid) := by
  unfold State.rejectPair
  (repeat' split) <;> simp

@[simp] theorem State.updateModel_keeps (s : State) (k : Nat) (mid dt hpraw c2 : Rat) :
    s.KeepsMem (State.updateModel s k mid dt hpraw c2) := by
  unfold State.updateModel
  (repeat' split) <;> simp

@[simp] theorem State.takePair_keeps (s : State) (k : Nat) (fwd : Bool) (mid dt hp : Rat) :
    s.KeepsMem (State.takePair s k fwd mid dt hp) := by
  unfold State.takePair
  dsimp only
  (repeat' split) <;> simp

@[simp] theorem State.closeBow_keeps (s : State) (k : Nat) :
    s.KeepsMem (State.closeBow s k) := by
  unfold State.closeBow
  (repeat' split) <;> simp

@[simp] theorem State.closeLedger_keeps (s : State) (k : Nat) :
    s.KeepsMem (State.closeLedger s k) := by
  unfold State.closeLedger
  dsimp only
  (repeat' split) <;> simp

@[simp] theorem State.nextBow_keeps (s : State) (k : Nat) :
    s.KeepsMem (State.nextBow s k) := by
  unfold State.nextBow
  (repeat' split) <;> simp

@[simp] theorem State.frameBow_keeps (s : State) (k : Nat) :
    s.KeepsMem (State.frameBow s k) := by
  unfold State.frameBow
  (repeat' split) <;> simp

@[simp] theorem State.capoDefaults_keeps (s : State) :
    s.KeepsMem (State.capoDefaults s) := by
  unfold State.capoDefaults
  (repeat' split) <;> simp

@[simp] theorem State.countTrip_keeps (s : State) (k t : Nat) :
    s.KeepsMem (State.countTrip s k t) := by
  unfold State.countTrip
  (repeat' split) <;> simp

@[simp] theorem State.trip_keeps (s : State) (k t : Nat) :
    s.KeepsMem (State.trip s k t) := by
  unfold State.trip
  (repeat' split) <;> simp

@[simp] theorem State.capoRelease_keeps (s : State) (k : Nat) (stopped : Bool) :
    s.KeepsMem (State.capoRelease s k stopped) := by
  unfold State.capoRelease
  (repeat' split) <;> simp

@[simp] theorem State.capoFaultNow_keeps (s : State) :
    s.KeepsMem (State.capoFaultNow s) := by
  unfold State.capoFaultNow
  (repeat' split) <;> simp

@[simp] theorem State.scanMiss_keeps (s : State) (k t : Nat) :
    s.KeepsMem (State.scanMiss s k t) := by
  unfold State.scanMiss
  (repeat' split) <;> simp

@[simp] theorem State.excursionBegins_keeps (s : State) (k t : Nat) (positive : Bool) :
    s.KeepsMem (State.excursionBegins s k t positive) := by
  unfold State.excursionBegins
  dsimp only
  (repeat' split) <;> simp

@[simp] theorem State.excursionEnds_keeps (s : State) (k t : Nat) :
    s.KeepsMem (State.excursionEnds s k t) := by
  unfold State.excursionEnds
  dsimp only
  (repeat' split) <;> simp

@[simp] theorem State.keepTrips_keeps (s : State) (k kept : Nat) :
    s.KeepsMem (State.keepTrips s k kept) := by
  unfold State.keepTrips
  (repeat' split) <;> simp

@[simp] theorem State.rearm_keeps (s : State) (mask : Nat) :
    s.KeepsMem (State.rearm s mask).1 := by
  unfold State.rearm
  dsimp only
  (repeat' split) <;> simp

@[simp] theorem State.cutLedger_keeps (s : State) (bh cause0 k : Nat) :
    s.KeepsMem (State.cutLedger s bh cause0 k) := by
  unfold State.cutLedger
  dsimp only
  (repeat' split) <;> simp

@[simp] theorem State.dropSpan_keeps (s : State) (b l : Nat) :
    s.KeepsMem (State.dropSpan s b l) := by
  unfold State.dropSpan
  (repeat' split) <;> simp

@[simp] theorem State.retrainRefresh_keeps (s : State) (k : Nat) :
    s.KeepsMem (State.retrainRefresh s k) := by
  unfold State.retrainRefresh
  (repeat' split) <;> simp

@[simp] theorem State.offer_keeps (s : State) (kind : SpareKind) (unit : Nat) (worn : Bool) :
    s.KeepsMem (State.offer s kind unit worn) := by
  unfold State.offer
  (repeat' split) <;> simp

@[simp] theorem State.laneRefresh_keeps (s : State) (l : Nat) :
    s.KeepsMem (State.laneRefresh s l) := by
  unfold State.laneRefresh
  (repeat' split) <;> simp

@[simp] theorem State.laneFailed_keeps (s : State) (l : Nat) :
    s.KeepsMem (State.laneFailed s l) := by
  unfold State.laneFailed
  (repeat' split) <;> simp

@[simp] theorem State.spanLost_keeps (s : State) (l : Nat) :
    s.KeepsMem (State.spanLost s l) := by
  unfold State.spanLost
  (repeat' split) <;> simp

@[simp] theorem State.enterRetrain_keeps (s0 : State) (l cls : Nat) :
    s0.KeepsMem (State.enterRetrain s0 l cls) := by
  unfold State.enterRetrain
  (repeat' split) <;> simp

@[simp] theorem State.takeLatency_keeps (s : State) (l lfar : Nat) :
    s.KeepsMem (State.takeLatency s l lfar) := by
  unfold State.takeLatency
  (repeat' split) <;> simp

@[simp] theorem State.laneUp_keeps (s0 : State) (l lfar : Nat) :
    s0.KeepsMem (State.laneUp s0 l lfar) := by
  unfold State.laneUp
  (repeat' split) <;> simp

@[simp] theorem State.retInvalid_keeps (s : State) (k : Nat) :
    s.KeepsMem (State.retInvalid s k) := by
  unfold State.retInvalid
  (repeat' split) <;> simp

@[simp] theorem State.retBlock_keeps (s : State) (k seq : Nat) :
    s.KeepsMem (State.retBlock s k seq) := by
  unfold State.retBlock
  (repeat' split) <;> simp

@[simp] theorem State.retTaken_keeps (s : State) (k wire : Nat) :
    s.KeepsMem (State.retTaken s k wire) := by
  unfold State.retTaken
  (repeat' split) <;> simp

@[simp] theorem State.onRet_keeps (s : State) (k type wire : Nat) (f : State → Nat → State)
    (h : ∀ (s : State) p, s.KeepsMem (f s p)) : s.KeepsMem (s.onRet k type wire f) := by
  unfold State.onRet
  dsimp only
  (repeat' split)
  · simp
  · exact State.KeepsMem.trans (by simp) (h _ _)
  · simp

@[simp] theorem State.takeStatus_keeps (s : State) (k p : Nat) :
    s.KeepsMem (State.takeStatus s k p) := by
  unfold State.takeStatus
  (repeat' split) <;> simp

@[simp] theorem State.noteReporter_keeps (s : State) (k l : Nat) :
    s.KeepsMem (State.noteReporter s k l) := by
  unfold State.noteReporter
  (repeat' split) <;> simp

@[simp] theorem State.takeLane_keeps (s0 : State) (k p : Nat) :
    s0.KeepsMem (State.takeLane s0 k p) := by
  unfold State.takeLane
  (repeat' split) <;> simp

@[simp] theorem State.takeErrors_keeps (s : State) (p : Nat) :
    s.KeepsMem (State.takeErrors s p) := by
  unfold State.takeErrors
  (repeat' split) <;> simp

@[simp] theorem State.takeIdent_keeps (s : State) (k p : Nat) :
    s.KeepsMem (State.takeIdent s k p) := by
  unfold State.takeIdent
  (repeat' split) <;> simp

@[simp] theorem State.takeFault_keeps (s : State) (k p : Nat) :
    s.KeepsMem (State.takeFault s k p) := by
  unfold State.takeFault
  (repeat' split) <;> simp

@[simp] theorem State.retrainCommand_keeps (s : State) (l : Nat) :
    s.KeepsMem (State.retrainCommand s l).1 := by
  unfold State.retrainCommand
  (repeat' split) <;> simp

@[simp] theorem State.putCopy_keeps (s : State) (mesh copy : Nat) (c : MeshCopy) :
    s.KeepsMem (State.putCopy s mesh copy c) := by
  unfold State.putCopy
  (repeat' split) <;> simp

@[simp] theorem State.writeCopy_keeps (s : State) (mesh copy : Nat) (blob : List Byte) (disp : List (Nat × Int × Int)) :
    s.KeepsMem (State.writeCopy s mesh copy blob disp) := by
  unfold State.writeCopy
  (repeat' split) <;> simp

@[simp] theorem State.writeMesh_keeps (s : State) (mesh : Nat) (blob : List Byte) (disp : List (Nat × Int × Int)) :
    s.KeepsMem (State.writeMesh s mesh blob disp) := by
  unfold State.writeMesh
  (repeat' split) <;> simp

@[simp] theorem State.releaseHeldMeshes_keeps (s : State) (k : Nat) :
    s.KeepsMem (State.releaseHeldMeshes s k) := by
  unfold State.releaseHeldMeshes
  exact State.foldl_keeps _ (fun s x => by dsimp only; (repeat' split) <;> simp) _ _

@[simp] theorem State.useMatrix_keeps (s : State) (k counter : Nat) (m : MatrixSt) :
    s.KeepsMem (State.useMatrix s k counter m) := by
  unfold State.useMatrix
  (repeat' split) <;> simp

@[simp] theorem State.noteWear_keeps (s : State) (l : Nat) :
    s.KeepsMem (State.noteWear s l) := by
  unfold State.noteWear
  (repeat' split) <;> simp

@[simp] theorem State.acquire_keeps (s : State) (l : Nat) :
    s.KeepsMem (State.acquire s l) := by
  unfold State.acquire
  (repeat' split) <;> simp

@[simp] theorem State.emitterOut_keeps (s : State) (l : Nat) :
    s.KeepsMem (State.emitterOut s l) := by
  unfold State.emitterOut
  (repeat' split) <;> simp

@[simp] theorem State.emitterIn_keeps (s : State) (l : Nat) :
    s.KeepsMem (State.emitterIn s l) := by
  unfold State.emitterIn
  (repeat' split) <;> simp

@[simp] theorem State.inputChanges_keeps (s : State) (k : Nat) :
    s.KeepsMem (State.inputChanges s k) := by
  unfold State.inputChanges
  (repeat' split) <;> simp

@[simp] theorem State.acceptHarmonic_keeps (s : State) (k l : Nat) (m : Rat) :
    s.KeepsMem (State.acceptHarmonic s k l m) := by
  unfold State.acceptHarmonic
  (repeat' split) <;> simp

@[simp] theorem State.rejectHarmonic_keeps (s : State) (l : Nat) :
    s.KeepsMem (State.rejectHarmonic s l) := by
  unfold State.rejectHarmonic
  (repeat' split) <;> simp

@[simp] theorem State.takeRecord_keeps (s : State) (k : Nat) (r : HarmonicRec) :
    s.KeepsMem (State.takeRecord s k r) := by
  unfold State.takeRecord
  (repeat' split) <;> simp

@[simp] theorem State.gainPersist_keeps (s : State) :
    s.KeepsMem (State.gainPersist s) := by
  unfold State.gainPersist
  (repeat' split) <;> simp

@[simp] theorem State.putKey_keeps (s : State) (key : Nat) (v : Val) :
    s.KeepsMem (State.putKey s key v) := by
  unfold State.putKey
  (repeat' split) <;> simp

@[simp] theorem State.moveString_keeps (s : State) (i : Nat) :
    s.KeepsMem (State.moveString s i) := by
  unfold State.moveString
  (repeat' split) <;> simp

@[simp] theorem State.flipsDecided_keeps (s : State) (k c : Nat) :
    s.KeepsMem (State.flipsDecided s k c) := by
  unfold State.flipsDecided
  (repeat' split) <;> simp

@[simp] theorem State.previewBare_keeps (s : State) (k : Nat) :
    s.KeepsMem (State.previewBare s k) := by
  unfold State.previewBare
  (repeat' split) <;> simp

@[simp] theorem State.preview_keeps (s : State) (k : Nat) :
    s.KeepsMem (State.preview s k) := by
  unfold State.preview
  dsimp only
  (repeat' split) <;> simp

@[simp] theorem State.decideSpare_keeps (s : State) (k i : Nat) :
    s.KeepsMem (State.decideSpare s k i) := by
  unfold State.decideSpare
  (repeat' split) <;> simp

@[simp] theorem State.decideSpares_keeps (s : State) (k : Nat) :
    s.KeepsMem (State.decideSpares s k) := by
  unfold State.decideSpares
  (repeat' split) <;> simp

@[simp] theorem State.decideMatrix_keeps (s : State) (k : Nat) :
    s.KeepsMem (State.decideMatrix s k) := by
  unfold State.decideMatrix
  (repeat' split) <;> simp

@[simp] theorem State.decideMesh_keeps (s : State) (k : Nat) :
    s.KeepsMem (State.decideMesh s k) := by
  unfold State.decideMesh
  dsimp only
  (repeat' split) <;> simp

@[simp] theorem State.decideNextBuffer_keeps (s : State) (k : Nat) :
    s.KeepsMem (State.decideNextBuffer s k) := by
  unfold State.decideNextBuffer
  (repeat' split) <;> simp

@[simp] theorem State.decideFrame_keeps (s : State) (k : Nat) :
    s.KeepsMem (State.decideFrame s k) := by
  unfold State.decideFrame
  (repeat' split) <;> simp

@[simp] theorem State.frameView_keeps (s : State) (k : Nat) (next : Bool) :
    s.KeepsMem (State.frameView s k next) := by
  unfold State.frameView
  (repeat' split) <;> simp

@[simp] theorem State.releaseTiles_keeps (s : State) (k : Nat) (b : FetchBow) :
    s.KeepsMem (State.releaseTiles s k b) := by
  unfold State.releaseTiles
  (repeat' split) <;> simp

@[simp] theorem State.refreshWater_keeps (s : State) (k : Nat) :
    s.KeepsMem (State.refreshWater s k) := by
  unfold State.refreshWater
  (repeat' split) <;> simp

@[simp] theorem State.poisonTile_keeps (s : State) (k tile : Nat) :
    s.KeepsMem (State.poisonTile s k tile) := by
  unfold State.poisonTile
  (repeat' split) <;> simp

@[simp] theorem State.retireBank_keeps (s : State) (k bank : Nat) :
    s.KeepsMem (State.retireBank s k bank) := by
  unfold State.retireBank
  (repeat' split) <;> simp

@[simp] theorem State.retireOne_keeps (k : Nat) (s : State) (bank : Nat) :
    s.KeepsMem (State.retireOne k s bank) := by
  unfold State.retireOne
  (repeat' split) <;> simp

@[simp] theorem State.retireBanks_keeps (s : State) (k : Nat) :
    s.KeepsMem (State.retireBanks s k) := by
  unfold State.retireBanks
  (repeat' split) <;> simp

@[simp] theorem State.toStreams_keeps (s : State) (k content : Nat) (rec_ : List Byte) :
    s.KeepsMem (s.toStreams k content rec_) := by
  unfold State.toStreams
  refine State.each_keeps _ _ _ (fun s x => ?_)
  generalize s.hasCredit (useStream x) = c
  cases c <;> simp

@[simp] theorem State.sendPacket_keeps (s : State) (i unit total : Nat) (poisoned : Bool) (p : Nat × List Byte) :
    s.KeepsMem (State.sendPacket s i unit total poisoned p) := by
  unfold State.sendPacket
  (repeat' split) <;> simp

@[simp] theorem State.streamDone_keeps (s : State) (i tag status written unit : Nat) :
    s.KeepsMem (State.streamDone s i tag status written unit) := by
  unfold State.streamDone
  (repeat' split) <;> simp

@[simp] theorem State.sendUnit_keeps (s : State) (i : Nat) (b : List Byte) (poisoned : Bool) :
    s.KeepsMem (State.sendUnit s i b poisoned) := by
  unfold State.sendUnit
  dsimp only
  (repeat' split) <;> simp

@[simp] theorem State.streamFlush_keeps (s : State) (i : Nat) :
    s.KeepsMem (State.streamFlush s i) := by
  unfold State.streamFlush
  dsimp only
  (repeat' split) <;> simp

@[simp] theorem State.takeSamples_keeps (s : State) (k x : Nat) (r : SampleRun) :
    s.KeepsMem (State.takeSamples s k x r) := by
  unfold State.takeSamples
  (repeat' split) <;> simp

@[simp] theorem State.showDark_keeps (s : State) (k bow dark8 : Nat) :
    s.KeepsMem (State.showDark s k bow dark8) := by
  unfold State.showDark
  (repeat' split) <;> simp

theorem ite_capt_keeps (s : State) (c : Bool) (k q : Nat) (a b : CaptSt) :
    s.KeepsMem (if c then (s.captPut k a).queuePush q else s.captPut k b) := by
  cases c
  · exact State.captPut_keeps _ _ _
  · exact State.KeepsMem.trans (State.captPut_keeps _ _ _) (State.queuePush_keeps _ _)

@[simp] theorem State.toFirmware_keeps (s : State) (k : Nat) (r : HarmonicRec) :
    s.KeepsMem (s.toFirmware k r) := by
  unfold State.toFirmware
  exact ite_capt_keeps _ _ _ _ _ _

@[simp] theorem State.deliver_keeps (s : State) (k : Nat) (b : PlacedBow) (frets : List (List Nat)) (dark8 : Nat)
    (l : List (PlacedHarmonic × Nat)) : s.KeepsMem (s.deliver k b frets dark8 l) := by
  induction l generalizing s with
  | nil => simp [State.deliver]
  | cons h r ih =>
    unfold State.deliver
    refine State.KeepsMem.trans (State.KeepsMem.trans (State.KeepsMem.trans ?_ (State.toFirmware_keeps _ _ _))
      (State.toStreams_keeps _ _ _ _)) (ih _)
    split <;> simp

@[simp] theorem State.mergeRow_keeps (s : State) (r : StagedRow) :
    s.KeepsMem (State.mergeRow s r) := by
  unfold State.mergeRow
  (repeat' split) <;> simp

@[simp] theorem State.mergeArrived_keeps (s : State) :
    s.KeepsMem (State.mergeArrived s) := by
  unfold State.mergeArrived
  (repeat' split) <;> simp

@[simp] theorem State.stageRow_keeps (s : State) (x : Nat) (r : StagedRow) (slots : Nat) :
    s.KeepsMem (State.stageRow s x r slots) := by
  unfold State.stageRow
  (repeat' split) <;> simp

@[simp] theorem State.addProbe_keeps (s : State) (k l : Nat) (reverse : Bool) (v speed : Rat) :
    s.KeepsMem (State.addProbe s k l reverse v speed) := by
  unfold State.addProbe
  (repeat' split) <;> simp

@[simp] theorem State.takeProbe_keeps (s : State) (k x : Nat) (b : PlacedBow) (h : PlacedHarmonic) (frets : List (List Nat)) (dark8 : Nat) (samples : List (Nat × Nat)) :
    s.KeepsMem (State.takeProbe s k x b h frets dark8 samples) := by
  unfold State.takeProbe
  (repeat' split) <;> simp

@[simp] theorem State.takeDark_keeps (s : State) (k x dark8 : Nat) :
    s.KeepsMem (State.takeDark s k x dark8) := by
  unfold State.takeDark
  (repeat' split) <;> simp

@[simp] theorem State.contribute_keeps (s : State) (k x : Nat) (b : PlacedBow) (frets : List (List Nat)) (l : List (Rat × Nat))
    (dark : Option Nat) : s.KeepsMem (s.contribute k x b frets l dark) := by
  unfold State.contribute
  dsimp only
  (repeat' split) <;> simp

@[simp] theorem State.recordBow_keeps (s : State) (k x : Nat) (b : PlacedBow) : s.KeepsMem (s.recordBow k x b) := by
  have h1 : ∀ o : Option Nat, s.KeepsMem (match o with | some d => (s.showDark k x d).takeDark k x d | none => s) := by
    intro o; cases o <;> simp
  have h3 : ∀ (t : State) (c : Bool) (y : CaptSt) frets l level, s.KeepsMem t →
      s.KeepsMem (if c = true then t.captPut k y else t.contribute k x b frets l level) := by
    intro t c y frets l level h
    split
    · exact State.KeepsMem.trans h (State.captPut_keeps _ _ _)
    · exact State.KeepsMem.trans h (State.contribute_keeps _ _ _ _ _ _ _)
  unfold State.recordBow
  dsimp only
  refine State.KeepsMem.trans (h3 _ _ _ _ _ _ (State.each_from (State.KeepsMem.trans (h1 _) (State.deliver_keeps ..)) _ _ (fun s i => ?_)))
    (State.captPut_keeps _ _ _)
  split <;> simp

@[simp] theorem State.takeEvent_keeps (s : State) (k : Nat) (t : BowRecord) (h : PlacedHarmonic) (j : Nat) (f : Fiducial) :
    s.KeepsMem (s.takeEvent k t h j f) := by
  unfold State.takeEvent
  dsimp only
  refine State.KeepsMem.trans ?_ (State.toStreams_keeps _ _ _ _)
  generalize (fun q : List Byte × Nat => ((s.fiducialEvent k t h j f).1, if (s.fiducialEvent k t h j f).2.1 = true ∨ s.calibrated k = false
    then q.2 else if (s.fiducialEvent k t h j f).2.2 = true then min (q.2 + 1) 255 else 0)) = g
  (repeat' split) <;> simp

@[simp] theorem State.showSnapshot_keeps (s : State) (k : Nat) :
    s.KeepsMem (State.showSnapshot s k) := by
  unfold State.showSnapshot
  (repeat' split) <;> simp

@[simp] theorem State.bowEvents_keeps (s : State) (k : Nat) (t : BowRecord) (active : Nat) :
    s.KeepsMem (State.bowEvents s k t active) := by
  unfold State.bowEvents
  (repeat' split) <;> simp

@[simp] theorem State.showCapUse_keeps (s : State) :
    s.KeepsMem (State.showCapUse s) := by
  unfold State.showCapUse
  (repeat' split) <;> simp

@[simp] theorem State.capTake_keeps (s : State) (k n a : Nat) :
    s.KeepsMem (State.capTake s k n a) := by
  unfold State.capTake
  (repeat' split) <;> simp

theorem State.KeepsWf.capt {s t : State} (h : s.KeepsWf t) (c : Tab CaptSt) (d : Tab CStreamSt) (i : Tab InputSt) :
    s.KeepsWf { t with capt := c, cstreams := d, inputs := i } := h

theorem State.capPack_kw (s : State) : s.KeepsWf s.capPack := by
  unfold State.capPack
  dsimp only
  refine State.each_kw (State.KeepsWf.capt (t := State.dataMove s _ _) ⟨State.dataMove_keeps _ _ _, fun _ => State.dataMove_wf _ _ _⟩ _ _ _)
    _ _ (fun s k => ?_)
  generalize capIx k = i
  split
  · exact State.KeepsMem.kw (State.putN_keeps _ _ _ _)
  · exact State.KeepsMem.kw (by simp)

@[simp] theorem State.capPack_keeps (s : State) : s.Keeps s.capPack := s.capPack_kw.1

@[simp] theorem State.capPack_wf (s : State) (hw : Memory.wf s.mem.cells = true) :
    Memory.wf s.capPack.mem.cells = true := s.capPack_kw.2 hw

@[simp] theorem State.capFill_keeps (s : State) (k n : Nat) (a : Option Nat) : s.KeepsMem (s.capFill k n a) := by
  unfold State.capFill
  cases a with
  | none => exact State.showCapUse_keeps _
  | some a => exact State.KeepsMem.trans (State.capTake_keeps _ _ _ _) (State.showCapUse_keeps _)

@[simp] theorem State.capDrop_keeps (s : State) (k : Nat) :
    s.KeepsMem (State.capDrop s k) := by
  unfold State.capDrop
  (repeat' split) <;> simp

theorem State.capAlloc_kw (s : State) (k : Nat) : s.KeepsWf (s.capAlloc k) := by
  unfold State.capAlloc
  dsimp only
  have h := State.KeepsMem.kw (State.capDrop_keeps s k)
  split
  · exact State.KeepsWf.trans h (State.KeepsMem.kw (State.showCapUse_keeps _))
  · split
    · exact State.KeepsWf.trans h (State.KeepsMem.kw (State.capFill_keeps _ _ _ _))
    · exact State.KeepsWf.trans h (State.KeepsWf.trans (State.capPack_kw _) (State.KeepsMem.kw (State.capFill_keeps _ _ _ _)))

@[simp] theorem State.capAlloc_keeps (s : State) (k : Nat) : s.Keeps (s.capAlloc k) := (s.capAlloc_kw k).1

@[simp] theorem State.capAlloc_wf (s : State) (k : Nat) (hw : Memory.wf s.mem.cells = true) :
    Memory.wf (s.capAlloc k).mem.cells = true := (s.capAlloc_kw k).2 hw

@[simp] theorem State.modCap_keeps (s : State) (k b : Nat) (f : CapBuf → CapBuf) :
    s.KeepsMem (State.modCap s k b f) := by
  unfold State.modCap
  (repeat' split) <;> simp

@[simp] theorem State.freeReady_keeps (s : State) (k b : Nat) :
    s.KeepsMem (State.freeReady s k b) := by
  unfold State.freeReady
  (repeat' split) <;> simp

@[simp] theorem State.takeCap_keeps (s : State) (k b base : Nat) :
    s.KeepsMem (State.takeCap s k b base) := by
  unfold State.takeCap
  (repeat' split) <;> simp

theorem State.capReady_kw (s : State) (k b : Nat) (x : CapBuf) (f : CapFrame) :
    s.KeepsWf (s.capReady k b x f) := by
  unfold State.capReady
  dsimp only
  refine State.KeepsWf.trans (b := ((List.range f.rowCount).foldl (fun (t : State) i =>
    (t.dataWrite 35 (x.base + 64 + i * f.rowLength) (capRowBytes s.free f i)).1)
      ((({ s with free := s.free + f.rowCount * f.rowLength + 1 } : State).dataWrite 35 x.base
        (({ s with free := s.free + f.rowCount * f.rowLength + 1 } : State).capHeader k f)).1))) ?_ ?_
  · refine State.KeepsWf.trans ?_ (State.foldl_keepsWf _ (fun a p => ⟨by simp, fun hw => by simp [hw]⟩) _ _)
    exact ⟨by simp, fun hw => by simp [hw]⟩
  · split <;> exact ⟨by simp, fun hw => by simp [hw]⟩

@[simp] theorem State.capReady_keeps (s : State) (k b : Nat) (x : CapBuf) (f : CapFrame) :
    s.Keeps (State.capReady s k b x f) := (State.capReady_kw s k b x f).1

@[simp] theorem State.capReady_wf (s : State) (k b : Nat) (x : CapBuf) (f : CapFrame) (hw : Memory.wf s.mem.cells = true) :
    Memory.wf (State.capReady s k b x f).mem.cells = true := (State.capReady_kw s k b x f).2 hw

@[simp] theorem State.rowsIn_keeps (s : State) (k : Nat) :
    s.KeepsMem (State.rowsIn s k) := by
  unfold State.rowsIn
  (repeat' split) <;> simp

@[simp] theorem State.capEnd_keeps (s : State) (k : Nat) (early : Bool) :
    s.KeepsMem (State.capEnd s k early) := by
  unfold State.capEnd
  (repeat' split) <;> simp

theorem State.capRealloc_kw (s : State) (k : Nat) : s.KeepsWf (s.capRealloc k) := by
  unfold State.capRealloc
  dsimp only
  refine State.KeepsWf.trans ?_ (State.capAlloc_kw _ k)
  split
  · exact State.KeepsWf.trans ⟨by simp, fun hw => by simp [hw]⟩ (State.capReady_kw _ _ _ _ _)
  · exact ⟨by simp, fun hw => by simp [hw]⟩

@[simp] theorem State.capRealloc_keeps (s : State) (k : Nat) : s.Keeps (s.capRealloc k) := (State.capRealloc_kw s k).1

@[simp] theorem State.capRealloc_wf (s : State) (k : Nat) (hw : Memory.wf s.mem.cells = true) :
    Memory.wf (s.capRealloc k).mem.cells = true := (State.capRealloc_kw s k).2 hw

@[simp] theorem State.rebindInput_keeps (s : State) (k was : Nat) :
    s.KeepsMem (State.rebindInput s k was) := by
  unfold State.rebindInput
  dsimp only
  (repeat' split) <;> simp

@[simp] theorem State.capBegin_keeps (s : State) (k b counter : Nat) :
    s.KeepsMem (State.capBegin s k b counter) := by
  unfold State.capBegin
  (repeat' split) <;> simp

@[simp] theorem State.captureEnd_keeps (s : State) (k : Nat) : s.KeepsMem (s.captureEnd k) := by
  unfold State.captureEnd
  dsimp only
  (repeat' split) <;> simp

@[simp] theorem State.captureBegin_keeps (s : State) (k counter : Nat) :
    s.KeepsMem (State.captureBegin s k counter) := by
  unfold State.captureBegin
  (repeat' split) <;> simp

@[simp] theorem State.capMark_keeps (s : State) (k : Nat) :
    s.KeepsMem (State.capMark s k) := by
  unfold State.capMark
  (repeat' split) <;> simp

@[simp] theorem State.capRelease_keeps (s : State) (k b c : Nat) :
    s.KeepsMem (State.capRelease s k b c) := by
  unfold State.capRelease
  dsimp only
  (repeat' split) <;> simp

@[simp] theorem State.refineDrop_keeps (s : State) (k : Nat) :
    s.KeepsMem (State.refineDrop s k) := by
  unfold State.refineDrop
  (repeat' split) <;> simp

@[simp] theorem State.holdFinish_keeps (s : State) :
    s.KeepsMem (State.holdFinish s) := by
  unfold State.holdFinish
  (repeat' split) <;> simp

@[simp] theorem State.dieStops_keeps (s : State) (z cause : Nat) :
    s.KeepsMem (State.dieStops s z cause) := by
  unfold State.dieStops
  (repeat' split) <;> simp

theorem State.dieShutdown_kw (s : State) (z cause : Nat) : s.KeepsWf (s.dieShutdown z cause) := by
  have cut : ∀ t : State, s.KeepsMem t → s.KeepsWf { t with
      capo := { t.capo with emitOk := s.capo.emitOk, shutLatch := true }
      pwr := { t.pwr with thermtrip := true, entering := false, exiting := false, litAfter := false }
      store := storeCut t.store
      pegs := []
      chans := []
      mem := { t.mem with chanMiB := 0, cells := [], poison := [], waiting := [], dueOrder := [] } } :=
    fun t h => ⟨by simp_all, fun _ => nil_wf⟩
  unfold State.dieShutdown
  split
  · simp
  · exact cut _ (State.dieStops_keeps s z cause)

@[simp] theorem State.dieShutdown_keeps (s : State) (z cause : Nat) :
    s.Keeps (State.dieShutdown s z cause) := (State.dieShutdown_kw s z cause).1

@[simp] theorem State.dieShutdown_wf (s : State) (z cause : Nat) (hw : Memory.wf s.mem.cells = true) :
    Memory.wf (State.dieShutdown s z cause).mem.cells = true := (State.dieShutdown_kw s z cause).2 hw

@[simp] theorem State.dieSummary_keeps (s : State) :
    s.KeepsMem (State.dieSummary s) := by
  unfold State.dieSummary
  (repeat' split) <;> simp

@[simp] theorem State.zoneUpdate_keeps (s : State) (z : Nat) :
    s.Keeps (State.zoneUpdate s z) := by
  unfold State.zoneUpdate
  (repeat' split) <;> simp

@[simp] theorem State.zoneUpdate_wf (s : State) (z : Nat) (hw : Memory.wf s.mem.cells = true) :
    Memory.wf (State.zoneUpdate s z).mem.cells = true := by
  unfold State.zoneUpdate
  (repeat' split) <;> simp [hw]

@[simp] theorem State.dieSample_keeps (s : State) (i : Nat) (c : Conversion) :
    s.Keeps (State.dieSample s i c) := by
  unfold State.dieSample
  (repeat' split) <;> simp

@[simp] theorem State.dieSample_wf (s : State) (i : Nat) (c : Conversion) (hw : Memory.wf s.mem.cells = true) :
    Memory.wf (State.dieSample s i c).mem.cells = true := by
  unfold State.dieSample
  (repeat' split) <;> simp [hw]

@[simp] theorem State.laserSummary_keeps (s : State) :
    s.KeepsMem (State.laserSummary s) := by
  unfold State.laserSummary
  (repeat' split) <;> simp

@[simp] theorem State.laserUpdate_keeps (s : State) (k : Nat) :
    s.KeepsMem (State.laserUpdate s k) := by
  unfold State.laserUpdate
  (repeat' split) <;> simp

@[simp] theorem State.extSample_keeps (s : State) (e : Nat) (c : Conversion) :
    s.KeepsMem (State.extSample s e c) := by
  unfold State.extSample
  (repeat' split) <;> simp

@[simp] theorem State.storeSample_keeps (s : State) (c : Conversion) :
    s.KeepsMem (State.storeSample s c) := by
  unfold State.storeSample
  (repeat' split) <;> simp

@[simp] theorem State.sampleSensor_keeps (s : State) (x : Sensor) (c : Conversion) :
    s.Keeps (State.sampleSensor s x c) := by
  unfold State.sampleSensor
  (repeat' split) <;> simp

@[simp] theorem State.sampleSensor_wf (s : State) (x : Sensor) (c : Conversion) (hw : Memory.wf s.mem.cells = true) :
    Memory.wf (State.sampleSensor s x c).mem.cells = true := by
  unfold State.sampleSensor
  (repeat' split) <;> simp [hw]

@[simp] theorem State.laserRearm_keeps (s : State) (mask : Nat) :
    s.KeepsMem (State.laserRearm s mask).1 := by
  unfold State.laserRearm
  (repeat' split) <;> simp

@[simp] theorem State.putLive_keeps (s : State) (index sub : Nat) (v : Val) :
    s.KeepsMem (State.putLive s index sub v) := by
  unfold State.putLive
  (repeat' split) <;> simp

@[simp] theorem State.setLiveOf_keeps (s : State) (key : Nat) (v : Val) :
    s.KeepsMem (State.setLiveOf s key v) := by
  unfold State.setLiveOf
  (repeat' split) <;> simp

@[simp] theorem State.pegRefresh_keeps (s : State) (p : Nat) :
    s.KeepsMem (State.pegRefresh s p) := by
  unfold State.pegRefresh
  (repeat' split) <;> simp

@[simp] theorem State.pegsRefresh_keeps (s : State) :
    s.KeepsMem (State.pegsRefresh s) := by
  unfold State.pegsRefresh
  (repeat' split) <;> simp

@[simp] theorem State.pegLoad_keeps (s : State) (ps : List Nat) :
    s.KeepsMem (State.pegLoad s ps) := by
  unfold State.pegLoad
  (repeat' split) <;> simp

@[simp] theorem State.pegsFirst_keeps (s : State) :
    s.KeepsMem (State.pegsFirst s) := by
  unfold State.pegsFirst
  (repeat' split) <;> simp

@[simp] theorem State.domainLoad_keeps (s : State) (d : Nat) :
    s.KeepsMem (State.domainLoad s d) := by
  unfold State.domainLoad
  exact State.each_keeps _ _ _ (fun s x => by (repeat' split) <;> simp)

@[simp] theorem State.domainFrame_keeps (s : State) (d k : Nat) :
    s.KeepsMem (State.domainFrame s d k) := by
  unfold State.domainFrame
  (repeat' split) <;> simp

@[simp] theorem State.evaluate_keeps (s : State) (d : Nat) :
    s.KeepsMem (State.evaluate s d) := by
  unfold State.evaluate
  dsimp only
  (repeat' split) <;> simp

@[simp] theorem State.runCheck_keeps (s : State) (d : Nat) :
    s.KeepsMem (State.runCheck s d) := by
  unfold State.runCheck
  (repeat' split) <;> simp

@[simp] theorem State.runTemp_keeps (s : State) (d : Nat) :
    s.KeepsMem (State.runTemp s d) := by
  unfold State.runTemp
  (repeat' split) <;> simp

@[simp] theorem State.domainSample_keeps (s : State) (d : Nat) :
    s.KeepsMem (State.domainSample s d) := by
  unfold State.domainSample
  (repeat' split) <;> simp

@[simp] theorem State.delayKnown_keeps (s : State) (d : Nat) (rs : List (Nat × Nat × Nat)) :
    s.KeepsMem (State.delayKnown s d rs) := by
  unfold State.delayKnown
  (repeat' split) <;> simp

@[simp] theorem State.pointApplied_keeps (s : State) (d i : Nat) (b : List Byte) :
    s.KeepsMem (State.pointApplied s d i b) := by
  unfold State.pointApplied
  (repeat' split) <;> simp

@[simp] theorem State.runCommand_keeps (s : State) (mask : Nat) :
    s.KeepsMem (State.runCommand s mask) := by
  unfold State.runCommand
  (repeat' split) <;> simp

@[simp] theorem State.runPoint_keeps (s : State) (d : Nat) (t : Rat) (ms : List Measured) :
    s.KeepsMem (State.runPoint s d t ms) := by
  unfold State.runPoint
  (repeat' split) <;> simp

@[simp] theorem State.runRho_keeps (s : State) (k l : Nat) (h : Rat) :
    s.KeepsMem (State.runRho s k l h) := by
  unfold State.runRho
  (repeat' split) <;> simp

@[simp] theorem State.runAdvance_keeps (s : State) (k : Nat) :
    s.KeepsMem (State.runAdvance s k) := by
  unfold State.runAdvance
  (repeat' split) <;> simp

@[simp] theorem State.runGives_keeps (s : State) (k : Nat) (ms : List Measured) :
    s.KeepsMem (State.runGives s k ms) := by
  unfold State.runGives
  (repeat' split) <;> simp

@[simp] theorem State.runMove_keeps (s : State) (k p : Nat) (by_ : Int) :
    s.KeepsMem (State.runMove s k p by_) := by
  unfold State.runMove
  (repeat' split) <;> simp

@[simp] theorem State.runDarkStep_keeps (s : State) (k x : Nat) :
    s.KeepsMem (State.runDarkStep s k x) := by
  unfold State.runDarkStep
  (repeat' split) <;> simp

@[simp] theorem State.runBridgeStep_keeps (s : State) (k : Nat) :
    s.KeepsMem (State.runBridgeStep s k) := by
  unfold State.runBridgeStep
  (repeat' split) <;> simp

@[simp] theorem State.runProbeStep_keeps (s : State) (k : Nat) :
    s.KeepsMem (State.runProbeStep s k) := by
  unfold State.runProbeStep
  (repeat' split) <;> simp

@[simp] theorem State.runStep_keeps (s : State) (k : Nat) : s.KeepsMem (s.runStep k) := by
  unfold State.runStep
  dsimp only
  (repeat' split) <;> simp

@[simp] theorem State.runEnd_keeps (s : State) (k : Nat) :
    s.KeepsMem (State.runEnd s k) := by
  unfold State.runEnd
  (repeat' split) <;> simp

@[simp] theorem State.fillBuckets_keeps (s : State) (k : Nat) :
    s.KeepsMem (State.fillBuckets s k) := by
  unfold State.fillBuckets
  (repeat' split) <;> simp

@[simp] theorem State.takeBand_keeps (s : State) (k : Nat) (m : FretMap) (bridge forward : Bool) (active : Nat) (forced : Bool) :
    s.KeepsMem (State.takeBand s k m bridge forward active forced).1 := by
  unfold State.takeBand
  (repeat' split) <;> simp

@[simp] theorem State.takeHarmonics_keeps (s : State) (k : Nat) (m : FretMap) (forward : Bool) (active : Nat) :
    s.KeepsMem (State.takeHarmonics s k m forward active).1 := by
  unfold State.takeHarmonics
  (repeat' split) <;> simp

@[simp] theorem State.placeLane_keeps (k : Nat) (sn : Snapshot) (c : Rat) (forward : Bool) (m : FretMap)
    (levels : List (Nat × List Nat)) (acc : State × List LanePlan × List PlacedHarmonic) (str : Nat) :
    acc.1.KeepsMem (State.placeLane k sn c forward m levels acc str).1 := by
  unfold State.placeLane
  dsimp only
  split <;> simp

@[simp] theorem State.loseModel_keeps (s : State) (k m : Nat) :
    s.KeepsMem (State.loseModel s k m) := by
  unfold State.loseModel
  (repeat' split) <;> simp

@[simp] theorem State.placeActive_keeps (s : State) (k m : Nat) (forward : Bool) (i : Nat) (sn : Snapshot) (map : FretMap) (c : Rat) :
    s.KeepsMem (State.placeActive s k m forward i sn map c).1 := by
  unfold State.placeActive
  dsimp only
  refine State.KeepsMem.trans ?_ (State.foldl_fst_keeps _ (fun a x => State.placeLane_keeps _ _ _ _ _ _ a x) _ _)
  split <;> simp

@[simp] theorem State.placeNext_keeps (s0 : State) (k : Nat) :
    s0.KeepsMem (State.placeNext s0 k) := by
  unfold State.placeNext
  dsimp only
  (repeat' split) <;> simp

@[simp] theorem State.sendSpan_keeps (s : State) (b : PlacedBow) (p : LanePlan) :
    s.KeepsMem (State.sendSpan s b p) := by
  unfold State.sendSpan
  (repeat' split) <;> simp

@[simp] theorem State.countSpan_keeps (s : State) (k : Nat) (cut : Option Nat) (p : LanePlan) :
    s.KeepsMem (State.countSpan s k cut p) := by
  unfold State.countSpan
  (repeat' split) <;> simp

@[simp] theorem State.countBow_keeps (s : State) (k : Nat) (cut : Option Nat) : s.KeepsMem (s.countBow k cut) := by
  unfold State.countBow
  dsimp only
  split
  · split
    · refine State.KeepsMem.trans (State.each_keeps _ _ _ (fun s x => ?_)) (State.plcPut_keeps _ _ _)
      split <;> simp
    · simp
  · simp

@[simp] theorem State.closeSpan_keeps (s : State) (k : Nat) : s.KeepsMem (s.closeSpan k) := State.countBow_keeps ..

@[simp] theorem State.countedNow_keeps (s : State) (k : Nat) :
    s.KeepsMem (State.countedNow s k) := by
  unfold State.countedNow
  (repeat' split) <;> simp

@[simp] theorem State.energySync_keeps (s : State) (l : List Nat) :
    s.KeepsMem (State.energySync s l) := by
  unfold State.energySync
  (repeat' split) <;> simp

@[simp] theorem State.nutMove_keeps (s : State) (k : Nat) :
    s.KeepsMem (State.nutMove s k).1 := by
  unfold State.nutMove
  (repeat' split) <;> simp

@[simp] theorem State.emitAtNut_keeps (s : State) (k : Nat) :
    s.KeepsMem (State.emitAtNut s k) := by
  unfold State.emitAtNut
  (repeat' split) <;> simp

@[simp] theorem State.openSpans_keeps (s : State) (k : Nat) (b : PlacedBow) :
    s.KeepsMem (State.openSpans s k b) := by
  unfold State.openSpans
  (repeat' split) <;> simp

@[simp] theorem State.nutDark_keeps (s : State) (k : Nat) (b : PlacedBow) (hushed : Bool) :
    s.KeepsMem (State.nutDark s k b hushed) := by
  unfold State.nutDark
  (repeat' split) <;> simp

@[simp] theorem State.fetchBow_keeps (s : State) (k : Nat) :
    s.KeepsMem (State.fetchBow s k) := by
  unfold State.fetchBow
  (repeat' split) <;> simp

@[simp] theorem State.litClock_keeps (s : State) (k : Nat) :
    s.KeepsMem (State.litClock s k) := by
  unfold State.litClock
  (repeat' split) <;> simp

@[simp] theorem State.limitsTake_keeps (s : State) (k : Nat) :
    s.KeepsMem (State.limitsTake s k) := by
  unfold State.limitsTake
  (repeat' split) <;> simp

@[simp] theorem State.frameNumber_keeps (s : State) (k : Nat) (p : Int) (before : Option (Nat × Int)) :
    s.KeepsMem (State.frameNumber s k p before) := by
  unfold State.frameNumber
  (repeat' split) <;> simp

@[simp] theorem State.shaftHush_keeps (s : State) (j : Nat) :
    s.KeepsMem (State.shaftHush s j) := by
  unfold State.shaftHush
  (repeat' split) <;> simp

@[simp] theorem State.setShaft_keeps (s : State) (j st : Nat) :
    s.KeepsMem (State.setShaft s j st) := by
  unfold State.setShaft
  (repeat' split) <;> simp

@[simp] theorem State.shaftMove_keeps (s : State) (j : Nat) (p : Int) (before : Option (Nat × Int)) :
    s.KeepsMem (State.shaftMove s j p before) := by
  unfold State.shaftMove
  (repeat' split) <;> simp

@[simp] theorem State.setSlotState_keeps (s : State) (i n : Nat) :
    s.KeepsMem (State.setSlotState s i n) := by
  unfold State.setSlotState
  (repeat' split) <;> simp

@[simp] theorem State.runSlot_keeps (s : State) (i : Nat) :
    s.KeepsMem (State.runSlot s i) := by
  unfold State.runSlot
  (repeat' split) <;> simp

@[simp] theorem State.abandonWrite_keeps (s : State) :
    s.KeepsMem (State.abandonWrite s) := by
  unfold State.abandonWrite
  (repeat' split) <;> simp

@[simp] theorem State.swapPairs_keeps (s : State) (oldRole : Nat) :
    s.KeepsMem (State.swapPairs s oldRole) := by
  unfold State.swapPairs
  (repeat' split) <;> simp

@[simp] theorem State.restartInPlace_keeps (s : State) :
    s.KeepsMem (State.restartInPlace s) := by
  unfold State.restartInPlace
  (repeat' split) <;> simp

@[simp] theorem State.takeOver_keeps (s : State) :
    s.KeepsMem (State.takeOver s) := by
  unfold State.takeOver
  (repeat' split) <;> simp

@[simp] theorem State.pairFault_keeps (s : State) :
    s.KeepsMem (State.pairFault s) := by
  unfold State.pairFault
  (repeat' split) <;> simp

@[simp] theorem State.imageBegin_keeps (s : State) (b : List Byte) :
    s.KeepsMem (State.imageBegin s b) := by
  unfold State.imageBegin
  (repeat' split) <;> simp

@[simp] theorem State.loadStandby_keeps (s : State) (v : Nat) :
    s.KeepsMem (State.loadStandby s v).1 := by
  unfold State.loadStandby
  (repeat' split) <;> simp

@[simp] theorem State.switchNow_keeps (s : State) :
    s.KeepsMem (State.switchNow s) := by
  unfold State.switchNow
  (repeat' split) <;> simp

@[simp] theorem State.switchOver_keeps (s : State) (v : Nat) :
    s.KeepsMem (State.switchOver s v).1 := by
  unfold State.switchOver
  (repeat' split) <;> simp

@[simp] theorem State.switchAtFrame_keeps (s : State) (k : Nat) :
    s.KeepsMem (State.switchAtFrame s k) := by
  unfold State.switchAtFrame
  (repeat' split) <;> simp

@[simp] theorem State.switchIfStopped_keeps (s : State) :
    s.KeepsMem (State.switchIfStopped s) := by
  unfold State.switchIfStopped
  (repeat' split) <;> simp

@[simp] theorem State.placementRestart_keeps (s : State) (k : Nat) :
    s.KeepsMem (State.placementRestart s k) := by
  unfold State.placementRestart
  (repeat' split) <;> simp

@[simp] theorem State.fetchRestart_keeps (s : State) (k : Nat) :
    s.KeepsMem (State.fetchRestart s k) := by
  unfold State.fetchRestart
  (repeat' split) <;> simp

@[simp] theorem State.unitRestart_keeps (s : State) (u : RestartUnit) :
    s.KeepsMem (State.unitRestart s u) := by
  unfold State.unitRestart
  (repeat' split) <;> simp

@[simp] theorem State.pstateClear_keeps (s : State) :
    s.KeepsMem (State.pstateClear s) := by
  unfold State.pstateClear
  (repeat' split) <;> simp

@[simp] theorem State.criticalClear_keeps (s : State) (v : Nat) :
    s.KeepsMem (State.criticalClear s v).1 := by
  unfold State.criticalClear
  (repeat' split) <;> simp

@[simp] theorem State.availabilityClear_keeps (s : State) (v : Nat) :
    s.KeepsMem (State.availabilityClear s v).1 := by
  unfold State.availabilityClear
  (repeat' split) <;> simp

@[simp] theorem State.deviceReset_queue (s : State) (code : Nat) :
    (s.deviceReset code).pending = s.pending ∧ (s.deviceReset code).clk.up = s.clk.up ∧
      (s.deviceReset code).capo.blown = s.capo.blown := by
  unfold State.deviceReset CapoSt.atReset
  dsimp only
  (repeat' split) <;> simp

/-- A device reset keeps the queue, the time counted and the fuses blown, and leaves memory canonical. -/
@[simp] theorem State.deviceReset_wf (s : State) (code : Nat) : Memory.wf (s.deviceReset code).mem.cells = true := by
  unfold State.deviceReset
  dsimp only
  (repeat' split) <;> simp [nil_wf]

/-- A device reset whose cause is not code 1 keeps the straps sampled, the class seen and the fuses. -/
theorem State.deviceReset_warm (s : State) (code : Nat) (h : code ≠ 1) : s.Keeps (s.deviceReset code) := by
  unfold State.deviceReset CapoSt.atReset
  dsimp only
  (repeat' split) <;> simp_all

@[simp] theorem State.boot_keeps (s : State) :
    s.KeepsMem (State.boot s) := by
  unfold State.boot
  (repeat' split) <;> simp

@[simp] theorem State.courseRequest_keeps (s : State) (k v : Nat) :
    s.KeepsMem (State.courseRequest s k v) := by
  unfold State.courseRequest
  (repeat' split) <;> simp

@[simp] theorem State.domainStart_keeps (s : State) (d : Nat) :
    s.KeepsMem (State.domainStart s d) := by
  unfold State.domainStart
  dsimp only
  (repeat' split) <;> simp

@[simp] theorem State.startEnd_keeps (s0 : State) :
    s0.KeepsMem (State.startEnd s0) := by
  unfold State.startEnd
  (repeat' split) <;> simp

@[simp] theorem State.litIfAsked_keeps (s : State) :
    s.KeepsMem (State.litIfAsked s) := by
  unfold State.litIfAsked
  (repeat' split) <;> simp

@[simp] theorem State.select_keeps (s : State) (op : Nat) :
    s.KeepsMem (State.select s op) := by
  unfold State.select
  (repeat' split) <;> simp

@[simp] theorem State.commitsDone_keeps (s : State) :
    s.KeepsMem (State.commitsDone s) := by
  unfold State.commitsDone
  (repeat' split) <;> simp

@[simp] theorem State.takeItems_keeps (s : State) (pick : Pending → Todo → Bool) :
    s.KeepsMem (State.takeItems s pick).1 := by
  unfold State.takeItems
  (repeat' split) <;> simp

@[simp] theorem State.refHush_keeps (s : State) (k : Nat) :
    s.KeepsMem (State.refHush s k) := by
  unfold State.refHush
  (repeat' split) <;> simp

@[simp] theorem State.relock_keeps (s : State) (k : Nat) (ok : Bool) :
    s.KeepsMem (State.relock s k ok) := by
  unfold State.relock
  (repeat' split) <;> simp

@[simp] theorem State.admission_keeps (s old : State) (k : Nat) :
    s.KeepsMem (State.admission s old k) := by
  unfold State.admission
  (repeat' split) <;> simp

@[simp] theorem State.memberChanged_keeps (s : State) (k : Nat) :
    s.KeepsMem (State.memberChanged s k) := by
  unfold State.memberChanged
  (repeat' split) <;> simp

@[simp] theorem State.refChanged_keeps (s : State) (k b : Nat) :
    s.KeepsMem (State.refChanged s k b) := by
  unfold State.refChanged
  (repeat' split) <;> simp

@[simp] theorem State.ptpProfile_keeps (s : State) (keys : List Nat) :
    s.KeepsMem (State.ptpProfile s keys) := by
  unfold State.ptpProfile
  (repeat' split) <;> simp

@[simp] theorem State.capIfResized_keeps (s old : State) (k : Nat) :
    s.Keeps (State.capIfResized s old k) := by
  unfold State.capIfResized
  (repeat' split) <;> simp

@[simp] theorem State.capIfResized_wf (s old : State) (k : Nat) (hw : Memory.wf s.mem.cells = true) :
    Memory.wf (State.capIfResized s old k).mem.cells = true := by
  unfold State.capIfResized
  (repeat' split) <;> simp [hw]

@[simp] theorem State.courseChanged_keeps (s old : State) (keys : List Nat) (k b : Nat) :
    s.Keeps (State.courseChanged s old keys k b) := by
  unfold State.courseChanged
  (repeat' split) <;> simp

@[simp] theorem State.courseChanged_wf (s old : State) (keys : List Nat) (k b : Nat) (hw : Memory.wf s.mem.cells = true) :
    Memory.wf (State.courseChanged s old keys k b).mem.cells = true := by
  unfold State.courseChanged
  (repeat' split) <;> simp [hw]

@[simp] theorem State.switchNowSpare_keeps (s : State) (i : Nat) :
    s.KeepsMem (State.switchNowSpare s i) := by
  unfold State.switchNowSpare
  dsimp only
  (repeat' split) <;> simp

@[simp] theorem State.spareSet_keeps (s : State) (i : Nat) :
    s.KeepsMem (State.spareSet s i) := by
  unfold State.spareSet
  dsimp only
  (repeat' split) <;> simp

@[simp] theorem State.hstreamChanged_keeps (s old : State) (h : Nat) :
    s.KeepsMem (State.hstreamChanged s old h) := by
  unfold State.hstreamChanged
  (repeat' split) <;> simp

@[simp] theorem State.cstreamChanged_keeps (s : State) (i : Nat) :
    s.KeepsMem (State.cstreamChanged s i) := by
  unfold State.cstreamChanged
  (repeat' split) <;> simp

@[simp] theorem State.refinementOff_keeps (s : State) (k : Nat) :
    s.KeepsMem (State.refinementOff s k) := by
  unfold State.refinementOff
  (repeat' split) <;> simp

@[simp] theorem State.fetchChanged_keeps (s old : State) (k b : Nat) :
    s.KeepsMem (State.fetchChanged s old k b) := by
  unfold State.fetchChanged
  (repeat' split) <;> simp

@[simp] theorem State.captureChanged_keeps (s old : State) (k b : Nat) :
    s.Keeps (State.captureChanged s old k b) := by
  unfold State.captureChanged
  (repeat' split) <;> simp

@[simp] theorem State.captureChanged_wf (s old : State) (k b : Nat) (hw : Memory.wf s.mem.cells = true) :
    Memory.wf (State.captureChanged s old k b).mem.cells = true := by
  unfold State.captureChanged
  (repeat' split) <;> simp [hw]

@[simp] theorem State.slotChanged_keeps (s old : State) (keys : List Nat) (i b : Nat) :
    s.KeepsMem (State.slotChanged s old keys i b) := by
  unfold State.slotChanged
  (repeat' split) <;> simp

@[simp] theorem State.limitsChanged_keeps (s old : State) :
    s.KeepsMem (State.limitsChanged s old) := by
  unfold State.limitsChanged
  (repeat' split) <;> simp

@[simp] theorem State.sensorOff_keeps (s : State) (e : Nat) :
    s.KeepsMem (State.sensorOff s e) := by
  unfold State.sensorOff
  (repeat' split) <;> simp

@[simp] theorem State.offerAgain_keeps (s : State) :
    s.KeepsMem (State.offerAgain s) := by
  unfold State.offerAgain
  (repeat' split) <;> simp

@[simp] theorem State.afterChange_keeps (s old : State) (keys : List Nat) (key : Nat) :
    s.Keeps (State.afterChange s old keys key) := by
  unfold State.afterChange
  (repeat' split) <;> simp

@[simp] theorem State.afterChange_wf (s old : State) (keys : List Nat) (key : Nat) (hw : Memory.wf s.mem.cells = true) :
    Memory.wf (State.afterChange s old keys key).mem.cells = true := by
  unfold State.afterChange
  (repeat' split) <;> simp [hw]

@[simp] theorem State.afterPut_keeps (s old : State) (keys : List Nat) (key : Nat) :
    s.KeepsMem (State.afterPut s old keys key) := by
  unfold State.afterPut
  (repeat' split) <;> simp

@[simp] theorem State.deviceRequest_keeps (s0 : State) (v : Nat) :
    s0.KeepsMem (State.deviceRequest s0 v) := by
  unfold State.deviceRequest
  (repeat' split) <;> simp

@[simp] theorem State.requestItem_keeps (s : State) (t : Todo) :
    s.KeepsMem (State.requestItem s t) := by
  unfold State.requestItem
  (repeat' split) <;> simp

@[simp] theorem State.mergePegs_keeps (s : State) (c : ItemClass) (v : Val) :
    s.KeepsMem (State.mergePegs s c v) := by
  unfold State.mergePegs
  (repeat' split) <;> simp

@[simp] theorem State.putItem_keeps (s : State) (t : Todo) :
    s.KeepsMem (State.putItem s t) := by
  unfold State.putItem
  (repeat' split) <;> simp

theorem State.applyItems_kw (s : State) (l : List Todo) : s.KeepsWf (s.applyItems l) := by
  unfold State.applyItems
  split
  · simp
  · dsimp only
    have tail : ∀ (t : State) (b : Bool), s.KeepsWf t → s.KeepsWf (if b = true then t.offerAgain else t) := by
      intro t b h
      split
      · exact State.KeepsWf.trans h ⟨by simp, fun hw => by simp [hw]⟩
      · exact h
    apply tail
    refine State.KeepsWf.trans ?_ (State.foldl_keepsWf _ (fun a x => ⟨by simp, fun hw => by simp [hw]⟩) _ _)
    refine State.KeepsWf.trans ?_ (State.foldl_keepsWf _
      (fun a x => by (try dsimp only); split <;> exact ⟨by simp, fun hw => by simp [hw]⟩) _ _)
    refine State.KeepsWf.trans ?_ (State.foldl_keepsWf _ (fun a x => ⟨by simp, fun hw => by simp [hw]⟩) _ _)
    refine State.KeepsWf.trans ?_ (State.foldl_keepsWf _ (fun a x => ⟨by simp, fun hw => by simp [hw]⟩) _ _)
    refine State.KeepsWf.trans ?_ (State.foldl_keepsWf _
      (fun a x => by (try dsimp only); split <;> exact ⟨by simp, fun hw => by simp [hw]⟩) _ _)
    exact ⟨by simp, fun hw => by simp [hw]⟩

@[simp] theorem State.applyItems_keeps (s : State) (l : List Todo) :
    s.Keeps (State.applyItems s l) := (State.applyItems_kw s l).1

@[simp] theorem State.applyItems_wf (s : State) (l : List Todo) (hw : Memory.wf s.mem.cells = true) :
    Memory.wf (State.applyItems s l).mem.cells = true := (State.applyItems_kw s l).2 hw

@[simp] theorem State.applyPoint_keeps (s : State) (pick : Pending → Todo → Bool) :
    s.Keeps (State.applyPoint s pick) := by
  unfold State.applyPoint
  (repeat' split) <;> simp

@[simp] theorem State.applyPoint_wf (s : State) (pick : Pending → Todo → Bool) (hw : Memory.wf s.mem.cells = true) :
    Memory.wf (State.applyPoint s pick).mem.cells = true := by
  unfold State.applyPoint
  (repeat' split) <;> simp [hw]

@[simp] theorem State.passFence_keeps (s : State) (k : Nat) :
    s.KeepsMem (State.passFence s k) := by
  unfold State.passFence
  (repeat' split) <;> simp

@[simp] theorem State.flipTaken_keeps (s : State) (t : Todo) :
    s.KeepsMem (State.flipTaken s t) := by
  unfold State.flipTaken
  (repeat' split) <;> simp

@[simp] theorem State.applyAtFrame_keeps (s : State) (l : List Todo) :
    s.Keeps (State.applyAtFrame s l) := by
  unfold State.applyAtFrame
  (repeat' split) <;> simp

@[simp] theorem State.applyAtFrame_wf (s : State) (l : List Todo) (hw : Memory.wf s.mem.cells = true) :
    Memory.wf (State.applyAtFrame s l).mem.cells = true := by
  unfold State.applyAtFrame
  (repeat' split) <;> simp [hw]

@[simp] theorem State.switchAtStart_keeps (s : State) (i : Nat) :
    s.KeepsMem (State.switchAtStart s i) := by
  unfold State.switchAtStart
  (repeat' split) <;> simp

@[simp] theorem State.switchIns_keeps (s : State) (k : Nat) :
    s.KeepsMem (State.switchIns s k) := by
  unfold State.switchIns
  (repeat' split) <;> simp

@[simp] theorem State.frameMatrix_keeps (s : State) (k counter : Nat) (colour switched : Bool) :
    s.KeepsMem (State.frameMatrix s k counter colour switched) := by
  unfold State.frameMatrix
  dsimp only
  (repeat' split) <;> simp

@[simp] theorem State.frameClamped_keeps (s : State) (k : Nat) :
    s.KeepsMem (State.frameClamped s k) := by
  unfold State.frameClamped
  (repeat' split) <;> simp

@[simp] theorem State.frameMesh_keeps (s : State) (k : Nat) (isRepeat : Bool) :
    s.KeepsMem (State.frameMesh s k isRepeat) := by
  unfold State.frameMesh
  (repeat' split) <;> simp

@[simp] theorem State.frameLatency_keeps (s : State) (k : Nat) :
    s.KeepsMem (State.frameLatency s k) := by
  unfold State.frameLatency
  exact State.foldl_keeps _ (fun s x => by dsimp only; (repeat' split) <;> simp) _ _

@[simp] theorem State.frameFetch_keeps (s : State) (k : Nat) :
    s.KeepsMem (State.frameFetch s k) := by
  unfold State.frameFetch
  (repeat' split) <;> simp

@[simp] theorem State.placeAgain_keeps (s : State) (k : Nat) :
    s.KeepsMem (State.placeAgain s k) := by
  unfold State.placeAgain
  (repeat' split) <;> simp

@[simp] theorem State.sendFrames_keeps (s : State) (k counter : Nat) :
    s.KeepsMem (State.sendFrames s k counter) := by
  unfold State.sendFrames
  (repeat' split) <;> simp

@[simp] theorem State.contentServo_keeps (s : State) (k : Nat) :
    s.KeepsMem (State.contentServo s k) := by
  unfold State.contentServo
  dsimp only
  (repeat' split) <;> simp

@[simp] theorem State.retrySpin_keeps (s : State) (k : Nat) (keys : List Nat) :
    s.KeepsMem (State.retrySpin s k keys) := by
  unfold State.retrySpin
  (repeat' split) <;> simp

@[simp] theorem State.frameBegins_keeps (s : State) (k : Nat) (r : FrameReq) :
    s.KeepsMem (State.frameBegins s k r) := by
  unfold State.frameBegins
  (repeat' split) <;> simp

@[simp] theorem State.frameLevel_keeps (s : State) (k : Nat) :
    s.KeepsMem (State.frameLevel s k) := by
  unfold State.frameLevel
  (repeat' split) <;> simp

@[simp] theorem State.startFrame_keeps (s : State) (k : Nat) (r : FrameReq) :
    s.Keeps (State.startFrame s k r) := by
  unfold State.startFrame
  (repeat' split) <;> simp

@[simp] theorem State.startFrame_wf (s : State) (k : Nat) (r : FrameReq) (hw : Memory.wf s.mem.cells = true) :
    Memory.wf (State.startFrame s k r).mem.cells = true := by
  unfold State.startFrame
  (repeat' split) <;> simp [hw]

@[simp] theorem State.withItem_keeps (s : State) (key : Nat) (v : Val) :
    s.KeepsMem (State.withItem s key v) := by
  unfold State.withItem
  (repeat' split) <;> simp

@[simp] theorem State.withItems_keeps (s : State) (items : List (Nat × Val)) :
    s.KeepsMem (State.withItems s items) := by
  unfold State.withItems
  (repeat' split) <;> simp

@[simp] theorem State.withPending_keeps (s : State) (spares : Bool) :
    s.KeepsMem (State.withPending s spares) := by
  unfold State.withPending
  (repeat' split) <;> simp

@[simp] theorem State.withPendingFor_keeps (s : State) (items : List (Nat × Val)) :
    s.KeepsMem (State.withPendingFor s items) := by
  unfold State.withPendingFor
  (repeat' split) <;> simp

@[simp] theorem State.showChecked_keeps (s v : State) (items : List (Nat × Val)) :
    s.KeepsMem (State.showChecked s v items) := by
  unfold State.showChecked
  refine State.foldl_from (State.each_from (by simp) _ _ (fun s k => ?_)) _ _ (fun s x => ?_) <;> (try dsimp only) <;> (repeat' split) <;> simp

@[simp] theorem State.checkCommit_keeps (s : State) (selector frame time : Nat) (items : List (Nat × Val)) :
    s.KeepsMem (State.checkCommit s selector frame time items).1 := by
  unfold State.checkCommit
  (repeat' split) <;> simp

@[simp] theorem State.accept_keeps (s : State) (m : Nat) (policy : Bool) (selector frame time : Nat) (items : List (Nat × Val)) :
    s.Keeps (State.accept s m policy selector frame time items) := by
  unfold State.accept
  (repeat' split) <;> simp

@[simp] theorem State.accept_wf (s : State) (m : Nat) (policy : Bool) (selector frame time : Nat) (items : List (Nat × Val)) (hw : Memory.wf s.mem.cells = true) :
    Memory.wf (State.accept s m policy selector frame time items).mem.cells = true := by
  unfold State.accept
  (repeat' split) <;> simp [hw]

@[simp] theorem State.heldRefused_keeps (s : State) (st : Nat) :
    s.KeepsMem (State.heldRefused s st) := by
  unfold State.heldRefused
  (repeat' split) <;> simp

theorem State.writeOne_kw (s : State) (m key : Nat) (x : Val) : s.KeepsWf (s.writeOne m key x).1 := by
  unfold State.writeOne
  dsimp only
  (repeat' split) <;> exact ⟨by simp, fun hw => by simp [hw]⟩

@[simp] theorem State.writeOne_keeps (s : State) (m key : Nat) (x : Val) :
    s.Keeps (s.writeOne m key x).1 := (State.writeOne_kw s m key x).1

@[simp] theorem State.writeOne_wf (s : State) (m key : Nat) (x : Val) (hw : Memory.wf s.mem.cells = true) :
    Memory.wf (s.writeOne m key x).1.mem.cells = true := (State.writeOne_kw s m key x).2 hw

@[simp] theorem State.overtake_keeps (s : State) (key : Nat) :
    s.KeepsMem (State.overtake s key) := by
  unfold State.overtake
  (repeat' split) <;> simp

@[simp] theorem State.clearWrite_keeps (s : State) (m key v : Nat) (f : State → State) (h : ∀ s : State, s.KeepsMem (f s)) :
    s.KeepsMem (s.clearWrite m key v f).1 := by
  unfold State.clearWrite
  (repeat' split)
  · simp
  · simp
  · exact State.KeepsMem.trans (State.overtake_keeps s key) (h _)

@[simp] theorem State.commitRejected_keeps (s : State) (m tag st : Nat) (key : Option Nat) :
    s.KeepsMem (State.commitRejected s m tag st key).1 := by
  unfold State.commitRejected
  (repeat' split) <;> simp

@[simp] theorem State.commitTaken_keeps (s : State) (m tag : Nat) :
    s.KeepsMem (State.commitTaken s m tag) := by
  unfold State.commitTaken
  (repeat' split) <;> simp

theorem State.commitStage_kw (s : State) (m word : Nat) : s.KeepsWf (s.commitStage m word).1 := by
  unfold State.commitStage
  dsimp only
  (repeat' split) <;> exact ⟨by simp, fun hw => by simp [hw]⟩

@[simp] theorem State.commitStage_keeps (s : State) (m word : Nat) :
    s.Keeps (State.commitStage s m word).1 := (State.commitStage_kw s m word).1

@[simp] theorem State.commitStage_wf (s : State) (m word : Nat) (hw : Memory.wf s.mem.cells = true) :
    Memory.wf (State.commitStage s m word).1.mem.cells = true := (State.commitStage_kw s m word).2 hw

@[simp] theorem State.abortStage_keeps (s : State) (m word : Nat) :
    s.KeepsMem (State.abortStage s m word).1 := by
  unfold State.abortStage
  (repeat' split) <;> simp

@[simp] theorem State.commitWord_keeps (s : State) (m word : Nat) :
    s.Keeps (State.commitWord s m word).1 := by
  unfold State.commitWord
  (repeat' split) <;> simp

@[simp] theorem State.commitWord_wf (s : State) (m word : Nat) (hw : Memory.wf s.mem.cells = true) :
    Memory.wf (State.commitWord s m word).1.mem.cells = true := by
  unfold State.commitWord
  (repeat' split) <;> simp [hw]

@[simp] theorem State.policyRefused_keeps (s : State) (o : Offer) (spare st : Nat) :
    s.KeepsMem (State.policyRefused s o spare st) := by
  unfold State.policyRefused
  (repeat' split) <;> simp

@[simp] theorem State.dropOffer_keeps (s : State) (o : Offer) :
    s.KeepsMem (State.dropOffer s o) := by
  unfold State.dropOffer
  (repeat' split) <;> simp

@[simp] theorem State.offerLost_keeps (s : State) (o : Offer) :
    s.KeepsMem (State.offerLost s o) := by
  unfold State.offerLost
  (repeat' split) <;> simp

@[simp] theorem State.policyPlaced_keeps (s : State) (o : Offer) (spare : Nat) (v : Val) :
    s.KeepsMem (State.policyPlaced s o spare v) := by
  unfold State.policyPlaced
  (repeat' split) <;> simp

theorem State.tryCandidates_kw (s : State) (o : Offer) (l : List (Nat × Nat × Val)) : s.KeepsWf (s.tryCandidates o l) := by
  induction l generalizing s with
  | nil => exact ⟨by simp [State.tryCandidates], fun hw => by simp [State.tryCandidates, hw]⟩
  | cons h r ih =>
    unfold State.tryCandidates
    split
    · exact State.KeepsWf.trans ⟨by simp, fun hw => by simp [hw]⟩ (ih _)
    · exact ⟨by simp, fun hw => by simp [hw]⟩

@[simp] theorem State.tryCandidates_keeps (s : State) (o : Offer) (l : List (Nat × Nat × Val)) :
    s.Keeps (s.tryCandidates o l) := (State.tryCandidates_kw s o l).1

@[simp] theorem State.tryCandidates_wf (s : State) (o : Offer) (l : List (Nat × Nat × Val))
    (hw : Memory.wf s.mem.cells = true) : Memory.wf (s.tryCandidates o l).mem.cells = true := (State.tryCandidates_kw s o l).2 hw

theorem State.policyAct_kw (s : State) (o : Offer) : s.KeepsWf (s.policyAct o) := by
  unfold State.policyAct
  dsimp only
  (repeat' split) <;> exact ⟨by simp, fun hw => by simp [hw]⟩

@[simp] theorem State.policyAct_keeps (s : State) (o : Offer) : s.Keeps (s.policyAct o) := (State.policyAct_kw s o).1

@[simp] theorem State.policyAct_wf (s : State) (o : Offer) (hw : Memory.wf s.mem.cells = true) :
    Memory.wf (s.policyAct o).mem.cells = true := (State.policyAct_kw s o).2 hw

theorem State.policyWithdraw_kw (s : State) (p : Nat × Nat × Offer) : s.KeepsWf (s.policyWithdraw p) := by
  unfold State.policyWithdraw
  have h := State.checkCommit_keeps s 0 0 0 [(dkey (0x2100 + p.1) 1, Val.num 0xFFFF)]
  dsimp only
  split <;> rename_i e <;> simp only [e] at h
  · exact State.KeepsWf.trans (State.KeepsMem.kw h) ⟨by simp, fun hw => by simp [hw]⟩
  · exact State.KeepsMem.kw h

@[simp] theorem State.policyWithdraw_keeps (s : State) (p : Nat × Nat × Offer) :
    s.Keeps (s.policyWithdraw p) := (State.policyWithdraw_kw s p).1

@[simp] theorem State.policyWithdraw_wf (s : State) (p : Nat × Nat × Offer) (hw : Memory.wf s.mem.cells = true) :
    Memory.wf (s.policyWithdraw p).mem.cells = true := (State.policyWithdraw_kw s p).2 hw

@[simp] theorem State.stageSet_keeps (s : State) (m key : Nat) (v : Val) (finished : Bool) :
    s.KeepsMem (State.stageSet s m key v finished) := by
  unfold State.stageSet
  (repeat' split) <;> simp

@[simp] theorem State.stageSegment_keeps (s : State) (m : Nat) (it : Item) (r : Row) (v : List Byte) :
    s.KeepsMem (State.stageSegment s m it r v).1 := by
  unfold State.stageSegment
  dsimp only
  (repeat' split) <;> simp

@[simp] theorem State.stageItem_keeps (s : State) (m : Nat) (it : Item) (r : Row) (v : List Byte) :
    s.KeepsMem (State.stageItem s m it r v).1 := by
  unfold State.stageItem
  dsimp only
  (repeat' split) <;> simp

theorem State.commandEntry_kw (s : State) (m i b : Nat) (v : Val) : s.KeepsWf (s.commandEntry m i b v).1 := by
  unfold State.commandEntry
  dsimp only
  (repeat' split) <;> exact ⟨by simp, fun hw => by simp [hw]⟩

@[simp] theorem State.commandEntry_keeps (s : State) (m i b : Nat) (v : Val) :
    s.Keeps (State.commandEntry s m i b v).1 := (State.commandEntry_kw s m i b v).1

@[simp] theorem State.commandEntry_wf (s : State) (m i b : Nat) (v : Val) (hw : Memory.wf s.mem.cells = true) :
    Memory.wf (State.commandEntry s m i b v).1.mem.cells = true := (State.commandEntry_kw s m i b v).2 hw

@[simp] theorem State.stickyWrite_keeps (s : State) (m i v : Nat) :
    s.KeepsMem (State.stickyWrite s m i v).1 := by
  unfold State.stickyWrite
  (repeat' split) <;> simp

@[simp] theorem State.pstateWrite_keeps (s : State) (m v : Nat) :
    s.KeepsMem (State.pstateWrite s m v).1 := by
  unfold State.pstateWrite
  (repeat' split) <;> simp

@[simp] theorem State.directWrite_keeps (s : State) (m i b : Nat) (v : Val) :
    s.Keeps (State.directWrite s m i b v).1 := by
  unfold State.directWrite
  (repeat' split) <;> simp

@[simp] theorem State.directWrite_wf (s : State) (m i b : Nat) (v : Val) (hw : Memory.wf s.mem.cells = true) :
    Memory.wf (State.directWrite s m i b v).1.mem.cells = true := by
  unfold State.directWrite
  (repeat' split) <;> simp [hw]

@[simp] theorem State.writeEntry_keeps (s : State) (m : Nat) (it : Item) (r : Row) (v : List Byte) :
    s.Keeps (State.writeEntry s m it r v).1 := by
  unfold State.writeEntry
  (repeat' split) <;> simp

@[simp] theorem State.writeEntry_wf (s : State) (m : Nat) (it : Item) (r : Row) (v : List Byte) (hw : Memory.wf s.mem.cells = true) :
    Memory.wf (State.writeEntry s m it r v).1.mem.cells = true := by
  unfold State.writeEntry
  (repeat' split) <;> simp [hw]

@[simp] theorem State.stageEntry_keeps (s : State) (m : Nat) (it : Item) (r : Row) (v : List Byte) :
    s.KeepsMem (State.stageEntry s m it r v).1 := by
  unfold State.stageEntry
  (repeat' split) <;> simp

@[simp] theorem State.logRead_keeps (s : State) (it : Item) :
    s.Keeps (State.logRead s it).1 := by
  unfold State.logRead
  (repeat' split) <;> simp

@[simp] theorem State.logRead_wf (s : State) (it : Item) (hw : Memory.wf s.mem.cells = true) :
    Memory.wf (State.logRead s it).1.mem.cells = true := by
  unfold State.logRead
  (repeat' split) <;> simp [hw]

@[simp] theorem State.subscribe_keeps (s : State) (m : Nat) (it : Item) (r : Row) (v : List Byte) :
    s.KeepsMem (State.subscribe s m it r v).1 := by
  unfold State.subscribe
  dsimp only
  (repeat' split) <;> simp

@[simp] theorem State.unsubscribe_keeps (s : State) (m : Nat) (it : Item) :
    s.KeepsMem (State.unsubscribe s m it).1 := by
  unfold State.unsubscribe
  (repeat' split) <;> simp

@[simp] theorem State.readItem_keeps (s : State) (m : Nat) (it : Item) (r : Row) (typed : Item) (staged : Bool) :
    s.Keeps (State.readItem s m it r typed staged).1 := by
  unfold State.readItem
  (repeat' split) <;> simp

@[simp] theorem State.readItem_wf (s : State) (m : Nat) (it : Item) (r : Row) (typed : Item) (staged : Bool) (hw : Memory.wf s.mem.cells = true) :
    Memory.wf (State.readItem s m it r typed staged).1.mem.cells = true := by
  unfold State.readItem
  (repeat' split) <;> simp [hw]

@[simp] theorem State.doItem_keeps (s : State) (m op : Nat) (it : Item) (v : List Byte) :
    s.Keeps (State.doItem s m op it v).1 := by
  unfold State.doItem
  (repeat' split) <;> simp

@[simp] theorem State.doItem_wf (s : State) (m op : Nat) (it : Item) (v : List Byte) (hw : Memory.wf s.mem.cells = true) :
    Memory.wf (State.doItem s m op it v).1.mem.cells = true := by
  unfold State.doItem
  (repeat' split) <;> simp [hw]

@[simp] theorem State.itemCommand_keeps (s : State) (m op : Nat) (it : Item) (v : List Byte) :
    s.Keeps (State.itemCommand s m op it v) := by
  unfold State.itemCommand
  (repeat' split) <;> simp

@[simp] theorem State.itemCommand_wf (s : State) (m op : Nat) (it : Item) (v : List Byte) (hw : Memory.wf s.mem.cells = true) :
    Memory.wf (State.itemCommand s m op it v).mem.cells = true := by
  unfold State.itemCommand
  (repeat' split) <;> simp [hw]

@[simp] theorem State.resetIfDue_keeps (s : State) : s.Keeps s.resetIfDue := by
  unfold State.resetIfDue
  split
  · exact State.deviceReset_warm s 4 (by decide)
  · simp

@[simp] theorem State.resetIfDue_wf (s : State) (hw : Memory.wf s.mem.cells = true) :
    Memory.wf s.resetIfDue.mem.cells = true := by
  unfold State.resetIfDue
  split <;> simp [hw]

theorem State.masterFor_keeps (s : State) (src : Source) (r : State × Nat) (h : s.masterFor src = some r) :
    s.KeepsMem r.1 := by
  unfold State.masterFor at h
  (repeat' split at h) <;> cases h <;> simp

@[simp] theorem State.placeCtx_keeps (s : State) (c : Nat) (x : PcieCtx) (m : List Byte) :
    s.KeepsMem (State.placeCtx s c x m) := by
  unfold State.placeCtx
  (repeat' split) <;> simp

@[simp] theorem State.answerOut_keeps (s : State) (m : Nat) (accepted : Bool) :
    s.KeepsMem (State.answerOut s m accepted) := by
  unfold State.answerOut
  (repeat' split) <;> simp

@[simp] theorem State.respond_keeps (s : State) (src : Source) (accepted : Bool) (m : List Byte) :
    s.KeepsMem (State.respond s src accepted m) := by
  unfold State.respond
  (repeat' split) <;> simp

theorem State.runItems_kw (s : State) (m used : Nat) (l : List ReqItem) : s.KeepsWf (s.runItems m used l).1 := by
  induction l generalizing s used with
  | nil => simp [State.runItems]
  | cons h r ih =>
    unfold State.runItems
    dsimp only
    refine State.KeepsWf.trans ?_ (ih _ _)
    split
    · simp
    · exact ⟨by simp, fun hw => by simp [hw]⟩

@[simp] theorem State.runItems_keeps (s : State) (m used : Nat) (l : List ReqItem) :
    s.Keeps (s.runItems m used l).1 := (State.runItems_kw s m used l).1

@[simp] theorem State.runItems_wf (s : State) (m used : Nat) (l : List ReqItem) (hw : Memory.wf s.mem.cells = true) :
    Memory.wf (s.runItems m used l).1.mem.cells = true := (State.runItems_kw s m used l).2 hw

@[simp] theorem State.acceptRequest_keeps (s : State) (src : Source) (m seq : Nat) (items : List ReqItem) :
    s.Keeps (State.acceptRequest s src m seq items) := by
  unfold State.acceptRequest
  (repeat' split) <;> simp

@[simp] theorem State.acceptRequest_wf (s : State) (src : Source) (m seq : Nat) (items : List ReqItem) (hw : Memory.wf s.mem.cells = true) :
    Memory.wf (State.acceptRequest s src m seq items).mem.cells = true := by
  unfold State.acceptRequest
  (repeat' split) <;> simp [hw]

theorem State.onRequest_kw (s : State) (src : Source) (m seq : Nat) (items : List ReqItem) :
    s.KeepsWf (s.onRequest src m seq items) := by
  unfold State.onRequest
  dsimp only
  split
  · exact ⟨by simp, fun hw => by simp [hw]⟩
  · (repeat' split) <;> exact ⟨by simp, fun hw => by simp [hw]⟩

@[simp] theorem State.onRequest_keeps (s : State) (src : Source) (m seq : Nat) (items : List ReqItem) :
    s.Keeps (State.onRequest s src m seq items) := (State.onRequest_kw s src m seq items).1

@[simp] theorem State.onRequest_wf (s : State) (src : Source) (m seq : Nat) (items : List ReqItem) (hw : Memory.wf s.mem.cells = true) :
    Memory.wf (State.onRequest s src m seq items).mem.cells = true := (State.onRequest_kw s src m seq items).2 hw

theorem State.receive_kw (s : State) (src : Source) (unit : List Byte) : s.KeepsWf (s.receive src unit) := by
  unfold State.receive
  split
  · simp
  · split
    · simp
    · exact ⟨by simp, fun hw => by simp [hw]⟩
    · exact ⟨by simp, fun hw => by simp [hw]⟩
    · split
      · exact ⟨by simp, fun hw => by simp [hw]⟩
      · rename_i h
        have g := State.masterFor_keeps s src
        simp [h] at g
        exact State.KeepsWf.trans ⟨by simp [g], fun hw => by simp [g, hw]⟩ (State.onRequest_kw _ _ _ _ _)

@[simp] theorem State.receive_keeps (s : State) (src : Source) (unit : List Byte) :
    s.Keeps (State.receive s src unit) := (State.receive_kw s src unit).1

@[simp] theorem State.receive_wf (s : State) (src : Source) (unit : List Byte) (hw : Memory.wf s.mem.cells = true) :
    Memory.wf (State.receive s src unit).mem.cells = true := (State.receive_kw s src unit).2 hw

@[simp] theorem State.orphans_keeps (s : State) (gone : Nat → Bool) :
    s.KeepsMem (State.orphans s gone) := by
  unfold State.orphans
  (repeat' split) <;> simp

@[simp] theorem State.queuesFreed_keeps (s : State) (m : Nat) :
    s.KeepsMem (State.queuesFreed s m) := by
  unfold State.queuesFreed
  (repeat' split) <;> simp


end Sys2Proof.Machine
end

