-- ==== Sys2Proof/Laws/State.lean ====
section
/-! SUPPORT. The small lemmas of the state's updates: the fields that each update leaves, each true by rfl, and what is read
after a write. -/

namespace Sys2Proof.Machine

open Sys2Proof

/-- A read at another key does not see a write, whatever the default it reads with. -/
theorem tgetD_tput_other {α : Type} [DecidableEq α] (t : Tab α) (d e v : α) {k j : Nat} (h : k ≠ j) :
    tgetD (tput t d k v) e j = tgetD t e j := by
  unfold tput tgetD
  split
  · rw [tfind_terase]; simp [h]
  · rw [tfind_tins _ _ _ _ (by rw [tfind_terase]; simp), tfind_terase]; simp [h]

/-! ### Entries -/

@[simp] theorem State.put_fields (s : State) (i b : Nat) (v : Val) :
    (s.put i b v).oz = s.oz ∧ (s.put i b v).store = s.store ∧ (s.put i b v).clk = s.clk ∧
    (s.put i b v).servo = s.servo ∧ (s.put i b v).syncs = s.syncs ∧ (s.put i b v).shafts = s.shafts ∧
    (s.put i b v).frm = s.frm ∧ (s.put i b v).beacon = s.beacon ∧ (s.put i b v).bow = s.bow ∧
    (s.put i b v).plc = s.plc ∧ (s.put i b v).lanes = s.lanes ∧ (s.put i b v).spares = s.spares ∧
    (s.put i b v).rets = s.rets ∧ (s.put i b v).ledger = s.ledger ∧ (s.put i b v).canvases = s.canvases ∧
    (s.put i b v).flows = s.flows ∧ (s.put i b v).rx = s.rx ∧ (s.put i b v).hstreams = s.hstreams ∧
    (s.put i b v).meshes = s.meshes ∧ (s.put i b v).fet = s.fet ∧ (s.put i b v).col = s.col ∧
    (s.put i b v).emit = s.emit ∧ (s.put i b v).capt = s.capt ∧ (s.put i b v).inputs = s.inputs ∧
    (s.put i b v).senses = s.senses ∧ (s.put i b v).cstreams = s.cstreams ∧ (s.put i b v).slots = s.slots ∧
    (s.put i b v).pool = s.pool ∧ (s.put i b v).mir = s.mir ∧ (s.put i b v).capo = s.capo ∧
    (s.put i b v).capoC = s.capoC ∧ (s.put i b v).energy = s.energy ∧ (s.put i b v).pegs = s.pegs ∧
    (s.put i b v).runs = s.runs ∧ (s.put i b v).domains = s.domains ∧ (s.put i b v).therm = s.therm ∧
    (s.put i b v).mem = s.mem ∧ (s.put i b v).chans = s.chans ∧ (s.put i b v).queues = s.queues ∧
    (s.put i b v).fw = s.fw ∧ (s.put i b v).svc = s.svc ∧ (s.put i b v).pwr = s.pwr ∧ (s.put i b v).out = s.out ∧
    (s.put i b v).free = s.free ∧ (s.put i b v).pending = s.pending := by
  repeat' constructor

@[simp] theorem State.putI_fields (s : State) (i b : Nat) (z : Int) :
    (s.putI i b z).oz = s.oz ∧ (s.putI i b z).store = s.store ∧ (s.putI i b z).clk = s.clk ∧
    (s.putI i b z).servo = s.servo ∧ (s.putI i b z).syncs = s.syncs ∧ (s.putI i b z).shafts = s.shafts ∧
    (s.putI i b z).frm = s.frm ∧ (s.putI i b z).beacon = s.beacon ∧ (s.putI i b z).bow = s.bow ∧
    (s.putI i b z).plc = s.plc ∧ (s.putI i b z).lanes = s.lanes ∧ (s.putI i b z).spares = s.spares ∧
    (s.putI i b z).rets = s.rets ∧ (s.putI i b z).ledger = s.ledger ∧ (s.putI i b z).canvases = s.canvases ∧
    (s.putI i b z).flows = s.flows ∧ (s.putI i b z).rx = s.rx ∧ (s.putI i b z).hstreams = s.hstreams ∧
    (s.putI i b z).meshes = s.meshes ∧ (s.putI i b z).fet = s.fet ∧ (s.putI i b z).col = s.col ∧
    (s.putI i b z).emit = s.emit ∧ (s.putI i b z).capt = s.capt ∧ (s.putI i b z).inputs = s.inputs ∧
    (s.putI i b z).senses = s.senses ∧ (s.putI i b z).cstreams = s.cstreams ∧ (s.putI i b z).slots = s.slots ∧
    (s.putI i b z).pool = s.pool ∧ (s.putI i b z).mir = s.mir ∧ (s.putI i b z).capo = s.capo ∧
    (s.putI i b z).capoC = s.capoC ∧ (s.putI i b z).energy = s.energy ∧ (s.putI i b z).pegs = s.pegs ∧
    (s.putI i b z).runs = s.runs ∧ (s.putI i b z).domains = s.domains ∧ (s.putI i b z).therm = s.therm ∧
    (s.putI i b z).mem = s.mem ∧ (s.putI i b z).chans = s.chans ∧ (s.putI i b z).queues = s.queues ∧
    (s.putI i b z).fw = s.fw ∧ (s.putI i b z).svc = s.svc ∧ (s.putI i b z).pwr = s.pwr ∧ (s.putI i b z).out = s.out ∧
    (s.putI i b z).free = s.free ∧ (s.putI i b z).pending = s.pending := by
  repeat' constructor

@[simp] theorem State.putN_fields (s : State) (i b : Nat) (z : Nat) :
    (s.putN i b z).oz = s.oz ∧ (s.putN i b z).store = s.store ∧ (s.putN i b z).clk = s.clk ∧
    (s.putN i b z).servo = s.servo ∧ (s.putN i b z).syncs = s.syncs ∧ (s.putN i b z).shafts = s.shafts ∧
    (s.putN i b z).frm = s.frm ∧ (s.putN i b z).beacon = s.beacon ∧ (s.putN i b z).bow = s.bow ∧
    (s.putN i b z).plc = s.plc ∧ (s.putN i b z).lanes = s.lanes ∧ (s.putN i b z).spares = s.spares ∧
    (s.putN i b z).rets = s.rets ∧ (s.putN i b z).ledger = s.ledger ∧ (s.putN i b z).canvases = s.canvases ∧
    (s.putN i b z).flows = s.flows ∧ (s.putN i b z).rx = s.rx ∧ (s.putN i b z).hstreams = s.hstreams ∧
    (s.putN i b z).meshes = s.meshes ∧ (s.putN i b z).fet = s.fet ∧ (s.putN i b z).col = s.col ∧
    (s.putN i b z).emit = s.emit ∧ (s.putN i b z).capt = s.capt ∧ (s.putN i b z).inputs = s.inputs ∧
    (s.putN i b z).senses = s.senses ∧ (s.putN i b z).cstreams = s.cstreams ∧ (s.putN i b z).slots = s.slots ∧
    (s.putN i b z).pool = s.pool ∧ (s.putN i b z).mir = s.mir ∧ (s.putN i b z).capo = s.capo ∧
    (s.putN i b z).capoC = s.capoC ∧ (s.putN i b z).energy = s.energy ∧ (s.putN i b z).pegs = s.pegs ∧
    (s.putN i b z).runs = s.runs ∧ (s.putN i b z).domains = s.domains ∧ (s.putN i b z).therm = s.therm ∧
    (s.putN i b z).mem = s.mem ∧ (s.putN i b z).chans = s.chans ∧ (s.putN i b z).queues = s.queues ∧
    (s.putN i b z).fw = s.fw ∧ (s.putN i b z).svc = s.svc ∧ (s.putN i b z).pwr = s.pwr ∧ (s.putN i b z).out = s.out ∧
    (s.putN i b z).free = s.free ∧ (s.putN i b z).pending = s.pending := by
  repeat' constructor

@[simp] theorem State.putB_fields (s : State) (i b : Nat) (z : List Byte) :
    (s.putB i b z).oz = s.oz ∧ (s.putB i b z).store = s.store ∧ (s.putB i b z).clk = s.clk ∧
    (s.putB i b z).servo = s.servo ∧ (s.putB i b z).syncs = s.syncs ∧ (s.putB i b z).shafts = s.shafts ∧
    (s.putB i b z).frm = s.frm ∧ (s.putB i b z).beacon = s.beacon ∧ (s.putB i b z).bow = s.bow ∧
    (s.putB i b z).plc = s.plc ∧ (s.putB i b z).lanes = s.lanes ∧ (s.putB i b z).spares = s.spares ∧
    (s.putB i b z).rets = s.rets ∧ (s.putB i b z).ledger = s.ledger ∧ (s.putB i b z).canvases = s.canvases ∧
    (s.putB i b z).flows = s.flows ∧ (s.putB i b z).rx = s.rx ∧ (s.putB i b z).hstreams = s.hstreams ∧
    (s.putB i b z).meshes = s.meshes ∧ (s.putB i b z).fet = s.fet ∧ (s.putB i b z).col = s.col ∧
    (s.putB i b z).emit = s.emit ∧ (s.putB i b z).capt = s.capt ∧ (s.putB i b z).inputs = s.inputs ∧
    (s.putB i b z).senses = s.senses ∧ (s.putB i b z).cstreams = s.cstreams ∧ (s.putB i b z).slots = s.slots ∧
    (s.putB i b z).pool = s.pool ∧ (s.putB i b z).mir = s.mir ∧ (s.putB i b z).capo = s.capo ∧
    (s.putB i b z).capoC = s.capoC ∧ (s.putB i b z).energy = s.energy ∧ (s.putB i b z).pegs = s.pegs ∧
    (s.putB i b z).runs = s.runs ∧ (s.putB i b z).domains = s.domains ∧ (s.putB i b z).therm = s.therm ∧
    (s.putB i b z).mem = s.mem ∧ (s.putB i b z).chans = s.chans ∧ (s.putB i b z).queues = s.queues ∧
    (s.putB i b z).fw = s.fw ∧ (s.putB i b z).svc = s.svc ∧ (s.putB i b z).pwr = s.pwr ∧ (s.putB i b z).out = s.out ∧
    (s.putB i b z).free = s.free ∧ (s.putB i b z).pending = s.pending := by
  repeat' constructor

@[simp] theorem State.putF_fields (s : State) (i b : Nat) (z : Rat) :
    (s.putF i b z).oz = s.oz ∧ (s.putF i b z).store = s.store ∧ (s.putF i b z).clk = s.clk ∧
    (s.putF i b z).servo = s.servo ∧ (s.putF i b z).syncs = s.syncs ∧ (s.putF i b z).shafts = s.shafts ∧
    (s.putF i b z).frm = s.frm ∧ (s.putF i b z).beacon = s.beacon ∧ (s.putF i b z).bow = s.bow ∧
    (s.putF i b z).plc = s.plc ∧ (s.putF i b z).lanes = s.lanes ∧ (s.putF i b z).spares = s.spares ∧
    (s.putF i b z).rets = s.rets ∧ (s.putF i b z).ledger = s.ledger ∧ (s.putF i b z).canvases = s.canvases ∧
    (s.putF i b z).flows = s.flows ∧ (s.putF i b z).rx = s.rx ∧ (s.putF i b z).hstreams = s.hstreams ∧
    (s.putF i b z).meshes = s.meshes ∧ (s.putF i b z).fet = s.fet ∧ (s.putF i b z).col = s.col ∧
    (s.putF i b z).emit = s.emit ∧ (s.putF i b z).capt = s.capt ∧ (s.putF i b z).inputs = s.inputs ∧
    (s.putF i b z).senses = s.senses ∧ (s.putF i b z).cstreams = s.cstreams ∧ (s.putF i b z).slots = s.slots ∧
    (s.putF i b z).pool = s.pool ∧ (s.putF i b z).mir = s.mir ∧ (s.putF i b z).capo = s.capo ∧
    (s.putF i b z).capoC = s.capoC ∧ (s.putF i b z).energy = s.energy ∧ (s.putF i b z).pegs = s.pegs ∧
    (s.putF i b z).runs = s.runs ∧ (s.putF i b z).domains = s.domains ∧ (s.putF i b z).therm = s.therm ∧
    (s.putF i b z).mem = s.mem ∧ (s.putF i b z).chans = s.chans ∧ (s.putF i b z).queues = s.queues ∧
    (s.putF i b z).fw = s.fw ∧ (s.putF i b z).svc = s.svc ∧ (s.putF i b z).pwr = s.pwr ∧ (s.putF i b z).out = s.out ∧
    (s.putF i b z).free = s.free ∧ (s.putF i b z).pending = s.pending := by
  repeat' constructor

@[simp] theorem State.putX_fields (s : State) (i b : Nat) (z : Rat) :
    (s.putX i b z).oz = s.oz ∧ (s.putX i b z).store = s.store ∧ (s.putX i b z).clk = s.clk ∧
    (s.putX i b z).servo = s.servo ∧ (s.putX i b z).syncs = s.syncs ∧ (s.putX i b z).shafts = s.shafts ∧
    (s.putX i b z).frm = s.frm ∧ (s.putX i b z).beacon = s.beacon ∧ (s.putX i b z).bow = s.bow ∧
    (s.putX i b z).plc = s.plc ∧ (s.putX i b z).lanes = s.lanes ∧ (s.putX i b z).spares = s.spares ∧
    (s.putX i b z).rets = s.rets ∧ (s.putX i b z).ledger = s.ledger ∧ (s.putX i b z).canvases = s.canvases ∧
    (s.putX i b z).flows = s.flows ∧ (s.putX i b z).rx = s.rx ∧ (s.putX i b z).hstreams = s.hstreams ∧
    (s.putX i b z).meshes = s.meshes ∧ (s.putX i b z).fet = s.fet ∧ (s.putX i b z).col = s.col ∧
    (s.putX i b z).emit = s.emit ∧ (s.putX i b z).capt = s.capt ∧ (s.putX i b z).inputs = s.inputs ∧
    (s.putX i b z).senses = s.senses ∧ (s.putX i b z).cstreams = s.cstreams ∧ (s.putX i b z).slots = s.slots ∧
    (s.putX i b z).pool = s.pool ∧ (s.putX i b z).mir = s.mir ∧ (s.putX i b z).capo = s.capo ∧
    (s.putX i b z).capoC = s.capoC ∧ (s.putX i b z).energy = s.energy ∧ (s.putX i b z).pegs = s.pegs ∧
    (s.putX i b z).runs = s.runs ∧ (s.putX i b z).domains = s.domains ∧ (s.putX i b z).therm = s.therm ∧
    (s.putX i b z).mem = s.mem ∧ (s.putX i b z).chans = s.chans ∧ (s.putX i b z).queues = s.queues ∧
    (s.putX i b z).fw = s.fw ∧ (s.putX i b z).svc = s.svc ∧ (s.putX i b z).pwr = s.pwr ∧ (s.putX i b z).out = s.out ∧
    (s.putX i b z).free = s.free ∧ (s.putX i b z).pending = s.pending := by
  repeat' constructor

@[simp] theorem State.addSat_fields (s : State) (i b : Nat) (z : Nat) :
    (s.addSat i b z).oz = s.oz ∧ (s.addSat i b z).store = s.store ∧ (s.addSat i b z).clk = s.clk ∧
    (s.addSat i b z).servo = s.servo ∧ (s.addSat i b z).syncs = s.syncs ∧ (s.addSat i b z).shafts = s.shafts ∧
    (s.addSat i b z).frm = s.frm ∧ (s.addSat i b z).beacon = s.beacon ∧ (s.addSat i b z).bow = s.bow ∧
    (s.addSat i b z).plc = s.plc ∧ (s.addSat i b z).lanes = s.lanes ∧ (s.addSat i b z).spares = s.spares ∧
    (s.addSat i b z).rets = s.rets ∧ (s.addSat i b z).ledger = s.ledger ∧ (s.addSat i b z).canvases = s.canvases ∧
    (s.addSat i b z).flows = s.flows ∧ (s.addSat i b z).rx = s.rx ∧ (s.addSat i b z).hstreams = s.hstreams ∧
    (s.addSat i b z).meshes = s.meshes ∧ (s.addSat i b z).fet = s.fet ∧ (s.addSat i b z).col = s.col ∧
    (s.addSat i b z).emit = s.emit ∧ (s.addSat i b z).capt = s.capt ∧ (s.addSat i b z).inputs = s.inputs ∧
    (s.addSat i b z).senses = s.senses ∧ (s.addSat i b z).cstreams = s.cstreams ∧ (s.addSat i b z).slots = s.slots ∧
    (s.addSat i b z).pool = s.pool ∧ (s.addSat i b z).mir = s.mir ∧ (s.addSat i b z).capo = s.capo ∧
    (s.addSat i b z).capoC = s.capoC ∧ (s.addSat i b z).energy = s.energy ∧ (s.addSat i b z).pegs = s.pegs ∧
    (s.addSat i b z).runs = s.runs ∧ (s.addSat i b z).domains = s.domains ∧ (s.addSat i b z).therm = s.therm ∧
    (s.addSat i b z).mem = s.mem ∧ (s.addSat i b z).chans = s.chans ∧ (s.addSat i b z).queues = s.queues ∧
    (s.addSat i b z).fw = s.fw ∧ (s.addSat i b z).svc = s.svc ∧ (s.addSat i b z).pwr = s.pwr ∧
    (s.addSat i b z).out = s.out ∧ (s.addSat i b z).free = s.free ∧ (s.addSat i b z).pending = s.pending := by
  repeat' constructor

@[simp] theorem State.addWrap_fields (s : State) (i b : Nat) (z : Nat) :
    (s.addWrap i b z).oz = s.oz ∧ (s.addWrap i b z).store = s.store ∧ (s.addWrap i b z).clk = s.clk ∧
    (s.addWrap i b z).servo = s.servo ∧ (s.addWrap i b z).syncs = s.syncs ∧ (s.addWrap i b z).shafts = s.shafts ∧
    (s.addWrap i b z).frm = s.frm ∧ (s.addWrap i b z).beacon = s.beacon ∧ (s.addWrap i b z).bow = s.bow ∧
    (s.addWrap i b z).plc = s.plc ∧ (s.addWrap i b z).lanes = s.lanes ∧ (s.addWrap i b z).spares = s.spares ∧
    (s.addWrap i b z).rets = s.rets ∧ (s.addWrap i b z).ledger = s.ledger ∧ (s.addWrap i b z).canvases = s.canvases ∧
    (s.addWrap i b z).flows = s.flows ∧ (s.addWrap i b z).rx = s.rx ∧ (s.addWrap i b z).hstreams = s.hstreams ∧
    (s.addWrap i b z).meshes = s.meshes ∧ (s.addWrap i b z).fet = s.fet ∧ (s.addWrap i b z).col = s.col ∧
    (s.addWrap i b z).emit = s.emit ∧ (s.addWrap i b z).capt = s.capt ∧ (s.addWrap i b z).inputs = s.inputs ∧
    (s.addWrap i b z).senses = s.senses ∧ (s.addWrap i b z).cstreams = s.cstreams ∧
    (s.addWrap i b z).slots = s.slots ∧ (s.addWrap i b z).pool = s.pool ∧ (s.addWrap i b z).mir = s.mir ∧
    (s.addWrap i b z).capo = s.capo ∧ (s.addWrap i b z).capoC = s.capoC ∧ (s.addWrap i b z).energy = s.energy ∧
    (s.addWrap i b z).pegs = s.pegs ∧ (s.addWrap i b z).runs = s.runs ∧ (s.addWrap i b z).domains = s.domains ∧
    (s.addWrap i b z).therm = s.therm ∧ (s.addWrap i b z).mem = s.mem ∧ (s.addWrap i b z).chans = s.chans ∧
    (s.addWrap i b z).queues = s.queues ∧ (s.addWrap i b z).fw = s.fw ∧ (s.addWrap i b z).svc = s.svc ∧
    (s.addWrap i b z).pwr = s.pwr ∧ (s.addWrap i b z).out = s.out ∧ (s.addWrap i b z).free = s.free ∧
    (s.addWrap i b z).pending = s.pending := by
  repeat' constructor

@[simp] theorem State.add64_fields (s : State) (i b : Nat) (z : Nat) :
    (s.add64 i b z).oz = s.oz ∧ (s.add64 i b z).store = s.store ∧ (s.add64 i b z).clk = s.clk ∧
    (s.add64 i b z).servo = s.servo ∧ (s.add64 i b z).syncs = s.syncs ∧ (s.add64 i b z).shafts = s.shafts ∧
    (s.add64 i b z).frm = s.frm ∧ (s.add64 i b z).beacon = s.beacon ∧ (s.add64 i b z).bow = s.bow ∧
    (s.add64 i b z).plc = s.plc ∧ (s.add64 i b z).lanes = s.lanes ∧ (s.add64 i b z).spares = s.spares ∧
    (s.add64 i b z).rets = s.rets ∧ (s.add64 i b z).ledger = s.ledger ∧ (s.add64 i b z).canvases = s.canvases ∧
    (s.add64 i b z).flows = s.flows ∧ (s.add64 i b z).rx = s.rx ∧ (s.add64 i b z).hstreams = s.hstreams ∧
    (s.add64 i b z).meshes = s.meshes ∧ (s.add64 i b z).fet = s.fet ∧ (s.add64 i b z).col = s.col ∧
    (s.add64 i b z).emit = s.emit ∧ (s.add64 i b z).capt = s.capt ∧ (s.add64 i b z).inputs = s.inputs ∧
    (s.add64 i b z).senses = s.senses ∧ (s.add64 i b z).cstreams = s.cstreams ∧ (s.add64 i b z).slots = s.slots ∧
    (s.add64 i b z).pool = s.pool ∧ (s.add64 i b z).mir = s.mir ∧ (s.add64 i b z).capo = s.capo ∧
    (s.add64 i b z).capoC = s.capoC ∧ (s.add64 i b z).energy = s.energy ∧ (s.add64 i b z).pegs = s.pegs ∧
    (s.add64 i b z).runs = s.runs ∧ (s.add64 i b z).domains = s.domains ∧ (s.add64 i b z).therm = s.therm ∧
    (s.add64 i b z).mem = s.mem ∧ (s.add64 i b z).chans = s.chans ∧ (s.add64 i b z).queues = s.queues ∧
    (s.add64 i b z).fw = s.fw ∧ (s.add64 i b z).svc = s.svc ∧ (s.add64 i b z).pwr = s.pwr ∧
    (s.add64 i b z).out = s.out ∧ (s.add64 i b z).free = s.free ∧ (s.add64 i b z).pending = s.pending := by
  repeat' constructor

@[simp] theorem State.bump_fields (s : State) (i b : Nat) :
    (s.bump i b).oz = s.oz ∧ (s.bump i b).store = s.store ∧ (s.bump i b).clk = s.clk ∧ (s.bump i b).servo = s.servo ∧
    (s.bump i b).syncs = s.syncs ∧ (s.bump i b).shafts = s.shafts ∧ (s.bump i b).frm = s.frm ∧
    (s.bump i b).beacon = s.beacon ∧ (s.bump i b).bow = s.bow ∧ (s.bump i b).plc = s.plc ∧
    (s.bump i b).lanes = s.lanes ∧ (s.bump i b).spares = s.spares ∧ (s.bump i b).rets = s.rets ∧
    (s.bump i b).ledger = s.ledger ∧ (s.bump i b).canvases = s.canvases ∧ (s.bump i b).flows = s.flows ∧
    (s.bump i b).rx = s.rx ∧ (s.bump i b).hstreams = s.hstreams ∧ (s.bump i b).meshes = s.meshes ∧
    (s.bump i b).fet = s.fet ∧ (s.bump i b).col = s.col ∧ (s.bump i b).emit = s.emit ∧ (s.bump i b).capt = s.capt ∧
    (s.bump i b).inputs = s.inputs ∧ (s.bump i b).senses = s.senses ∧ (s.bump i b).cstreams = s.cstreams ∧
    (s.bump i b).slots = s.slots ∧ (s.bump i b).pool = s.pool ∧ (s.bump i b).mir = s.mir ∧
    (s.bump i b).capo = s.capo ∧ (s.bump i b).capoC = s.capoC ∧ (s.bump i b).energy = s.energy ∧
    (s.bump i b).pegs = s.pegs ∧ (s.bump i b).runs = s.runs ∧ (s.bump i b).domains = s.domains ∧
    (s.bump i b).therm = s.therm ∧ (s.bump i b).mem = s.mem ∧ (s.bump i b).chans = s.chans ∧
    (s.bump i b).queues = s.queues ∧ (s.bump i b).fw = s.fw ∧ (s.bump i b).svc = s.svc ∧ (s.bump i b).pwr = s.pwr ∧
    (s.bump i b).out = s.out ∧ (s.bump i b).free = s.free ∧ (s.bump i b).pending = s.pending := by
  repeat' constructor

/-- An entry reads the value just written, and every entry with another key what it read before. -/
@[simp] theorem State.val_put (s : State) (i b : Nat) (v : Val) : (s.put i b v).val i b = v := tgetD_tput_self _ _ _ _

theorem State.val_put_ne (s : State) (i b j c : Nat) (v : Val) (h : dkey i b ≠ dkey j c) :
    (s.put i b v).val j c = s.val j c := tgetD_tput_other _ _ _ _ h

@[simp] theorem State.nat_putN (s : State) (i b n : Nat) : (s.putN i b n).nat i b = n := by
  simp [State.nat, State.int, State.putN, valInt]

@[simp] theorem State.int_putI (s : State) (i b : Nat) (z : Int) : (s.putI i b z).int i b = z := by
  simp [State.int, State.putI, valInt]

@[simp] theorem State.blob_putB (s : State) (i b : Nat) (d : List Byte) : (s.putB i b d).blob i b = d := by
  simp [State.blob, State.putB, valBytes]

theorem State.nat_putN_ne (s : State) (i b j c n : Nat) (h : dkey i b ≠ dkey j c) : (s.putN i b n).nat j c = s.nat j c := by
  unfold State.nat State.int State.putN; rw [State.val_put_ne s i b j c _ h]

@[simp] theorem State.nat_addSat (s : State) (i b n : Nat) :
    (s.addSat i b n).nat i b = min (s.nat i b + n) 0xFFFFFFFF := State.nat_putN ..

@[simp] theorem State.nat_bump (s : State) (i b : Nat) : (s.bump i b).nat i b = min (s.nat i b + 1) 0xFFFFFFFF :=
  State.nat_addSat ..

@[simp] theorem State.nat_add64 (s : State) (i b n : Nat) : (s.add64 i b n).nat i b = (s.nat i b + n) % 2 ^ 64 :=
  State.nat_putN ..

/-! ### Units -/

@[simp] theorem State.syncsPut_fields (s : State) (k : Nat) (x : SyncSt) :
    (s.syncsPut k x).dict = s.dict ∧ (s.syncsPut k x).oz = s.oz ∧ (s.syncsPut k x).store = s.store ∧
    (s.syncsPut k x).clk = s.clk ∧ (s.syncsPut k x).servo = s.servo ∧ (s.syncsPut k x).shafts = s.shafts ∧
    (s.syncsPut k x).frm = s.frm ∧ (s.syncsPut k x).beacon = s.beacon ∧ (s.syncsPut k x).bow = s.bow ∧
    (s.syncsPut k x).plc = s.plc ∧ (s.syncsPut k x).lanes = s.lanes ∧ (s.syncsPut k x).spares = s.spares ∧
    (s.syncsPut k x).rets = s.rets ∧ (s.syncsPut k x).ledger = s.ledger ∧ (s.syncsPut k x).canvases = s.canvases ∧
    (s.syncsPut k x).flows = s.flows ∧ (s.syncsPut k x).rx = s.rx ∧ (s.syncsPut k x).hstreams = s.hstreams ∧
    (s.syncsPut k x).meshes = s.meshes ∧ (s.syncsPut k x).fet = s.fet ∧ (s.syncsPut k x).col = s.col ∧
    (s.syncsPut k x).emit = s.emit ∧ (s.syncsPut k x).capt = s.capt ∧ (s.syncsPut k x).inputs = s.inputs ∧
    (s.syncsPut k x).senses = s.senses ∧ (s.syncsPut k x).cstreams = s.cstreams ∧ (s.syncsPut k x).slots = s.slots ∧
    (s.syncsPut k x).pool = s.pool ∧ (s.syncsPut k x).mir = s.mir ∧ (s.syncsPut k x).capo = s.capo ∧
    (s.syncsPut k x).capoC = s.capoC ∧ (s.syncsPut k x).energy = s.energy ∧ (s.syncsPut k x).pegs = s.pegs ∧
    (s.syncsPut k x).runs = s.runs ∧ (s.syncsPut k x).domains = s.domains ∧ (s.syncsPut k x).therm = s.therm ∧
    (s.syncsPut k x).mem = s.mem ∧ (s.syncsPut k x).chans = s.chans ∧ (s.syncsPut k x).queues = s.queues ∧
    (s.syncsPut k x).fw = s.fw ∧ (s.syncsPut k x).svc = s.svc ∧ (s.syncsPut k x).pwr = s.pwr ∧
    (s.syncsPut k x).out = s.out ∧ (s.syncsPut k x).free = s.free ∧ (s.syncsPut k x).pending = s.pending := by
  repeat' constructor

theorem State.syncsAt_syncsPut (s : State) (k j : Nat) (x : SyncSt) :
    (s.syncsPut k x).syncsAt j = if k = j then x else s.syncsAt j := tgetD_tput ..

@[simp] theorem State.syncsPut_entries (s : State) (k i b : Nat) (x : SyncSt) :
    (s.syncsPut k x).val i b = s.val i b ∧ (s.syncsPut k x).int i b = s.int i b ∧
    (s.syncsPut k x).nat i b = s.nat i b ∧ (s.syncsPut k x).blob i b = s.blob i b ∧
    (s.syncsPut k x).f32 i b = s.f32 i b ∧ (s.syncsPut k x).fix i b = s.fix i b := by
  repeat' constructor

@[simp] theorem State.shaftsPut_fields (s : State) (k : Nat) (x : ShaftSt) :
    (s.shaftsPut k x).dict = s.dict ∧ (s.shaftsPut k x).oz = s.oz ∧ (s.shaftsPut k x).store = s.store ∧
    (s.shaftsPut k x).clk = s.clk ∧ (s.shaftsPut k x).servo = s.servo ∧ (s.shaftsPut k x).syncs = s.syncs ∧
    (s.shaftsPut k x).frm = s.frm ∧ (s.shaftsPut k x).beacon = s.beacon ∧ (s.shaftsPut k x).bow = s.bow ∧
    (s.shaftsPut k x).plc = s.plc ∧ (s.shaftsPut k x).lanes = s.lanes ∧ (s.shaftsPut k x).spares = s.spares ∧
    (s.shaftsPut k x).rets = s.rets ∧ (s.shaftsPut k x).ledger = s.ledger ∧ (s.shaftsPut k x).canvases = s.canvases ∧
    (s.shaftsPut k x).flows = s.flows ∧ (s.shaftsPut k x).rx = s.rx ∧ (s.shaftsPut k x).hstreams = s.hstreams ∧
    (s.shaftsPut k x).meshes = s.meshes ∧ (s.shaftsPut k x).fet = s.fet ∧ (s.shaftsPut k x).col = s.col ∧
    (s.shaftsPut k x).emit = s.emit ∧ (s.shaftsPut k x).capt = s.capt ∧ (s.shaftsPut k x).inputs = s.inputs ∧
    (s.shaftsPut k x).senses = s.senses ∧ (s.shaftsPut k x).cstreams = s.cstreams ∧
    (s.shaftsPut k x).slots = s.slots ∧ (s.shaftsPut k x).pool = s.pool ∧ (s.shaftsPut k x).mir = s.mir ∧
    (s.shaftsPut k x).capo = s.capo ∧ (s.shaftsPut k x).capoC = s.capoC ∧ (s.shaftsPut k x).energy = s.energy ∧
    (s.shaftsPut k x).pegs = s.pegs ∧ (s.shaftsPut k x).runs = s.runs ∧ (s.shaftsPut k x).domains = s.domains ∧
    (s.shaftsPut k x).therm = s.therm ∧ (s.shaftsPut k x).mem = s.mem ∧ (s.shaftsPut k x).chans = s.chans ∧
    (s.shaftsPut k x).queues = s.queues ∧ (s.shaftsPut k x).fw = s.fw ∧ (s.shaftsPut k x).svc = s.svc ∧
    (s.shaftsPut k x).pwr = s.pwr ∧ (s.shaftsPut k x).out = s.out ∧ (s.shaftsPut k x).free = s.free ∧
    (s.shaftsPut k x).pending = s.pending := by
  repeat' constructor

theorem State.shaftsAt_shaftsPut (s : State) (k j : Nat) (x : ShaftSt) :
    (s.shaftsPut k x).shaftsAt j = if k = j then x else s.shaftsAt j := tgetD_tput ..

@[simp] theorem State.shaftsPut_entries (s : State) (k i b : Nat) (x : ShaftSt) :
    (s.shaftsPut k x).val i b = s.val i b ∧ (s.shaftsPut k x).int i b = s.int i b ∧
    (s.shaftsPut k x).nat i b = s.nat i b ∧ (s.shaftsPut k x).blob i b = s.blob i b ∧
    (s.shaftsPut k x).f32 i b = s.f32 i b ∧ (s.shaftsPut k x).fix i b = s.fix i b := by
  repeat' constructor

@[simp] theorem State.frmPut_fields (s : State) (k : Nat) (x : FrameSt) :
    (s.frmPut k x).dict = s.dict ∧ (s.frmPut k x).oz = s.oz ∧ (s.frmPut k x).store = s.store ∧
    (s.frmPut k x).clk = s.clk ∧ (s.frmPut k x).servo = s.servo ∧ (s.frmPut k x).syncs = s.syncs ∧
    (s.frmPut k x).shafts = s.shafts ∧ (s.frmPut k x).beacon = s.beacon ∧ (s.frmPut k x).bow = s.bow ∧
    (s.frmPut k x).plc = s.plc ∧ (s.frmPut k x).lanes = s.lanes ∧ (s.frmPut k x).spares = s.spares ∧
    (s.frmPut k x).rets = s.rets ∧ (s.frmPut k x).ledger = s.ledger ∧ (s.frmPut k x).canvases = s.canvases ∧
    (s.frmPut k x).flows = s.flows ∧ (s.frmPut k x).rx = s.rx ∧ (s.frmPut k x).hstreams = s.hstreams ∧
    (s.frmPut k x).meshes = s.meshes ∧ (s.frmPut k x).fet = s.fet ∧ (s.frmPut k x).col = s.col ∧
    (s.frmPut k x).emit = s.emit ∧ (s.frmPut k x).capt = s.capt ∧ (s.frmPut k x).inputs = s.inputs ∧
    (s.frmPut k x).senses = s.senses ∧ (s.frmPut k x).cstreams = s.cstreams ∧ (s.frmPut k x).slots = s.slots ∧
    (s.frmPut k x).pool = s.pool ∧ (s.frmPut k x).mir = s.mir ∧ (s.frmPut k x).capo = s.capo ∧
    (s.frmPut k x).capoC = s.capoC ∧ (s.frmPut k x).energy = s.energy ∧ (s.frmPut k x).pegs = s.pegs ∧
    (s.frmPut k x).runs = s.runs ∧ (s.frmPut k x).domains = s.domains ∧ (s.frmPut k x).therm = s.therm ∧
    (s.frmPut k x).mem = s.mem ∧ (s.frmPut k x).chans = s.chans ∧ (s.frmPut k x).queues = s.queues ∧
    (s.frmPut k x).fw = s.fw ∧ (s.frmPut k x).svc = s.svc ∧ (s.frmPut k x).pwr = s.pwr ∧ (s.frmPut k x).out = s.out ∧
    (s.frmPut k x).free = s.free ∧ (s.frmPut k x).pending = s.pending := by
  repeat' constructor

theorem State.frmAt_frmPut (s : State) (k j : Nat) (x : FrameSt) :
    (s.frmPut k x).frmAt j = if k = j then x else s.frmAt j := tgetD_tput ..

@[simp] theorem State.frmPut_entries (s : State) (k i b : Nat) (x : FrameSt) :
    (s.frmPut k x).val i b = s.val i b ∧ (s.frmPut k x).int i b = s.int i b ∧
    (s.frmPut k x).nat i b = s.nat i b ∧ (s.frmPut k x).blob i b = s.blob i b ∧
    (s.frmPut k x).f32 i b = s.f32 i b ∧ (s.frmPut k x).fix i b = s.fix i b := by
  repeat' constructor

@[simp] theorem State.bowPut_fields (s : State) (k : Nat) (x : BowSt) :
    (s.bowPut k x).dict = s.dict ∧ (s.bowPut k x).oz = s.oz ∧ (s.bowPut k x).store = s.store ∧
    (s.bowPut k x).clk = s.clk ∧ (s.bowPut k x).servo = s.servo ∧ (s.bowPut k x).syncs = s.syncs ∧
    (s.bowPut k x).shafts = s.shafts ∧ (s.bowPut k x).frm = s.frm ∧ (s.bowPut k x).beacon = s.beacon ∧
    (s.bowPut k x).plc = s.plc ∧ (s.bowPut k x).lanes = s.lanes ∧ (s.bowPut k x).spares = s.spares ∧
    (s.bowPut k x).rets = s.rets ∧ (s.bowPut k x).ledger = s.ledger ∧ (s.bowPut k x).canvases = s.canvases ∧
    (s.bowPut k x).flows = s.flows ∧ (s.bowPut k x).rx = s.rx ∧ (s.bowPut k x).hstreams = s.hstreams ∧
    (s.bowPut k x).meshes = s.meshes ∧ (s.bowPut k x).fet = s.fet ∧ (s.bowPut k x).col = s.col ∧
    (s.bowPut k x).emit = s.emit ∧ (s.bowPut k x).capt = s.capt ∧ (s.bowPut k x).inputs = s.inputs ∧
    (s.bowPut k x).senses = s.senses ∧ (s.bowPut k x).cstreams = s.cstreams ∧ (s.bowPut k x).slots = s.slots ∧
    (s.bowPut k x).pool = s.pool ∧ (s.bowPut k x).mir = s.mir ∧ (s.bowPut k x).capo = s.capo ∧
    (s.bowPut k x).capoC = s.capoC ∧ (s.bowPut k x).energy = s.energy ∧ (s.bowPut k x).pegs = s.pegs ∧
    (s.bowPut k x).runs = s.runs ∧ (s.bowPut k x).domains = s.domains ∧ (s.bowPut k x).therm = s.therm ∧
    (s.bowPut k x).mem = s.mem ∧ (s.bowPut k x).chans = s.chans ∧ (s.bowPut k x).queues = s.queues ∧
    (s.bowPut k x).fw = s.fw ∧ (s.bowPut k x).svc = s.svc ∧ (s.bowPut k x).pwr = s.pwr ∧ (s.bowPut k x).out = s.out ∧
    (s.bowPut k x).free = s.free ∧ (s.bowPut k x).pending = s.pending := by
  repeat' constructor

theorem State.bowAt_bowPut (s : State) (k j : Nat) (x : BowSt) :
    (s.bowPut k x).bowAt j = if k = j then x else s.bowAt j := tgetD_tput ..

@[simp] theorem State.bowPut_entries (s : State) (k i b : Nat) (x : BowSt) :
    (s.bowPut k x).val i b = s.val i b ∧ (s.bowPut k x).int i b = s.int i b ∧
    (s.bowPut k x).nat i b = s.nat i b ∧ (s.bowPut k x).blob i b = s.blob i b ∧
    (s.bowPut k x).f32 i b = s.f32 i b ∧ (s.bowPut k x).fix i b = s.fix i b := by
  repeat' constructor

@[simp] theorem State.plcPut_fields (s : State) (k : Nat) (x : PlaceSt) :
    (s.plcPut k x).dict = s.dict ∧ (s.plcPut k x).oz = s.oz ∧ (s.plcPut k x).store = s.store ∧
    (s.plcPut k x).clk = s.clk ∧ (s.plcPut k x).servo = s.servo ∧ (s.plcPut k x).syncs = s.syncs ∧
    (s.plcPut k x).shafts = s.shafts ∧ (s.plcPut k x).frm = s.frm ∧ (s.plcPut k x).beacon = s.beacon ∧
    (s.plcPut k x).bow = s.bow ∧ (s.plcPut k x).lanes = s.lanes ∧ (s.plcPut k x).spares = s.spares ∧
    (s.plcPut k x).rets = s.rets ∧ (s.plcPut k x).ledger = s.ledger ∧ (s.plcPut k x).canvases = s.canvases ∧
    (s.plcPut k x).flows = s.flows ∧ (s.plcPut k x).rx = s.rx ∧ (s.plcPut k x).hstreams = s.hstreams ∧
    (s.plcPut k x).meshes = s.meshes ∧ (s.plcPut k x).fet = s.fet ∧ (s.plcPut k x).col = s.col ∧
    (s.plcPut k x).emit = s.emit ∧ (s.plcPut k x).capt = s.capt ∧ (s.plcPut k x).inputs = s.inputs ∧
    (s.plcPut k x).senses = s.senses ∧ (s.plcPut k x).cstreams = s.cstreams ∧ (s.plcPut k x).slots = s.slots ∧
    (s.plcPut k x).pool = s.pool ∧ (s.plcPut k x).mir = s.mir ∧ (s.plcPut k x).capo = s.capo ∧
    (s.plcPut k x).capoC = s.capoC ∧ (s.plcPut k x).energy = s.energy ∧ (s.plcPut k x).pegs = s.pegs ∧
    (s.plcPut k x).runs = s.runs ∧ (s.plcPut k x).domains = s.domains ∧ (s.plcPut k x).therm = s.therm ∧
    (s.plcPut k x).mem = s.mem ∧ (s.plcPut k x).chans = s.chans ∧ (s.plcPut k x).queues = s.queues ∧
    (s.plcPut k x).fw = s.fw ∧ (s.plcPut k x).svc = s.svc ∧ (s.plcPut k x).pwr = s.pwr ∧ (s.plcPut k x).out = s.out ∧
    (s.plcPut k x).free = s.free ∧ (s.plcPut k x).pending = s.pending := by
  repeat' constructor

theorem State.plcAt_plcPut (s : State) (k j : Nat) (x : PlaceSt) :
    (s.plcPut k x).plcAt j = if k = j then x else s.plcAt j := tgetD_tput ..

@[simp] theorem State.plcPut_entries (s : State) (k i b : Nat) (x : PlaceSt) :
    (s.plcPut k x).val i b = s.val i b ∧ (s.plcPut k x).int i b = s.int i b ∧
    (s.plcPut k x).nat i b = s.nat i b ∧ (s.plcPut k x).blob i b = s.blob i b ∧
    (s.plcPut k x).f32 i b = s.f32 i b ∧ (s.plcPut k x).fix i b = s.fix i b := by
  repeat' constructor

@[simp] theorem State.lanesPut_fields (s : State) (k : Nat) (x : LaneSt) :
    (s.lanesPut k x).dict = s.dict ∧ (s.lanesPut k x).oz = s.oz ∧ (s.lanesPut k x).store = s.store ∧
    (s.lanesPut k x).clk = s.clk ∧ (s.lanesPut k x).servo = s.servo ∧ (s.lanesPut k x).syncs = s.syncs ∧
    (s.lanesPut k x).shafts = s.shafts ∧ (s.lanesPut k x).frm = s.frm ∧ (s.lanesPut k x).beacon = s.beacon ∧
    (s.lanesPut k x).bow = s.bow ∧ (s.lanesPut k x).plc = s.plc ∧ (s.lanesPut k x).spares = s.spares ∧
    (s.lanesPut k x).rets = s.rets ∧ (s.lanesPut k x).ledger = s.ledger ∧ (s.lanesPut k x).canvases = s.canvases ∧
    (s.lanesPut k x).flows = s.flows ∧ (s.lanesPut k x).rx = s.rx ∧ (s.lanesPut k x).hstreams = s.hstreams ∧
    (s.lanesPut k x).meshes = s.meshes ∧ (s.lanesPut k x).fet = s.fet ∧ (s.lanesPut k x).col = s.col ∧
    (s.lanesPut k x).emit = s.emit ∧ (s.lanesPut k x).capt = s.capt ∧ (s.lanesPut k x).inputs = s.inputs ∧
    (s.lanesPut k x).senses = s.senses ∧ (s.lanesPut k x).cstreams = s.cstreams ∧ (s.lanesPut k x).slots = s.slots ∧
    (s.lanesPut k x).pool = s.pool ∧ (s.lanesPut k x).mir = s.mir ∧ (s.lanesPut k x).capo = s.capo ∧
    (s.lanesPut k x).capoC = s.capoC ∧ (s.lanesPut k x).energy = s.energy ∧ (s.lanesPut k x).pegs = s.pegs ∧
    (s.lanesPut k x).runs = s.runs ∧ (s.lanesPut k x).domains = s.domains ∧ (s.lanesPut k x).therm = s.therm ∧
    (s.lanesPut k x).mem = s.mem ∧ (s.lanesPut k x).chans = s.chans ∧ (s.lanesPut k x).queues = s.queues ∧
    (s.lanesPut k x).fw = s.fw ∧ (s.lanesPut k x).svc = s.svc ∧ (s.lanesPut k x).pwr = s.pwr ∧
    (s.lanesPut k x).out = s.out ∧ (s.lanesPut k x).free = s.free ∧ (s.lanesPut k x).pending = s.pending := by
  repeat' constructor

theorem State.lanesAt_lanesPut (s : State) (k j : Nat) (x : LaneSt) :
    (s.lanesPut k x).lanesAt j = if k = j then x else s.lanesAt j := tgetD_tput ..

@[simp] theorem State.lanesPut_entries (s : State) (k i b : Nat) (x : LaneSt) :
    (s.lanesPut k x).val i b = s.val i b ∧ (s.lanesPut k x).int i b = s.int i b ∧
    (s.lanesPut k x).nat i b = s.nat i b ∧ (s.lanesPut k x).blob i b = s.blob i b ∧
    (s.lanesPut k x).f32 i b = s.f32 i b ∧ (s.lanesPut k x).fix i b = s.fix i b := by
  repeat' constructor

@[simp] theorem State.sparesPut_fields (s : State) (k : Nat) (x : SpareSt) :
    (s.sparesPut k x).dict = s.dict ∧ (s.sparesPut k x).oz = s.oz ∧ (s.sparesPut k x).store = s.store ∧
    (s.sparesPut k x).clk = s.clk ∧ (s.sparesPut k x).servo = s.servo ∧ (s.sparesPut k x).syncs = s.syncs ∧
    (s.sparesPut k x).shafts = s.shafts ∧ (s.sparesPut k x).frm = s.frm ∧ (s.sparesPut k x).beacon = s.beacon ∧
    (s.sparesPut k x).bow = s.bow ∧ (s.sparesPut k x).plc = s.plc ∧ (s.sparesPut k x).lanes = s.lanes ∧
    (s.sparesPut k x).rets = s.rets ∧ (s.sparesPut k x).ledger = s.ledger ∧ (s.sparesPut k x).canvases = s.canvases ∧
    (s.sparesPut k x).flows = s.flows ∧ (s.sparesPut k x).rx = s.rx ∧ (s.sparesPut k x).hstreams = s.hstreams ∧
    (s.sparesPut k x).meshes = s.meshes ∧ (s.sparesPut k x).fet = s.fet ∧ (s.sparesPut k x).col = s.col ∧
    (s.sparesPut k x).emit = s.emit ∧ (s.sparesPut k x).capt = s.capt ∧ (s.sparesPut k x).inputs = s.inputs ∧
    (s.sparesPut k x).senses = s.senses ∧ (s.sparesPut k x).cstreams = s.cstreams ∧
    (s.sparesPut k x).slots = s.slots ∧ (s.sparesPut k x).pool = s.pool ∧ (s.sparesPut k x).mir = s.mir ∧
    (s.sparesPut k x).capo = s.capo ∧ (s.sparesPut k x).capoC = s.capoC ∧ (s.sparesPut k x).energy = s.energy ∧
    (s.sparesPut k x).pegs = s.pegs ∧ (s.sparesPut k x).runs = s.runs ∧ (s.sparesPut k x).domains = s.domains ∧
    (s.sparesPut k x).therm = s.therm ∧ (s.sparesPut k x).mem = s.mem ∧ (s.sparesPut k x).chans = s.chans ∧
    (s.sparesPut k x).queues = s.queues ∧ (s.sparesPut k x).fw = s.fw ∧ (s.sparesPut k x).svc = s.svc ∧
    (s.sparesPut k x).pwr = s.pwr ∧ (s.sparesPut k x).out = s.out ∧ (s.sparesPut k x).free = s.free ∧
    (s.sparesPut k x).pending = s.pending := by
  repeat' constructor

theorem State.sparesAt_sparesPut (s : State) (k j : Nat) (x : SpareSt) :
    (s.sparesPut k x).sparesAt j = if k = j then x else s.sparesAt j := tgetD_tput ..

@[simp] theorem State.sparesPut_entries (s : State) (k i b : Nat) (x : SpareSt) :
    (s.sparesPut k x).val i b = s.val i b ∧ (s.sparesPut k x).int i b = s.int i b ∧
    (s.sparesPut k x).nat i b = s.nat i b ∧ (s.sparesPut k x).blob i b = s.blob i b ∧
    (s.sparesPut k x).f32 i b = s.f32 i b ∧ (s.sparesPut k x).fix i b = s.fix i b := by
  repeat' constructor

@[simp] theorem State.retsPut_fields (s : State) (k : Nat) (x : RetSt) :
    (s.retsPut k x).dict = s.dict ∧ (s.retsPut k x).oz = s.oz ∧ (s.retsPut k x).store = s.store ∧
    (s.retsPut k x).clk = s.clk ∧ (s.retsPut k x).servo = s.servo ∧ (s.retsPut k x).syncs = s.syncs ∧
    (s.retsPut k x).shafts = s.shafts ∧ (s.retsPut k x).frm = s.frm ∧ (s.retsPut k x).beacon = s.beacon ∧
    (s.retsPut k x).bow = s.bow ∧ (s.retsPut k x).plc = s.plc ∧ (s.retsPut k x).lanes = s.lanes ∧
    (s.retsPut k x).spares = s.spares ∧ (s.retsPut k x).ledger = s.ledger ∧ (s.retsPut k x).canvases = s.canvases ∧
    (s.retsPut k x).flows = s.flows ∧ (s.retsPut k x).rx = s.rx ∧ (s.retsPut k x).hstreams = s.hstreams ∧
    (s.retsPut k x).meshes = s.meshes ∧ (s.retsPut k x).fet = s.fet ∧ (s.retsPut k x).col = s.col ∧
    (s.retsPut k x).emit = s.emit ∧ (s.retsPut k x).capt = s.capt ∧ (s.retsPut k x).inputs = s.inputs ∧
    (s.retsPut k x).senses = s.senses ∧ (s.retsPut k x).cstreams = s.cstreams ∧ (s.retsPut k x).slots = s.slots ∧
    (s.retsPut k x).pool = s.pool ∧ (s.retsPut k x).mir = s.mir ∧ (s.retsPut k x).capo = s.capo ∧
    (s.retsPut k x).capoC = s.capoC ∧ (s.retsPut k x).energy = s.energy ∧ (s.retsPut k x).pegs = s.pegs ∧
    (s.retsPut k x).runs = s.runs ∧ (s.retsPut k x).domains = s.domains ∧ (s.retsPut k x).therm = s.therm ∧
    (s.retsPut k x).mem = s.mem ∧ (s.retsPut k x).chans = s.chans ∧ (s.retsPut k x).queues = s.queues ∧
    (s.retsPut k x).fw = s.fw ∧ (s.retsPut k x).svc = s.svc ∧ (s.retsPut k x).pwr = s.pwr ∧
    (s.retsPut k x).out = s.out ∧ (s.retsPut k x).free = s.free ∧ (s.retsPut k x).pending = s.pending := by
  repeat' constructor

theorem State.retsAt_retsPut (s : State) (k j : Nat) (x : RetSt) :
    (s.retsPut k x).retsAt j = if k = j then x else s.retsAt j := tgetD_tput ..

@[simp] theorem State.retsPut_entries (s : State) (k i b : Nat) (x : RetSt) :
    (s.retsPut k x).val i b = s.val i b ∧ (s.retsPut k x).int i b = s.int i b ∧
    (s.retsPut k x).nat i b = s.nat i b ∧ (s.retsPut k x).blob i b = s.blob i b ∧
    (s.retsPut k x).f32 i b = s.f32 i b ∧ (s.retsPut k x).fix i b = s.fix i b := by
  repeat' constructor

@[simp] theorem State.canvasesPut_fields (s : State) (k : Nat) (x : CanvasSt) :
    (s.canvasesPut k x).dict = s.dict ∧ (s.canvasesPut k x).oz = s.oz ∧ (s.canvasesPut k x).store = s.store ∧
    (s.canvasesPut k x).clk = s.clk ∧ (s.canvasesPut k x).servo = s.servo ∧ (s.canvasesPut k x).syncs = s.syncs ∧
    (s.canvasesPut k x).shafts = s.shafts ∧ (s.canvasesPut k x).frm = s.frm ∧ (s.canvasesPut k x).beacon = s.beacon ∧
    (s.canvasesPut k x).bow = s.bow ∧ (s.canvasesPut k x).plc = s.plc ∧ (s.canvasesPut k x).lanes = s.lanes ∧
    (s.canvasesPut k x).spares = s.spares ∧ (s.canvasesPut k x).rets = s.rets ∧
    (s.canvasesPut k x).ledger = s.ledger ∧ (s.canvasesPut k x).flows = s.flows ∧ (s.canvasesPut k x).rx = s.rx ∧
    (s.canvasesPut k x).hstreams = s.hstreams ∧ (s.canvasesPut k x).meshes = s.meshes ∧
    (s.canvasesPut k x).fet = s.fet ∧ (s.canvasesPut k x).col = s.col ∧ (s.canvasesPut k x).emit = s.emit ∧
    (s.canvasesPut k x).capt = s.capt ∧ (s.canvasesPut k x).inputs = s.inputs ∧
    (s.canvasesPut k x).senses = s.senses ∧ (s.canvasesPut k x).cstreams = s.cstreams ∧
    (s.canvasesPut k x).slots = s.slots ∧ (s.canvasesPut k x).pool = s.pool ∧ (s.canvasesPut k x).mir = s.mir ∧
    (s.canvasesPut k x).capo = s.capo ∧ (s.canvasesPut k x).capoC = s.capoC ∧ (s.canvasesPut k x).energy = s.energy ∧
    (s.canvasesPut k x).pegs = s.pegs ∧ (s.canvasesPut k x).runs = s.runs ∧ (s.canvasesPut k x).domains = s.domains ∧
    (s.canvasesPut k x).therm = s.therm ∧ (s.canvasesPut k x).mem = s.mem ∧ (s.canvasesPut k x).chans = s.chans ∧
    (s.canvasesPut k x).queues = s.queues ∧ (s.canvasesPut k x).fw = s.fw ∧ (s.canvasesPut k x).svc = s.svc ∧
    (s.canvasesPut k x).pwr = s.pwr ∧ (s.canvasesPut k x).out = s.out ∧ (s.canvasesPut k x).free = s.free ∧
    (s.canvasesPut k x).pending = s.pending := by
  repeat' constructor

theorem State.canvasesAt_canvasesPut (s : State) (k j : Nat) (x : CanvasSt) :
    (s.canvasesPut k x).canvasesAt j = if k = j then x else s.canvasesAt j := tgetD_tput ..

@[simp] theorem State.canvasesPut_entries (s : State) (k i b : Nat) (x : CanvasSt) :
    (s.canvasesPut k x).val i b = s.val i b ∧ (s.canvasesPut k x).int i b = s.int i b ∧
    (s.canvasesPut k x).nat i b = s.nat i b ∧ (s.canvasesPut k x).blob i b = s.blob i b ∧
    (s.canvasesPut k x).f32 i b = s.f32 i b ∧ (s.canvasesPut k x).fix i b = s.fix i b := by
  repeat' constructor

@[simp] theorem State.flowsPut_fields (s : State) (k : Nat) (x : FlowSt) :
    (s.flowsPut k x).dict = s.dict ∧ (s.flowsPut k x).oz = s.oz ∧ (s.flowsPut k x).store = s.store ∧
    (s.flowsPut k x).clk = s.clk ∧ (s.flowsPut k x).servo = s.servo ∧ (s.flowsPut k x).syncs = s.syncs ∧
    (s.flowsPut k x).shafts = s.shafts ∧ (s.flowsPut k x).frm = s.frm ∧ (s.flowsPut k x).beacon = s.beacon ∧
    (s.flowsPut k x).bow = s.bow ∧ (s.flowsPut k x).plc = s.plc ∧ (s.flowsPut k x).lanes = s.lanes ∧
    (s.flowsPut k x).spares = s.spares ∧ (s.flowsPut k x).rets = s.rets ∧ (s.flowsPut k x).ledger = s.ledger ∧
    (s.flowsPut k x).canvases = s.canvases ∧ (s.flowsPut k x).rx = s.rx ∧ (s.flowsPut k x).hstreams = s.hstreams ∧
    (s.flowsPut k x).meshes = s.meshes ∧ (s.flowsPut k x).fet = s.fet ∧ (s.flowsPut k x).col = s.col ∧
    (s.flowsPut k x).emit = s.emit ∧ (s.flowsPut k x).capt = s.capt ∧ (s.flowsPut k x).inputs = s.inputs ∧
    (s.flowsPut k x).senses = s.senses ∧ (s.flowsPut k x).cstreams = s.cstreams ∧ (s.flowsPut k x).slots = s.slots ∧
    (s.flowsPut k x).pool = s.pool ∧ (s.flowsPut k x).mir = s.mir ∧ (s.flowsPut k x).capo = s.capo ∧
    (s.flowsPut k x).capoC = s.capoC ∧ (s.flowsPut k x).energy = s.energy ∧ (s.flowsPut k x).pegs = s.pegs ∧
    (s.flowsPut k x).runs = s.runs ∧ (s.flowsPut k x).domains = s.domains ∧ (s.flowsPut k x).therm = s.therm ∧
    (s.flowsPut k x).mem = s.mem ∧ (s.flowsPut k x).chans = s.chans ∧ (s.flowsPut k x).queues = s.queues ∧
    (s.flowsPut k x).fw = s.fw ∧ (s.flowsPut k x).svc = s.svc ∧ (s.flowsPut k x).pwr = s.pwr ∧
    (s.flowsPut k x).out = s.out ∧ (s.flowsPut k x).free = s.free ∧ (s.flowsPut k x).pending = s.pending := by
  repeat' constructor

theorem State.flowsAt_flowsPut (s : State) (k j : Nat) (x : FlowSt) :
    (s.flowsPut k x).flowsAt j = if k = j then x else s.flowsAt j := tgetD_tput ..

@[simp] theorem State.flowsPut_entries (s : State) (k i b : Nat) (x : FlowSt) :
    (s.flowsPut k x).val i b = s.val i b ∧ (s.flowsPut k x).int i b = s.int i b ∧
    (s.flowsPut k x).nat i b = s.nat i b ∧ (s.flowsPut k x).blob i b = s.blob i b ∧
    (s.flowsPut k x).f32 i b = s.f32 i b ∧ (s.flowsPut k x).fix i b = s.fix i b := by
  repeat' constructor

@[simp] theorem State.hstreamsPut_fields (s : State) (k : Nat) (x : HStreamSt) :
    (s.hstreamsPut k x).dict = s.dict ∧ (s.hstreamsPut k x).oz = s.oz ∧ (s.hstreamsPut k x).store = s.store ∧
    (s.hstreamsPut k x).clk = s.clk ∧ (s.hstreamsPut k x).servo = s.servo ∧ (s.hstreamsPut k x).syncs = s.syncs ∧
    (s.hstreamsPut k x).shafts = s.shafts ∧ (s.hstreamsPut k x).frm = s.frm ∧ (s.hstreamsPut k x).beacon = s.beacon ∧
    (s.hstreamsPut k x).bow = s.bow ∧ (s.hstreamsPut k x).plc = s.plc ∧ (s.hstreamsPut k x).lanes = s.lanes ∧
    (s.hstreamsPut k x).spares = s.spares ∧ (s.hstreamsPut k x).rets = s.rets ∧
    (s.hstreamsPut k x).ledger = s.ledger ∧ (s.hstreamsPut k x).canvases = s.canvases ∧
    (s.hstreamsPut k x).flows = s.flows ∧ (s.hstreamsPut k x).rx = s.rx ∧ (s.hstreamsPut k x).meshes = s.meshes ∧
    (s.hstreamsPut k x).fet = s.fet ∧ (s.hstreamsPut k x).col = s.col ∧ (s.hstreamsPut k x).emit = s.emit ∧
    (s.hstreamsPut k x).capt = s.capt ∧ (s.hstreamsPut k x).inputs = s.inputs ∧
    (s.hstreamsPut k x).senses = s.senses ∧ (s.hstreamsPut k x).cstreams = s.cstreams ∧
    (s.hstreamsPut k x).slots = s.slots ∧ (s.hstreamsPut k x).pool = s.pool ∧ (s.hstreamsPut k x).mir = s.mir ∧
    (s.hstreamsPut k x).capo = s.capo ∧ (s.hstreamsPut k x).capoC = s.capoC ∧ (s.hstreamsPut k x).energy = s.energy ∧
    (s.hstreamsPut k x).pegs = s.pegs ∧ (s.hstreamsPut k x).runs = s.runs ∧ (s.hstreamsPut k x).domains = s.domains ∧
    (s.hstreamsPut k x).therm = s.therm ∧ (s.hstreamsPut k x).mem = s.mem ∧ (s.hstreamsPut k x).chans = s.chans ∧
    (s.hstreamsPut k x).queues = s.queues ∧ (s.hstreamsPut k x).fw = s.fw ∧ (s.hstreamsPut k x).svc = s.svc ∧
    (s.hstreamsPut k x).pwr = s.pwr ∧ (s.hstreamsPut k x).out = s.out ∧ (s.hstreamsPut k x).free = s.free ∧
    (s.hstreamsPut k x).pending = s.pending := by
  repeat' constructor

theorem State.hstreamsAt_hstreamsPut (s : State) (k j : Nat) (x : HStreamSt) :
    (s.hstreamsPut k x).hstreamsAt j = if k = j then x else s.hstreamsAt j := tgetD_tput ..

@[simp] theorem State.hstreamsPut_entries (s : State) (k i b : Nat) (x : HStreamSt) :
    (s.hstreamsPut k x).val i b = s.val i b ∧ (s.hstreamsPut k x).int i b = s.int i b ∧
    (s.hstreamsPut k x).nat i b = s.nat i b ∧ (s.hstreamsPut k x).blob i b = s.blob i b ∧
    (s.hstreamsPut k x).f32 i b = s.f32 i b ∧ (s.hstreamsPut k x).fix i b = s.fix i b := by
  repeat' constructor

@[simp] theorem State.meshesPut_fields (s : State) (k : Nat) (x : MeshSt) :
    (s.meshesPut k x).dict = s.dict ∧ (s.meshesPut k x).oz = s.oz ∧ (s.meshesPut k x).store = s.store ∧
    (s.meshesPut k x).clk = s.clk ∧ (s.meshesPut k x).servo = s.servo ∧ (s.meshesPut k x).syncs = s.syncs ∧
    (s.meshesPut k x).shafts = s.shafts ∧ (s.meshesPut k x).frm = s.frm ∧ (s.meshesPut k x).beacon = s.beacon ∧
    (s.meshesPut k x).bow = s.bow ∧ (s.meshesPut k x).plc = s.plc ∧ (s.meshesPut k x).lanes = s.lanes ∧
    (s.meshesPut k x).spares = s.spares ∧ (s.meshesPut k x).rets = s.rets ∧ (s.meshesPut k x).ledger = s.ledger ∧
    (s.meshesPut k x).canvases = s.canvases ∧ (s.meshesPut k x).flows = s.flows ∧ (s.meshesPut k x).rx = s.rx ∧
    (s.meshesPut k x).hstreams = s.hstreams ∧ (s.meshesPut k x).fet = s.fet ∧ (s.meshesPut k x).col = s.col ∧
    (s.meshesPut k x).emit = s.emit ∧ (s.meshesPut k x).capt = s.capt ∧ (s.meshesPut k x).inputs = s.inputs ∧
    (s.meshesPut k x).senses = s.senses ∧ (s.meshesPut k x).cstreams = s.cstreams ∧
    (s.meshesPut k x).slots = s.slots ∧ (s.meshesPut k x).pool = s.pool ∧ (s.meshesPut k x).mir = s.mir ∧
    (s.meshesPut k x).capo = s.capo ∧ (s.meshesPut k x).capoC = s.capoC ∧ (s.meshesPut k x).energy = s.energy ∧
    (s.meshesPut k x).pegs = s.pegs ∧ (s.meshesPut k x).runs = s.runs ∧ (s.meshesPut k x).domains = s.domains ∧
    (s.meshesPut k x).therm = s.therm ∧ (s.meshesPut k x).mem = s.mem ∧ (s.meshesPut k x).chans = s.chans ∧
    (s.meshesPut k x).queues = s.queues ∧ (s.meshesPut k x).fw = s.fw ∧ (s.meshesPut k x).svc = s.svc ∧
    (s.meshesPut k x).pwr = s.pwr ∧ (s.meshesPut k x).out = s.out ∧ (s.meshesPut k x).free = s.free ∧
    (s.meshesPut k x).pending = s.pending := by
  repeat' constructor

theorem State.meshesAt_meshesPut (s : State) (k j : Nat) (x : MeshSt) :
    (s.meshesPut k x).meshesAt j = if k = j then x else s.meshesAt j := tgetD_tput ..

@[simp] theorem State.meshesPut_entries (s : State) (k i b : Nat) (x : MeshSt) :
    (s.meshesPut k x).val i b = s.val i b ∧ (s.meshesPut k x).int i b = s.int i b ∧
    (s.meshesPut k x).nat i b = s.nat i b ∧ (s.meshesPut k x).blob i b = s.blob i b ∧
    (s.meshesPut k x).f32 i b = s.f32 i b ∧ (s.meshesPut k x).fix i b = s.fix i b := by
  repeat' constructor

@[simp] theorem State.fetPut_fields (s : State) (k : Nat) (x : FetchSt) :
    (s.fetPut k x).dict = s.dict ∧ (s.fetPut k x).oz = s.oz ∧ (s.fetPut k x).store = s.store ∧
    (s.fetPut k x).clk = s.clk ∧ (s.fetPut k x).servo = s.servo ∧ (s.fetPut k x).syncs = s.syncs ∧
    (s.fetPut k x).shafts = s.shafts ∧ (s.fetPut k x).frm = s.frm ∧ (s.fetPut k x).beacon = s.beacon ∧
    (s.fetPut k x).bow = s.bow ∧ (s.fetPut k x).plc = s.plc ∧ (s.fetPut k x).lanes = s.lanes ∧
    (s.fetPut k x).spares = s.spares ∧ (s.fetPut k x).rets = s.rets ∧ (s.fetPut k x).ledger = s.ledger ∧
    (s.fetPut k x).canvases = s.canvases ∧ (s.fetPut k x).flows = s.flows ∧ (s.fetPut k x).rx = s.rx ∧
    (s.fetPut k x).hstreams = s.hstreams ∧ (s.fetPut k x).meshes = s.meshes ∧ (s.fetPut k x).col = s.col ∧
    (s.fetPut k x).emit = s.emit ∧ (s.fetPut k x).capt = s.capt ∧ (s.fetPut k x).inputs = s.inputs ∧
    (s.fetPut k x).senses = s.senses ∧ (s.fetPut k x).cstreams = s.cstreams ∧ (s.fetPut k x).slots = s.slots ∧
    (s.fetPut k x).pool = s.pool ∧ (s.fetPut k x).mir = s.mir ∧ (s.fetPut k x).capo = s.capo ∧
    (s.fetPut k x).capoC = s.capoC ∧ (s.fetPut k x).energy = s.energy ∧ (s.fetPut k x).pegs = s.pegs ∧
    (s.fetPut k x).runs = s.runs ∧ (s.fetPut k x).domains = s.domains ∧ (s.fetPut k x).therm = s.therm ∧
    (s.fetPut k x).mem = s.mem ∧ (s.fetPut k x).chans = s.chans ∧ (s.fetPut k x).queues = s.queues ∧
    (s.fetPut k x).fw = s.fw ∧ (s.fetPut k x).svc = s.svc ∧ (s.fetPut k x).pwr = s.pwr ∧ (s.fetPut k x).out = s.out ∧
    (s.fetPut k x).free = s.free ∧ (s.fetPut k x).pending = s.pending := by
  repeat' constructor

theorem State.fetAt_fetPut (s : State) (k j : Nat) (x : FetchSt) :
    (s.fetPut k x).fetAt j = if k = j then x else s.fetAt j := tgetD_tput ..

@[simp] theorem State.fetPut_entries (s : State) (k i b : Nat) (x : FetchSt) :
    (s.fetPut k x).val i b = s.val i b ∧ (s.fetPut k x).int i b = s.int i b ∧
    (s.fetPut k x).nat i b = s.nat i b ∧ (s.fetPut k x).blob i b = s.blob i b ∧
    (s.fetPut k x).f32 i b = s.f32 i b ∧ (s.fetPut k x).fix i b = s.fix i b := by
  repeat' constructor

@[simp] theorem State.colPut_fields (s : State) (k : Nat) (x : ColourSt) :
    (s.colPut k x).dict = s.dict ∧ (s.colPut k x).oz = s.oz ∧ (s.colPut k x).store = s.store ∧
    (s.colPut k x).clk = s.clk ∧ (s.colPut k x).servo = s.servo ∧ (s.colPut k x).syncs = s.syncs ∧
    (s.colPut k x).shafts = s.shafts ∧ (s.colPut k x).frm = s.frm ∧ (s.colPut k x).beacon = s.beacon ∧
    (s.colPut k x).bow = s.bow ∧ (s.colPut k x).plc = s.plc ∧ (s.colPut k x).lanes = s.lanes ∧
    (s.colPut k x).spares = s.spares ∧ (s.colPut k x).rets = s.rets ∧ (s.colPut k x).ledger = s.ledger ∧
    (s.colPut k x).canvases = s.canvases ∧ (s.colPut k x).flows = s.flows ∧ (s.colPut k x).rx = s.rx ∧
    (s.colPut k x).hstreams = s.hstreams ∧ (s.colPut k x).meshes = s.meshes ∧ (s.colPut k x).fet = s.fet ∧
    (s.colPut k x).emit = s.emit ∧ (s.colPut k x).capt = s.capt ∧ (s.colPut k x).inputs = s.inputs ∧
    (s.colPut k x).senses = s.senses ∧ (s.colPut k x).cstreams = s.cstreams ∧ (s.colPut k x).slots = s.slots ∧
    (s.colPut k x).pool = s.pool ∧ (s.colPut k x).mir = s.mir ∧ (s.colPut k x).capo = s.capo ∧
    (s.colPut k x).capoC = s.capoC ∧ (s.colPut k x).energy = s.energy ∧ (s.colPut k x).pegs = s.pegs ∧
    (s.colPut k x).runs = s.runs ∧ (s.colPut k x).domains = s.domains ∧ (s.colPut k x).therm = s.therm ∧
    (s.colPut k x).mem = s.mem ∧ (s.colPut k x).chans = s.chans ∧ (s.colPut k x).queues = s.queues ∧
    (s.colPut k x).fw = s.fw ∧ (s.colPut k x).svc = s.svc ∧ (s.colPut k x).pwr = s.pwr ∧ (s.colPut k x).out = s.out ∧
    (s.colPut k x).free = s.free ∧ (s.colPut k x).pending = s.pending := by
  repeat' constructor

theorem State.colAt_colPut (s : State) (k j : Nat) (x : ColourSt) :
    (s.colPut k x).colAt j = if k = j then x else s.colAt j := tgetD_tput ..

@[simp] theorem State.colPut_entries (s : State) (k i b : Nat) (x : ColourSt) :
    (s.colPut k x).val i b = s.val i b ∧ (s.colPut k x).int i b = s.int i b ∧
    (s.colPut k x).nat i b = s.nat i b ∧ (s.colPut k x).blob i b = s.blob i b ∧
    (s.colPut k x).f32 i b = s.f32 i b ∧ (s.colPut k x).fix i b = s.fix i b := by
  repeat' constructor

@[simp] theorem State.emitPut_fields (s : State) (k : Nat) (x : EmitterSt) :
    (s.emitPut k x).dict = s.dict ∧ (s.emitPut k x).oz = s.oz ∧ (s.emitPut k x).store = s.store ∧
    (s.emitPut k x).clk = s.clk ∧ (s.emitPut k x).servo = s.servo ∧ (s.emitPut k x).syncs = s.syncs ∧
    (s.emitPut k x).shafts = s.shafts ∧ (s.emitPut k x).frm = s.frm ∧ (s.emitPut k x).beacon = s.beacon ∧
    (s.emitPut k x).bow = s.bow ∧ (s.emitPut k x).plc = s.plc ∧ (s.emitPut k x).lanes = s.lanes ∧
    (s.emitPut k x).spares = s.spares ∧ (s.emitPut k x).rets = s.rets ∧ (s.emitPut k x).ledger = s.ledger ∧
    (s.emitPut k x).canvases = s.canvases ∧ (s.emitPut k x).flows = s.flows ∧ (s.emitPut k x).rx = s.rx ∧
    (s.emitPut k x).hstreams = s.hstreams ∧ (s.emitPut k x).meshes = s.meshes ∧ (s.emitPut k x).fet = s.fet ∧
    (s.emitPut k x).col = s.col ∧ (s.emitPut k x).capt = s.capt ∧ (s.emitPut k x).inputs = s.inputs ∧
    (s.emitPut k x).senses = s.senses ∧ (s.emitPut k x).cstreams = s.cstreams ∧ (s.emitPut k x).slots = s.slots ∧
    (s.emitPut k x).pool = s.pool ∧ (s.emitPut k x).mir = s.mir ∧ (s.emitPut k x).capo = s.capo ∧
    (s.emitPut k x).capoC = s.capoC ∧ (s.emitPut k x).energy = s.energy ∧ (s.emitPut k x).pegs = s.pegs ∧
    (s.emitPut k x).runs = s.runs ∧ (s.emitPut k x).domains = s.domains ∧ (s.emitPut k x).therm = s.therm ∧
    (s.emitPut k x).mem = s.mem ∧ (s.emitPut k x).chans = s.chans ∧ (s.emitPut k x).queues = s.queues ∧
    (s.emitPut k x).fw = s.fw ∧ (s.emitPut k x).svc = s.svc ∧ (s.emitPut k x).pwr = s.pwr ∧
    (s.emitPut k x).out = s.out ∧ (s.emitPut k x).free = s.free ∧ (s.emitPut k x).pending = s.pending := by
  repeat' constructor

theorem State.emitAt_emitPut (s : State) (k j : Nat) (x : EmitterSt) :
    (s.emitPut k x).emitAt j = if k = j then x else s.emitAt j := tgetD_tput ..

@[simp] theorem State.emitPut_entries (s : State) (k i b : Nat) (x : EmitterSt) :
    (s.emitPut k x).val i b = s.val i b ∧ (s.emitPut k x).int i b = s.int i b ∧
    (s.emitPut k x).nat i b = s.nat i b ∧ (s.emitPut k x).blob i b = s.blob i b ∧
    (s.emitPut k x).f32 i b = s.f32 i b ∧ (s.emitPut k x).fix i b = s.fix i b := by
  repeat' constructor

@[simp] theorem State.inputsPut_fields (s : State) (k : Nat) (x : InputSt) :
    (s.inputsPut k x).dict = s.dict ∧ (s.inputsPut k x).oz = s.oz ∧ (s.inputsPut k x).store = s.store ∧
    (s.inputsPut k x).clk = s.clk ∧ (s.inputsPut k x).servo = s.servo ∧ (s.inputsPut k x).syncs = s.syncs ∧
    (s.inputsPut k x).shafts = s.shafts ∧ (s.inputsPut k x).frm = s.frm ∧ (s.inputsPut k x).beacon = s.beacon ∧
    (s.inputsPut k x).bow = s.bow ∧ (s.inputsPut k x).plc = s.plc ∧ (s.inputsPut k x).lanes = s.lanes ∧
    (s.inputsPut k x).spares = s.spares ∧ (s.inputsPut k x).rets = s.rets ∧ (s.inputsPut k x).ledger = s.ledger ∧
    (s.inputsPut k x).canvases = s.canvases ∧ (s.inputsPut k x).flows = s.flows ∧ (s.inputsPut k x).rx = s.rx ∧
    (s.inputsPut k x).hstreams = s.hstreams ∧ (s.inputsPut k x).meshes = s.meshes ∧ (s.inputsPut k x).fet = s.fet ∧
    (s.inputsPut k x).col = s.col ∧ (s.inputsPut k x).emit = s.emit ∧ (s.inputsPut k x).capt = s.capt ∧
    (s.inputsPut k x).senses = s.senses ∧ (s.inputsPut k x).cstreams = s.cstreams ∧
    (s.inputsPut k x).slots = s.slots ∧ (s.inputsPut k x).pool = s.pool ∧ (s.inputsPut k x).mir = s.mir ∧
    (s.inputsPut k x).capo = s.capo ∧ (s.inputsPut k x).capoC = s.capoC ∧ (s.inputsPut k x).energy = s.energy ∧
    (s.inputsPut k x).pegs = s.pegs ∧ (s.inputsPut k x).runs = s.runs ∧ (s.inputsPut k x).domains = s.domains ∧
    (s.inputsPut k x).therm = s.therm ∧ (s.inputsPut k x).mem = s.mem ∧ (s.inputsPut k x).chans = s.chans ∧
    (s.inputsPut k x).queues = s.queues ∧ (s.inputsPut k x).fw = s.fw ∧ (s.inputsPut k x).svc = s.svc ∧
    (s.inputsPut k x).pwr = s.pwr ∧ (s.inputsPut k x).out = s.out ∧ (s.inputsPut k x).free = s.free ∧
    (s.inputsPut k x).pending = s.pending := by
  repeat' constructor

theorem State.inputsAt_inputsPut (s : State) (k j : Nat) (x : InputSt) :
    (s.inputsPut k x).inputsAt j = if k = j then x else s.inputsAt j := tgetD_tput ..

@[simp] theorem State.inputsPut_entries (s : State) (k i b : Nat) (x : InputSt) :
    (s.inputsPut k x).val i b = s.val i b ∧ (s.inputsPut k x).int i b = s.int i b ∧
    (s.inputsPut k x).nat i b = s.nat i b ∧ (s.inputsPut k x).blob i b = s.blob i b ∧
    (s.inputsPut k x).f32 i b = s.f32 i b ∧ (s.inputsPut k x).fix i b = s.fix i b := by
  repeat' constructor

@[simp] theorem State.sensesPut_fields (s : State) (k : Nat) (x : SenseSt) :
    (s.sensesPut k x).dict = s.dict ∧ (s.sensesPut k x).oz = s.oz ∧ (s.sensesPut k x).store = s.store ∧
    (s.sensesPut k x).clk = s.clk ∧ (s.sensesPut k x).servo = s.servo ∧ (s.sensesPut k x).syncs = s.syncs ∧
    (s.sensesPut k x).shafts = s.shafts ∧ (s.sensesPut k x).frm = s.frm ∧ (s.sensesPut k x).beacon = s.beacon ∧
    (s.sensesPut k x).bow = s.bow ∧ (s.sensesPut k x).plc = s.plc ∧ (s.sensesPut k x).lanes = s.lanes ∧
    (s.sensesPut k x).spares = s.spares ∧ (s.sensesPut k x).rets = s.rets ∧ (s.sensesPut k x).ledger = s.ledger ∧
    (s.sensesPut k x).canvases = s.canvases ∧ (s.sensesPut k x).flows = s.flows ∧ (s.sensesPut k x).rx = s.rx ∧
    (s.sensesPut k x).hstreams = s.hstreams ∧ (s.sensesPut k x).meshes = s.meshes ∧ (s.sensesPut k x).fet = s.fet ∧
    (s.sensesPut k x).col = s.col ∧ (s.sensesPut k x).emit = s.emit ∧ (s.sensesPut k x).capt = s.capt ∧
    (s.sensesPut k x).inputs = s.inputs ∧ (s.sensesPut k x).cstreams = s.cstreams ∧
    (s.sensesPut k x).slots = s.slots ∧ (s.sensesPut k x).pool = s.pool ∧ (s.sensesPut k x).mir = s.mir ∧
    (s.sensesPut k x).capo = s.capo ∧ (s.sensesPut k x).capoC = s.capoC ∧ (s.sensesPut k x).energy = s.energy ∧
    (s.sensesPut k x).pegs = s.pegs ∧ (s.sensesPut k x).runs = s.runs ∧ (s.sensesPut k x).domains = s.domains ∧
    (s.sensesPut k x).therm = s.therm ∧ (s.sensesPut k x).mem = s.mem ∧ (s.sensesPut k x).chans = s.chans ∧
    (s.sensesPut k x).queues = s.queues ∧ (s.sensesPut k x).fw = s.fw ∧ (s.sensesPut k x).svc = s.svc ∧
    (s.sensesPut k x).pwr = s.pwr ∧ (s.sensesPut k x).out = s.out ∧ (s.sensesPut k x).free = s.free ∧
    (s.sensesPut k x).pending = s.pending := by
  repeat' constructor

theorem State.sensesAt_sensesPut (s : State) (k j : Nat) (x : SenseSt) :
    (s.sensesPut k x).sensesAt j = if k = j then x else s.sensesAt j := tgetD_tput ..

@[simp] theorem State.sensesPut_entries (s : State) (k i b : Nat) (x : SenseSt) :
    (s.sensesPut k x).val i b = s.val i b ∧ (s.sensesPut k x).int i b = s.int i b ∧
    (s.sensesPut k x).nat i b = s.nat i b ∧ (s.sensesPut k x).blob i b = s.blob i b ∧
    (s.sensesPut k x).f32 i b = s.f32 i b ∧ (s.sensesPut k x).fix i b = s.fix i b := by
  repeat' constructor

@[simp] theorem State.captPut_fields (s : State) (k : Nat) (x : CaptSt) :
    (s.captPut k x).dict = s.dict ∧ (s.captPut k x).oz = s.oz ∧ (s.captPut k x).store = s.store ∧
    (s.captPut k x).clk = s.clk ∧ (s.captPut k x).servo = s.servo ∧ (s.captPut k x).syncs = s.syncs ∧
    (s.captPut k x).shafts = s.shafts ∧ (s.captPut k x).frm = s.frm ∧ (s.captPut k x).beacon = s.beacon ∧
    (s.captPut k x).bow = s.bow ∧ (s.captPut k x).plc = s.plc ∧ (s.captPut k x).lanes = s.lanes ∧
    (s.captPut k x).spares = s.spares ∧ (s.captPut k x).rets = s.rets ∧ (s.captPut k x).ledger = s.ledger ∧
    (s.captPut k x).canvases = s.canvases ∧ (s.captPut k x).flows = s.flows ∧ (s.captPut k x).rx = s.rx ∧
    (s.captPut k x).hstreams = s.hstreams ∧ (s.captPut k x).meshes = s.meshes ∧ (s.captPut k x).fet = s.fet ∧
    (s.captPut k x).col = s.col ∧ (s.captPut k x).emit = s.emit ∧ (s.captPut k x).inputs = s.inputs ∧
    (s.captPut k x).senses = s.senses ∧ (s.captPut k x).cstreams = s.cstreams ∧ (s.captPut k x).slots = s.slots ∧
    (s.captPut k x).pool = s.pool ∧ (s.captPut k x).mir = s.mir ∧ (s.captPut k x).capo = s.capo ∧
    (s.captPut k x).capoC = s.capoC ∧ (s.captPut k x).energy = s.energy ∧ (s.captPut k x).pegs = s.pegs ∧
    (s.captPut k x).runs = s.runs ∧ (s.captPut k x).domains = s.domains ∧ (s.captPut k x).therm = s.therm ∧
    (s.captPut k x).mem = s.mem ∧ (s.captPut k x).chans = s.chans ∧ (s.captPut k x).queues = s.queues ∧
    (s.captPut k x).fw = s.fw ∧ (s.captPut k x).svc = s.svc ∧ (s.captPut k x).pwr = s.pwr ∧
    (s.captPut k x).out = s.out ∧ (s.captPut k x).free = s.free ∧ (s.captPut k x).pending = s.pending := by
  repeat' constructor

theorem State.captAt_captPut (s : State) (k j : Nat) (x : CaptSt) :
    (s.captPut k x).captAt j = if k = j then x else s.captAt j := tgetD_tput ..

@[simp] theorem State.captPut_entries (s : State) (k i b : Nat) (x : CaptSt) :
    (s.captPut k x).val i b = s.val i b ∧ (s.captPut k x).int i b = s.int i b ∧
    (s.captPut k x).nat i b = s.nat i b ∧ (s.captPut k x).blob i b = s.blob i b ∧
    (s.captPut k x).f32 i b = s.f32 i b ∧ (s.captPut k x).fix i b = s.fix i b := by
  repeat' constructor

@[simp] theorem State.cstreamsPut_fields (s : State) (k : Nat) (x : CStreamSt) :
    (s.cstreamsPut k x).dict = s.dict ∧ (s.cstreamsPut k x).oz = s.oz ∧ (s.cstreamsPut k x).store = s.store ∧
    (s.cstreamsPut k x).clk = s.clk ∧ (s.cstreamsPut k x).servo = s.servo ∧ (s.cstreamsPut k x).syncs = s.syncs ∧
    (s.cstreamsPut k x).shafts = s.shafts ∧ (s.cstreamsPut k x).frm = s.frm ∧ (s.cstreamsPut k x).beacon = s.beacon ∧
    (s.cstreamsPut k x).bow = s.bow ∧ (s.cstreamsPut k x).plc = s.plc ∧ (s.cstreamsPut k x).lanes = s.lanes ∧
    (s.cstreamsPut k x).spares = s.spares ∧ (s.cstreamsPut k x).rets = s.rets ∧
    (s.cstreamsPut k x).ledger = s.ledger ∧ (s.cstreamsPut k x).canvases = s.canvases ∧
    (s.cstreamsPut k x).flows = s.flows ∧ (s.cstreamsPut k x).rx = s.rx ∧ (s.cstreamsPut k x).hstreams = s.hstreams ∧
    (s.cstreamsPut k x).meshes = s.meshes ∧ (s.cstreamsPut k x).fet = s.fet ∧ (s.cstreamsPut k x).col = s.col ∧
    (s.cstreamsPut k x).emit = s.emit ∧ (s.cstreamsPut k x).capt = s.capt ∧ (s.cstreamsPut k x).inputs = s.inputs ∧
    (s.cstreamsPut k x).senses = s.senses ∧ (s.cstreamsPut k x).slots = s.slots ∧ (s.cstreamsPut k x).pool = s.pool ∧
    (s.cstreamsPut k x).mir = s.mir ∧ (s.cstreamsPut k x).capo = s.capo ∧ (s.cstreamsPut k x).capoC = s.capoC ∧
    (s.cstreamsPut k x).energy = s.energy ∧ (s.cstreamsPut k x).pegs = s.pegs ∧ (s.cstreamsPut k x).runs = s.runs ∧
    (s.cstreamsPut k x).domains = s.domains ∧ (s.cstreamsPut k x).therm = s.therm ∧ (s.cstreamsPut k x).mem = s.mem ∧
    (s.cstreamsPut k x).chans = s.chans ∧ (s.cstreamsPut k x).queues = s.queues ∧ (s.cstreamsPut k x).fw = s.fw ∧
    (s.cstreamsPut k x).svc = s.svc ∧ (s.cstreamsPut k x).pwr = s.pwr ∧ (s.cstreamsPut k x).out = s.out ∧
    (s.cstreamsPut k x).free = s.free ∧ (s.cstreamsPut k x).pending = s.pending := by
  repeat' constructor

theorem State.cstreamsAt_cstreamsPut (s : State) (k j : Nat) (x : CStreamSt) :
    (s.cstreamsPut k x).cstreamsAt j = if k = j then x else s.cstreamsAt j := tgetD_tput ..

@[simp] theorem State.cstreamsPut_entries (s : State) (k i b : Nat) (x : CStreamSt) :
    (s.cstreamsPut k x).val i b = s.val i b ∧ (s.cstreamsPut k x).int i b = s.int i b ∧
    (s.cstreamsPut k x).nat i b = s.nat i b ∧ (s.cstreamsPut k x).blob i b = s.blob i b ∧
    (s.cstreamsPut k x).f32 i b = s.f32 i b ∧ (s.cstreamsPut k x).fix i b = s.fix i b := by
  repeat' constructor

@[simp] theorem State.slotsPut_fields (s : State) (k : Nat) (x : SlotSt) :
    (s.slotsPut k x).dict = s.dict ∧ (s.slotsPut k x).oz = s.oz ∧ (s.slotsPut k x).store = s.store ∧
    (s.slotsPut k x).clk = s.clk ∧ (s.slotsPut k x).servo = s.servo ∧ (s.slotsPut k x).syncs = s.syncs ∧
    (s.slotsPut k x).shafts = s.shafts ∧ (s.slotsPut k x).frm = s.frm ∧ (s.slotsPut k x).beacon = s.beacon ∧
    (s.slotsPut k x).bow = s.bow ∧ (s.slotsPut k x).plc = s.plc ∧ (s.slotsPut k x).lanes = s.lanes ∧
    (s.slotsPut k x).spares = s.spares ∧ (s.slotsPut k x).rets = s.rets ∧ (s.slotsPut k x).ledger = s.ledger ∧
    (s.slotsPut k x).canvases = s.canvases ∧ (s.slotsPut k x).flows = s.flows ∧ (s.slotsPut k x).rx = s.rx ∧
    (s.slotsPut k x).hstreams = s.hstreams ∧ (s.slotsPut k x).meshes = s.meshes ∧ (s.slotsPut k x).fet = s.fet ∧
    (s.slotsPut k x).col = s.col ∧ (s.slotsPut k x).emit = s.emit ∧ (s.slotsPut k x).capt = s.capt ∧
    (s.slotsPut k x).inputs = s.inputs ∧ (s.slotsPut k x).senses = s.senses ∧
    (s.slotsPut k x).cstreams = s.cstreams ∧ (s.slotsPut k x).pool = s.pool ∧ (s.slotsPut k x).mir = s.mir ∧
    (s.slotsPut k x).capo = s.capo ∧ (s.slotsPut k x).capoC = s.capoC ∧ (s.slotsPut k x).energy = s.energy ∧
    (s.slotsPut k x).pegs = s.pegs ∧ (s.slotsPut k x).runs = s.runs ∧ (s.slotsPut k x).domains = s.domains ∧
    (s.slotsPut k x).therm = s.therm ∧ (s.slotsPut k x).mem = s.mem ∧ (s.slotsPut k x).chans = s.chans ∧
    (s.slotsPut k x).queues = s.queues ∧ (s.slotsPut k x).fw = s.fw ∧ (s.slotsPut k x).svc = s.svc ∧
    (s.slotsPut k x).pwr = s.pwr ∧ (s.slotsPut k x).out = s.out ∧ (s.slotsPut k x).free = s.free ∧
    (s.slotsPut k x).pending = s.pending := by
  repeat' constructor

theorem State.slotsAt_slotsPut (s : State) (k j : Nat) (x : SlotSt) :
    (s.slotsPut k x).slotsAt j = if k = j then x else s.slotsAt j := tgetD_tput ..

@[simp] theorem State.slotsPut_entries (s : State) (k i b : Nat) (x : SlotSt) :
    (s.slotsPut k x).val i b = s.val i b ∧ (s.slotsPut k x).int i b = s.int i b ∧
    (s.slotsPut k x).nat i b = s.nat i b ∧ (s.slotsPut k x).blob i b = s.blob i b ∧
    (s.slotsPut k x).f32 i b = s.f32 i b ∧ (s.slotsPut k x).fix i b = s.fix i b := by
  repeat' constructor

@[simp] theorem State.mirPut_fields (s : State) (k : Nat) (x : MirSt) :
    (s.mirPut k x).dict = s.dict ∧ (s.mirPut k x).oz = s.oz ∧ (s.mirPut k x).store = s.store ∧
    (s.mirPut k x).clk = s.clk ∧ (s.mirPut k x).servo = s.servo ∧ (s.mirPut k x).syncs = s.syncs ∧
    (s.mirPut k x).shafts = s.shafts ∧ (s.mirPut k x).frm = s.frm ∧ (s.mirPut k x).beacon = s.beacon ∧
    (s.mirPut k x).bow = s.bow ∧ (s.mirPut k x).plc = s.plc ∧ (s.mirPut k x).lanes = s.lanes ∧
    (s.mirPut k x).spares = s.spares ∧ (s.mirPut k x).rets = s.rets ∧ (s.mirPut k x).ledger = s.ledger ∧
    (s.mirPut k x).canvases = s.canvases ∧ (s.mirPut k x).flows = s.flows ∧ (s.mirPut k x).rx = s.rx ∧
    (s.mirPut k x).hstreams = s.hstreams ∧ (s.mirPut k x).meshes = s.meshes ∧ (s.mirPut k x).fet = s.fet ∧
    (s.mirPut k x).col = s.col ∧ (s.mirPut k x).emit = s.emit ∧ (s.mirPut k x).capt = s.capt ∧
    (s.mirPut k x).inputs = s.inputs ∧ (s.mirPut k x).senses = s.senses ∧ (s.mirPut k x).cstreams = s.cstreams ∧
    (s.mirPut k x).slots = s.slots ∧ (s.mirPut k x).pool = s.pool ∧ (s.mirPut k x).capo = s.capo ∧
    (s.mirPut k x).capoC = s.capoC ∧ (s.mirPut k x).energy = s.energy ∧ (s.mirPut k x).pegs = s.pegs ∧
    (s.mirPut k x).runs = s.runs ∧ (s.mirPut k x).domains = s.domains ∧ (s.mirPut k x).therm = s.therm ∧
    (s.mirPut k x).mem = s.mem ∧ (s.mirPut k x).chans = s.chans ∧ (s.mirPut k x).queues = s.queues ∧
    (s.mirPut k x).fw = s.fw ∧ (s.mirPut k x).svc = s.svc ∧ (s.mirPut k x).pwr = s.pwr ∧ (s.mirPut k x).out = s.out ∧
    (s.mirPut k x).free = s.free ∧ (s.mirPut k x).pending = s.pending := by
  repeat' constructor

theorem State.mirAt_mirPut (s : State) (k j : Nat) (x : MirSt) :
    (s.mirPut k x).mirAt j = if k = j then x else s.mirAt j := tgetD_tput ..

@[simp] theorem State.mirPut_entries (s : State) (k i b : Nat) (x : MirSt) :
    (s.mirPut k x).val i b = s.val i b ∧ (s.mirPut k x).int i b = s.int i b ∧
    (s.mirPut k x).nat i b = s.nat i b ∧ (s.mirPut k x).blob i b = s.blob i b ∧
    (s.mirPut k x).f32 i b = s.f32 i b ∧ (s.mirPut k x).fix i b = s.fix i b := by
  repeat' constructor

@[simp] theorem State.capoCPut_fields (s : State) (k : Nat) (x : CapoCourse) :
    (s.capoCPut k x).dict = s.dict ∧ (s.capoCPut k x).oz = s.oz ∧ (s.capoCPut k x).store = s.store ∧
    (s.capoCPut k x).clk = s.clk ∧ (s.capoCPut k x).servo = s.servo ∧ (s.capoCPut k x).syncs = s.syncs ∧
    (s.capoCPut k x).shafts = s.shafts ∧ (s.capoCPut k x).frm = s.frm ∧ (s.capoCPut k x).beacon = s.beacon ∧
    (s.capoCPut k x).bow = s.bow ∧ (s.capoCPut k x).plc = s.plc ∧ (s.capoCPut k x).lanes = s.lanes ∧
    (s.capoCPut k x).spares = s.spares ∧ (s.capoCPut k x).rets = s.rets ∧ (s.capoCPut k x).ledger = s.ledger ∧
    (s.capoCPut k x).canvases = s.canvases ∧ (s.capoCPut k x).flows = s.flows ∧ (s.capoCPut k x).rx = s.rx ∧
    (s.capoCPut k x).hstreams = s.hstreams ∧ (s.capoCPut k x).meshes = s.meshes ∧ (s.capoCPut k x).fet = s.fet ∧
    (s.capoCPut k x).col = s.col ∧ (s.capoCPut k x).emit = s.emit ∧ (s.capoCPut k x).capt = s.capt ∧
    (s.capoCPut k x).inputs = s.inputs ∧ (s.capoCPut k x).senses = s.senses ∧
    (s.capoCPut k x).cstreams = s.cstreams ∧ (s.capoCPut k x).slots = s.slots ∧ (s.capoCPut k x).pool = s.pool ∧
    (s.capoCPut k x).mir = s.mir ∧ (s.capoCPut k x).capo = s.capo ∧ (s.capoCPut k x).energy = s.energy ∧
    (s.capoCPut k x).pegs = s.pegs ∧ (s.capoCPut k x).runs = s.runs ∧ (s.capoCPut k x).domains = s.domains ∧
    (s.capoCPut k x).therm = s.therm ∧ (s.capoCPut k x).mem = s.mem ∧ (s.capoCPut k x).chans = s.chans ∧
    (s.capoCPut k x).queues = s.queues ∧ (s.capoCPut k x).fw = s.fw ∧ (s.capoCPut k x).svc = s.svc ∧
    (s.capoCPut k x).pwr = s.pwr ∧ (s.capoCPut k x).out = s.out ∧ (s.capoCPut k x).free = s.free ∧
    (s.capoCPut k x).pending = s.pending := by
  repeat' constructor

theorem State.capoCAt_capoCPut (s : State) (k j : Nat) (x : CapoCourse) :
    (s.capoCPut k x).capoCAt j = if k = j then x else s.capoCAt j := tgetD_tput ..

@[simp] theorem State.capoCPut_entries (s : State) (k i b : Nat) (x : CapoCourse) :
    (s.capoCPut k x).val i b = s.val i b ∧ (s.capoCPut k x).int i b = s.int i b ∧
    (s.capoCPut k x).nat i b = s.nat i b ∧ (s.capoCPut k x).blob i b = s.blob i b ∧
    (s.capoCPut k x).f32 i b = s.f32 i b ∧ (s.capoCPut k x).fix i b = s.fix i b := by
  repeat' constructor

@[simp] theorem State.energyPut_fields (s : State) (k : Nat) (x : EnergySt) :
    (s.energyPut k x).dict = s.dict ∧ (s.energyPut k x).oz = s.oz ∧ (s.energyPut k x).store = s.store ∧
    (s.energyPut k x).clk = s.clk ∧ (s.energyPut k x).servo = s.servo ∧ (s.energyPut k x).syncs = s.syncs ∧
    (s.energyPut k x).shafts = s.shafts ∧ (s.energyPut k x).frm = s.frm ∧ (s.energyPut k x).beacon = s.beacon ∧
    (s.energyPut k x).bow = s.bow ∧ (s.energyPut k x).plc = s.plc ∧ (s.energyPut k x).lanes = s.lanes ∧
    (s.energyPut k x).spares = s.spares ∧ (s.energyPut k x).rets = s.rets ∧ (s.energyPut k x).ledger = s.ledger ∧
    (s.energyPut k x).canvases = s.canvases ∧ (s.energyPut k x).flows = s.flows ∧ (s.energyPut k x).rx = s.rx ∧
    (s.energyPut k x).hstreams = s.hstreams ∧ (s.energyPut k x).meshes = s.meshes ∧ (s.energyPut k x).fet = s.fet ∧
    (s.energyPut k x).col = s.col ∧ (s.energyPut k x).emit = s.emit ∧ (s.energyPut k x).capt = s.capt ∧
    (s.energyPut k x).inputs = s.inputs ∧ (s.energyPut k x).senses = s.senses ∧
    (s.energyPut k x).cstreams = s.cstreams ∧ (s.energyPut k x).slots = s.slots ∧ (s.energyPut k x).pool = s.pool ∧
    (s.energyPut k x).mir = s.mir ∧ (s.energyPut k x).capo = s.capo ∧ (s.energyPut k x).capoC = s.capoC ∧
    (s.energyPut k x).pegs = s.pegs ∧ (s.energyPut k x).runs = s.runs ∧ (s.energyPut k x).domains = s.domains ∧
    (s.energyPut k x).therm = s.therm ∧ (s.energyPut k x).mem = s.mem ∧ (s.energyPut k x).chans = s.chans ∧
    (s.energyPut k x).queues = s.queues ∧ (s.energyPut k x).fw = s.fw ∧ (s.energyPut k x).svc = s.svc ∧
    (s.energyPut k x).pwr = s.pwr ∧ (s.energyPut k x).out = s.out ∧ (s.energyPut k x).free = s.free ∧
    (s.energyPut k x).pending = s.pending := by
  repeat' constructor

theorem State.energyAt_energyPut (s : State) (k j : Nat) (x : EnergySt) :
    (s.energyPut k x).energyAt j = if k = j then x else s.energyAt j := tgetD_tput ..

@[simp] theorem State.energyPut_entries (s : State) (k i b : Nat) (x : EnergySt) :
    (s.energyPut k x).val i b = s.val i b ∧ (s.energyPut k x).int i b = s.int i b ∧
    (s.energyPut k x).nat i b = s.nat i b ∧ (s.energyPut k x).blob i b = s.blob i b ∧
    (s.energyPut k x).f32 i b = s.f32 i b ∧ (s.energyPut k x).fix i b = s.fix i b := by
  repeat' constructor

@[simp] theorem State.pegsPut_fields (s : State) (k : Nat) (x : PegSt) :
    (s.pegsPut k x).dict = s.dict ∧ (s.pegsPut k x).oz = s.oz ∧ (s.pegsPut k x).store = s.store ∧
    (s.pegsPut k x).clk = s.clk ∧ (s.pegsPut k x).servo = s.servo ∧ (s.pegsPut k x).syncs = s.syncs ∧
    (s.pegsPut k x).shafts = s.shafts ∧ (s.pegsPut k x).frm = s.frm ∧ (s.pegsPut k x).beacon = s.beacon ∧
    (s.pegsPut k x).bow = s.bow ∧ (s.pegsPut k x).plc = s.plc ∧ (s.pegsPut k x).lanes = s.lanes ∧
    (s.pegsPut k x).spares = s.spares ∧ (s.pegsPut k x).rets = s.rets ∧ (s.pegsPut k x).ledger = s.ledger ∧
    (s.pegsPut k x).canvases = s.canvases ∧ (s.pegsPut k x).flows = s.flows ∧ (s.pegsPut k x).rx = s.rx ∧
    (s.pegsPut k x).hstreams = s.hstreams ∧ (s.pegsPut k x).meshes = s.meshes ∧ (s.pegsPut k x).fet = s.fet ∧
    (s.pegsPut k x).col = s.col ∧ (s.pegsPut k x).emit = s.emit ∧ (s.pegsPut k x).capt = s.capt ∧
    (s.pegsPut k x).inputs = s.inputs ∧ (s.pegsPut k x).senses = s.senses ∧ (s.pegsPut k x).cstreams = s.cstreams ∧
    (s.pegsPut k x).slots = s.slots ∧ (s.pegsPut k x).pool = s.pool ∧ (s.pegsPut k x).mir = s.mir ∧
    (s.pegsPut k x).capo = s.capo ∧ (s.pegsPut k x).capoC = s.capoC ∧ (s.pegsPut k x).energy = s.energy ∧
    (s.pegsPut k x).runs = s.runs ∧ (s.pegsPut k x).domains = s.domains ∧ (s.pegsPut k x).therm = s.therm ∧
    (s.pegsPut k x).mem = s.mem ∧ (s.pegsPut k x).chans = s.chans ∧ (s.pegsPut k x).queues = s.queues ∧
    (s.pegsPut k x).fw = s.fw ∧ (s.pegsPut k x).svc = s.svc ∧ (s.pegsPut k x).pwr = s.pwr ∧
    (s.pegsPut k x).out = s.out ∧ (s.pegsPut k x).free = s.free ∧ (s.pegsPut k x).pending = s.pending := by
  repeat' constructor

theorem State.pegsAt_pegsPut (s : State) (k j : Nat) (x : PegSt) :
    (s.pegsPut k x).pegsAt j = if k = j then x else s.pegsAt j := tgetD_tput ..

@[simp] theorem State.pegsPut_entries (s : State) (k i b : Nat) (x : PegSt) :
    (s.pegsPut k x).val i b = s.val i b ∧ (s.pegsPut k x).int i b = s.int i b ∧
    (s.pegsPut k x).nat i b = s.nat i b ∧ (s.pegsPut k x).blob i b = s.blob i b ∧
    (s.pegsPut k x).f32 i b = s.f32 i b ∧ (s.pegsPut k x).fix i b = s.fix i b := by
  repeat' constructor

@[simp] theorem State.runsPut_fields (s : State) (k : Nat) (x : RunSt) :
    (s.runsPut k x).dict = s.dict ∧ (s.runsPut k x).oz = s.oz ∧ (s.runsPut k x).store = s.store ∧
    (s.runsPut k x).clk = s.clk ∧ (s.runsPut k x).servo = s.servo ∧ (s.runsPut k x).syncs = s.syncs ∧
    (s.runsPut k x).shafts = s.shafts ∧ (s.runsPut k x).frm = s.frm ∧ (s.runsPut k x).beacon = s.beacon ∧
    (s.runsPut k x).bow = s.bow ∧ (s.runsPut k x).plc = s.plc ∧ (s.runsPut k x).lanes = s.lanes ∧
    (s.runsPut k x).spares = s.spares ∧ (s.runsPut k x).rets = s.rets ∧ (s.runsPut k x).ledger = s.ledger ∧
    (s.runsPut k x).canvases = s.canvases ∧ (s.runsPut k x).flows = s.flows ∧ (s.runsPut k x).rx = s.rx ∧
    (s.runsPut k x).hstreams = s.hstreams ∧ (s.runsPut k x).meshes = s.meshes ∧ (s.runsPut k x).fet = s.fet ∧
    (s.runsPut k x).col = s.col ∧ (s.runsPut k x).emit = s.emit ∧ (s.runsPut k x).capt = s.capt ∧
    (s.runsPut k x).inputs = s.inputs ∧ (s.runsPut k x).senses = s.senses ∧ (s.runsPut k x).cstreams = s.cstreams ∧
    (s.runsPut k x).slots = s.slots ∧ (s.runsPut k x).pool = s.pool ∧ (s.runsPut k x).mir = s.mir ∧
    (s.runsPut k x).capo = s.capo ∧ (s.runsPut k x).capoC = s.capoC ∧ (s.runsPut k x).energy = s.energy ∧
    (s.runsPut k x).pegs = s.pegs ∧ (s.runsPut k x).domains = s.domains ∧ (s.runsPut k x).therm = s.therm ∧
    (s.runsPut k x).mem = s.mem ∧ (s.runsPut k x).chans = s.chans ∧ (s.runsPut k x).queues = s.queues ∧
    (s.runsPut k x).fw = s.fw ∧ (s.runsPut k x).svc = s.svc ∧ (s.runsPut k x).pwr = s.pwr ∧
    (s.runsPut k x).out = s.out ∧ (s.runsPut k x).free = s.free ∧ (s.runsPut k x).pending = s.pending := by
  repeat' constructor

theorem State.runsAt_runsPut (s : State) (k j : Nat) (x : RunSt) :
    (s.runsPut k x).runsAt j = if k = j then x else s.runsAt j := tgetD_tput ..

@[simp] theorem State.runsPut_entries (s : State) (k i b : Nat) (x : RunSt) :
    (s.runsPut k x).val i b = s.val i b ∧ (s.runsPut k x).int i b = s.int i b ∧
    (s.runsPut k x).nat i b = s.nat i b ∧ (s.runsPut k x).blob i b = s.blob i b ∧
    (s.runsPut k x).f32 i b = s.f32 i b ∧ (s.runsPut k x).fix i b = s.fix i b := by
  repeat' constructor

@[simp] theorem State.domainsPut_fields (s : State) (k : Nat) (x : DomainSt) :
    (s.domainsPut k x).dict = s.dict ∧ (s.domainsPut k x).oz = s.oz ∧ (s.domainsPut k x).store = s.store ∧
    (s.domainsPut k x).clk = s.clk ∧ (s.domainsPut k x).servo = s.servo ∧ (s.domainsPut k x).syncs = s.syncs ∧
    (s.domainsPut k x).shafts = s.shafts ∧ (s.domainsPut k x).frm = s.frm ∧ (s.domainsPut k x).beacon = s.beacon ∧
    (s.domainsPut k x).bow = s.bow ∧ (s.domainsPut k x).plc = s.plc ∧ (s.domainsPut k x).lanes = s.lanes ∧
    (s.domainsPut k x).spares = s.spares ∧ (s.domainsPut k x).rets = s.rets ∧ (s.domainsPut k x).ledger = s.ledger ∧
    (s.domainsPut k x).canvases = s.canvases ∧ (s.domainsPut k x).flows = s.flows ∧ (s.domainsPut k x).rx = s.rx ∧
    (s.domainsPut k x).hstreams = s.hstreams ∧ (s.domainsPut k x).meshes = s.meshes ∧
    (s.domainsPut k x).fet = s.fet ∧ (s.domainsPut k x).col = s.col ∧ (s.domainsPut k x).emit = s.emit ∧
    (s.domainsPut k x).capt = s.capt ∧ (s.domainsPut k x).inputs = s.inputs ∧ (s.domainsPut k x).senses = s.senses ∧
    (s.domainsPut k x).cstreams = s.cstreams ∧ (s.domainsPut k x).slots = s.slots ∧
    (s.domainsPut k x).pool = s.pool ∧ (s.domainsPut k x).mir = s.mir ∧ (s.domainsPut k x).capo = s.capo ∧
    (s.domainsPut k x).capoC = s.capoC ∧ (s.domainsPut k x).energy = s.energy ∧ (s.domainsPut k x).pegs = s.pegs ∧
    (s.domainsPut k x).runs = s.runs ∧ (s.domainsPut k x).therm = s.therm ∧ (s.domainsPut k x).mem = s.mem ∧
    (s.domainsPut k x).chans = s.chans ∧ (s.domainsPut k x).queues = s.queues ∧ (s.domainsPut k x).fw = s.fw ∧
    (s.domainsPut k x).svc = s.svc ∧ (s.domainsPut k x).pwr = s.pwr ∧ (s.domainsPut k x).out = s.out ∧
    (s.domainsPut k x).free = s.free ∧ (s.domainsPut k x).pending = s.pending := by
  repeat' constructor

theorem State.domainsAt_domainsPut (s : State) (k j : Nat) (x : DomainSt) :
    (s.domainsPut k x).domainsAt j = if k = j then x else s.domainsAt j := tgetD_tput ..

@[simp] theorem State.domainsPut_entries (s : State) (k i b : Nat) (x : DomainSt) :
    (s.domainsPut k x).val i b = s.val i b ∧ (s.domainsPut k x).int i b = s.int i b ∧
    (s.domainsPut k x).nat i b = s.nat i b ∧ (s.domainsPut k x).blob i b = s.blob i b ∧
    (s.domainsPut k x).f32 i b = s.f32 i b ∧ (s.domainsPut k x).fix i b = s.fix i b := by
  repeat' constructor

@[simp] theorem State.chansPut_fields (s : State) (k : Nat) (x : ChanSt) :
    (s.chansPut k x).dict = s.dict ∧ (s.chansPut k x).oz = s.oz ∧ (s.chansPut k x).store = s.store ∧
    (s.chansPut k x).clk = s.clk ∧ (s.chansPut k x).servo = s.servo ∧ (s.chansPut k x).syncs = s.syncs ∧
    (s.chansPut k x).shafts = s.shafts ∧ (s.chansPut k x).frm = s.frm ∧ (s.chansPut k x).beacon = s.beacon ∧
    (s.chansPut k x).bow = s.bow ∧ (s.chansPut k x).plc = s.plc ∧ (s.chansPut k x).lanes = s.lanes ∧
    (s.chansPut k x).spares = s.spares ∧ (s.chansPut k x).rets = s.rets ∧ (s.chansPut k x).ledger = s.ledger ∧
    (s.chansPut k x).canvases = s.canvases ∧ (s.chansPut k x).flows = s.flows ∧ (s.chansPut k x).rx = s.rx ∧
    (s.chansPut k x).hstreams = s.hstreams ∧ (s.chansPut k x).meshes = s.meshes ∧ (s.chansPut k x).fet = s.fet ∧
    (s.chansPut k x).col = s.col ∧ (s.chansPut k x).emit = s.emit ∧ (s.chansPut k x).capt = s.capt ∧
    (s.chansPut k x).inputs = s.inputs ∧ (s.chansPut k x).senses = s.senses ∧
    (s.chansPut k x).cstreams = s.cstreams ∧ (s.chansPut k x).slots = s.slots ∧ (s.chansPut k x).pool = s.pool ∧
    (s.chansPut k x).mir = s.mir ∧ (s.chansPut k x).capo = s.capo ∧ (s.chansPut k x).capoC = s.capoC ∧
    (s.chansPut k x).energy = s.energy ∧ (s.chansPut k x).pegs = s.pegs ∧ (s.chansPut k x).runs = s.runs ∧
    (s.chansPut k x).domains = s.domains ∧ (s.chansPut k x).therm = s.therm ∧ (s.chansPut k x).mem = s.mem ∧
    (s.chansPut k x).queues = s.queues ∧ (s.chansPut k x).fw = s.fw ∧ (s.chansPut k x).svc = s.svc ∧
    (s.chansPut k x).pwr = s.pwr ∧ (s.chansPut k x).out = s.out ∧ (s.chansPut k x).free = s.free ∧
    (s.chansPut k x).pending = s.pending := by
  repeat' constructor

theorem State.chansAt_chansPut (s : State) (k j : Nat) (x : ChanSt) :
    (s.chansPut k x).chansAt j = if k = j then x else s.chansAt j := tgetD_tput ..

@[simp] theorem State.chansPut_entries (s : State) (k i b : Nat) (x : ChanSt) :
    (s.chansPut k x).val i b = s.val i b ∧ (s.chansPut k x).int i b = s.int i b ∧
    (s.chansPut k x).nat i b = s.nat i b ∧ (s.chansPut k x).blob i b = s.blob i b ∧
    (s.chansPut k x).f32 i b = s.f32 i b ∧ (s.chansPut k x).fix i b = s.fix i b := by
  repeat' constructor

@[simp] theorem State.ledgerPut_fields (s : State) (k : Nat) (x : List LedgerRec) :
    (s.ledgerPut k x).dict = s.dict ∧ (s.ledgerPut k x).oz = s.oz ∧ (s.ledgerPut k x).store = s.store ∧
    (s.ledgerPut k x).clk = s.clk ∧ (s.ledgerPut k x).servo = s.servo ∧ (s.ledgerPut k x).syncs = s.syncs ∧
    (s.ledgerPut k x).shafts = s.shafts ∧ (s.ledgerPut k x).frm = s.frm ∧ (s.ledgerPut k x).beacon = s.beacon ∧
    (s.ledgerPut k x).bow = s.bow ∧ (s.ledgerPut k x).plc = s.plc ∧ (s.ledgerPut k x).lanes = s.lanes ∧
    (s.ledgerPut k x).spares = s.spares ∧ (s.ledgerPut k x).rets = s.rets ∧ (s.ledgerPut k x).canvases = s.canvases ∧
    (s.ledgerPut k x).flows = s.flows ∧ (s.ledgerPut k x).rx = s.rx ∧ (s.ledgerPut k x).hstreams = s.hstreams ∧
    (s.ledgerPut k x).meshes = s.meshes ∧ (s.ledgerPut k x).fet = s.fet ∧ (s.ledgerPut k x).col = s.col ∧
    (s.ledgerPut k x).emit = s.emit ∧ (s.ledgerPut k x).capt = s.capt ∧ (s.ledgerPut k x).inputs = s.inputs ∧
    (s.ledgerPut k x).senses = s.senses ∧ (s.ledgerPut k x).cstreams = s.cstreams ∧
    (s.ledgerPut k x).slots = s.slots ∧ (s.ledgerPut k x).pool = s.pool ∧ (s.ledgerPut k x).mir = s.mir ∧
    (s.ledgerPut k x).capo = s.capo ∧ (s.ledgerPut k x).capoC = s.capoC ∧ (s.ledgerPut k x).energy = s.energy ∧
    (s.ledgerPut k x).pegs = s.pegs ∧ (s.ledgerPut k x).runs = s.runs ∧ (s.ledgerPut k x).domains = s.domains ∧
    (s.ledgerPut k x).therm = s.therm ∧ (s.ledgerPut k x).mem = s.mem ∧ (s.ledgerPut k x).chans = s.chans ∧
    (s.ledgerPut k x).queues = s.queues ∧ (s.ledgerPut k x).fw = s.fw ∧ (s.ledgerPut k x).svc = s.svc ∧
    (s.ledgerPut k x).pwr = s.pwr ∧ (s.ledgerPut k x).out = s.out ∧ (s.ledgerPut k x).free = s.free ∧
    (s.ledgerPut k x).pending = s.pending := by
  repeat' constructor

theorem State.ledgerAt_ledgerPut (s : State) (k j : Nat) (x : List LedgerRec) :
    (s.ledgerPut k x).ledgerAt j = if k = j then x else s.ledgerAt j := tgetD_tput ..

@[simp] theorem State.ledgerPut_entries (s : State) (k i b : Nat) (x : List LedgerRec) :
    (s.ledgerPut k x).val i b = s.val i b ∧ (s.ledgerPut k x).int i b = s.int i b ∧
    (s.ledgerPut k x).nat i b = s.nat i b ∧ (s.ledgerPut k x).blob i b = s.blob i b ∧
    (s.ledgerPut k x).f32 i b = s.f32 i b ∧ (s.ledgerPut k x).fix i b = s.fix i b := by
  repeat' constructor

@[simp] theorem State.masterPut_fields (s : State) (m : Nat) (x : Master) :
    (s.masterPut m x).dict = s.dict ∧ (s.masterPut m x).store = s.store ∧ (s.masterPut m x).clk = s.clk ∧
    (s.masterPut m x).servo = s.servo ∧ (s.masterPut m x).syncs = s.syncs ∧ (s.masterPut m x).shafts = s.shafts ∧
    (s.masterPut m x).frm = s.frm ∧ (s.masterPut m x).beacon = s.beacon ∧ (s.masterPut m x).bow = s.bow ∧
    (s.masterPut m x).plc = s.plc ∧ (s.masterPut m x).lanes = s.lanes ∧ (s.masterPut m x).spares = s.spares ∧
    (s.masterPut m x).rets = s.rets ∧ (s.masterPut m x).ledger = s.ledger ∧ (s.masterPut m x).canvases = s.canvases ∧
    (s.masterPut m x).flows = s.flows ∧ (s.masterPut m x).rx = s.rx ∧ (s.masterPut m x).hstreams = s.hstreams ∧
    (s.masterPut m x).meshes = s.meshes ∧ (s.masterPut m x).fet = s.fet ∧ (s.masterPut m x).col = s.col ∧
    (s.masterPut m x).emit = s.emit ∧ (s.masterPut m x).capt = s.capt ∧ (s.masterPut m x).inputs = s.inputs ∧
    (s.masterPut m x).senses = s.senses ∧ (s.masterPut m x).cstreams = s.cstreams ∧
    (s.masterPut m x).slots = s.slots ∧ (s.masterPut m x).pool = s.pool ∧ (s.masterPut m x).mir = s.mir ∧
    (s.masterPut m x).capo = s.capo ∧ (s.masterPut m x).capoC = s.capoC ∧ (s.masterPut m x).energy = s.energy ∧
    (s.masterPut m x).pegs = s.pegs ∧ (s.masterPut m x).runs = s.runs ∧ (s.masterPut m x).domains = s.domains ∧
    (s.masterPut m x).therm = s.therm ∧ (s.masterPut m x).mem = s.mem ∧ (s.masterPut m x).chans = s.chans ∧
    (s.masterPut m x).queues = s.queues ∧ (s.masterPut m x).fw = s.fw ∧ (s.masterPut m x).svc = s.svc ∧
    (s.masterPut m x).pwr = s.pwr ∧ (s.masterPut m x).out = s.out ∧ (s.masterPut m x).free = s.free ∧
    (s.masterPut m x).pending = s.pending := by
  repeat' constructor

theorem State.masterAt_masterPut (s : State) (m j : Nat) (x : Master) :
    (s.masterPut m x).masterAt j = if m = j then x else s.masterAt j := tgetD_tput ..

@[simp] theorem State.masterPut_entries (s : State) (m i b : Nat) (x : Master) :
    (s.masterPut m x).val i b = s.val i b ∧ (s.masterPut m x).int i b = s.int i b ∧
    (s.masterPut m x).nat i b = s.nat i b ∧ (s.masterPut m x).blob i b = s.blob i b ∧
    (s.masterPut m x).f32 i b = s.f32 i b ∧ (s.masterPut m x).fix i b = s.fix i b := by
  repeat' constructor

@[simp] theorem State.ctxPut_fields (s : State) (c : Nat) (x : PcieCtx) :
    (s.ctxPut c x).dict = s.dict ∧ (s.ctxPut c x).store = s.store ∧ (s.ctxPut c x).clk = s.clk ∧
    (s.ctxPut c x).servo = s.servo ∧ (s.ctxPut c x).syncs = s.syncs ∧ (s.ctxPut c x).shafts = s.shafts ∧
    (s.ctxPut c x).frm = s.frm ∧ (s.ctxPut c x).beacon = s.beacon ∧ (s.ctxPut c x).bow = s.bow ∧
    (s.ctxPut c x).plc = s.plc ∧ (s.ctxPut c x).lanes = s.lanes ∧ (s.ctxPut c x).spares = s.spares ∧
    (s.ctxPut c x).rets = s.rets ∧ (s.ctxPut c x).ledger = s.ledger ∧ (s.ctxPut c x).canvases = s.canvases ∧
    (s.ctxPut c x).flows = s.flows ∧ (s.ctxPut c x).rx = s.rx ∧ (s.ctxPut c x).hstreams = s.hstreams ∧
    (s.ctxPut c x).meshes = s.meshes ∧ (s.ctxPut c x).fet = s.fet ∧ (s.ctxPut c x).col = s.col ∧
    (s.ctxPut c x).emit = s.emit ∧ (s.ctxPut c x).capt = s.capt ∧ (s.ctxPut c x).inputs = s.inputs ∧
    (s.ctxPut c x).senses = s.senses ∧ (s.ctxPut c x).cstreams = s.cstreams ∧ (s.ctxPut c x).slots = s.slots ∧
    (s.ctxPut c x).pool = s.pool ∧ (s.ctxPut c x).mir = s.mir ∧ (s.ctxPut c x).capo = s.capo ∧
    (s.ctxPut c x).capoC = s.capoC ∧ (s.ctxPut c x).energy = s.energy ∧ (s.ctxPut c x).pegs = s.pegs ∧
    (s.ctxPut c x).runs = s.runs ∧ (s.ctxPut c x).domains = s.domains ∧ (s.ctxPut c x).therm = s.therm ∧
    (s.ctxPut c x).mem = s.mem ∧ (s.ctxPut c x).chans = s.chans ∧ (s.ctxPut c x).queues = s.queues ∧
    (s.ctxPut c x).fw = s.fw ∧ (s.ctxPut c x).svc = s.svc ∧ (s.ctxPut c x).pwr = s.pwr ∧ (s.ctxPut c x).out = s.out ∧
    (s.ctxPut c x).free = s.free ∧ (s.ctxPut c x).pending = s.pending := by
  repeat' constructor

theorem State.ctxAt_ctxPut (s : State) (c j : Nat) (x : PcieCtx) :
    (s.ctxPut c x).ctxAt j = if c = j then x else s.ctxAt j := tgetD_tput ..

@[simp] theorem State.ctxPut_entries (s : State) (c i b : Nat) (x : PcieCtx) :
    (s.ctxPut c x).val i b = s.val i b ∧ (s.ctxPut c x).int i b = s.int i b ∧
    (s.ctxPut c x).nat i b = s.nat i b ∧ (s.ctxPut c x).blob i b = s.blob i b ∧
    (s.ctxPut c x).f32 i b = s.f32 i b ∧ (s.ctxPut c x).fix i b = s.fix i b := by
  repeat' constructor

@[simp] theorem State.ringPut_fields (s : State) (q : Nat) (x : RingSt) :
    (s.ringPut q x).dict = s.dict ∧ (s.ringPut q x).oz = s.oz ∧ (s.ringPut q x).store = s.store ∧
    (s.ringPut q x).clk = s.clk ∧ (s.ringPut q x).servo = s.servo ∧ (s.ringPut q x).syncs = s.syncs ∧
    (s.ringPut q x).shafts = s.shafts ∧ (s.ringPut q x).frm = s.frm ∧ (s.ringPut q x).beacon = s.beacon ∧
    (s.ringPut q x).bow = s.bow ∧ (s.ringPut q x).plc = s.plc ∧ (s.ringPut q x).lanes = s.lanes ∧
    (s.ringPut q x).spares = s.spares ∧ (s.ringPut q x).rets = s.rets ∧ (s.ringPut q x).ledger = s.ledger ∧
    (s.ringPut q x).canvases = s.canvases ∧ (s.ringPut q x).flows = s.flows ∧ (s.ringPut q x).rx = s.rx ∧
    (s.ringPut q x).hstreams = s.hstreams ∧ (s.ringPut q x).meshes = s.meshes ∧ (s.ringPut q x).fet = s.fet ∧
    (s.ringPut q x).col = s.col ∧ (s.ringPut q x).emit = s.emit ∧ (s.ringPut q x).capt = s.capt ∧
    (s.ringPut q x).inputs = s.inputs ∧ (s.ringPut q x).senses = s.senses ∧ (s.ringPut q x).cstreams = s.cstreams ∧
    (s.ringPut q x).slots = s.slots ∧ (s.ringPut q x).pool = s.pool ∧ (s.ringPut q x).mir = s.mir ∧
    (s.ringPut q x).capo = s.capo ∧ (s.ringPut q x).capoC = s.capoC ∧ (s.ringPut q x).energy = s.energy ∧
    (s.ringPut q x).pegs = s.pegs ∧ (s.ringPut q x).runs = s.runs ∧ (s.ringPut q x).domains = s.domains ∧
    (s.ringPut q x).therm = s.therm ∧ (s.ringPut q x).mem = s.mem ∧ (s.ringPut q x).chans = s.chans ∧
    (s.ringPut q x).fw = s.fw ∧ (s.ringPut q x).svc = s.svc ∧ (s.ringPut q x).pwr = s.pwr ∧
    (s.ringPut q x).out = s.out ∧ (s.ringPut q x).free = s.free ∧ (s.ringPut q x).pending = s.pending := by
  repeat' constructor

theorem State.ringAt_ringPut (s : State) (q j : Nat) (x : RingSt) :
    (s.ringPut q x).ringAt j = if q = j then x else s.ringAt j := tgetD_tput ..

@[simp] theorem State.ringPut_entries (s : State) (q i b : Nat) (x : RingSt) :
    (s.ringPut q x).val i b = s.val i b ∧ (s.ringPut q x).int i b = s.int i b ∧
    (s.ringPut q x).nat i b = s.nat i b ∧ (s.ringPut q x).blob i b = s.blob i b ∧
    (s.ringPut q x).f32 i b = s.f32 i b ∧ (s.ringPut q x).fix i b = s.fix i b := by
  repeat' constructor

@[simp] theorem State.queuePut_fields (s : State) (q : Nat) (x : QueueRec) :
    (s.queuePut q x).dict = s.dict ∧ (s.queuePut q x).oz = s.oz ∧ (s.queuePut q x).store = s.store ∧
    (s.queuePut q x).clk = s.clk ∧ (s.queuePut q x).servo = s.servo ∧ (s.queuePut q x).syncs = s.syncs ∧
    (s.queuePut q x).shafts = s.shafts ∧ (s.queuePut q x).frm = s.frm ∧ (s.queuePut q x).beacon = s.beacon ∧
    (s.queuePut q x).bow = s.bow ∧ (s.queuePut q x).plc = s.plc ∧ (s.queuePut q x).lanes = s.lanes ∧
    (s.queuePut q x).spares = s.spares ∧ (s.queuePut q x).rets = s.rets ∧ (s.queuePut q x).ledger = s.ledger ∧
    (s.queuePut q x).canvases = s.canvases ∧ (s.queuePut q x).flows = s.flows ∧ (s.queuePut q x).rx = s.rx ∧
    (s.queuePut q x).hstreams = s.hstreams ∧ (s.queuePut q x).meshes = s.meshes ∧ (s.queuePut q x).fet = s.fet ∧
    (s.queuePut q x).col = s.col ∧ (s.queuePut q x).emit = s.emit ∧ (s.queuePut q x).capt = s.capt ∧
    (s.queuePut q x).inputs = s.inputs ∧ (s.queuePut q x).senses = s.senses ∧
    (s.queuePut q x).cstreams = s.cstreams ∧ (s.queuePut q x).slots = s.slots ∧ (s.queuePut q x).pool = s.pool ∧
    (s.queuePut q x).mir = s.mir ∧ (s.queuePut q x).capo = s.capo ∧ (s.queuePut q x).capoC = s.capoC ∧
    (s.queuePut q x).energy = s.energy ∧ (s.queuePut q x).pegs = s.pegs ∧ (s.queuePut q x).runs = s.runs ∧
    (s.queuePut q x).domains = s.domains ∧ (s.queuePut q x).therm = s.therm ∧ (s.queuePut q x).mem = s.mem ∧
    (s.queuePut q x).chans = s.chans ∧ (s.queuePut q x).fw = s.fw ∧ (s.queuePut q x).svc = s.svc ∧
    (s.queuePut q x).pwr = s.pwr ∧ (s.queuePut q x).out = s.out ∧ (s.queuePut q x).free = s.free ∧
    (s.queuePut q x).pending = s.pending := by
  repeat' constructor

theorem State.queueAt_queuePut (s : State) (q j : Nat) (x : QueueRec) :
    (s.queuePut q x).queueAt j = if q = j then x else s.queueAt j := tgetD_tput ..

@[simp] theorem State.queuePut_entries (s : State) (q i b : Nat) (x : QueueRec) :
    (s.queuePut q x).val i b = s.val i b ∧ (s.queuePut q x).int i b = s.int i b ∧
    (s.queuePut q x).nat i b = s.nat i b ∧ (s.queuePut q x).blob i b = s.blob i b ∧
    (s.queuePut q x).f32 i b = s.f32 i b ∧ (s.queuePut q x).fix i b = s.fix i b := by
  repeat' constructor

/-! ### What leaves the part, and free values -/

@[simp] theorem State.send_fields (s : State) (o : Out) :
    (s.send o).dict = s.dict ∧ (s.send o).oz = s.oz ∧ (s.send o).store = s.store ∧ (s.send o).clk = s.clk ∧
    (s.send o).servo = s.servo ∧ (s.send o).syncs = s.syncs ∧ (s.send o).shafts = s.shafts ∧ (s.send o).frm = s.frm ∧
    (s.send o).beacon = s.beacon ∧ (s.send o).bow = s.bow ∧ (s.send o).plc = s.plc ∧ (s.send o).lanes = s.lanes ∧
    (s.send o).spares = s.spares ∧ (s.send o).rets = s.rets ∧ (s.send o).ledger = s.ledger ∧
    (s.send o).canvases = s.canvases ∧ (s.send o).flows = s.flows ∧ (s.send o).rx = s.rx ∧
    (s.send o).hstreams = s.hstreams ∧ (s.send o).meshes = s.meshes ∧ (s.send o).fet = s.fet ∧
    (s.send o).col = s.col ∧ (s.send o).emit = s.emit ∧ (s.send o).capt = s.capt ∧ (s.send o).inputs = s.inputs ∧
    (s.send o).senses = s.senses ∧ (s.send o).cstreams = s.cstreams ∧ (s.send o).slots = s.slots ∧
    (s.send o).pool = s.pool ∧ (s.send o).mir = s.mir ∧ (s.send o).capo = s.capo ∧ (s.send o).capoC = s.capoC ∧
    (s.send o).energy = s.energy ∧ (s.send o).pegs = s.pegs ∧ (s.send o).runs = s.runs ∧
    (s.send o).domains = s.domains ∧ (s.send o).therm = s.therm ∧ (s.send o).mem = s.mem ∧
    (s.send o).chans = s.chans ∧ (s.send o).queues = s.queues ∧ (s.send o).fw = s.fw ∧ (s.send o).svc = s.svc ∧
    (s.send o).pwr = s.pwr ∧ (s.send o).free = s.free ∧ (s.send o).pending = s.pending := by
  repeat' constructor

@[simp] theorem State.out_send (s : State) (o : Out) : (s.send o).out = s.out ++ [o] := rfl

@[simp] theorem State.takeFree_fields (s : State) :
    s.takeFree.dict = s.dict ∧ s.takeFree.oz = s.oz ∧ s.takeFree.store = s.store ∧ s.takeFree.clk = s.clk ∧
    s.takeFree.servo = s.servo ∧ s.takeFree.syncs = s.syncs ∧ s.takeFree.shafts = s.shafts ∧ s.takeFree.frm = s.frm ∧
    s.takeFree.beacon = s.beacon ∧ s.takeFree.bow = s.bow ∧ s.takeFree.plc = s.plc ∧ s.takeFree.lanes = s.lanes ∧
    s.takeFree.spares = s.spares ∧ s.takeFree.rets = s.rets ∧ s.takeFree.ledger = s.ledger ∧
    s.takeFree.canvases = s.canvases ∧ s.takeFree.flows = s.flows ∧ s.takeFree.rx = s.rx ∧
    s.takeFree.hstreams = s.hstreams ∧ s.takeFree.meshes = s.meshes ∧ s.takeFree.fet = s.fet ∧
    s.takeFree.col = s.col ∧ s.takeFree.emit = s.emit ∧ s.takeFree.capt = s.capt ∧ s.takeFree.inputs = s.inputs ∧
    s.takeFree.senses = s.senses ∧ s.takeFree.cstreams = s.cstreams ∧ s.takeFree.slots = s.slots ∧
    s.takeFree.pool = s.pool ∧ s.takeFree.mir = s.mir ∧ s.takeFree.capo = s.capo ∧ s.takeFree.capoC = s.capoC ∧
    s.takeFree.energy = s.energy ∧ s.takeFree.pegs = s.pegs ∧ s.takeFree.runs = s.runs ∧
    s.takeFree.domains = s.domains ∧ s.takeFree.therm = s.therm ∧ s.takeFree.mem = s.mem ∧
    s.takeFree.chans = s.chans ∧ s.takeFree.queues = s.queues ∧ s.takeFree.fw = s.fw ∧ s.takeFree.svc = s.svc ∧
    s.takeFree.pwr = s.pwr ∧ s.takeFree.out = s.out ∧ s.takeFree.pending = s.pending := by
  repeat' constructor

@[simp] theorem State.send_entries (s : State) (o : Out) (i b : Nat) :
    (s.send o).val i b = s.val i b ∧ (s.send o).int i b = s.int i b ∧ (s.send o).nat i b = s.nat i b ∧
    (s.send o).blob i b = s.blob i b ∧ (s.send o).f32 i b = s.f32 i b ∧ (s.send o).fix i b = s.fix i b := by
  repeat' constructor

/-! ### Units after an entry is written -/

@[simp] theorem State.put_units (s : State) (i b k : Nat) (v : Val) :
    (s.put i b v).syncsAt k = s.syncsAt k ∧ (s.put i b v).shaftsAt k = s.shaftsAt k ∧
    (s.put i b v).frmAt k = s.frmAt k ∧ (s.put i b v).bowAt k = s.bowAt k ∧ (s.put i b v).plcAt k = s.plcAt k ∧
    (s.put i b v).lanesAt k = s.lanesAt k ∧ (s.put i b v).sparesAt k = s.sparesAt k ∧
    (s.put i b v).retsAt k = s.retsAt k ∧ (s.put i b v).canvasesAt k = s.canvasesAt k ∧
    (s.put i b v).flowsAt k = s.flowsAt k ∧ (s.put i b v).hstreamsAt k = s.hstreamsAt k ∧
    (s.put i b v).meshesAt k = s.meshesAt k ∧ (s.put i b v).fetAt k = s.fetAt k ∧ (s.put i b v).colAt k = s.colAt k ∧
    (s.put i b v).emitAt k = s.emitAt k ∧ (s.put i b v).inputsAt k = s.inputsAt k ∧
    (s.put i b v).sensesAt k = s.sensesAt k ∧ (s.put i b v).captAt k = s.captAt k ∧
    (s.put i b v).cstreamsAt k = s.cstreamsAt k ∧ (s.put i b v).slotsAt k = s.slotsAt k ∧
    (s.put i b v).mirAt k = s.mirAt k ∧ (s.put i b v).capoCAt k = s.capoCAt k ∧
    (s.put i b v).energyAt k = s.energyAt k ∧ (s.put i b v).pegsAt k = s.pegsAt k ∧
    (s.put i b v).runsAt k = s.runsAt k ∧ (s.put i b v).domainsAt k = s.domainsAt k ∧
    (s.put i b v).chansAt k = s.chansAt k ∧ (s.put i b v).ledgerAt k = s.ledgerAt k ∧
    (s.put i b v).masterAt k = s.masterAt k ∧ (s.put i b v).ctxAt k = s.ctxAt k ∧
    (s.put i b v).ringAt k = s.ringAt k ∧ (s.put i b v).queueAt k = s.queueAt k := by
  repeat' constructor

end Sys2Proof.Machine
end

