-- ==== Sys2Proof/WellFormed.lean ====
section
/-! DEFINITION. When a command is one that the outside can send: its fields fit the widths the spec gives them. The
meanings are defined on every command; these checks say which ones the part can meet. -/

namespace Sys2Proof

/-- An item header's fields fit Table 2.5. -/
def Item.wf (it : Item) : Bool :=
  decide (it.type < 256) && decide (it.index < 65536) && decide (it.sub < 256) && decide (it.length < 65536) &&
    decide (it.offset < 4294967296)

/-- A source's address and port fit; a UDP payload is at most 1,472 bytes, a PCIe request lies in 0x000 to 0x5BF
(R48, R54, R56). -/
def Source.wf (src : Source) (len : Nat) : Bool :=
  match src with
  | .udp ip port toIp toPort => decide (ip < 4294967296) && decide (port < 65536) && decide (toIp < 4294967296) &&
      decide (toPort < 65536) && decide (len ≤ 1472)
  | .pcie _ => decide (len ≤ 1472)
  | .spi => decide (len < 65536)

/-- A packet's fields fit R171 and R172. -/
def RtpPacket.wf (p : RtpPacket) : Bool :=
  decide (p.dstIp < 4294967296) && decide (p.dstPort < 65536) && decide (p.srcIp < 4294967296) &&
    decide (p.payloadType < 128) && decide (p.seq < 4294967296) && decide (p.timestamp < 4294967296) &&
    p.rows.all (fun r => decide (r.row < 32768) && decide (r.offset < 32768))

/-- The command is one that can arrive. -/
def Instr.wf (i : Instr) : Bool :=
  match i with
  | .oziloRequest src msg => src.wf msg.length
  | .read _ it => it.wf
  | .write _ it v => it.wf && decide (v.length = it.length) && decide (v.length ≤ 1440)
  | .stage _ it v => it.wf && decide (v.length = it.length) && decide (v.length ≤ 1440)
  | .readStaged _ it => it.wf
  | .subscribe _ it v => it.wf && decide (v.length = it.length)
  | .unsubscribe _ it => it.wf
  | .publication _ index sub => decide (index < 65536) && decide (sub < 256)
  | .dictionaryDoorbell _ w _ => decide (w.length = 0x5C0)
  | .spiRequest length _ => decide (length < 65536)
  | .spiUnknownCommand cmd _ => !(cmd == 0x02 || cmd == 0x0B || cmd == 0x05)
  | .st2110Packet _ p => p.wf
  | .writeRect _ desc _ _ => decide (desc.length = 32)
  | .complete _ desc => decide (desc.length = 32)
  | .abortBuffer _ desc => decide (desc.length = 32)
  | .streamBufferDescriptor _ desc => decide (desc.length = 32)
  | .refinementUpdate _ moves => moves.all (fun p => decide (p.1 < 66049))
  | .mr4Read _ m _ => decide (m = 1 ∨ m = 2 ∨ m = 4)
  | .memoryRequest _ _ _ _ bad => decide (bad ≤ 32)
  | .scrubRead _ bad => decide (bad ≤ 32)
  | _ => true

end Sys2Proof
end

