-- ==== Sys2Proof/Tests/Slice0.lean ====
section
/-! SUPPORT. Tests of the model: ill-formed commands, the spec's worked examples and check values, and for every statement
with hypotheses a witness of each of its clauses: a state and operands that meet all the clause's hypotheses together. -/

namespace Sys2Proof.Tests

open Sys2Proof Sys2Proof.Machine

set_option maxRecDepth 10000
-- One proof at a time: as one text the proofs, elaborated side by side, want more threads than the memory limit grants.
set_option Elab.async false

/-! ### Small states and messages -/

/-- Reset, in DARK. -/
def dark : State := State.reset.putN 0x4200 1 1

/-- Reset, in LIT. -/
def lit : State := State.reset.putN 0x4200 1 2

/-- The row of an entry. -/
def row (i b : Nat) : Row := (rowOf i b).getD ⟨0, 0, .u8, .ro, 0, 0, .all⟩

/-- A request of one READ. -/
def readMessage (seq m i b : Nat) : List Byte :=
  message 0x01 seq m 1 0x00 (itemBytes 1 false (Item.mk false 0 i b 0 0) 0 [])

/-- DARK with master 65 known, the part at address 5 and its UDP port. -/
def udpState : State := { dark with oz := { dark.oz with addrInForce := [5, 0, 0, 41620] } }.masterPut 65 { addr := some (7, 9), last := some 4, kept := [{ seq := 4, response := [1#8] }] }

/-- The 66 bits of a return block with its CRC, scrambled from the initial state. -/
def retBlockOf (body : Nat) : BitVec 66 := BitVec.ofNat 66 (1 + 4 * (scramble 64 (body + crc8 (leBytes 7 body) * 2 ^ 56) 0).1)

/-- LIT with DRAM of 4,096 MiB a channel. -/
def withDram : State := { lit with mem := { lit.mem with chanMiB := 4096 } }

/-- The same with the first unit of the data class poisoned. -/
def poisoned : State :=
  { withDram with mem := { withDram.mem with poison := [withDram.mem.unitOf (withDram.mem.dataClass 0).1 (withDram.mem.dataClass 0).2] } }

/-- A queue that holds nothing has a credit left, whatever its entry count (R13). -/
theorem hasCredit_of_empty {s : State} {q : Nat} (h : s.queueAt q = {}) : s.hasCredit q = true := by
  have : 0 < queueCount q := Nat.two_pow_pos _
  simp [State.hasCredit, h, QueueRec.credits, QueueRec.outstanding, idxDist, this]

/-! ### Ill-formed commands -/

/-- R43, Table 2.5: fields wider than an item header's. -/
theorem test_item_fields_too_wide :
    (Instr.read 0 ⟨false, 256, 0, 0, 0, 0⟩).wf = false ∧ (Instr.read 0 ⟨false, 0, 65536, 0, 0, 0⟩).wf = false ∧
    (Instr.readStaged 0 ⟨false, 0, 0, 256, 0, 0⟩).wf = false ∧ (Instr.unsubscribe 0 ⟨false, 0, 0, 0, 65536, 0⟩).wf = false ∧
    (Instr.read 0 ⟨false, 0, 0, 0, 0, 4294967296⟩).wf = false := by decide

/-- A value whose length is not the item's, or above 1,440 bytes. -/
theorem test_item_value_length :
    (Instr.write 0 ⟨false, 0, 0, 0, 2, 0⟩ [1#8]).wf = false ∧ (Instr.stage 0 ⟨false, 0, 0, 0, 0, 0⟩ [1#8]).wf = false ∧
    (Instr.subscribe 0 ⟨false, 0, 0, 0, 3, 0⟩ [1#8]).wf = false ∧
    (Instr.write 0 ⟨false, 0, 0, 0, 1441, 0⟩ (List.replicate 1441 0#8)).wf = false ∧
    (Instr.stage 0 ⟨false, 0, 0, 0, 1441, 0⟩ (List.replicate 1441 0#8)).wf = false := by decide +kernel

/-- R48, R54, R56: addresses, ports and message lengths. -/
theorem test_source_too_wide :
    (Instr.oziloRequest (.udp 4294967296 0 5 41620) []).wf = false ∧ (Instr.oziloRequest (.udp 0 65536 5 41620) []).wf = false ∧
    (Instr.oziloRequest (.udp 0 0 5 41620) (List.replicate 1473 0#8)).wf = false ∧
    (Instr.oziloRequest (.pcie 0) (List.replicate 1473 0#8)).wf = false ∧
    (Instr.dictionaryDoorbell 0 [] 0).wf = false ∧ (Instr.spiRequest 65536 []).wf = false := by decide +kernel

/-- A packet to compare with. -/
def packet : RtpPacket :=
  { dstIp := 1, dstPort := 2, srcIp := 3, version := 2, payloadType := 96, marker := false, seq := 1, timestamp := 1,
    ssrc := 1, length := 20, rows := [] }

/-- R171, R172: fields wider than a packet's. -/
theorem test_packet_fields_too_wide :
    (Instr.st2110Packet 0 packet).wf = true ∧ (Instr.st2110Packet 0 { packet with dstIp := 2 ^ 32 }).wf = false ∧
    (Instr.st2110Packet 0 { packet with dstPort := 2 ^ 16 }).wf = false ∧
    (Instr.st2110Packet 0 { packet with srcIp := 2 ^ 32 }).wf = false ∧
    (Instr.st2110Packet 0 { packet with payloadType := 128 }).wf = false ∧
    (Instr.st2110Packet 0 { packet with seq := 2 ^ 32 }).wf = false ∧
    (Instr.st2110Packet 0 { packet with timestamp := 2 ^ 32 }).wf = false ∧
    (Instr.st2110Packet 0 { packet with rows := [⟨false, 32768, 0, []⟩] }).wf = false ∧
    (Instr.st2110Packet 0 { packet with rows := [⟨false, 0, 32768, []⟩] }).wf = false := by decide

/-- Descriptors that are not 32 bytes, and numbers out of range. -/
theorem test_other_ill_formed :
    (Instr.publication 0 65536 0).wf = false ∧ (Instr.publication 0 0 256).wf = false ∧
    (Instr.spiUnknownCommand 0x02 1).wf = false ∧ (Instr.writeRect 0 [] [] false).wf = false ∧
    (Instr.complete 0 []).wf = false ∧ (Instr.abortBuffer 0 []).wf = false ∧ (Instr.streamBufferDescriptor 0 []).wf = false ∧
    (Instr.refinementUpdate 0 [(66049, 0, 0)]).wf = false ∧ (Instr.mr4Read 0 3 false).wf = false ∧
    (Instr.memoryRequest 0 .main 0 (.read 1) 33).wf = false ∧ (Instr.scrubRead 0 33).wf = false := by decide

/-! ### The spec's worked examples and check values -/

/-- Spec 02_dictionary.md, the example after R53: the datagram that stages 2203:02 = 4 and commits, byte for byte. -/
theorem test_stage_and_commit_datagram :
    checkMessage ([0x4F, 0x5A, 0x01, 0x01, 0x02, 0x01, 0xFF, 0xFF, 0x02, 0x00, 0x20, 0x00, 0x00, 0x00, 0x00, 0x00,
      0x03, 0x02, 0x03, 0x22, 0x02, 0x00, 0x01, 0x00, 0x00, 0x00, 0x00, 0x00, 0x04, 0x00, 0x00, 0x00,
      0x02, 0x04, 0x00, 0x14, 0x01, 0x00, 0x04, 0x00, 0x00, 0x00, 0x00, 0x00, 0x00, 0x00, 0x00, 0x21] ++
      leBytes 4 (crc32c ([0x4F, 0x5A, 0x01, 0x01, 0x02, 0x01, 0xFF, 0xFF, 0x02, 0x00, 0x20, 0x00, 0x00, 0x00, 0x00, 0x00,
      0x03, 0x02, 0x03, 0x22, 0x02, 0x00, 0x01, 0x00, 0x00, 0x00, 0x00, 0x00, 0x04, 0x00, 0x00, 0x00,
      0x02, 0x04, 0x00, 0x14, 0x01, 0x00, 0x04, 0x00, 0x00, 0x00, 0x00, 0x00, 0x00, 0x00, 0x00, 0x21] : List Byte))) =
    .pass 0x0102 [{ op := 3, it := ⟨false, 2, 0x2203, 2, 1, 0⟩, value := [0x04] },
      { op := 2, it := ⟨false, 4, 0x1400, 1, 4, 0⟩, value := [0x00, 0x00, 0x00, 0x21] }] := by decide +kernel

/-- R49: the check value of CRC-32C over 123456789. -/
theorem test_crc32c : crc32c [0x31, 0x32, 0x33, 0x34, 0x35, 0x36, 0x37, 0x38, 0x39] = 0xE3069283 := by decide +kernel

/-- Spec 09_felnik_lanes.md: the check value of the span CRC over 123456789. -/
theorem test_crc16 : crc16 [0x31, 0x32, 0x33, 0x34, 0x35, 0x36, 0x37, 0x38, 0x39] = 0x29B1 := by decide +kernel

/-- R93, R94: frame k = 102,000,000,000 at 60/1 and 1,700,000,000.005 s, and its counter. -/
theorem test_ptp_index : ptpIndex (1700000000005000000 * tNs) 60 1 0 = 102000000000 ∧
    102000000000 % 2 ^ 32 = 3215752192 := by decide +kernel

/-- Spec 05_canvases_and_ingest.md: a buffer of a 3840 × 2160 canvas in C32W. -/
theorem test_canvas_buffer : bufferBytes 3840 2160 3 = 33226752 := by decide +kernel

/-- Spec 08_sympathetic_capture.md: a capture buffer of Example A in fret form and in slot form. -/
theorem test_capture_buffer :
    ((dark.putN 0x2800 2 1).putN 0x2200 0x11 270).capSize 0 = 2293760 ∧
    (((dark.putN 0x2800 2 2).putN 0x2200 0x11 270).putF 0x2200 0x0B 23900).capSize 0 = 4587520 := by decide +kernel

/-- R438 to R440 (spec 13_memory.md): D, the tail and the control class of the example board. -/
theorem test_memory_classes :
    ({ chanMiB := 3584 } : MemSt).dSplit = 3328 * mib ∧ ({ chanMiB := 3584 } : MemSt).classBytes .main = 104 * 1024 * mib ∧
    ({ chanMiB := 3584 } : MemSt).classBytes .tail = 7 * 1024 * mib ∧
    ({ chanMiB := 3584 } : MemSt).classBytes .control = 1024 * mib := by decide +kernel

/-- R438: main addresses spread over the channels; the bytes of one grain share a channel. -/
theorem test_main_location : mainLoc 4096 0x01234567 = (1, 595303) := by decide +kernel

/-- The loop of the example after R352: slot 0, kp 0.5, ki 0.05. -/
def slot0 : LoopPar :=
  { ksp := 2 ^ 30, osp := 0, kff := 0, off := 0, kp := 1073741824, ki := 107374182, kd := 0, kf := 0, shsp := 30,
    shff := 0, shp := 31, shi := 31, shd := 0, shf := 0, q1 := none, q2 := none, lo := 0, hi := 858993459, slew := 0,
    aw := 3, manual := 0 }

/-- R352, the example: o = 536,550,000 with the integral term at 536,050,000. -/
theorem test_loop_example :
    (loopLaw slot0 {} false 199000000 0 536000000 (some 200000000)).o = 536550000 ∧
    (loopLaw slot0 {} false 199000000 0 536000000 (some 200000000)).i = 536050000 := by decide +kernel

/-- R352, the example's second case: u saturates (bit 6), the clamp gives 858,993,459 (bit 9); with anti-windup 3 the
integral term is held at 858,993,459 (bit 4). -/
theorem test_loop_example_saturates :
    (loopLaw { slot0 with aw := 0 } {} false 100000000 0 2100000000 (some 200000000)).o = 858993459 ∧
    (loopLaw { slot0 with aw := 0 } {} false 100000000 0 2100000000 (some 200000000)).flags = 0x240 ∧
    (loopLaw slot0 {} false 100000000 0 2100000000 (some 200000000)).i = 858993459 := by decide +kernel

/-- R533: IDCODE shifts out 0x10256A5F. -/
theorem test_idcode : exec .idcode State.reset = .next (State.reset.send (.tdo 32 0x10256A5F)) := rfl

/-- The front of the queue runs first, and an empty queue lets one slot pass. -/
theorem test_step_order : ∃ t, step { State.reset with pending := [.idcode, .devreset] } = .next t ∧ t.pending = [.devreset] :=
  ⟨_, rfl, rfl⟩

/-! ### Witnesses of the statements -/


theorem witness_EmptyQueueIsOneSlot :
    ∃ s : State, s.pending = [] :=
  ⟨{ State.reset with clk := { refclk := false } }, by decide +kernel⟩

theorem witness_StepKeepsMemoryCanonical : ∃ s t, s.Inv ∧ step s = .next t := ⟨dark, _, rfl, rfl⟩

theorem witness_EveryCommandAnswers : (∃ c s f, exec c s = .fault f) ∧ (∃ c s t, exec c s = .next t) :=
  ⟨⟨.memoryRequest 0 .main 0 (.read 1) 0, { dark with mem := { chanMiB := 256 } }, .noSuchAddress, by
    have h : ({ dark with mem := { chanMiB := 256 } } : State).hasCredit (useMemory 0) = true := hasCredit_of_empty (by decide +kernel)
    have e : execMemoryRequest 0 .main 0 (.read 1) 0 { dark with mem := { chanMiB := 256 } } = .fault .noSuchAddress := by
      unfold execMemoryRequest
      rw [if_neg (by simp only [not_or]; exact ⟨by decide +kernel, by decide +kernel, by simpa using h⟩), if_pos (by decide +kernel)]
    exact e⟩, ⟨.idcode, State.reset, _, rfl⟩⟩

theorem witness_OnlyPowerChangesTheClass : ∃ c s t, exec c s = .next t ∧ (∀ sel, c ≠ .vaonValid sel) ∧ c ≠ .railReset 10 ∧ (∀ mask, c ≠ .fuseprog mask) :=
  ⟨.idcode, State.reset, _, rfl, by simp, by simp, by simp⟩

theorem witness_RefusalsChangeNothing :
    (∃ s : State, s.ozRuns = false ∧ s.oz.resetPending = false) ∧
    (∃ it : Item, ∃ e : Nat, ∃ s : State, s.ozRuns = true ∧ s.lookup it = .error e ∧ s.oz.resetPending = false) ∧
    (∃ it : Item, ∃ r : Row, ∃ s : State, s.ozRuns = true ∧ s.lookup it = .ok r ∧ s.oz.resetPending = false ∧
        accOf it.index r = .wo) ∧
    (∃ it : Item, ∃ r : Row, ∃ s : State, s.ozRuns = true ∧ s.lookup it = .ok r ∧ s.oz.resetPending = false ∧
        accOf it.index r = .ro) ∧
    (∃ it : Item, ∃ r : Row, ∃ v : List Byte, ∃ s : State, ∃ e, s.ozRuns = true ∧ s.lookup it = .ok r ∧
        (accOf it.index r = .rw ∨ accOf it.index r = .rp) ∧ s.oz.resetPending = false ∧ itemValue it r v = .error e) ∧
    (∃ it : Item, ∃ r : Row, ∃ v : List Byte, ∃ s : State, ∃ x, ∃ e, s.ozRuns = true ∧ s.lookup it = .ok r ∧
        (accOf it.index r = .rw ∨ accOf it.index r = .rp) ∧ s.oz.resetPending = false ∧ itemValue it r v = .ok x ∧
        it.offset = 0 ∧ s.wholeValue it.index it.sub r x = .error e) :=
  ⟨⟨State.reset, by decide +kernel⟩,
   ⟨Item.mk false 0 0x0FFF 0 0 0, stIndex, dark, by decide +kernel⟩,
   ⟨Item.mk false 0 0x1400 1 0 0, row 0x1400 1, dark, by decide +kernel⟩,
   ⟨Item.mk false 0 0x1100 5 0 0, row 0x1100 5, dark, by decide +kernel⟩,
   ⟨Item.mk false 3 0x1100 0x10 2 0, row 0x1100 0x10, [1#8], dark, stLength, by decide +kernel⟩,
   ⟨Item.mk false 3 0x1100 0x10 2 0, row 0x1100 0x10, [9#8, 0#8], dark, .num 9, stRange, by decide +kernel⟩⟩

theorem witness_ReadAnswersValue :
    ∃ it : Item, ∃ r : Row, ∃ n : Nat, ∃ s : State, s.ozRuns = true ∧ s.lookup it = .ok r ∧ accOf it.index r ≠ .wo ∧
        Sys2Proof.Machine.sizeOf r.ty = some n ∧ it.offset = 0 :=
  ⟨Item.mk false 0 0x1100 0x10 0 0, row 0x1100 0x10, 2, dark, by decide +kernel⟩

theorem witness_StagingFillsTheStageSet :
    (∃ m : MasterId, ∃ it : Item, ∃ r : Row, ∃ n : Nat, ∃ v : List Byte, ∃ x : Val, ∃ y : Val, ∃ held : Bool, ∃ s : State,
        s.ozRuns = true ∧ s.lookup it = .ok r ∧ Sys2Proof.Machine.sizeOf r.ty = some n ∧ itemValue it r v = .ok x ∧
        s.wholeValue it.index it.sub r x = .ok (y, held) ∧
        ((s.masterAt m.val).stage.any (fun t => t.key == dkey it.index it.sub) = true ∨ (s.masterAt m.val).stage.length < 1024) ∧
        s.oz.resetPending = false ∧ accOf it.index r ≠ .ro ∧ accOf it.index r ≠ .wo) ∧
    (∃ m : MasterId, ∃ it : Item, ∃ r : Row, ∃ n : Nat, ∃ v : List Byte, ∃ x : Val, ∃ y : Val, ∃ held : Bool, ∃ s : State,
        s.ozRuns = true ∧ s.lookup it = .ok r ∧ Sys2Proof.Machine.sizeOf r.ty = some n ∧ itemValue it r v = .ok x ∧
        s.wholeValue it.index it.sub r x = .ok (y, held) ∧
        ((s.masterAt m.val).stage.any (fun t => t.key == dkey it.index it.sub) = true ∨ (s.masterAt m.val).stage.length < 1024) ∧
        s.oz.resetPending = false ∧ accOf it.index r = .rs) :=
  ⟨⟨0, Item.mk false 4 0x1400 2 4 0, row 0x1400 2, 4, [1#8,2#8,3#8,4#8], .num 0x04030201, .num 0x04030201, false, dark,
       by decide +kernel⟩,
   ⟨0, Item.mk false 4 0x1400 2 4 0, row 0x1400 2, 4, [1#8,2#8,3#8,4#8], .num 0x04030201, .num 0x04030201, false, dark,
       by decide +kernel⟩⟩

theorem witness_SubscriptionsFollowTheMaster :
    (∃ m : MasterId, ∃ it : Item, ∃ r : Row, ∃ v : List Byte, ∃ s : State, let x := s.masterAt m.val;
        let key := dkey it.index it.sub; s.ozRuns = true ∧ s.lookup it = .ok r ∧ accOf it.index r ≠ .wo ∧ v.length = 4 ∧
        (x.subs.any (fun t => t.key == key) = false) ∧ x.subs.length < 64 ∧ s.subsInUse < 4096) ∧
    (∃ m : MasterId, ∃ it : Item, ∃ r : Row, ∃ v : List Byte, ∃ s : State, let x := s.masterAt m.val;
        let key := dkey it.index it.sub; s.ozRuns = true ∧ s.lookup it = .ok r ∧ accOf it.index r ≠ .wo ∧ v.length = 4 ∧
        (x.subs.any (fun t => t.key == key) = true)) ∧
    (∃ it : Item, ∃ r : Row, ∃ s : State, s.ozRuns = true ∧ s.lookup it = .ok r) :=
  ⟨⟨0, Item.mk false 0 0x1100 0x10 4 0, row 0x1100 0x10, [0#8,0#8,1#8,0#8], dark, by decide +kernel⟩,
   ⟨0, Item.mk false 0 0x1100 0x10 4 0, row 0x1100 0x10, [0#8,0#8,255#8,1#8],
       dark.masterPut 0 { subs := [{ key := 5, period := 1, shown := .num 7 }, { key := dkey 0x1100 0x10, period := 7, shown := .num 7 }] },
       by decide +kernel⟩,
   ⟨Item.mk false 0 0x1100 0x10 4 0, row 0x1100 0x10, dark, by decide +kernel⟩⟩

theorem witness_AbortedAndBusyCommits :
    (∃ s : State, s.ozRuns = true ∧ s.serves 0x1400 = true) ∧
    (∃ word : BitVec 32, ∃ s : State, s.ozRuns = true ∧ s.serves 0x1400 = true ∧ bit word.toNat 0 = true) ∧
    (∃ m : MasterId, ∃ word : BitVec 32, ∃ s : State, s.ozRuns = true ∧ s.serves 0x1400 = true ∧ bit word.toNat 0 = false ∧
        (4 ≤ (s.oz.commits.filter (fun p => p.master == m.val && !p.policy)).length ∨ 256 ≤ s.oz.commits.length)) ∧
    (∃ m : MasterId, ∃ it : Item, ∃ r : Row, ∃ v : List Byte, ∃ x : Val, ∃ y : Val, ∃ held : Bool, ∃ s : State,
        s.ozRuns = true ∧ s.lookup it = .ok r ∧ (accOf it.index r = .rw ∨ accOf it.index r = .rp) ∧
        s.oz.resetPending = false ∧ itemValue it r v = .ok x ∧ it.offset = 0 ∧
        s.wholeValue it.index it.sub r x = .ok (y, held) ∧ ¬ (0x3000 ≤ it.index ∧ it.index < 0x3060 ∧ it.sub = 0x22) ∧
        ¬ (it.index = 0x7100 ∧ it.sub = 0x0A) ∧
        (4 ≤ (s.oz.commits.filter (fun p => p.master == m.val && !p.policy)).length ∨ 256 ≤ s.oz.commits.length)) ∧
    (∃ m : MasterId, ∃ word : BitVec 32, ∃ u : State, ∃ s : State, s.ozRuns = true ∧ s.serves 0x1400 = true ∧
        bit word.toNat 0 = false ∧ bits word.toNat 7 4 = 2 ∧
        ((s.oz.commits.filter (fun p => p.master == m.val && !p.policy)).length < 4) ∧ s.oz.commits.length < 256 ∧
        ((s.masterAt m.val).stage.all (fun t => t.finished) = true) ∧
        (s.checkCommit 2 (s.commitTarget m.val 2) (commitTime (s.commitTarget m.val 3)) ((s.masterAt m.val).stage.map (fun t => (t.key, t.val))) = (u, none)) ∧
        u.oz.commits = s.oz.commits ∧ (∀ q ∈ s.oz.commits, q.todo ≠ []) ∧
        ((u.todoOf 2 ((s.masterAt m.val).stage.map (fun t => (t.key, t.val)))) ≠ [])) :=
  ⟨⟨dark.masterPut 0 { stage := [{ key := dkey 0x1400 2, val := .num 9, finished := true }] }, by decide +kernel⟩,
   ⟨0xAB000001, dark.masterPut 0 { stage := [{ key := dkey 0x1400 2, val := .num 9, finished := true }] },
       by decide +kernel⟩,
   ⟨0, 0xAB000020,
       { dark.masterPut 0 { stage := [{ key := dkey 0x1400 2, val := .num 9, finished := true }] } with oz := { (dark.masterPut 0 { stage := [{ key := dkey 0x1400 2, val := .num 9, finished := true }] }).oz with commits := List.replicate 4 { id := 0, master := 0, policy := false, selector := 2, frame := 0, time := 5, todo := [{ key := dkey 0x1100 0x10, val := .num 200, cls := .device, after := false }], superseded := false } } },
       by decide +kernel⟩,
   ⟨0, Item.mk false 3 0x1100 0x10 2 0, row 0x1100 0x10, [200#8,0#8], .num 200, .num 200, false,
       { dark with oz := { dark.oz with commits := List.replicate 4 { id := 0, master := 0, policy := false, selector := 2, frame := 0, time := 5, todo := [{ key := dkey 0x1100 0x10, val := .num 200, cls := .device, after := false }], superseded := false } } },
       by decide +kernel⟩,
   ⟨3, 0x0C000020,
       (((dark.masterPut 3 { stage := [{ key := dkey 0x2300 3, val := .num 100, finished := true }] })).checkCommit 2 (((dark.masterPut 3 { stage := [{ key := dkey 0x2300 3, val := .num 100, finished := true }] })).commitTarget 3 2) (commitTime (((dark.masterPut 3 { stage := [{ key := dkey 0x2300 3, val := .num 100, finished := true }] })).commitTarget 3 3)) [(dkey 0x2300 3, .num 100)]).1,
       ((dark.masterPut 3 { stage := [{ key := dkey 0x2300 3, val := .num 100, finished := true }] })), by decide +kernel⟩⟩

theorem witness_TimeCommitIsTakenWhole :
    ∃ m : MasterId, ∃ word : BitVec 32, ∃ u : State, ∃ s : State, let frame := s.commitTarget m.val 2;
        let time := commitTime (s.commitTarget m.val 3); let items := (s.masterAt m.val).stage.map (fun t => (t.key, t.val));
        let v := u.masterPut m.val { u.masterAt m.val with stage := [], lastCommit := resultWord (bits word.toNat 31 24) 0 1, lastId := some u.oz.nextId };
        s.ozRuns = true ∧ s.serves 0x1400 = true ∧ bit word.toNat 0 = false ∧ bits word.toNat 7 4 = 2 ∧
        ((s.oz.commits.filter (fun p => p.master == m.val && !p.policy)).length < 4) ∧ s.oz.commits.length < 256 ∧
        ((s.masterAt m.val).stage.all (fun t => t.finished) = true) ∧ s.checkCommit 2 frame time items = (u, none) ∧
        (∀ q ∈ u.oz.commits, q.todo ≠ []) ∧ v.todoOf 2 items ≠ [] :=
  ⟨3, 0x0C000020,
      (((dark.masterPut 3 { stage := [{ key := dkey 0x2300 3, val := .num 100, finished := true }] })).checkCommit 2 (((dark.masterPut 3 { stage := [{ key := dkey 0x2300 3, val := .num 100, finished := true }] })).commitTarget 3 2) (commitTime (((dark.masterPut 3 { stage := [{ key := dkey 0x2300 3, val := .num 100, finished := true }] })).commitTarget 3 3)) [(dkey 0x2300 3, .num 100)]).1,
      ((dark.masterPut 3 { stage := [{ key := dkey 0x2300 3, val := .num 100, finished := true }] })), by decide +kernel⟩

theorem witness_TimeCommitAppliesAtItsTime :
    ∃ q : Pending, ∃ n : Nat, ∃ s : State, s.oz.commits = [q] ∧ q.selector = 2 ∧ q.time ≤ s.clk.tai ∧
        q.todo = [{ key := dkey 0x1100 0x10, val := .num n, cls := .device, after := false }] :=
  ⟨{ id := 0, master := 0, policy := false, selector := 2, frame := 0, time := 0, todo := [{ key := dkey 0x1100 0x10, val := .num 200, cls := .device, after := false }], superseded := false },
      200,
      { dark with oz := { commits := [{ id := 0, master := 0, policy := false, selector := 2, frame := 0, time := 0, todo := [{ key := dkey 0x1100 0x10, val := .num 200, cls := .device, after := false }], superseded := false }] } },
      by decide +kernel⟩

theorem witness_RequestsAreCheckedFirst :
    (∃ src : Source, ∃ msg : List Byte, ∃ seq : Nat, ∃ m : Nat, ∃ items : List ReqItem, ∃ s : State, ∃ k, s.ozRuns = true ∧
        s.reaches src = true ∧ checkMessage msg = .pass seq items ∧ s.knownMaster src = some m ∧
        ((s.masterAt m).kept.find? (fun k => k.seq == seq) = some k)) ∧
    (∃ src : Source, ∃ msg : List Byte, ∃ seq : Nat, ∃ m : Nat, ∃ items : List ReqItem, ∃ s : State, ∃ l, s.ozRuns = true ∧
        s.reaches src = true ∧ checkMessage msg = .pass seq items ∧ s.knownMaster src = some m ∧
        ((s.masterAt m).kept.find? (fun k => k.seq == seq) = none) ∧ (s.masterAt m).last = some l ∧
        ((seq + 65536 - l) % 65536 < 1 ∨ 32767 < (seq + 65536 - l) % 65536)) ∧
    (∃ src : Source, ∃ msg : List Byte, ∃ seq : Nat, ∃ m : Nat, ∃ items : List ReqItem, ∃ s : State, s.ozRuns = true ∧
        s.reaches src = true ∧ checkMessage msg = .pass seq items ∧ s.knownMaster src = some m ∧
        ((s.masterAt m).kept.find? (fun k => k.seq == seq) = none) ∧ inWindow (s.masterAt m).last seq = true ∧
        8 ≤ s.outstanding m) ∧
    (∃ src : Source, ∃ s : State, (s.ozRuns = false ∨ s.reaches src = false)) ∧
    (∃ src : Source, ∃ msg : List Byte, ∃ s : State, s.ozRuns = true ∧ s.reaches src = true ∧
        (msg.length < 20 ∨ slice 0 2 msg ≠ [0x4F, 0x5A])) ∧
    (∃ src : Source, ∃ msg : List Byte, ∃ s : State, s.ozRuns = true ∧ s.reaches src = true ∧ 20 ≤ msg.length ∧
        slice 0 2 msg = [0x4F, 0x5A] ∧ leAt msg (msg.length - 4) 4 ≠ crc32c (msg.take (msg.length - 4))) ∧
    (∃ src : Source, ∃ msg : List Byte, ∃ s : State, ∃ seq, ∃ st, s.ozRuns = true ∧ s.reaches src = true ∧
        checkMessage msg = .answer seq st) :=
  ⟨⟨.udp 7 9 5 41620, readMessage 4 65 0x1100 0x10, 4, 65,
       [{ op := 1, it := Item.mk false 0 0x1100 0x10 0 0, value := [] }], udpState, { seq := 4, response := [1#8] },
       by decide +kernel⟩,
   ⟨.udp 7 9 5 41620, readMessage 3 65 0x1100 0x10, 3, 65,
       [{ op := 1, it := Item.mk false 0 0x1100 0x10 0 0, value := [] }], udpState, 4, by decide +kernel⟩,
   ⟨.udp 7 9 5 41620, readMessage 5 65 0x1100 0x10, 5, 65,
       [{ op := 1, it := Item.mk false 0 0x1100 0x10 0 0, value := [] }],
       udpState.queuePut (requestQueue 65) { udpState.queueAt (requestQueue 65) with head := 0, tail := 8 },
       by decide +kernel⟩,
   ⟨.spi, State.reset, by decide +kernel⟩,
   ⟨.spi, [1#8], dark, by decide +kernel⟩,
   ⟨.spi, (readMessage 3 65 0x1100 0x10).dropLast ++ [0xA5], dark, by decide +kernel⟩,
   ⟨.spi, message 0x01 7 0 0 0x00 [], dark, 7, stRange, by decide +kernel⟩⟩

theorem witness_ReadRequestIsAnswered :
    (∃ src : Source, ∃ msg : List Byte, ∃ seq : Nat, ∃ m : Nat, ∃ n : Nat, ∃ it : Item, ∃ r : Row, ∃ s : State, ∃ ip, ∃ port,
        ∃ toIp, ∃ toPort, s.ozRuns = true ∧ s.reaches src = true ∧
        checkMessage msg = .pass seq [{ op := 1, it := it, value := [] }] ∧ s.knownMaster src = some m ∧
        ((s.masterAt m).kept.find? (fun k => k.seq == seq) = none) ∧ inWindow (s.masterAt m).last seq = true ∧
        s.outstanding m < 8 ∧ itemTooLong { op := 1, it := it, value := [] } = false ∧ s.lookup it = .ok r ∧
        accOf it.index r ≠ .wo ∧ Sys2Proof.Machine.sizeOf r.ty = some n ∧ it.offset = 0 ∧ s.oz.resetPending = false ∧
        src = .udp ip port toIp toPort) ∧
    (∃ src : Source, ∃ msg : List Byte, ∃ seq : Nat, ∃ m : Nat, ∃ n : Nat, ∃ it : Item, ∃ r : Row, ∃ s : State,
        let u := (s.masterPut m { s.masterAt m with seen := true, last := some seq }).requestIn m;
        let resp := message 0x02 seq m 1 0x00 (itemBytes 1 false { it with final := false, type := codeOf r.ty } 0x00 (encodeVal r.ty (u.liveVal m it.index it.sub)));
        let kept := (u.masterAt m).kept ++ [{ seq := seq, response := resp }];
        let w := u.masterPut m { u.masterAt m with kept := kept.drop (kept.length - 8) }; ∃ ctx : Fin 64,
        ∃ window : List Byte, ∃ v : BitVec 64, s.ozRuns = true ∧ s.reaches src = true ∧
        checkMessage msg = .pass seq [{ op := 1, it := it, value := [] }] ∧ s.knownMaster src = some m ∧
        ((s.masterAt m).kept.find? (fun k => k.seq == seq) = none) ∧ inWindow (s.masterAt m).last seq = true ∧
        s.outstanding m < 8 ∧ itemTooLong { op := 1, it := it, value := [] } = false ∧ s.lookup it = .ok r ∧
        accOf it.index r ≠ .wo ∧ Sys2Proof.Machine.sizeOf r.ty = some n ∧ it.offset = 0 ∧ s.oz.resetPending = false ∧
        src = .pcie ctx ∧ (w.ctxAt ctx.val).ready = 0 ∧ bits v.toNat 15 0 ≤ window.length ∧
        window.take (bits v.toNat 15 0) = msg) ∧
    (∃ src : Source, ∃ msg : List Byte, ∃ seq : Nat, ∃ m : Nat, ∃ n : Nat, ∃ it : Item, ∃ r : Row, ∃ s : State, ∃ len : Nat,
        ∃ unit : List Byte, s.ozRuns = true ∧ s.reaches src = true ∧
        checkMessage msg = .pass seq [{ op := 1, it := it, value := [] }] ∧ s.knownMaster src = some m ∧
        ((s.masterAt m).kept.find? (fun k => k.seq == seq) = none) ∧ inWindow (s.masterAt m).last seq = true ∧
        s.outstanding m < 8 ∧ itemTooLong { op := 1, it := it, value := [] } = false ∧ s.lookup it = .ok r ∧
        accOf it.index r ≠ .wo ∧ Sys2Proof.Machine.sizeOf r.ty = some n ∧ it.offset = 0 ∧ s.oz.resetPending = false ∧
        src = .spi ∧ len ≤ unit.length ∧ unit.take len = msg) :=
  ⟨⟨.udp 7 9 5 41620, readMessage 5 65 0x1100 0x10, 5, 65, 2, Item.mk false 0 0x1100 0x10 0 0, row 0x1100 0x10, udpState, 7,
       9, 5, 41620, by decide +kernel⟩,
   ⟨.pcie 63, readMessage 3 64 0x1100 0x10, 3, 64, 2, Item.mk false 0 0x1100 0x10 0 0, row 0x1100 0x10, dark, 63,
       readMessage 3 64 0x1100 0x10 ++ [0xFF], 32, by decide +kernel⟩,
   ⟨.spi, readMessage 3 0 0x1100 0x10, 3, 0, 2, Item.mk false 0 0x1100 0x10 0 0, row 0x1100 0x10, dark, 32,
       readMessage 3 0 0x1100 0x10 ++ [0xFF], by decide +kernel⟩⟩

theorem witness_WaitingResponsesArePlacedAndRead :
    (∃ ctx : Fin 64, ∃ s : State, let x := s.ctxAt ctx.val; ∃ p, ∃ l, x.queued = p :: l) ∧
    (∃ ctx : Fin 64, ∃ s : State, let x := s.ctxAt ctx.val; ∃ p, ∃ l, x.queued = [] ∧ x.waiting = p :: l) ∧
    (∃ ctx : Fin 64, ∃ s : State, let x := s.ctxAt ctx.val; x.queued = [] ∧ x.waiting = []) ∧
    (∃ s : State, s.oz.spi = []) ∧
    (∃ s : State, ∃ p, ∃ l, s.oz.spi = p :: l) ∧
    (∃ s : State, ∃ w : Bool, ∃ b : Bool, s.oz.spi.isEmpty = !w ∧ s.ozRuns = !b) :=
  ⟨⟨63,
       State.reset.ctxPut 63 { ready := 5, queued := [(true, readMessage 3 0 0x1100 0x10), (false, [0x05])], waiting := [(6, [0x07])] },
       (true, readMessage 3 0 0x1100 0x10), [(false, [0x05])], by decide +kernel⟩,
   ⟨63, State.reset.ctxPut 63 { ready := 5, queued := [], waiting := [(6, readMessage 3 0 0x1100 0x10)] },
       (6, readMessage 3 0 0x1100 0x10), [], by decide +kernel⟩,
   ⟨63, State.reset.ctxPut 63 { ready := 5 }, by decide +kernel⟩,
   ⟨State.reset, by decide +kernel⟩,
   ⟨{ State.reset with oz := { spi := [(true, [0x01, 0x02])] } }, (true, [0x01,0x02]), [], by decide +kernel⟩,
   ⟨{ dark with oz := { spi := [(true, [0x01, 0x02])] } }, true, false, by decide +kernel⟩⟩

theorem witness_HeartbeatsAndPublicationsAreSent :
    (∃ s : State, s.ozRuns = true ∧ s.nat 0x1100 0x11 ≠ 0) ∧
    (∃ s : State, ∃ m, ∃ ip, ∃ port, ∃ x, s.ozRuns = true ∧ s.nat 0x1100 0x11 = 0 ∧ s.oz.masters = [(m, x)] ∧
        x.addr = some (ip, port)) ∧
    (∃ s : State, s.ozRuns = true) ∧
    (∃ m : MasterId, ∃ index : Nat, ∃ sub : Nat, ∃ r : Row, ∃ s : State, s.ozRuns = true ∧
        ((s.masterAt m.val).subs.any (fun t => t.key == dkey index sub && s.subDue m.val t) = true) ∧ s.serves index = true ∧
        rowOf index sub = some r) ∧
    (∃ m : MasterId, ∃ index : Nat, ∃ sub : Nat, ∃ r : Row, ∃ s : State, let x := s.masterAt m.val; ∃ ip, ∃ port,
        s.ozRuns = true ∧ ((s.masterAt m.val).subs.any (fun t => t.key == dkey index sub && s.subDue m.val t) = true) ∧
        s.serves index = true ∧ rowOf index sub = some r ∧ 65 ≤ m.val ∧ x.addr = some (ip, port)) ∧
    (∃ m : MasterId, ∃ index : Nat, ∃ sub : Nat, ∃ r : Row, ∃ s : State, ∃ p, s.ozRuns = true ∧
        ((s.masterAt m.val).subs.any (fun t => t.key == dkey index sub && s.subDue m.val t) = true) ∧ s.serves index = true ∧
        rowOf index sub = some r ∧ 1 ≤ m.val ∧ m.val < 65 ∧ (s.ctxAt (m.val - 1)).ready ≠ 0 ∧
        (s.ctxAt (m.val - 1)).waiting = [(dkey index sub, p)]) ∧
    (∃ m : MasterId, ∃ index : Nat, ∃ sub : Nat, ∃ r : Row, ∃ s : State, let x := s.masterAt m.val; ∃ j : Sub,
        s.ozRuns = true ∧ ((s.masterAt m.val).subs.any (fun t => t.key == dkey index sub && s.subDue m.val t) = true) ∧
        s.serves index = true ∧ rowOf index sub = some r ∧ x.subs = [j] ∧ 0 < j.period ∧ j.key = dkey index sub) ∧
    (∃ m : MasterId, 65 ≤ m.val) ∧
    (∃ m : MasterId, m.val < 65) ∧
    (∃ s : State, s.oz.addrPending = true) :=
  ⟨⟨(dark.putN 0x1100 0x11 8).putN 0x1100 0x13 0xFFFFFFFF, by decide +kernel⟩,
   ⟨dark.masterPut 65 { addr := some (7, 9) }, 65, 7, 9, { addr := some (7, 9) }, by decide +kernel⟩,
   ⟨dark, by decide +kernel⟩,
   ⟨70, 0x1100, 0x10, row 0x1100 0x10,
       (dark.masterPut 70 { addr := some (7,9), subs := [{ key := dkey 0x1100 0x10, period := 0, shown := .num 7 }], pubSeq := 65535 }),
       by decide +kernel⟩,
   ⟨70, 0x1100, 0x10, row 0x1100 0x10,
       (dark.masterPut 70 { addr := some (7,9), subs := [{ key := dkey 0x1100 0x10, period := 0, shown := .num 7 }], pubSeq := 65535 }),
       7, 9, by decide +kernel⟩,
   ⟨64, 0x1100, 0x10, row 0x1100 0x10,
       (dark.masterPut 64 { subs := [{ key := dkey 0x1100 0x10, period := 0, shown := .num 7 }] }).ctxPut 63 { ready := 5, waiting := [(dkey 0x1100 0x10, [0x01])] },
       [0x01], by decide +kernel⟩,
   ⟨70, 0x1100, 0x10, row 0x1100 0x10,
       (dark.masterPut 70 { addr := some (7,9), subs := [{ key := dkey 0x1100 0x10, period := 100, shown := .num 7 }], pubSeq := 65535 }),
       { key := dkey 0x1100 0x10, period := 100, shown := .num 7 }, by decide +kernel⟩,
   ⟨66, by decide +kernel⟩,
   ⟨64, by decide +kernel⟩,
   ⟨{ (dark.putN 0x1100 1 9) with oz := { addrPending := true, masters := [(3, { seen := true }), (65, { addr := some (7, 9) })] } },
       by decide +kernel⟩⟩

theorem witness_PersistentWritesKeepTheirOrder :
    (∃ s : State, s.canPersist = true ∧ s.store.stopped = false ∧ s.store.held.isEmpty = false ∧
        (journalFill s.store + (s.store.held.map (fun w => w.size + 16)).sum ≤ journalMax)) ∧
    (∃ s : State, ∃ w, ∃ l, s.canPersist = true ∧ s.store.stopped = false ∧ s.store.held = w :: l ∧
        journalMax < journalFill s.store + (w.size + 16)) ∧
    (∃ v : Byte, ∃ s : State, s.ozRuns = true ∧ s.serves 0x7100 = true ∧ v ≠ 0) ∧
    (∃ m : MasterId, ∃ s : State, s.ozRuns = true ∧ s.serves 0x7100 = true ∧ s.commitsFull m.val = true) ∧
    (∃ m : MasterId, ∃ s : State, s.ozRuns = true ∧ s.serves 0x7100 = true ∧ s.commitsFull m.val = false) ∧
    (∃ w : PWrite, ∃ l : List PWrite, ∃ s : State, s.store.stopped = false ∧ s.canPersist = true ∧ s.store.under = w :: l ∧
        w.key < 2 ^ 24) ∧
    (∃ s : State, s.store.stopped = false ∧ s.canPersist = true ∧ s.store.held = [] ∧ journalFill s.store + 48 ≤ journalMax) :=
  ⟨⟨{ dark with store := { under := [{ key := dkey 0x1100 0x10, val := .num 200, size := 20 }], held := [{ key := dkey 0x1100 0x10, val := .num 300, size := 20 }], pstate := 2 } },
       by decide +kernel⟩,
   ⟨{ dark with store := { under := [{ key := dkey 0x1100 0x10, val := .num 200, size := 524260 }], held := [{ key := dkey 0x1100 0x10, val := .num 300, size := 20 }], pstate := 2 } },
       { key := dkey 0x1100 0x10, val := .num 300, size := 20 }, [], by decide +kernel⟩,
   ⟨1, dark, by decide +kernel⟩,
   ⟨0,
       { dark with oz := { commits := List.replicate 4 { id := 0, master := 0, policy := false, selector := 2, frame := 0, time := 5, todo := [{ key := dkey 0x1100 0x10, val := .num 200, cls := .device, after := false }], superseded := false } } },
       by decide +kernel⟩,
   ⟨0, { dark with store := { pstate := 3 } }, by decide +kernel⟩,
   ⟨{ key := dkey 0x1100 0x10, val := .num 200, size := 20 }, [{ key := dkey 0x1100 0x10, val := .num 300, size := 20 }],
       { dark with store := { under := [{ key := dkey 0x1100 0x10, val := .num 200, size := 20 }, { key := dkey 0x1100 0x10, val := .num 300, size := 20 }] } },
       by decide +kernel⟩,
   ⟨{ dark with store := { under := [{ key := dkey 0x1100 0x10, val := .num 200, size := 20 }] }, clk := { up := 3 * tS, began := tS } },
       by decide +kernel⟩⟩

theorem witness_ServoFollowsItsOffsets :
    (∃ port : PortId, ∃ o : Int, ∃ t0 : Nat, ∃ s : State, s.flag 0x1201 1 port.val = true ∧ s.servo.selected = true ∧
        s.nat 0x1201 0x0B = port.val ∧ s.nat 0x1200 3 = 2 ∧ o.natAbs ≤ s.nat 0x1200 8 ∧ s.servo.lastSync = some t0) ∧
    (∃ port : PortId, ∃ o : Int, ∃ s : State, s.flag 0x1201 1 port.val = true ∧ s.servo.selected = true ∧
        s.nat 0x1201 0x0B = port.val ∧ s.nat 0x1200 8 < o.natAbs ∧ s.nat 0x1200 3 = 1) ∧
    (∃ port : PortId, ∃ o : Int, ∃ s : State, s.flag 0x1201 1 port.val = true ∧ s.servo.selected = true ∧
        s.nat 0x1201 0x0B = port.val ∧ s.nat 0x1200 8 < o.natAbs ∧ s.nat 0x1200 3 = 2 ∧ s.servo.jumpRun = 3) ∧
    (∃ port : PortId, ∃ domain : Nat, ∃ beyond : List PtpFeature, ∃ s : State,
        (s.flag 0x1201 1 port.val = false ∨ domain ≠ s.nat 0x1201 3 ∨ beyond ≠ [] ∨ s.servo.selected = false ∨ s.nat 0x1201 0x0B ≠ port.val)) :=
  ⟨⟨1, 10, 0,
       { (((((dark.putN 0x1201 1 3).putN 0x1201 0x0B 1).putN 0x1200 3 2).putN 0x1200 8 1000)) with servo := { selected := true, lastSync := some 0 }, clk := { up := tS } },
       by decide +kernel⟩,
   ⟨1, -2000,
       { (((((dark.putN 0x1201 1 3).putN 0x1201 0x0B 1).putN 0x1200 3 1).putN 0x1200 8 1000)) with servo := { selected := true, lastSync := some 0, c := 5, integ := 7 }, clk := { up := tS } },
       by decide +kernel⟩,
   ⟨1, 2000,
       { (((((dark.putN 0x1201 1 3).putN 0x1201 0x0B 1).putN 0x1200 3 2).putN 0x1200 8 1000)) with servo := { selected := true, lastSync := some 0, c := 5, integ := 7, jumpRun := 3 }, clk := { up := tS } },
       by decide +kernel⟩,
   ⟨1, 0, [], State.reset, by decide +kernel⟩⟩

theorem witness_TimeBaseFollowsItsStates :
    (∃ port : PortId, ∃ a : Announce, ∃ s : State, s.flag 0x1201 1 port.val = true ∧ a.domain = s.nat 0x1201 3 ∧
        a.beyond = [] ∧ s.servo.foreign = [] ∧ s.servo.selected = false ∧ s.nat 0x1200 3 = 0) ∧
    (∃ port : PortId, ∃ s : State, s.flag 0x1201 1 port.val = true ∧ s.nat 0x1201 0x0B = port.val) ∧
    (∃ port : PortId, ∃ s : State, s.flag 0x1201 1 port.val = true ∧ (s.nat 0x1200 3 = 1 ∨ s.nat 0x1200 3 = 2)) ∧
    (∃ port : PortId, ∃ s : State, s.flag 0x1201 1 port.val = true ∧ s.nat 0x1200 3 = 3 ∧
        s.servo.holdSince + s.nat 0x1200 6 * tS ≤ s.clk.up) ∧
    (∃ port : PortId, ∃ s : State, s.flag 0x1201 1 port.val = true ∧ s.nat 0x1200 3 = 3 ∧
        s.clk.up < s.servo.holdSince + s.nat 0x1200 6 * tS) ∧
    (∃ port : PortId, ∃ a : Announce, ∃ s : State,
        (s.flag 0x1201 1 port.val = false ∨ a.domain ≠ s.nat 0x1201 3 ∨ a.beyond ≠ [])) ∧
    (∃ port : PortId, ∃ domain : Nat, ∃ beyond : List PtpFeature, ∃ s : State,
        (s.flag 0x1201 1 port.val = false ∨ domain ≠ s.nat 0x1201 3 ∨ beyond ≠ [] ∨ s.nat 0x1201 0x0B ≠ port.val)) ∧
    (∃ v : Nat, ∃ s : State, v < 2 ^ 80 ∧ s.ozRuns = true ∧ s.serves 0x1200 = true ∧ v / 2 ^ 48 ≤ 999999999 ∧
        s.nat 0x1200 3 = 0) ∧
    (∃ v : Nat, ∃ s : State, v < 2 ^ 80 ∧ s.ozRuns = true ∧ s.serves 0x1200 = true ∧ v / 2 ^ 48 ≤ 999999999 ∧
        s.nat 0x1200 3 ≠ 0) ∧
    (∃ v : Nat, ∃ s : State, v < 2 ^ 80 ∧ s.ozRuns = true ∧ s.serves 0x1200 = true ∧ 999999999 < v / 2 ^ 48) :=
  ⟨⟨1, Announce.mk 0 128 6 0x20 100 128 77 1 5 37 [], (dark.putN 0x1201 1 3).putN 0x1201 3 0, by decide +kernel⟩,
   ⟨1, (dark.putN 0x1201 1 3).putN 0x1201 0x0B 1, by decide +kernel⟩,
   ⟨0, { (dark.putN 0x1201 1 3).putN 0x1200 3 1 with servo := { selected := true, c := 3 } }, by decide +kernel⟩,
   ⟨0, { (dark.putN 0x1201 1 3).putN 0x1200 3 3 with servo := { c := 3 }, clk := { up := 14401 * tS } }, by decide +kernel⟩,
   ⟨0,
       { ((dark.putN 0x1201 1 3).putN 0x1200 3 3).putN 0x1200 6 5 with servo := { c := 3, holdSince := 3 }, clk := { up := 5 * tS + 2 } },
       by decide +kernel⟩,
   ⟨1, Announce.mk 0 128 6 0x20 100 128 77 1 5 37 [], State.reset, by decide +kernel⟩,
   ⟨1, 0, [], State.reset, by decide +kernel⟩,
   ⟨999999999 * 2 ^ 48 + 5, dark, by decide +kernel⟩,
   ⟨999999999 * 2 ^ 48 + 5, dark.putN 0x1200 3 4, by decide +kernel⟩,
   ⟨1000000000 * 2 ^ 48 + 5, dark, by decide +kernel⟩⟩

theorem witness_SyncInputsFollowTheirEdges :
    (∃ i : Fin 4, ∃ falling : Bool, ∃ s : State, let ix := 0x1210 + i.val; (s.nat ix 1 = 0 ∨ (s.nat ix 2 == 1) ≠ falling)) ∧
    (∃ i : Fin 4, ∃ falling : Bool, ∃ time : Nat, ∃ p : Nat, ∃ s : State, let x := s.syncsAt i.val; let ix := 0x1210 + i.val;
        let window := s.nat ix 5 * tNs; s.nat ix 1 ≠ 0 ∧ (s.nat ix 2 == 1) = falling ∧ s.nat ix 8 = 2 ∧ x.predicted = some p ∧
        x.missed < 4 ∧ p ≤ time + window ∧ time ≤ p + window) ∧
    (∃ i : Fin 4, ∃ falling : Bool, ∃ time : Nat, ∃ p : Nat, ∃ s : State, let x := s.syncsAt i.val; let ix := 0x1210 + i.val;
        let window := s.nat ix 5 * tNs; s.nat ix 1 ≠ 0 ∧ (s.nat ix 2 == 1) = falling ∧ s.nat ix 8 = 2 ∧ x.predicted = some p ∧
        x.missed < 4 ∧ time + window < p) ∧
    (∃ i : Fin 4, ∃ falling : Bool, ∃ l : Nat, ∃ s : State, let x := s.syncsAt i.val; let ix := 0x1210 + i.val;
        s.nat ix 1 ≠ 0 ∧ (s.nat ix 2 == 1) = falling ∧ s.nat ix 8 = 1 ∧ x.last = some l ∧ x.predicted = none) ∧
    (∃ i : Fin 4, ∃ falling : Bool, ∃ time : Nat, ∃ l : Nat, ∃ p : Nat, ∃ s : State, let x := s.syncsAt i.val;
        let ix := 0x1210 + i.val; let window := s.nat ix 5 * tNs; s.nat ix 1 ≠ 0 ∧ (s.nat ix 2 == 1) = falling ∧
        s.nat ix 8 = 1 ∧ x.last = some l ∧ x.predicted = some p ∧ p ≤ time + window ∧ time ≤ p + window ∧ x.good = 7) ∧
    (∃ i : Fin 4, ∃ s : State, let x := s.syncsAt i.val; let ix := 0x1210 + i.val; s.nat ix 1 ≠ 0 ∧ s.nat ix 8 = 2 ∧
        4 ≤ x.missed) ∧
    (∃ i : Fin 4, ∃ p : Nat, ∃ s : State, let x := s.syncsAt i.val; let ix := 0x1210 + i.val; let window := s.nat ix 5 * tNs;
        s.nat ix 1 ≠ 0 ∧ s.nat ix 8 = 2 ∧ x.missed = 0 ∧ x.predicted = some p ∧ p + 3 * s.nat ix 6 + window < s.clk.tai) ∧
    (∃ i : Fin 4, ∃ p : Nat, ∃ s : State, let x := s.syncsAt i.val; let ix := 0x1210 + i.val; let window := s.nat ix 5 * tNs;
        s.nat ix 1 ≠ 0 ∧ s.nat ix 8 = 2 ∧ x.missed = 0 ∧ x.predicted = some p ∧ s.clk.tai ≤ p + window) ∧
    (∃ i : Fin 4, ∃ s : State, let ix := 0x1210 + i.val; (s.nat ix 1 = 0 ∨ s.nat ix 8 ≠ 2)) :=
  ⟨⟨3, true, State.reset, by decide +kernel⟩,
   ⟨3, false, 5 * tMs + 7, 5 * tMs,
       { (((((State.reset.putN 0x1213 1 1).putN 0x1213 8 2).putN 0x123F 1 1).putN 0x123F 2 3).putN 0x1213 6 (4 * tMs)).syncsPut 3 { last := some tMs, predicted := some (5 * tMs) } with clk := { tai := 6 * tMs } },
       by decide +kernel⟩,
   ⟨3, false, tMs, 5 * tMs,
       ((State.reset.putN 0x1213 1 1).putN 0x1213 8 2).syncsPut 3 { last := some tMs, predicted := some (5 * tMs), missed := 3 },
       by decide +kernel⟩,
   ⟨3, false, 4 * tMs, ((State.reset.putN 0x1213 1 1).putN 0x1213 8 1).syncsPut 3 { last := some (4 * tMs) },
       by decide +kernel⟩,
   ⟨3, false, 5 * tMs, 4 * tMs, 5 * tMs,
       ((State.reset.putN 0x1213 1 1).putN 0x1213 8 1).syncsPut 3 { last := some (4 * tMs), predicted := some (5 * tMs), good := 7 },
       by decide +kernel⟩,
   ⟨3,
       { ((State.reset.putN 0x1213 1 1).putN 0x1213 8 2).syncsPut 3 { last := some (4 * tMs), good := 9, missed := 4 } with clk := { up := 99 } },
       by decide +kernel⟩,
   ⟨3, 5 * tMs,
       { ((State.reset.putN 0x1213 1 1).putN 0x1213 8 2).syncsPut 3 { predicted := some (5 * tMs), good := 9 } with clk := { up := 99, tai := 9000 * tMs } },
       by decide +kernel⟩,
   ⟨3, 5 * tMs,
       { ((State.reset.putN 0x1213 1 1).putN 0x1213 8 2).syncsPut 3 { predicted := some (5 * tMs), good := 9 } with clk := { up := 99, tai := 5 * tMs } },
       by decide +kernel⟩,
   ⟨3, State.reset, by decide +kernel⟩⟩

theorem witness_ShaftsFollowTheirLines :
    (∃ j : Fin 8, ∃ a : Bool, ∃ b : Bool, ∃ s : State, let x := s.shaftsAt j.val; s.shaftState j.val ≠ 6 ∧
        s.nat (shIx j.val) 1 = 1 ∧ a ≠ x.a ∧ b = x.b ∧ x.zPending = false ∧ -(2 : Int) ^ 62 ≤ s.shaftPos j.val ∧
        s.shaftPos j.val < (2 : Int) ^ 62) ∧
    (∃ j : Fin 8, ∃ a : Bool, ∃ b : Bool, ∃ s : State, let x := s.shaftsAt j.val; s.shaftState j.val ≠ 6 ∧
        s.nat (shIx j.val) 1 = 1 ∧ (a == x.a) = !(b == x.b) ∧ x.zPending = true) ∧
    (∃ j : Fin 8, ∃ a : Bool, ∃ b : Bool, ∃ s : State, let x := s.shaftsAt j.val; s.shaftState j.val ≠ 6 ∧
        s.nat (shIx j.val) 1 = 1 ∧ a ≠ x.a ∧ b ≠ x.b) ∧
    (∃ j : Fin 8, ∃ s : State, s.shaftState j.val ≠ 6 ∧ s.nat (shIx j.val) 1 = 1) ∧
    (∃ j : Fin 8, ∃ f : SsiFrame, ∃ s : State, let x := s.shaftsAt j.val; s.shaftState j.val ≠ 6 ∧ s.nat (shIx j.val) 1 = 2 ∧
        x.poll = none ∧ f.highBefore = true ∧ f.highAfter = true ∧ s.nat (shIx j.val) 6 = 0 ∧ s.nat (shIx j.val) 5 = 0 ∧
        s.nat (shIx j.val) 4 ≤ 32) ∧
    (∃ j : Fin 8, ∃ f : SsiFrame, ∃ s : State, s.shaftState j.val ≠ 6 ∧ s.nat (shIx j.val) 1 = 2 ∧ f.highBefore = false) ∧
    (∃ j : Fin 8, ∃ s : State, s.nat (shIx j.val) 1 ≠ 0) ∧
    (∃ j : Fin 8, ∃ s : State, s.shaftState j.val = 6) ∧
    (∃ j : Fin 8, ∃ s : State, s.shaftState j.val = 2) ∧
    (∃ j : Fin 8, ∃ s : State, (∀ k < 32, s.follows k 2 j.val = false)) ∧
    (∃ j : Fin 8, ∃ s : State, ∃ st, ∃ k, k < 32 ∧ s.follows k 2 j.val = true ∧ (st = 5 ∨ st = 6) ∧
        s.nat (shIx j.val) 0x0C = 0) ∧
    (∃ j : Fin 8, ∃ s : State, s.nat (shIx j.val) 1 = 0) :=
  ⟨⟨7, true, false, (State.reset.putN 0x121F 1 1), by decide +kernel⟩,
   ⟨7, true, false, (State.reset.putN 0x121F 1 1).shaftsPut 7 { zPending := true }, by decide +kernel⟩,
   ⟨7, true, true, (State.reset.putN 0x121F 1 1), by decide +kernel⟩,
   ⟨7, (State.reset.putN 0x121F 1 1), by decide +kernel⟩,
   ⟨7, SsiFrame.mk 5 false true true, ((State.reset.putN 0x121F 1 2).putN 0x121F 5 0).putN 0x121F 6 0, by decide +kernel⟩,
   ⟨7, SsiFrame.mk 5 false false true, (State.reset.putN 0x121F 1 2), by decide +kernel⟩,
   ⟨0, ((State.reset.putN 0x1218 1 1).putN 0x1218 0x10 2).shaftsPut 0 { certain := true }, by decide +kernel⟩,
   ⟨0, ((State.reset.putN 0x1218 1 1).putN 0x1218 0x10 6), by decide +kernel⟩,
   ⟨0, ((State.reset.putN 0x1218 1 1).putN 0x1218 0x10 2), by decide +kernel⟩,
   ⟨7, State.reset, by decide +kernel⟩,
   ⟨7, ((((State.reset.putN 0x123F 1 2).putN 0x123F 2 7).putN 0x121F 0x0C 0).putN 0x121F 1 1), 6, 31, by decide +kernel⟩,
   ⟨7, State.reset, by decide +kernel⟩⟩

theorem witness_FramesAreRequestedAndStart :
    (∃ k : CourseId, ∃ s : State, let f := s.frmAt k.val; s.nat (refIx k.val) 1 = 0 ∧ f.held = none) ∧
    (∃ k : CourseId, ∃ s : State, let f := s.frmAt k.val; s.nat (refIx k.val) 1 = 3 ∧ f.held = none) ∧
    (∃ k : CourseId, ∃ s : State, let f := s.frmAt k.val; ∃ r, s.nat (refIx k.val) 1 = 3 ∧ f.held = some r) ∧
    (∃ k : CourseId, ∃ s : State, let f := s.frmAt k.val; s.nat (refIx k.val) 1 = 3 ∧
        (s.contentDone k.val = 0 ∨ (s.contentDone k.val : Rat) + 4 * s.framePeriod k.val * (1 + f.d) ≤ (s.clk.tai : Rat))) ∧
    (∃ k : CourseId, ∃ s : State, let f := s.frmAt k.val; s.nat (refIx k.val) 1 = 3 ∧ s.contentDone k.val ≠ 0 ∧
        (s.clk.tai : Rat) < (s.contentDone k.val : Rat) + 4 * s.framePeriod k.val * (1 + f.d)) ∧
    (∃ k : CourseId, ∃ s : State, (s.nat (refIx k.val) 1 = 1 ∨ s.nat (refIx k.val) 1 = 2) ∧ s.nat (refIx k.val) 8 ≠ 0) ∧
    (∃ k : CourseId, ∃ r : FrameReq, ∃ s : State, (s.frmAt k.val).held = some r ∧ s.clk.refclk = true ∧
        s.flybackOver k.val = false) ∧
    (∃ k : CourseId, ∃ r : FrameReq, ∃ s : State, (s.frmAt k.val).held = some r ∧ s.clk.refclk = true ∧
        s.flybackOver k.val = true ∧ s.oz.commits = [] ∧ (∀ d < 98, (s.domainsAt d).waiting = [])) :=
  ⟨⟨31, { State.reset with clk := { tai := 1700000000 * tS } }, by decide +kernel⟩,
   ⟨31, (State.reset.putN 0x123F 1 3), by decide +kernel⟩,
   ⟨31, ((State.reset.putN 0x123F 1 3).frmPut 31 { held := some { counter := some 7 } }), { counter := some 7 },
       by decide +kernel⟩,
   ⟨31, (State.reset.putN 0x123F 1 3), by decide +kernel⟩,
   ⟨31, { ((State.reset.putN 0x123F 1 3).putN 0x2400 0x13 8) with clk := { tai := 8 * tS + 5 } }, by decide +kernel⟩,
   ⟨31, ((State.reset.putN 0x123F 1 2).putN 0x123F 8 5), by decide +kernel⟩,
   ⟨31, { counter := some 7 },
       ((State.reset.putN (crs 31) 1 4).frmPut 31 { held := some { counter := some 7 }, flyback := false }),
       by decide +kernel⟩,
   ⟨31, { counter := some 7 }, ((State.reset.putN 0x123F 0x10 0xFFFFFFFF).frmPut 31 { held := some { counter := some 7 } }),
       by decide +kernel⟩⟩

theorem witness_RefclkLossIsBridged :
    (∃ s : State, s.clk.refclk = false) ∧
    (∃ s : State, s.clk.refclk = true) :=
  ⟨⟨{ State.reset with clk := { refclk := false, elapsed := 16385 * tSlot + 1, lossSlot := 7, lossTai := 9, slotRun := true, slot := 7, tai := 9 } },
       by decide +kernel⟩,
   ⟨State.reset, by decide +kernel⟩⟩

theorem witness_ConsortsBeaconAndLock :
    (∃ id : Fin 65536, ∃ s : State, s.members id.val ≠ []) ∧
    (∃ id : Fin 65536, ∃ s : State, s.members id.val = []) ∧
    (∃ msg : List Byte, beaconOk msg = true) ∧
    (∃ msg : List Byte, beaconOk msg = false) ∧
    (∃ k : CourseId, ∃ s : State, let st := s.nat (refIx k.val) 0x13; let m := s.mirAt k.val; (st = 3 ∨ st = 5) ∧
        64 ≤ m.nearBows) ∧
    (∃ k : CourseId, ∃ s : State, let st := s.nat (refIx k.val) 0x13; let m := s.mirAt k.val; st = 4 ∧ 16 ≤ m.farBows) ∧
    (∃ k : CourseId, ∃ s : State, let st := s.nat (refIx k.val) 0x13; let m := s.mirAt k.val;
        (st ≠ 3 ∧ st ≠ 5 ∨ m.nearBows < 64)) ∧
    (∃ k : CourseId, ∃ s : State, let st := s.nat (refIx k.val) 0x13; let m := s.mirAt k.val; (st ≠ 4 ∨ m.farBows < 16)) :=
  ⟨⟨65535, (State.reset.putN 0x123F 0x0A 65535), by decide +kernel⟩,
   ⟨0, (State.reset.putN 0x123F 0x0A 65535), by decide +kernel⟩,
   ⟨([0x4F, 0x43, 0x01] ++ List.replicate 41 0x05) ++ leBytes 4 (crc32c ([0x4F, 0x43, 0x01] ++ List.replicate 41 0x05)),
       by decide +kernel⟩,
   ⟨([0x4F, 0x43, 0x01] ++ List.replicate 41 0x05) ++ leBytes 4 (crc32c []), by decide +kernel⟩,
   ⟨31, ((State.reset.putN 0x123F 0x13 3).mirPut 31 { nearBows := 64 }), by decide +kernel⟩,
   ⟨31, ((State.reset.putN 0x123F 0x13 4).mirPut 31 { farBows := 16 }), by decide +kernel⟩,
   ⟨31, (State.reset.putN 0x123F 0x13 4), by decide +kernel⟩,
   ⟨31, (State.reset.putN 0x123F 0x13 3), by decide +kernel⟩⟩

theorem witness_CrossingsSeedTheModel :
    (∃ k : CourseId, ∃ s : State, let b := s.bowAt k.val; s.cst k.val ≠ 0 ∧ s.clk.refclk = true ∧ s.clk.slotRun = true ∧
        b.stamp = none ∧ b.mid = none ∧ b.rejected = false) ∧
    (∃ k : CourseId, ∃ s : State, let b := s.bowAt k.val; s.cst k.val ≠ 0 ∧ s.clk.refclk = true ∧ s.clk.slotRun = true ∧
        b.stamp = none ∧ (b.mid.isSome = true ∨ b.rejected = true)) ∧
    (∃ k : CourseId, ∃ upper : Bool, ∃ t0 : Nat, ∃ s : State, let b := s.bowAt k.val; s.cst k.val ≠ 0 ∧ s.clk.refclk = true ∧
        s.clk.slotRun = true ∧ b.stamp = some (upper, t0)) ∧
    (∃ k : CourseId, ∃ upper : Bool, ∃ t0 : Nat, ∃ shown : Nat, ∃ s : State, let b := s.bowAt k.val;
        let t64 := s.stampOf (2 * k.val) shown; let start := halfPeriod (s.f32 (0x3150 + k.val) 1);
        let dt : Rat := ((t64 : Int) - (t0 : Int) : Int) / 64; s.cst k.val ≠ 0 ∧ s.clk.refclk = true ∧ s.clk.slotRun = true ∧
        b.stamp = some (!upper, t0) ∧ b.seeded = false ∧ 0 < start ∧ start / 10 ≤ dt ∧ dt ≤ 9 * start / 10) ∧
    (∃ k : CourseId, ∃ upper : Bool, ∃ t0 : Nat, ∃ shown : Nat, ∃ mid2 : Rat, ∃ c2 : Rat, ∃ s : State,
        let b := s.bowAt k.val; let t64 := s.stampOf (2 * k.val) shown; let dt : Rat := ((t64 : Int) - (t0 : Int) : Int) / 64;
        let mid : Rat := ((t64 : Rat) + (t0 : Rat)) / 128; let raw := (mid - mid2) / 2; s.cst k.val ≠ 0 ∧
        s.clk.refclk = true ∧ s.clk.slotRun = true ∧ b.stamp = some (!upper, t0) ∧ b.seeded = true ∧ b.forward = upper ∧
        0 < b.hp ∧ b.hp / 10 ≤ dt ∧ dt ≤ 9 * b.hp / 10 ∧ b.prev2 = some ⟨some mid2, c2⟩ ∧ absR (raw - b.hp) ≤ b.hp / 1000) ∧
    (∃ k : CourseId, ∃ upper : Bool, ∃ t0 : Nat, ∃ shown : Nat, ∃ mid2 : Rat, ∃ c2 : Rat, ∃ s : State,
        let b := s.bowAt k.val; let t64 := s.stampOf (2 * k.val) shown; let dt : Rat := ((t64 : Int) - (t0 : Int) : Int) / 64;
        let mid : Rat := ((t64 : Rat) + (t0 : Rat)) / 128; let raw := (mid - mid2) / 2; s.cst k.val ≠ 0 ∧
        s.clk.refclk = true ∧ s.clk.slotRun = true ∧ b.stamp = some (!upper, t0) ∧ b.seeded = true ∧ b.forward = upper ∧
        0 < b.hp ∧ b.hp / 10 ≤ dt ∧ dt ≤ 9 * b.hp / 10 ∧ b.prev2 = some ⟨some mid2, c2⟩ ∧ b.hp / 1000 < absR (raw - b.hp)) ∧
    (∃ k : CourseId, ∃ upper : Bool, ∃ t0 : Nat, ∃ s : State, let b := s.bowAt k.val; s.cst k.val ≠ 0 ∧ s.clk.refclk = true ∧
        s.clk.slotRun = true ∧ b.stamp = some (!upper, t0) ∧ b.seeded = true ∧ b.forward ≠ upper) :=
  ⟨⟨31,
       { (((State.reset.putN (crs 31) 1 3).putN 0x316F 1 (f32OfRat 500)).bowPut 31 {}) with clk := { slotRun := true, slot := 9 } },
       by decide +kernel⟩,
   ⟨31,
       { (((State.reset.putN (crs 31) 1 3).putN 0x316F 1 (f32OfRat 500)).bowPut 31 { mid := some 5 }) with clk := { slotRun := true, slot := 9 } },
       by decide +kernel⟩,
   ⟨31, true, 7,
       { (((State.reset.putN (crs 31) 1 3).putN 0x316F 1 (f32OfRat 500)).bowPut 31 { stamp := some (true, 7) }) with clk := { slotRun := true, slot := 9 } },
       by decide +kernel⟩,
   ⟨31, true, 0, 64*200000,
       { (((State.reset.putN (crs 31) 1 3).putN 0x316F 1 (f32OfRat 500)).bowPut 31 { stamp := some (false, 0) }) with clk := { slotRun := true, slot := 9 } },
       by decide +kernel⟩,
   ⟨31, true, 0, 64*200000, -700000, 5,
       { (((State.reset.putN (crs 31) 1 3).putN 0x316F 1 (f32OfRat 500)).bowPut 31 { seeded := true, forward := true, hp := 400000, prev2 := some ⟨some (-700000), 5⟩, stamp := some (false, 0), rejRun := 0 }) with clk := { slotRun := true, slot := 9 } },
       by decide +kernel⟩,
   ⟨31, true, 0, 64*200000, 0, 5,
       { (((State.reset.putN (crs 31) 1 3).putN 0x316F 1 (f32OfRat 500)).bowPut 31 { seeded := true, forward := true, hp := 400000, prev2 := some ⟨some 0, 5⟩, stamp := some (false, 0), rejRun := 3 }) with clk := { slotRun := true, slot := 9 } },
       by decide +kernel⟩,
   ⟨31, true, 7,
       { (((State.reset.putN (crs 31) 1 3).putN 0x316F 1 (f32OfRat 500)).bowPut 31 { seeded := true, forward := false, stamp := some (false, 7) }) with clk := { slotRun := true, slot := 9 } },
       by decide +kernel⟩⟩

theorem witness_BowsArePlacedAndStart :
    (∃ k : CourseId, ∃ s : State, s.cst k.val ≠ 0 ∧ (s.bowAt k.val).seeded = true ∧ s.clk.slotRun = true ∧
        s.clk.refclk = true) ∧
    (∃ k : CourseId, ∃ s : State, s.cst k.val ≠ 0 ∧ s.modelState k.val ≠ 0 ∧ s.clk.refclk = true ∧
        (s.plcAt k.val).next = none) ∧
    (∃ k : CourseId, ∃ s : State, (s.cst k.val = 0 ∨ (s.plcAt k.val).next.isSome = true)) :=
  ⟨⟨31,
       { (((State.reset.putN (crs 31) 1 3).putN (crs 31) 0x15 2).bowPut 31 { seeded := true, hp := 400000, bow := 2^48-1 }) with clk := { slotRun := true, slot := 9 } },
       by decide +kernel⟩,
   ⟨31,
       { (((State.reset.putN (crs 31) 1 3).putN (crs 31) 0x15 2).bowPut 31 { seeded := true, hp := 400000, bow := 2^48-1 }) with clk := { slotRun := true, slot := 9 } },
       by decide +kernel⟩,
   ⟨31, State.reset, by decide +kernel⟩⟩

theorem witness_CoursesMoveAtBowsAndFences :
    (∃ k : CourseId, ∃ s : State, s.oz.commits = [] ∧ s.clk.refclk = true ∧ s.cst k.val = 3 ∧ s.creq k.val = 2) ∧
    (∃ k : CourseId, ∃ s : State, let u := ((s.lockRefresh k.val).limitsTake k.val).runStep k.val; s.oz.commits = [] ∧
        s.clk.refclk = true ∧ s.cst k.val = 1 ∧ u.cst k.val = 1 ∧ u.causes k.val = 0 ∧ u.loopsLocked k.val = true ∧
        u.oz.commits = []) ∧
    (∃ k : CourseId, ∃ s : State, s.oz.commits = [] ∧ s.clk.refclk = true ∧ s.cst k.val = 0) ∧
    (∃ k : CourseId, ∃ s : State, s.oz.commits = [] ∧ s.clk.refclk = true ∧ s.cst k.val = 4 ∧ s.creq k.val = 0 ∧
        (s.plcAt k.val).nutPassed = false ∧ (s.plcAt k.val).cur = none) ∧
    (∃ k : CourseId, ∃ s : State, s.oz.commits = [] ∧ s.clk.refclk = true ∧
        (s.cst k.val = 0 ∨ (s.plcAt k.val).nutPassed = true)) ∧
    (∃ k : CourseId, ∃ b : PlacedBow, ∃ s : State, s.cst k.val = 4 ∧ s.creq k.val = 4 ∧ s.causes k.val = 0 ∧ s.dst = 2 ∧
        s.nat 0x4200 2 = 2 ∧ s.clk.refclk = true ∧ (s.mirAt k.val).failed = false ∧ (s.plcAt k.val).nutPassed = false ∧
        (s.plcAt k.val).cur = some b ∧ b.active.isSome = true ∧ b.dark = none ∧ s.spanFits b = true) ∧
    (∃ k : CourseId, ∃ b : PlacedBow, ∃ s : State, s.cst k.val = 4 ∧ s.creq k.val = 4 ∧ s.causes k.val = 0 ∧ s.dst = 2 ∧
        s.nat 0x4200 2 = 2 ∧ s.clk.refclk = true ∧ (s.mirAt k.val).failed = false ∧ (s.plcAt k.val).nutPassed = false ∧
        (s.plcAt k.val).cur = some b ∧ b.active.isSome = true ∧ b.dark = none ∧ (s.plcAt k.val).lit = true ∧
        (s.plcAt k.val).cut = none) ∧
    (∃ k : CourseId, ∃ s : State, 2 ≤ s.cst k.val ∧ s.cst k.val ≤ 5 ∧ (s.frmAt k.val).running = true ∧ s.clk.refclk = true ∧
        (s.frmAt k.val).fenced = false ∧ s.nat (crs k.val) 0x13 < s.nat (crs k.val) 0x11 ∧
        s.nat (crs k.val) 0x1E = s.nat (crs k.val) 0x11 - 1 - s.nat (crs k.val) 0x13) ∧
    (∃ k : CourseId, ∃ s : State, 2 ≤ s.cst k.val ∧ s.cst k.val ≤ 5 ∧ (s.frmAt k.val).running = true ∧ s.clk.refclk = true ∧
        (s.frmAt k.val).fenced = false ∧ s.nat (crs k.val) 0x13 < s.nat (crs k.val) 0x11 ∧
        s.nat (crs k.val) 0x1E ≠ s.nat (crs k.val) 0x11 - 1 - s.nat (crs k.val) 0x13) ∧
    (∃ k : CourseId, ∃ s : State, 2 ≤ s.cst k.val ∧ s.cst k.val ≤ 5 ∧ (s.frmAt k.val).running = true ∧ s.clk.refclk = true ∧
        (s.frmAt k.val).fenced = true) :=
  ⟨⟨31, ((lit.putN (crs 31) 1 3).putN (crs 31) 2 2), by decide +kernel⟩,
   ⟨31,
       { (((((((((((lit.putN (crs 31) 1 1).putN (crs 31) 2 3).putN (crs 31) 0x15 2).putN 0x316F 9 3).putN (crs 31) 0x0D 1000000).putN (0x3000+62) 1 2).putN (0x3000+63) 1 2).putN (0x3000+62) 0x23 1).putN (0x3000+63) 0x23 1).putN (crs 31) 3 0).mirPut 31 { phase := 4, setPoint := 1000000, ampRun := 64, lockRun := 64, slowSince := some 0 }) with clk := { up := 2 * tMs } },
       by decide +kernel⟩,
   ⟨31, State.reset, by decide +kernel⟩,
   ⟨31, ((lit.putN (crs 31) 1 4).putN (crs 31) 2 0), by decide +kernel⟩,
   ⟨31, State.reset, by decide +kernel⟩,
   ⟨31,
       { bow := 5, forward := true, active := some 3, dark := none, c := 800000, hp := 400000, a := 1, plans := [{ lane := 255, string := 255, symbols := [], nutSlot := 500000, bridgeSlot := 900000, bridgePhase := 0, nutHarmonic := true, bridgeHarmonic := true }], harmonics := [], modelState := 2, emitted := false, cut := none },
       ((((lit.putN (crs 31) 1 4).putN (crs 31) 2 4).putN 0x4200 2 2).plcPut 31 { cur := some { bow := 5, forward := true, active := some 3, dark := none, c := 800000, hp := 400000, a := 1, plans := [{ lane := 255, string := 255, symbols := [], nutSlot := 500000, bridgeSlot := 900000, bridgePhase := 0, nutHarmonic := true, bridgeHarmonic := true }], harmonics := [], modelState := 2, emitted := false, cut := none }  }),
       by decide +kernel⟩,
   ⟨31,
       { bow := 5, forward := true, active := some 3, dark := none, c := 800000, hp := 400000, a := 1, plans := [{ lane := 255, string := 255, symbols := [], nutSlot := 500000, bridgeSlot := 900000, bridgePhase := 0, nutHarmonic := true, bridgeHarmonic := true }], harmonics := [], modelState := 2, emitted := false, cut := none },
       ((((lit.putN (crs 31) 1 4).putN (crs 31) 2 4).putN 0x4200 2 2).plcPut 31 { cur := some { bow := 5, forward := true, active := some 3, dark := none, c := 800000, hp := 400000, a := 1, plans := [{ lane := 255, string := 255, symbols := [], nutSlot := 500000, bridgeSlot := 900000, bridgePhase := 0, nutHarmonic := true, bridgeHarmonic := true }], harmonics := [], modelState := 2, emitted := false, cut := none } , lit := true }),
       by decide +kernel⟩,
   ⟨31,
       (((((lit.putN (crs 31) 1 2).putN (crs 31) 0x11 9).putN (crs 31) 0x13 2).putN (crs 31) 0x1E 6).frmPut 31 { running := true }),
       by decide +kernel⟩,
   ⟨31,
       (((((lit.putN (crs 31) 1 4).putN (crs 31) 0x11 9).putN (crs 31) 0x13 2).putN (crs 31) 0x1E 5).frmPut 31 { running := true }),
       by decide +kernel⟩,
   ⟨31, ((lit.putN (crs 31) 1 5).frmPut 31 { running := true, fenced := true }), by decide +kernel⟩⟩

theorem witness_StartAndStandbyMoveTheDevice :
    (∃ s : State, s.startMay = true ∧ s.pwr.step = 2 ∧ s.nat 0x3800 1 ≠ 0 ∧
        (s.pwr.dramTrained = true ∨ s.capo.shutLatch = true) ∧ s.zonesCool = true ∧
        (s.capo.shutLatch = true ∨ s.nat 0x4200 3 ≠ 2 ∧ ∀ d < 98, s.nat (domIx d) 3 ≠ 1 ∧ (s.domainsAt d).waiting = [])) ∧
    (∃ s : State, s.pwr.entering = true ∧ s.dst = 1 ∧ s.allStopped = true ∧ (s.dramAsleep = true ∨ s.pwr.dramFailed = true)) ∧
    (∃ s : State, s.pwr.exiting = true ∧ s.clk.refclk = true ∧ s.dst = 3 ∧ s.pwr.litAfter = false ∧ s.mem.waiting = []) :=
  ⟨⟨(({ ((State.reset.putN 0x4200 1 0).putN 0x3800 1 5) with pwr := { valid := true, step := 2, dramTrained := true } } : State).each (List.range 98) (fun s d => s.putN (domIx d) 3 0)),
       by decide +kernel⟩,
   ⟨{ dark.lanesPut 271 { state := 5 } with pwr := { entering := true, dramFailed := true } }, by decide +kernel⟩,
   ⟨{ (dark.putN 0x4200 1 3) with pwr := { exiting := true } }, by decide +kernel⟩⟩

theorem witness_FlowsFillTheirCanvases :
    (∃ s : State, (s.dst = 0 ∨ s.dst = 4)) ∧
    (∃ f : FlowId, ∃ port : PortId, ∃ p : RtpPacket, ∃ s : State, (∀ g < 64, s.delivers g port.val p = decide (g = f.val)) ∧
        (s.dst = 1 ∨ s.dst = 2) ∧ s.rx = [] ∧ s.ingestPaused = false ∧ p.length ≤ 4194304 ∧
        (s.flowsAt f.val).ssrc = some p.ssrc ∧ s.nat (flIx f.val) 1 ≠ 3 ∧ p.rows.any (·.field) = true) ∧
    (∃ f : FlowId, ∃ port : PortId, ∃ p : RtpPacket, ∃ s : State, (∀ g < 64, s.delivers g port.val p = decide (g = f.val)) ∧
        (s.dst = 1 ∨ s.dst = 2) ∧ s.rx = [] ∧ s.ingestPaused = false ∧ p.length ≤ 4194304 ∧
        (s.flowsAt f.val).ssrc = some p.ssrc ∧ s.nat (flIx f.val) 1 ≠ 3 ∧ p.rows.any (·.field) = false ∧
        (s.flowsAt f.val).skipStamp ≠ some p.timestamp ∧ (s.flowsAt f.val).endedStamp ≠ some p.timestamp ∧
        ((s.flowsAt f.val).asms.any (fun a => a.ended && a.stamp == p.timestamp) = false)) ∧
    (∃ f : FlowId, ∃ port : PortId, ∃ p : RtpPacket, ∃ s : State, (∀ g < 64, s.delivers g port.val p = decide (g = f.val)) ∧
        1 ≤ s.dst ∧ s.dst ≤ 3 ∧ s.ingestPaused = true ∧
        (s.rxBytes (fun y => y.port == port.val && y.flow == f.val && !y.shared) + p.length ≤ s.flowReserve f.val)) ∧
    (∃ f : FlowId, ∃ port : PortId, ∃ p : RtpPacket, ∃ s : State, (∀ g < 64, s.delivers g port.val p = decide (g = f.val)) ∧
        1 ≤ s.dst ∧ s.dst ≤ 3 ∧ s.ingestPaused = true ∧
        (s.flowReserve f.val < s.rxBytes (fun y => y.port == port.val && y.flow == f.val && !y.shared) + p.length) ∧
        (4194304 < s.rxBytes (fun y => y.port == port.val && y.shared) + p.length)) ∧
    (∃ f : FlowId, ∃ a : Assembly, ∃ s : State, (s.flowsAt f.val).asms = [a] ∧ a.ended = false ∧ a.buffer = none) ∧
    (∃ f : FlowId, ∃ s : State, (s.flowsAt f.val).asms.all (·.ended) = true) ∧
    (∃ f : FlowId, ∃ s : State, s.nat (flIx f.val) 1 = 3 ∧ s.nat (flIx f.val) 0x15 = 2) ∧
    (∃ f : FlowId, ∃ s : State, s.nat (flIx f.val) 1 ≠ 0) ∧
    (∃ c : CanvasId, ∃ mask : Byte, ∃ s : State, s.ozRuns = true ∧ s.serves (cvIx c.val) = true ∧ mask = 0) ∧
    (∃ c : CanvasId, ∃ b : Fin 4, ∃ mask : Byte, ∃ s : State, s.ozRuns = true ∧ s.serves (cvIx c.val) = true ∧
        mask = 1#8 <<< b.val ∧ s.bufState c.val b.val = 2 ∧ s.flipNames c.val b.val = false) ∧
    (∃ c : CanvasId, ∃ b : Fin 4, ∃ x : Buf, ∃ s : State, (s.bufs c.val)[b.val]? = some x ∧ x.filling0 = true) :=
  ⟨⟨State.reset, by decide +kernel⟩,
   ⟨63, 0,
       { dstIp := 8, dstPort := 9, srcIp := 7, version := 2, payloadType := 96, marker := true, seq := 5, timestamp := 7, ssrc := 33, length := 40, rows := [{ field := true, row := 0, offset := 0, data := [0x01] }] },
       (((((dark.putN 0x253F 1 1).putN 0x253F 2 8).putN 0x253F 3 9).putN 0x253F 8 96).flowsPut 63 { ssrc := some 33 , asms := [⟨5, [], 0, 0, none, none, false, false, []⟩] }),
       by decide +kernel⟩,
   ⟨63, 0,
       { dstIp := 8, dstPort := 9, srcIp := 7, version := 2, payloadType := 96, marker := true, seq := 5, timestamp := 7, ssrc := 33, length := 40, rows := [{ field := false, row := 0, offset := 0, data := [0x01] }] },
       (((((dark.putN 0x253F 1 1).putN 0x253F 2 8).putN 0x253F 3 9).putN 0x253F 8 96).flowsPut 63 { ssrc := some 33  }),
       by decide +kernel⟩,
   ⟨63, 0,
       { dstIp := 8, dstPort := 9, srcIp := 7, version := 2, payloadType := 96, marker := true, seq := 5, timestamp := 7, ssrc := 33, length := 40, rows := [{ field := false, row := 0, offset := 0, data := [0x01] }] },
       { ((((((dark.putN 0x253F 1 1).putN 0x253F 2 8).putN 0x253F 3 9).putN 0x253F 8 96).flowsPut 63 { ssrc := some 33  }) : State) with therm := { ingestPause := 5 }, rx := [] },
       by decide +kernel⟩,
   ⟨63, 0,
       { dstIp := 8, dstPort := 9, srcIp := 7, version := 2, payloadType := 96, marker := true, seq := 5, timestamp := 7, ssrc := 33, length := 40, rows := [{ field := false, row := 0, offset := 0, data := [0x01] }] },
       { ((((((dark.putN 0x253F 1 1).putN 0x253F 2 8).putN 0x253F 3 9).putN 0x253F 8 96).flowsPut 63 { ssrc := some 33  }) : State) with therm := { ingestPause := 5 }, rx := [{ port := 0, flow := 63, shared := false, packet := { dstIp := 8, dstPort := 9, srcIp := 7, version := 2, payloadType := 96, marker := true, seq := 5, timestamp := 6, ssrc := 33, length := 4194304, rows := [{ field := false, row := 0, offset := 0, data := [0x01] }] } }, { port := 0, flow := 63, shared := true, packet := { dstIp := 8, dstPort := 9, srcIp := 7, version := 2, payloadType := 96, marker := true, seq := 5, timestamp := 6, ssrc := 33, length := 4194303, rows := [{ field := false, row := 0, offset := 0, data := [0x01] }] } }] },
       by decide +kernel⟩,
   ⟨63, ⟨5, [], 0, 0, none, none, false, false, []⟩,
       (((((dark.putN 0x253F 1 1).putN 0x253F 2 8).putN 0x253F 3 9).putN 0x253F 8 96).flowsPut 63 { ssrc := some 33 , asms := [⟨5, [], 0, 0, none, none, false, false, []⟩] }),
       by decide +kernel⟩,
   ⟨63, State.reset, by decide +kernel⟩,
   ⟨63, ((dark.putN 0x253F 1 3).putN 0x253F 0x15 2), by decide +kernel⟩,
   ⟨63, ((dark.putN 0x253F 1 3).putN 0x253F 0x15 2), by decide +kernel⟩,
   ⟨255, 0, dark, by decide +kernel⟩,
   ⟨255, 3, 8,
       dark.setBufs 255 [⟨0, false, 0, 0, 0, none, []⟩, ⟨0, false, 0, 0, 0, none, []⟩, ⟨0, false, 0, 0, 0, none, []⟩, ⟨2, false, 0, 0, 0, none, []⟩],
       by decide +kernel⟩,
   ⟨255, 1, ⟨0, true, 0, 0, 0, none, []⟩,
       (dark.putN (cvIx 255) 0x0B 4096).setBufs 255 [⟨0, true, 0, 0, 0, none, []⟩, ⟨0, true, 0, 0, 0, none, []⟩],
       by decide +kernel⟩⟩

theorem witness_HostContentFollowsItsDescriptors :
    (∃ h : FlowId, ∃ desc : List Byte, ∃ c : Nat, ∃ s : State, s.hsCanvas h.val = some c ∧ s.hsReads h.val desc = false) ∧
    (∃ h : FlowId, ∃ desc : List Byte, ∃ c : Nat, ∃ s : State, s.hsCanvas h.val = some c ∧ s.hsReads h.val desc = true ∧
        s.rectFails c desc = true) ∧
    (∃ h : FlowId, ∃ desc : List Byte, ∃ err : Bool, ∃ c : Nat, ∃ b : Nat, ∃ s : State, s.hsCanvas h.val = some c ∧
        s.hsReads h.val desc = true ∧ s.rectFails c desc = false ∧ (s.hstreamsAt h.val).buffer = some b ∧ err = false) ∧
    (∃ h : FlowId, ∃ desc : List Byte, ∃ c : Nat, ∃ s : State, s.hsCanvas h.val = some c ∧ s.hsReads h.val desc = true ∧
        s.rectFails c desc = false ∧ (s.hstreamsAt h.val).buffer = none ∧ s.freeBuffer c = none) ∧
    (∃ h : FlowId, ∃ desc : List Byte, ∃ c : Nat, ∃ b : Nat, ∃ s : State, s.hsCanvas h.val = some c ∧
        s.hsReads h.val desc = true ∧ s.completeFails c desc = false ∧ (s.hstreamsAt h.val).buffer = some b ∧
        s.bufState c b = 1) ∧
    (∃ h : FlowId, ∃ desc : List Byte, ∃ c : Nat, ∃ b : Nat, ∃ s : State, s.hsCanvas h.val = some c ∧
        s.hsReads h.val desc = true ∧ descReserved desc = false ∧ (s.hstreamsAt h.val).buffer = some b ∧ s.bufState c b = 1) ∧
    (∃ h : FlowId, ∃ c : Nat, ∃ b : Nat, ∃ s : State, ∃ d, ∃ src, ∃ e, s.hsCanvas h.val = some c ∧
        (s.hstreamsAt h.val).waiting = some (d, src, e) ∧ s.freeBuffer c = some b ∧ s.ingestPaused = false ∧
        (s.dst = 1 ∨ s.dst = 2)) ∧
    (∃ h : FlowId, ∃ c : Nat, ∃ s : State, ∃ d, ∃ src, ∃ e, s.hsCanvas h.val = some c ∧
        (s.hstreamsAt h.val).waiting = some (d, src, e) ∧ s.freeBuffer c = none) :=
  ⟨⟨63, ([0x01, 0x00, 1, 0, 0x00, 0x00, 0x00, 0x00, 0x02, 0x00, 0x01, 0x00] ++ List.replicate 20 0x00), 9,
       ((dark.putN 0x257F 1 5).putN 0x257F 3 9), by decide +kernel⟩,
   ⟨63, List.replicate 32 0x00, 9,
       { ((((((dark.putN 0x257F 1 5).putN 0x257F 3 9).putN (cvIx 9) 1 640).putN (cvIx 9) 2 480).putN (cvIx 9) 3 0).hstreamsPut 63 {}).setBufs 9 [⟨0, false, 0, 0, 0, none, []⟩] with queues := { rings := [(5, { allocated := true, enabled := true, head := 1 })] } },
       by decide +kernel⟩,
   ⟨63, ([0x01, 0x00, 1, 0, 0x00, 0x00, 0x00, 0x00, 0x02, 0x00, 0x01, 0x00] ++ List.replicate 20 0x00), false, 9, 0,
       { ((((((dark.putN 0x257F 1 5).putN 0x257F 3 9).putN (cvIx 9) 1 640).putN (cvIx 9) 2 480).putN (cvIx 9) 3 0).hstreamsPut 63 { buffer := some 0 }).setBufs 9 [⟨1, false, 0, 0, 0, none, []⟩] with queues := { rings := [(5, { allocated := true, enabled := true, head := 1 })] } },
       by decide +kernel⟩,
   ⟨63, ([0x01, 0x00, 1, 0, 0x00, 0x00, 0x00, 0x00, 0x02, 0x00, 0x01, 0x00] ++ List.replicate 20 0x00), 9,
       { ((((((dark.putN 0x257F 1 5).putN 0x257F 3 9).putN (cvIx 9) 1 640).putN (cvIx 9) 2 480).putN (cvIx 9) 3 0).hstreamsPut 63 { }).setBufs 9 [⟨1, false, 0, 0, 0, none, []⟩] with queues := { rings := [(5, { allocated := true, enabled := true, head := 1 })] } },
       by decide +kernel⟩,
   ⟨63, ([0x01, 0x00, 1, 0, 0x00, 0x00, 0x00, 0x00, 0x02, 0x00, 0x01, 0x00] ++ List.replicate 20 0x00), 9, 0,
       { ((((((dark.putN 0x257F 1 5).putN 0x257F 3 9).putN (cvIx 9) 1 640).putN (cvIx 9) 2 480).putN (cvIx 9) 3 0).hstreamsPut 63 { buffer := some 0 }).setBufs 9 [⟨1, false, 0, 0, 0, none, []⟩] with queues := { rings := [(5, { allocated := true, enabled := true, head := 1 })] } },
       by decide +kernel⟩,
   ⟨63, ([0x01, 0x00, 1, 0, 0x00, 0x00, 0x00, 0x00, 0x02, 0x00, 0x01, 0x00] ++ List.replicate 20 0x00), 9, 0,
       { ((((((dark.putN 0x257F 1 5).putN 0x257F 3 9).putN (cvIx 9) 1 640).putN (cvIx 9) 2 480).putN (cvIx 9) 3 0).hstreamsPut 63 { buffer := some 0 }).setBufs 9 [⟨1, false, 0, 0, 0, none, []⟩] with queues := { rings := [(5, { allocated := true, enabled := true, head := 1 })] } },
       by decide +kernel⟩,
   ⟨63, 9, 0,
       { ((((((dark.putN 0x257F 1 5).putN 0x257F 3 9).putN (cvIx 9) 1 640).putN (cvIx 9) 2 480).putN (cvIx 9) 3 0).hstreamsPut 63 { waiting := some (([0x01, 0x00, 1, 0, 0x00, 0x00, 0x00, 0x00, 0x02, 0x00, 0x01, 0x00] ++ List.replicate 20 0x00), [0x01,0x02,0x03,0x04,0x05,0x06,0x07,0x08], false) }).setBufs 9 [⟨0, false, 0, 0, 0, none, []⟩] with queues := { rings := [(5, { allocated := true, enabled := true, head := 1 })] } },
       ([0x01, 0x00, 1, 0, 0x00, 0x00, 0x00, 0x00, 0x02, 0x00, 0x01, 0x00] ++ List.replicate 20 0x00),
       [0x01,0x02,0x03,0x04,0x05,0x06,0x07,0x08], false, by decide +kernel⟩,
   ⟨63, 9,
       { ((((((dark.putN 0x257F 1 5).putN 0x257F 3 9).putN (cvIx 9) 1 640).putN (cvIx 9) 2 480).putN (cvIx 9) 3 0).hstreamsPut 63 { waiting := some (([0x01, 0x00, 1, 0, 0x00, 0x00, 0x00, 0x00, 0x02, 0x00, 0x01, 0x00] ++ List.replicate 20 0x00), [], false) }).setBufs 9 [⟨1, false, 0, 0, 0, none, []⟩] with queues := { rings := [(5, { allocated := true, enabled := true, head := 1 })] } },
       ([0x01, 0x00, 1, 0, 0x00, 0x00, 0x00, 0x00, 0x02, 0x00, 0x01, 0x00] ++ List.replicate 20 0x00), [], false,
       by decide +kernel⟩⟩

theorem witness_MeshCopiesAreRecomputed :
    (∃ mesh : Fin 128, ∃ copy : Fin 2, ∃ s : State, let c := s.copyAt mesh.val copy.val; c.state = 1 ∧ s.warpRuns = true) ∧
    (∃ mesh : Fin 128, ∃ copy : Fin 2, ∃ s : State, let c := s.copyAt mesh.val copy.val; (c.state ≠ 1 ∨ s.warpRuns = false)) ∧
    (∃ mesh : Fin 128, ∃ s : State, let k := mesh.val / 4; let x := s.meshesAt mesh.val; s.refineBad k = false ∧
        s.nat (0x2680 + k) 0x0B = 1 ∧ s.nat (0x2680 + k) 1 = mesh.val % 4 ∧ x.held = none ∧ x.copy1.age < x.copy0.age ∧
        x.copy0.blob ≠ [] ∧ s.copyUsed mesh.val 0 = true ∧ s.copyUsed mesh.val 1 = false) ∧
    (∃ mesh : Fin 128, ∃ s : State, let k := mesh.val / 4; s.refineBad k = true ∧ (s.captAt k).old = []) ∧
    (∃ mesh : Fin 128, ∃ s : State, let k := mesh.val / 4; s.refineBad k = false ∧ s.nat (0x2680 + k) 0x0B ≠ 1) :=
  ⟨⟨127, 1, dark.meshesPut 127 { copy1 := { state := 1, blob := (List.replicate 48 0x01) } }, by decide +kernel⟩,
   ⟨127, 1, dark, by decide +kernel⟩,
   ⟨127,
       ((((dark.putN 0x269F 0x0B 1).putN 0x269F 1 3).meshesPut 127 { copy0 := { state := 2, disp := [(7, (1, 2)), (11, (4000, 4000))], blob := (List.replicate 48 0x01), age := 2 }, copy1 := { age := 1 } }).fetPut 31 { mesh := some (127, 0) }),
       by decide +kernel⟩,
   ⟨127,
       poisoned.captPut 31 { bufs := [{ state := 3, base := 0, size := 4096, holders := [16], frame := some { form := 1, input := 0, wanted := 1, firstFrame := 1, lastFrame := 1, startTai := 0, frames := 1, incomplete := false, ended := true, rowCount := 1, rowLength := 1, forwardFrets := 1, reverseFrets := 0, rows := [] } }] },
       by decide +kernel⟩,
   ⟨127, dark, by decide +kernel⟩⟩

theorem witness_FetchFollowsTheSchedule :
    (∃ k : CourseId, ∃ s : State, s.fetchRuns k.val = false) ∧
    (∃ k : CourseId, ∃ i : Nat, ∃ m : Nat, ∃ next : Bool, ∃ s : State, let f := s.fetAt k.val; s.fetchRuns k.val = true ∧
        (s.bowAt k.val).seeded = true ∧ s.nextToFetch k.val = some (next, i) ∧ s.bowOfActive k.val next i = some m ∧
        m ≤ (s.bowAt k.val).bow + s.nat (0x2680 + k.val) 0x0E ∧ f.resident.length < s.tileSlots k.val) ∧
    (∃ k : CourseId, ∃ tile : Nat, ∃ s : State, let f := s.fetAt k.val; s.fetchRuns k.val = true ∧
        f.resident.contains tile = false ∧ f.resident.length < s.tileSlots k.val ∧
        (f.bows.any (fun b => b.levels.isNone && b.tiles.contains tile) = true)) ∧
    (∃ k : CourseId, ∃ s : State, let f := s.fetAt k.val; ∃ b, s.fetchRuns k.val = true ∧ f.bows = [b] ∧ b.levels = none ∧
        f.bowReady b = true ∧ b.bow ≤ (s.bowAt k.val).bow + 3) :=
  ⟨⟨31, State.reset, by decide +kernel⟩,
   ⟨31, 0, 6, false,
       (((((((lit.putN (crs 31) 1 4).putN (crs 31) 0x11 3).putN 0x269F 0x0E 8).putN 0x269F 0x0D 2).fetPut 31 { fetching := true  }).bowPut 31 { seeded := true, hp := 400000, bow := 5 }).plcPut 31 { firstBow := some 6 }),
       by decide +kernel⟩,
   ⟨31, 77,
       (((((((lit.putN (crs 31) 1 4).putN (crs 31) 0x11 3).putN 0x269F 0x0E 8).putN 0x269F 0x0D 2).fetPut 31 { fetching := true , bows := [{ next := false, bow := 6, forward := true, active := 0, mesh := none, buffer := none, ox := 0, oy := 0, tiles := [77], levels := none }] }).bowPut 31 { seeded := true, hp := 400000, bow := 5 }).plcPut 31 { firstBow := some 6 }),
       by decide +kernel⟩,
   ⟨31,
       (((((((lit.putN (crs 31) 1 4).putN (crs 31) 0x11 3).putN 0x269F 0x0E 8).putN 0x269F 0x0D 2).fetPut 31 { fetching := true , bows := [{ next := false, bow := 6, forward := true, active := 0, mesh := none, buffer := none, ox := 0, oy := 0, tiles := [], levels := none }] }).bowPut 31 { seeded := true, hp := 400000, bow := 5 }).plcPut 31 { firstBow := some 6 }),
       { next := false, bow := 6, forward := true, active := 0, mesh := none, buffer := none, ox := 0, oy := 0, tiles := [], levels := none },
       by decide +kernel⟩⟩

theorem witness_FetchFaultsAndMatrices :
    (∃ slice : Fin 36, ∃ s : State, s.sliceFailed slice.val = false ∧ s.sliceCourse slice.val = none) ∧
    (∃ slice : Fin 36, ∃ s : State, s.sliceFailed slice.val = true) ∧
    (∃ k : CourseId, ∃ slice : Fin 36, ∃ x : Nat, ∃ s : State, s.sliceFailed slice.val = false ∧
        s.sliceCourse slice.val = some k.val ∧ (s.setFlag 0x26F0 9 slice.val true).spareSlice = some x) ∧
    (∃ k : CourseId, ∃ slice : Fin 36, ∃ s : State, s.sliceFailed slice.val = false ∧ s.sliceCourse slice.val = some k.val ∧
        (s.setFlag 0x26F0 9 slice.val true).spareSlice = none) ∧
    (∃ k : CourseId, ∃ s : State, s.nat (colIx k.val) 0x0E ≠ 0 ∧ s.primaries k.val ≠ [] ∧ (s.colAt k.val).ready = none ∧
        s.fw.restarting = false) ∧
    (∃ k : CourseId, ∃ s : State, (s.colAt k.val).ready ≠ none) :=
  ⟨⟨35, State.reset, by decide +kernel⟩,
   ⟨35, State.reset.setFlag 0x26F0 9 35 true, by decide +kernel⟩,
   ⟨31, 31, 32, State.reset, by decide +kernel⟩,
   ⟨31, 31, dark.each (List.range 36) (fun s i => if i = 31 then s else s.setFlag 0x26F0 9 i true), by decide +kernel⟩,
   ⟨31,
       (State.reset.putN (colIx 31) 0x0E 1).putB (colIx 31) 0x0A ([0x00, 0x00, 0x00, 0x01, 0x00, 0x00, 0x00, 0x00] ++ List.replicate 40 0x01),
       by decide +kernel⟩,
   ⟨31,
       State.reset.colPut 31 { ready := some { rows := [], gu := [], white := 0, avail := 0, w0 := 0, avail0 := 0, headroom := false, moved := false, held := false, shift := 0, corr := [] } },
       by decide +kernel⟩⟩

theorem witness_EmitterGainsFollowTheRecords :
    (∃ k : CourseId, ∃ s : State, (s.captAt k.val).records = []) ∧
    (∃ k : CourseId, ∃ r : HarmonicRec, ∃ rest : List HarmonicRec, ∃ s : State, (s.captAt k.val).records = r :: rest ∧
        s.fw.restarting = true) ∧
    (∃ k : CourseId, ∃ r : HarmonicRec, ∃ rest : List HarmonicRec, ∃ s : State, (s.captAt k.val).records = r :: rest ∧
        s.fw.restarting = false ∧ (r.void = true ∨ r.tuning = true)) ∧
    (∃ k : CourseId, ∃ l : LaneId, ∃ r : HarmonicRec, ∃ rest : List HarmonicRec, ∃ s : State,
        let m := s.measuredGain r k.val; let g := s.f32 (emitIx l.val) 0x14;
        let win := s.f32 (colIx k.val) 0x12 / 100 * (if s.acquiring l.val then 3 else 1);
        (s.captAt k.val).records = r :: rest ∧ s.fw.restarting = false ∧ r.lane = l ∧ s.courseOfLane l.val = some k.val ∧
        r.void = false ∧ r.tuning = false ∧ r.fiducialOnly = false ∧ s.nat (colIx k.val) 0x0E = 2 ∧
        0 < s.f32 (emitIx l.val) 0x13 ∧ s.emitterState l.val ≠ 0 ∧ (s.emitAt l.val).inputChanged = false ∧
        absR (m - g) ≤ win * g) ∧
    (∃ k : CourseId, ∃ l : LaneId, ∃ r : HarmonicRec, ∃ rest : List HarmonicRec, ∃ s : State,
        let m := s.measuredGain r k.val; let g := s.f32 (emitIx l.val) 0x14;
        let win := s.f32 (colIx k.val) 0x12 / 100 * (if s.acquiring l.val then 3 else 1);
        (s.captAt k.val).records = r :: rest ∧ s.fw.restarting = false ∧ r.lane = l ∧ s.courseOfLane l.val = some k.val ∧
        r.void = false ∧ r.tuning = false ∧ r.fiducialOnly = false ∧ s.nat (colIx k.val) 0x0E = 2 ∧
        0 < s.f32 (emitIx l.val) 0x13 ∧ s.emitterState l.val ≠ 0 ∧ (s.emitAt l.val).inputChanged = false ∧
        win * g < absR (m - g)) ∧
    (∃ k : CourseId, ∃ l : LaneId, ∃ s : State, s.courseOfLane l.val = some k.val ∧ s.emitterState l.val ∉ [0, 3, 4] ∧
        s.gainStale k.val l.val = true) ∧
    (∃ k : CourseId, ∃ l : LaneId, ∃ s : State, s.courseOfLane l.val = some k.val ∧ s.gainStale k.val l.val = false) ∧
    (∃ k : CourseId, ∃ l : LaneId, ∃ s : State, s.courseOfLane l.val = some k.val ∧ s.emitterState l.val ∉ [0, 6] ∧
        s.gainWorn k.val l.val = true) ∧
    (∃ k : CourseId, ∃ l : LaneId, ∃ s : State, s.courseOfLane l.val = some k.val ∧ s.gainWorn k.val l.val = false) ∧
    (∃ s : State, s.store.stopped = false ∧ s.canPersist = true ∧ s.store.held = [] ∧ journalFill s.store + 6528 ≤ journalMax) :=
  ⟨⟨31,
       ((((((((((lit.putN (crs 31) 1 4).putN (crs 31) 5 255).putN (crs 31) 6 1).putN 0x20FF 4 255).putB (colIx 31) 0x0A ([0x00, 0x00, 0x00, 0x01, 0x00, 0x00, 0x00, 0x00] ++ List.replicate 40 0x01)).putN (colIx 31) 0x0E 2).putN (emitIx 255) 0x13 (f32OfRat 1)).putN (emitIx 255) 0x14 (f32OfRat 1)).putN (emitIx 255) 0x16 2).putN 0x281F 8 (f32OfRat 1)),
       by decide +kernel⟩,
   ⟨31,
       { bow := 4, lane := 255, string := 255, void := false, tuning := false, fiducialOnly := false, uncalibrated := false, cause := 0, level := 3, gainFrets := 4, h := f32OfRat 1 },
       [{ bow := 4, lane := 255, string := 255, void := true, tuning := false, fiducialOnly := false, uncalibrated := false, cause := 0, level := 3, gainFrets := 4, h := f32OfRat 9 }],
       { ((((((((((((lit.putN (crs 31) 1 4).putN (crs 31) 5 255).putN (crs 31) 6 1).putN 0x20FF 4 255).putB (colIx 31) 0x0A ([0x00, 0x00, 0x00, 0x01, 0x00, 0x00, 0x00, 0x00] ++ List.replicate 40 0x01)).putN (colIx 31) 0x0E 2).putN (emitIx 255) 0x13 (f32OfRat 1)).putN (emitIx 255) 0x14 (f32OfRat 1)).putN (emitIx 255) 0x16 2).putN 0x281F 8 (f32OfRat 1))).captPut 31 { records := { bow := 4, lane := 255, string := 255, void := false, tuning := false, fiducialOnly := false, uncalibrated := false, cause := 0, level := 3, gainFrets := 4, h := f32OfRat 1 } :: [{ bow := 4, lane := 255, string := 255, void := true, tuning := false, fiducialOnly := false, uncalibrated := false, cause := 0, level := 3, gainFrets := 4, h := f32OfRat 9 }] } : State) with fw := { restarting := true } },
       by decide +kernel⟩,
   ⟨31,
       { bow := 4, lane := 255, string := 255, void := true, tuning := false, fiducialOnly := false, uncalibrated := false, cause := 0, level := 3, gainFrets := 4, h := f32OfRat 3 },
       [{ bow := 4, lane := 255, string := 255, void := true, tuning := false, fiducialOnly := false, uncalibrated := false, cause := 0, level := 3, gainFrets := 4, h := f32OfRat 9 }],
       (((((((((((lit.putN (crs 31) 1 4).putN (crs 31) 5 255).putN (crs 31) 6 1).putN 0x20FF 4 255).putB (colIx 31) 0x0A ([0x00, 0x00, 0x00, 0x01, 0x00, 0x00, 0x00, 0x00] ++ List.replicate 40 0x01)).putN (colIx 31) 0x0E 2).putN (emitIx 255) 0x13 (f32OfRat 1)).putN (emitIx 255) 0x14 (f32OfRat 1)).putN (emitIx 255) 0x16 2).putN 0x281F 8 (f32OfRat 1))).captPut 31 { records := { bow := 4, lane := 255, string := 255, void := true, tuning := false, fiducialOnly := false, uncalibrated := false, cause := 0, level := 3, gainFrets := 4, h := f32OfRat 3 } :: [{ bow := 4, lane := 255, string := 255, void := true, tuning := false, fiducialOnly := false, uncalibrated := false, cause := 0, level := 3, gainFrets := 4, h := f32OfRat 9 }] },
       by decide +kernel⟩,
   ⟨31, 255,
       { bow := 4, lane := 255, string := 255, void := false, tuning := false, fiducialOnly := false, uncalibrated := false, cause := 0, level := 3, gainFrets := 4, h := f32OfRat 1 },
       [{ bow := 4, lane := 255, string := 255, void := true, tuning := false, fiducialOnly := false, uncalibrated := false, cause := 0, level := 3, gainFrets := 4, h := f32OfRat 9 }],
       (((((((((((lit.putN (crs 31) 1 4).putN (crs 31) 5 255).putN (crs 31) 6 1).putN 0x20FF 4 255).putB (colIx 31) 0x0A ([0x00, 0x00, 0x00, 0x01, 0x00, 0x00, 0x00, 0x00] ++ List.replicate 40 0x01)).putN (colIx 31) 0x0E 2).putN (emitIx 255) 0x13 (f32OfRat 1)).putN (emitIx 255) 0x14 (f32OfRat 1)).putN (emitIx 255) 0x16 2).putN 0x281F 8 (f32OfRat 1))).captPut 31 { records := { bow := 4, lane := 255, string := 255, void := false, tuning := false, fiducialOnly := false, uncalibrated := false, cause := 0, level := 3, gainFrets := 4, h := f32OfRat 1 } :: [{ bow := 4, lane := 255, string := 255, void := true, tuning := false, fiducialOnly := false, uncalibrated := false, cause := 0, level := 3, gainFrets := 4, h := f32OfRat 9 }] },
       by decide +kernel⟩,
   ⟨31, 255,
       { bow := 4, lane := 255, string := 255, void := false, tuning := false, fiducialOnly := false, uncalibrated := false, cause := 0, level := 3, gainFrets := 4, h := f32OfRat 3 },
       [{ bow := 4, lane := 255, string := 255, void := true, tuning := false, fiducialOnly := false, uncalibrated := false, cause := 0, level := 3, gainFrets := 4, h := f32OfRat 9 }],
       (((((((((((lit.putN (crs 31) 1 4).putN (crs 31) 5 255).putN (crs 31) 6 1).putN 0x20FF 4 255).putB (colIx 31) 0x0A ([0x00, 0x00, 0x00, 0x01, 0x00, 0x00, 0x00, 0x00] ++ List.replicate 40 0x01)).putN (colIx 31) 0x0E 2).putN (emitIx 255) 0x13 (f32OfRat 1)).putN (emitIx 255) 0x14 (f32OfRat 1)).putN (emitIx 255) 0x16 2).putN 0x281F 8 (f32OfRat 1))).captPut 31 { records := { bow := 4, lane := 255, string := 255, void := false, tuning := false, fiducialOnly := false, uncalibrated := false, cause := 0, level := 3, gainFrets := 4, h := f32OfRat 3 } :: [{ bow := 4, lane := 255, string := 255, void := true, tuning := false, fiducialOnly := false, uncalibrated := false, cause := 0, level := 3, gainFrets := 4, h := f32OfRat 9 }] },
       by decide +kernel⟩,
   ⟨31, 255,
       (((((((((((lit.putN (crs 31) 1 4).putN (crs 31) 5 255).putN (crs 31) 6 1).putN 0x20FF 4 255).putB (colIx 31) 0x0A ([0x00, 0x00, 0x00, 0x01, 0x00, 0x00, 0x00, 0x00] ++ List.replicate 40 0x01)).putN (colIx 31) 0x0E 2).putN (emitIx 255) 0x13 (f32OfRat 1)).putN (emitIx 255) 0x14 (f32OfRat 1)).putN (emitIx 255) 0x16 2).putN 0x281F 8 (f32OfRat 1))).colPut 31 { litTime := 2 ^ 80 },
       by decide +kernel⟩,
   ⟨31, 255,
       ((((((((((lit.putN (crs 31) 1 4).putN (crs 31) 5 255).putN (crs 31) 6 1).putN 0x20FF 4 255).putB (colIx 31) 0x0A ([0x00, 0x00, 0x00, 0x01, 0x00, 0x00, 0x00, 0x00] ++ List.replicate 40 0x01)).putN (colIx 31) 0x0E 2).putN (emitIx 255) 0x13 (f32OfRat 1)).putN (emitIx 255) 0x14 (f32OfRat 1)).putN (emitIx 255) 0x16 2).putN 0x281F 8 (f32OfRat 1)),
       by decide +kernel⟩,
   ⟨31, 255,
       ((((((((((((lit.putN (crs 31) 1 4).putN (crs 31) 5 255).putN (crs 31) 6 1).putN 0x20FF 4 255).putB (colIx 31) 0x0A ([0x00, 0x00, 0x00, 0x01, 0x00, 0x00, 0x00, 0x00] ++ List.replicate 40 0x01)).putN (colIx 31) 0x0E 2).putN (emitIx 255) 0x13 (f32OfRat 1)).putN (emitIx 255) 0x14 (f32OfRat 1)).putN (emitIx 255) 0x16 2).putN 0x281F 8 (f32OfRat 1)).putN (emitIx 255) 0x14 (f32OfRat (1/100)))).colPut 31 { litTime := 2 ^ 80 },
       by decide +kernel⟩,
   ⟨31, 255,
       (((((((((((lit.putN (crs 31) 1 4).putN (crs 31) 5 255).putN (crs 31) 6 1).putN 0x20FF 4 255).putB (colIx 31) 0x0A ([0x00, 0x00, 0x00, 0x01, 0x00, 0x00, 0x00, 0x00] ++ List.replicate 40 0x01)).putN (colIx 31) 0x0E 2).putN (emitIx 255) 0x13 (f32OfRat 1)).putN (emitIx 255) 0x14 (f32OfRat 1)).putN (emitIx 255) 0x16 2).putN 0x281F 8 (f32OfRat 1)).putN (emitIx 255) 0x14 (f32OfRat (1/100))),
       by decide +kernel⟩,
   ⟨dark, by decide +kernel⟩⟩

theorem witness_CaptureFollowsItsInputsAndBuffers :
    (∃ k : CourseId, ∃ s : State, (s.inputOf k.val = none ∨ s.dst = 3)) ∧
    (∃ k : CourseId, ∃ x : Nat, ∃ s : State, s.inputOf k.val = some x ∧ s.dst ≠ 3) ∧
    (∃ k : CourseId, ∃ x : Nat, ∃ s : State, s.inputOf k.val = some x ∧ s.dst ≠ 3 ∧
        (s.cst k.val < 2 ∨ (s.plcAt k.val).last = none)) ∧
    (∃ k : CourseId, ∃ x : Nat, ∃ b : PlacedBow, ∃ s : State, s.inputOf k.val = some x ∧ s.dst ≠ 3 ∧ 2 ≤ s.cst k.val ∧
        (s.plcAt k.val).last = some b ∧ (s.captAt k.val).recorded ≠ some b.bow) ∧
    (∃ k : CourseId, ∃ bow : Nat, ∃ r : BowRecord, ∃ s : State,
        (((s.captAt k.val).tagged.all (fun r => r.bow.bow != bow)) = true)) ∧
    (∃ k : CourseId, ∃ r : BowRecord, ∃ i : Nat, ∃ s : State, (s.captAt k.val).tagged = some r ∧ r.bow.active = some i) ∧
    (∃ x : InputId, ∃ s : State, let y := s.inputsAt x.val; s.inputState x.val = 1 ∧ s.litFor x.val y.outSince 1 = true) ∧
    (∃ x : InputId, ∃ s : State, let y := s.inputsAt x.val;
        ((s.inputState x.val = 1 ∨ s.inputState x.val = 2) ∧ s.litFor x.val (y.flat.map (·.2.2)) 1 = true ∨ s.inputState x.val = 2 ∧ s.litFor x.val (some y.suspectAt) 60 = true)) ∧
    (∃ x : InputId, ∃ s : State, let y := s.inputsAt x.val; s.inputState x.val = 2 ∧ s.litFor x.val y.inSince 10 = true) ∧
    (∃ x : InputId, ∃ s : State, (s.inputState x.val = 0 ∨ s.inputState x.val = 3)) ∧
    (∃ k : CourseId, ∃ x : CapBuf, ∃ f : CapFrame, ∃ i : Nat, ∃ s : State,
        s.drainAll.mergeArrived.capEnded k.val = some (i, x, f)) ∧
    (∃ k : CourseId, ∃ s : State, s.drainAll.mergeArrived.capEnded k.val = none) ∧
    (∃ k : CourseId, ∃ b : Fin 8, ∃ c : Fin 17, ∃ x : CapBuf, ∃ s : State, (s.captAt k.val).bufs[b.val]? = some x ∧
        x.state = 3 ∧ x.holders = [c.val]) ∧
    (∃ k : CourseId, ∃ b : Fin 8, ∃ x : CapBuf, ∃ s : State, (s.captAt k.val).bufs[b.val]? = some x ∧ x.state ≠ 3 ∧
        (s.captAt k.val).old = []) :=
  ⟨⟨31, (lit.putN (capIx 31) 1 255), by decide +kernel⟩,
   ⟨31, 33, ((((lit.putN (crs 31) 1 4).putN (crs 31) 2 4).putN (capIx 31) 1 33).putN (inIx 33) 3 5), by decide +kernel⟩,
   ⟨31, 33, ((((lit.putN (crs 31) 1 4).putN (crs 31) 2 4).putN (capIx 31) 1 33).putN (inIx 33) 3 5), by decide +kernel⟩,
   ⟨31, 33,
       { bow := 5, forward := true, active := some 3, dark := none, c := 800000, hp := 400000, a := 400000000, plans := [], harmonics := [], modelState := 2, emitted := true, cut := none, marks := { angles := [0, 50, 200, 300], table := [0x46, 0x43, 0x01, 0x01, 0, 0, 0, 0] ++ [0x64, 0, 0, 0, 0, 1, 0, 0, 0, 0, 9, 0] ++ List.replicate 4 0x00, window := 40 } },
       (((((lit.putN (crs 31) 1 4).putN (crs 31) 2 4).putN (capIx 31) 1 33).putN (inIx 33) 3 5)).plcPut 31 { last := some { bow := 5, forward := true, active := some 3, dark := none, c := 800000, hp := 400000, a := 400000000, plans := [], harmonics := [], modelState := 2, emitted := true, cut := none, marks := { angles := [0, 50, 200, 300], table := [0x46, 0x43, 0x01, 0x01, 0, 0, 0, 0] ++ [0x64, 0, 0, 0, 0, 1, 0, 0, 0, 0, 9, 0] ++ List.replicate 4 0x00, window := 40 } } },
       by decide +kernel⟩,
   ⟨31, 7,
       { bow := { bow := 5, forward := true, active := some 3, dark := none, c := 800000, hp := 400000, a := 400000000, plans := [], harmonics := [{ lane := 255, string := 255, bridgeBand := false, level := 9, probeFrets := [1], gainFrets := [1], tuning := false, lastSlot := 500000, firstAt := some 5, void := 0 }], modelState := 2, emitted := true, cut := none, marks := { angles := [0, 50, 200, 300], table := [0x46, 0x43, 0x01, 0x01, 0, 0, 0, 0] ++ [0x64, 0, 0, 0, 0, 1, 0, 0, 0, 0, 9, 0] ++ List.replicate 4 0x00, window := 40 } }, samples := [(51300000, 100), (51400000, 4000)], voids := [0] },
       ((((lit.putN (crs 31) 1 4).putN (crs 31) 2 4).putN (capIx 31) 1 33).putN (inIx 33) 3 5), by decide +kernel⟩,
   ⟨31,
       { bow := { bow := 5, forward := true, active := some 3, dark := none, c := 800000, hp := 400000, a := 400000000, plans := [], harmonics := [], modelState := 2, emitted := true, cut := none, marks := { angles := [0, 50, 200, 300], table := [0x46, 0x43, 0x01, 0x01, 0, 0, 0, 0] ++ [0x64, 0, 0, 0, 0, 1, 0, 0, 0, 0, 9, 0] ++ List.replicate 4 0x00, window := 40 } }, samples := [(51300000, 100), (51400000, 4000)], voids := [] },
       3,
       ((((((lit.putN (crs 31) 1 4).putN (crs 31) 2 4).putN (capIx 31) 1 33).putN (inIx 33) 3 5)).putB (capIx 31) 0x0A ([0x46, 0x43, 0x01, 0x01, 0, 0, 0, 0] ++ [0x64, 0, 0, 0, 0, 1, 0, 0, 0, 0, 9, 0] ++ List.replicate 4 0x00)).captPut 31 { tagged := some { bow := { bow := 5, forward := true, active := some 3, dark := none, c := 800000, hp := 400000, a := 400000000, plans := [], harmonics := [], modelState := 2, emitted := true, cut := none, marks := { angles := [0, 50, 200, 300], table := [0x46, 0x43, 0x01, 0x01, 0, 0, 0, 0] ++ [0x64, 0, 0, 0, 0, 1, 0, 0, 0, 0, 9, 0] ++ List.replicate 4 0x00, window := 40 } }, samples := [(51300000, 100), (51400000, 4000)], voids := [] } },
       by decide +kernel⟩,
   ⟨33,
       (((((((lit.putN (crs 31) 1 4).putN (crs 31) 2 4).putN (capIx 31) 1 33).putN (inIx 33) 3 5)).putN (inIx 33) 2 1).inputsPut 33 { outSince := some 5 }).colPut 31 { litTime := 2 ^ 80 },
       by decide +kernel⟩,
   ⟨33,
       (((((((lit.putN (crs 31) 1 4).putN (crs 31) 2 4).putN (capIx 31) 1 33).putN (inIx 33) 3 5)).putN (inIx 33) 2 1).inputsPut 33 { flat := some (5, 5, 5) }).colPut 31 { litTime := 2 ^ 80 },
       by decide +kernel⟩,
   ⟨33,
       (((((((lit.putN (crs 31) 1 4).putN (crs 31) 2 4).putN (capIx 31) 1 33).putN (inIx 33) 3 5)).putN (inIx 33) 2 2).inputsPut 33 { inSince := some 7 }).colPut 31 { litTime := 2 ^ 80 },
       by decide +kernel⟩,
   ⟨33, (lit.putN (inIx 33) 2 0).each allCourses (fun s k => s.putN (capIx k) 1 255), by decide +kernel⟩,
   ⟨31,
       { state := 1, base := 0, size := 4096, holders := [], frame := some { form := 0, input := 0, wanted := 1, firstFrame := 1, lastFrame := 1, startTai := 0, frames := 1, incomplete := false, ended := true, rowCount := 1, rowLength := 1, forwardFrets := 1, reverseFrets := 0, rows := [] } },
       { form := 0, input := 0, wanted := 1, firstFrame := 1, lastFrame := 1, startTai := 0, frames := 1, incomplete := false, ended := true, rowCount := 1, rowLength := 1, forwardFrets := 1, reverseFrets := 0, rows := [] },
       0,
       lit.captPut 31 { bufs := [{ state := 1, base := 0, size := 4096, holders := [], frame := some { form := 0, input := 0, wanted := 1, firstFrame := 1, lastFrame := 1, startTai := 0, frames := 1, incomplete := false, ended := true, rowCount := 1, rowLength := 1, forwardFrets := 1, reverseFrets := 0, rows := [] } }] },
       by decide +kernel⟩,
   ⟨31, State.reset, by decide +kernel⟩,
   ⟨31, 7, 16, { state := 3, base := 0, size := 4096, holders := [16], frame := none },
       lit.captPut 31 { bufs := List.replicate 8 { state := 3, base := 0, size := 4096, holders := [16], frame := none } },
       by decide +kernel⟩,
   ⟨31, 7,
       { state := 1, base := 0, size := 4096, holders := [], frame := some { form := 0, input := 0, wanted := 1, firstFrame := 1, lastFrame := 1, startTai := 0, frames := 1, incomplete := false, ended := true, rowCount := 1, rowLength := 1, forwardFrets := 1, reverseFrets := 0, rows := [] } },
       lit.captPut 31 { bufs := List.replicate 8 { state := 1, base := 0, size := 4096, holders := [], frame := some { form := 0, input := 0, wanted := 1, firstFrame := 1, lastFrame := 1, startTai := 0, frames := 1, incomplete := false, ended := true, rowCount := 1, rowLength := 1, forwardFrets := 1, reverseFrets := 0, rows := [] } } },
       by decide +kernel⟩⟩

theorem witness_StreamsSendTheirUnits :
    (∃ i : StreamId, ∃ s : State, let x := s.cstreamsAt i.val; let ix := strIx i.val; (s.nat ix 1 = 0 ∨ s.clk.up < x.busyTo)) ∧
    (∃ i : StreamId, ∃ s : State, let x := s.cstreamsAt i.val; let ix := strIx i.val; ∃ c, s.nat ix 1 ≠ 0 ∧
        x.busyTo ≤ s.clk.up ∧ s.streamRoom i.val = true ∧ s.nat ix 2 ≠ 0 ∧ x.batch.isEmpty = false ∧
        c ∈ [Instr.streamBatchTimer i, .streamUnitSend i] ∧ s.nat ix 1 = 3 ∧ x.descs = []) ∧
    (∃ i : StreamId, ∃ s : State, let x := s.cstreamsAt i.val; let ix := strIx i.val; ∃ c, ∃ addr, ∃ len, ∃ tag, ∃ r,
        s.nat ix 1 ≠ 0 ∧ x.busyTo ≤ s.clk.up ∧ s.streamRoom i.val = true ∧ s.nat ix 2 ≠ 0 ∧ x.batch.isEmpty = false ∧
        c ∈ [Instr.streamBatchTimer i, .streamUnitSend i] ∧ s.nat ix 1 = 3 ∧ x.descs = (addr, len, tag) :: r) ∧
    (∃ i : StreamId, ∃ s : State, let x := s.cstreamsAt i.val; let ix := strIx i.val; ∃ c, s.nat ix 1 ≠ 0 ∧
        x.busyTo ≤ s.clk.up ∧ s.streamRoom i.val = true ∧ s.nat ix 2 ≠ 0 ∧ x.batch.isEmpty = false ∧
        c ∈ [Instr.streamBatchTimer i, .streamUnitSend i] ∧ s.nat ix 1 ≠ 3) ∧
    (∃ i : StreamId, ∃ desc : List Byte, ∃ s : State, let x := s.cstreamsAt i.val; let ix := strIx i.val; s.nat ix 1 = 3 ∧
        s.ringHasEntry (s.nat ix 7) = true ∧ x.descs.length < (s.ringAt (s.nat ix 7)).outstanding ∧
        s.streamRoom i.val = true ∧ streamDescOk desc = false) ∧
    (∃ i : StreamId, ∃ desc : List Byte, ∃ s : State, let x := s.cstreamsAt i.val; let ix := strIx i.val; s.nat ix 1 = 3 ∧
        s.ringHasEntry (s.nat ix 7) = true ∧ x.descs.length < (s.ringAt (s.nat ix 7)).outstanding ∧
        s.streamRoom i.val = true ∧ streamDescOk desc = true ∧ s.nat ix 2 ≠ 0 ∧ x.batch = []) :=
  ⟨⟨15, (lit.putN 0x288F 1 0), by decide +kernel⟩,
   ⟨15,
       { (((((lit.putN 0x288F 1 3).putN 0x288F 2 5).putN 0x288F 7 5).putN 0x288F 8 6).cstreamsPut 15 { batch := [[0x01, 0x02]] }) with queues := { rings := [(5, { allocated := true, enabled := true, head := 3 }), (6, { allocated := true, enabled := true, deviceToHost := true, tail := 0 })] } },
       .streamBatchTimer 15, by decide +kernel⟩,
   ⟨15,
       { (((((lit.putN 0x288F 1 3).putN 0x288F 2 5).putN 0x288F 7 5).putN 0x288F 8 6).cstreamsPut 15 { batch := [[0x01, 0x02]], descs := [(4096, 2, 7)] }) with queues := { rings := [(5, { allocated := true, enabled := true, head := 3 }), (6, { allocated := true, enabled := true, deviceToHost := true, tail := 0 })] } },
       .streamBatchTimer 15, 4096, 2, 7, [], by decide +kernel⟩,
   ⟨15,
       { (((lit.putN 0x288F 1 1).putN 0x288F 2 5).cstreamsPut 15 { batch := [[0x01, 0x02], [0x03]], unit := 2 ^ 32 - 1 }) with clk := { up := 8 } },
       .streamBatchTimer 15, by decide +kernel⟩,
   ⟨15, List.replicate 32 0x01,
       { (((((lit.putN 0x288F 1 3).putN 0x288F 2 5).putN 0x288F 7 5).putN 0x288F 8 6).cstreamsPut 15 {  }) with queues := { rings := [(5, { allocated := true, enabled := true, head := 3 }), (6, { allocated := true, enabled := true, deviceToHost := true, tail := 0 })] } },
       by decide +kernel⟩,
   ⟨15, [0x11, 0x00, 0x00, 0x00, 0x40, 0x00, 0x00, 0x00] ++ List.replicate 24 0x00,
       { (((((lit.putN 0x288F 1 3).putN 0x288F 2 5).putN 0x288F 7 5).putN 0x288F 8 6).cstreamsPut 15 {  }) with queues := { rings := [(5, { allocated := true, enabled := true, head := 3 }), (6, { allocated := true, enabled := true, deviceToHost := true, tail := 0 })] } },
       by decide +kernel⟩⟩

theorem witness_LanesSendAndAreHushed :
    (∃ l : LaneId, ∃ s : State, (s.sends l.val = false ∨ s.clk.slotRun = false)) ∧
    (∃ l : LaneId, ∃ s : State, s.sends l.val = true ∧ s.clk.slotRun = true) ∧
    (∃ l : LaneId, ∃ block : Nat, ∃ s : State, let x := s.lanesAt l.val; s.sends l.val = true ∧ s.clk.slotRun = true ∧
        (block % 4096 = 0 ∨ (x.state = 1 ∨ x.state = 4) ∧ block % 64 = 0)) ∧
    (∃ l : LaneId, ∃ block : Nat, ∃ s : State, s.sends l.val = true ∧ s.clk.slotRun = true ∧ block % 64 ≠ 0) ∧
    (∃ l : LaneId, ∃ s : State, let x := s.lanesAt l.val; x.farEpoch ≠ x.epoch) ∧
    (∃ l : LaneId, ∃ s : State, let x := s.lanesAt l.val; x.farEpoch = x.epoch) ∧
    (∃ l : LaneId, ∃ s : State, s.pending = [] ∧ s.clk.slotRun = true ∧ 24 ≤ s.clk.slot + 1 ∧ (s.clk.slot + 1) % 4 = 0 ∧
        s.sends l.val = true) ∧
    (∃ s : State, s.clk.refclk = true) ∧
    (∃ s : State, s.clk.refclk = true ∧ s.capo.shutLatch = false) ∧
    (∃ l : LaneId, ∃ s : State, let x := s.lanesAt l.val; s.clk.refclk = false ∧ (x.state = 1 ∨ x.state = 2 ∨ x.state = 3)) ∧
    (∃ k : CourseId, ∃ s : State, ∃ n, (k.val, n) ∈ s.capo.dropDue ∧ (n ≤ s.clk.slot ∨ s.clk.slotRun = false)) ∧
    (∃ k : CourseId, ∃ s : State, (s.capo.dropDue.any (fun d => d.1 == k.val) = false)) ∧
    (∃ s : State, s.clk.refclk = false) :=
  ⟨⟨271, State.reset, by decide +kernel⟩,
   ⟨271,
       { (dark.lanesPut 271 { state := 4 , quietDone := true, seq := 255 }) with clk := { slotRun := true, slot := 999 } },
       by decide +kernel⟩,
   ⟨271, 8192, { (dark.lanesPut 271 { state := 2 , seq := 255 }) with clk := { slotRun := true, slot := 999 } },
       by decide +kernel⟩,
   ⟨271, 8191, { (dark.lanesPut 271 { state := 1  }) with clk := { slotRun := true, slot := 999 } }, by decide +kernel⟩,
   ⟨271, { (dark.lanesPut 271 { state := 2 , epoch := 4 }) with clk := { slotRun := true, slot := 999 } },
       by decide +kernel⟩,
   ⟨271, State.reset, by decide +kernel⟩,
   ⟨271, { (dark.lanesPut 271 { state := 2 , seq := 255, txq := [] }) with clk := { slotRun := true, slot := 999 } },
       by decide +kernel⟩,
   ⟨State.reset, by decide +kernel⟩,
   ⟨State.reset, by decide +kernel⟩,
   ⟨271, { (dark.lanesPut 271 { state := 1, seq := 250, epoch := 255 }) with clk := { slotRun := true, refclk := false } },
       by decide +kernel⟩,
   ⟨31, { lit with capo := { emitOk := 2^32-1, dropDue := [(3, 9), (31, 0)] } }, 0, by decide +kernel⟩,
   ⟨31, State.reset, by decide +kernel⟩,
   ⟨{ (dark.lanesPut 271 { state := 2, seq := 250, epoch := 255 }) with clk := { slotRun := true, refclk := false } },
       by decide +kernel⟩⟩

theorem witness_ReturnBlocksAreReported :
    (∃ k : CourseId, ∃ s : State, let x := s.retsAt k.val; x.enabled = false) ∧
    (∃ k : CourseId, ∃ p : BitVec 66, ∃ s : State, let x := s.retsAt k.val; ∃ c, x.enabled = false ∧
        c ∈ [Instr.retIdle k p, .retStatus k p, .retLane k p, .retErrors k p, .retIdent k p, .retFault k p]) ∧
    (∃ k : CourseId, ∃ p : BitVec 66, ∃ s : State, let x := s.retsAt k.val; let b := s.retPayload k.val p.toNat;
        let head := decide (p.toNat % 4 = 1); x.enabled = true ∧ (head = false ∨ retTypes.all (fun t => !retValid t b) = true)) ∧
    (∃ k : CourseId, ∃ p : BitVec 66, ∃ s : State, let x := s.retsAt k.val; let b := s.retPayload k.val p.toNat;
        let head := decide (p.toNat % 4 = 1); ∃ q, x.enabled = true ∧
        q ∈ [(0x00, Instr.retIdle k p), (0x1E, .retStatus k p), (0x2D, .retLane k p), (0x33, .retErrors k p), (0x4B, .retIdent k p), (0x55, .retFault k p)] ∧
        (head = false ∨ retValid q.1 b = false)) ∧
    (∃ k : CourseId, ∃ p : BitVec 66, ∃ s : State, let x := s.retsAt k.val; let b := s.retPayload k.val p.toNat;
        let head := decide (p.toNat % 4 = 1); x.enabled = true ∧ head = true ∧ retValid 0x00 b = true) ∧
    (∃ k : CourseId, ∃ p : BitVec 66, ∃ s : State, let x := s.retsAt k.val; let b := s.retPayload k.val p.toNat;
        let head := decide (p.toNat % 4 = 1); x.enabled = true ∧ head = true ∧ retValid 0x1E b = true) ∧
    (∃ k : CourseId, ∃ p : BitVec 66, ∃ s : State, let x := s.retsAt k.val; let b := s.retPayload k.val p.toNat;
        let l := bits b 55 47; let head := decide (p.toNat % 4 = 1); x.enabled = true ∧ head = true ∧ retValid 0x33 b = true ∧
        l ≤ 271 ∧ bits b 46 44 = 0) ∧
    (∃ k : CourseId, ∃ p : BitVec 66, ∃ s : State, let x := s.retsAt k.val; let b := s.retPayload k.val p.toNat;
        let l := bits b 55 47; let head := decide (p.toNat % 4 = 1); x.enabled = true ∧ head = true ∧ retValid 0x33 b = true ∧
        l ≤ 271 ∧ bits b 46 44 = 2) ∧
    (∃ k : CourseId, ∃ p : BitVec 66, ∃ s : State, let x := s.retsAt k.val; let b := s.retPayload k.val p.toNat;
        let l := bits b 55 47; let head := decide (p.toNat % 4 = 1); x.enabled = true ∧ head = true ∧ retValid 0x33 b = true ∧
        l ≤ 271 ∧ bits b 46 44 = 7) ∧
    (∃ k : CourseId, ∃ p : BitVec 66, ∃ s : State, let x := s.retsAt k.val; let b := s.retPayload k.val p.toNat;
        let head := decide (p.toNat % 4 = 1); x.enabled = true ∧ head = true ∧ retValid 0x4B b = true ∧ bits b 55 48 = 0) ∧
    (∃ k : CourseId, ∃ p : BitVec 66, ∃ s : State, let x := s.retsAt k.val; let b := s.retPayload k.val p.toNat;
        let head := decide (p.toNat % 4 = 1); x.enabled = true ∧ head = true ∧ retValid 0x4B b = true ∧ bits b 55 48 = 3) ∧
    (∃ k : CourseId, ∃ p : BitVec 66, ∃ s : State, let x := s.retsAt k.val; let b := s.retPayload k.val p.toNat;
        let l := bits b 55 47; let head := decide (p.toNat % 4 = 1); x.enabled = true ∧ head = true ∧ retValid 0x55 b = true ∧
        l ≤ 271) ∧
    (∃ k : CourseId, ∃ s : State, let ix := 0x7F60 + k.val; s.nat ix 1 ≠ 0) ∧
    (∃ k : CourseId, ∃ s : State, let ix := 0x7F60 + k.val; s.nat ix 1 = 0) :=
  ⟨⟨31, State.reset, by decide +kernel⟩,
   ⟨31, 0, State.reset, .retFault 31 0, by decide +kernel⟩,
   ⟨31, 0, ((State.reset.retsPut 31 { enabled := true, run := 5 }).putN 0x7F7F 1 1), by decide +kernel⟩,
   ⟨31, 0x4C, ((State.reset.retsPut 31 { enabled := true, run := 5 }).putN 0x7F7F 1 1), (0x00, Instr.retIdle 31 0x4C),
       by decide +kernel⟩,
   ⟨31, retBlockOf 0x00000000000000, ((State.reset.retsPut 31 { enabled := true, run := 62 }).putN 0x7F7F 1 0),
       by decide +kernel⟩,
   ⟨31, retBlockOf 0xC937F00000001E, ((State.reset.retsPut 31 { enabled := true, run := 63 }).putN 0x7F7F 1 1),
       by decide +kernel⟩,
   ⟨31, retBlockOf 0x8780ABCDEF0033, ((State.reset.retsPut 31 { enabled := true, run := 63 }).putN 0x7F7F 1 1),
       by decide +kernel⟩,
   ⟨31, retBlockOf 0x87A0ABCDEF0033, ((State.reset.retsPut 31 { enabled := true, run := 63 }).putN 0x7F7F 1 1),
       by decide +kernel⟩,
   ⟨31, retBlockOf 0x87F0ABCDEF0033, ((State.reset.retsPut 31 { enabled := true, run := 63 }).putN 0x7F7F 1 1),
       by decide +kernel⟩,
   ⟨31, retBlockOf 0x0012345678004B, ((State.reset.retsPut 31 { enabled := true, run := 63 }).putN 0x7F7F 1 1),
       by decide +kernel⟩,
   ⟨31, retBlockOf 0x0312560000004B, ((State.reset.retsPut 31 { enabled := true, run := 63 }).putN 0x7F7F 1 1),
       by decide +kernel⟩,
   ⟨31, retBlockOf 0x87891234560055, ((State.reset.retsPut 31 { enabled := true, run := 63 }).putN 0x7F7F 1 1),
       by decide +kernel⟩,
   ⟨31, ((State.reset.retsPut 31 { enabled := true, run := 63 }).putN 0x7F7F 1 2), by decide +kernel⟩,
   ⟨31, State.reset, by decide +kernel⟩⟩

theorem witness_LanesTrainAndRetrain :
    (∃ k : CourseId, ∃ p : BitVec 66, ∃ s : State, let b := s.retPayload k.val p.toNat; let l := bits b 55 47;
        let lat := bits b 44 36; let x := s.lanesAt l; (s.retsAt k.val).enabled = true ∧ p.toNat % 4 = 1 ∧
        retValid 0x2D b = true ∧ l ≤ 271 ∧ s.nat (0x7F60 + k.val) 1 = 2 ∧ (x.state = 1 ∨ (x.state = 4 ∧ x.quietDone = true)) ∧
        bits b 46 45 = 1 ∧ 64 ≤ lat ∧ lat ≤ 256 ∧ x.reporters = [k.val] ∧ (∀ c, s.courseOfLane l = some c → c = k.val)) ∧
    (∃ k : CourseId, ∃ p : BitVec 66, ∃ s : State, let b := s.retPayload k.val p.toNat; let l := bits b 55 47;
        let lat := bits b 44 36; let x := s.lanesAt l; (s.retsAt k.val).enabled = true ∧ p.toNat % 4 = 1 ∧
        retValid 0x2D b = true ∧ l ≤ 271 ∧ s.nat (0x7F60 + k.val) 1 = 2 ∧ (x.state = 2 ∨ x.state = 3) ∧
        (bits b 46 45 = 0 ∨ lat ≠ x.declared) ∧ x.retrainTimes = []) ∧
    (∃ i : LaneId, ∃ s : State, s.ozRuns = true ∧ s.serves 0x7F40 = true ∧ 2 ≤ (s.lanesAt i.val).state ∧
        ((s.lanesAt i.val).state = 5 ∨ (s.lanesAt i.val).retrainTimes.length < 3)) ∧
    (∃ s : State, ∃ n, s.ozRuns = true ∧ s.serves 0x7F40 = true ∧ 271 < n ∧ n < 65536) ∧
    (∃ i : LaneId, ∃ s : State, (s.lanesAt i.val).state = 4) ∧
    (∃ i : LaneId, ∃ s : State, (s.lanesAt i.val).state ≠ 4) :=
  ⟨⟨31, retBlockOf 0x87B0000000002D,
       (((dark.retsPut 31 { enabled := true, run := 70 }).putN 0x7F7F 1 2).lanesPut 271 { state := 1, reporters := [31] }),
       by decide +kernel⟩,
   ⟨31, retBlockOf 0x8790000000002D,
       (((dark.retsPut 31 { enabled := true, run := 70 }).putN 0x7F7F 1 2).lanesPut 271 { state := 2, declared := 256, reporters := [31] }),
       by decide +kernel⟩,
   ⟨271,
       (((dark.retsPut 31 { enabled := true, run := 70 }).putN 0x7F7F 1 2).lanesPut 271 { state := 5, retrainTimes := [1, 2, 3] }),
       by decide +kernel⟩,
   ⟨dark, 272, by decide +kernel⟩,
   ⟨271, (((dark.retsPut 31 { enabled := true, run := 70 }).putN 0x7F7F 1 2).lanesPut 271 { state := 4 }),
       by decide +kernel⟩,
   ⟨271, (((dark.retsPut 31 { enabled := true, run := 70 }).putN 0x7F7F 1 2).lanesPut 271 { state := 2 }),
       by decide +kernel⟩⟩

theorem witness_LoopStepsFollowTheLaw :
    (∃ i : SlotId, ∃ s : State, (s.slotsAt i.val).dead = true) ∧
    (∃ i : SlotId, ∃ s : State, let ix := slotIx i.val; (s.slotsAt i.val).dead = false ∧ s.nat ix 1 = 0) ∧
    (∃ i : SlotId, ∃ code : Int, ∃ s : State, let ix := slotIx i.val; ∃ c, (s.slotsAt i.val).dead = false ∧ s.nat ix 1 ≠ 0 ∧
        (64 ≤ i.val ∨ (s.mirAt (i.val / 2)).phase ≠ 6) ∧ c < 64 ∧ s.nat ix 4 = 0x0200 + c ∧ (code < -32768 ∨ 32767 < code)) ∧
    (∃ i : SlotId, ∃ code : Int, ∃ s : State, let ix := slotIx i.val; ∃ c, (s.slotsAt i.val).dead = false ∧ s.nat ix 1 ≠ 0 ∧
        (64 ≤ i.val ∨ (s.mirAt (i.val / 2)).phase ≠ 6) ∧ c < 64 ∧ s.nat ix 4 = 0x0200 + c ∧ -32768 ≤ code ∧ code ≤ 32767) ∧
    (∃ i : SlotId, ∃ earlier : List Int, ∃ latest : Option Int, ∃ s : State, let codes := earlier ++ latest.toList;
        let ix := slotIx i.val; let u := s.boundary i.val; let v := u.takeInput (s.nat ix 4) codes; let w := v.keepBack i.val;
        let st := w.slotsAt i.val; let par := w.loopPar i.val; ∃ x, (s.slotsAt i.val).dead = false ∧ s.nat ix 1 ≠ 0 ∧
        (64 ≤ i.val ∨ (s.mirAt (i.val / 2)).phase ≠ 6) ∧ v.source i.val (s.nat ix 4) (v.slotsAt i.val).shaftBase.1 = some x ∧
        s.nat ix 1 = 1 ∧ par.slew = 0 ∧ st.acting = false) ∧
    (∃ i : SlotId, ∃ earlier : List Int, ∃ latest : Option Int, ∃ s : State, let codes := earlier ++ latest.toList;
        let ix := slotIx i.val; let u := s.boundary i.val; let v := u.takeInput (s.nat ix 4) codes; ∃ x,
        (s.slotsAt i.val).dead = false ∧ s.nat ix 1 ≠ 0 ∧ (64 ≤ i.val ∨ (s.mirAt (i.val / 2)).phase ≠ 6) ∧
        v.source i.val (s.nat ix 4) (v.slotsAt i.val).shaftBase.1 = some x ∧ s.nat ix 1 = 2) ∧
    (∃ i : SlotId, ∃ s : State, (s.slotsAt i.val).next = none) ∧
    (∃ i : SlotId, ∃ o : Int, ∃ s : State, (s.slotsAt i.val).next = some o) :=
  ⟨⟨87, State.reset.slotsPut 87 { dead := true }, by decide +kernel⟩,
   ⟨87, (lit.putN (slotIx 87) 0x21 7), by decide +kernel⟩,
   ⟨87, -40000, ((lit.putN (slotIx 87) 1 2).putN (slotIx 87) 4 0x23F), 63, by decide +kernel⟩,
   ⟨87, -32768, ((lit.putN (slotIx 87) 1 2).putN (slotIx 87) 4 0x23F), 63, by decide +kernel⟩,
   ⟨87, [], none, (lit.putN (slotIx 87) 1 1), 0, by decide +kernel⟩,
   ⟨87, [], none, (lit.putN (slotIx 87) 1 2), 0, by decide +kernel⟩,
   ⟨87, State.reset, by decide +kernel⟩,
   ⟨87, -70, (lit.slotsPut 87 { next := some (-70) }), by decide +kernel⟩⟩

theorem witness_SparesServeFailedUnits :
    (∃ m : MasterId, ∃ i : SlotId, ∃ s : State, let ix := slotIx i.val; s.ozRuns = true ∧ s.serves ix = true ∧
        s.commitsFull m.val = false) ∧
    (∃ m : MasterId, ∃ i : SlotId, ∃ s : State, let ix := slotIx i.val; s.ozRuns = true ∧ s.serves ix = true ∧
        s.commitsFull m.val = true) ∧
    (∃ i : SlotId, ∃ v : BitVec 32, ∃ s : State, let ix := slotIx i.val; s.ozRuns = true ∧ s.serves ix = true ∧ v ≠ 0) ∧
    (∃ n : Nat, ∃ s : State, s.ozRuns = true ∧ s.serves 0x3100 = true ∧ 88 ≤ n ∧ n < 256) ∧
    (∃ s : State, s.ozRuns = true ∧ s.serves 0x3100 = true ∧ s.openSpares = []) ∧
    (∃ q : Nat, ∃ r : List Nat, ∃ s : State, s.ozRuns = true ∧ s.serves 0x3100 = true ∧ s.openSpares = q :: r) ∧
    (∃ i : SlotId, ∃ q : Nat, ∃ s : State, (s.slotsAt i.val).moveTo = some q ∧ 88 ≤ q ∧ q < 96 ∧
        s.pool.failed.contains q = false) ∧
    (∃ phys : Fin 96, ∃ s : State, s.pool.failed.contains phys.val = true) ∧
    (∃ phys : Fin 96, ∃ s : State, s.pool.failed.contains phys.val = false ∧ (∀ j < 88, s.physOf j ≠ phys.val)) ∧
    (∃ i : SlotId, ∃ phys : Fin 96, ∃ q : Nat, ∃ r : List Nat, ∃ s : State,
        let failed : State := { s with pool := { s.pool with failed := s.pool.failed ++ [phys.val] } };
        s.pool.failed.contains phys.val = false ∧ s.physOf i.val = phys.val ∧ (∀ j < 88, s.physOf j = phys.val → j = i.val) ∧
        (s.slotsAt i.val).moveTo = none ∧ failed.openSpares = q :: r) ∧
    (∃ kind : SpareKind, ∃ unit : Nat, ∃ s : State, unit < spareUnits kind ∧ s.svc.offers = []) ∧
    (∃ kind : SpareKind, ∃ unit : Nat, ∃ worn : Bool, ∃ s : State,
        let o : Offer := { kind := kind, unit := unit, worn := worn }; unit < spareUnits kind ∧ o ∈ s.svc.offers) ∧
    (∃ kind : SpareKind, ∃ unit : Nat, spareUnits kind ≤ unit) ∧
    (∃ s : State, s.svc.placed = [] ∧ (∀ n, 1 ≤ n → n ≤ 6 → s.nat 0x7000 n = 0)) ∧
    (∃ kind : SpareKind, ∃ unit : Nat, ∃ worn : Bool, ∃ i : Nat, ∃ q : Nat, ∃ r : List Nat, ∃ s : State,
        let o : Offer := { kind := kind, unit := unit, worn := worn }; s.svc.offers = [o] ∧ s.svc.placed = [] ∧
        kind = .loopSlot ∧ worn = false ∧ 1 ≤ s.nat 0x7000 3 ∧ s.oz.commits = [] ∧ s.slotOn unit = some i ∧
        s.openSpares = q :: r) ∧
    (∃ s : State, s.ozRuns = true ∧ s.serves 0x7000 = true) ∧
    (∃ v : Byte, ∃ s : State, s.ozRuns = true ∧ s.serves 0x7000 = true ∧ v ≠ 1) ∧
    (∃ s : State, s.ozRuns = true ∧ s.serves 0x7100 = true) ∧
    (∃ v : Byte, ∃ s : State, s.ozRuns = true ∧ s.serves 0x7100 = true ∧ v ≠ 1) :=
  ⟨⟨0, 95, (lit.putN (slotIx 95) 0x22 0xFF), by decide +kernel⟩,
   ⟨0, 95,
       { lit with oz := { commits := List.replicate 4 { id := 0, master := 0, policy := false, selector := 2, frame := 0, time := 5, todo := [{ key := dkey 0x1100 0x10, val := .num 200, cls := .device, after := false }], superseded := false } } },
       by decide +kernel⟩,
   ⟨95, 1, (lit.putN (slotIx 95) 0x22 0xFF), by decide +kernel⟩,
   ⟨88, dark, by decide +kernel⟩,
   ⟨{ lit with pool := { failed := [88,89,90,91,92,93,94,95] } }, by decide +kernel⟩,
   ⟨90, [91,92,94,95], { lit with pool := { failed := [88,93], moved := [(5, 89)] } }, by decide +kernel⟩,
   ⟨87, 90, lit.slotsPut 87 { moveTo := some 90 }, by decide +kernel⟩,
   ⟨95, { lit with pool := { failed := [95] } }, by decide +kernel⟩,
   ⟨95, dark, by decide +kernel⟩,
   ⟨87, 87, 90, [91,92,94,95], { lit with pool := { failed := [88,93], moved := [(5, 89)] } }, by decide +kernel⟩,
   ⟨.bank, 257, dark, by decide +kernel⟩,
   ⟨.bank, 257, true, { lit with svc := { offers := [⟨.bank, 257, true⟩] } }, by decide +kernel⟩,
   ⟨.bank, 258, by decide +kernel⟩,
   ⟨{ ((((((lit.putN 0x7000 1 0).putN 0x7000 2 0).putN 0x7000 3 0).putN 0x7000 4 0).putN 0x7000 5 0).putN 0x7000 6 0) with svc := { offers := [⟨.bank, 257, true⟩] } },
       by decide +kernel⟩,
   ⟨.loopSlot, 87, false, 87, 88, [89,90,91,92,93,94,95],
       { (lit.putN 0x7000 3 1) with svc := { offers := [⟨.loopSlot, 87, false⟩] } }, by decide +kernel⟩,
   ⟨dark, by decide +kernel⟩,
   ⟨2, dark, by decide +kernel⟩,
   ⟨dark, by decide +kernel⟩,
   ⟨2, dark, by decide +kernel⟩⟩

theorem witness_MirrorsStartAndFail :
    (∃ k : CourseId, ∃ s : State, let x := s.mirAt k.val; x.phase ≠ 1) ∧
    (∃ k : CourseId, ∃ s : State, let x := s.mirAt k.val; x.phase ≠ 2) ∧
    (∃ k : CourseId, ∃ s : State, let x := s.mirAt k.val; x.phase ≠ 3) ∧
    (∃ k : CourseId, ∃ bow : Nat, ∃ s : State, let x := s.mirAt k.val;
        (x.phase ≠ 4 ∨ s.clk.refclk = false ∨ (s.bowAt k.val).snap = none ∨ (s.bowAt k.val).forward = false ∨ (s.bowAt k.val).bow ≠ bow)) ∧
    (∃ k : CourseId, ∃ s : State, let x := s.mirAt k.val; x.phase = 1) ∧
    (∃ k : CourseId, ∃ s : State, let x := s.mirAt k.val; x.phase = 2) ∧
    (∃ k : CourseId, ∃ m : RingMeas, ∃ s : State, let x := s.mirAt k.val; x.phase = 3 ∧ s.ringFails k.val m = true ∧
        x.attempts < 4) ∧
    (∃ k : CourseId, ∃ m : RingMeas, ∃ s : State, let x := s.mirAt k.val; x.phase = 3 ∧ s.ringFails k.val m = true ∧
        4 ≤ x.attempts) ∧
    (∃ k : CourseId, ∃ m : RingMeas, ∃ s : State, let x := s.mirAt k.val; x.phase = 3 ∧ s.ringFails k.val m = false ∧
        s.asksPhaseLock k.val = false) ∧
    (∃ k : CourseId, ∃ n : Snapshot, ∃ s : State, let x := s.mirAt k.val; x.phase = 4 ∧ s.clk.refclk = true ∧
        (s.bowAt k.val).snap = some n ∧ (s.bowAt k.val).forward = true) ∧
    (∃ k : CourseId, ∃ s : State, s.cst k.val = 1) ∧
    (∃ k : CourseId, ∃ s : State, s.cst k.val ≠ 1 ∧ (s.mirAt k.val).starting = false) ∧
    (∃ k : CourseId, ∃ s : State, let ix := 0x3150 + k.val; s.cst k.val ≠ 0 ∧ (s.mirAt k.val).failed = false ∧
        (s.nat (slotIx (2 * k.val)) 0x23 = 3 ∨ s.nat (slotIx (2 * k.val + 1)) 0x23 = 3 ∨ s.nat ix 0x1C = 0)) ∧
    (∃ k : CourseId, ∃ s : State, s.cst k.val = 0) ∧
    (∃ k : CourseId, ∃ s : State, s.clk.refclk = false ∧ s.cst k.val ≠ 0) ∧
    (∃ s : State, s.clk.refclk = true) ∧
    (∃ k : CourseId, ∃ s : State, (s.mirAt k.val).releaseDue = true) ∧
    (∃ k : CourseId, ∃ s : State, (s.mirAt k.val).releaseDue = false) :=
  ⟨⟨31, State.reset, by decide +kernel⟩,
   ⟨31, State.reset, by decide +kernel⟩,
   ⟨31, State.reset, by decide +kernel⟩,
   ⟨31, 0, State.reset, by decide +kernel⟩,
   ⟨31, ((lit.putN 0x316F 0x18 0xFFFFFFFF).mirPut 31 { phase := 1, search := 10 }), by decide +kernel⟩,
   ⟨31, (lit.mirPut 31 { phase := 2 }), by decide +kernel⟩,
   ⟨31, { crossings := [], e1 := 0, e2 := 100 }, (lit.mirPut 31 { phase := 3, attempts := 3, search := 60 }),
       by decide +kernel⟩,
   ⟨31, { crossings := [], e1 := 0, e2 := 100 }, (lit.mirPut 31 { phase := 3, attempts := 4 }), by decide +kernel⟩,
   ⟨31, { crossings := [0, 64*800000, 64*1600000], e1 := 1000000000, e2 := 100 },
       ((((lit.putN (crs 31) 0x0D 1000000).putN (crs 31) 0x0B (f32OfRat 400)).putN (crs 31) 0x0C (f32OfRat 600)).mirPut 31 { phase := 3, attempts := 1 }),
       by decide +kernel⟩,
   ⟨31, { bow := 6, forward := true, c := 1000, hp := 400000, a := 400000000, setPoint := 0, state := 2 },
       (((lit.putN 0x316F 8 (f32OfRat (1/1000))).putN 0x316F 9 2).mirPut 31 { phase := 4, f := 500, accAt := 5 }).bowPut 31 { seeded := true, bow := 7, forward := true, hp := 400000, snap := some { bow := 6, forward := true, c := 1000, hp := 400000, a := 400000000, setPoint := 0, state := 2 } },
       by decide +kernel⟩,
   ⟨31, ((lit.putN (crs 31) 1 1).putN 0x316F 0x1C 1), by decide +kernel⟩,
   ⟨31, State.reset, by decide +kernel⟩,
   ⟨31, (((lit.putN (crs 31) 1 1).putN (slotIx 63) 0x23 3).putN 0x316F 0x1C 1), by decide +kernel⟩,
   ⟨31, State.reset, by decide +kernel⟩,
   ⟨31, { ((lit.putN (crs 31) 1 1).putN 0x316F 0x1C 1) with clk := { refclk := false } }, by decide +kernel⟩,
   ⟨State.reset, by decide +kernel⟩,
   ⟨31, (((lit.putN 0x316F 0x1C 1).mirPut 31 { releaseDue := true, phase := 7 })), by decide +kernel⟩,
   ⟨31, State.reset, by decide +kernel⟩⟩

theorem witness_CapoStartsAndFails :
    (∃ s : State, s.capo.vaon = true) ∧
    (∃ s : State, s.capo.vaon = false) ∧
    (∃ s : State, s.capo.vaon = true ∧ s.nat 0x3800 1 = 0 ∧ s.clk.refclk = true) ∧
    (∃ s : State, s.clk.refclk = false) ∧
    (∃ dev : Int, ∃ s : State, s.capo.vaon = true ∧ s.clk.refclk = true ∧ dev.natAbs ≤ 50000) ∧
    (∃ dev : Int, ∃ s : State, s.capo.vaon = true ∧ s.clk.refclk = true ∧ 50000 < dev.natAbs ∧ s.nat 0x3800 1 ≠ 2) :=
  ⟨⟨{ lit with capo := { vaon := true } }, by decide +kernel⟩,
   ⟨State.reset, by decide +kernel⟩,
   ⟨{ (lit.putN 0x3800 1 0) with capo := { vaon := true } }, by decide +kernel⟩,
   ⟨{ lit with clk := { refclk := false }, capo := { vaon := true } }, by decide +kernel⟩,
   ⟨-50000, { lit with capo := { vaon := true } }, by decide +kernel⟩,
   ⟨-50001, { (lit.putN 0x3800 1 1) with capo := { vaon := true } }, by decide +kernel⟩⟩

theorem witness_ScanWatchCountsExcursions :
    (∃ s : State, s.nat 0x3800 1 ≠ 1) ∧
    (∃ k : CourseId, ∃ sg : Bool, ∃ t0 : Nat, ∃ s : State, let c := s.capoCAt k.val; s.nat 0x3800 1 = 1 ∧
        s.capo.vaon = true ∧ c.expected = some (sg, t0)) ∧
    (∃ k : CourseId, ∃ sg : Bool, ∃ t0 : Nat, ∃ time : Nat, ∃ s : State, let c := s.capoCAt k.val;
        let w := s.nat (0x3810 + k.val) 4 / 20; s.nat 0x3800 1 = 1 ∧ s.capo.vaon = true ∧ c.exc = some (sg, t0, true) ∧
        time - t0 ≤ w) ∧
    (∃ k : CourseId, ∃ time : Nat, ∃ s : State, s.nat 0x3800 1 = 1 ∧ s.capo.vaon = true ∧ s.watchOver k.val time = false) ∧
    (∃ k : CourseId, ∃ sg : Bool, ∃ t0 : Nat, ∃ t1 : Nat, ∃ time : Nat, ∃ s : State, let c := s.capoCAt k.val;
        let w := s.nat (0x3810 + k.val) 4 / 20;
        let over_ : Prop := c.exc = none ∧ t0 + w ≤ time ∨ c.exc = some (sg, t1, true) ∧ t1 + w ≤ time; s.nat 0x3800 1 = 1 ∧
        s.capo.vaon = true ∧ c.expected = some (sg, t0) ∧ over_ ∧ c.misses = 0) ∧
    (∃ k : CourseId, ∃ sg : Bool, ∃ t0 : Nat, ∃ t1 : Nat, ∃ time : Nat, ∃ s : State, let c := s.capoCAt k.val;
        let w := s.nat (0x3810 + k.val) 4 / 20;
        let over_ : Prop := c.exc = none ∧ t0 + w ≤ time ∨ c.exc = some (sg, t1, true) ∧ t1 + w ≤ time; s.nat 0x3800 1 = 1 ∧
        s.capo.vaon = true ∧ c.expected = some (sg, t0) ∧ over_ ∧ 1 ≤ c.misses ∧ c.armed = true) :=
  ⟨⟨(lit.putN 0x3800 1 2), by decide +kernel⟩,
   ⟨31, true, 105,
       { (((lit.putN 0x3800 1 1).putN 0x382F 4 2000).capoCPut 31 { expected := some (true, 105), misses := 1 }) with capo := { vaon := true } },
       by decide +kernel⟩,
   ⟨31, true, 105, 105,
       { (((lit.putN 0x3800 1 1).putN 0x382F 4 2000).capoCPut 31 { exc := some (true, 105, true), misses := 1 }) with capo := { vaon := true } },
       by decide +kernel⟩,
   ⟨31, 105,
       { (((lit.putN 0x3800 1 1).putN 0x382F 4 2000).capoCPut 31 { expected := some (true, 105), misses := 1 }) with capo := { vaon := true } },
       by decide +kernel⟩,
   ⟨31, true, 105, 0, 300,
       { (((lit.putN 0x3800 1 1).putN 0x382F 4 2000).capoCPut 31 { expected := some (true, 105) }) with capo := { vaon := true } },
       by decide +kernel⟩,
   ⟨31, true, 105, 0, 300,
       { (((lit.putN 0x3800 1 1).putN 0x382F 4 2000).capoCPut 31 { expected := some (true, 105), misses := 1, armed := true }) with capo := { vaon := true } },
       by decide +kernel⟩⟩

theorem witness_TripsLatchUntilTheyAreRearmed :
    (∃ k : CourseId, ∃ string : CanvasId, ∃ s : State, let c := s.capoCAt k.val; s.capo.vaon = true ∧
        s.courseOfString string.val = some k.val ∧ (bit c.trips 1 = true ∨ s.energyOver k.val string.val = false)) ∧
    (∃ k : CourseId, ∃ string : CanvasId, ∃ s : State, let c := s.capoCAt k.val; s.capo.vaon = true ∧
        s.courseOfString string.val = some k.val ∧ bit c.trips 1 = false ∧ s.energyOver k.val string.val = true) ∧
    (∃ s : State, s.capo.vaon = true) ∧
    (∃ s : State, s.capo.interlock = false) ∧
    (∃ s : State, s.capo.interlock = true) ∧
    (∃ s : State, s.capo.vaon = false) ∧
    (∃ k : CourseId, ∃ s : State, let c := s.capoCAt k.val; s.ozRuns = true ∧ s.serves 0x3800 = true ∧ c.trips = 8 ∧
        s.capo.interlock = true ∧ s.capo.highSince + s.nat 0x3800 6 * tMs ≤ s.clk.up) ∧
    (∃ k : CourseId, ∃ s : State, let c := s.capoCAt k.val; s.ozRuns = true ∧ s.serves 0x3800 = true ∧ bit c.trips 4 = true) :=
  ⟨⟨31, 255,
       { (((((lit.putN (crs 31) 1 4).putN (crs 31) 5 255).putN (crs 31) 6 1).putN 0x20FF 4 255).capoCPut 31 { trips := 2 }) with capo := { vaon := true, interlock := true }, clk := { up := 5 * tS, slotRun := true } },
       by decide +kernel⟩,
   ⟨31, 255,
       { (((((lit.putN (crs 31) 1 4).putN (crs 31) 5 255).putN (crs 31) 6 1).putN 0x20FF 4 255).capoCPut 31 { trips := 1 }) with energy := [(255, { done := List.replicate 16 (1000, 5), win := 3, sum := 70, lim := 9, upTo := 2 ^ 50 })], capo := { vaon := true, interlock := true }, clk := { up := 5 * tS, slotRun := true } },
       by decide +kernel⟩,
   ⟨{ (((((lit.putN (crs 31) 1 4).putN (crs 31) 5 255).putN (crs 31) 6 1).putN 0x20FF 4 255).capoCPut 31 { trips := 1 }) with capo := { vaon := true, interlock := true }, clk := { up := 5 * tS, slotRun := true } },
       by decide +kernel⟩,
   ⟨dark, by decide +kernel⟩,
   ⟨{ (((((lit.putN (crs 31) 1 4).putN (crs 31) 5 255).putN (crs 31) 6 1).putN 0x20FF 4 255).capoCPut 31 {  }) with capo := { vaon := true, interlock := true }, clk := { up := 5 * tS, slotRun := true } },
       by decide +kernel⟩,
   ⟨State.reset, by decide +kernel⟩,
   ⟨31,
       { (((((((lit.putN (crs 31) 1 4).putN (crs 31) 5 255).putN (crs 31) 6 1).putN 0x20FF 4 255).putN (crs 31) 3 2).putN 0x3800 6 1000).capoCPut 31 { trips := 8 }) with capo := { vaon := true, interlock := true }, clk := { up := 5 * tS, slotRun := true } },
       by decide +kernel⟩,
   ⟨31,
       { (((((((lit.putN (crs 31) 1 4).putN (crs 31) 5 255).putN (crs 31) 6 1).putN 0x20FF 4 255).putN (crs 31) 3 2).putN 0x3800 0x0E 7).capoCPut 31 { trips := 24 }) with capo := { vaon := true, interlock := true }, clk := { up := 5 * tS, slotRun := true } },
       by decide +kernel⟩⟩

theorem witness_TemperaturesAreManaged :
    (∃ s : State, (s.dst = 1 ∨ s.dst = 2 ∨ s.dst = 3)) ∧
    (∃ i : Fin 24, ∃ v : Int, ∃ s : State, (s.dst = 1 ∨ s.dst = 2 ∨ s.dst = 3) ∧ 125000 ≤ v ∧ v ≤ 175000 ∧
        s.therm.dieFailed = [] ∧ (∀ d < 98, s.keyUses d (.die i) = false)) ∧
    (∃ s : State, (s.dst = 0 ∨ s.dst = 4)) ∧
    (∃ v : Int, -55000 ≤ v ∧ v ≤ 175000) ∧
    (∃ z : Fin 12, ∃ s : State, s.zonesDiffer z.val = true ∧ s.therm.dieFailed = []) ∧
    (∃ z : Fin 12, ∃ s : State, s.zonesDiffer z.val = false) ∧
    (∃ s : State, ∃ u, (s.nat 0x4100 2 = 0 ∨ s.clk.up < s.pauseEnd u + 16 * tUs)) ∧
    (∃ s : State, ∃ u, s.nat 0x4100 2 ≠ 0 ∧ s.therm.ingestPause + 16 * tUs ≤ s.clk.up ∧ u ∈ [PauseUnit.ingest, .hostRings]) ∧
    (∃ s : State, s.nat 0x4100 2 ≠ 0 ∧ s.therm.warpPause + 16 * tUs ≤ s.clk.up) ∧
    (∃ s : State, s.nat 0x4100 2 ≠ 0 ∧ s.therm.capturePause + 16 * tUs ≤ s.clk.up) ∧
    (∃ k : CourseId, ∃ s : State, s.ozRuns = true ∧ s.serves 0x4100 = true ∧ s.laserSensors k.val = [] ∧
        s.flag (crs k.val) 3 2 = true) ∧
    (∃ k : CourseId, ∃ s : State, ∃ q : Rat, s.ozRuns = true ∧ s.serves 0x4100 = true ∧ s.laserSensors k.val ≠ [] ∧
        s.laserManaged k.val = some q ∧ s.f32 (laserIx k.val) 5 - 5 ≤ q ∧ s.flag (crs k.val) 3 2 = true) :=
  ⟨⟨{ ((lit.putN 0x4200 1 1).putN (crs 31) 1 4) with mem := { cells := [(5, 7)] } }, by decide +kernel⟩,
   ⟨23, 125000, ((lit.putN (crs 31) 1 4)).each (List.range 98) (fun s d => s.putN (domIx d) 1 0xFE), by decide +kernel⟩,
   ⟨State.reset.putN 0x4200 1 0, by decide +kernel⟩,
   ⟨-55000, by decide +kernel⟩,
   ⟨11, { lit with therm := { die := [(22, some 50), (23, some (121/2))] } }, by decide +kernel⟩,
   ⟨11, { lit with therm := { die := [(22, some 50), (23, some 60)] } }, by decide +kernel⟩,
   ⟨(lit.putN 0x4100 2 0), .warp, by decide +kernel⟩,
   ⟨{ ((lit.putN 0x4100 2 1).putN 0x25F0 7 0xFFFFFFFF) with clk := { up := 16 * tUs } }, .ingest, by decide +kernel⟩,
   ⟨{ ((lit.putN 0x4100 2 1).putN 0x25F0 7 0xFFFFFFFF) with clk := { up := 16 * tUs } }, by decide +kernel⟩,
   ⟨{ ((lit.putN 0x4100 2 1).putN 0x25F0 7 0xFFFFFFFF) with clk := { up := 16 * tUs } }, by decide +kernel⟩,
   ⟨31, (((lit.putN 0x415F 1 255).putN 0x415F 2 255).setFlag (crs 31) 3 2 true), by decide +kernel⟩,
   ⟨31,
       { (((((lit.putN 0x415F 1 31).putN 0x415F 2 255).putN 0x413F 1 1).putN (laserIx 31) 5 (f32OfRat 85)).setFlag (crs 31) 3 2 true) with therm := { ext := [(31, some 80)] } },
       80, by decide +kernel⟩⟩

theorem witness_PegsLoadAndTuningRuns :
    (∃ s : State, (s.dst = 0 ∨ s.dst = 4)) ∧
    (∃ k : CourseId, ∃ s : State, let u := s.pegsRefresh; s.dst ≠ 0 ∧ s.dst ≠ 4 ∧
        (s.cst k.val = 0 ∨ (u.captureLoadPending k.val = true ∧ s.turnHarmonic k.val = true) ∨ (s.clk.slot : Rat) < s.loadInstant k.val)) ∧
    (∃ k : CourseId, ∃ s : State, let u := s.pegsRefresh; s.dst ≠ 0 ∧ s.dst ≠ 4 ∧ s.cst k.val ≠ 0 ∧
        (u.captureLoadPending k.val = false ∨ s.turnHarmonic k.val = false) ∧ s.loadInstant k.val ≤ (s.clk.slot : Rat) ∧
        (∀ d < 98, (s.domainsAt d).waiting = [])) ∧
    (∃ p : Nat, ∃ v : Nat, ∃ s : State, let u := s.pegsRefresh; let x := u.pegsAt p; s.dst ≠ 0 ∧ s.dst ≠ 4 ∧
        (∀ d < 98, (s.domainsAt d).waiting = []) ∧ p < 370 ∧ (∀ c, s.pegCourse p = some c → s.cst c = 0) ∧ x.shadow = some v ∧
        v ≤ 16383) ∧
    (∃ k : CourseId, ∃ s : State, let x := s.runsAt k.val; s.ozRuns = true ∧ s.serves 0x4000 = true ∧ x.pending = false ∧
        x.active = false ∧ s.runMay k.val = true) ∧
    (∃ k : CourseId, ∃ s : State, let x := s.runsAt k.val; s.ozRuns = true ∧ s.serves 0x4000 = true ∧ x.pending = false ∧
        x.active = false ∧ s.runMay k.val = false) ∧
    (∃ k : CourseId, ∃ s : State, let x := s.runsAt k.val; x.active = false) ∧
    (∃ k : CourseId, ∃ points : Nat, ∃ values : Nat, ∃ s : State, let x := s.runsAt k.val;
        let done := (s.domainsOf k.val).length; x.active = true ∧ s.runMay k.val = true ∧
        (x.phase ≠ 6 ∨ points ≠ done ∨ values ≠ x.measured.length)) ∧
    (∃ k : CourseId, ∃ s : State, let x := s.runsAt k.val; x.active = true ∧ s.runMay k.val = true ∧ x.phase = 6) ∧
    (∃ k : CourseId, ∃ s : State, let x := s.runsAt k.val; x.active = true ∧ s.cst k.val = 4 ∧ s.flag 0x4200 4 0 = false) ∧
    (∃ k : CourseId, ∃ s : State, let x := s.runsAt k.val; x.active = true ∧ s.runMay k.val = true ∧
        x.probedAt + 10 * tS ≤ s.clk.up) ∧
    (∃ k : CourseId, ∃ s : State, let x := s.runsAt k.val; x.active = true ∧ s.runMay k.val = true ∧
        s.clk.up < x.probedAt + 10 * tS) :=
  ⟨⟨dark.putN 0x4200 1 4, by decide +kernel⟩,
   ⟨31, dark, by decide +kernel⟩,
   ⟨31,
       { (((((((lit.runsPut 31 { pegs := [(255, 300)] }).putN (crs 31) 1 4).putN (crs 31) 5 255).putN (crs 31) 6 1).putN 0x20FF 4 255).pegsPut 255 { code := 1, shadow := some 300 }) : State) with clk := { up := 2 * tUs } },
       by decide +kernel⟩,
   ⟨255, 300,
       (((((lit.putN (crs 31) 1 0).putN (crs 31) 5 255).putN (crs 31) 6 1).putN 0x20FF 4 255).pegsPut 255 { code := 1, shadow := some 300 }).runsPut 31 { pegs := [(255, 300)] },
       by decide +kernel⟩,
   ⟨31, ((((lit.putN (crs 31) 1 4).putN (crs 31) 5 255).putN (crs 31) 6 1).putN 0x20FF 4 255), by decide +kernel⟩,
   ⟨31, lit, by decide +kernel⟩,
   ⟨31, dark, by decide +kernel⟩,
   ⟨31, 0, 0,
       { ((lit.putN (crs 31) 1 4).runsPut 31 { active := true, phase := 1, probedAt := 5 }) with clk := { up := 5 } },
       by decide +kernel⟩,
   ⟨31, { ((lit.putN (crs 31) 1 4).runsPut 31 { active := true, phase := 6, probedAt := 5 }) with clk := { up := 5 } },
       by decide +kernel⟩,
   ⟨31,
       (((((lit.putN (crs 31) 1 4).putN (crs 31) 5 255).putN (crs 31) 6 1).putN 0x20FF 4 255).runsPut 31 { active := true }),
       by decide +kernel⟩,
   ⟨31,
       { ((lit.putN (crs 31) 1 4).runsPut 31 { active := true, phase := 3, probedAt := 5 }) with clk := { up := 10 * tS + 5 } },
       by decide +kernel⟩,
   ⟨31,
       { ((lit.putN (crs 31) 1 4).runsPut 31 { active := true, phase := 3, probedAt := 5 }) with clk := { up := 10 * tS + 4 } },
       by decide +kernel⟩⟩

theorem witness_MemoryKeepsWhatIsWritten :
    (∃ port : Fin 42, ∃ cls : AddrClass, ∃ s : State,
        (s.mem.chanMiB = 0 ∨ portClass port.val cls = false ∨ s.hasCredit (useMemory port.val) = false)) ∧
    (∃ port : Fin 42, ∃ cls : AddrClass, ∃ a : Nat, ∃ n : Nat, ∃ s : State, s.mem.chanMiB ≠ 0 ∧
        portClass port.val cls = true ∧ s.hasCredit (useMemory port.val) = true ∧ s.mem.classBytes cls < a + n) ∧
    (∃ port : Fin 42, ∃ cls : AddrClass, ∃ a : Nat, ∃ d : List Byte, ∃ s : State, s.mem.chanMiB ≠ 0 ∧
        portClass port.val cls = true ∧ s.hasCredit (useMemory port.val) = true ∧ s.mem.classBytes cls < a + d.length) ∧
    (∃ port : Fin 42, ∃ cls : AddrClass, ∃ a : Nat, ∃ n : Nat, ∃ s : State, s.mem.chanMiB ≠ 0 ∧
        portClass port.val cls = true ∧ s.hasCredit (useMemory port.val) = true ∧ a + n ≤ s.mem.classBytes cls ∧
        s.clk.refclk = false) ∧
    (∃ port : Fin 42, ∃ cls : AddrClass, ∃ a : Nat, ∃ n : Nat, ∃ s : State, s.mem.chanMiB ≠ 0 ∧
        portClass port.val cls = true ∧ s.hasCredit (useMemory port.val) = true ∧ a + n ≤ s.mem.classBytes cls ∧
        s.clk.refclk = true ∧ s.mem.poison = []) ∧
    (∃ port : Fin 42, ∃ cls : AddrClass, ∃ a : Nat, ∃ d : List Byte, ∃ s : State,
        let key (i : Nat) : Nat := cellKey (s.mem.loc cls (a + i)).1 (s.mem.loc cls (a + i)).2; s.mem.chanMiB ≠ 0 ∧
        portClass port.val cls = true ∧ s.hasCredit (useMemory port.val) = true ∧ a + d.length ≤ s.mem.classBytes cls ∧
        s.clk.refclk = true ∧ s.mem.poison = [] ∧ (∀ i j, i < d.length → j < d.length → key i = key j → i = j)) ∧
    (∃ port : Fin 42, ∃ cls : AddrClass, ∃ a : Nat, ∃ d : List Byte, ∃ s : State,
        let unit := unitKey (s.mem.loc cls a).1 ((s.mem.loc cls a).2 / 64); s.mem.chanMiB ≠ 0 ∧
        portClass port.val cls = true ∧ s.hasCredit (useMemory port.val) = true ∧ a + d.length ≤ s.mem.classBytes cls ∧
        s.clk.refclk = true ∧ d ≠ [] ∧ d.length < 64 ∧ a % 64 + d.length ≤ 64 ∧ s.mem.poison.contains unit = true) ∧
    (∃ port : Fin 42, ∃ cls : AddrClass, ∃ a : Nat, ∃ d : List Byte, ∃ s : State, s.mem.chanMiB ≠ 0 ∧
        portClass port.val cls = true ∧ s.hasCredit (useMemory port.val) = true ∧ a + d.length ≤ s.mem.classBytes cls ∧
        s.clk.refclk = true ∧ d.length = 64 ∧ a % 64 = 0) :=
  ⟨⟨38, .main, State.reset, by decide +kernel⟩,
   ⟨41, .main, 32*1792*2^20 - 4, 5, { dark with mem := { chanMiB := 2048 } }, by decide +kernel, by decide +kernel,
       hasCredit_of_empty (by decide +kernel), by decide +kernel⟩,
   ⟨41, .main, 32*1792*2^20, [0x01], { dark with mem := { chanMiB := 2048 } }, by decide +kernel, by decide +kernel,
       hasCredit_of_empty (by decide +kernel), by decide +kernel⟩,
   ⟨41, .main, 32*1792*2^20 - 5, 5, { dark with mem := { chanMiB := 2048 }, clk := { refclk := false } }, by decide +kernel,
       by decide +kernel, hasCredit_of_empty (by decide +kernel), by decide +kernel, by decide +kernel⟩,
   ⟨0, .main, 0x01234567, 3, { dark with mem := { chanMiB := 2048 } }, by decide +kernel, by decide +kernel,
       hasCredit_of_empty (by decide +kernel), by decide +kernel, by decide +kernel, by decide +kernel⟩,
   ⟨0, .main, 32*1792*2^20 - 3, [0x01], { dark with mem := { chanMiB := 2048, cells := [(5, 7)] } }, by decide +kernel,
       by decide +kernel, hasCredit_of_empty (by decide +kernel), by decide +kernel, by decide +kernel, by decide +kernel,
       fun i j hi hj _ => by simp at hi hj; omega⟩,
   ⟨0, .main, 64, [0x01], { dark with mem := { chanMiB := 2048, poison := [unitKey 0 1], cells := [(5, 7)] } },
       by decide +kernel, by decide +kernel, hasCredit_of_empty (by decide +kernel), by decide +kernel, by decide +kernel,
       by decide +kernel, by decide +kernel, by decide +kernel, by decide +kernel⟩,
   ⟨0, .main, 64, List.replicate 64 0x05, { dark with mem := { chanMiB := 2048, poison := [unitKey 0 1, 77] } },
       by decide +kernel, by decide +kernel, hasCredit_of_empty (by decide +kernel), by decide +kernel, by decide +kernel,
       by decide +kernel, by decide +kernel⟩⟩

theorem witness_DramIsMaintained :
    (∃ c : ChannelId, ∃ unit : Nat, ∃ s : State, let x := s.chansAt c.val; x.writeBack.contains unit = true) ∧
    (∃ c : ChannelId, ∃ unit : Nat, ∃ s : State, let x := s.chansAt c.val; x.writeBack.contains unit = false) ∧
    (∃ c : ChannelId, ∃ s : State, s.chanLive c.val = false) ∧
    (∃ c : ChannelId, ∃ rank : Fin 2, ∃ bank : Fin 16, ∃ s : State, let x := s.chansAt c.val;
        let i := rank.val * 16 + bank.val; let n := tgetD x.postponed 0 i; s.chanLive c.val = true ∧ s.clk.refclk = true ∧
        n < 8) ∧
    (∃ c : ChannelId, ∃ rank : Fin 2, ∃ bank : Fin 16, ∃ s : State, let x := s.chansAt c.val;
        let i := rank.val * 16 + bank.val; let n := tgetD x.postponed 0 i; s.chanLive c.val = true ∧ s.clk.refclk = true ∧
        8 ≤ n) ∧
    (∃ s : State, s.anyPanic = true) ∧
    (∃ c : ChannelId, ∃ s : State, let x := s.chansAt c.val; s.chanLive c.val = true ∧ s.clk.refclk = true ∧
        s.anyPanic = false ∧ x.scrub < s.mem.units ∧ s.mem.poison = [] ∧ s.mem.scrubbed + 1 < 32 * s.mem.units) ∧
    (∃ c : ChannelId, ∃ s : State, let x := s.chansAt c.val; s.chanLive c.val = true ∧ s.clk.refclk = true ∧
        s.anyPanic = false ∧ x.scrub < s.mem.units ∧ s.mem.poison = [] ∧ 32 * s.mem.units ≤ s.mem.scrubbed + 1) ∧
    (∃ c : ChannelId, ∃ w : Nat, ∃ l : List Nat, ∃ s : State, let x := s.chansAt c.val; x.neighbours = w :: l ∧
        s.chanLive c.val = true ∧ s.anyPanic = false ∧ 2 ≤ w / 16 % 2 ^ s.mem.rowBits (s.nat 0x5000 3) ∧
        w / 16 % 2 ^ s.mem.rowBits (s.nat 0x5000 3) + 2 < 2 ^ s.mem.rowBits (s.nat 0x5000 3)) ∧
    (∃ c : ChannelId, ∃ s : State, ∃ m, s.chanLive c.val = true ∧ (m = 1 ∨ m = 2 ∨ m = 4)) ∧
    (∃ s : State, (∀ k < 32, (s.chansAt k).candidates = [])) ∧
    (∃ c : ChannelId, ∃ w : Nat, ∃ l : List Nat, ∃ s : State, let x := s.chansAt c.val;
        (∀ k < c.val, (s.chansAt k).candidates = []) ∧ x.candidates = w :: l ∧ s.anyPanic = false ∧ s.chanLive c.val = true ∧
        s.clk.refclk = true) ∧
    (∃ s : State, s.pwr.entering = true ∧ s.nat 0x5000 0x28 = 1) ∧
    (∃ s : State, s.pwr.entering = false) :=
  ⟨⟨31, 7,
       { (((dark.putN 0x502F 1 1).putN 0x5000 3 16).chansPut 31 { writeBack := [6, 7, 8] }) with mem := { chanMiB := 64 } },
       by decide +kernel⟩,
   ⟨31, 7,
       { (((dark.putN 0x502F 1 1).putN 0x5000 3 16).chansPut 31 { writeBack := [6, 8] }) with mem := { chanMiB := 64 } },
       by decide +kernel⟩,
   ⟨31, State.reset, by decide +kernel⟩,
   ⟨31, 1, 15,
       { (((dark.putN 0x502F 1 1).putN 0x5000 3 16).chansPut 31 { postponed := [(31, 7)] }) with mem := { chanMiB := 64 } },
       by decide +kernel⟩,
   ⟨31, 1, 15,
       { (((dark.putN 0x502F 1 1).putN 0x5000 3 16).chansPut 31 { postponed := [(31, 8)] }) with mem := { chanMiB := 64 } },
       by decide +kernel⟩,
   ⟨(((dark.putN 0x502F 1 1).putN (crs 31) 1 4).putN 0x269F 0x10 2), by decide +kernel⟩,
   ⟨31,
       { (((dark.putN 0x502F 1 1).putN 0x5000 3 16).chansPut 31 { scrub := 1048575 }) with mem := { chanMiB := 64, scrubbed := 5 } },
       by decide +kernel⟩,
   ⟨31,
       { (((dark.putN 0x502F 1 1).putN 0x5000 3 16).chansPut 31 { scrub := 1048575 }) with mem := { chanMiB := 64, scrubbed := 33554431 } },
       by decide +kernel⟩,
   ⟨31, 32, [9],
       { (((dark.putN 0x502F 1 1).putN 0x5000 3 16).chansPut 31 { neighbours := [32, 9] }) with mem := { chanMiB := 64 } },
       by decide +kernel⟩,
   ⟨31, { (((dark.putN 0x502F 1 1).putN 0x5000 3 16).chansPut 31 { hot := false }) with mem := { chanMiB := 64 } }, 1,
       by decide +kernel⟩,
   ⟨State.reset, by decide +kernel⟩,
   ⟨31, 5, [6, 5],
       { (((dark.putN 0x502F 1 1).putN 0x5000 3 16).chansPut 31 { candidates := [5, 6, 5] }) with mem := { chanMiB := 64 } },
       by decide +kernel⟩,
   ⟨{ (dark.putN 0x5000 0x28 1) with pwr := { entering := true }, mem := { listed := [(1, 2, false), (3, 4, true)] } },
       by decide +kernel⟩,
   ⟨State.reset, by decide +kernel⟩⟩

theorem witness_DramTrainsAndSleeps :
    (∃ c : ChannelId, ∃ s : State, s.chanLive c.val = false) ∧
    (∃ c : ChannelId, ∃ rank : Fin 2, ∃ s : State, let x := s.chansAt c.val; s.chanLive c.val = true ∧
        s.nat 0x5000 0x0E ≠ 0 ∧ rank.val < s.nat 0x5000 4 ∧ x.down = [] ∧ x.downSince = none) ∧
    (∃ c : ChannelId, ∃ s : State, s.chanLive c.val = true ∧ s.allStopped = true ∧ s.pwr.entering = true ∧
        s.repairsDone c.val = true) ∧
    (∃ c : ChannelId, ∃ count : Int, ∃ s : State, let x := s.chansAt c.val; s.chanLive c.val = true ∧ -32768 ≤ count ∧
        count ≤ 32767 ∧ x.due = false ∧ s.nat 0x5000 0x15 < count.natAbs) ∧
    (∃ c : ChannelId, ∃ count : Int, ∃ s : State, let x := s.chansAt c.val; s.chanLive c.val = true ∧ -32768 ≤ count ∧
        count ≤ 32767 ∧ x.due = false ∧ count.natAbs ≤ s.nat 0x5000 0x15 ∧ s.clk.up < x.trainedAt + s.nat 0x5000 0x14 * tMs) ∧
    (∃ c : ChannelId, ∃ s : State, let x := s.chansAt c.val; x.due = false) ∧
    (∃ c : ChannelId, ∃ s : State, let x := s.chansAt c.val; x.due = true ∧ x.forced = false ∧ s.anyPanic = false) ∧
    (∃ c : ChannelId, ∃ s : State, let x := s.chansAt c.val; x.due = true ∧ x.forced = false ∧ s.anyPanic = true) ∧
    (∃ c : ChannelId, ∃ s : State, let x := s.chansAt c.val; x.due = true ∧ x.overdue = false) ∧
    (∃ c : ChannelId, ∃ s : State, let x := s.chansAt c.val; x.due = true ∧ s.mayRetrain c.val = true) ∧
    (∃ s : State, s.dst ≠ 0) ∧
    (∃ r : TrainingResult, ∃ s : State, s.dst = 0 ∧ s.pwr.dramTrained = false ∧ 2 ≤ s.pwr.step ∧ s.clk.refclk = true ∧
        trainingFails r = true) ∧
    (∃ r : TrainingResult, ∃ s : State, s.dst = 0 ∧ s.pwr.dramTrained = false ∧ 2 ≤ s.pwr.step ∧ s.clk.refclk = true ∧
        trainingFails r = false) :=
  ⟨⟨31, State.reset, by decide +kernel⟩,
   ⟨31, 1,
       { (((((dark.putN 0x502F 1 1).putN 0x5000 3 16).putN 0x5000 0x0E 5).putN 0x5000 4 2).chansPut 31 {  }) with mem := { chanMiB := 64 } },
       by decide +kernel⟩,
   ⟨31,
       { ((((dark.putN 0x502F 1 1).putN 0x5000 3 16).putN 0x5000 0x28 1).chansPut 31 { due := true }) with mem := { chanMiB := 64, listed := [(27, 1, false), (31, 2, true)] }, pwr := { entering := true } },
       by decide +kernel⟩,
   ⟨31, -32768,
       { ((((dark.putN 0x502F 1 1).putN 0x5000 3 16).putN 0x5000 0x15 32767).chansPut 31 {  }) with mem := { chanMiB := 64 } },
       by decide +kernel⟩,
   ⟨31, -500,
       { (((((dark.putN 0x502F 1 1).putN 0x5000 3 16).putN 0x5000 0x15 500).putN 0x5000 0x14 1).chansPut 31 {  }) with mem := { chanMiB := 64 } },
       by decide +kernel⟩,
   ⟨31, { (((dark.putN 0x502F 1 1).putN 0x5000 3 16).chansPut 31 {  }) with mem := { chanMiB := 64 } }, by decide +kernel⟩,
   ⟨31, { (((dark.putN 0x502F 1 1).putN 0x5000 3 16).chansPut 31 { due := true }) with mem := { chanMiB := 64 } },
       by decide +kernel⟩,
   ⟨31, (((dark.putN 0x502F 1 1).putN (crs 31) 1 4).putN 0x269F 0x10 2).chansPut 31 { due := true }, by decide +kernel⟩,
   ⟨31, { (((dark.putN 0x502F 1 1).putN 0x5000 3 16).chansPut 31 { due := true }) with mem := { chanMiB := 64 } },
       by decide +kernel⟩,
   ⟨31,
       { (((dark.putN 0x502F 1 1).putN 0x5000 3 16).chansPut 31 { due := true, forced := true, overdue := true }) with mem := { dueOrder := [31, 4] } },
       by decide +kernel⟩,
   ⟨dark, by decide +kernel⟩,
   ⟨⟨true, 8, 1, 2147483648⟩, { ((State.reset.putN 0x4200 1 0).putN 0x5000 7 0) with pwr := { step := 2 } },
       by decide +kernel⟩,
   ⟨⟨true, 8, 1, 0⟩, { ((State.reset.putN 0x4200 1 0).putN 0x5000 7 1) with pwr := { step := 2 } }, by decide +kernel⟩⟩

theorem witness_HostRingsFollowTheirDoorbells :
    (∃ v : BitVec 64, ∃ s : State, let n := bits v.toNat 49 32; let i := bits v.toNat 31 0; let r := s.ringAt n;
        0x18000 ≤ n ∧ r.enabled = true ∧ r.deviceToHost = false ∧ idxAfter i r.head = true ∧ idxDist i r.tail ≤ r.count) ∧
    (∃ v : BitVec 64, ∃ s : State, let n := bits v.toNat 49 32; let i := bits v.toNat 31 0; let r := s.ringAt n;
        0x18000 ≤ n ∧ r.enabled = true ∧ r.deviceToHost = true ∧ idxAfter i r.tail = true ∧ idxDist i r.tail ≤ r.outstanding) ∧
    (∃ v : BitVec 64, ∃ s : State, let n := bits v.toNat 49 32; let r := s.ringAt n; r.enabled = false) ∧
    (∃ q : Fin 262144, ∃ s : State, let x := s.ringAt q.val; x.enabled = true ∧ x.dirty = true ∧ x.writeBack ≠ 0) ∧
    (∃ q : Fin 262144, ∃ s : State, let x := s.ringAt q.val; x.dirty = false) ∧
    (∃ q : Fin 262144, ∃ s : State, let x := s.ringAt q.val; x.withheld = false) ∧
    (∃ q : Fin 262144, ∃ s : State, let x := s.ringAt q.val; x.withheld = true ∧ x.vector ≠ 0xFFFF) :=
  ⟨⟨(BitVec.ofNat 64 (262143 * 2 ^ 32 + 3)),
       { dark with queues := { rings := [(262143, { allocated := true, enabled := true, count := 8, head := 0xFFFFFFFC, tail := 0xFFFFFFFB })] } },
       by decide +kernel⟩,
   ⟨(BitVec.ofNat 64 (262143 * 2 ^ 32 + 3)),
       { dark with queues := { rings := [(262143, { allocated := true, enabled := true, count := 8, deviceToHost := true, head := 3, tail := 0xFFFFFFFB })] } },
       by decide +kernel⟩,
   ⟨(BitVec.ofNat 64 (262143 * 2 ^ 32 + 3)), State.reset, by decide +kernel⟩,
   ⟨262143,
       { dark with queues := { rings := [(262143, { allocated := true, enabled := true, count := 8, head := 3, tail := 1, dirty := true, writeBack := 64, vector := 7 })] } },
       by decide +kernel⟩,
   ⟨262143, State.reset, by decide +kernel⟩,
   ⟨262143,
       { dark with queues := { rings := [(262143, { allocated := true, enabled := true, count := 8, quiet := true })] } },
       by decide +kernel⟩,
   ⟨262143,
       { dark with queues := { rings := [(262143, { allocated := true, enabled := true, count := 8, withheld := true, vector := 9, quiet := true })] } },
       by decide +kernel⟩⟩

theorem witness_PairsTakeOverOrRestart :
    (∃ s : State, let f := s.fw; f.restarting = true) ∧
    (∃ s : State, let f := s.fw; f.restarting = false ∧ f.ready = true) ∧
    (∃ s : State, let f := s.fw; f.restarting = false ∧ f.ready = false) ∧
    (∃ s : State, let f := s.fw; (f.faulty = 1 ∨ f.faulty = 2) ∧ s.nat 0x7000 4 ≠ 0) ∧
    (∃ s : State, let f := s.fw; (f.faulty = 0 ∨ s.nat 0x7000 4 = 0)) ∧
    (∃ l : LaneId, ∃ s : State, (s.lanesAt l.val).state = 2 ∧ (s.lanesAt l.val).retrainTimes = []) :=
  ⟨⟨{ dark with fw := { restarting := true } }, by decide +kernel⟩,
   ⟨{ dark with fw := { roleA := 1 } }, by decide +kernel⟩,
   ⟨{ dark with fw := { synced := false } }, by decide +kernel⟩,
   ⟨{ (dark.putN 0x7000 4 2) with fw := { roleB := 4, faulty := 2, synced := false } }, by decide +kernel⟩,
   ⟨State.reset, by decide +kernel⟩,
   ⟨271, dark.lanesPut 271 { state := 2 }, by decide +kernel⟩⟩

theorem witness_UpdatesGoThroughTheirSteps :
    (∃ s : State, let f := s.fw; (f.writing = none ∨ s.canPersist = false)) ∧
    (∃ i : Fin 2, ∃ b : List Byte, ∃ s : State, let f := s.fw; f.writing = some (i.val, b) ∧ s.canPersist = true ∧
        s.store.slots.length = 2 ∧ s.store.slotStates.length = 2) ∧
    (∃ v : Byte, ∃ s : State, s.ozRuns = true ∧ v ≠ 1) ∧
    (∃ s : State, let f := s.fw; s.ozRuns = true ∧ s.nat 0x7F00 0x0A = 2 ∧ f.writing = none ∧ f.role f.other ≠ 4) ∧
    (∃ s : State, s.nat 0x7F00 0x0A = 3) ∧
    (∃ s : State, s.nat 0x7F00 0x0A ≠ 3) ∧
    (∃ s : State, let f := s.fw; s.ozRuns = true ∧ s.nat 0x7F00 0x0A = 4 ∧ f.ready = true ∧ (∀ k < 32, s.cst k = 0)) ∧
    (∃ s : State, let f := s.fw; ∃ k, k < 32 ∧ s.ozRuns = true ∧ s.nat 0x7F00 0x0A = 4 ∧ f.ready = true ∧ s.cst k ≠ 0) ∧
    (∃ s : State, s.nat 0x7F00 0x0A = 5) ∧
    (∃ s : State, s.nat 0x7F00 0x0A ≠ 5) :=
  ⟨⟨State.reset, by decide +kernel⟩,
   ⟨1, [0x01], { (dark.putN 0x7F00 0x0A 1) with fw := { writing := some (1, [0x01]) } }, by decide +kernel⟩,
   ⟨0, dark, by decide +kernel⟩,
   ⟨{ (dark.putN 0x7F00 0x0A 2) with fw := { roleA := 1 } }, by decide +kernel⟩,
   ⟨{ (dark.putN 0x7F00 0x0A 3) with fw := { roleB := 3, synced := false } }, by decide +kernel⟩,
   ⟨{ (dark.putN 0x7F00 0x0A 4) with fw := { roleA := 1 } }, by decide +kernel⟩,
   ⟨{ (dark.putN 0x7F00 0x0A 4) with fw := { roleA := 1 } }, by decide +kernel⟩,
   ⟨{ ((dark.putN 0x7F00 0x0A 4).putN (crs 31) 1 1) with fw := { roleA := 1 } }, 31, by decide +kernel⟩,
   ⟨{ ((dark.putN 0x7F00 0x0A 5).putN 0x1000 7 1) with fw := { roleB := 5, synced := false } }, by decide +kernel⟩,
   ⟨{ (dark.putN 0x7F00 0x0A 4) with fw := { roleA := 1 } }, by decide +kernel⟩⟩

theorem witness_SuppliesAreWatched :
    (∃ s : State, (s.pwr.valid = true ∨ s.capo.vaon = false)) ∧
    (∃ s : State, s.pwr.valid = false ∧ s.capo.vaon = true) ∧
    (∃ mv : Nat, ∃ rail : Fin 11, ∃ s : State, s.belowWarning rail.val mv = false) ∧
    (∃ mv : Nat, ∃ rail : Fin 11, ∃ s : State, s.belowWarning rail.val mv = true ∧ (s.dst = 1 ∨ s.dst = 2 ∨ s.dst = 3) ∧
        s.flag 0x4200 4 0 = false) ∧
    (∃ s : State, s.flag 0x4200 4 0 = true) ∧
    (∃ s : State, s.startMay = true ∧ s.pwr.step = 1) ∧
    (∃ s : State, s.pwr.step ≠ 1) :=
  ⟨⟨State.reset, by decide +kernel⟩,
   ⟨{ State.reset with capo := { vaon := true } }, by decide +kernel⟩,
   ⟨5000, 10, lit, by decide +kernel⟩,
   ⟨0, 10, { lit with clk := { up := 9 } }, by decide +kernel⟩,
   ⟨{ (((lit.putN 0x4200 4 1).putN 0x4200 5 0x400).putN 0x5000 0x1A 2) with pwr := { low := [(10, 5)] } },
       by decide +kernel⟩,
   ⟨{ State.reset with pwr := { valid := true, step := 1 } }, by decide +kernel⟩,
   ⟨State.reset, by decide +kernel⟩⟩

theorem witness_EverySourceResetsTheDevice :
    (∃ s : State, (∀ p ∈ s.store.image, p.1 ≠ dkey 0x4200 1) ∧ (∀ w ∈ s.store.under ++ s.store.held, w.key ≠ dkey 0x4200 1)) ∧
    (∃ rail : Fin 11, ∃ s : State, (∀ p ∈ s.store.image, p.1 ≠ dkey 0x4200 1) ∧
        (∀ w ∈ s.store.under ++ s.store.held, w.key ≠ dkey 0x4200 1) ∧ rail.val ≠ 10) ∧
    (∃ s : State, (∀ p ∈ s.store.image, p.1 ≠ dkey 0x4200 1) ∧ (∀ w ∈ s.store.under ++ s.store.held, w.key ≠ dkey 0x4200 1) ∧
        s.fw.restarting = true) ∧
    (∃ s : State, (∀ p ∈ s.store.image, p.1 ≠ dkey 0x4200 1) ∧ (∀ w ∈ s.store.under ++ s.store.held, w.key ≠ dkey 0x4200 1) ∧
        s.fw.restarting = false) ∧
    (∃ s : State, (∀ p ∈ s.store.image, p.1 ≠ dkey 0x4200 1) ∧ (∀ w ∈ s.store.under ++ s.store.held, w.key ≠ dkey 0x4200 1) ∧
        s.ozRuns = true ∧ s.serves 0x4200 = true) ∧
    (∃ v : BitVec 16, ∃ s : State, (∀ p ∈ s.store.image, p.1 ≠ dkey 0x4200 1) ∧
        (∀ w ∈ s.store.under ++ s.store.held, w.key ≠ dkey 0x4200 1) ∧ s.ozRuns = true ∧ s.serves 0x4200 = true ∧ v ≠ 0xA5C3) :=
  ⟨⟨{ ((((((lit.putN (crs 31) 1 4).putN (crs 31) 5 255).putN (crs 31) 6 1).putN 0x20FF 4 255).putN 0x7F00 1 1).lanesPut 3 { state := 5 }) with pwr := { step := 7, valid := true }, capo := { shutLatch := true, emitOk := 7, vaon := true }, clk := { slotRun := true, up := 88 }, mem := { cells := [(5, 7)] }, store := { image := [(dkey 0x1100 0x10, .num 400)] }, pending := [.rstNReset], fw := { restarting := false } },
       by decide +kernel⟩,
   ⟨9,
       { ((((((lit.putN (crs 31) 1 4).putN (crs 31) 5 255).putN (crs 31) 6 1).putN 0x20FF 4 255).putN 0x7F00 1 1).lanesPut 3 { state := 5 }) with pwr := { step := 7, valid := true }, capo := { shutLatch := true, emitOk := 7, vaon := true }, clk := { slotRun := true, up := 88 }, mem := { cells := [(5, 7)] }, store := { image := [(dkey 0x1100 0x10, .num 400)] }, pending := [.rstNReset], fw := { restarting := false } },
       by decide +kernel⟩,
   ⟨{ ((((((lit.putN (crs 31) 1 4).putN (crs 31) 5 255).putN (crs 31) 6 1).putN 0x20FF 4 255).putN 0x7F00 1 1).lanesPut 3 { state := 5 }) with pwr := { step := 7, valid := true }, capo := { shutLatch := true, emitOk := 7, vaon := true }, clk := { slotRun := true, up := 88 }, mem := { cells := [(5, 7)] }, store := { image := [(dkey 0x1100 0x10, .num 400)] }, pending := [.rstNReset], fw := { restarting := true } },
       by decide +kernel⟩,
   ⟨{ ((((((lit.putN (crs 31) 1 4).putN (crs 31) 5 255).putN (crs 31) 6 1).putN 0x20FF 4 255).putN 0x7F00 1 1).lanesPut 3 { state := 5 }) with pwr := { step := 7, valid := true }, capo := { shutLatch := true, emitOk := 7, vaon := true }, clk := { slotRun := true, up := 88 }, mem := { cells := [(5, 7)] }, store := { image := [(dkey 0x1100 0x10, .num 400)] }, pending := [.rstNReset], fw := { restarting := false } },
       by decide +kernel⟩,
   ⟨{ ((((((lit.putN (crs 31) 1 4).putN (crs 31) 5 255).putN (crs 31) 6 1).putN 0x20FF 4 255).putN 0x7F00 1 1).lanesPut 3 { state := 5 }) with pwr := { step := 7, valid := true }, capo := { shutLatch := true, emitOk := 7, vaon := true }, clk := { slotRun := true, up := 88 }, mem := { cells := [(5, 7)] }, store := { image := [(dkey 0x1100 0x10, .num 400)] }, pending := [.rstNReset], fw := { restarting := false } },
       by decide +kernel⟩,
   ⟨0xA5C2,
       { ((((((lit.putN (crs 31) 1 4).putN (crs 31) 5 255).putN (crs 31) 6 1).putN 0x20FF 4 255).putN 0x7F00 1 1).lanesPut 3 { state := 5 }) with pwr := { step := 7, valid := true }, capo := { shutLatch := true, emitOk := 7, vaon := true }, clk := { slotRun := true, up := 88 }, mem := { cells := [(5, 7)] }, store := { image := [(dkey 0x1100 0x10, .num 400)] }, pending := [.rstNReset], fw := { restarting := false } },
       by decide +kernel⟩⟩

theorem witness_JtagInstructionsAct :
    (∃ s : State, (s.dst = 0 ∨ s.dst = 3)) ∧
    (∃ s : State, s.dst ≠ 0 ∧ s.dst ≠ 3) ∧
    (∃ op : Byte, op.toNat ∉ [0x00, 0x01, 0x02, 0x3C, 0x5A]) ∧
    (∃ op : Byte, op.toNat ∈ [0x00, 0x01, 0x02, 0x3C, 0x5A]) ∧
    (∃ s : State, s.pwr.valid = true) ∧
    (∃ s : State, s.pwr.valid = false) :=
  ⟨⟨State.reset.putN 0x4200 1 3, by decide +kernel⟩,
   ⟨dark, by decide +kernel⟩,
   ⟨0x5B, by decide +kernel⟩,
   ⟨0x5A, by decide +kernel⟩,
   ⟨{ dark with pwr := { valid := true } }, by decide +kernel⟩,
   ⟨State.reset, by decide +kernel⟩⟩

theorem witness_FramesOfTimeLanesAndMirrors :
    (∃ t, exec (.ptpDelayResponse 1 (PtpDelayMessage.mk true 0 [] 0)) dark = .next t) ∧
    (∃ t, exec (.duplicateNodeClear) dark = .next t) ∧
    (∃ t, exec (.phaseLocked 31) dark = .next t) ∧
    (∃ t, exec (.phaseLockLost 31) dark = .next t) ∧
    (∃ t, exec (.hushUnconfirmed 255) dark = .next t) ∧
    (∃ t, exec (.contentFollowHoldover 31) dark = .next t) ∧
    (∃ t, exec (.consortPeerAbsent 0 0) dark = .next t) ∧
    (∃ t, exec (.emitOkDrop 31) dark = .next t) ∧
    (∃ t, exec (.laneRetrainQuietEnd 255) dark = .next t) ∧
    (∃ t, exec (.droneTimer 255) dark = .next t) ∧
    (∃ t, exec (.align 255 0) dark = .next t) ∧
    (∃ t, exec (.shaftIndex 0) dark = .next t) ∧
    (∃ t, exec (.ptpAnnounce 1 (Announce.mk 0 128 6 0x20 100 128 77 1 5 37 [])) dark = .next t) ∧
    (∃ t, exec (.announceReceiptTimeout) dark = .next t) ∧
    (∃ t, exec (.ptpFrameEpoch 31) dark = .next t) ∧
    (∃ t, exec (.contentFollowPeriodEnd 31) dark = .next t) ∧
    (∃ t, exec (.repeatFrame 31) dark = .next t) ∧
    (∃ t, exec (.moveToSpare 3 0) dark = .next t) ∧
    (∃ t, exec (.beaconSend 0) dark = .next t) ∧
    (∃ t, exec (.beaconReceive []) dark = .next t) ∧
    (∃ t, exec (.retIdle 31 0) dark = .next t) ∧
    (∃ t, exec (.retStatus 31 0) dark = .next t) ∧
    (∃ t, exec (.retIdent 31 0) dark = .next t) ∧
    (∃ t, exec (.returnBlockInvalid (ReturnBlock.mk 31 0)) dark = .next t) ∧
    (∃ t, exec (.returnLaneDown 31) dark = .next t) ∧
    (∃ t, exec (.syncInHoldover 0) dark = .next t) ∧
    (∃ t, exec (.loopOutputWrite 87) dark = .next t) ∧
    (∃ t, exec (.excitationStart 31) dark = .next t) ∧
    (∃ t, exec (.ringWindowStart 31) dark = .next t) ∧
    (∃ t, exec (.axisEnRelease 31) dark = .next t) ∧
    (∃ t, exec (.vaonValid 0) dark = .next t) ∧
    (∃ t, exec (.interlockRise) dark = .next t) ∧
    (∃ t, exec (.retErrors 31 0) dark = .next t) ∧
    (∃ t, exec (.setTime 3 0) dark = .next t) ∧
    (∃ t, exec (.syncInEdge 0 true 0) dark = .next t) ∧
    (∃ t, exec (.trackerUpdate 31 0) dark = .next t) ∧
    (∃ t, exec (.senseCrossingStamp 31 true 0) dark = .next t) ∧
    (∃ t, exec (.retFault 31 0) dark = .next t) ∧
    (∃ t, exec (.ptpSync 1 (PtpSyncMessage.mk 0 [] 0)) dark = .next t) ∧
    (∃ t, exec (.rearm 3 0) dark = .next t) ∧
    (∃ t, exec (.capoHush 0 [] 0) dark = .next t) ∧
    (∃ t, exec (.laneRetrainTimeout 255) dark = .next t) ∧
    (∃ t, exec (.shaftLineRestored 0) dark = .next t) ∧
    (∃ t, exec (.shaftStopped 0) dark = .next t) ∧
    (∃ t, exec (.holdoverExpired) dark = .next t) ∧
    (∃ t, exec (.lanesOff) dark = .next t) ∧
    (∃ t, exec (.retLane 31 0) dark = .next t) ∧
    (∃ t, exec (.laneRetrainCommand 3 0) dark = .next t) ∧
    (∃ t, exec (.laserRearm 3 0) dark = .next t) ∧
    (∃ t, exec (.quadPllLoss 0) dark = .next t) ∧
    (∃ t, exec (.renderSliceFault 0) dark = .next t) ∧
    (∃ t, exec (.shaftLineBreak 0) dark = .next t) ∧
    (∃ t, exec (.interlockTrip) dark = .next t) ∧
    (∃ t, exec (.scanExcursion 31 true true 0) dark = .next t) ∧
    (∃ t, exec (.scanWatchMiss 31 0) dark = .next t) ∧
    (∃ t, exec (.energyTrip 255) dark = .next t) ∧
    (∃ t, exec (.bowStart 31) dark = .next t) ∧
    (∃ t, exec (.nutReached 31 true) dark = .next t) ∧
    (∃ t, exec (.shaftCount 0 true true) dark = .next t) ∧
    (∃ t, exec (.ssiPoll 0 (SsiFrame.mk 5 false true true)) dark = .next t) ∧
    (∃ t, exec (.loopStep 87 [] none) dark = .next t) ∧
    (∃ t, exec (.startTimeout 31) dark = .next t) ∧
    (∃ t, exec (.mirrorFailed 31) dark = .next t) ∧
    (∃ t, exec (.loopRefclkHoldExpired) dark = .next t) ∧
    (∃ t, exec (.capoSelfTestComplete true) dark = .next t) ∧
    (∃ t, exec (.capoFault 0) dark = .next t) ∧
    (∃ t, exec (.overtravelTrip 31) dark = .next t) ∧
    (∃ t, exec (.ringWindowEnd 31 ({ crossings := [0, 51200000], e1 := 5, e2 := 5 } : RingMeas)) dark = .next t) ∧
    (∃ t, exec (.loopSlotFault 0) dark = .next t) :=
  ⟨⟨_, rfl⟩, ⟨_, rfl⟩, ⟨_, rfl⟩, ⟨_, rfl⟩, ⟨_, rfl⟩, ⟨_, rfl⟩, ⟨_, rfl⟩, ⟨_, rfl⟩, ⟨_, rfl⟩, ⟨_, rfl⟩, ⟨_, rfl⟩, ⟨_, rfl⟩,
       ⟨_, rfl⟩, ⟨_, rfl⟩, ⟨_, rfl⟩, ⟨_, rfl⟩, ⟨_, rfl⟩, ⟨_, rfl⟩, ⟨_, rfl⟩, ⟨_, rfl⟩, ⟨_, rfl⟩, ⟨_, rfl⟩, ⟨_, rfl⟩, ⟨_, rfl⟩,
       ⟨_, rfl⟩, ⟨_, rfl⟩, ⟨_, rfl⟩, ⟨_, rfl⟩, ⟨_, rfl⟩, ⟨_, rfl⟩, ⟨_, rfl⟩, ⟨_, rfl⟩, ⟨_, rfl⟩, ⟨_, rfl⟩, ⟨_, rfl⟩, ⟨_, rfl⟩,
       ⟨_, rfl⟩, ⟨_, rfl⟩, ⟨_, rfl⟩, ⟨_, rfl⟩, ⟨_, rfl⟩, ⟨_, rfl⟩, ⟨_, rfl⟩, ⟨_, rfl⟩, ⟨_, rfl⟩, ⟨_, rfl⟩, ⟨_, rfl⟩, ⟨_, rfl⟩,
       ⟨_, rfl⟩, ⟨_, rfl⟩, ⟨_, rfl⟩, ⟨_, rfl⟩, ⟨_, rfl⟩, ⟨_, rfl⟩, ⟨_, rfl⟩, ⟨_, rfl⟩, ⟨_, rfl⟩, ⟨_, rfl⟩, ⟨_, rfl⟩, ⟨_, rfl⟩,
       ⟨_, rfl⟩, ⟨_, rfl⟩, ⟨_, rfl⟩, ⟨_, rfl⟩, ⟨_, rfl⟩, ⟨_, rfl⟩, ⟨_, rfl⟩, ⟨_, rfl⟩, ⟨_, rfl⟩⟩

theorem witness_FramesOfContentAndCapture :
    (∃ t, exec (.flowIdle 63) dark = .next t) ∧
    (∃ t, exec (.emitterGainHeld 255) dark = .next t) ∧
    (∃ t, exec (.captureInputRecover 33) dark = .next t) ∧
    (∃ t, exec (.zoneDisagreement 0) dark = .next t) ∧
    (∃ t, exec (.canvasZeroFillComplete 255 0) dark = .next t) ∧
    (∃ t, exec (.flowPathSilent 63 1) dark = .next t) ∧
    (∃ t, exec (.warpRecomputeComplete 0 0) dark = .next t) ∧
    (∃ t, exec (.matrixComplete 31) dark = .next t) ∧
    (∃ t, exec (.fetchSchedule 31) dark = .next t) ∧
    (∃ t, exec (.tuningRunTimeout 31) dark = .next t) ∧
    (∃ t, exec (.releaseReadyBuffers 255 0) dark = .next t) ∧
    (∃ t, exec (.fetchStoreError 31 0 0 true) dark = .next t) ∧
    (∃ t, exec (.bowRender 31) dark = .next t) ∧
    (∃ t, exec (.captureBufferRelease 31 0 0) dark = .next t) ∧
    (∃ t, exec (.runCommand 3 0) dark = .next t) ∧
    (∃ t, exec (.tuningSliceForced 31) dark = .next t) ∧
    (∃ t, exec (.pairRestartComplete) dark = .next t) ∧
    (∃ t, exec (.mergeDeadline 63) dark = .next t) ∧
    (∃ t, exec (.tileArrival 31 0 true) dark = .next t) ∧
    (∃ t, exec (.refinementUpdate 0 []) dark = .next t) ∧
    (∃ t, exec (.pegLoad none) dark = .next t) ∧
    (∃ t, exec (.bowPlacement 31) dark = .next t) ∧
    (∃ t, exec (.harmonicGainUpdate 31) dark = .next t) ∧
    (∃ t, exec (.streamUnitSend 15) dark = .next t) ∧
    (∃ t, exec (.streamBatchTimer 15) dark = .next t) ∧
    (∃ t, exec (.streamBufferDescriptor 15 []) dark = .next t) ∧
    (∃ t, exec (.fiducialSnapshot 31 0) dark = .next t) ∧
    (∃ t, exec (.supplyHoldEnd) dark = .next t) ∧
    (∃ t, exec (.abortBuffer 63 []) dark = .next t) ∧
    (∃ t, exec (.tuningRunEnd 31 0 0) dark = .next t) ∧
    (∃ t, exec (.complete 63 []) dark = .next t) ∧
    (∃ t, exec (.commitFence 31) dark = .next t) ∧
    (∃ t, exec (.captureComplete 31) dark = .next t) ∧
    (∃ t, exec (.harmonicRecord 31 0 []) dark = .next t) ∧
    (∃ t, exec (.st2110Packet 1 ({ dstIp := 8, dstPort := 9, srcIp := 7, version := 2, payloadType := 96, marker := true, seq := 5, timestamp := 7, ssrc := 33, length := 40, rows := [{ field := false, row := 0, offset := 0, data := [0x01] }] } : RtpPacket)) dark = .next t) ∧
    (∃ t, exec (.writeRect 63 [] [] true) dark = .next t) ∧
    (∃ t, exec (.descriptorResume 63) dark = .next t) ∧
    (∃ t, exec (.dramExitComplete) dark = .next t) ∧
    (∃ t, exec (.refclkLoss) dark = .next t) :=
  ⟨⟨_, rfl⟩, ⟨_, rfl⟩, ⟨_, rfl⟩, ⟨_, rfl⟩, ⟨_, rfl⟩, ⟨_, rfl⟩, ⟨_, rfl⟩, ⟨_, rfl⟩, ⟨_, rfl⟩, ⟨_, rfl⟩, ⟨_, rfl⟩, ⟨_, rfl⟩,
       ⟨_, rfl⟩, ⟨_, rfl⟩, ⟨_, rfl⟩, ⟨_, rfl⟩, ⟨_, rfl⟩, ⟨_, rfl⟩, ⟨_, rfl⟩, ⟨_, rfl⟩, ⟨_, rfl⟩, ⟨_, rfl⟩, ⟨_, rfl⟩, ⟨_, rfl⟩,
       ⟨_, rfl⟩, ⟨_, rfl⟩, ⟨_, rfl⟩, ⟨_, rfl⟩, ⟨_, rfl⟩, ⟨_, rfl⟩, ⟨_, rfl⟩, ⟨_, rfl⟩, ⟨_, rfl⟩, ⟨_, rfl⟩, ⟨_, rfl⟩, ⟨_, rfl⟩,
       ⟨_, rfl⟩, ⟨_, rfl⟩, ⟨_, rfl⟩⟩

theorem witness_FramesOfMemoryPowerAndServices :
    (∃ t, exec (.correctedWriteBack 31 0) dark = .next t) ∧
    (∃ t, exec (.gainPersist) dark = .next t) ∧
    (∃ t, exec (.persistentWrite none) dark = .next t) ∧
    (∃ t, exec (.heldWritesFlush) dark = .next t) ∧
    (∃ t, exec (.poweredTimePersist) dark = .next t) ∧
    (∃ t, exec (.pciePerstDeassert) dark = .next t) ∧
    (∃ t, exec (.extest []) dark = .next t) ∧
    (∃ t, exec (.samplePreload []) dark = .next t) ∧
    (∃ t, exec (.bypass 0) dark = .next t) ∧
    (∃ t, exec (.abort 3 0) dark = .next t) ∧
    (∃ t, exec (.spareOffer SpareKind.lane 0 true) dark = .next t) ∧
    (∃ t, exec (.spiStatus) dark = .next t) ∧
    (∃ t, exec (.spiUnknownCommand 0 0) dark = .next t) ∧
    (∃ t, exec (.hostDoorbell 0) dark = .next t) ∧
    (∃ t, exec (.moderationExpiry 0) dark = .next t) ∧
    (∃ t, exec (.refresh 31 0 0 true) dark = .next t) ∧
    (∃ t, exec (.neighbourRefresh 31) dark = .next t) ∧
    (∃ t, exec (.powerDownEntry 31 0) dark = .next t) ∧
    (∃ t, exec (.mr4Read 31 0 true) dark = .next t) ∧
    (∃ t, exec (.retrainForced 31) dark = .next t) ∧
    (∃ t, exec (.retrainOverdue 31) dark = .next t) ∧
    (∃ t, exec (.scrubOverdue) dark = .next t) ∧
    (∃ t, exec (.hardRepair) dark = .next t) ∧
    (∃ t, exec (.emitterWorn 255) dark = .next t) ∧
    (∃ t, exec (.captureInputFailed 33) dark = .next t) ∧
    (∃ t, exec (.supplyHoldEntry 0 0) dark = .next t) ∧
    (∃ t, exec (.pairStandbyReady) dark = .next t) ∧
    (∃ t, exec (.standbySynchronised) dark = .next t) ∧
    (∃ t, exec (.criticalLogClear 3 0) dark = .next t) ∧
    (∃ t, exec (.persistenceStateClear 3 0) dark = .next t) ∧
    (∃ t, exec (.availabilityClear 3 0) dark = .next t) ∧
    (∃ t, exec (.idcode) dark = .next t) ∧
    (∃ t, exec (.fuseprog 0) dark = .next t) ∧
    (∃ t, exec (.stickyFlagsClear 3 87 0) dark = .next t) ∧
    (∃ t, exec (.masterForgotten 3) dark = .next t) ∧
    (∃ t, exec (.addressChange) dark = .next t) ∧
    (∃ t, exec (.heartbeat) dark = .next t) ∧
    (∃ t, exec (.publication 3 0 0) dark = .next t) ∧
    (∃ t, exec (.ringWriteBack 0) dark = .next t) ∧
    (∃ t, exec (.readyWordClear 0) dark = .next t) ∧
    (∃ t, exec (.spiReadResponse) dark = .next t) ∧
    (∃ t, exec (.selfRefreshEntry 31) dark = .next t) ∧
    (∃ t, exec (.oscillatorRead 31 0) dark = .next t) ∧
    (∃ t, exec (.retrainPause 31) dark = .next t) ∧
    (∃ t, exec (.captureInputSuspect 33) dark = .next t) ∧
    (∃ t, exec (.overvoltage 0) dark = .next t) ∧
    (∃ t, exec (.throttlePause PauseUnit.warp) dark = .next t) ∧
    (∃ t, exec (.imageWriteComplete true) dark = .next t) ∧
    (∃ t, exec (.probationEnd) dark = .next t) ∧
    (∃ t, exec (.loadStandby 3 0) dark = .next t) ∧
    (∃ t, exec (.powerValid 0) dark = .next t) ∧
    (∃ t, exec (.dramTrainingComplete (⟨true, 8, 1, 0⟩ : TrainingResult)) dark = .next t) ∧
    (∃ t, exec (.softRepair) dark = .next t) ∧
    (∃ t, exec (.pairFault) dark = .next t) ∧
    (∃ t, exec (.watchdogExpiry) dark = .next t) ∧
    (∃ t, exec (.pairRestartInPlace) dark = .next t) ∧
    (∃ t, exec (.switchOver 3 0) dark = .next t) ∧
    (∃ t, exec (.slotPllLock) dark = .next t) ∧
    (∃ t, exec (.standbyEntryComplete) dark = .next t) ∧
    (∃ t, exec (.scrubRead 31 0) dark = .next t) ∧
    (∃ t, exec (.memoryRequest 0 AddrClass.main 0 (MemOp.write [1, 2]) 0) dark = .next t) ∧
    (∃ t, exec (.refclkReturn) dark = .next t) :=
  ⟨⟨_, rfl⟩, ⟨_, rfl⟩, ⟨_, rfl⟩, ⟨_, rfl⟩, ⟨_, rfl⟩, ⟨_, rfl⟩, ⟨_, rfl⟩, ⟨_, rfl⟩, ⟨_, rfl⟩, ⟨_, rfl⟩, ⟨_, rfl⟩, ⟨_, rfl⟩,
       ⟨_, rfl⟩, ⟨_, rfl⟩, ⟨_, rfl⟩, ⟨_, rfl⟩, ⟨_, rfl⟩, ⟨_, rfl⟩, ⟨_, rfl⟩, ⟨_, rfl⟩, ⟨_, rfl⟩, ⟨_, rfl⟩, ⟨_, rfl⟩, ⟨_, rfl⟩,
       ⟨_, rfl⟩, ⟨_, rfl⟩, ⟨_, rfl⟩, ⟨_, rfl⟩, ⟨_, rfl⟩, ⟨_, rfl⟩, ⟨_, rfl⟩, ⟨_, rfl⟩, ⟨_, rfl⟩, ⟨_, rfl⟩, ⟨_, rfl⟩, ⟨_, rfl⟩,
       ⟨_, rfl⟩, ⟨_, rfl⟩, ⟨_, rfl⟩, ⟨_, rfl⟩, ⟨_, rfl⟩, ⟨_, rfl⟩, ⟨_, rfl⟩, ⟨_, rfl⟩, ⟨_, rfl⟩, ⟨_, rfl⟩, ⟨_, rfl⟩, ⟨_, rfl⟩,
       ⟨_, rfl⟩, ⟨_, rfl⟩, ⟨_, rfl⟩, ⟨_, rfl⟩, ⟨_, rfl⟩, ⟨_, rfl⟩, ⟨_, rfl⟩, ⟨_, rfl⟩, ⟨_, rfl⟩, ⟨_, rfl⟩, ⟨_, rfl⟩, ⟨_, rfl⟩,
       ⟨_, rfl⟩, ⟨_, rfl⟩⟩

end Sys2Proof.Tests
end

/-! PROOF. Commits: when the limits of R68 are reached, how a write of 1400:01 and a WRITE of one entry answer, and that a
time commit, none of whose items applies as it is accepted, only joins the pending ones (R63 to R65, R68, R69). -/

namespace Sys2Proof.Machine

open Sys2Proof

/-! ### The commands of this family -/

theorem exec_commit (m : MasterId) (word : BitVec 32) (s : State) :
    exec (.commit m word) s =
      .next (s.hostWrite (writeItem 0x04 0x1400 1 4) (fun s => s.commitWord m.val word.toNat)) := rfl

theorem exec_abort (m : MasterId) (word : BitVec 32) (s : State) :
    exec (.abort m word) s =
      .next (s.hostWrite (writeItem 0x04 0x1400 1 4) (fun s => s.abortStage m.val word.toNat)) := rfl

theorem exec_write (m : MasterId) (it : Item) (v : List Byte) (s : State) :
    exec (.write m it v) s = .next (s.itemCommand m.val 2 it v).resetIfDue := rfl

/-! ### Items -/

/-- A command entry that the running service serves: its effect, then its answer. -/
theorem State.hostWrite_served {s : State} {it : Item} (f : State → State × Nat) (hrun : s.ozRuns = true)
    (hserve : s.serves it.index = true) : s.hostWrite it f = (f s).1.answer 0x02 it (f s).2 [] := by
  simp [State.hostWrite, hrun, hserve]

/-- A WRITE of an entry that the running service finds: `writeEntry`, answered with the entry's own type. -/
theorem State.itemCommand_write {s : State} {it : Item} {r : Row} (m : Nat) (v : List Byte) (hrun : s.ozRuns = true)
    (hrow : s.lookup it = .ok r) :
    s.itemCommand m 2 it v = (s.writeEntry m it r v).1.answer 0x02
      { it with final := false, type := codeOf r.ty } (s.writeEntry m it r v).2 [] := by
  simp [State.itemCommand, State.doItem, hrun, hrow]

/-- A WRITE of an RW or RP entry writes its whole value directly; 0x00 becomes 0x0B where the value was clamped. -/
theorem State.writeEntry_direct {s : State} {it : Item} {r : Row} {v : List Byte} {x y : Val} {held : Bool} (m : Nat)
    (hacc : accOf it.index r = .rw ∨ accOf it.index r = .rp) (hval : itemValue it r v = .ok x) (hoff : it.offset = 0)
    (hwhole : s.wholeValue it.index it.sub r x = .ok (y, held)) :
    s.writeEntry m it r v =
      ((s.directWrite m it.index it.sub y).1,
        if (s.directWrite m it.index it.sub y).2 = stOk ∧ held = true then stClamped
        else (s.directWrite m it.index it.sub y).2) := by
  rcases hacc with hacc | hacc <;> simp [State.writeEntry, hacc, hval, hoff, hwhole]

/-- A direct write is a commit of one item, but for the two entries that a write of 0 clears. -/
theorem State.directWrite_writeOne {i b : Nat} (s : State) (m : Nat) (v : Val)
    (hsticky : ¬ (0x3000 ≤ i ∧ i < 0x3060 ∧ b = 0x22)) (hpersist : ¬ (i = 0x7100 ∧ b = 0x0A)) :
    s.directWrite m i b v = s.writeOne m (dkey i b) v := by
  rw [State.directWrite, if_neg hsticky, if_neg hpersist]

theorem State.resetIfDue_of_not_pending {s : State} (h : s.oz.resetPending = false) : s.resetIfDue = s := by
  simp [State.resetIfDue, h]

@[simp] theorem State.answer_resetPending (s : State) (op : Nat) (it : Item) (status : Nat) (value : List Byte) :
    (s.answer op it status value).oz.resetPending = s.oz.resetPending := rfl

/-! ### The limits of R68 -/

theorem State.commitsFull_iff (s : State) (m : Nat) :
    s.commitsFull m = true ↔
      4 ≤ (s.oz.commits.filter (fun p => p.master == m && !p.policy)).length ∨ 256 ≤ s.oz.commits.length := by
  simp [State.commitsFull]

theorem State.commitsFull_eq_false {s : State} {m : Nat}
    (hmaster : (s.oz.commits.filter (fun p => p.master == m && !p.policy)).length < 4) (hdevice : s.oz.commits.length < 256) :
    s.commitsFull m = false := by
  rw [Bool.eq_false_iff, ne_eq, State.commitsFull_iff]
  omega

theorem State.writeOne_busy {s : State} {m : Nat} (key : Nat) (x : Val) (hfull : s.commitsFull m = true) :
    s.writeOne m key x = (s, stBusy) := by
  simp [State.writeOne, hfull]

theorem State.commitStage_busy {s : State} {m : Nat} (word : Nat) (hfull : s.commitsFull m = true) :
    s.commitStage m word = s.commitRejected m (bits word 31 24) stBusy none := by
  simp [State.commitStage, hfull]

/-! ### A write of 1400:01 -/

theorem State.commitWord_abort {word : Nat} (s : State) (m : Nat) (h : bit word 0 = true) :
    s.commitWord m word = s.abortStage m word := by
  simp [State.commitWord, h]

theorem State.commitWord_commit {word : Nat} (s : State) (m : Nat) (h : bit word 0 = false) :
    s.commitWord m word = s.commitStage m word := by
  simp [State.commitWord, h]

/-- A commit of whole items that every check passes takes the stage set and is accepted. -/
theorem State.commitStage_accepted {s u : State} {m word sel : Nat} (hfull : s.commitsFull m = false)
    (hword : bits word 7 4 = sel) (hsel : sel ≤ 2) (hwhole : (s.masterAt m).stage.all (fun t => t.finished) = true)
    (hcheck : s.checkCommit sel (s.commitTarget m 2) (commitTime (s.commitTarget m 3))
      ((s.masterAt m).stage.map (fun t => (t.key, t.val))) = (u, none)) :
    s.commitStage m word =
      ((u.commitTaken m (bits word 31 24)).accept m false sel (s.commitTarget m 2) (commitTime (s.commitTarget m 3))
        ((s.masterAt m).stage.map (fun t => (t.key, t.val))), stOk) := by
  have hnone : (s.masterAt m).stage.find? (fun t => !t.finished) = none := by
    simpa [List.find?_eq_none] using hwhole
  simp [State.commitStage, hfull, hword, Nat.not_lt.mpr hsel, hnone, hcheck]

/-! ### A point that takes no item -/

theorem picked_eq_nil {l : List Pending} {pick : Pending → Todo → Bool} (h : ∀ p ∈ l, ∀ t ∈ p.todo, pick p t = false) :
    picked l pick = [] := by
  simpa [picked] using h

theorem Pending.rest_eq_self {p : Pending} {pick : Pending → Todo → Bool} (h : ∀ t ∈ p.todo, pick p t = false) :
    p.rest pick [] = p := by
  have hall : p.todo.filter (fun t => !pick p t) = p.todo := List.filter_eq_self.mpr (by simpa using h)
  simp [Pending.rest, hall]

/-- No commit is over while each has an item left. -/
theorem State.commitsDone_eq_self {s : State} (h : ∀ q ∈ s.oz.commits, q.todo ≠ []) : s.commitsDone = s := by
  have hdone : s.oz.commits.filter (fun p => p.todo.isEmpty) = [] := by simpa using h
  have hleft : s.oz.commits.filter (fun p => !p.todo.isEmpty) = s.oz.commits := List.filter_eq_self.mpr (by simpa using h)
  simp [State.commitsDone, hdone, hleft]

/-- A point that takes no item changes nothing while each pending commit has an item left. -/
theorem State.applyPoint_eq_self {s : State} {pick : Pending → Todo → Bool}
    (hpick : ∀ p ∈ s.oz.commits, ∀ t ∈ p.todo, pick p t = false) (hleft : ∀ q ∈ s.oz.commits, q.todo ≠ []) :
    s.applyPoint pick = s := by
  have hrest : s.oz.commits.map (fun p => p.rest pick []) = s.oz.commits := by
    simpa using List.map_congr_left (g := id) (fun p hp => Pending.rest_eq_self (hpick p hp))
  simp [State.applyPoint, State.takeItems, picked_eq_nil hpick, hrest, State.commitsDone_eq_self hleft, State.applyItems]

/-! ### An accepted time commit (Table 2.6a) -/

/-- Every item of a time commit waits for its time. -/
theorem State.atOnce_time (s : State) (c : ItemClass) : s.atOnce 2 c = false := by
  cases c <;> rfl

/-- The state with a time commit among the pending ones, last and with the next number; none of its items has applied. -/
def State.pendTime (s : State) (m : Nat) (policy : Bool) (frame time : Nat) (items : List (Nat × Val)) : State :=
  { s with oz := { s.oz with
      nextId := s.oz.nextId + 1
      commits := s.oz.commits ++ [{ id := s.oz.nextId, master := m, policy := policy, selector := 2, frame := frame
                                    time := time, todo := s.todoOf 2 items, superseded := false }] } }

@[simp] theorem State.pendTime_commits_length (s : State) (m : Nat) (policy : Bool) (frame time : Nat)
    (items : List (Nat × Val)) :
    (s.pendTime m policy frame time items).oz.commits.length = s.oz.commits.length + 1 := List.length_append

/-- Acceptance of a time commit puts it among the pending ones and does nothing else. -/
theorem State.accept_time {s : State} {items : List (Nat × Val)} (m : Nat) (policy : Bool) (frame time : Nat)
    (hleft : ∀ q ∈ s.oz.commits, q.todo ≠ []) (hitems : s.todoOf 2 items ≠ []) :
    s.accept m policy 2 frame time items = s.pendTime m policy frame time items := by
  unfold State.accept
  refine State.applyPoint_eq_self (fun p _ t _ => by simp [State.atOnce_time]) (fun q hq => ?_)
  rcases List.mem_append.mp hq with hq | hq
  · exact hleft q hq
  · rw [List.mem_singleton.mp hq]; exact hitems

/-! ### What an item concerns is no matter of the masters

`(rfl)` keeps these from being definitional rewrites: `simp` then proves the lemma about `classesOf` by congruence, where a
definitional proof would make the kernel unfold the whole chain of index ranges. -/

section

variable (s : State) (m n : Nat) (v : Val) (x : Master)

@[simp] theorem State.cst_masterPut : (s.masterPut m x).cst n = s.cst n := (rfl)
@[simp] theorem State.frmAt_masterPut : (s.masterPut m x).frmAt n = s.frmAt n := (rfl)
@[simp] theorem State.courseOfString_masterPut : (s.masterPut m x).courseOfString n = s.courseOfString n := (rfl)
@[simp] theorem State.courseOfLane_masterPut : (s.masterPut m x).courseOfLane n = s.courseOfLane n := (rfl)
@[simp] theorem State.spareCourse_masterPut : (s.masterPut m x).spareCourse n = s.spareCourse n := (rfl)
@[simp] theorem State.switchInCourse_masterPut : (s.masterPut m x).switchInCourse n v = s.switchInCourse n v := (rfl)
@[simp] theorem State.readers_masterPut : (s.masterPut m x).readers n = s.readers n := (rfl)
@[simp] theorem State.domainCourse_masterPut : (s.masterPut m x).domainCourse n = s.domainCourse n := (rfl)
@[simp] theorem State.pegClasses_masterPut : (s.masterPut m x).pegClasses v = s.pegClasses v := (rfl)

@[simp] theorem State.classesOf_masterPut : (s.masterPut m x).classesOf n v = s.classesOf n v := by
  simp [State.classesOf]

@[simp] theorem State.todoOf_masterPut (selector : Nat) (items : List (Nat × Val)) :
    (s.masterPut m x).todoOf selector items = s.todoOf selector items := by
  simp [State.todoOf]

end

/-! ### The stage set taken -/

@[simp] theorem State.commitTaken_commits (s : State) (m tag : Nat) : (s.commitTaken m tag).oz.commits = s.oz.commits := rfl

@[simp] theorem State.todoOf_commitTaken (s : State) (m tag selector : Nat) (items : List (Nat × Val)) :
    (s.commitTaken m tag).todoOf selector items = s.todoOf selector items := State.todoOf_masterPut ..

end Sys2Proof.Machine

namespace Sys2Proof.Proofs

open Sys2Proof Sys2Proof.Machine

/-! ### The limits, aborts and time commits -/

/-- R63, R69: an abort empties the stage set, and 1400:05 shows its tag with state 4. -/
theorem exec_abort_served {s : State} (m : MasterId) (word : BitVec 32) (hrun : s.ozRuns = true)
    (hserve : s.serves 0x1400 = true) :
    exec (.abort m word) s = .next ((s.masterPut m.val { s.masterAt m.val with
      stage := [], lastCommit := resultWord (bits word.toNat 31 24) 0 4, lastId := none }).answer
        0x02 (writeItem 0x04 0x1400 1 4) 0x00 []) := by
  rw [exec_abort, State.hostWrite_served _ hrun hserve]; rfl

theorem exec_commit_of_abort {s : State} {word : BitVec 32} (m : MasterId) (h : bit word.toNat 0 = true) :
    exec (.commit m word) s = exec (.abort m word) s := by
  simp only [exec_commit, exec_abort, State.commitWord_abort _ _ h]

/-- R64, R68, R69: a commit beyond the limits is refused, and the stage set is kept. -/
theorem exec_commit_busy {s : State} {m : MasterId} {word : BitVec 32} (hrun : s.ozRuns = true)
    (hserve : s.serves 0x1400 = true) (hword : bit word.toNat 0 = false) (hfull : s.commitsFull m.val = true) :
    exec (.commit m word) s = .next ((s.masterPut m.val { s.masterAt m.val with
      lastCommit := resultWord (bits word.toNat 31 24) 0x08 3, lastId := none }).answer
        0x02 (writeItem 0x04 0x1400 1 4) 0x08 []) := by
  rw [exec_commit, State.hostWrite_served _ hrun hserve, State.commitWord_commit _ _ hword,
    State.commitStage_busy _ hfull]
  rfl

/-- R43, R68: a WRITE of an RW or RP entry beyond the limits is refused. -/
theorem exec_write_busy {s : State} {m : MasterId} {it : Item} {r : Row} {v : List Byte} {x y : Val} {held : Bool}
    (hrun : s.ozRuns = true) (hrow : s.lookup it = .ok r) (hacc : accOf it.index r = .rw ∨ accOf it.index r = .rp)
    (hreset : s.oz.resetPending = false) (hval : itemValue it r v = .ok x) (hoff : it.offset = 0)
    (hwhole : s.wholeValue it.index it.sub r x = .ok (y, held))
    (hsticky : ¬ (0x3000 ≤ it.index ∧ it.index < 0x3060 ∧ it.sub = 0x22))
    (hpersist : ¬ (it.index = 0x7100 ∧ it.sub = 0x0A)) (hfull : s.commitsFull m.val = true) :
    exec (.write m it v) s = .next (s.answer 0x02 { it with final := false, type := codeOf r.ty } 0x08 []) := by
  have hentry : s.writeEntry m.val it r v = (s, stBusy) := by
    rw [State.writeEntry_direct _ hacc hval hoff hwhole, State.directWrite_writeOne _ _ _ hsticky hpersist,
      State.writeOne_busy _ _ hfull]
    rfl
  rw [exec_write, State.itemCommand_write _ _ hrun hrow, hentry, State.resetIfDue_of_not_pending (by simpa using hreset)]
  rfl

/-- R63 to R65, R69: a time commit within the limits whose items pass every check (`u` is the state with what the checks
show) joins the pending commits. -/
theorem exec_commit_time {s u : State} {m : MasterId} {word : BitVec 32} (hrun : s.ozRuns = true)
    (hserve : s.serves 0x1400 = true) (hword : bit word.toNat 0 = false) (hsel : bits word.toNat 7 4 = 2)
    (hfull : s.commitsFull m.val = false) (hwhole : (s.masterAt m.val).stage.all (fun t => t.finished) = true)
    (hcheck : s.checkCommit 2 (s.commitTarget m.val 2) (commitTime (s.commitTarget m.val 3))
      ((s.masterAt m.val).stage.map (fun t => (t.key, t.val))) = (u, none))
    (hleft : ∀ q ∈ u.oz.commits, q.todo ≠ [])
    (hitems : u.todoOf 2 ((s.masterAt m.val).stage.map (fun t => (t.key, t.val))) ≠ []) :
    exec (.commit m word) s = .next (((u.commitTaken m.val (bits word.toNat 31 24)).pendTime m.val false
      (s.commitTarget m.val 2) (commitTime (s.commitTarget m.val 3))
      ((s.masterAt m.val).stage.map (fun t => (t.key, t.val)))).answer 0x02 (writeItem 0x04 0x1400 1 4) 0x00 []) := by
  have htaken := State.commitStage_accepted hfull hsel Nat.le.refl hwhole hcheck
  rw [State.accept_time _ _ _ _ (by simpa using hleft) (by simpa using hitems)] at htaken
  rw [exec_commit, State.hostWrite_served _ hrun hserve, State.commitWord_commit _ _ hword, htaken]
  rfl

/-- Settles O11: an abort does not look at its stage set, the limits of R68 are met before the items are
checked, and a time commit applies nothing as it is accepted, so that it stays pending. -/
theorem abortedAndBusyCommits : Obligations.AbortedAndBusyCommits := by
  unfold Obligations.AbortedAndBusyCommits
  refine ⟨fun m word s hrun hserve => ?_, fun m word s hrun hserve hword hfull => ?_,
    fun m it r v x y held s hrun hrow hacc hreset hval hoff hwhole hsticky hpersist hfull => ?_,
    fun m word u s hrun hserve hword hsel hmaster hdevice hwhole hcheck hkept hleft hitems => ?_⟩
  · have habort := exec_abort_served m word hrun hserve
    exact ⟨habort, fun hword => (exec_commit_of_abort m hword).trans habort⟩
  · exact exec_commit_busy hrun hserve hword ((State.commitsFull_iff s m.val).mpr hfull)
  · exact exec_write_busy hrun hrow hacc hreset hval hoff hwhole hsticky hpersist ((State.commitsFull_iff s m.val).mpr hfull)
  · refine ⟨_, exec_commit_time hrun hserve hword hsel (State.commitsFull_eq_false hmaster hdevice) hwhole hcheck
      (by rwa [hkept]) hitems, ?_, rfl⟩
    rw [← hkept]
    exact State.pendTime_commits_length ..

end Sys2Proof.Proofs

/-! PROOF. The time base (R82 to R86): what the courses do leaves it as it is, an Announce, a timeout and a write of
1200:0D move it by its servo state. -/

namespace Sys2Proof.Machine

open Sys2Proof

/-! ### The time base as one view of the state -/

/-- What R79 to R88 speak of: the servo, the clocks and the entries of 1200. -/
def State.timeBase (s : State) : ServoSt × ClkSt × (Fin 256 → Val) := (s.servo, s.clk, fun b => s.val 0x1200 b)

theorem State.servo_of_timeBase {s t : State} (h : t.timeBase = s.timeBase) : t.servo = s.servo := congrArg Prod.fst h

theorem State.clk_of_timeBase {s t : State} (h : t.timeBase = s.timeBase) : t.clk = s.clk := congrArg (·.2.1) h

theorem State.nat_of_timeBase {s t : State} (h : t.timeBase = s.timeBase) (b : Fin 256) :
    t.nat 0x1200 b = s.nat 0x1200 b := by
  have hval : t.val 0x1200 b = s.val 0x1200 b := congrFun (congrArg (·.2.2) h) b
  simp only [State.nat, State.int, hval]

/-- What each step of a loop leaves, the loop leaves. -/
theorem State.each_proj {β : Type} (p : State → β) {f : State → Nat → State} (h : ∀ s k, p (f s k) = p s) (s : State)
    (l : List Nat) : p (s.each l f) = p s := by
  induction l generalizing s with
  | nil => rfl
  | cons k r ih => exact (ih (f s k)).trans (h s k)

section

variable (s : State) (b k n : Nat) (v : Val)

@[simp] theorem State.timeBase_ite (c : Prop) [Decidable c] (t : State) :
    (if c then s else t).timeBase = if c then s.timeBase else t.timeBase := apply_ite ..

/-- An entry of an index after 1200 is none of the time base's. -/
@[simp] theorem State.timeBase_put {i : Nat} (h : 0x1200 < i) : (s.put i b v).timeBase = s.timeBase := by
  have hkey (c : Fin 256) : dkey i b ≠ dkey 0x1200 c := by unfold dkey; omega
  exact Prod.ext rfl (Prod.ext rfl (funext fun c => State.val_put_ne _ _ _ _ _ _ (hkey c)))

@[simp] theorem State.timeBase_putN {i : Nat} (h : 0x1200 < i) : (s.putN i b n).timeBase = s.timeBase :=
  s.timeBase_put b _ h

@[simp] theorem State.timeBase_add64 {i : Nat} (h : 0x1200 < i) : (s.add64 i b n).timeBase = s.timeBase :=
  s.timeBase_putN b _ h

@[simp] theorem State.timeBase_setFlag {i : Nat} (h : 0x1200 < i) (on : Bool) :
    (s.setFlag i b n on).timeBase = s.timeBase := s.timeBase_putN b _ h

@[simp] theorem lt_crs : 0x1200 < crs k := by unfold crs; omega

/-! ### What the courses leave -/

@[simp] theorem State.timeBase_frmPut (x : FrameSt) : (s.frmPut k x).timeBase = s.timeBase := rfl
@[simp] theorem State.timeBase_plcPut (x : PlaceSt) : (s.plcPut k x).timeBase = s.timeBase := rfl
@[simp] theorem State.timeBase_ledgerPut (x : List LedgerRec) : (s.ledgerPut k x).timeBase = s.timeBase := rfl
@[simp] theorem State.timeBase_colPut (x : ColourSt) : (s.colPut k x).timeBase = s.timeBase := rfl
@[simp] theorem State.timeBase_runsPut (x : RunSt) : (s.runsPut k x).timeBase = s.timeBase := rfl
@[simp] theorem State.timeBase_fetPut (x : FetchSt) : (s.fetPut k x).timeBase = s.timeBase := rfl
@[simp] theorem State.timeBase_lanesPut (x : LaneSt) : (s.lanesPut k x).timeBase = s.timeBase := rfl
@[simp] theorem State.timeBase_accrue : s.accrue.timeBase = s.timeBase := rfl
@[simp] theorem State.timeBase_setArm (on : Bool) : (s.setArm k on).timeBase = s.timeBase := rfl
@[simp] theorem State.timeBase_realign : (s.realign k).timeBase = s.timeBase := rfl

@[simp] theorem State.timeBase_ledgerNote (r : LedgerRec) : (s.ledgerNote k r).timeBase = s.timeBase := by
  simp (disch := omega) [State.ledgerNote]

@[simp] theorem State.timeBase_hushNoted : (s.hushNoted k).timeBase = s.timeBase := by
  unfold State.hushNoted
  split <;> simp

@[simp] theorem State.timeBase_domainBit (on : Bool) : (s.domainBit k n on).timeBase = s.timeBase :=
  State.each_proj State.timeBase (fun s d => s.timeBase_setFlag 4 n (by omega) on) s _

@[simp] theorem State.timeBase_runStart : (s.runStart k).timeBase = s.timeBase := by
  simp [State.runStart]

@[simp] theorem State.timeBase_emptyPartition : (s.emptyPartition k).timeBase = s.timeBase := by
  simp (disch := omega) [State.emptyPartition]

@[simp] theorem State.timeBase_darkIfDone : s.darkIfDone.timeBase = s.timeBase := by
  simp [State.darkIfDone]

@[simp] theorem State.timeBase_setCst : (s.setCst k n).timeBase = s.timeBase := by
  simp [State.setCst]

@[simp] theorem State.timeBase_toHushed : (s.toHushed k).timeBase = s.timeBase := by
  simp [State.toHushed]

@[simp] theorem State.timeBase_queueControl (l rank type fields : Nat) :
    (s.queueControl l b rank type fields).timeBase = s.timeBase := rfl

@[simp] theorem State.timeBase_hushCopies (l cause epoch : Nat) : (s.hushCopies l b cause epoch).timeBase = s.timeBase :=
  State.each_proj State.timeBase (fun s _ => s.timeBase_queueControl ..) s _

@[simp] theorem State.timeBase_hushLane (cause l : Nat) : (s.hushLane b cause l).timeBase = s.timeBase := by
  simp [State.hushLane]

@[simp] theorem State.timeBase_hushCourse (cause : Nat) : (s.hushCourse k cause).timeBase = s.timeBase :=
  State.each_proj State.timeBase (fun s l => s.timeBase_hushLane _ cause l) s _

@[simp] theorem State.timeBase_hushIfSpinning : (s.hushIfSpinning k).timeBase = s.timeBase := by
  simp [State.hushIfSpinning]

@[simp] theorem State.timeBase_causeBit : (s.causeBit k b).timeBase = s.timeBase := by
  simp [State.causeBit]

/-- A hush cause, and the hush that it brings, leave the time base as it is. -/
@[simp] theorem State.timeBase_setCause : (s.setCause k b).timeBase = s.timeBase := by
  simp [State.setCause]

@[simp] theorem State.timeBase_expireRef (f : Nat → Bool) : (s.expireRef f).timeBase = s.timeBase :=
  State.each_proj State.timeBase (fun s k => by simp) s _

@[simp] theorem State.timeBase_expireSyncIn : s.expireSyncIn.timeBase = s.timeBase :=
  State.each_proj State.timeBase (fun s i => by simp (disch := omega)) s _

/-- The realignment of the PTP courses (R92) moves their frame schedules only. -/
@[simp] theorem State.timeBase_realignPtp : s.realignPtp.timeBase = s.timeBase :=
  State.each_proj State.timeBase (fun s k => by simp) s _

@[simp] theorem State.oz_realignPtp : s.realignPtp.oz = s.oz :=
  State.each_proj State.oz (fun s k => by split <;> rfl) s _

end

/-! ### The commands of this family -/

theorem exec_ptpAnnounce (port : PortId) (a : Announce) (s : State) :
    exec (.ptpAnnounce port a) s = execPtpAnnounce port a s := rfl

theorem exec_ptpDelayResponse (port : PortId) (delay : PtpDelayMessage) (s : State) :
    exec (.ptpDelayResponse port delay) s = execPtpDelayResponse port delay s := rfl

theorem exec_setTime (m : MasterId) (v : Nat) (s : State) :
    exec (.setTime m v) s = .next (s.hostWrite (writeItem 0x0C 0x1200 0x0D 10) (fun s => s.setTime (v % 2 ^ 80))) := rfl

/-! ### Entries and the servo -/

theorem State.int_putN_ne {i b j c : Nat} (s : State) (n : Nat) (h : dkey i b ≠ dkey j c) :
    (s.putN i b n).int j c = s.int j c := congrArg valInt (State.val_put_ne _ _ _ _ _ _ h)

theorem State.nat_putI_ne {i b j c : Nat} (s : State) (z : Int) (h : dkey i b ≠ dkey j c) :
    (s.putI i b z).nat j c = s.nat j c := congrArg (fun v => (valInt v).toNat) (State.val_put_ne _ _ _ _ _ _ h)

/-- A servo state that is entered changes 1200:03 and 1200:0C only. -/
theorem State.int_setServo_ne {i b : Nat} (s : State) (st : Nat) (hstate : dkey 0x1200 3 ≠ dkey i b)
    (helapsed : dkey 0x1200 0x0C ≠ dkey i b) : (s.setServo st).int i b = s.int i b := by
  rw [State.setServo, State.int_putN_ne _ _ hstate, State.int_putN_ne _ _ helapsed]

theorem State.nat_enterAcquiring_ne {i b : Nat} (s : State) (hstate : dkey 0x1200 3 ≠ dkey i b)
    (helapsed : dkey 0x1200 0x0C ≠ dkey i b) : s.enterAcquiring.nat i b = s.nat i b :=
  congrArg Int.toNat (s.int_setServo_ne svAcquiring hstate helapsed)

theorem State.int_enterAcquiring_ne {i b : Nat} (s : State) (hstate : dkey 0x1200 3 ≠ dkey i b)
    (helapsed : dkey 0x1200 0x0C ≠ dkey i b) : s.enterAcquiring.int i b = s.int i b :=
  s.int_setServo_ne svAcquiring hstate helapsed

theorem State.servoState_enterAcquiring (s : State) : s.enterAcquiring.nat 0x1200 3 = 1 :=
  State.nat_putN (s.putN 0x1200 0x0C s.holdElapsed) 0x1200 3 svAcquiring

theorem State.nat_bump_ne {i b j c : Nat} (s : State) (h : dkey i b ≠ dkey j c) : (s.bump i b).nat j c = s.nat j c :=
  State.nat_putN_ne _ _ _ _ _ _ h

theorem State.servoState_enterHoldover (s : State) (fromAcquiring : Bool) :
    (s.enterHoldover fromAcquiring).nat 0x1200 3 = 3 :=
  (State.nat_bump_ne (s.setServo svHoldover) (by decide)).trans (State.nat_putN ..)

theorem State.nat_enterHoldover_ne {i b : Nat} (s : State) (fromAcquiring : Bool) (hstate : dkey 0x1200 3 ≠ dkey i b)
    (helapsed : dkey 0x1200 0x0C ≠ dkey i b) (hcount : dkey 0x1200 0x11 ≠ dkey i b) :
    (s.enterHoldover fromAcquiring).nat i b = s.nat i b :=
  (State.nat_bump_ne (s.setServo svHoldover) hcount).trans
    (congrArg Int.toNat (s.int_setServo_ne svHoldover hstate helapsed))

/-! ### PTP messages (R83, R84) -/

theorem State.ptpTakes_iff (s : State) (port : PortId) (domain : Nat) (beyond : List PtpFeature) :
    s.ptpTakes port domain beyond = true ↔ s.flag 0x1201 1 port.val = true ∧ domain = s.nat 0x1201 3 ∧ beyond = [] := by
  simp [State.ptpTakes, and_assoc]

theorem State.ptpTakes_eq_false {s : State} {port : PortId} {domain : Nat} {beyond : List PtpFeature}
    (h : s.flag 0x1201 1 port.val = false ∨ domain ≠ s.nat 0x1201 3 ∨ beyond ≠ []) :
    s.ptpTakes port domain beyond = false := by
  rw [Bool.eq_false_iff, ne_eq, State.ptpTakes_iff]
  rintro ⟨hport, hdomain, hbeyond⟩
  simp [hport, hdomain, hbeyond] at h

/-- The entries that show the master selected (R84). -/
def State.showMaster (s : State) (f : Foreign) : State :=
  (((s.putN 0x1201 9 f.a.grandmaster).putN 0x1201 0x0A f.a.stepsRemoved).putN 0x1201 0x0B f.port).putI
    0x1200 0x0E f.a.utcOffset

theorem State.showMaster_shows (s : State) (f : Foreign) :
    (s.showMaster f).nat 0x1201 9 = f.a.grandmaster ∧ (s.showMaster f).nat 0x1201 0x0B = f.port ∧
      (s.showMaster f).int 0x1200 0x0E = f.a.utcOffset := by
  refine ⟨?_, ?_, State.int_putI ..⟩
  · rw [State.showMaster, State.nat_putI_ne _ _ (by decide), State.nat_putN_ne _ _ _ _ _ _ (by decide),
      State.nat_putN_ne _ _ _ _ _ _ (by decide), State.nat_putN]
  · rw [State.showMaster, State.nat_putI_ne _ _ (by decide), State.nat_putN]

theorem State.servoState_showMaster (s : State) (f : Foreign) : (s.showMaster f).servoState = s.servoState := by
  rw [State.servoState, State.showMaster, State.nat_putI_ne _ _ (by decide), State.nat_putN_ne _ _ _ _ _ _ (by decide),
    State.nat_putN_ne _ _ _ _ _ _ (by decide), State.nat_putN_ne _ _ _ _ _ _ (by decide), State.servoState]

/-- A master is selected where none was: what counted for another begins afresh (R88). -/
def State.newMaster (s : State) : State :=
  { s with servo := { s.servo with
      selected := true, expiredSyncs := 0, backRun := if s.servoState == svExpired then 0 else s.servo.backRun } }

theorem State.selectMaster_new {s : State} {f : Foreign} (hbest : bestMaster s.servo.foreign = some f)
    (hnew : s.servo.selected = false) :
    s.selectMaster =
      let t := (s.showMaster f).newMaster
      if t.servoState = svFree then t.enterAcquiring
      else if (t.servoState = svHoldover ∨ t.servoState = svExpired) ∧ t.servo.fromAcquiring = true then t.enterAcquiring
      else t := by
  unfold State.selectMaster
  rw [hbest, hnew]
  rfl

/-- Table 3.2: with a first master the servo leaves FREE for ACQUIRING. -/
theorem State.selectMaster_free {s : State} {f : Foreign} (hbest : bestMaster s.servo.foreign = some f)
    (hnew : s.servo.selected = false) (hfree : s.nat 0x1200 3 = 0) :
    s.selectMaster = (s.showMaster f).newMaster.enterAcquiring :=
  (State.selectMaster_new hbest hnew).trans (if_pos ((s.servoState_showMaster f).trans hfree))

/-- The state that has heard `a` on a port, and no other master. -/
def State.heardFirst (s : State) (port : PortId) (a : Announce) : State :=
  { s with servo := { s.servo with foreign := [{ port := port.val, a := a, heard := s.clk.up }] } }

theorem exec_ptpAnnounce_first {s : State} {port : PortId} {a : Announce}
    (htakes : s.ptpTakes port a.domain a.beyond = true) (hforeign : s.servo.foreign = []) :
    exec (.ptpAnnounce port a) s = .next (s.heardFirst port a).selectMaster := by
  rw [exec_ptpAnnounce, execPtpAnnounce, if_pos htakes, hforeign]
  rfl

theorem exec_ptpAnnounce_discarded {s : State} {port : PortId} {a : Announce}
    (htakes : s.ptpTakes port a.domain a.beyond = false) : exec (.ptpAnnounce port a) s = .next s := by
  simp [exec_ptpAnnounce, execPtpAnnounce, htakes]

theorem exec_ptpDelayResponse_discarded {s : State} {port : PortId} {delay : PtpDelayMessage}
    (h : s.ptpTakes port delay.domain delay.beyond = false ∨ s.nat 0x1201 0x0B ≠ port.val) :
    exec (.ptpDelayResponse port delay) s = .next s := by
  rcases h with h | h <;> simp [exec_ptpDelayResponse, execPtpDelayResponse, h]

/-! ### Timeouts (R86) -/

/-- No master is left, and no port is followed. -/
def State.mastersLost (s : State) : State :=
  ({ s with servo := { s.servo with foreign := [], selected := false } } : State).putN 0x1201 0x0B 0xFF

theorem State.servoState_mastersLost (s : State) : s.mastersLost.servoState = s.servoState :=
  State.nat_putN_ne _ _ _ _ _ _ (by decide)

/-- Table 3.2: from ACQUIRING and LOCKED, HOLDOVER; it keeps which of the two it was entered from. -/
theorem exec_announceReceiptTimeout_holdover {s : State} (h : s.nat 0x1200 3 = 1 ∨ s.nat 0x1200 3 = 2) :
    exec .announceReceiptTimeout s = .next (s.mastersLost.enterHoldover (s.nat 0x1200 3 == 1)) := by
  have hstate : s.mastersLost.servoState = s.nat 0x1200 3 := s.servoState_mastersLost
  change Host.Outcome.next (if s.mastersLost.servoState = svLocked then s.mastersLost.enterHoldover false
    else if s.mastersLost.servoState = svAcquiring then s.mastersLost.enterHoldover true else s.mastersLost) = _
  rcases h with h | h <;> rw [hstate, h] <;> rfl

/-- The servo in HOLDOVER EXPIRED; the Syncs of the master that is selected next count from 0 (R88). -/
def State.servoExpired (s : State) : State :=
  { s.putN 0x1200 3 svExpired with servo := { s.servo with expiredSyncs := 0 } }

theorem exec_holdoverExpired_due {s : State} (hstate : s.nat 0x1200 3 = 3)
    (hdue : s.servo.holdSince + s.nat 0x1200 6 * tS ≤ s.clk.up) :
    exec .holdoverExpired s =
      .next (s.servoExpired.expireRef (fun k => (s.putN 0x1200 3 svExpired).nat (refIx k) 1 == 0)).expireSyncIn :=
  congrArg (fun t : State => Host.Outcome.next t.expireSyncIn) (if_pos ⟨hstate, hdue⟩)

theorem exec_holdoverExpired_early {s : State} (hearly : s.clk.up < s.servo.holdSince + s.nat 0x1200 6 * tS) :
    exec .holdoverExpired s = .next s.expireSyncIn :=
  congrArg (fun t : State => Host.Outcome.next t.expireSyncIn) (if_neg fun h => absurd h.2 (Nat.not_le.mpr hearly))

/-! ### A write of 1200:0D (R82) -/

theorem State.clk_stepTai (s : State) (t : Nat) : (s.stepTai t).clk = { s.clk with tai := t } :=
  State.clk_of_timeBase (s := (s.setTai t).bump 0x1200 0x0F) (by simp [State.stepTai])

theorem State.nat_stepTai (s : State) (t : Nat) :
    (s.stepTai t).nat 0x1200 0x0F = min (s.nat 0x1200 0x0F + 1) 0xFFFFFFFF :=
  (State.nat_of_timeBase (by simp [State.stepTai]) 0x0F).trans (State.nat_bump (s.setTai t) 0x1200 0x0F)

theorem State.oz_stepTai (s : State) (t : Nat) : (s.stepTai t).oz = s.oz := by
  rw [State.stepTai, State.oz_realignPtp]
  rfl

theorem State.setTime_free {s : State} {t : Nat} (hns : t / 2 ^ 48 ≤ 999999999) (hfree : s.nat 0x1200 3 = 0) :
    s.setTime t = (s.stepTai (nsOfTime80 t * tNs), stOk) :=
  (if_neg (Nat.not_lt.mpr hns)).trans (if_pos hfree)

theorem State.setTime_not_free {s : State} {t : Nat} (hns : t / 2 ^ 48 ≤ 999999999) (hfree : s.nat 0x1200 3 ≠ 0) :
    s.setTime t = (s, stRejected) :=
  (if_neg (Nat.not_lt.mpr hns)).trans (if_neg hfree)

theorem State.setTime_beyond_second {s : State} {t : Nat} (hns : 999999999 < t / 2 ^ 48) : s.setTime t = (s, stRange) :=
  if_pos hns

@[simp] theorem State.clk_answer (s : State) (op : Nat) (it : Item) (status : Nat) (value : List Byte) :
    (s.answer op it status value).clk = s.clk := rfl

@[simp] theorem State.nat_answer (s : State) (op : Nat) (it : Item) (status : Nat) (value : List Byte) (i b : Nat) :
    (s.answer op it status value).nat i b = s.nat i b := rfl

@[simp] theorem State.answered_answer (s : State) (op : Nat) (it : Item) (status : Nat) (value : List Byte) :
    (s.answer op it status value).oz.answered = s.oz.answered ++ [(op, it, status, value)] := rfl

/-- The running service takes the time written as it stands and answers the write. -/
theorem exec_setTime_served {s : State} {v : Nat} (m : MasterId) (hv : v < 2 ^ 80) (hrun : s.ozRuns = true)
    (hserve : s.serves 0x1200 = true) :
    exec (.setTime m v) s =
      .next ((s.setTime v).1.answer 0x02 (writeItem 0x0C 0x1200 0x0D 10) (s.setTime v).2 []) := by
  rw [exec_setTime, State.hostWrite_served _ hrun hserve, Nat.mod_eq_of_lt hv]

end Sys2Proof.Machine

namespace Sys2Proof.Proofs

open Sys2Proof Sys2Proof.Machine

/-- R84: the first Announce selects its sender and starts acquisition. -/
theorem firstAnnounce_acquires {s : State} {port : PortId} {a : Announce}
    (htakes : s.ptpTakes port a.domain a.beyond = true) (hforeign : s.servo.foreign = [])
    (hnew : s.servo.selected = false) (hfree : s.nat 0x1200 3 = 0) :
    Completes (.ptpAnnounce port a) s (fun t =>
      t.servo.selected = true ∧ t.nat 0x1200 3 = 1 ∧ t.nat 0x1201 9 = a.grandmaster ∧ t.nat 0x1201 0x0B = port.val ∧
      t.int 0x1200 0x0E = a.utcOffset) := by
  have hselect := State.selectMaster_free (s := s.heardFirst port a) rfl hnew hfree
  obtain ⟨hgm, hport, hutc⟩ := (s.heardFirst port a).showMaster_shows { port := port.val, a := a, heard := s.clk.up }
  refine ⟨_, (exec_ptpAnnounce_first htakes hforeign).trans (congrArg _ hselect), rfl,
    State.servoState_enterAcquiring _, ?_, ?_, ?_⟩
  · exact (State.nat_enterAcquiring_ne _ (by decide) (by decide)).trans hgm
  · exact (State.nat_enterAcquiring_ne _ (by decide) (by decide)).trans hport
  · exact (State.int_enterAcquiring_ne _ (by decide) (by decide)).trans hutc

/-- R86: with the last master lost the servo holds its correction over. -/
theorem announceTimeout_entersHoldover {s : State} (h : s.nat 0x1200 3 = 1 ∨ s.nat 0x1200 3 = 2) :
    Completes .announceReceiptTimeout s (fun t =>
      t.nat 0x1200 3 = 3 ∧ t.servo.selected = false ∧ t.servo.foreign = [] ∧ t.nat 0x1201 0x0B = 0xFF ∧
      t.servo.fromAcquiring = (s.nat 0x1200 3 == 1) ∧ t.servo.c = s.servo.c) := by
  refine ⟨_, exec_announceReceiptTimeout_holdover h, State.servoState_enterHoldover .., rfl, rfl, ?_, rfl, rfl⟩
  exact (State.nat_enterHoldover_ne _ _ (by decide) (by decide) (by decide)).trans (State.nat_putN ..)

/-- R86: a HOLDOVER that has lasted its limit expires, with its correction kept. -/
theorem holdover_expires {s : State} (hstate : s.nat 0x1200 3 = 3)
    (hdue : s.servo.holdSince + s.nat 0x1200 6 * tS ≤ s.clk.up) :
    Completes .holdoverExpired s (fun t => t.nat 0x1200 3 = 4 ∧ t.servo.c = s.servo.c) := by
  have hkept (f : Nat → Bool) : (s.servoExpired.expireRef f).expireSyncIn.timeBase = s.servoExpired.timeBase := by simp
  refine ⟨_, exec_holdoverExpired_due hstate hdue, ?_, ?_⟩
  · exact (State.nat_of_timeBase (hkept _) 3).trans (State.nat_putN s 0x1200 3 svExpired)
  · rw [State.servo_of_timeBase (hkept _)]
    rfl

theorem holdover_stays {s : State} (hstate : s.nat 0x1200 3 = 3)
    (hearly : s.clk.up < s.servo.holdSince + s.nat 0x1200 6 * tS) :
    Completes .holdoverExpired s (fun t => t.nat 0x1200 3 = 3 ∧ t.servo = s.servo) := by
  refine ⟨_, exec_holdoverExpired_early hearly, ?_, State.servo_of_timeBase (by simp)⟩
  exact (State.nat_of_timeBase (by simp) 3).trans hstate

/-- R82: in FREE a write of the time steps the time base, and the step counts. -/
theorem setTime_steps {s : State} {v : Nat} (m : MasterId) (hv : v < 2 ^ 80) (hrun : s.ozRuns = true)
    (hserve : s.serves 0x1200 = true) (hns : v / 2 ^ 48 ≤ 999999999) (hfree : s.nat 0x1200 3 = 0) :
    Completes (.setTime m v) s (fun t =>
      t.clk = { s.clk with tai := nsOfTime80 v * tNs } ∧ t.nat 0x1200 0x0F = min (s.nat 0x1200 0x0F + 1) 0xFFFFFFFF ∧
      t.oz.answered = s.oz.answered ++ [(0x02, writeItem 0x0C 0x1200 0x0D 10, 0x00, [])]) := by
  have hexec := exec_setTime_served m hv hrun hserve
  rw [State.setTime_free hns hfree] at hexec
  refine ⟨_, hexec, ?_, ?_, ?_⟩
  · rw [State.clk_answer, State.clk_stepTai]
  · rw [State.nat_answer, State.nat_stepTai]
  · rw [State.answered_answer, State.oz_stepTai]
    rfl

/-- Settles O20: each command is its one effect on the servo or the clock, and what the courses do next (R92, F1)
leaves the time base as it is. -/
theorem timeBaseFollowsItsStates : Obligations.TimeBaseFollowsItsStates := by
  unfold Obligations.TimeBaseFollowsItsStates
  refine ⟨fun port a delay s hport => ⟨fun hdomain hbeyond hforeign hnew hfree => ?_, fun hslave => ?_,
      announceTimeout_entersHoldover, holdover_expires, holdover_stays⟩,
    fun port a peer domain beyond delay s => ⟨fun h => ?_, fun h => ?_⟩,
    fun m v s hv hrun hserve => ⟨setTime_steps m hv hrun hserve, fun hns hfree => ?_, fun hns => ?_⟩⟩
  · exact firstAnnounce_acquires ((s.ptpTakes_iff ..).mpr ⟨hport, hdomain, hbeyond⟩) hforeign hnew hfree
  · simp [exec_ptpDelayResponse, execPtpDelayResponse, (s.ptpTakes_iff ..).mpr ⟨hport, rfl, rfl⟩, hslave]
  · exact exec_ptpAnnounce_discarded (State.ptpTakes_eq_false h)
  · refine exec_ptpDelayResponse_discarded ?_
    rcases h with h | h | h | h
    · exact .inl (State.ptpTakes_eq_false (.inl h))
    · exact .inl (State.ptpTakes_eq_false (.inr (.inl h)))
    · exact .inl (State.ptpTakes_eq_false (.inr (.inr h)))
    · exact .inr h
  · rw [exec_setTime_served m hv hrun hserve, State.setTime_not_free hns hfree]
    rfl
  · rw [exec_setTime_served m hv hrun hserve, State.setTime_beyond_second hns]
    rfl

end Sys2Proof.Proofs

/-! PROOF. The memory service (R446 to R451): where a request's bytes lie, what its way to the channel and its checks
leave, and what a read, a write and a refused write answer. -/

namespace Sys2Proof.Machine

open Sys2Proof

/-! ### The cells of a span -/

/-- The key of the cell that an address of a class names (R437 to R442). -/
def MemSt.cellOf (m : MemSt) (cls : AddrClass) (a : Nat) : Nat := cellKey (m.loc cls a).1 (m.loc cls a).2

/-- One byte written in its cell. -/
def MemSt.writeCell (m : MemSt) (key : Nat) (b : Byte) : MemSt := { m with cells := memWrite m.cells key b }

@[simp] theorem MemSt.cellOf_writeCell (m : MemSt) (key : Nat) (b : Byte) (cls : AddrClass) (a : Nat) :
    (m.writeCell key b).cellOf cls a = m.cellOf cls a := rfl

theorem MemSt.memRead_writeCell (m : MemSt) (key c : Nat) (b : Byte) :
    memRead (m.writeCell key b).cells c = if key = c then b else memRead m.cells c := memRead_memWrite ..

@[simp] theorem MemSt.writeAt_nil (m : MemSt) (cls : AddrClass) (a : Nat) : m.writeAt cls a [] = m := rfl

theorem MemSt.writeAt_cons (m : MemSt) (cls : AddrClass) (a : Nat) (b : Byte) (d : List Byte) :
    m.writeAt cls a (b :: d) = (m.writeCell (m.cellOf cls a) b).writeAt cls (a + 1) d := rfl

@[simp] theorem MemSt.poison_writeAt (m : MemSt) (cls : AddrClass) (a : Nat) (d : List Byte) :
    (m.writeAt cls a d).poison = m.poison := rfl

/-- Bytes written one span after the other are written as one span. -/
theorem MemSt.writeAt_append (m : MemSt) (cls : AddrClass) (a : Nat) (d e : List Byte) :
    m.writeAt cls a (d ++ e) = (m.writeAt cls a d).writeAt cls (a + d.length) e := by
  induction d generalizing m a with
  | nil => rfl
  | cons b d ih =>
    rw [List.cons_append, writeAt_cons, writeAt_cons, ih, List.length_cons, Nat.add_assoc, Nat.add_comm 1]

/-- A span cut in two, at its end or before, is written as the two. -/
theorem MemSt.writeAt_take_drop (m : MemSt) (cls : AddrClass) (a k : Nat) (d : List Byte) :
    (m.writeAt cls a (d.take k)).writeAt cls (a + k) (d.drop k) = m.writeAt cls a d := by
  rcases Nat.le_total k d.length with hk | hk
  · have := m.writeAt_append cls a (d.take k) (d.drop k)
    rw [List.take_append_drop, List.length_take_of_le hk] at this
    exact this.symm
  · rw [List.take_of_length_le hk, List.drop_of_length_le hk, writeAt_nil]

theorem MemSt.cellOf_succ_add (m : MemSt) (cls : AddrClass) (a i : Nat) :
    m.cellOf cls (a + 1 + i) = m.cellOf cls (a + (i + 1)) := congrArg _ (Nat.succ_add_eq_add_succ a i)

/-- A cell that no address of the span names reads as before. -/
theorem MemSt.memRead_writeAt_other (m : MemSt) (cls : AddrClass) (a : Nat) (d : List Byte) {c : Nat}
    (h : ∀ i < d.length, c ≠ m.cellOf cls (a + i)) : memRead (m.writeAt cls a d).cells c = memRead m.cells c := by
  induction d generalizing m a with
  | nil => rfl
  | cons b d ih =>
    have hhead : m.cellOf cls a ≠ c := (h 0 (by simp)).symm
    have htail : ∀ i < d.length, c ≠ m.cellOf cls (a + 1 + i) := fun i hi => by
      rw [cellOf_succ_add]
      exact h (i + 1) (Nat.succ_lt_succ hi)
    rw [writeAt_cons, ih (m.writeCell ..) _ htail, memRead_writeCell, if_neg hhead]

/-- Where no two addresses of the span name one cell, each of its cells reads the byte written there. -/
theorem MemSt.memRead_writeAt_cellOf (m : MemSt) (cls : AddrClass) (a : Nat) (d : List Byte)
    (hinj : ∀ i j, i < d.length → j < d.length → m.cellOf cls (a + i) = m.cellOf cls (a + j) → i = j)
    {i : Nat} {b : Byte} (hb : d[i]? = some b) : memRead (m.writeAt cls a d).cells (m.cellOf cls (a + i)) = b := by
  induction d generalizing m a i with
  | nil => simp at hb
  | cons x d ih =>
    rw [writeAt_cons]
    cases i with
    | zero =>
      obtain rfl : x = b := by simpa using hb
      have hother : ∀ j < d.length, m.cellOf cls a ≠ m.cellOf cls (a + 1 + j) := fun j hj e => by
        rw [cellOf_succ_add] at e
        exact absurd (hinj 0 (j + 1) (by simp) (Nat.succ_lt_succ hj) e) (by simp)
      refine ((m.writeCell (m.cellOf cls a) x).memRead_writeAt_other cls (a + 1) d hother).trans ?_
      rw [memRead_writeCell, if_pos rfl]
    | succ i =>
      rw [← cellOf_succ_add]
      refine ih (m.writeCell (m.cellOf cls a) x) (a + 1) (fun p q hp hq e => ?_) (by simpa using hb)
      rw [cellOf_writeCell, cellOf_writeCell, cellOf_succ_add, cellOf_succ_add] at e
      exact Nat.succ_inj.mp (hinj _ _ (Nat.succ_lt_succ hp) (Nat.succ_lt_succ hq) e)

/-! ### What the way to a unit leaves -/

section

variable (s : State) (c unit q : Nat)

@[simp] theorem State.mem_ite (p : Prop) [Decidable p] (t : State) : (if p then s else t).mem = if p then s.mem else t.mem :=
  apply_ite ..

@[simp] theorem State.out_ite (p : Prop) [Decidable p] (t : State) : (if p then s else t).out = if p then s.out else t.out :=
  apply_ite ..

@[simp] theorem State.reserveCredit_fields : (s.reserveCredit q).mem = s.mem ∧ (s.reserveCredit q).out = s.out :=
  ⟨rfl, rfl⟩

@[simp] theorem State.useCredit_fields : (s.useCredit q).mem = s.mem ∧ (s.useCredit q).out = s.out := ⟨rfl, rfl⟩

@[simp] theorem State.rankWakes_fields (rank : Nat) :
    (s.rankWakes c rank).mem = s.mem ∧ (s.rankWakes c rank).out = s.out := by
  simp [State.rankWakes, State.setChan]

@[simp] theorem State.chanExits_fields : (s.chanExits c).mem = s.mem ∧ (s.chanExits c).out = s.out := by
  simp [State.chanExits, State.setChan]

@[simp] theorem State.reachChan_fields : (s.reachChan c unit).mem = s.mem ∧ (s.reachChan c unit).out = s.out := by
  simp [State.reachChan]

@[simp] theorem State.neighbourDraw_fields :
    (s.neighbourDraw c unit).mem = s.mem ∧ (s.neighbourDraw c unit).out = s.out := by
  simp [State.neighbourDraw]

@[simp] theorem State.cancelWriteBack_fields :
    (s.cancelWriteBack c unit).mem = s.mem ∧ (s.cancelWriteBack c unit).out = s.out := by
  simp [State.cancelWriteBack]

@[simp] theorem State.candidate_fields : (s.candidate c unit).mem = s.mem ∧ (s.candidate c unit).out = s.out := by
  simp [State.candidate]

@[simp] theorem State.logCritical_fields (source kind : Nat) :
    (s.logCritical source kind unit).mem = s.mem ∧ (s.logCritical source kind unit).out = s.out := ⟨rfl, rfl⟩

@[simp] theorem State.out_uncorrectable (port found : Nat) : (s.uncorrectable c unit port found).out = s.out := by
  simp [State.uncorrectable]

/-- A unit that is poisoned already stays so, and no other becomes so. -/
theorem State.mem_uncorrectable_of_poisoned {s : State} {c unit : Nat} (port found : Nat)
    (h : s.mem.poison.contains (unitKey c unit) = true) : (s.uncorrectable c unit port found).mem = s.mem := by
  simp only [State.uncorrectable, if_pos h]
  simp

end

/-! ### Units that are read -/

/-- A unit without poison and without erroneous bytes is read and nothing more. -/
theorem State.readUnit_clean {s : State} (cls : AddrClass) (a port found : Nat) (h : s.mem.poison = []) :
    s.readUnit cls a port found 0 = (s, false) := by
  simp [State.readUnit, State.checkUnit, h]

/-- R450: a poisoned unit is uncorrectable whatever its bytes hold. -/
theorem State.readUnit_poisoned {s : State} {cls : AddrClass} {a : Nat} (port found bad : Nat)
    (h : s.mem.poison.contains (s.mem.unitOf cls a) = true) :
    s.readUnit cls a port found bad = (s.uncorrectable (s.mem.loc cls a).1 ((s.mem.loc cls a).2 / 64) port found, true) :=
  if_pos h

/-- A span of units without poison and without erroneous bytes is read and nothing more. -/
theorem State.readSpan_clean {s : State} (cls : AddrClass) (port a len : Nat) (h : s.mem.poison = []) :
    s.readSpan cls port 0 a len = (s, false) := by
  unfold State.readSpan
  induction unitStarts a len with
  | nil => rfl
  | cons u l ih => simpa [State.readUnit_clean, h] using ih

/-! ### Units that are written -/

/-- R451: a whole unit is written whatever it held, and its poison clears. -/
theorem State.writePiece_whole (s : State) (cls : AddrClass) (port bad a : Nat) {d : List Byte} (h : d.length = 64) :
    (s.writePiece cls port bad a d).2 = false ∧ (s.writePiece cls port bad a d).1.out = s.out ∧
      (s.writePiece cls port bad a d).1.mem =
        { s.mem.writeAt cls a d with poison := s.mem.poison.filter (· != s.mem.unitOf cls a) } := by
  simp [State.writePiece, h, MemSt.unitOf]

/-- R447: a part of a poisoned unit is refused. -/
theorem State.writePiece_refused {s : State} {cls : AddrClass} {a : Nat} {d : List Byte} (port bad : Nat)
    (hpart : d.length < 64) (h : s.mem.poison.contains (s.mem.unitOf cls a) = true) :
    (s.writePiece cls port bad a d).2 = true ∧ (s.writePiece cls port bad a d).1.out = s.out ∧
      (s.writePiece cls port bad a d).1.mem = s.mem := by
  simp [State.writePiece, hpart.ne, State.readUnit_poisoned port 3 bad h, State.mem_uncorrectable_of_poisoned port 3 h]

/-- Without poison and erroneous bytes a piece is written, be it a whole unit or a part. -/
theorem State.writePiece_clean {s : State} (cls : AddrClass) (port a : Nat) (d : List Byte) (h : s.mem.poison = []) :
    (s.writePiece cls port 0 a d).2 = false ∧ (s.writePiece cls port 0 a d).1.out = s.out ∧
      (s.writePiece cls port 0 a d).1.mem = s.mem.writeAt cls a d := by
  by_cases hwhole : d.length = 64
  · obtain ⟨hans, hout, hmem⟩ := s.writePiece_whole cls port 0 a hwhole
    refine ⟨hans, hout, hmem.trans ?_⟩
    rw [h, List.filter_nil, ← h]
    rfl
  · simp [State.writePiece, hwhole, State.readUnit_clean cls a port 3 h]

theorem unitPieces_succ {d : List Byte} (n a : Nat) (h : d ≠ []) :
    unitPieces (n + 1) a d =
      (a, d.take (64 - a % 64)) :: unitPieces n (a + (64 - a % 64)) (d.drop (64 - a % 64)) := by
  simp [unitPieces, h]

/-- Bytes within one unit are one piece. -/
theorem unitPieces_of_unit {a : Nat} {d : List Byte} (n : Nat) (hne : d ≠ []) (h : a % 64 + d.length ≤ 64) :
    unitPieces (n + 2) a d = [(a, d)] := by
  have hlen : d.length ≤ 64 - a % 64 := by omega
  rw [unitPieces_succ _ _ hne, List.take_of_length_le hlen, List.drop_of_length_le hlen]
  rfl

theorem State.writeSpan_of_unit {s : State} {cls : AddrClass} {a : Nat} {d : List Byte} (port bad : Nat) (hne : d ≠ [])
    (h : a % 64 + d.length ≤ 64) : s.writeSpan cls port bad a d = s.writePiece cls port bad a d := by
  simp [State.writeSpan, unitPieces_of_unit _ hne h]

/-- Pieces that hold no erroneous bytes, written one after the other. -/
def State.writePieces (s : State) (cls : AddrClass) (port : Nat) (l : List (Nat × List Byte)) : State × Bool :=
  l.foldl (fun x p => ((x.1.writePiece cls port 0 p.1 p.2).1, x.2 || (x.1.writePiece cls port 0 p.1 p.2).2)) (s, false)

theorem State.writeSpan_eq_writePieces (s : State) (cls : AddrClass) (port a : Nat) (d : List Byte) :
    s.writeSpan cls port 0 a d = s.writePieces cls port (unitPieces (d.length / 64 + 2) a d) := by
  simp [State.writeSpan, State.writePieces]

/-- A piece that is not refused leaves the answer to those after it. -/
theorem State.writePieces_cons {s : State} {cls : AddrClass} {port a : Nat} {d : List Byte} (l : List (Nat × List Byte))
    (h : (s.writePiece cls port 0 a d).2 = false) :
    s.writePieces cls port ((a, d) :: l) = (s.writePiece cls port 0 a d).1.writePieces cls port l := by
  simp [State.writePieces, h]

/-- A span cut at the boundaries of units, into the `n` pieces or less that it has, is written whole. -/
theorem State.writePieces_unitPieces {s : State} (cls : AddrClass) (port n a : Nat) (d : List Byte)
    (h : s.mem.poison = []) (hn : a % 64 + d.length ≤ 64 * n) :
    (s.writePieces cls port (unitPieces n a d)).2 = false ∧ (s.writePieces cls port (unitPieces n a d)).1.out = s.out ∧
      (s.writePieces cls port (unitPieces n a d)).1.mem = s.mem.writeAt cls a d := by
  induction n generalizing s a d with
  | zero =>
    obtain rfl : d = [] := List.length_eq_zero_iff.mp (by omega)
    exact ⟨rfl, rfl, rfl⟩
  | succ n ih =>
    by_cases hd : d = []
    · subst hd
      exact ⟨rfl, rfl, rfl⟩
    · obtain ⟨hans, hout, hmem⟩ := State.writePiece_clean cls port a (d.take (64 - a % 64)) h
      have hrest : (a + (64 - a % 64)) % 64 + (d.drop (64 - a % 64)).length ≤ 64 * n := by
        rw [List.length_drop]
        omega
      obtain ⟨ians, iout, imem⟩ := ih (a + (64 - a % 64)) (d.drop (64 - a % 64))
        (by rw [hmem, MemSt.poison_writeAt, h]) hrest
      rw [unitPieces_succ n a hd, State.writePieces_cons _ hans]
      refine ⟨ians, iout.trans hout, imem.trans ?_⟩
      rw [hmem, MemSt.writeAt_take_drop]

/-- Without poison and erroneous bytes a span is written whole. -/
theorem State.writeSpan_clean {s : State} (cls : AddrClass) (port a : Nat) (d : List Byte) (h : s.mem.poison = []) :
    (s.writeSpan cls port 0 a d).2 = false ∧ (s.writeSpan cls port 0 a d).1.out = s.out ∧
      (s.writeSpan cls port 0 a d).1.mem = s.mem.writeAt cls a d := by
  rw [State.writeSpan_eq_writePieces]
  exact State.writePieces_unitPieces cls port _ a d h (by omega)

/-! ### Requests that are served -/

/-- The state in which a request finds its units: it has reached its channel, and a neighbour refresh may be due. -/
def State.arrived (s : State) (l : Nat × Nat) : State := (s.reachChan l.1 (l.2 / 64)).neighbourDraw l.1 (l.2 / 64)

@[simp] theorem State.arrived_fields (s : State) (l : Nat × Nat) :
    (s.arrived l).mem = s.mem ∧ (s.arrived l).out = s.out := by
  simp [State.arrived]

/-- A read answers what its span holds once the units are read. -/
theorem State.serve_read (s : State) (cls : AddrClass) (port a n bad : Nat) :
    let x := (s.arrived (s.mem.loc cls a)).readSpan cls port bad a n
    (s.serve ⟨port, cls, a, .read n, bad⟩).out =
        x.1.out ++ [.memory port x.2 (if x.2 then [] else x.1.mem.readAt cls a n)] ∧
      (s.serve ⟨port, cls, a, .read n, bad⟩).mem = x.1.mem := ⟨rfl, rfl⟩

/-- A write answers whether any of its units refused it. -/
theorem State.serve_write (s : State) (cls : AddrClass) (port a bad : Nat) (d : List Byte) :
    let x := (s.arrived (s.mem.loc cls a)).writeSpan cls port bad a d
    (s.serve ⟨port, cls, a, .write d, bad⟩).out = x.1.out ++ [.memory port x.2 []] ∧
      (s.serve ⟨port, cls, a, .write d, bad⟩).mem = x.1.mem := ⟨rfl, rfl⟩

theorem State.serve_read_clean {s : State} (cls : AddrClass) (port a n : Nat) (h : s.mem.poison = []) :
    (s.serve ⟨port, cls, a, .read n, 0⟩).out = s.out ++ [.memory port false (s.mem.readAt cls a n)] ∧
      (s.serve ⟨port, cls, a, .read n, 0⟩).mem = s.mem := by
  have hserve := s.serve_read cls port a n 0
  rw [State.readSpan_clean _ _ _ _ (by simpa using h)] at hserve
  simpa using hserve

theorem State.serve_write_clean {s : State} (cls : AddrClass) (port a : Nat) (d : List Byte) (h : s.mem.poison = []) :
    (s.serve ⟨port, cls, a, .write d, 0⟩).out = s.out ++ [.memory port false []] ∧
      (s.serve ⟨port, cls, a, .write d, 0⟩).mem = s.mem.writeAt cls a d := by
  have hserve := s.serve_write cls port a 0 d
  obtain ⟨hans, hout, hmem⟩ := State.writeSpan_clean (s := s.arrived (s.mem.loc cls a)) cls port a d (by simpa using h)
  simpa [hans, hout, hmem] using hserve

/-- A write of one poisoned unit in part is refused. -/
theorem State.serve_write_refused {s : State} {cls : AddrClass} {a : Nat} {d : List Byte} (port bad : Nat) (hne : d ≠ [])
    (hpart : d.length < 64) (hunit : a % 64 + d.length ≤ 64) (h : s.mem.poison.contains (s.mem.unitOf cls a) = true) :
    (s.serve ⟨port, cls, a, .write d, bad⟩).out = s.out ++ [.memory port true []] ∧
      (s.serve ⟨port, cls, a, .write d, bad⟩).mem = s.mem := by
  have hserve := s.serve_write cls port a bad d
  obtain ⟨hans, hout, hmem⟩ := State.writePiece_refused (s := s.arrived (s.mem.loc cls a)) (cls := cls) (a := a) port bad
    hpart (by simpa using h)
  rw [State.writeSpan_of_unit port bad hne hunit] at hserve
  simpa [hans, hout, hmem] using hserve

/-- A write of one whole unit is carried out, poisoned or not. -/
theorem State.serve_write_whole (s : State) (cls : AddrClass) {a : Nat} {d : List Byte} (port bad : Nat)
    (hlen : d.length = 64) (halign : a % 64 = 0) :
    (s.serve ⟨port, cls, a, .write d, bad⟩).out = s.out ++ [.memory port false []] ∧
      (s.serve ⟨port, cls, a, .write d, bad⟩).mem =
        { s.mem.writeAt cls a d with poison := s.mem.poison.filter (· != s.mem.unitOf cls a) } := by
  have hserve := s.serve_write cls port a bad d
  obtain ⟨hans, hout, hmem⟩ := (s.arrived (s.mem.loc cls a)).writePiece_whole cls port bad a hlen
  rw [State.writeSpan_of_unit port bad (List.ne_nil_of_length_pos (by omega)) (by omega)] at hserve
  simpa [hans, hout, hmem] using hserve

/-! ### The command -/

section

variable {port : Fin 42} {cls : AddrClass} {s : State} (a bad : Nat) (op : MemOp)

/-- R11, R438, R443: a request before training, of a class that its port may not name, or without a credit does nothing. -/
theorem exec_memoryRequest_not_issued
    (h : s.mem.chanMiB = 0 ∨ portClass port.val cls = false ∨ s.hasCredit (useMemory port.val) = false) :
    exec (.memoryRequest port cls a op bad) s = .next s := if_pos h

variable {a} (hmem : s.mem.chanMiB ≠ 0) (hclass : portClass port.val cls = true)
  (hcredit : s.hasCredit (useMemory port.val) = true)
include hmem hclass hcredit

/-- A request that is issued: it faults, is served or waits for REFCLK (R459). -/
theorem exec_memoryRequest_issued :
    exec (.memoryRequest port cls a op bad) s =
      if s.mem.classBytes cls < a + reqLen op then .fault .noSuchAddress
      else if s.clk.refclk then
        .next ((s.reserveCredit (useMemory port.val)).serve ⟨port.val, cls, a, op, bad⟩)
      else .next { s.reserveCredit (useMemory port.val) with mem := { s.mem with
        waiting := s.mem.waiting ++ [⟨port.val, cls, a, op, bad⟩] } } := by
  have hissued : ¬ (s.mem.chanMiB = 0 ∨ portClass port.val cls = false ∨ s.hasCredit (useMemory port.val) = false) := by
    simp [hmem, hclass, hcredit]
  refine (if_neg hissued).trans ?_
  simp [State.reqExists]

theorem exec_memoryRequest_beyond (h : s.mem.classBytes cls < a + reqLen op) :
    exec (.memoryRequest port cls a op bad) s = .fault .noSuchAddress := by
  rw [exec_memoryRequest_issued bad op hmem hclass hcredit, if_pos h]

variable (hfits : a + reqLen op ≤ s.mem.classBytes cls)
include hfits

theorem exec_memoryRequest_waits (hclk : s.clk.refclk = false) :
    exec (.memoryRequest port cls a op bad) s =
      .next { s.reserveCredit (useMemory port.val) with mem := { s.mem with
        waiting := s.mem.waiting ++ [⟨port.val, cls, a, op, bad⟩] } } := by
  rw [exec_memoryRequest_issued bad op hmem hclass hcredit, if_neg hfits.not_gt, if_neg (by simp [hclk])]

theorem exec_memoryRequest_served (hclk : s.clk.refclk = true) :
    exec (.memoryRequest port cls a op bad) s =
      .next ((s.reserveCredit (useMemory port.val)).serve ⟨port.val, cls, a, op, bad⟩) := by
  rw [exec_memoryRequest_issued bad op hmem hclass hcredit, if_neg hfits.not_gt, if_pos hclk]

end

end Sys2Proof.Machine

namespace Sys2Proof.Proofs

open Sys2Proof Sys2Proof.Machine

/-- 5000:1E shows the number of units poisoned at present (R451). -/
theorem poisonCount_shown (s : State) (m : Nat) : s.liveVal m 0x5000 0x1E = .num s.mem.poison.length := by
  simp [State.liveVal, State.view, State.viewMemory, vN]

/-- Settles O49: a request that is served reads or writes its span of cells unit by unit (`MemSt.readAt`,
`MemSt.writeAt`), and only the write of a part of a unit asks whether that unit is poisoned. -/
theorem memoryKeepsWhatIsWritten : Obligations.MemoryKeepsWhatIsWritten := by
  unfold Obligations.MemoryKeepsWhatIsWritten
  intro port cls a n bad d s
  refine ⟨fun h => ⟨exec_memoryRequest_not_issued a bad _ h, exec_memoryRequest_not_issued a bad _ h⟩,
    fun hmem hclass hcredit => ⟨exec_memoryRequest_beyond bad (.read n) hmem hclass hcredit,
      exec_memoryRequest_beyond bad (.write d) hmem hclass hcredit,
      exec_memoryRequest_waits bad (.read n) hmem hclass hcredit, fun hfits hclk hclean => ?_, fun hfits hclk => ?_⟩⟩
  · obtain ⟨hout, hkept⟩ := State.serve_read_clean (s := s.reserveCredit (useMemory port.val)) cls port.val a n hclean
    exact ⟨_, exec_memoryRequest_served 0 (.read n) hmem hclass hcredit hfits hclk, hout, congrArg MemSt.cells hkept⟩
  · have hserved := exec_memoryRequest_served 0 (.write d) hmem hclass hcredit hfits hclk
    refine ⟨fun hclean hinj => ?_, fun hne hpart hunit hpoison => ?_, fun hlen halign => ?_⟩
    · obtain ⟨hout, hwritten⟩ :=
        State.serve_write_clean (s := s.reserveCredit (useMemory port.val)) cls port.val a d hclean
      refine ⟨_, hserved, hout, fun i b hb => ?_, fun c hc => ?_⟩
      · rw [hwritten]
        exact s.mem.memRead_writeAt_cellOf cls a d hinj hb
      · rw [hwritten]
        exact s.mem.memRead_writeAt_other cls a d hc
    · obtain ⟨hout, hkept⟩ := State.serve_write_refused (s := s.reserveCredit (useMemory port.val)) port.val 0 hne hpart
        hunit hpoison
      exact ⟨_, hserved, hout, congrArg MemSt.cells hkept, congrArg MemSt.poison hkept⟩
    · obtain ⟨hout, hwritten⟩ :=
        (s.reserveCredit (useMemory port.val)).serve_write_whole cls port.val 0 hlen halign
      exact ⟨_, hserved, hout, congrArg MemSt.poison hwritten, poisonCount_shown _ 0⟩

end Sys2Proof.Proofs

/-! PROOF. The reset sources (R521 to R525): what START begins with is one predicate of the state, met by the state that a
reset gives its name to and kept by every entry that the reset then writes. -/

namespace Sys2Proof.Machine

open Sys2Proof

/-! ### Tables that are written entry by entry -/

/-- A key that no entry of a list names reads, once the list is written into a table, what it read before. -/
theorem tgetD_foldl_tput {α : Type} [DecidableEq α] {l : List (Nat × α)} {k : Nat} (dflt : Nat → α) (d : α)
    (h : ∀ p ∈ l, p.1 ≠ k) (t : Tab α) :
    tgetD (l.foldl (fun t p => tput t (dflt p.1) p.1 p.2) t) d k = tgetD t d k := by
  induction l generalizing t with
  | nil => rfl
  | cons p l ih =>
    obtain ⟨hp, hl⟩ := List.forall_mem_cons.mp h
    exact (ih hl _).trans (tgetD_tput_other t _ d p.2 hp)

/-! ### The store and the entries at a reset -/

@[simp] theorem State.image_storeAtReset (s : State) (loss : Bool) : (s.storeAtReset loss).image = s.store.image := by
  unfold State.storeAtReset storePowerOff
  split_ifs <;> rfl

/-- R45: a reset adds nothing to the writes that wait. -/
theorem State.storeWaiting_storeAtReset_subset (s : State) (loss : Bool) :
    storeWaiting (s.storeAtReset loss) ⊆ storeWaiting s.store := by
  unfold State.storeAtReset storePowerOff
  split_ifs
  · exact List.Subset.refl _
  · exact List.nil_subset _
  · exact List.Subset.refl _

/-- The store holds no value for an entry, neither in its image nor among the writes that wait. -/
def StoreSt.Lacks (st : StoreSt) (key : Nat) : Prop := (∀ p ∈ st.image, p.1 ≠ key) ∧ ∀ w ∈ storeWaiting st, w.key ≠ key

theorem StoreSt.Lacks.storeAtReset {s : State} {key : Nat} (h : s.store.Lacks key) (loss : Bool) :
    (s.storeAtReset loss).Lacks key :=
  ⟨by simpa using h.1, fun w hw => h.2 w (s.storeWaiting_storeAtReset_subset loss hw)⟩

/-- R40: an entry for which the store holds no value starts at its default. -/
theorem tgetD_storeEntries {st : StoreSt} {key : Nat} (h : st.Lacks key) (d : Val) :
    tgetD (storeEntries st) d key = d := by
  obtain ⟨himage, hwaiting⟩ := h
  refine tgetD_foldl_tput (fun key => dfltOf (key / 256) (key % 256)) d (fun p hp => ?_) []
  rcases List.mem_append.mp hp with hp | hp
  · exact himage p hp
  · obtain ⟨w, hw, rfl⟩ := List.mem_map.mp hp
    exact hwaiting w (List.mem_filter.mp hw).1

/-- The device state 4200:01 is none of the entries that a reset keeps (R40, R275, R523). -/
theorem State.deviceState_dictAtReset {s : State} {st : StoreSt} (cold loss : Bool) (h : st.Lacks (dkey 0x4200 1)) :
    tgetD (s.dictAtReset cold loss st) (dfltOf 0x4200 1) (dkey 0x4200 1) = .num 0 := by
  refine (tgetD_foldl_tput (fun key => dfltOf (key / 256) (key % 256)) _ (fun p hp => ?_) _).trans
    ((tgetD_storeEntries h _).trans rfl)
  rcases List.mem_append.mp hp with halways | hwarm
  · rcases List.mem_append.mp halways with hsafety | hcounts
    · have hkept : safetyKey p.1 = true := by
        cases cold
        · exact (List.mem_filter.mp hsafety).2
        · exact absurd hsafety List.not_mem_nil
      exact fun hkey => absurd (hkey ▸ hkept) (by decide)
    · simp only [List.mem_cons, List.not_mem_nil, or_false] at hcounts
      rcases hcounts with rfl | rfl | rfl <;> simp [dkey]
  · cases loss
    · rcases List.mem_cons.mp hwarm with rfl | hinput
      · simp [dkey]
      · simp only [List.mem_filterMap, List.mem_map] at hinput
        obtain ⟨key, ⟨x, -, rfl⟩, hfailed⟩ := hinput
        have hkey : p.1 = dkey (0x2820 + x) 2 := by
          split at hfailed
          · exact congrArg Prod.fst (Option.some.inj hfailed).symm
          · cases hfailed
        rw [hkey]
        unfold dkey
        omega
    · exact absurd hwarm List.not_mem_nil

/-! ### The state with which START begins -/

/-- A state `t` as a reset of a code of Table 15.2 makes it from `s`, whose answers to masters it keeps. -/
def State.ResetTo (s : State) (code : Nat) (t : State) : Prop :=
  t.oz.answered = s.oz.answered ∧
  t.dst = 0 ∧ t.pwr.cause = (if s.pwr.valid then code else min s.pwr.cause code) ∧
  t.pwr.step = (if code ≤ 2 ∨ s.pwr.valid = false then 0 else 1) ∧
  t.lanes = [] ∧ t.mir = [] ∧ t.slots = [] ∧ t.mem.cells = [] ∧ t.oz.masters = [] ∧ t.oz.commits = [] ∧
  t.clk.slotRun = false ∧ t.capo.emitOk = 0 ∧ t.capo.shutLatch = (if code = 1 then false else s.capo.shutLatch) ∧
  t.pending = s.pending

section

variable {s t : State} {code i b : Nat}

/-- An entry other than the device state may be written. -/
theorem State.ResetTo.put (h : s.ResetTo code t) (v : Val) (hkey : dkey i b ≠ dkey 0x4200 1) :
    s.ResetTo code (t.put i b v) := by
  have hdst : (t.put i b v).dst = t.dst :=
    congrArg (fun v => (valInt v).toNat) (State.val_put_ne _ _ _ _ _ v hkey)
  simpa [State.ResetTo, hdst] using h

theorem State.ResetTo.putRP (h : s.ResetTo code t) (v : Val) (hkey : dkey i b ≠ dkey 0x4200 1) :
    s.ResetTo code (t.putRP i b v) := by
  unfold State.putRP
  split_ifs
  · exact h
  · exact h
  · exact h.put v hkey

/-- What every step of a loop keeps, the loop keeps. -/
theorem State.ResetTo.each (h : s.ResetTo code t) {f : State → Nat → State} (l : List Nat)
    (hf : ∀ u k, s.ResetTo code u → s.ResetTo code (f u k)) : s.ResetTo code (t.each l f) := by
  induction l generalizing t with
  | nil => exact h
  | cons k l ih => exact ih (hf t k h)

end

/-- R523: the capo's pins fall with every reset; its shut-down latch is cleared by code 1 only. -/
theorem CapoSt.atReset_pins (c : CapoSt) (cold : Bool) (now : Nat) :
    (c.atReset cold now).emitOk = 0 ∧ (c.atReset cold now).shutLatch = if cold then false else c.shutLatch := by
  cases cold <;> exact ⟨rfl, rfl⟩

/-- R521 to R525: a reset of any code begins START. -/
theorem State.resetTo_deviceReset {s : State} (code : Nat) (h : s.store.Lacks (dkey 0x4200 1)) :
    s.ResetTo code (s.deviceReset code) := by
  unfold State.deviceReset
  extract_lets cold loss held st s1 s2
  obtain ⟨hemit, hlatch⟩ := s.capo.atReset_pins cold s.clk.up
  have h1 : s.ResetTo code s1 := by
    have hdst : s1.dst = 0 :=
      congrArg (fun v => (valInt v).toNat) (s.deviceState_dictAtReset cold loss (h.storeAtReset loss))
    have hstep : s1.pwr.step = if code ≤ 2 ∨ s.pwr.valid = false then 0 else 1 := by simp [s1, held, loss]
    have hshut : s1.capo.shutLatch = if code = 1 then false else s.capo.shutLatch := hlatch.trans (by simp [cold])
    exact ⟨rfl, hdst, rfl, hstep, rfl, rfl, rfl, rfl, rfl, rfl, rfl, hemit, hshut, rfl⟩
  have h2 : s.ResetTo code s2 :=
    iteInduction (fun _ => h1.put _ (by decide)) (fun _ => h1.each allCourses (fun _ _ hu => hu))
  refine iteInduction (fun _ => h2) (fun _ => ?_)
  have h3 : s.ResetTo code (s2.each (s2.pwr.low.map (·.1)) (fun s r => s.setFlag 0x4200 5 r true)) :=
    h2.each _ (fun _ _ hu => hu.put _ (by decide))
  exact iteInduction (fun _ => h3) (fun _ => h3.putRP _ (by decide))

/-! ### The commands of this family -/

section

variable (s : State)

theorem exec_railReset (rail : Fin 11) :
    exec (.railReset rail) s = .next (s.deviceReset (if rail.val = 10 then 1 else 2)) := rfl

theorem exec_rstNReset : exec .rstNReset s = .next (s.deviceReset 3) := rfl

theorem exec_devreset : exec .devreset s = .next (s.deviceReset 6) := rfl

theorem exec_restartWatchdogReset :
    exec .restartWatchdogReset s = .next (if s.fw.restarting then s.deviceReset 5 else s) := rfl

end

/-- R525: what a served write of 4200:08 does, by the value written. -/
theorem exec_deviceResetCommand_served {s : State} (m : MasterId) (v : BitVec 16) (hrun : s.ozRuns = true)
    (hserve : s.serves 0x4200 = true) :
    exec (.deviceResetCommand m v) s = .next (
      if v = 0xA5C3 then (s.answer 0x02 (writeItem 0x03 0x4200 8 2) 0x00 []).deviceReset 4
      else s.answer 0x02 (writeItem 0x03 0x4200 8 2) 0x05 []) := by
  have hexec : exec (.deviceResetCommand m v) s = execDeviceResetCommand m v s := rfl
  rw [hexec, execDeviceResetCommand, if_neg (by simp [hrun]), if_neg (by simp [hserve])]
  rfl

end Sys2Proof.Machine

namespace Sys2Proof.Proofs

open Sys2Proof Sys2Proof.Machine

/-- Settles O56: each source is `State.deviceReset` with its own code, and `State.resetTo_deviceReset` holds of every code. -/
theorem everySourceResetsTheDevice : Obligations.EverySourceResetsTheDevice := by
  unfold Obligations.EverySourceResetsTheDevice
  intro rail m v s himage hwaiting
  have hlacks : s.store.Lacks (dkey 0x4200 1) := ⟨himage, hwaiting⟩
  have hreset (code : Nat) : s.ResetTo code (s.deviceReset code) := State.resetTo_deviceReset code hlacks
  refine ⟨⟨_, exec_railReset s 10, (hreset 1).2⟩, fun hrail => ⟨_, ?_, (hreset 2).2⟩, ⟨_, exec_rstNReset s, (hreset 3).2⟩,
    ⟨_, exec_devreset s, (hreset 6).2⟩, fun hrestart => ⟨_, ?_, (hreset 5).2⟩, fun hrestart => ?_,
    fun hrun hserve => ⟨?_, fun hv => ?_⟩⟩
  · rw [exec_railReset, if_neg hrail]
  · rw [exec_restartWatchdogReset, if_pos hrestart]
  · rw [exec_restartWatchdogReset, if_neg (by simp [hrestart])]
  · obtain ⟨hanswered, hstart⟩ :=
      State.resetTo_deviceReset (s := s.answer 0x02 (writeItem 0x03 0x4200 8 2) 0x00 []) 4 hlacks
    exact ⟨_, (exec_deviceResetCommand_served m 0xA5C3 hrun hserve).trans (congrArg _ (if_pos rfl)), hstart, hanswered⟩
  · rw [exec_deviceResetCommand_served m v hrun hserve, if_neg hv]

end Sys2Proof.Proofs

/-! PROOF. Every command (R375, R438, R534): what all but a few keep, and that all but a memory request answer. -/

namespace Sys2Proof

/-- A command that sets what the capo class is made of, or blows a fuse (R375, R393, R534). -/
def Instr.setsClass : Instr → Bool
  | .vaonValid _ | .railReset _ | .fuseprog _ => true
  | _ => false

/-- A request for memory, which may fault (R438). -/
def Instr.asksMemory : Instr → Bool
  | .memoryRequest .. => true
  | _ => false

end Sys2Proof

namespace Sys2Proof.Machine

open Sys2Proof

/-! ### The commands that loop, check memory or reset -/

section

variable (s : State)

theorem State.ite_kw {c : Prop} [Decidable c] {t u : State} (ht : s.KeepsWf t) (hu : s.KeepsWf u) :
    s.KeepsWf (if c then t else u) := iteInduction (fun _ => ht) (fun _ => hu)

theorem State.deviceReset_kw {code : Nat} (h : code ≠ 1) : s.KeepsWf (s.deviceReset code) :=
  ⟨s.deviceReset_warm code h, fun _ => s.deviceReset_wf code⟩

theorem exec_heartbeat_kw : Completes .heartbeat s s.KeepsWf := by
  refine ⟨_, rfl, State.ite_kw s (by simp) (State.ite_kw s (by simp) ?_)⟩
  refine State.KeepsMem.kw (State.foldl_from (by simp) _ _ fun s p => ?_)
  split <;> simp

theorem exec_refclkLoss_kw : Completes .refclkLoss s s.KeepsWf := by
  refine ⟨_, rfl, State.ite_kw s ?_ (by simp)⟩
  dsimp only
  refine State.KeepsMem.kw (State.each_from (by simp) _ _ fun s k => ?_)
  split <;> simp

theorem exec_quadPllLoss_kw (q : Fin 68) : Completes (.quadPllLoss q) s s.KeepsWf := by
  refine ⟨_, rfl, State.KeepsMem.kw (State.each_from (by simp) _ _ fun s l => ?_)⟩
  split <;> simp

theorem exec_loopRefclkHoldExpired_kw : Completes .loopRefclkHoldExpired s s.KeepsWf := by
  refine ⟨_, rfl, State.ite_kw s (by simp) (State.KeepsMem.kw (State.each_from (by simp) _ _ fun s k => ?_))⟩
  split <;> simp

theorem exec_interlockTrip_kw : Completes .interlockTrip s s.KeepsWf := by
  refine ⟨_, rfl, State.ite_kw s (State.KeepsMem.kw (State.KeepsMem.trans (State.each_from (by simp) _ _ fun s k => ?_)
    (State.leaveLit_keeps _))) (by simp)⟩
  split <;> simp

theorem exec_commit_kw (m : MasterId) (word : BitVec 32) : Completes (.commit m word) s s.KeepsWf :=
  ⟨_, rfl, s.hostWrite_kw _ _ ⟨by simp, fun hw => by simp [hw]⟩⟩

theorem exec_scrubRead_kw (c : ChannelId) (bad : Nat) : Completes (.scrubRead c bad) s s.KeepsWf := by
  obtain ⟨hkeeps, hwf⟩ := s.checkUnit_kw c.val (s.chansAt c.val).scrub 41 2 bad
  refine ⟨_, rfl, ?_⟩
  dsimp only
  (repeat' split) <;> exact ⟨by simp [hkeeps], fun hw => by simp [hw, hwf]⟩

theorem exec_deviceResetCommand_kw (m : MasterId) (v : BitVec 16) : Completes (.deviceResetCommand m v) s s.KeepsWf :=
  ⟨_, rfl, State.ite_kw s (by simp) (State.ite_kw s (by simp) (State.ite_kw s
    (State.KeepsWf.trans (b := s.answer 0x02 (writeItem 0x03 0x4200 8 2) stOk []) (by simp) (State.deviceReset_kw _ (by decide)))
    (by simp)))⟩

end

/-- Every other command answers a next state; it keeps the queue, the time counted, what the capo class is made of and the
canonical form of memory. -/
theorem exec_kw (c : Instr) (s : State) (hclass : c.setsClass = false) (hmem : c.asksMemory = false) :
    Completes c s s.KeepsWf := by
  cases c
  case heartbeat => exact exec_heartbeat_kw s
  case refclkLoss => exact exec_refclkLoss_kw s
  case quadPllLoss q => exact exec_quadPllLoss_kw s q
  case loopRefclkHoldExpired => exact exec_loopRefclkHoldExpired_kw s
  case interlockTrip => exact exec_interlockTrip_kw s
  case commit m word => exact exec_commit_kw s m word
  case scrubRead c bad => exact exec_scrubRead_kw s c bad
  case deviceResetCommand m v => exact exec_deviceResetCommand_kw s m v
  case rstNReset => exact ⟨_, rfl, s.deviceReset_kw (by decide)⟩
  case devreset => exact ⟨_, rfl, s.deviceReset_kw (by decide)⟩
  case restartWatchdogReset => exact ⟨_, rfl, State.ite_kw s (s.deviceReset_kw (by decide)) (by simp)⟩
  case vaonValid | railReset | fuseprog => simp [Instr.setsClass] at hclass
  case memoryRequest => simp [Instr.asksMemory] at hmem
  all_goals
    refine ⟨_, rfl, ?_⟩
    clear hclass hmem
    try dsimp only
    (repeat' split) <;> exact ⟨by simp, fun hw => by simp [hw]⟩

end Sys2Proof.Machine

namespace Sys2Proof

theorem Instr.setsClass_iff (c : Instr) : c.setsClass = true ↔
    (∃ sel, c = .vaonValid sel) ∨ (∃ rail, c = .railReset rail) ∨ ∃ mask, c = .fuseprog mask := by
  cases c <;> simp [Instr.setsClass]

theorem Instr.asksMemory_iff (c : Instr) : c.asksMemory = true ↔
    ∃ port cls addr op bad, c = .memoryRequest port cls addr op bad := by
  cases c <;> simp [Instr.asksMemory]

end Sys2Proof

namespace Sys2Proof.Machine

open Sys2Proof

section

variable (s : State)

/-! ### The commands left out above -/

theorem exec_vaonValid_kept (sel : BitVec 3) : Completes (.vaonValid sel) s (fun t =>
    t.pending = s.pending ∧ t.clk.up = s.clk.up ∧ t.capo.blown = s.capo.blown ∧ t.mem.cells = s.mem.cells) := by
  refine ⟨_, rfl, ?_⟩
  split <;> simp

/-- R375, R393: a reset but that of the always-on rail keeps what the class is made of. -/
theorem exec_railReset_kept (rail : Fin 11) : Completes (.railReset rail) s (fun t =>
    t.pending = s.pending ∧ t.clk.up = s.clk.up ∧ t.capo.blown = s.capo.blown ∧ Memory.wf t.mem.cells = true ∧
      (rail ≠ 10 → s.Keeps t)) := by
  obtain ⟨hpending, hup, hblown⟩ := s.deviceReset_queue (if rail.val = 10 then 1 else 2)
  refine ⟨_, rfl, hpending, hup, hblown, s.deviceReset_wf _, fun hrail => s.deviceReset_warm _ ?_⟩
  rw [if_neg (by simpa [Fin.ext_iff] using hrail)]
  decide

/-- R534: FUSEPROG blows fuses, which the class in force sees at the next VAON only. -/
theorem exec_fuseprog_kept (mask : BitVec 3) : Completes (.fuseprog mask) s (fun t =>
    t.pending = s.pending ∧ t.clk.up = s.clk.up ∧ t.capo.sel = s.capo.sel ∧ t.capo.blownSeen = s.capo.blownSeen ∧
      t.mem.cells = s.mem.cells) := by
  refine ⟨_, rfl, ?_⟩
  split <;> simp

variable (port : Fin 42) (cls : AddrClass) (a : Nat) (op : MemOp) (bad : Nat)

/-- A request for memory faults beyond its region, and else it waits, is served or is not issued (R11, R438, R459). -/
theorem exec_memoryRequest_kw : exec (.memoryRequest port cls a op bad) s = .fault .noSuchAddress ∧
      s.mem.classBytes cls < a + reqLen op ∨
    Completes (.memoryRequest port cls a op bad) s s.KeepsWf := by
  by_cases hissued : s.mem.chanMiB = 0 ∨ portClass port.val cls = false ∨ s.hasCredit (useMemory port.val) = false
  · exact .inr ⟨s, exec_memoryRequest_not_issued a bad op hissued, by simp⟩
  · simp only [not_or, Bool.not_eq_false] at hissued
    obtain ⟨hmem, hclass, hcredit⟩ := hissued
    rcases Nat.lt_or_ge (s.mem.classBytes cls) (a + reqLen op) with hbeyond | hfits
    · exact .inl ⟨exec_memoryRequest_beyond bad op hmem hclass hcredit hbeyond, hbeyond⟩
    · cases hclk : s.clk.refclk
      · exact .inr ⟨_, exec_memoryRequest_waits bad op hmem hclass hcredit hfits hclk, by simp⟩
      · exact .inr ⟨_, exec_memoryRequest_served bad op hmem hclass hcredit hfits hclk, by simp, fun hw => by simp [hw]⟩

end

/-! ### What a command that has answered kept -/

variable {c : Instr} {s t : State}

theorem Completes.of_exec {P : State → Prop} (h : Completes c s P) (hexec : exec c s = .next t) : P t := by
  obtain ⟨u, hu, hP⟩ := h
  cases hu.symm.trans hexec
  exact hP

/-- A memory request that answers keeps what every other command keeps. -/
theorem exec_asksMemory_kw (hmem : c.asksMemory = true) (hexec : exec c s = .next t) : s.KeepsWf t := by
  obtain ⟨port, cls, a, op, bad, rfl⟩ := (Instr.asksMemory_iff c).mp hmem
  rcases exec_memoryRequest_kw s port cls a op bad with ⟨hfault, -⟩ | hkept
  · simp [hfault] at hexec
  · exact hkept.of_exec hexec

/-- A command keeps memory canonical. -/
theorem exec_inv (hexec : exec c s = .next t) (hinv : s.Inv) : t.Inv := by
  unfold State.Inv at *
  cases hclass : c.setsClass
  case true =>
    obtain ⟨sel, rfl⟩ | ⟨rail, rfl⟩ | ⟨mask, rfl⟩ := (Instr.setsClass_iff c).mp hclass
    · obtain ⟨-, -, -, hcells⟩ := (exec_vaonValid_kept s sel).of_exec hexec
      rwa [hcells]
    · obtain ⟨-, -, -, hwf, -⟩ := (exec_railReset_kept s rail).of_exec hexec
      exact hwf
    · obtain ⟨-, -, -, -, hcells⟩ := (exec_fuseprog_kept s mask).of_exec hexec
      rwa [hcells]
  case false =>
    cases hmem : c.asksMemory
    case true => exact (exec_asksMemory_kw hmem hexec).2 hinv
    case false => exact ((exec_kw c s hclass hmem).of_exec hexec).2 hinv

/-- Any command but a memory request answers, with the queue and the time counted as they were. -/
theorem exec_answers (c : Instr) (s : State) (hmem : c.asksMemory = false) :
    Completes c s (fun t => t.pending = s.pending ∧ t.clk.up = s.clk.up) := by
  cases hclass : c.setsClass
  case true =>
    obtain ⟨sel, rfl⟩ | ⟨rail, rfl⟩ | ⟨mask, rfl⟩ := (Instr.setsClass_iff c).mp hclass
    · obtain ⟨t, ht, hpending, hup, -⟩ := exec_vaonValid_kept s sel
      exact ⟨t, ht, hpending, hup⟩
    · obtain ⟨t, ht, hpending, hup, -⟩ := exec_railReset_kept s rail
      exact ⟨t, ht, hpending, hup⟩
    · obtain ⟨t, ht, hpending, hup, -⟩ := exec_fuseprog_kept s mask
      exact ⟨t, ht, hpending, hup⟩
  case false =>
    obtain ⟨t, ht, ⟨hpending, hup, -⟩, -⟩ := exec_kw c s hclass hmem
    exact ⟨t, ht, hpending, hup⟩

/-- A command that does not set the class keeps what it is made of, and the fuses blown. -/
theorem exec_keeps (hclass : c.setsClass = false) (hexec : exec c s = .next t) : s.Keeps t := by
  cases hmem : c.asksMemory
  case true => exact (exec_asksMemory_kw hmem hexec).1
  case false => exact ((exec_kw c s hclass hmem).of_exec hexec).1

theorem State.classInForce_congr (hsel : t.capo.sel = s.capo.sel) (hseen : t.capo.blownSeen = s.capo.blownSeen) :
    t.capo.sel = s.capo.sel ∧ t.capo.blownSeen = s.capo.blownSeen ∧ t.classInForce = s.classInForce :=
  ⟨hsel, hseen, by simp only [State.classInForce, hsel, hseen]⟩

end Sys2Proof.Machine

namespace Sys2Proof.Proofs

open Sys2Proof Sys2Proof.Machine

/-- Settles O1: the front of the queue is what a step takes. -/
theorem stepRunsFrontCommand : Obligations.StepRunsFrontCommand := by
  unfold Obligations.StepRunsFrontCommand
  intro c s
  rfl

/-- Settles O3: no byte is written at reset. -/
theorem resetMeetsInvariant : Obligations.ResetMeetsInvariant := by
  unfold Obligations.ResetMeetsInvariant
  exact ⟨nil_wf, rfl⟩

/-- Settles O4: a slot that passes keeps memory canonical, and so does a command. -/
theorem stepKeepsMemoryCanonical : Obligations.StepKeepsMemoryCanonical := by
  unfold Obligations.StepKeepsMemoryCanonical
  intro s t hinv hstep
  unfold step at hstep
  split at hstep
  · rw [← Host.Outcome.next.inj hstep]
    exact s.tick_kw.2 hinv
  · exact exec_inv hstep hinv

/-- Settles O5: each command is its one next state, but for a memory request beyond its region. -/
theorem everyCommandAnswers : Obligations.EveryCommandAnswers := by
  unfold Obligations.EveryCommandAnswers
  refine fun c s => ⟨fun hother => exec_answers c s ?_, ?_⟩
  · rw [Bool.eq_false_iff, ne_eq, Instr.asksMemory_iff]
    rintro ⟨port, cls, addr, op, bad, rfl⟩
    exact hother port cls addr op bad rfl
  · rintro port cls addr op bad rfl
    refine ⟨fun hexists => ?_, fun hbeyond hmem hport hcredit => exec_memoryRequest_beyond bad op hmem hport hcredit hbeyond⟩
    rcases exec_memoryRequest_kw s port cls addr op bad with ⟨-, hbeyond⟩ | ⟨t, ht, ⟨hpending, hup, -⟩, -⟩
    · exact absurd hbeyond hexists.not_gt
    · exact ⟨t, ht, hpending, hup⟩

/-- Settles O6: of the commands that set the class a reset of another rail keeps it, and FUSEPROG does not reach the fuses
seen. -/
theorem onlyPowerChangesTheClass : Obligations.OnlyPowerChangesTheClass := by
  unfold Obligations.OnlyPowerChangesTheClass
  intro c s t hexec
  cases hclass : c.setsClass
  case false =>
    obtain ⟨-, -, hsel, hblown, hseen, -⟩ := exec_keeps hclass hexec
    exact ⟨fun _ _ => State.classInForce_congr hsel hseen, fun _ => hblown⟩
  case true =>
    obtain ⟨sel, rfl⟩ | ⟨rail, rfl⟩ | ⟨mask, rfl⟩ := (Instr.setsClass_iff c).mp hclass
    · obtain ⟨-, -, hblown, -⟩ := (exec_vaonValid_kept s sel).of_exec hexec
      exact ⟨fun hvaon _ => absurd rfl (hvaon sel), fun _ => hblown⟩
    · obtain ⟨-, -, hblown, -, hkeeps⟩ := (exec_railReset_kept s rail).of_exec hexec
      refine ⟨fun _ hrail => ?_, fun _ => hblown⟩
      obtain ⟨-, -, hsel, -, hseen, -⟩ := hkeeps (by simpa using hrail)
      exact State.classInForce_congr hsel hseen
    · obtain ⟨-, -, hsel, hseen, -⟩ := (exec_fuseprog_kept s mask).of_exec hexec
      exact ⟨fun _ _ => State.classInForce_congr hsel hseen, fun hfuse => absurd rfl (hfuse mask)⟩

end Sys2Proof.Proofs

/-! PROOF. The parts of a state, and what each operation leaves of them: `s.Within L t` says that `t` differs from `s`
    in the
parts `L` at most, and one lemma for each operation says which parts it may change. -/

namespace Sys2Proof.Machine

open Sys2Proof

/-- The parts of a state; memory's cells stand apart from what else DRAM holds. -/
inductive Part where
  | dict | oz | store | clk | servo | syncs | shafts | frm | beacon | bow | plc | lanes | spares | rets | ledger |
      canvases
  | flows | rx | hstreams | meshes | fet | col | emit | capt | inputs | senses | cstreams | slots | pool | mir | capo |
      capoC
  | energy | pegs | runs | domains | therm | mem | cells | chans | queues | fw | svc | pwr | out | free | pending
  deriving DecidableEq

/-- `t` holds in a part what `s` holds there. -/
def State.SameIn (s t : State) : Part → Prop
  | .dict => t.dict = s.dict
  | .oz => t.oz = s.oz
  | .store => t.store = s.store
  | .clk => t.clk = s.clk
  | .servo => t.servo = s.servo
  | .syncs => t.syncs = s.syncs
  | .shafts => t.shafts = s.shafts
  | .frm => t.frm = s.frm
  | .beacon => t.beacon = s.beacon
  | .bow => t.bow = s.bow
  | .plc => t.plc = s.plc
  | .lanes => t.lanes = s.lanes
  | .spares => t.spares = s.spares
  | .rets => t.rets = s.rets
  | .ledger => t.ledger = s.ledger
  | .canvases => t.canvases = s.canvases
  | .flows => t.flows = s.flows
  | .rx => t.rx = s.rx
  | .hstreams => t.hstreams = s.hstreams
  | .meshes => t.meshes = s.meshes
  | .fet => t.fet = s.fet
  | .col => t.col = s.col
  | .emit => t.emit = s.emit
  | .capt => t.capt = s.capt
  | .inputs => t.inputs = s.inputs
  | .senses => t.senses = s.senses
  | .cstreams => t.cstreams = s.cstreams
  | .slots => t.slots = s.slots
  | .pool => t.pool = s.pool
  | .mir => t.mir = s.mir
  | .capo => t.capo = s.capo
  | .capoC => t.capoC = s.capoC
  | .energy => t.energy = s.energy
  | .pegs => t.pegs = s.pegs
  | .runs => t.runs = s.runs
  | .domains => t.domains = s.domains
  | .therm => t.therm = s.therm
  | .mem => ({ t.mem with cells := [] } : MemSt) = { s.mem with cells := [] }
  | .cells => t.mem.cells = s.mem.cells
  | .chans => t.chans = s.chans
  | .queues => t.queues = s.queues
  | .fw => t.fw = s.fw
  | .svc => t.svc = s.svc
  | .pwr => t.pwr = s.pwr
  | .out => t.out = s.out
  | .free => t.free = s.free
  | .pending => t.pending = s.pending

/-- `t` differs from `s` in the parts `L` at most. -/
def State.Within (s : State) (L : List Part) (t : State) : Prop := ∀ p, p ∉ L → s.SameIn t p

section

variable {a s t u : State} {L : List Part}

theorem State.SameIn.trans {p : Part} (h : s.SameIn t p) (g : t.SameIn u p) : s.SameIn u p := by
  cases p <;> exact Eq.trans g h

theorem State.SameIn.symm {p : Part} (h : s.SameIn t p) : t.SameIn s p := by
  cases p <;> exact Eq.symm h

@[simp] theorem State.within_refl (s : State) (L : List Part) : s.Within L s := fun p _ => by cases p <;> rfl

theorem State.Within.trans (h : s.Within L t) (g : t.Within L u) : s.Within L u := fun p hp => (h p hp).trans (g p hp)

theorem State.Within.symm (h : s.Within L t) : t.Within L s := fun p hp => (h p hp).symm

theorem State.Within.mono {L' : List Part} (h : s.Within L t) (hsub : L ⊆ L') : s.Within L' t :=
  fun p hp => h p fun hL => hp (hsub hL)

/-- An operation within `L` is no matter of what else has changed within `L`. -/
theorem State.Within.iff (h : t.Within L u) : s.Within L u ↔ s.Within L t := ⟨fun g => g.trans h.symm,
    fun g => g.trans h⟩

@[simp] theorem State.within_ite (c : Prop) [Decidable c] :
    s.Within L (if c then t else u) ↔ if c then s.Within L t else s.Within L u := by
  split <;> rfl

@[simp] theorem State.within_each (l : List Nat) {f : State → Nat → State} (h : ∀ (s : State) k, s.Within L (f s k)) :
    a.Within L (s.each l f) ↔ a.Within L s := by
  refine State.Within.iff ?_
  induction l generalizing s with
  | nil => simp [State.each]
  | cons k r ih => exact (h s k).trans ih

theorem State.within_foldl {β : Type} (l : List β) {f : State → β → State} (h : ∀ (s : State) x, s.Within L (f s x)) :
    a.Within L (l.foldl f s) ↔ a.Within L s := by
  refine State.Within.iff ?_
  induction l generalizing s with
  | nil => simp
  | cons x r ih => exact (h s x).trans ih

theorem State.within_foldl_fst {β γ : Type} (l : List β) {f : State × γ → β → State × γ}
    (h : ∀ (x : State × γ) y, x.1.Within L (f x y).1) (x : State × γ) :
    a.Within L (l.foldl f x).1 ↔ a.Within L x.1 := by
  refine State.Within.iff ?_
  induction l generalizing x with
  | nil => simp
  | cons y r ih => exact (h x y).trans (ih (f x y))

/-! ### From the parts to the state -/

/-- `s` with the parts `L` of `t`. -/
def State.taking (s : State) (L : List Part) (t : State) : State where
  dict := if L.contains .dict then t.dict else s.dict
  oz := if L.contains .oz then t.oz else s.oz
  store := if L.contains .store then t.store else s.store
  clk := if L.contains .clk then t.clk else s.clk
  servo := if L.contains .servo then t.servo else s.servo
  syncs := if L.contains .syncs then t.syncs else s.syncs
  shafts := if L.contains .shafts then t.shafts else s.shafts
  frm := if L.contains .frm then t.frm else s.frm
  beacon := if L.contains .beacon then t.beacon else s.beacon
  bow := if L.contains .bow then t.bow else s.bow
  plc := if L.contains .plc then t.plc else s.plc
  lanes := if L.contains .lanes then t.lanes else s.lanes
  spares := if L.contains .spares then t.spares else s.spares
  rets := if L.contains .rets then t.rets else s.rets
  ledger := if L.contains .ledger then t.ledger else s.ledger
  canvases := if L.contains .canvases then t.canvases else s.canvases
  flows := if L.contains .flows then t.flows else s.flows
  rx := if L.contains .rx then t.rx else s.rx
  hstreams := if L.contains .hstreams then t.hstreams else s.hstreams
  meshes := if L.contains .meshes then t.meshes else s.meshes
  fet := if L.contains .fet then t.fet else s.fet
  col := if L.contains .col then t.col else s.col
  emit := if L.contains .emit then t.emit else s.emit
  capt := if L.contains .capt then t.capt else s.capt
  inputs := if L.contains .inputs then t.inputs else s.inputs
  senses := if L.contains .senses then t.senses else s.senses
  cstreams := if L.contains .cstreams then t.cstreams else s.cstreams
  slots := if L.contains .slots then t.slots else s.slots
  pool := if L.contains .pool then t.pool else s.pool
  mir := if L.contains .mir then t.mir else s.mir
  capo := if L.contains .capo then t.capo else s.capo
  capoC := if L.contains .capoC then t.capoC else s.capoC
  energy := if L.contains .energy then t.energy else s.energy
  pegs := if L.contains .pegs then t.pegs else s.pegs
  runs := if L.contains .runs then t.runs else s.runs
  domains := if L.contains .domains then t.domains else s.domains
  therm := if L.contains .therm then t.therm else s.therm
  mem := { if L.contains .mem then t.mem else s.mem with cells := if L.contains .cells then t.mem.cells else
      s.mem.cells }
  chans := if L.contains .chans then t.chans else s.chans
  queues := if L.contains .queues then t.queues else s.queues
  fw := if L.contains .fw then t.fw else s.fw
  svc := if L.contains .svc then t.svc else s.svc
  pwr := if L.contains .pwr then t.pwr else s.pwr
  out := if L.contains .out then t.out else s.out
  free := if L.contains .free then t.free else s.free
  pending := if L.contains .pending then t.pending else s.pending

theorem MemSt.eq_of_cells {m n : MemSt} (hcells : m.cells = n.cells)
    (hrest : ({ m with cells := [] } : MemSt) = { n with cells := [] }) : m = n := by
  cases m
  cases n
  simp only [MemSt.mk.injEq, true_and] at hcells hrest ⊢
  exact ⟨hcells, hrest⟩

theorem State.eq_of_sameIn (h : ∀ p, s.SameIn t p) : t = s := by
  have hmem : t.mem = s.mem := MemSt.eq_of_cells (h .cells) (h .mem)
  cases s
  cases t
  simp only [State.mk.injEq]
  exact ⟨
    h .dict, h .oz, h .store, h .clk, h .servo, h .syncs, h .shafts, h .frm, h .beacon, h .bow, h .plc, h .lanes, h
    .spares, h .rets, h .ledger, h .canvases, h .flows, h .rx, h .hstreams, h .meshes, h .fet, h .col, h .emit, h
    .capt, h .inputs, h .senses, h .cstreams, h .slots, h .pool, h .mir, h .capo, h .capoC, h .energy, h .pegs, h
    .runs, h .domains, h .therm, hmem, h .chans, h .queues, h .fw, h .svc, h .pwr, h .out, h .free, h .pending⟩

/-- A state within `L` of `s` is `s` with its own parts `L`. -/
theorem State.Within.eq_taking (h : s.Within L t) : t = s.taking L t := by
  refine State.eq_of_sameIn fun p => ?_
  by_cases hp : p ∈ L
  · cases p <;> simp [State.SameIn, State.taking, hp]
  · have hsame := h p hp
    cases p <;> simpa [State.SameIn, State.taking, hp] using hsame

theorem State.sameIn_taking {M : List Part} {p : Part} (hp : p ∉ M) : s.SameIn (s.taking M t) p := by
  cases p <;> simp [State.SameIn, State.taking, hp]

/-- An operation that takes no part but `M` from its result is within every `L` that holds `M`. -/
theorem State.within_of_taking {M : List Part} (h : t = s.taking M t) (hsub : M ⊆ L) : a.Within L t ↔ a.Within L s :=
  State.Within.iff fun p hp => by
    rw [h]
    exact State.sameIn_taking fun hM => hp (hsub hM)

/-! ### One part set -/

section

@[simp] theorem State.within_set_servo (h : [.servo] ⊆ L) (x) : a.Within L { s with servo := x } ↔ a.Within L s :=
  State.within_of_taking rfl h

@[simp] theorem State.within_set_svc (h : [.svc] ⊆ L) (x) : a.Within L { s with svc := x } ↔ a.Within L s :=
  State.within_of_taking rfl h

@[simp] theorem State.within_set_pool (h : [.pool] ⊆ L) (x) : a.Within L { s with pool := x } ↔ a.Within L s :=
  State.within_of_taking rfl h

@[simp] theorem State.within_set_free (h : [.free] ⊆ L) (x) : a.Within L { s with free := x } ↔ a.Within L s :=
  State.within_of_taking rfl h

@[simp] theorem State.within_set_clk (h : [.clk] ⊆ L) (x) : a.Within L { s with clk := x } ↔ a.Within L s :=
  State.within_of_taking rfl h

@[simp] theorem State.within_set_capo (h : [.capo] ⊆ L) (x) : a.Within L { s with capo := x } ↔ a.Within L s :=
  State.within_of_taking rfl h

@[simp] theorem State.within_set_pwr (h : [.pwr] ⊆ L) (x) : a.Within L { s with pwr := x } ↔ a.Within L s :=
  State.within_of_taking rfl h

@[simp] theorem State.within_set_oz (h : [.oz] ⊆ L) (x) : a.Within L { s with oz := x } ↔ a.Within L s :=
  State.within_of_taking rfl h

@[simp] theorem State.within_set_fw (h : [.fw] ⊆ L) (x) : a.Within L { s with fw := x } ↔ a.Within L s :=
  State.within_of_taking rfl h

@[simp] theorem State.within_set_store (h : [.store] ⊆ L) (x) : a.Within L { s with store := x } ↔ a.Within L s :=
  State.within_of_taking rfl h

@[simp] theorem State.within_set_out (h : [.out] ⊆ L) (x) : a.Within L { s with out := x } ↔ a.Within L s :=
  State.within_of_taking rfl h

@[simp] theorem State.within_set_rx (h : [.rx] ⊆ L) (x) : a.Within L { s with rx := x } ↔ a.Within L s :=
  State.within_of_taking rfl h

@[simp] theorem State.within_set_beacon (h : [.beacon] ⊆ L) (x) : a.Within L { s with beacon := x } ↔ a.Within L s :=
  State.within_of_taking rfl h

theorem State.within_set_cells (h : [.mem, .cells] ⊆ L) (x : MemSt) : a.Within L { s with mem := x } ↔ a.Within L s :=
  State.within_of_taking rfl h

theorem State.within_set_mem (h : [.mem] ⊆ L) {x : MemSt} (hcells : x.cells = s.mem.cells) :
    a.Within L { s with mem := x } ↔ a.Within L s := by
  refine State.Within.iff fun p hp => ?_
  cases p
  case mem => exact absurd (h (by simp)) hp
  case cells => exact hcells
  all_goals rfl

end

end

end Sys2Proof.Machine

/-! PROOF. What each operation of time, courses, lanes, loops, mirrors and the capo may change. -/

namespace Sys2Proof.Machine

open Sys2Proof

section

set_option Elab.async false

variable {s₀ : State} {L : List Part}

@[simp] theorem State.within_accrue (h : [.svc] ⊆ L) (s : State) :
    s₀.Within L s.accrue ↔ s₀.Within L s :=
  State.within_of_taking rfl h

@[simp] theorem State.within_put (h : [.dict] ⊆ L) (s : State) (index sub : Nat) (v : Val) :
    s₀.Within L (s.put index sub v) ↔ s₀.Within L s :=
  State.within_of_taking rfl h

@[simp] theorem State.within_putN (h : [.dict] ⊆ L) (s : State) (index sub : Nat) (n : Nat) :
    s₀.Within L (s.putN index sub n) ↔ s₀.Within L s := by
  simp_all [State.putN]

@[simp] theorem State.within_setFlag (h : [.dict] ⊆ L) (s : State) (index sub i : Nat) (b : Bool) :
    s₀.Within L (s.setFlag index sub i b) ↔ s₀.Within L s := by
  simp_all [State.setFlag]

@[simp] theorem State.within_clearCause (h : [.dict, .svc] ⊆ L) (s : State) (k b : Nat) :
    s₀.Within L (s.clearCause k b) ↔ s₀.Within L s := by
  simp_all [State.clearCause]

@[simp] theorem State.within_causeBit (h : [.dict, .svc] ⊆ L) (s : State) (k b : Nat) :
    s₀.Within L (s.causeBit k b) ↔ s₀.Within L s := by
  simp_all [State.causeBit]

@[simp] theorem State.within_plcPut (h : [.plc] ⊆ L) (s : State) (k : Nat) (x : PlaceSt) :
    s₀.Within L (s.plcPut k x) ↔ s₀.Within L s :=
  State.within_of_taking rfl h

@[simp] theorem State.within_ledgerPut (h : [.ledger] ⊆ L) (s : State) (k : Nat) (x : List LedgerRec) :
    s₀.Within L (s.ledgerPut k x) ↔ s₀.Within L s :=
  State.within_of_taking rfl h

@[simp] theorem State.within_add64 (h : [.dict] ⊆ L) (s : State) (index sub n : Nat) :
    s₀.Within L (s.add64 index sub n) ↔ s₀.Within L s := by
  simp_all [State.add64]

@[simp] theorem State.within_ledgerNote (h : [.dict, .ledger] ⊆ L) (s : State) (k : Nat) (r : LedgerRec) :
    s₀.Within L (s.ledgerNote k r) ↔ s₀.Within L s := by
  simp_all [State.ledgerNote]

@[simp] theorem State.within_hushNoted (h : [.dict, .plc, .ledger] ⊆ L) (s : State) (k : Nat) :
    s₀.Within L (s.hushNoted k) ↔ s₀.Within L s := by
  unfold State.hushNoted
  split <;> simp_all

@[simp] theorem State.within_darkIfDone (h : [.dict] ⊆ L) (s : State) :
    s₀.Within L s.darkIfDone ↔ s₀.Within L s := by
  simp_all [State.darkIfDone]

@[simp] theorem State.within_fetPut (h : [.fet] ⊆ L) (s : State) (k : Nat) (x : FetchSt) :
    s₀.Within L (s.fetPut k x) ↔ s₀.Within L s :=
  State.within_of_taking rfl h

@[simp] theorem State.within_emptyPartition (h : [.dict, .fet] ⊆ L) (s : State) (k : Nat) :
    s₀.Within L (s.emptyPartition k) ↔ s₀.Within L s := by
  simp_all [State.emptyPartition]

@[simp] theorem State.within_runsPut (h : [.runs] ⊆ L) (s : State) (k : Nat) (x : RunSt) :
    s₀.Within L (s.runsPut k x) ↔ s₀.Within L s :=
  State.within_of_taking rfl h

@[simp] theorem State.within_domainBit (h : [.dict] ⊆ L) (s : State) (k i : Nat) (b : Bool) :
    s₀.Within L (s.domainBit k i b) ↔ s₀.Within L s := by
  simp_all [State.domainBit]

@[simp] theorem State.within_runStart (h : [.dict, .runs] ⊆ L) (s : State) (k : Nat) :
    s₀.Within L (s.runStart k) ↔ s₀.Within L s := by
  simp_all [State.runStart]

@[simp] theorem State.within_colPut (h : [.col] ⊆ L) (s : State) (k : Nat) (x : ColourSt) :
    s₀.Within L (s.colPut k x) ↔ s₀.Within L s :=
  State.within_of_taking rfl h

@[simp] theorem State.within_setCst (h : [.dict, .plc, .ledger, .fet, .col, .runs, .svc] ⊆ L) (s : State) (k st : Nat) :
    s₀.Within L (s.setCst k st) ↔ s₀.Within L s := by
  simp_all [State.setCst]

@[simp] theorem State.within_capoCPut (h : [.capoC] ⊆ L) (s : State) (k : Nat) (x : CapoCourse) :
    s₀.Within L (s.capoCPut k x) ↔ s₀.Within L s :=
  State.within_of_taking rfl h

@[simp] theorem State.within_setArm (h : [.capoC] ⊆ L) (s : State) (k : Nat) (b : Bool) :
    s₀.Within L (s.setArm k b) ↔ s₀.Within L s := by
  simp_all [State.setArm]

@[simp] theorem State.within_toHushed (h : [.dict, .plc, .ledger, .fet, .col, .capoC, .runs, .svc] ⊆ L) (s : State)
    (k : Nat) :
    s₀.Within L (s.toHushed k) ↔ s₀.Within L s := by
  simp_all [State.toHushed]

@[simp] theorem State.within_lanesPut (h : [.lanes] ⊆ L) (s : State) (k : Nat) (x : LaneSt) :
    s₀.Within L (s.lanesPut k x) ↔ s₀.Within L s :=
  State.within_of_taking rfl h

@[simp] theorem State.within_queueBlock (h : [.lanes] ⊆ L) (s : State) (l : Nat) (x : TxBlock) :
    s₀.Within L (s.queueBlock l x) ↔ s₀.Within L s := by
  simp_all [State.queueBlock]

@[simp] theorem State.within_queueControl (h : [.lanes] ⊆ L) (s : State) (l b rank type fields : Nat) :
    s₀.Within L (s.queueControl l b rank type fields) ↔ s₀.Within L s := by
  simp_all [State.queueControl]

@[simp] theorem State.within_hushCopies (h : [.lanes] ⊆ L) (s : State) (l b cause epoch : Nat) :
    s₀.Within L (s.hushCopies l b cause epoch) ↔ s₀.Within L s := by
  simp_all [State.hushCopies]

@[simp] theorem State.within_hushLane (h : [.lanes] ⊆ L) (s : State) (b cause : Nat) (l : Nat) :
    s₀.Within L (s.hushLane b cause l) ↔ s₀.Within L s := by
  simp_all [State.hushLane]

@[simp] theorem State.within_hushCourse (h : [.lanes] ⊆ L) (s : State) (k cause : Nat) :
    s₀.Within L (s.hushCourse k cause) ↔ s₀.Within L s := by
  simp_all [State.hushCourse]

@[simp] theorem State.within_hushIfSpinning (h : [.dict, .plc, .lanes, .ledger, .fet, .col, .capoC, .runs, .svc] ⊆ L)
    (s : State) (k : Nat) :
    s₀.Within L (s.hushIfSpinning k) ↔ s₀.Within L s := by
  simp_all [State.hushIfSpinning]

@[simp] theorem State.within_setCause (h : [.dict, .plc, .lanes, .ledger, .fet, .col, .capoC, .runs, .svc] ⊆ L)
    (s : State) (k b : Nat) :
    s₀.Within L (s.setCause k b) ↔ s₀.Within L s := by
  simp_all [State.setCause]

@[simp] theorem State.within_retrainRefresh (h : [.dict, .plc, .lanes, .ledger, .fet, .col, .capoC, .runs, .svc] ⊆ L)
    (s : State) (k : Nat) :
    s₀.Within L (s.retrainRefresh k) ↔ s₀.Within L s := by
  simp_all [State.retrainRefresh]

@[simp] theorem State.within_laneRefresh (h : [.dict, .plc, .lanes, .ledger, .fet, .col, .capoC, .runs, .svc] ⊆ L)
    (s : State) (l : Nat) :
    s₀.Within L (s.laneRefresh l) ↔ s₀.Within L s := by
  unfold State.laneRefresh
  split <;> simp_all

@[simp] theorem State.within_offer (h : [.svc] ⊆ L) (s : State) (kind : SpareKind) (unit : Nat) (worn : Bool) :
    s₀.Within L (s.offer kind unit worn) ↔ s₀.Within L s := by
  unfold State.offer
  dsimp only
  split
  · rfl
  · exact State.within_set_svc h _

@[simp] theorem State.within_laneFailed (h : [.dict, .plc, .lanes, .ledger, .fet, .col, .capoC, .runs, .svc] ⊆ L)
    (s : State) (l : Nat) :
    s₀.Within L (s.laneFailed l) ↔ s₀.Within L s := by
  simp_all [State.laneFailed]

@[simp] theorem State.within_darkBowTime (h : [.svc] ⊆ L) (s : State) (k cls slots : Nat) :
    s₀.Within L (s.darkBowTime k cls slots) ↔ s₀.Within L s := by
  unfold State.darkBowTime
  dsimp only
  split
  · exact State.within_set_svc h _
  · rfl

@[simp] theorem State.within_ledgerAdd (h : [.dict, .ledger] ⊆ L) (s : State) (k : Nat) (r : LedgerRec) :
    s₀.Within L (s.ledgerAdd k r) ↔ s₀.Within L s := by
  simp_all [State.ledgerAdd]

@[simp] theorem State.within_darkBow (h : [.dict, .plc, .ledger, .svc] ⊆ L) (s : State) (k : Nat) (r : LedgerRec) :
    s₀.Within L (s.darkBow k r) ↔ s₀.Within L s := by
  unfold State.darkBow
  split <;> simp_all

@[simp] theorem State.within_cutLedger (h : [.dict, .plc, .ledger, .svc] ⊆ L) (s : State) (bh cause0 k : Nat) :
    s₀.Within L (s.cutLedger bh cause0 k) ↔ s₀.Within L s := by
  unfold State.cutLedger
  dsimp only
  split <;> simp_all

@[simp] theorem State.within_spanLost (h : [.dict, .plc, .ledger, .svc] ⊆ L) (s : State) (l : Nat) :
    s₀.Within L (s.spanLost l) ↔ s₀.Within L s := by
  unfold State.spanLost
  split <;> simp_all

@[simp] theorem State.within_enterRetrain (h : [.dict, .plc, .lanes, .ledger, .fet, .col, .capoC, .runs, .svc] ⊆ L)
    (s0 : State) (l cls : Nat) :
    s₀.Within L (s0.enterRetrain l cls) ↔ s₀.Within L s0 := by
  simp_all [State.enterRetrain]

@[simp] theorem State.within_takeLatency (h : [.dict, .lanes] ⊆ L) (s : State) (l lfar : Nat) :
    s₀.Within L (s.takeLatency l lfar) ↔ s₀.Within L s := by
  simp_all [State.takeLatency]

@[simp] theorem State.within_laneUp (h : [.dict, .plc, .lanes, .ledger, .fet, .col, .capoC, .runs, .svc] ⊆ L)
    (s0 : State) (l lfar : Nat) :
    s₀.Within L (s0.laneUp l lfar) ↔ s₀.Within L s0 := by
  simp_all [State.laneUp]

@[simp] theorem State.within_addSat (h : [.dict] ⊆ L) (s : State) (index sub n : Nat) :
    s₀.Within L (s.addSat index sub n) ↔ s₀.Within L s := by
  simp_all [State.addSat]

@[simp] theorem State.within_bump (h : [.dict] ⊆ L) (s : State) (index sub : Nat) :
    s₀.Within L (s.bump index sub) ↔ s₀.Within L s := by
  simp_all [State.bump]

@[simp] theorem State.within_noteReporter (h : [.dict, .lanes] ⊆ L) (s : State) (k l : Nat) :
    s₀.Within L (s.noteReporter k l) ↔ s₀.Within L s := by
  simp_all [State.noteReporter]

@[simp] theorem State.within_takeLane (h : [.dict, .plc, .lanes, .ledger, .fet, .col, .capoC, .runs, .svc] ⊆ L)
    (s0 : State) (k p : Nat) :
    s₀.Within L (s0.takeLane k p) ↔ s₀.Within L s0 := by
  simp_all [State.takeLane]

@[simp] theorem State.within_retsPut (h : [.rets] ⊆ L) (s : State) (k : Nat) (x : RetSt) :
    s₀.Within L (s.retsPut k x) ↔ s₀.Within L s :=
  State.within_of_taking rfl h

@[simp] theorem State.within_retInvalid (h : [.dict, .rets] ⊆ L) (s : State) (k : Nat) :
    s₀.Within L (s.retInvalid k) ↔ s₀.Within L s := by
  simp_all [State.retInvalid]

@[simp] theorem State.within_retTaken (h : [.rets] ⊆ L) (s : State) (k wire : Nat) :
    s₀.Within L (s.retTaken k wire) ↔ s₀.Within L s := by
  simp_all [State.retTaken]

@[simp] theorem State.within_retBlock (h : [.dict, .rets] ⊆ L) (s : State) (k seq : Nat) :
    s₀.Within L (s.retBlock k seq) ↔ s₀.Within L s := by
  simp_all [State.retBlock]

@[simp] theorem State.within_onRet (h : [.dict, .rets] ⊆ L) (s : State) (k type wire : Nat) {f : State → Nat → State}
    (hf : ∀ (s : State) p, s₀.Within L (f s p) ↔ s₀.Within L s) :
    s₀.Within L (s.onRet k type wire f) ↔ s₀.Within L s := by
  simp only [List.cons_subset, List.nil_subset, and_true] at h
  simp only [State.onRet]
  (repeat' split) <;> simp [h, hf]

@[simp] theorem State.within_send (h : [.out] ⊆ L) (s : State) (o : Out) :
    s₀.Within L (s.send o) ↔ s₀.Within L s :=
  State.within_of_taking rfl h

@[simp] theorem State.within_captPut (h : [.capt] ⊆ L) (s : State) (k : Nat) (x : CaptSt) :
    s₀.Within L (s.captPut k x) ↔ s₀.Within L s :=
  State.within_of_taking rfl h

@[simp] theorem State.within_setServo (h : [.dict] ⊆ L) (s : State) (st : Nat) :
    s₀.Within L (s.setServo st) ↔ s₀.Within L s := by
  simp_all [State.setServo]

@[simp] theorem State.within_enterAcquiring (h : [.dict, .servo] ⊆ L) (s : State) :
    s₀.Within L s.enterAcquiring ↔ s₀.Within L s := by
  simp only [List.cons_subset, List.nil_subset, and_true] at h
  exact (State.within_set_servo (by simp [h]) _).trans (by simp [h])

@[simp] theorem State.within_enterHoldover (h : [.dict, .servo] ⊆ L) (s : State) (fromAcquiring : Bool) :
    s₀.Within L (s.enterHoldover fromAcquiring) ↔ s₀.Within L s := by
  simp only [List.cons_subset, List.nil_subset, and_true] at h
  exact (State.within_set_servo (by simp [h]) _).trans (by simp [h])

@[simp] theorem State.within_restoreRef (h : [.dict, .svc] ⊆ L) (s : State) (f : Nat → Bool) :
    s₀.Within L (s.restoreRef f) ↔ s₀.Within L s := by
  simp_all [State.restoreRef]

@[simp] theorem State.within_enterLocked (h : [.dict, .servo, .svc] ⊆ L) (s : State) :
    s₀.Within L s.enterLocked ↔ s₀.Within L s := by
  simp only [List.cons_subset, List.nil_subset, and_true] at h
  exact (State.within_restoreRef (by simp [h]) _ _).trans ((State.within_set_servo (by simp [h]) _).trans (by simp [h]))

@[simp] theorem State.within_putX (h : [.dict] ⊆ L) (s : State) (index sub : Nat) (q : Rat) :
    s₀.Within L (s.putX index sub q) ↔ s₀.Within L s := by
  simp_all [State.putX]

@[simp] theorem State.within_steer (h : [.dict, .servo] ⊆ L) (s : State) (o : Int) :
    s₀.Within L (s.steer o) ↔ s₀.Within L s := by
  simp only [List.cons_subset, List.nil_subset, and_true] at h
  exact (State.within_putX (by simp [h]) _ _ _ _).trans (State.within_set_servo (by simp [h]) _)

@[simp] theorem State.within_setTai (h : [.clk] ⊆ L) (s : State) (t : Nat) :
    s₀.Within L (s.setTai t) ↔ s₀.Within L s :=
  State.within_of_taking rfl h

@[simp] theorem State.within_frmPut (h : [.frm] ⊆ L) (s : State) (k : Nat) (x : FrameSt) :
    s₀.Within L (s.frmPut k x) ↔ s₀.Within L s :=
  State.within_of_taking rfl h

@[simp] theorem State.within_realign (h : [.frm] ⊆ L) (s : State) (k : Nat) :
    s₀.Within L (s.realign k) ↔ s₀.Within L s := by
  simp_all [State.realign]

@[simp] theorem State.within_realignPtp (h : [.frm] ⊆ L) (s : State) :
    s₀.Within L s.realignPtp ↔ s₀.Within L s := by
  simp_all [State.realignPtp]

@[simp] theorem State.within_stepTai (h : [.dict, .clk, .frm] ⊆ L) (s : State) (t : Nat) :
    s₀.Within L (s.stepTai t) ↔ s₀.Within L s := by
  simp_all [State.stepTai]

@[simp] theorem State.within_putI (h : [.dict] ⊆ L) (s : State) (index sub : Nat) (z : Int) :
    s₀.Within L (s.putI index sub z) ↔ s₀.Within L s := by
  simp_all [State.putI]

@[simp] theorem State.within_sync (h : [.dict, .clk, .servo, .frm, .svc] ⊆ L) (s0 : State) (o : Int) :
    s₀.Within L (s0.sync o) ↔ s₀.Within L s0 := by
  simp only [List.cons_subset, List.nil_subset, and_true] at h
  have hservo (t : State) (x : ServoSt) : s₀.Within L { t with servo := x } ↔ s₀.Within L t :=
    State.within_set_servo (by simp [h]) x
  unfold State.sync
  dsimp only
  (repeat' split) <;> simp only [h, hservo, State.within_enterLocked, State.within_enterAcquiring,
      State.within_enterHoldover, State.within_steer, State.within_stepTai, State.within_bump, State.within_putI,
      List.cons_subset, List.nil_subset, and_self]

@[simp] theorem State.within_slotsPut (h : [.slots] ⊆ L) (s : State) (k : Nat) (x : SlotSt) :
    s₀.Within L (s.slotsPut k x) ↔ s₀.Within L s :=
  State.within_of_taking rfl h

@[simp] theorem State.within_convertDac (h : [.dict, .slots] ⊆ L) (s : State) (c : Nat) :
    s₀.Within L (s.convertDac c) ↔ s₀.Within L s := by
  simp_all [State.convertDac]

@[simp] theorem State.within_refreshDac (h : [.dict, .slots] ⊆ L) (s : State) (i : Nat) :
    s₀.Within L (s.refreshDac i) ↔ s₀.Within L s := by
  unfold State.refreshDac
  split <;> simp_all

@[simp] theorem State.within_mirPut (h : [.mir] ⊆ L) (s : State) (k : Nat) (x : MirSt) :
    s₀.Within L (s.mirPut k x) ↔ s₀.Within L s :=
  State.within_of_taking rfl h

@[simp] theorem State.within_putF (h : [.dict] ⊆ L) (s : State) (index sub : Nat) (q : Rat) :
    s₀.Within L (s.putF index sub q) ↔ s₀.Within L s := by
  simp_all [State.putF]

@[simp] theorem State.within_setDrive (h : [.dict, .mir] ⊆ L) (s : State) (k : Nat) (a : Int) :
    s₀.Within L (s.setDrive k a) ↔ s₀.Within L s := by
  simp only [List.cons_subset, List.nil_subset, and_true] at h
  simp [State.setDrive, h]

@[simp] theorem State.within_writeOut (h : [.dict, .slots, .mir] ⊆ L) (s : State) (i : Nat) (o : Int) :
    s₀.Within L (s.writeOut i o) ↔ s₀.Within L s := by
  simp only [List.cons_subset, List.nil_subset, and_true] at h
  simp [State.writeOut, h]

@[simp] theorem State.within_slotOff (h : [.dict, .slots, .mir] ⊆ L) (s : State) (i : Nat) :
    s₀.Within L (s.slotOff i) ↔ s₀.Within L s := by
  simp_all [State.slotOff]

@[simp] theorem State.within_reschedule (h : [.dict, .slots] ⊆ L) (s : State) :
    s₀.Within L s.reschedule ↔ s₀.Within L s := by
  simp only [List.cons_subset, List.nil_subset, and_true] at h
  unfold State.reschedule
  split
  · rfl
  · dsimp only
    split
    · rw [State.within_bump (by simp [h]), State.within_putX (by simp [h]),
        State.within_each _ fun s i => by split <;> simp [h]]
    · rw [State.within_putX (by simp [h]), State.within_each _ fun s i => by split <;> simp [h]]

@[simp] theorem State.within_stopRampEnd (h : [.dict, .slots, .mir] ⊆ L) (s : State) (k : Nat) :
    s₀.Within L (s.stopRampEnd k) ↔ s₀.Within L s := by
  simp only [List.cons_subset, List.nil_subset, and_true] at h
  simp [State.stopRampEnd, h]

@[simp] theorem State.within_energyPut (h : [.energy] ⊆ L) (s : State) (k : Nat) (x : EnergySt) :
    s₀.Within L (s.energyPut k x) ↔ s₀.Within L s :=
  State.within_of_taking rfl h

@[simp] theorem State.within_countSpan (h : [.dict, .energy] ⊆ L) (s : State) (k : Nat) (cut : Option Nat)
    (p : LanePlan) :
    s₀.Within L (s.countSpan k cut p) ↔ s₀.Within L s := by
  simp_all [State.countSpan]

@[simp] theorem State.within_countBow (h : [.dict, .plc, .energy] ⊆ L) (s : State) (k : Nat) (cut : Option Nat) :
    s₀.Within L (s.countBow k cut) ↔ s₀.Within L s := by
  simp only [List.cons_subset, List.nil_subset, and_true] at h
  unfold State.countBow
  dsimp only
  split
  · split
    · rw [State.within_plcPut (by simp [h]), State.within_each]
      intro s i
      split <;> simp [h]
    · rfl
  · rfl

@[simp] theorem State.within_closeSpan (h : [.dict, .plc, .energy] ⊆ L) (s : State) (k : Nat) :
    s₀.Within L (s.closeSpan k) ↔ s₀.Within L s := by
  simp_all [State.closeSpan]

@[simp] theorem State.within_ledgerDone (h : [.dict] ⊆ L) (s : State) (k bow : Nat) :
    s₀.Within L (s.ledgerDone k bow) ↔ s₀.Within L s := by
  simp_all [State.ledgerDone]

@[simp] theorem State.within_putB (h : [.dict] ⊆ L) (s : State) (index sub : Nat) (b : List Byte) :
    s₀.Within L (s.putB index sub b) ↔ s₀.Within L s := by
  simp_all [State.putB]

@[simp] theorem State.within_canvasesPut (h : [.canvases] ⊆ L) (s : State) (k : Nat) (x : CanvasSt) :
    s₀.Within L (s.canvasesPut k x) ↔ s₀.Within L s :=
  State.within_of_taking rfl h

@[simp] theorem State.within_setBufs (h : [.canvases] ⊆ L) (s : State) (c : Nat) (l : List Buf) :
    s₀.Within L (s.setBufs c l) ↔ s₀.Within L s := by
  simp_all [State.setBufs]

@[simp] theorem State.within_modBuf (h : [.canvases] ⊆ L) (s : State) (c b : Nat) (f : Buf → Buf) :
    s₀.Within L (s.modBuf c b f) ↔ s₀.Within L s := by
  simp_all [State.modBuf]

@[simp] theorem State.within_freeBuf (h : [.canvases] ⊆ L) (s : State) (c b : Nat) :
    s₀.Within L (s.freeBuf c b) ↔ s₀.Within L s := by
  simp_all [State.freeBuf]

@[simp] theorem State.within_syncsPut (h : [.syncs] ⊆ L) (s : State) (k : Nat) (x : SyncSt) :
    s₀.Within L (s.syncsPut k x) ↔ s₀.Within L s :=
  State.within_of_taking rfl h

@[simp] theorem State.within_syncHold (h : [.dict, .syncs] ⊆ L) (s : State) (i : Nat) :
    s₀.Within L (s.syncHold i) ↔ s₀.Within L s := by
  simp_all [State.syncHold]

@[simp] theorem State.within_bowPut (h : [.bow] ⊆ L) (s : State) (k : Nat) (x : BowSt) :
    s₀.Within L (s.bowPut k x) ↔ s₀.Within L s :=
  State.within_of_taking rfl h

@[simp] theorem State.within_nextBow (h : [.dict, .bow] ⊆ L) (s : State) (k : Nat) :
    s₀.Within L (s.nextBow k) ↔ s₀.Within L s := by
  simp_all [State.nextBow]

@[simp] theorem State.within_inputsPut (h : [.inputs] ⊆ L) (s : State) (k : Nat) (x : InputSt) :
    s₀.Within L (s.inputsPut k x) ↔ s₀.Within L s :=
  State.within_of_taking rfl h

@[simp] theorem State.within_answer (h : [.oz] ⊆ L) (s : State) (op : Nat) (it : Item) (status : Nat)
    (value : List Byte) :
    s₀.Within L (s.answer op it status value) ↔ s₀.Within L s :=
  State.within_of_taking rfl h

@[simp] theorem State.within_hostWrite (h : [.oz] ⊆ L) (s : State) (it : Item) {f : State → State × Nat}
    (hf : s₀.Within L (f s).1 ↔ s₀.Within L s) :
    s₀.Within L (s.hostWrite it f) ↔ s₀.Within L s := by
  simp only [List.cons_subset, List.nil_subset, and_true] at h
  simp only [State.hostWrite]
  (repeat' split) <;> simp [h, hf]

@[simp] theorem State.within_setEmitOk (h : [.capo] ⊆ L) (s : State) (k : Nat) (b : Bool) :
    s₀.Within L (s.setEmitOk k b) ↔ s₀.Within L s :=
  State.within_of_taking rfl h

@[simp] theorem State.within_rampAdvance (h : [.mir] ⊆ L) (s : State) (k : Nat) :
    s₀.Within L (s.rampAdvance k) ↔ s₀.Within L s := by
  simp_all [State.rampAdvance]

@[simp] theorem State.within_mirrorStop (h : [.mir] ⊆ L) (s : State) (k : Nat) :
    s₀.Within L (s.mirrorStop k) ↔ s₀.Within L s := by
  simp_all [State.mirrorStop]

@[simp] theorem State.within_dropModel (h : [.dict, .frm, .bow, .plc, .fet] ⊆ L) (s : State) (k : Nat) :
    s₀.Within L (s.dropModel k) ↔ s₀.Within L s := by
  simp_all [State.dropModel]

@[simp] theorem State.within_runAbort (h : [.dict, .runs] ⊆ L) (s : State) (k : Nat) :
    s₀.Within L (s.runAbort k) ↔ s₀.Within L s := by
  simp_all [State.runAbort]

@[simp] theorem State.within_toStopped (h : [.dict, .frm, .bow, .plc, .ledger, .fet, .col, .mir, .capo, .capoC, .runs,
    .svc] ⊆ L) (s : State) (k : Nat) :
    s₀.Within L (s.toStopped k) ↔ s₀.Within L s := by
  simp_all [State.toStopped]

@[simp] theorem State.within_setCauseNow (h : [.dict, .frm, .bow, .plc, .ledger, .fet, .col, .mir, .capo, .capoC,
    .runs, .svc] ⊆ L) (s : State) (k b : Nat) :
    s₀.Within L (s.setCauseNow k b) ↔ s₀.Within L s := by
  simp_all [State.setCauseNow]

@[simp] theorem State.within_leaveLit (h : [.dict, .frm, .bow, .plc, .ledger, .fet, .col, .mir, .capo, .capoC, .runs,
    .svc] ⊆ L) (s : State) :
    s₀.Within L s.leaveLit ↔ s₀.Within L s := by
  simp_all [State.leaveLit]

@[simp] theorem State.within_releaseBuf (h : [.dict, .canvases] ⊆ L) (s : State) (c b : Nat) :
    s₀.Within L (s.releaseBuf c b) ↔ s₀.Within L s := by
  simp_all [State.releaseBuf]

@[simp] theorem State.within_releaseWhere (h : [.dict, .canvases] ⊆ L) (s : State) (c : Nat) (f : Buf → Bool) :
    s₀.Within L (s.releaseWhere c f) ↔ s₀.Within L s := by
  refine State.within_each _ fun s b => ?_
  split
  · split <;> simp_all
  · simp

@[simp] theorem State.within_setFreq (h : [.dict, .mir] ⊆ L) (s : State) (k : Nat) (f : Rat) :
    s₀.Within L (s.setFreq k f) ↔ s₀.Within L s := by
  simp_all [State.setFreq]

@[simp] theorem State.within_trackPhase (h : [.dict, .mir] ⊆ L) (s : State) (k : Nat) :
    s₀.Within L (s.trackPhase k) ↔ s₀.Within L s := by
  simp_all [State.trackPhase]

@[simp] theorem State.within_setAdmitted (h : [.dict, .mir] ⊆ L) (s : State) (k : Nat) (ok : Bool) :
    s₀.Within L (s.setAdmitted k ok) ↔ s₀.Within L s := by
  simp_all [State.setAdmitted]

@[simp] theorem State.within_logWith (h : [.store, .svc] ⊆ L) (s : State) (sev source code unit detail extra : Nat) :
    s₀.Within L (s.logWith sev source code unit detail extra) ↔ s₀.Within L s :=
  State.within_of_taking rfl h

@[simp] theorem State.within_logAt (h : [.store, .svc] ⊆ L) (s : State) (sev source kind unit : Nat) :
    s₀.Within L (s.logAt sev source kind unit) ↔ s₀.Within L s := by
  simp_all [State.logAt]

@[simp] theorem State.within_logEvent (h : [.store, .svc] ⊆ L) (s : State) (source kind unit : Nat) :
    s₀.Within L (s.logEvent source kind unit) ↔ s₀.Within L s := by
  simp_all [State.logEvent]

@[simp] theorem State.within_logCritical (h : [.store, .svc] ⊆ L) (s : State) (source kind unit : Nat) :
    s₀.Within L (s.logCritical source kind unit) ↔ s₀.Within L s := by
  simp_all [State.logCritical]

@[simp] theorem State.within_recover (h : [.dict, .store, .svc] ⊆ L) (s : State) (rs cls dur unit : Nat) :
    s₀.Within L (s.recover rs cls dur unit) ↔ s₀.Within L s := by
  simp only [List.cons_subset, List.nil_subset, and_true] at h
  refine (State.within_set_svc (by simp [h]) _).trans ?_
  simp [h]

@[simp] theorem State.within_acceptEdge (h : [.dict, .syncs] ⊆ L) (s : State) (i t : Nat) :
    s₀.Within L (s.acceptEdge i t) ↔ s₀.Within L s := by
  simp_all [State.acceptEdge]

@[simp] theorem State.within_drainInput (h : [.inputs] ⊆ L) (s : State) (i : Nat) :
    s₀.Within L (s.drainInput i) ↔ s₀.Within L s := by
  simp_all [State.drainInput]

@[simp] theorem State.within_drainAll (h : [.inputs] ⊆ L) (s : State) :
    s₀.Within L s.drainAll ↔ s₀.Within L s :=
  State.within_foldl _ fun s p => by simp_all

@[simp] theorem State.within_selectMaster (h : [.dict, .servo] ⊆ L) (s : State) :
    s₀.Within L s.selectMaster ↔ s₀.Within L s := by
  simp only [List.cons_subset, List.nil_subset, and_true] at h
  unfold State.selectMaster
  split
  · rfl
  · simp only [State.within_ite, State.within_enterAcquiring, State.within_set_servo, State.within_putI,
      State.within_putN,
      State.within_bump, h, List.cons_subset, List.nil_subset, and_self, ite_self]

@[simp] theorem State.within_switchIn (h : [.dict] ⊆ L) (s : State) (kind unit spare : Nat) :
    s₀.Within L (s.switchIn kind unit spare) ↔ s₀.Within L s := by
  simp_all [State.switchIn]

@[simp] theorem State.within_frameBow (h : [.dict, .frm, .plc] ⊆ L) (s : State) (k : Nat) :
    s₀.Within L (s.frameBow k) ↔ s₀.Within L s := by
  simp_all [State.frameBow]

@[simp] theorem State.within_countAmp (h : [.mir] ⊆ L) (s : State) (k : Nat) :
    s₀.Within L (s.countAmp k) ↔ s₀.Within L s := by
  simp_all [State.countAmp]

@[simp] theorem State.within_releaseTiles (h : [.fet] ⊆ L) (s : State) (k : Nat) (b : FetchBow) :
    s₀.Within L (s.releaseTiles k b) ↔ s₀.Within L s := by
  simp_all [State.releaseTiles]

@[simp] theorem State.within_fetchBow (h : [.plc, .fet] ⊆ L) (s : State) (k : Nat) :
    s₀.Within L (s.fetchBow k) ↔ s₀.Within L s := by
  simp only [List.cons_subset, List.nil_subset, and_true] at h
  simp only [State.fetchBow]
  rw [State.within_plcPut (by simp [h]), State.within_foldl _ fun s b => by simp [h], State.within_fetPut (by simp [h])]

@[simp] theorem State.within_panicRefresh (h : [.dict, .mem] ⊆ L) (s : State) :
    s₀.Within L s.panicRefresh ↔ s₀.Within L s := by
  simp only [List.cons_subset, List.nil_subset, and_true] at h
  have hmem (x : MemSt) (hx : x.cells = s.mem.cells) : s₀.Within L { s with mem := x } ↔ s₀.Within L s :=
    State.within_set_mem (by simp [h]) hx
  simp only [State.panicRefresh]
  rw [State.within_setFlag (by simp [h])]
  (repeat' split) <;> simp [hmem]

@[simp] theorem State.within_refreshWater (h : [.dict, .inputs, .mem] ⊆ L) (s : State) (k : Nat) :
    s₀.Within L (s.refreshWater k) ↔ s₀.Within L s := by
  simp_all [State.refreshWater]

@[simp] theorem State.within_litClock (h : [.col] ⊆ L) (s : State) (k : Nat) :
    s₀.Within L (s.litClock k) ↔ s₀.Within L s := by
  simp_all [State.litClock]

@[simp] theorem State.within_setModel (h : [.dict] ⊆ L) (s : State) (k st : Nat) :
    s₀.Within L (s.setModel k st) ↔ s₀.Within L s := by
  simp_all [State.setModel]

@[simp] theorem State.within_closeBow (h : [.dict, .bow] ⊆ L) (s : State) (k : Nat) :
    s₀.Within L (s.closeBow k) ↔ s₀.Within L s := by
  simp_all [State.closeBow]

@[simp] theorem State.within_closeLedger (h : [.dict, .plc, .ledger] ⊆ L) (s : State) (k : Nat) :
    s₀.Within L (s.closeLedger k) ↔ s₀.Within L s := by
  unfold State.closeLedger
  dsimp only
  split <;> simp_all

@[simp] theorem State.within_capMark (h : [.capt] ⊆ L) (s : State) (k : Nat) :
    s₀.Within L (s.capMark k) ↔ s₀.Within L s := by
  simp_all [State.capMark]

@[simp] theorem State.within_followG0 (h : [.dict, .mir] ⊆ L) (s : State) (k : Nat) :
    s₀.Within L (s.followG0 k) ↔ s₀.Within L s := by
  simp_all [State.followG0]

@[simp] theorem State.within_lockRefresh (h : [.dict, .svc] ⊆ L) (s : State) (k : Nat) :
    s₀.Within L (s.lockRefresh k) ↔ s₀.Within L s := by
  simp_all [State.lockRefresh]

@[simp] theorem State.within_takeFree (h : [.free] ⊆ L) (s : State) :
    s₀.Within L s.takeFree ↔ s₀.Within L s :=
  State.within_of_taking rfl h

@[simp] theorem State.within_setTracker (h : [.dict] ⊆ L) (s : State) (k st : Nat) :
    s₀.Within L (s.setTracker k st) ↔ s₀.Within L s := by
  simp_all [State.setTracker]

@[simp] theorem State.within_trackFree (h : [.dict, .mir] ⊆ L) (s : State) (k : Nat) (lag : Rat) :
    s₀.Within L (s.trackFree k lag) ↔ s₀.Within L s := by
  simp_all [State.trackFree]

@[simp] theorem State.within_evalP3 (h : [.mir] ⊆ L) (s : State) (k : Nat) (lag : Rat) :
    s₀.Within L (s.evalP3 k lag) ↔ s₀.Within L s := by
  simp_all [State.evalP3]

@[simp] theorem State.within_track (h : [.dict, .mir, .svc, .free] ⊆ L) (s : State) (k : Nat) (lag : Rat) :
    s₀.Within L (s.track k lag) ↔ s₀.Within L s := by
  simp_all [State.track]

@[simp] theorem State.within_emitAtNut (h : [.capo] ⊆ L) (s : State) (k : Nat) :
    s₀.Within L (s.emitAtNut k) ↔ s₀.Within L s := by
  simp_all [State.emitAtNut]

@[simp] theorem State.within_laserSummary (h : [.dict] ⊆ L) (s : State) :
    s₀.Within L s.laserSummary ↔ s₀.Within L s := by
  simp_all [State.laserSummary]

@[simp] theorem State.within_laserUpdate (h : [.dict, .plc, .lanes, .ledger, .fet, .col, .capoC, .runs, .svc] ⊆ L)
    (s : State) (k : Nat) :
    s₀.Within L (s.laserUpdate k) ↔ s₀.Within L s := by
  unfold State.laserUpdate
  (repeat' split) <;> simp_all

@[simp] theorem State.within_chirp (h : [.dict, .mir] ⊆ L) (s : State) (k : Nat) (f low : Rat) :
    s₀.Within L (s.chirp k f low) ↔ s₀.Within L s := by
  simp_all [State.chirp]

@[simp] theorem State.within_excite (h : [.dict, .slots, .mir] ⊆ L) (s : State) (k : Nat) :
    s₀.Within L (s.excite k) ↔ s₀.Within L s := by
  simp only [List.cons_subset, List.nil_subset, and_true] at h
  simp [State.excite, h]

@[simp] theorem State.within_shaftHush (h : [.dict, .plc, .lanes, .ledger, .fet, .col, .capoC, .runs, .svc] ⊆ L)
    (s : State) (j : Nat) :
    s₀.Within L (s.shaftHush j) ↔ s₀.Within L s := by
  simp_all [State.shaftHush]

@[simp] theorem State.within_shaftsPut (h : [.shafts] ⊆ L) (s : State) (k : Nat) (x : ShaftSt) :
    s₀.Within L (s.shaftsPut k x) ↔ s₀.Within L s :=
  State.within_of_taking rfl h

@[simp] theorem State.within_setShaft (h : [.dict, .plc, .lanes, .ledger, .fet, .col, .capoC, .runs, .svc] ⊆ L)
    (s : State) (j st : Nat) :
    s₀.Within L (s.setShaft j st) ↔ s₀.Within L s := by
  simp_all [State.setShaft]

@[simp] theorem State.within_decideAdmission (h : [.dict, .mir] ⊆ L) (s : State) (k : Nat) (anew : Bool) :
    s₀.Within L (s.decideAdmission k anew) ↔ s₀.Within L s := by
  simp_all [State.decideAdmission]

@[simp] theorem State.within_setSup (h : [.dict, .plc, .lanes, .ledger, .fet, .col, .slots, .capoC, .runs, .svc] ⊆ L)
    (s : State) (i new : Nat) :
    s₀.Within L (s.setSup i new) ↔ s₀.Within L s := by
  simp_all [State.setSup]

@[simp] theorem State.within_declareFailed (h : [.dict, .frm, .bow, .plc, .lanes, .ledger, .fet, .col, .slots, .mir,
    .capo, .capoC, .runs, .svc] ⊆ L) (s : State) (k : Nat) :
    s₀.Within L (s.declareFailed k) ↔ s₀.Within L s := by
  simp_all [State.declareFailed]

@[simp] theorem State.within_slotLost (h : [.dict, .frm, .bow, .plc, .lanes, .ledger, .fet, .col, .slots, .mir, .capo,
    .capoC, .runs, .svc] ⊆ L) (s : State) (i : Nat) :
    s₀.Within L (s.slotLost i) ↔ s₀.Within L s := by
  simp_all [State.slotLost]

@[simp] theorem State.within_requestFrame (h : [.dict, .frm] ⊆ L) (s : State) (k : Nat) (counter : Option Nat)
    (t : Nat) :
    s₀.Within L (s.requestFrame k counter t) ↔ s₀.Within L s := by
  simp_all [State.requestFrame]

@[simp] theorem State.within_frameNumber (h : [.dict, .frm] ⊆ L) (s : State) (k : Nat) (p : Int)
    (before : Option (Nat × Int)) :
    s₀.Within L (s.frameNumber k p before) ↔ s₀.Within L s := by
  unfold State.frameNumber
  split <;> simp_all

@[simp] theorem State.within_releaseTravel (h : [.dict, .canvases] ⊆ L) (s : State) (k : Nat) :
    s₀.Within L (s.releaseTravel k) ↔ s₀.Within L s := by
  unfold State.releaseTravel
  split <;> simp_all

@[simp] theorem State.within_shaftMove (h : [.dict, .shafts, .frm, .plc, .lanes, .ledger, .canvases, .fet, .col,
    .capoC, .runs, .svc] ⊆ L) (s : State) (j : Nat) (p : Int) (before : Option (Nat × Int)) :
    s₀.Within L (s.shaftMove j p before) ↔ s₀.Within L s := by
  simp_all [State.shaftMove]

@[simp] theorem State.within_setBits (h : [.dict] ⊆ L) (s : State) (index sub hi lo v : Nat) :
    s₀.Within L (s.setBits index sub hi lo v) ↔ s₀.Within L s := by
  simp_all [State.setBits]

@[simp] theorem State.within_sensesPut (h : [.senses] ⊆ L) (s : State) (k : Nat) (x : SenseSt) :
    s₀.Within L (s.sensesPut k x) ↔ s₀.Within L s :=
  State.within_of_taking rfl h

@[simp] theorem State.within_convert (h : [.dict, .senses] ⊆ L) (s : State) (c : Nat) (n : Nat) (code : Int) :
    s₀.Within L (s.convert c n code) ↔ s₀.Within L s := by
  simp_all [State.convert]

@[simp] theorem State.within_convertAll (h : [.dict, .senses] ⊆ L) (s : State) (c : Nat) (codes : List Int) :
    s₀.Within L (s.convertAll c codes) ↔ s₀.Within L s :=
  State.within_foldl_fst _ (fun x q => by simp_all) _

@[simp] theorem State.within_takeInput (h : [.dict, .senses] ⊆ L) (s : State) (src : Nat) (codes : List Int) :
    s₀.Within L (s.takeInput src codes) ↔ s₀.Within L s := by
  unfold State.takeInput
  split <;> simp_all

@[simp] theorem State.within_capoDefaults (h : [.dict] ⊆ L) (s : State) :
    s₀.Within L s.capoDefaults ↔ s₀.Within L s := by
  simp_all [State.capoDefaults]

@[simp] theorem State.within_expireRef (h : [.dict, .plc, .lanes, .ledger, .fet, .col, .capoC, .runs, .svc] ⊆ L)
    (s : State) (f : Nat → Bool) :
    s₀.Within L (s.expireRef f) ↔ s₀.Within L s := by
  simp_all [State.expireRef]

@[simp] theorem State.within_countTrip (h : [.dict] ⊆ L) (s : State) (k t : Nat) :
    s₀.Within L (s.countTrip k t) ↔ s₀.Within L s := by
  simp_all [State.countTrip]

@[simp] theorem State.within_trip (h : [.dict, .frm, .bow, .plc, .ledger, .fet, .col, .mir, .capo, .capoC, .runs,
    .svc] ⊆ L) (s : State) (k t : Nat) :
    s₀.Within L (s.trip k t) ↔ s₀.Within L s := by
  simp_all [State.trip]

@[simp] theorem State.within_scanMiss (h : [.dict, .frm, .bow, .plc, .ledger, .fet, .col, .mir, .capo, .capoC, .runs,
    .svc] ⊆ L) (s : State) (k t : Nat) :
    s₀.Within L (s.scanMiss k t) ↔ s₀.Within L s := by
  simp_all [State.scanMiss]

@[simp] theorem State.within_showPool (h : [.dict] ⊆ L) (s : State) :
    s₀.Within L s.showPool ↔ s₀.Within L s := by
  simp_all [State.showPool]

@[simp] theorem State.within_moveSlot (h : [.dict, .pool] ⊆ L) (s : State) (i p : Nat) :
    s₀.Within L (s.moveSlot i p) ↔ s₀.Within L s := by
  simp only [List.cons_subset, List.nil_subset, and_true] at h
  unfold State.moveSlot
  dsimp only
  have hpool (x : PoolSt) : s₀.Within L { s with pool := x } ↔ s₀.Within L s := State.within_set_pool (by simp [h]) x
  simp [h, hpool]

@[simp] theorem State.within_takeMove (h : [.dict, .slots, .pool] ⊆ L) (s : State) (i : Nat) :
    s₀.Within L (s.takeMove i) ↔ s₀.Within L s := by
  unfold State.takeMove
  split <;> simp_all

@[simp] theorem State.within_takeDest (h : [.dict, .slots] ⊆ L) (s : State) (i : Nat) :
    s₀.Within L (s.takeDest i) ↔ s₀.Within L s := by
  unfold State.takeDest
  dsimp only
  (repeat' split) <;> simp_all

@[simp] theorem State.within_takeManual (h : [.dict, .slots] ⊆ L) (s : State) (i : Nat) :
    s₀.Within L (s.takeManual i) ↔ s₀.Within L s := by
  simp_all [State.takeManual]

@[simp] theorem State.within_boundary (h : [.dict, .slots, .pool] ⊆ L) (s : State) (i : Nat) :
    s₀.Within L (s.boundary i) ↔ s₀.Within L s := by
  simp_all [State.boundary]

@[simp] theorem State.within_nutDark (h : [.dict, .plc, .ledger, .svc] ⊆ L) (s : State) (k : Nat) (b : PlacedBow)
    (hushed : Bool) :
    s₀.Within L (s.nutDark k b hushed) ↔ s₀.Within L s := by
  simp_all [State.nutDark]

@[simp] theorem State.within_retrainCommand (h : [.dict, .plc, .lanes, .ledger, .fet, .col, .capoC, .runs, .svc] ⊆ L)
    (s : State) (l : Nat) :
    s₀.Within L (s.retrainCommand l).1 ↔ s₀.Within L s := by
  simp_all [State.retrainCommand]

@[simp] theorem State.within_laserRearm (h : [.dict, .plc, .lanes, .ledger, .fet, .col, .capoC, .runs, .svc] ⊆ L)
    (s : State) (mask : Nat) :
    s₀.Within L (s.laserRearm mask).1 ↔ s₀.Within L s := by
  simp_all [State.laserRearm]

@[simp] theorem State.within_keepTrips (h : [.dict, .capoC, .svc] ⊆ L) (s : State) (k kept : Nat) :
    s₀.Within L (s.keepTrips k kept) ↔ s₀.Within L s := by
  simp_all [State.keepTrips]

@[simp] theorem State.within_rearm (h : [.dict, .capoC, .svc, .free] ⊆ L) (s : State) (mask : Nat) :
    s₀.Within L (s.rearm mask).1 ↔ s₀.Within L s := by
  simp_all [State.rearm]

@[simp] theorem State.within_moveToSpare (h : [.slots] ⊆ L) (s : State) (i : Nat) :
    s₀.Within L (s.moveToSpare i).1 ↔ s₀.Within L s := by
  unfold State.moveToSpare
  (repeat' split) <;> simp_all

@[simp] theorem State.within_setTime (h : [.dict, .clk, .frm] ⊆ L) (s : State) (t : Nat) :
    s₀.Within L (s.setTime t).1 ↔ s₀.Within L s := by
  simp_all [State.setTime]

@[simp] theorem State.within_capoRelease (h : [.dict, .frm, .bow, .plc, .lanes, .ledger, .fet, .col, .slots, .mir,
    .capo, .capoC, .runs, .svc] ⊆ L) (s : State) (k : Nat) (stopped : Bool) :
    s₀.Within L (s.capoRelease k stopped) ↔ s₀.Within L s := by
  simp_all [State.capoRelease]

@[simp] theorem State.within_clearBit10 (h : [.dict, .svc] ⊆ L) (s : State) :
    s₀.Within L s.clearBit10 ↔ s₀.Within L s := by
  simp_all [State.clearBit10]

@[simp] theorem State.within_startFailed (h : [.dict, .frm, .bow, .plc, .lanes, .ledger, .fet, .col, .slots, .mir,
    .capo, .capoC, .runs, .svc] ⊆ L) (s : State) (k : Nat) :
    s₀.Within L (s.startFailed k) ↔ s₀.Within L s := by
  simp_all [State.startFailed]

@[simp] theorem State.within_slowWindow (h : [.mir] ⊆ L) (s : State) (i : Nat) :
    s₀.Within L (s.slowWindow i) ↔ s₀.Within L s := by
  simp_all [State.slowWindow]

@[simp] theorem State.within_nutMove (h : [.dict, .frm, .bow, .plc, .lanes, .ledger, .fet, .col, .mir, .capo, .capoC,
    .runs, .svc] ⊆ L) (s : State) (k : Nat) :
    s₀.Within L (s.nutMove k).1 ↔ s₀.Within L s := by
  simp_all [State.nutMove]

@[simp] theorem State.within_publishModel (h : [.dict, .bow] ⊆ L) (s : State) (k : Nat) :
    s₀.Within L (s.publishModel k) ↔ s₀.Within L s := by
  simp_all [State.publishModel]

@[simp] theorem State.within_excursionBegins (h : [.dict, .frm, .bow, .plc, .ledger, .fet, .col, .mir, .capo, .capoC,
    .runs, .svc] ⊆ L) (s : State) (k t : Nat) (positive : Bool) :
    s₀.Within L (s.excursionBegins k t positive) ↔ s₀.Within L s := by
  unfold State.excursionBegins
  dsimp only
  (repeat' split) <;> simp_all

@[simp] theorem State.within_evalP2 (h : [.mir] ⊆ L) (s : State) (k : Nat) :
    s₀.Within L (s.evalP2 k) ↔ s₀.Within L s := by
  simp_all [State.evalP2]

@[simp] theorem State.within_frameEdge (h : [.dict, .frm] ⊆ L) (s : State) (i t : Nat) :
    s₀.Within L (s.frameEdge i t) ↔ s₀.Within L s := by
  simp_all [State.frameEdge]

@[simp] theorem State.within_markLines (h : [.syncs] ⊆ L) (s : State) (i : Nat) :
    s₀.Within L (s.markLines i) ↔ s₀.Within L s := by
  simp_all [State.markLines]

@[simp] theorem State.within_countEdge (h : [.dict, .syncs, .frm] ⊆ L) (s0 : State) (i t : Nat) :
    s₀.Within L (s0.countEdge i t) ↔ s₀.Within L s0 := by
  simp_all [State.countEdge]

@[simp] theorem State.within_standIns (h : [.dict, .syncs, .frm] ⊆ L) (s : State) (i t n : Nat) :
    s₀.Within L (s.standIns i t n) ↔ s₀.Within L s := by
  simp only [List.cons_subset, List.nil_subset, and_true] at h
  induction n generalizing s with
  | zero => rfl
  | succ n ih =>
    unfold State.standIns
    dsimp only
    split
    · split
      · rw [ih, State.within_countEdge (by simp [h]), State.within_syncsPut (by simp [h])]
      · rfl
    · rfl

@[simp] theorem State.within_showChecks (h : [.dict] ⊆ L) (s : State) (i : Nat) (chk sat : Bool) :
    s₀.Within L (s.showChecks i chk sat) ↔ s₀.Within L s := by
  simp_all [State.showChecks]

@[simp] theorem State.within_sendSpan (h : [.lanes] ⊆ L) (s : State) (b : PlacedBow) (p : LanePlan) :
    s₀.Within L (s.sendSpan b p) ↔ s₀.Within L s := by
  simp only [List.cons_subset, List.nil_subset, and_true] at h
  simp only [State.sendSpan]
  rw [State.within_queueBlock (by simp [h]), State.within_queueControl (by simp [h]),
    State.within_foldl _ fun s i => by simp [h], State.within_queueControl (by simp [h]),
    State.within_foldl _ fun s i => by simp [h], State.within_queueBlock (by simp [h])]

@[simp] theorem State.within_openSpans (h : [.plc, .lanes] ⊆ L) (s : State) (k : Nat) (b : PlacedBow) :
    s₀.Within L (s.openSpans k b) ↔ s₀.Within L s := by
  simp only [List.cons_subset, List.nil_subset, and_true] at h
  simp only [State.openSpans]
  rw [State.within_foldl _ fun s p => by split <;> simp [h], State.within_plcPut (by simp [h])]

@[simp] theorem State.within_excursionEnds (h : [.dict, .capoC] ⊆ L) (s : State) (k t : Nat) :
    s₀.Within L (s.excursionEnds k t) ↔ s₀.Within L s := by
  unfold State.excursionEnds
  dsimp only
  split <;> simp_all

@[simp] theorem State.within_seedModel (h : [.dict, .bow] ⊆ L) (s : State) (k : Nat) (fwd : Bool) (mid dt hp : Rat) :
    s₀.Within L (s.seedModel k fwd mid dt hp) ↔ s₀.Within L s := by
  simp_all [State.seedModel]

@[simp] theorem State.within_showAsymmetry (h : [.dict] ⊆ L) (s : State) (k : Nat) (mid : Rat) :
    s₀.Within L (s.showAsymmetry k mid) ↔ s₀.Within L s := by
  unfold State.showAsymmetry
  split <;> simp_all

@[simp] theorem State.within_updateModel (h : [.dict, .bow, .mir, .free] ⊆ L) (s : State) (k : Nat)
    (mid dt hpraw c2 : Rat) :
    s₀.Within L (s.updateModel k mid dt hpraw c2) ↔ s₀.Within L s := by
  simp_all [State.updateModel]

@[simp] theorem State.within_rejectPair (h : [.dict, .bow] ⊆ L) (s : State) (k : Nat) (mid : Rat) :
    s₀.Within L (s.rejectPair k mid) ↔ s₀.Within L s := by
  simp_all [State.rejectPair]

@[simp] theorem State.within_takePair (h : [.dict, .bow, .mir, .free] ⊆ L) (s : State) (k : Nat) (fwd : Bool)
    (mid dt hp : Rat) :
    s₀.Within L (s.takePair k fwd mid dt hp) ↔ s₀.Within L s := by
  unfold State.takePair
  dsimp only
  (repeat' split) <;> simp_all

@[simp] theorem State.within_acquireEdge (h : [.dict, .syncs, .frm, .svc] ⊆ L) (s : State) (i t : Nat) :
    s₀.Within L (s.acquireEdge i t) ↔ s₀.Within L s := by
  simp_all [State.acquireEdge]

@[simp] theorem State.within_syncEdge (h : [.dict, .syncs, .frm, .svc] ⊆ L) (s : State) (i t : Nat) :
    s₀.Within L (s.syncEdge i t) ↔ s₀.Within L s := by
  unfold State.syncEdge
  split <;> simp_all

@[simp] theorem State.within_takeIdent (h : [.dict] ⊆ L) (s : State) (k p : Nat) :
    s₀.Within L (s.takeIdent k p) ↔ s₀.Within L s := by
  unfold State.takeIdent
  split <;> simp_all

@[simp] theorem State.within_takeErrors (h : [.lanes] ⊆ L) (s : State) (p : Nat) :
    s₀.Within L (s.takeErrors p) ↔ s₀.Within L s := by
  unfold State.takeErrors
  split <;> simp_all

@[simp] theorem State.within_supervise (h : [.dict, .plc, .lanes, .ledger, .fet, .col, .slots, .capoC, .runs,
    .svc] ⊆ L) (s : State) (i : Nat) (spOk : Bool) :
    s₀.Within L (s.supervise i spOk) ↔ s₀.Within L s := by
  simp_all [State.supervise]

@[simp] theorem State.within_keepBack (h : [.slots] ⊆ L) (s : State) (i : Nat) :
    s₀.Within L (s.keepBack i) ↔ s₀.Within L s := by
  simp_all [State.keepBack]

@[simp] theorem State.within_takeStatus (h : [.dict, .rets] ⊆ L) (s : State) (k p : Nat) :
    s₀.Within L (s.takeStatus k p) ↔ s₀.Within L s := by
  simp_all [State.takeStatus]

@[simp] theorem State.within_actNow (h : [.slots] ⊆ L) (s : State) (i : Nat) (o : Int) :
    s₀.Within L (s.actNow i o) ↔ s₀.Within L s := by
  simp_all [State.actNow]

@[simp] theorem State.within_storeStep (h : [.dict, .slots] ⊆ L) (s : State) (i mode : Nat) (x : Int) (r : LoopRes) :
    s₀.Within L (s.storeStep i mode x r) ↔ s₀.Within L s := by
  simp_all [State.storeStep]

@[simp] theorem State.within_stepOn (h : [.dict, .plc, .lanes, .ledger, .fet, .col, .slots, .mir, .capoC, .runs,
    .svc] ⊆ L) (s : State) (i : Nat) (x : Int) :
    s₀.Within L (s.stepOn i x) ↔ s₀.Within L s := by
  simp_all [State.stepOn]

@[simp] theorem State.within_capoFaultNow (h : [.dict, .frm, .bow, .plc, .lanes, .ledger, .fet, .col, .slots, .mir,
    .capo, .capoC, .runs, .svc] ⊆ L) (s : State) :
    s₀.Within L s.capoFaultNow ↔ s₀.Within L s := by
  simp_all [State.capoFaultNow]

@[simp] theorem State.within_pullIn (h : [.dict, .mir, .free] ⊆ L) (s : State) (k : Nat) (m : RingMeas) :
    s₀.Within L (s.pullIn k m) ↔ s₀.Within L s := by
  simp_all [State.pullIn]

@[simp] theorem State.within_undoStep (h : [.dict, .slots] ⊆ L) (s : State) (i : Nat) :
    s₀.Within L (s.undoStep i) ↔ s₀.Within L s := by
  unfold State.undoStep
  dsimp only
  split <;> simp_all

@[simp] theorem State.within_sendDrone (h : [.lanes] ⊆ L) (s : State) (l b : Nat) :
    s₀.Within L (s.sendDrone l b) ↔ s₀.Within L s := by
  simp_all [State.sendDrone]

@[simp] theorem State.within_dropSpan (h : [.lanes] ⊆ L) (s : State) (b l : Nat) :
    s₀.Within L (s.dropSpan b l) ↔ s₀.Within L s := by
  simp_all [State.dropSpan]

@[simp] theorem State.within_releaseAxis (h : [.dict, .slots, .mir] ⊆ L) (s : State) (k : Nat) :
    s₀.Within L (s.releaseAxis k) ↔ s₀.Within L s := by
  simp_all [State.releaseAxis]

@[simp] theorem State.within_takeFault (h : [.dict, .store, .svc] ⊆ L) (s : State) (k p : Nat) :
    s₀.Within L (s.takeFault k p) ↔ s₀.Within L s := by
  simp_all [State.takeFault]

@[simp] theorem State.within_expireSyncIn (h : [.dict, .plc, .lanes, .ledger, .fet, .col, .capoC, .runs, .svc] ⊆ L)
    (s : State) :
    s₀.Within L s.expireSyncIn ↔ s₀.Within L s := by
  simp_all [State.expireSyncIn]

end

end Sys2Proof.Machine

/-! PROOF. What each operation that a passing slot brings may change. -/

namespace Sys2Proof.Machine

open Sys2Proof

section

set_option Elab.async false

variable {s₀ : State} {L : List Part}

@[simp] theorem State.within_chansPut (h : [.chans] ⊆ L) (s : State) (k : Nat) (x : ChanSt) :
    s₀.Within L (s.chansPut k x) ↔ s₀.Within L s :=
  State.within_of_taking rfl h

@[simp] theorem State.within_cancelWriteBack (h : [.chans] ⊆ L) (s : State) (c unit : Nat) :
    s₀.Within L (s.cancelWriteBack c unit) ↔ s₀.Within L s := by
  simp_all [State.cancelWriteBack]

@[simp] theorem State.within_queuePut (h : [.queues] ⊆ L) (s : State) (q : Nat) (x : QueueRec) :
    s₀.Within L (s.queuePut q x) ↔ s₀.Within L s :=
  State.within_of_taking rfl h

@[simp] theorem State.within_flowsPut (h : [.flows] ⊆ L) (s : State) (k : Nat) (x : FlowSt) :
    s₀.Within L (s.flowsPut k x) ↔ s₀.Within L s :=
  State.within_of_taking rfl h

@[simp] theorem State.within_dropBuffer (h : [.flows] ⊆ L) (s : State) (c b : Nat) :
    s₀.Within L (s.dropBuffer c b) ↔ s₀.Within L s := by
  simp_all [State.dropBuffer]

@[simp] theorem State.within_stampOver (h : [.canvases] ⊆ L) (s : State) (c stamp : Nat) :
    s₀.Within L (s.stampOver c stamp) ↔ s₀.Within L s := by
  simp_all [State.stampOver]

@[simp] theorem State.within_contentArrived (h : [.frm] ⊆ L) (s : State) (c : Nat) :
    s₀.Within L (s.contentArrived c) ↔ s₀.Within L s := by
  simp_all [State.contentArrived]

@[simp] theorem State.within_readyBuf (h : [.dict, .canvases] ⊆ L) (s : State) (c b kind : Nat) (target : Int) :
    s₀.Within L (s.readyBuf c b kind target) ↔ s₀.Within L s := by
  simp_all [State.readyBuf]

@[simp] theorem State.within_flowReady (h : [.dict, .frm, .canvases, .flows] ⊆ L) (s : State) (c b stamp : Nat) :
    s₀.Within L (s.flowReady c b stamp) ↔ s₀.Within L s := by
  simp_all [State.flowReady]

@[simp] theorem State.within_flowIncomplete (h : [.dict, .frm, .canvases, .flows] ⊆ L) (s : State) (c b stamp : Nat) :
    s₀.Within L (s.flowIncomplete c b stamp) ↔ s₀.Within L s := by
  simp_all [State.flowIncomplete]

@[simp] theorem State.within_queueCommit (h : [.queues] ⊆ L) (s : State) (q : Nat) :
    s₀.Within L (s.queueCommit q) ↔ s₀.Within L s := by
  simp_all [State.queueCommit]

@[simp] theorem State.within_discardFrames (h : [.canvases, .flows] ⊆ L) (s : State) (f : Nat) (canvas : Option Nat) :
    s₀.Within L (s.discardFrames f canvas) ↔ s₀.Within L s := by
  simp only [List.cons_subset, List.nil_subset, and_true] at h
  unfold State.discardFrames
  dsimp only
  split
  · simp [h]
  · rw [State.within_foldl _ fun s x => by split <;> simp [h], State.within_flowsPut (by simp [h])]

@[simp] theorem State.within_flowAnew (h : [.canvases, .flows] ⊆ L) (s : State) (f : Nat) (canvas : Option Nat)
    (skip : Option Nat) :
    s₀.Within L (s.flowAnew f canvas skip) ↔ s₀.Within L s := by
  simp_all [State.flowAnew]

@[simp] theorem State.within_candidate (h : [.chans] ⊆ L) (s : State) (c unit : Nat) :
    s₀.Within L (s.candidate c unit) ↔ s₀.Within L s := by
  simp_all [State.candidate]

@[simp] theorem State.within_correctedUnit (h : [.dict, .chans] ⊆ L) (s : State) (c unit : Nat) :
    s₀.Within L (s.correctedUnit c unit) ↔ s₀.Within L s := by
  simp_all [State.correctedUnit]

@[simp] theorem State.within_garble (h : [.mem, .free, .cells] ⊆ L) (s : State) (c unit : Nat) :
    s₀.Within L (s.garble c unit) ↔ s₀.Within L s :=
  State.within_of_taking rfl h

@[simp] theorem State.within_uncorrectable (h : [.dict, .store, .mem, .chans, .svc] ⊆ L) (s : State)
    (c unit port found : Nat) :
    s₀.Within L (s.uncorrectable c unit port found) ↔ s₀.Within L s := by
  simp only [List.cons_subset, List.nil_subset, and_true] at h
  have hmem (x : MemSt) (hx : x.cells = s.mem.cells) : s₀.Within L { s with mem := x } ↔ s₀.Within L s :=
    State.within_set_mem (by simp [h]) hx
  simp only [State.uncorrectable]
  rw [State.within_candidate (by simp [h]), State.within_bump (by simp [h]), State.within_bump (by simp [h]),
    State.within_putN (by simp [h]), State.within_logCritical (by simp [h])]
  exact hmem _ rfl

@[simp] theorem State.within_checkUnit (h : [.dict, .store, .mem, .chans, .svc, .free, .cells] ⊆ L) (s : State)
    (c unit port found bad : Nat) :
    s₀.Within L (s.checkUnit c unit port found bad).1 ↔ s₀.Within L s := by
  simp only [List.cons_subset, List.nil_subset, and_true] at h
  have hfree : s₀.Within L { s with free := s.free + 1 } ↔ s₀.Within L s := State.within_set_free (by simp [h]) _
  unfold State.checkUnit
  (repeat' split) <;> simp [h, hfree]

@[simp] theorem State.within_readUnit (h : [.dict, .store, .mem, .chans, .svc, .free, .cells] ⊆ L) (s : State)
    (cls : AddrClass) (a port found bad : Nat) :
    s₀.Within L (s.readUnit cls a port found bad).1 ↔ s₀.Within L s :=
  State.within_checkUnit h _ _ _ _ _ _

@[simp] theorem State.within_writePiece (h : [.dict, .store, .mem, .chans, .svc, .free, .cells] ⊆ L) (s : State)
    (cls : AddrClass) (port bad a : Nat) (d : List Byte) :
    s₀.Within L (s.writePiece cls port bad a d).1 ↔ s₀.Within L s := by
  have hmem (t : State) (x : MemSt) : s₀.Within L { t with mem := x } ↔ s₀.Within L t :=
    State.within_set_cells (by simp_all) x
  simp only [List.cons_subset, List.nil_subset, and_true] at h
  unfold State.writePiece
  dsimp only
  split
  · rw [State.within_cancelWriteBack (by simp [h]), hmem]
  · split
    · simp [h]
    · rw [State.within_cancelWriteBack (by simp [h]), hmem, State.within_readUnit (by simp [h])]

@[simp] theorem State.within_writeSpan (h : [.dict, .store, .mem, .chans, .svc, .free, .cells] ⊆ L) (s : State)
    (cls : AddrClass) (port bad a : Nat) (d : List Byte) :
    s₀.Within L (s.writeSpan cls port bad a d).1 ↔ s₀.Within L s := by
  simp only [List.cons_subset, List.nil_subset, and_true] at h
  exact State.within_foldl_fst _ (fun x p => by simp [h]) _

@[simp] theorem State.within_dataWrite (h : [.dict, .store, .mem, .chans, .svc, .free, .cells] ⊆ L) (s : State)
    (port a : Nat) (d : List Byte) :
    s₀.Within L (s.dataWrite port a d).1 ↔ s₀.Within L s :=
  State.within_writeSpan h _ _ _ _ _ _

@[simp] theorem State.within_flowSource (h : [.canvases, .flows] ⊆ L) (s : State) (f ssrc : Nat) :
    s₀.Within L (s.flowSource f ssrc) ↔ s₀.Within L s := by
  unfold State.flowSource
  split <;> simp_all

@[simp] theorem State.within_writePixels (h : [.dict, .store, .mem, .chans, .svc, .free, .cells] ⊆ L) (s : State)
    (port c b : Nat) (px : List (Nat × Nat × List Byte)) :
    s₀.Within L (s.writePixels port c b px) ↔ s₀.Within L s := by
  simp only [List.cons_subset, List.nil_subset, and_true] at h
  exact State.within_foldl _ fun s p => by simp [h]

@[simp] theorem State.within_endFrame (h : [.dict, .frm, .canvases, .flows] ⊆ L) (s : State) (f : Nat) (a : Assembly)
    (complete : Bool) :
    s₀.Within L (s.endFrame f a complete) ↔ s₀.Within L s := by
  simp only [List.cons_subset, List.nil_subset, and_true] at h
  unfold State.endFrame
  dsimp only
  split
  · split
    · split <;> simp [h]
    · simp [h]
  · simp [h]

@[simp] theorem State.within_endComplete (h : [.dict, .frm, .canvases, .flows] ⊆ L) (s : State) (f n : Nat) :
    s₀.Within L (s.endComplete f n) ↔ s₀.Within L s := by
  simp only [List.cons_subset, List.nil_subset, and_true] at h
  induction n generalizing s with
  | zero => rfl
  | succ n ih =>
    unfold State.endComplete
    split
    · rfl
    · rw [ih, State.within_endFrame (by simp [h])]

@[simp] theorem State.within_writeRows (h : [.dict, .store, .mem, .chans, .svc, .free, .cells] ⊆ L) (s : State)
    (port f c b : Nat) (raw : Tab (Nat × Nat × Nat × Nat)) (rows : List SampleRow) :
    s₀.Within L (s.writeRows port f c b raw rows) ↔ s₀.Within L s := by
  simp only [List.cons_subset, List.nil_subset, and_true] at h
  exact State.within_foldl _ fun s p => by simp [h]

@[simp] theorem State.within_newFrame (h : [.dict, .canvases, .flows] ⊆ L) (s : State) (f stamp seq : Nat) :
    s₀.Within L (s.newFrame f stamp seq) ↔ s₀.Within L s := by
  unfold State.newFrame
  (repeat' split) <;> simp_all

@[simp] theorem State.within_joinPacket (h : [.dict, .store, .frm, .canvases, .flows, .mem, .chans, .svc, .free,
    .cells] ⊆ L) (s : State) (f port : Nat) (p : RtpPacket) :
    s₀.Within L (s.joinPacket f port p) ↔ s₀.Within L s := by
  simp only [List.cons_subset, List.nil_subset, and_true] at h
  unfold State.joinPacket
  dsimp only
  rw [State.within_endComplete (by simp [h])]
  (repeat' split) <;> simp [h]

@[simp] theorem State.within_flowSeen (h : [.dict, .flows] ⊆ L) (s : State) (f port : Nat) :
    s₀.Within L (s.flowSeen f port) ↔ s₀.Within L s := by
  simp_all [State.flowSeen]

@[simp] theorem State.within_flowPacket (h : [.dict, .store, .frm, .canvases, .flows, .mem, .chans, .svc, .free,
    .cells] ⊆ L) (s0 : State) (f port : Nat) (p : RtpPacket) :
    s₀.Within L (s0.flowPacket f port p) ↔ s₀.Within L s0 := by
  simp only [List.cons_subset, List.nil_subset, and_true] at h
  unfold State.flowPacket
  dsimp only
  split
  · simp [h]
  · (repeat' split) <;> simp [h]

@[simp] theorem State.within_rxDeliver (h : [.dict, .store, .frm, .canvases, .flows, .mem, .chans, .queues, .svc,
    .free, .cells] ⊆ L) (s : State) (port : Nat) (p : RtpPacket) :
    s₀.Within L (s.rxDeliver port p) ↔ s₀.Within L s := by
  simp_all [State.rxDeliver]

@[simp] theorem State.within_arrive (h : [.dict, .frm] ⊆ L) (s : State) (k : Nat) :
    s₀.Within L (s.arrive k) ↔ s₀.Within L s := by
  simp only [List.cons_subset, List.nil_subset, and_true] at h
  unfold State.arrive
  dsimp only
  split
  · rfl
  · rw [State.within_foldl _ fun s t => by simp [h], State.within_frmPut (by simp [h])]

@[simp] theorem State.within_rxDrain (h : [.dict, .store, .frm, .canvases, .flows, .rx, .mem, .chans, .queues, .svc,
    .free, .cells] ⊆ L) (s : State) :
    s₀.Within L s.rxDrain ↔ s₀.Within L s := by
  simp only [List.cons_subset, List.nil_subset, and_true] at h
  unfold State.rxDrain
  split
  · rfl
  · rw [State.within_foldl _ fun s x => by simp [h]]
    exact State.within_set_rx (by simp [h]) _

@[simp] theorem State.within_departBlock (h : [.lanes, .out] ⊆ L) (s : State) (b l : Nat) :
    s₀.Within L (s.departBlock b l) ↔ s₀.Within L s := by
  simp_all [State.departBlock]

@[simp] theorem State.within_transmit (h : [.lanes, .out] ⊆ L) (s : State) (b : Nat) :
    s₀.Within L (s.transmit b) ↔ s₀.Within L s := by
  simp_all [State.transmit]

end

end Sys2Proof.Machine

/-! PROOF. What each command of time, lanes, mirrors and the capo may change. -/

namespace Sys2Proof.Machine

open Sys2Proof

section

set_option Elab.async false

variable (s : State)

theorem exec_ptpDelayResponse_within (port : PortId) (delay : PtpDelayMessage) :
    Completes (.ptpDelayResponse port delay) s (s.Within [.dict]) :=
  ⟨_, rfl, by simp⟩

theorem exec_duplicateNodeClear_within :
    Completes .duplicateNodeClear s (s.Within [.dict]) :=
  ⟨_, rfl, by simp⟩

theorem exec_phaseLocked_within (k : CourseId) :
    Completes (.phaseLocked k) s (s.Within [.dict]) :=
  ⟨_, rfl, by simp⟩

theorem exec_phaseLockLost_within (k : CourseId) :
    Completes (.phaseLockLost k) s (s.Within [.dict]) :=
  ⟨_, rfl, by simp⟩

theorem exec_hushUnconfirmed_within (l : LaneId) :
    Completes (.hushUnconfirmed l) s (s.Within [.dict]) :=
  ⟨_, rfl, by simp⟩

theorem exec_contentFollowHoldover_within (k : CourseId) :
    Completes (.contentFollowHoldover k) s (s.Within [.frm]) :=
  ⟨_, rfl, by simp⟩

theorem exec_consortPeerAbsent_within (id : Fin 65536) (node : Fin 262144) :
    Completes (.consortPeerAbsent id node) s (s.Within [.beacon]) :=
  ⟨_, rfl, by simp⟩

theorem exec_emitOkDrop_within (k : CourseId) :
    Completes (.emitOkDrop k) s (s.Within [.capo]) :=
  ⟨_, rfl, by simp⟩

theorem exec_laneRetrainQuietEnd_within (l : LaneId) :
    Completes (.laneRetrainQuietEnd l) s (s.Within [.lanes]) :=
  ⟨_, rfl, by simp⟩

theorem exec_droneTimer_within (l : LaneId) :
    Completes (.droneTimer l) s (s.Within [.lanes]) :=
  ⟨_, rfl, by simp⟩

theorem exec_align_within (l : LaneId) (block : Nat) :
    Completes (.align l block) s (s.Within [.lanes]) :=
  ⟨_, rfl, by simp⟩

theorem exec_shaftIndex_within (j : Fin 8) :
    Completes (.shaftIndex j) s (s.Within [.shafts]) :=
  ⟨_, rfl, by simp⟩

theorem exec_ptpAnnounce_within (port : PortId) (a : Announce) :
    Completes (.ptpAnnounce port a) s (s.Within [.dict, .servo]) :=
  ⟨_, rfl, by simp⟩

theorem exec_announceReceiptTimeout_within :
    Completes .announceReceiptTimeout s (s.Within [.dict, .servo]) :=
  ⟨_, rfl, by simp⟩

theorem exec_ptpFrameEpoch_within (k : CourseId) :
    Completes (.ptpFrameEpoch k) s (s.Within [.dict, .frm]) :=
  ⟨_, rfl, by simp⟩

theorem exec_contentFollowPeriodEnd_within (k : CourseId) :
    Completes (.contentFollowPeriodEnd k) s (s.Within [.dict, .frm]) :=
  ⟨_, rfl, by simp⟩

theorem exec_repeatFrame_within (k : CourseId) :
    Completes (.repeatFrame k) s (s.Within [.dict, .frm]) :=
  ⟨_, rfl, by simp⟩

theorem exec_moveToSpare_within (m : MasterId) (slot : Nat) :
    Completes (.moveToSpare m slot) s (s.Within [.oz, .slots]) :=
  ⟨_, rfl, by simp⟩

theorem exec_beaconSend_within (id : Fin 65536) :
    Completes (.beaconSend id) s (s.Within [.beacon, .out]) :=
  ⟨_, rfl, by simp⟩

theorem exec_beaconReceive_within (msg : List Byte) :
    Completes (.beaconReceive msg) s (s.Within [.dict, .beacon]) := by
  refine ⟨_, rfl, ?_⟩
  dsimp only
  split
  · split
    · simp
    · refine (State.within_set_beacon (by simp) _).mpr ?_
      split <;> simp
  · simp

theorem exec_retIdle_within (k : CourseId) (wire : BitVec 66) :
    Completes (.retIdle k wire) s (s.Within [.dict, .rets]) :=
  ⟨_, rfl, by simp⟩

theorem exec_retStatus_within (k : CourseId) (wire : BitVec 66) :
    Completes (.retStatus k wire) s (s.Within [.dict, .rets]) :=
  ⟨_, rfl, by simp⟩

theorem exec_retIdent_within (k : CourseId) (wire : BitVec 66) :
    Completes (.retIdent k wire) s (s.Within [.dict, .rets]) :=
  ⟨_, rfl, by simp⟩

theorem exec_returnBlockInvalid_within (b : ReturnBlock) :
    Completes (.returnBlockInvalid b) s (s.Within [.dict, .rets]) :=
  ⟨_, rfl, by simp⟩

theorem exec_returnLaneDown_within (k : CourseId) :
    Completes (.returnLaneDown k) s (s.Within [.dict, .rets]) :=
  ⟨_, rfl, by simp⟩

theorem exec_syncInHoldover_within (i : Fin 4) :
    Completes (.syncInHoldover i) s (s.Within [.dict, .syncs, .frm]) :=
  ⟨_, rfl, by simp⟩

theorem exec_loopOutputWrite_within (i : SlotId) :
    Completes (.loopOutputWrite i) s (s.Within [.dict, .slots, .mir]) := by
  refine ⟨_, rfl, ?_⟩
  split <;> simp

theorem exec_excitationStart_within (k : CourseId) :
    Completes (.excitationStart k) s (s.Within [.dict, .slots, .mir]) :=
  ⟨_, rfl, by simp⟩

theorem exec_ringWindowStart_within (k : CourseId) :
    Completes (.ringWindowStart k) s (s.Within [.dict, .slots, .mir]) :=
  ⟨_, rfl, by simp⟩

theorem exec_axisEnRelease_within (k : CourseId) :
    Completes (.axisEnRelease k) s (s.Within [.dict, .slots, .mir]) :=
  ⟨_, rfl, by simp⟩

theorem exec_vaonValid_within (sel : BitVec 3) :
    Completes (.vaonValid sel) s (s.Within [.dict, .capo, .capoC]) := by
  refine ⟨_, rfl, ?_⟩
  dsimp only
  split
  · simp
  · rw [State.within_capoDefaults (by simp), State.within_putN (by simp)]
    exact (State.within_of_taking (M := [.capo, .capoC]) rfl (by simp)).mpr (State.within_refl _ _)

theorem exec_interlockRise_within :
    Completes .interlockRise s (s.Within [.dict, .capo, .svc]) :=
  ⟨_, rfl, by simp⟩

theorem exec_retErrors_within (k : CourseId) (wire : BitVec 66) :
    Completes (.retErrors k wire) s (s.Within [.dict, .lanes, .rets]) :=
  ⟨_, rfl, by simp⟩

theorem exec_setTime_within (m : MasterId) (t : Nat) :
    Completes (.setTime m t) s (s.Within [.dict, .oz, .clk, .frm]) :=
  ⟨_, rfl, by simp⟩

theorem exec_syncInEdge_within (i : Fin 4) (falling : Bool) (t : Nat) :
    Completes (.syncInEdge i falling t) s (s.Within [.dict, .syncs, .frm, .svc]) :=
  ⟨_, rfl, by simp⟩

theorem exec_trackerUpdate_within (k : CourseId) (bow : Nat) :
    Completes (.trackerUpdate k bow) s (s.Within [.dict, .mir, .svc, .free]) := by
  refine ⟨_, rfl, ?_⟩
  split <;> simp

theorem exec_senseCrossingStamp_within (k : CourseId) (upper : Bool) (shown64 : Nat) :
    Completes (.senseCrossingStamp k upper shown64) s (s.Within [.dict, .bow, .mir, .free]) := by
  refine ⟨_, rfl, ?_⟩
  (repeat' split) <;> simp

theorem exec_retFault_within (k : CourseId) (wire : BitVec 66) :
    Completes (.retFault k wire) s (s.Within [.dict, .store, .rets, .svc]) :=
  ⟨_, rfl, by simp⟩

theorem exec_ptpSync_within (port : PortId) (sync : PtpSyncMessage) :
    Completes (.ptpSync port sync) s (s.Within [.dict, .clk, .servo, .frm, .svc]) :=
  ⟨_, rfl, by simp⟩

theorem exec_rearm_within (m : MasterId) (mask : BitVec 32) :
    Completes (.rearm m mask) s (s.Within [.dict, .oz, .capoC, .svc, .free]) :=
  ⟨_, rfl, by simp⟩

theorem exec_capoHush_within (trips : BitVec 5) (whole : List HushTrigger) (courses : BitVec 32) :
    Completes (.capoHush trips whole courses) s (s.Within [.dict, .plc, .lanes, .ledger, .capo, .svc]) := by
  refine ⟨_, rfl, ?_⟩
  dsimp only
  split
  · simp
  · refine (State.within_set_capo (by simp) _).mpr ?_
    simp

theorem exec_laneRetrainTimeout_within (l : LaneId) :
    Completes (.laneRetrainTimeout l) s (s.Within [.dict, .plc, .lanes, .ledger, .fet, .col, .capoC, .runs, .svc]) :=
  ⟨_, rfl, by simp⟩

theorem exec_shaftLineRestored_within (j : Fin 8) :
    Completes (.shaftLineRestored j) s (s.Within [.dict, .plc, .lanes, .ledger, .fet, .col, .capoC, .runs, .svc]) :=
  ⟨_, rfl, by simp⟩

theorem exec_shaftStopped_within (j : Fin 8) :
    Completes (.shaftStopped j) s (s.Within [.dict, .plc, .lanes, .ledger, .fet, .col, .capoC, .runs, .svc]) :=
  ⟨_, rfl, by simp⟩

theorem exec_holdoverExpired_within :
    Completes .holdoverExpired s (s.Within [.dict, .servo, .plc, .lanes, .ledger, .fet, .col, .capoC, .runs, .svc]) :=
        by
  refine ⟨_, rfl, ?_⟩
  rw [State.within_expireSyncIn (by simp)]
  split
  · rw [State.within_expireRef (by simp)]
    refine (State.within_set_servo (by simp) _).mpr ?_
    simp
  · simp

theorem exec_lanesOff_within :
    Completes .lanesOff s (s.Within [.dict, .clk, .plc, .lanes, .ledger, .fet, .col, .capoC, .runs, .svc]) := by
  refine ⟨_, rfl, ?_⟩
  dsimp only
  split
  · simp
  · refine (State.within_set_clk (by simp) _).mpr ?_
    simp

theorem exec_retLane_within (k : CourseId) (wire : BitVec 66) :
    Completes (.retLane k wire) s (s.Within [.dict, .plc, .lanes, .rets, .ledger, .fet, .col, .capoC, .runs, .svc]) :=
  ⟨_, rfl, by simp⟩

theorem exec_laneRetrainCommand_within (m : MasterId) (lane : Nat) :
    Completes (.laneRetrainCommand m lane) s (s.Within [.dict, .oz, .plc, .lanes, .ledger, .fet, .col, .capoC, .runs,
        .svc]) :=
  ⟨_, rfl, by simp⟩

theorem exec_laserRearm_within (m : MasterId) (mask : BitVec 32) :
    Completes (.laserRearm m mask) s (s.Within [.dict, .oz, .plc, .lanes, .ledger, .fet, .col, .capoC, .runs, .svc]) :=
  ⟨_, rfl, by simp⟩

theorem exec_quadPllLoss_within (q : Fin 68) :
    Completes (.quadPllLoss q) s (s.Within [.dict, .store, .plc, .lanes, .ledger, .fet, .col, .capoC, .runs, .svc]) :=
  ⟨_, rfl, by simp⟩

theorem exec_renderSliceFault_within (slice : Fin 36) :
    Completes (.renderSliceFault slice) s (s.Within [.dict, .store, .plc, .lanes, .ledger, .fet, .col, .capoC, .runs,
        .svc]) := by
  refine ⟨_, rfl, ?_⟩
  dsimp only
  (repeat' split) <;> simp

theorem exec_shaftLineBreak_within (j : Fin 8) :
    Completes (.shaftLineBreak j) s (s.Within [.dict, .shafts, .plc, .lanes, .ledger, .fet, .col, .capoC, .runs, .svc])
        :=
  ⟨_, rfl, by simp⟩

theorem exec_interlockTrip_within :
    Completes .interlockTrip s (s.Within [.dict, .frm, .bow, .plc, .ledger, .fet, .col, .mir, .capo, .capoC, .runs,
        .svc]) :=
  ⟨_, rfl, by simp⟩

theorem exec_scanExcursion_within (k : CourseId) (positive begins : Bool) (t : Nat) :
    Completes (.scanExcursion k positive begins t) s (s.Within [.dict, .frm, .bow, .plc, .ledger, .fet, .col, .mir,
        .capo, .capoC, .runs, .svc]) :=
  ⟨_, rfl, by simp⟩

theorem exec_scanWatchMiss_within (k : CourseId) (t : Nat) :
    Completes (.scanWatchMiss k t) s (s.Within [.dict, .frm, .bow, .plc, .ledger, .fet, .col, .mir, .capo, .capoC,
        .runs, .svc]) :=
  ⟨_, rfl, by simp⟩

theorem exec_energyTrip_within (string : CanvasId) :
    Completes (.energyTrip string) s (s.Within [.dict, .frm, .bow, .plc, .ledger, .fet, .col, .mir, .capo, .capoC,
        .runs, .svc]) := by
  refine ⟨_, rfl, ?_⟩
  (repeat' split) <;> simp

theorem exec_bowStart_within (k : CourseId) :
    Completes (.bowStart k) s (s.Within [.dict, .frm, .bow, .plc, .ledger, .fet, .col, .capt, .inputs, .mir, .energy,
        .mem]) :=
  ⟨_, rfl, by simp⟩

theorem exec_nutReached_within (k : CourseId) (queued : Bool) :
    Completes (.nutReached k queued) s (s.Within [.dict, .frm, .bow, .plc, .lanes, .ledger, .fet, .col, .mir, .capo,
        .capoC, .runs, .svc]) := by
  refine ⟨_, rfl, ?_⟩
  (repeat' split) <;> simp

theorem exec_shaftCount_within (j : Fin 8) (a b : Bool) :
    Completes (.shaftCount j a b) s (s.Within [.dict, .shafts, .frm, .plc, .lanes, .ledger, .canvases, .fet, .col,
        .capoC, .runs, .svc]) :=
  ⟨_, rfl, by simp⟩

theorem exec_ssiPoll_within (j : Fin 8) (f : SsiFrame) :
    Completes (.ssiPoll j f) s (s.Within [.dict, .shafts, .frm, .plc, .lanes, .ledger, .canvases, .fet, .col, .capoC,
        .runs, .svc]) :=
  ⟨_, rfl, by simp⟩

theorem exec_loopStep_within (i : SlotId) (earlier : List Int) (latest : Option Int) :
    Completes (.loopStep i earlier latest) s (s.Within [.dict, .plc, .lanes, .ledger, .fet, .col, .senses, .slots,
        .pool, .mir, .capoC, .runs, .svc]) := by
  refine ⟨_, rfl, ?_⟩
  dsimp only
  (repeat' split) <;> simp

theorem exec_startTimeout_within (k : CourseId) :
    Completes (.startTimeout k) s (s.Within [.dict, .frm, .bow, .plc, .lanes, .ledger, .fet, .col, .slots, .mir, .capo,
        .capoC, .runs, .svc]) :=
  ⟨_, rfl, by simp⟩

theorem exec_mirrorFailed_within (k : CourseId) :
    Completes (.mirrorFailed k) s (s.Within [.dict, .frm, .bow, .plc, .lanes, .ledger, .fet, .col, .slots, .mir, .capo,
        .capoC, .runs, .svc]) :=
  ⟨_, rfl, by simp⟩

theorem exec_loopRefclkHoldExpired_within :
    Completes .loopRefclkHoldExpired s (s.Within [.dict, .frm, .bow, .plc, .lanes, .ledger, .fet, .col, .slots, .mir,
        .capo, .capoC, .runs, .svc]) :=
  ⟨_, rfl, by simp⟩

theorem exec_capoSelfTestComplete_within (pass : Bool) :
    Completes (.capoSelfTestComplete pass) s (s.Within [.dict, .frm, .bow, .plc, .lanes, .ledger, .fet, .col, .slots,
        .mir, .capo, .capoC, .runs, .svc]) :=
  ⟨_, rfl, by simp⟩

theorem exec_capoFault_within (deviation : Int) :
    Completes (.capoFault deviation) s (s.Within [.dict, .frm, .bow, .plc, .lanes, .ledger, .fet, .col, .slots, .mir,
        .capo, .capoC, .runs, .svc]) :=
  ⟨_, rfl, by simp⟩

theorem exec_overtravelTrip_within (k : CourseId) :
    Completes (.overtravelTrip k) s (s.Within [.dict, .frm, .bow, .plc, .lanes, .ledger, .fet, .col, .slots, .mir,
        .capo, .capoC, .runs, .svc]) :=
  ⟨_, rfl, by simp⟩

theorem exec_ringWindowEnd_within (k : CourseId) (m : RingMeas) :
    Completes (.ringWindowEnd k m) s (s.Within [.dict, .frm, .bow, .plc, .lanes, .ledger, .fet, .col, .slots, .mir,
        .capo, .capoC, .runs, .svc, .free]) :=
  ⟨_, rfl, by simp⟩

theorem exec_loopSlotFault_within (phys : Fin 96) :
    Completes (.loopSlotFault phys) s (s.Within [.dict, .store, .frm, .bow, .plc, .lanes, .ledger, .fet, .col, .slots,
        .pool, .mir, .capo, .capoC, .runs, .svc]) := by
  refine ⟨_, rfl, ?_⟩
  dsimp only
  (repeat' split) <;> simp

end

end Sys2Proof.Machine

namespace Sys2Proof.Machine
open Sys2Proof
section
variable {c : Instr} {s t : State} {L M : List Part}

theorem Completes.mono (h : Completes c s (s.Within M)) (hsub : M ⊆ L) : Completes c s (s.Within L) := by
  obtain ⟨t, ht, hwithin⟩ := h
  exact ⟨t, ht, hwithin.mono hsub⟩

/-- What a command that has answered leaves but for the parts named. -/
theorem Completes.frame (h : Completes c s (s.Within L)) (hexec : exec c s = .next t) : t = s.taking L t :=
  (h.of_exec hexec).eq_taking

theorem frames {l : List Instr} (h : ∀ c ∈ l, Completes c s (s.Within L)) :
    ∀ c ∈ l, ∀ t, exec c s = .next t → t = s.taking L t := fun c hc _ hexec => (h c hc).frame hexec

end
end Sys2Proof.Machine

namespace Sys2Proof.Proofs

open Sys2Proof Sys2Proof.Machine

/-- Settles O58: each operation changes its own parts only, and so does a command that is made of them. -/
theorem framesOfTimeLanesAndMirrors : Obligations.FramesOfTimeLanesAndMirrors := by
  unfold Obligations.FramesOfTimeLanesAndMirrors
  intro s
  exact ⟨
    fun port delay k l => frames (L := [.dict]) (by
      simp only [List.forall_mem_cons]
      exact ⟨exec_ptpDelayResponse_within s port delay,
        exec_duplicateNodeClear_within s,
        exec_phaseLocked_within s k,
        exec_phaseLockLost_within s k,
        exec_hushUnconfirmed_within s l, by simp⟩),
    fun k t hexec => (exec_contentFollowHoldover_within s k).frame hexec,
    fun id node t hexec => (exec_consortPeerAbsent_within s id node).frame hexec,
    fun k t hexec => (exec_emitOkDrop_within s k).frame hexec,
    fun l block => frames (L := [.lanes]) (by
      simp only [List.forall_mem_cons]
      exact ⟨exec_laneRetrainQuietEnd_within s l,
        exec_droneTimer_within s l,
        exec_align_within s l block, by simp⟩),
    fun j t hexec => (exec_shaftIndex_within s j).frame hexec,
    fun port a => frames (L := [.dict, .servo]) (by
      simp only [List.forall_mem_cons]
      exact ⟨exec_ptpAnnounce_within s port a,
        exec_announceReceiptTimeout_within s, by simp⟩),
    fun k => frames (L := [.dict, .frm]) (by
      simp only [List.forall_mem_cons]
      exact ⟨exec_ptpFrameEpoch_within s k,
        exec_contentFollowPeriodEnd_within s k,
        exec_repeatFrame_within s k, by simp⟩),
    fun m slot t hexec => (exec_moveToSpare_within s m slot).frame hexec,
    fun id t hexec => (exec_beaconSend_within s id).frame hexec,
    fun msg t hexec => (exec_beaconReceive_within s msg).frame hexec,
    fun k wire b => frames (L := [.dict, .rets]) (by
      simp only [List.forall_mem_cons]
      exact ⟨exec_retIdle_within s k wire,
        exec_retStatus_within s k wire,
        exec_retIdent_within s k wire,
        exec_returnBlockInvalid_within s b,
        exec_returnLaneDown_within s k, by simp⟩),
    fun i t hexec => (exec_syncInHoldover_within s i).frame hexec,
    fun s0 k => frames (L := [.dict, .slots, .mir]) (by
      simp only [List.forall_mem_cons]
      exact ⟨exec_loopOutputWrite_within s s0,
        exec_excitationStart_within s k,
        exec_ringWindowStart_within s k,
        exec_axisEnRelease_within s k, by simp⟩),
    fun sel t hexec => (exec_vaonValid_within s sel).frame hexec,
    fun t hexec => (exec_interlockRise_within s).frame hexec,
    fun k wire t hexec => (exec_retErrors_within s k wire).frame hexec,
    fun m t0 t hexec => (exec_setTime_within s m t0).frame hexec,
    fun i falling t0 t hexec => (exec_syncInEdge_within s i falling t0).frame hexec,
    fun k bow t hexec => (exec_trackerUpdate_within s k bow).frame hexec,
    fun k upper t64 t hexec => (exec_senseCrossingStamp_within s k upper t64).frame hexec,
    fun k wire t hexec => (exec_retFault_within s k wire).frame hexec,
    fun port sync t hexec => (exec_ptpSync_within s port sync).frame hexec,
    fun m mask t hexec => (exec_rearm_within s m mask).frame hexec,
    fun trips whole courses t hexec => ((exec_capoHush_within s trips whole courses).mono (L := [.dict, .bow, .plc, .lanes, .ledger, .capo, .svc]) (by simp)).frame hexec,
    fun l j => frames (L := [.dict, .bow, .plc, .lanes, .ledger, .fet, .col, .capoC, .runs, .svc]) (by
      simp only [List.forall_mem_cons]
      exact ⟨(exec_laneRetrainTimeout_within s l).mono (by simp),
        (exec_shaftLineRestored_within s j).mono (by simp),
        (exec_shaftStopped_within s j).mono (by simp), by simp⟩),
    fun t hexec => ((exec_holdoverExpired_within s).mono (L := [.dict, .servo, .bow, .plc, .lanes, .ledger, .fet, .col, .capoC, .runs, .svc]) (by simp)).frame hexec,
    fun t hexec => ((exec_lanesOff_within s).mono (L := [.dict, .clk, .bow, .plc, .lanes, .ledger, .fet, .col, .capoC, .runs, .svc]) (by simp)).frame hexec,
    fun k wire t hexec => ((exec_retLane_within s k wire).mono (L := [.dict, .bow, .plc, .lanes, .rets, .ledger, .fet, .col, .capoC, .runs, .svc]) (by simp)).frame hexec,
    fun m lane mask => frames (L := [.dict, .oz, .bow, .plc, .lanes, .ledger, .fet, .col, .capoC, .runs, .svc]) (by
      simp only [List.forall_mem_cons]
      exact ⟨(exec_laneRetrainCommand_within s m lane).mono (by simp),
        (exec_laserRearm_within s m mask).mono (by simp), by simp⟩),
    fun q slice => frames (L := [.dict, .store, .bow, .plc, .lanes, .ledger, .fet, .col, .capoC, .runs, .svc]) (by
      simp only [List.forall_mem_cons]
      exact ⟨(exec_quadPllLoss_within s q).mono (by simp),
        (exec_renderSliceFault_within s slice).mono (by simp), by simp⟩),
    fun j t hexec => ((exec_shaftLineBreak_within s j).mono (L := [.dict, .shafts, .bow, .plc, .lanes, .ledger, .fet, .col, .capoC, .runs, .svc]) (by simp)).frame hexec,
    fun k positive begins t0 string => frames (L := [.dict, .frm, .bow, .plc, .ledger, .fet, .col, .mir, .capo, .capoC, .runs, .svc]) (by
      simp only [List.forall_mem_cons]
      exact ⟨exec_interlockTrip_within s,
        exec_scanExcursion_within s k positive begins t0,
        exec_scanWatchMiss_within s k t0,
        exec_energyTrip_within s string, by simp⟩),
    fun k t hexec => (exec_bowStart_within s k).frame hexec,
    fun k queued t hexec => (exec_nutReached_within s k queued).frame hexec,
    fun j a b f => frames (L := [.dict, .shafts, .frm, .bow, .plc, .lanes, .ledger, .canvases, .fet, .col, .capoC, .runs, .svc]) (by
      simp only [List.forall_mem_cons]
      exact ⟨(exec_shaftCount_within s j a b).mono (by simp),
        (exec_ssiPoll_within s j f).mono (by simp), by simp⟩),
    fun s0 earlier latest t hexec => ((exec_loopStep_within s s0 earlier latest).mono (L := [.dict, .bow, .plc, .lanes, .ledger, .fet, .col, .senses, .slots, .pool, .mir, .capoC, .runs, .svc]) (by simp)).frame hexec,
    fun k pass deviation => frames (L := [.dict, .frm, .bow, .plc, .lanes, .ledger, .fet, .col, .slots, .mir, .capo, .capoC, .runs, .svc]) (by
      simp only [List.forall_mem_cons]
      exact ⟨exec_startTimeout_within s k,
        exec_mirrorFailed_within s k,
        exec_loopRefclkHoldExpired_within s,
        exec_capoSelfTestComplete_within s pass,
        exec_capoFault_within s deviation,
        exec_overtravelTrip_within s k, by simp⟩),
    fun k m t hexec => (exec_ringWindowEnd_within s k m).frame hexec,
    fun phys t hexec => (exec_loopSlotFault_within s phys).frame hexec⟩

end Sys2Proof.Proofs

namespace Sys2Proof.Machine
open Sys2Proof

section

variable (c : ClkSt) (q : Int)

theorem ClkSt.tick_flags : (c.tick q).refclk = c.refclk ∧ (c.tick q).slotRun = c.slotRun ∧
    (c.tick q).slot = if c.slotRun then c.slot + 1 else c.slot := ⟨rfl, rfl, rfl⟩

theorem ClkSt.tick_runs (h : c.refclk = true ∨ c.slotRun = true) :
    (c.tick q).half = !c.half ∧ (c.tick q).tai = if c.half then c.tai + 327680 else c.tai := by
  have hruns : (c.refclk || c.slotRun) = true := by simpa using h
  simp only [ClkSt.tick, hruns, Bool.true_and, if_true]
  exact ⟨trivial, rfl⟩

theorem ClkSt.tick_stands (hclk : c.refclk = false) (hslot : c.slotRun = false) :
    (c.tick q).half = c.half ∧ (c.tick q).tai = c.tai := by
  simp only [ClkSt.tick, hclk, hslot, Bool.or_false, Bool.false_and, Bool.false_eq_true, if_false, and_self]

theorem ClkSt.tick_up : (c.tick q).up = c.up + (163840 * 4294967296 + c.rest) / (4294967296 + q).toNat := rfl

theorem ClkSt.tick_elapsed : (c.tick q).elapsed = if c.refclk then c.elapsed else c.elapsed + ((c.tick q).up - c.up) := by
  rw [ClkSt.tick_up, Nat.add_sub_cancel_left]
  rfl

/-- R80: a slot is 2.5 ns of uptime over 1 + q / 2³², with the remainder carried on. -/
theorem ClkSt.tick_rest (h : -4294967296 < q) :
    (((c.tick q).up - c.up : Nat) : Int) * (4294967296 + q) + (c.tick q).rest = 163840 * 4294967296 + c.rest ∧
      ((c.tick q).rest : Int) < 4294967296 + q := by
  obtain ⟨d, hd⟩ : ∃ d : Nat, 4294967296 + q = d := ⟨(4294967296 + q).toNat, by omega⟩
  have hpos : 0 < d := by omega
  have hrest : (c.tick q).rest = (163840 * 4294967296 + c.rest) % d := by
    simp only [ClkSt.tick, hd, tSlot, Int.toNat_natCast]
  rw [ClkSt.tick_up, hrest, hd, Int.toNat_natCast, Nat.add_sub_cancel_left]
  refine ⟨?_, by exact_mod_cast Nat.mod_lt _ hpos⟩
  exact_mod_cast Nat.div_add_mod' (163840 * 4294967296 + c.rest) d

end

/-- What a slot that passes does but for the clocks (R307, R314, R96, R90, R16). -/
theorem State.tick_within (s : State) : ({ s with clk := s.clk.tick s.steerSteps } : State).Within
    [.dict, .store, .syncs, .frm, .lanes, .canvases, .flows, .rx, .mem, .cells, .chans, .queues, .svc, .out, .free] s.tick := by
  unfold State.tick
  dsimp only
  rw [State.within_rxDrain (by simp), State.within_each _ fun s k => by simp, State.within_each _ fun s k => by simp]
  split <;> simp

end Sys2Proof.Machine

namespace Sys2Proof.Proofs

open Sys2Proof Sys2Proof.Machine

/-- Settles O2: an empty queue is one `ClkSt.tick`, and what else a slot brings leaves the clocks and the capo alone. -/
theorem emptyQueueIsOneSlot : Obligations.EmptyQueueIsOneSlot := by
  unfold Obligations.EmptyQueueIsOneSlot
  intro s hempty
  have hwithin := s.tick_within
  have hclk : s.tick.clk = s.clk.tick s.steerSteps := hwithin .clk (by simp)
  have hcapo : s.tick.capo = s.capo := hwithin .capo (by simp)
  have hpending : s.tick.pending = s.pending := hwithin .pending (by simp)
  have hstep : step s = .next s.tick := by simp only [step, hempty]
  obtain ⟨hrefclk, hslotRun, hslot⟩ := s.clk.tick_flags s.steerSteps
  refine ⟨s.tick, hstep, hpending.trans hempty, ?_⟩
  rw [hclk, hcapo]
  refine ⟨hslot, s.clk.tick_runs _, s.clk.tick_stands _, ?_, ?_, s.clk.tick_elapsed _, hrefclk, hslotRun, rfl, rfl⟩
  · rintro q rfl hq
    exact s.clk.tick_rest _ hq
  · rw [ClkSt.tick_up]
    exact Nat.le_add_right _ _

end Sys2Proof.Proofs

/-! PROOF. Dictionary items (R39 to R43, R53, R60, R62, R70, R76, R541): what each operation answers. -/

namespace Sys2Proof.Machine

open Sys2Proof

section

variable (m : MasterId) (it : Item) (v : List Byte) (s : State)

/-! ### The commands of this family -/

theorem exec_read : exec (.read m it) s = .next (s.itemCommand m.val 1 it []) := rfl

theorem exec_stage : exec (.stage m it v) s = .next (s.itemCommand m.val 3 it v) := rfl

theorem exec_readStaged : exec (.readStaged m it) s = .next (s.itemCommand m.val 4 it []) := rfl

theorem exec_subscribe : exec (.subscribe m it v) s = .next (s.itemCommand m.val 5 it v) := rfl

theorem exec_unsubscribe : exec (.unsubscribe m it) s = .next (s.itemCommand m.val 6 it []) := rfl

end

section

variable {it : Item} {r : Row} {v : List Byte} {s : State}

/-! ### Items that are refused -/

theorem State.itemCommand_stopped (m op : Nat) (it : Item) (v : List Byte) (h : s.ozRuns = false) :
    s.itemCommand m op it v = s := by
  simp [State.itemCommand, h]

theorem State.itemCommand_lookup_error {e op : Nat} (m : Nat) (v : List Byte) (hrun : s.ozRuns = true)
    (hrow : s.lookup it = .error e) (hop : 1 ≤ op ∧ op ≤ 6) :
    s.itemCommand m op it v = s.answer op { it with final := false } e [] := by
  simp [State.itemCommand, State.doItem, hrun, hrow, Nat.not_lt.mpr hop.1, Nat.not_lt.mpr hop.2]

/-- A WRITE but for a due reset. -/
theorem exec_write_of_not_pending (m : MasterId) (it : Item) (v : List Byte) {t : State}
    (h : s.itemCommand m.val 2 it v = t) (hreset : t.oz.resetPending = false) : exec (.write m it v) s = .next t := by
  rw [exec_write, h, State.resetIfDue_of_not_pending hreset]

/-! ### READ and READ_STAGED -/

theorem State.rowOf_of_lookup (h : s.lookup it = .ok r) : rowOf it.index it.sub = some r := by
  unfold State.lookup at h
  split at h
  · cases h
  · split at h
    · cases h
    · split at h
      · cases h
      · next hrow => cases h; exact hrow

/-- The event log is the one entry whose READ reaches memory (R510). -/
theorem State.logRead_of_not_log (h : ¬ (it.index = 0x7100 ∧ it.sub = 2)) : s.logRead it = (s, false) := by
  unfold State.logRead
  rw [if_neg fun hlog => h ⟨hlog.1, hlog.2.1⟩]

theorem eventLog_row (hrow : rowOf it.index it.sub = some r) (hlog : it.index = 0x7100 ∧ it.sub = 2) :
    accOf it.index r = .ro ∧ Sys2Proof.Machine.sizeOf r.ty = none := by
  rw [hlog.1, hlog.2] at hrow
  have hlogRow : (rowOf 0x7100 2).map (fun r => (accOf 0x7100 r, Sys2Proof.Machine.sizeOf r.ty)) = some (.ro, none) := by
    decide
  rw [hrow] at hlogRow
  simpa [hlog.1] using hlogRow

/-- A READ of any other entry answers what `State.readEntry` gives. -/
theorem State.itemCommand_read {op : Nat} (m : Nat) (v : List Byte) (hrun : s.ozRuns = true) (hrow : s.lookup it = .ok r)
    (hop : op = 1 ∨ op = 4) (hlog : ¬ (it.index = 0x7100 ∧ it.sub = 2)) :
    s.itemCommand m op it v = s.answer op
      { it with final := (s.readEntry m it r (op == 4)).2.2, type := codeOf r.ty } (s.readEntry m it r (op == 4)).1
      (s.readEntry m it r (op == 4)).2.1 := by
  rcases hop with rfl | rfl <;>
    simp [State.itemCommand, State.doItem, State.readItem, hrun, hrow, State.logRead_of_not_log hlog]

theorem State.readEntry_wo (s : State) (m : Nat) (staged : Bool) (h : accOf it.index r = .wo) :
    s.readEntry m it r staged = (stAccess, [], false) := by
  simp [State.readEntry, h]

theorem State.readEntry_fixed (s : State) (m : Nat) (staged : Bool) {n : Nat} (hacc : accOf it.index r ≠ .wo)
    (hsize : Sys2Proof.Machine.sizeOf r.ty = some n) (hoff : it.offset = 0) :
    s.readEntry m it r staged = (stOk, encodeVal r.ty (if staged then
        (match (s.masterAt m).stage.find? (fun t => t.key == dkey it.index it.sub) with
          | some t => t.val
          | none => s.liveVal m it.index it.sub)
      else s.liveVal m it.index it.sub), false) := by
  have hread (x : Val) : readBytes it r.ty x = (stOk, encodeVal r.ty x, false) := by simp [readBytes, hsize, hoff]
  unfold State.readEntry
  split
  · contradiction
  · exact hread _

/-! ### WRITE and STAGE -/

theorem State.itemCommand_stage (m : Nat) (v : List Byte) (hrun : s.ozRuns = true) (hrow : s.lookup it = .ok r) :
    s.itemCommand m 3 it v = (s.stageEntry m it r v).1.answer 0x03 { it with final := false, type := codeOf r.ty }
      (s.stageEntry m it r v).2 [] := by
  simp [State.itemCommand, State.doItem, hrun, hrow]

theorem State.stageEntry_ro (s : State) (m : Nat) (v : List Byte) (h : accOf it.index r = .ro) :
    s.stageEntry m it r v = (s, stAccess) := by
  simp [State.stageEntry, h]

theorem State.stageEntry_wo (s : State) (m : Nat) (v : List Byte) (h : accOf it.index r = .wo) :
    s.stageEntry m it r v = (s, stRange) := by
  simp [State.stageEntry, h]

theorem State.stageEntry_stages (s : State) (m : Nat) (v : List Byte) (hro : accOf it.index r ≠ .ro)
    (hwo : accOf it.index r ≠ .wo) : s.stageEntry m it r v = s.stageItem m it r v := by
  unfold State.stageEntry
  split
  · exact absurd ‹_› hro
  · exact absurd ‹_› hwo
  · rfl

theorem State.writeEntry_ro (s : State) (m : Nat) (v : List Byte) (h : accOf it.index r = .ro) :
    s.writeEntry m it r v = (s, stAccess) := by
  simp [State.writeEntry, h]

theorem State.writeEntry_rs (s : State) (m : Nat) (v : List Byte) (h : accOf it.index r = .rs) :
    s.writeEntry m it r v = s.stageItem m it r v := by
  simp [State.writeEntry, h]

theorem State.writeEntry_value_error (s : State) (m : Nat) {e : Nat} (hacc : accOf it.index r = .rw ∨ accOf it.index r = .rp)
    (hval : itemValue it r v = .error e) : s.writeEntry m it r v = (s, e) := by
  rcases hacc with hacc | hacc <;> simp [State.writeEntry, hacc, hval]

theorem State.writeEntry_whole_error (s : State) (m : Nat) {x : Val} {e : Nat}
    (hacc : accOf it.index r = .rw ∨ accOf it.index r = .rp) (hval : itemValue it r v = .ok x) (hoff : it.offset = 0)
    (hwhole : s.wholeValue it.index it.sub r x = .error e) : s.writeEntry m it r v = (s, e) := by
  rcases hacc with hacc | hacc <;> simp [State.writeEntry, hacc, hval, hoff, hwhole]

/-- R62: a whole value of fixed size joins the stage set where it has room. -/
theorem State.stageItem_fixed (s : State) (m : Nat) {n : Nat} {x y : Val} {held : Bool}
    (hsize : Sys2Proof.Machine.sizeOf r.ty = some n) (hval : itemValue it r v = .ok x)
    (hwhole : s.wholeValue it.index it.sub r x = .ok (y, held))
    (hroom : (s.masterAt m).stage.any (fun t => t.key == dkey it.index it.sub) = true ∨ (s.masterAt m).stage.length < 1024) :
    s.stageItem m it r v = (s.stageSet m (dkey it.index it.sub) y true, if held then stClamped else stStaged) := by
  have hfits : ¬ ((s.masterAt m).stage.any (fun t => t.key == dkey it.index it.sub) = false ∧
      1024 ≤ (s.masterAt m).stage.length) := by
    rintro ⟨hnew, hfull⟩
    rcases hroom with hold | hfew
    · simp [hnew] at hold
    · omega
  simp only [State.stageItem, hval, if_neg hfits, hsize, hwhole, Option.isNone_some, Bool.false_eq_true, if_false]

/-! ### SUBSCRIBE and UNSUBSCRIBE -/

theorem State.itemCommand_subscribe (m : Nat) (v : List Byte) (hrun : s.ozRuns = true) (hrow : s.lookup it = .ok r) :
    s.itemCommand m 5 it v = (s.subscribe m it r v).1.answer 0x05 { it with final := false, type := codeOf r.ty }
      (s.subscribe m it r v).2 [] := by
  simp [State.itemCommand, State.doItem, hrun, hrow]

/-- R70: a new subscription, where the master and the device have room for it. -/
theorem State.subscribe_new (s : State) (m : Nat) (hacc : accOf it.index r ≠ .wo) (hlen : v.length = 4)
    (hnew : (s.masterAt m).subs.any (fun t => t.key == dkey it.index it.sub) = false) (hfew : (s.masterAt m).subs.length < 64)
    (hroom : s.subsInUse < 4096) :
    s.subscribe m it r v = (s.masterPut m { s.masterAt m with
      subs := (s.masterAt m).subs ++ [{ key := dkey it.index it.sub
                                        period := if bits (leNat v) 31 16 = 0 then 0
                                          else max (bits (leNat v) 31 16) (minPeriod it.index it.sub)
                                        shown := s.liveVal m it.index it.sub }] }, stOk) := by
  have hplace : ¬ (64 ≤ (s.masterAt m).subs.length ∨ 4096 ≤ s.subsInUse) := by omega
  unfold State.subscribe
  split
  · contradiction
  · simp only [hlen, hnew, if_neg hplace, ne_eq, not_true_eq_false, Bool.false_eq_true, if_false]

/-- R70: a subscription that the master has already is renewed. -/
theorem State.subscribe_renewed (s : State) (m : Nat) (hacc : accOf it.index r ≠ .wo) (hlen : v.length = 4)
    (hold : (s.masterAt m).subs.any (fun t => t.key == dkey it.index it.sub) = true) :
    s.subscribe m it r v = (s.masterPut m { s.masterAt m with
      subs := (s.masterAt m).subs.map (fun t => if t.key = dkey it.index it.sub then
        { key := dkey it.index it.sub
          period := if bits (leNat v) 31 16 = 0 then 0 else max (bits (leNat v) 31 16) (minPeriod it.index it.sub)
          shown := s.liveVal m it.index it.sub } else t) }, stOk) := by
  unfold State.subscribe
  split
  · contradiction
  · simp only [hlen, hold, ne_eq, not_true_eq_false, if_false, if_true]

theorem State.itemCommand_unsubscribe (m : Nat) (v : List Byte) (hrun : s.ozRuns = true) (hrow : s.lookup it = .ok r) :
    s.itemCommand m 6 it v = (s.unsubscribe m it).1.answer 0x06 { it with final := false, type := codeOf r.ty } stOk [] := by
  simp [State.itemCommand, State.doItem, hrun, hrow]
  rfl

end

end Sys2Proof.Machine

/-! PROOF. Dictionary items: the obligations. -/

namespace Sys2Proof.Proofs

open Sys2Proof Sys2Proof.Machine

set_option Elab.async false

/-- Settles O7: by the case of the look-up, and of the entry's access for the items that it finds. -/
theorem refusalsChangeNothing : Obligations.RefusalsChangeNothing := by
  unfold Obligations.RefusalsChangeNothing
  refine ⟨fun m it v s hstop hreset => ?_, fun m it v e s hrun hrow hreset => ?_,
    fun m it r v s hrun hrow hreset => ⟨fun hwo => ⟨?_, ?_, ?_⟩, fun hro => ⟨?_, ?_⟩⟩,
    fun m it r v s hrun hrow hacc hreset => ⟨fun e hval => ?_, fun x e hval hoff hwhole => ?_⟩⟩
  · have hsame (op : Nat) (v : List Byte) : s.itemCommand m.val op it v = s := State.itemCommand_stopped _ _ _ _ hstop
    exact ⟨by rw [exec_read, hsame], exec_write_of_not_pending m it v (hsame 2 v) hreset, by rw [exec_stage, hsame],
      by rw [exec_readStaged, hsame], by rw [exec_subscribe, hsame], by rw [exec_unsubscribe, hsame]⟩
  · have hrefused (op : Nat) (v : List Byte) (hop : 1 ≤ op ∧ op ≤ 6) := State.itemCommand_lookup_error m.val v hrun hrow hop
    exact ⟨by rw [exec_read, hrefused 1 _ (by decide)],
      exec_write_of_not_pending m it v (hrefused 2 v (by decide)) hreset,
      by rw [exec_stage, hrefused 3 _ (by decide)], by rw [exec_readStaged, hrefused 4 _ (by decide)],
      by rw [exec_subscribe, hrefused 5 _ (by decide)], by rw [exec_unsubscribe, hrefused 6 _ (by decide)]⟩
  · have hlog : ¬ (it.index = 0x7100 ∧ it.sub = 2) := fun hlog => by
      have := (eventLog_row (State.rowOf_of_lookup hrow) hlog).1
      rw [hwo] at this
      contradiction
    rw [exec_read, State.itemCommand_read _ _ hrun hrow (.inl rfl) hlog, State.readEntry_wo _ _ _ hwo]
    rfl
  · have hlog : ¬ (it.index = 0x7100 ∧ it.sub = 2) := fun hlog => by
      have := (eventLog_row (State.rowOf_of_lookup hrow) hlog).1
      rw [hwo] at this
      contradiction
    rw [exec_readStaged, State.itemCommand_read _ _ hrun hrow (.inr rfl) hlog, State.readEntry_wo _ _ _ hwo]
    rfl
  · rw [exec_stage, State.itemCommand_stage _ _ hrun hrow, State.stageEntry_wo _ _ _ hwo]
    rfl
  · refine exec_write_of_not_pending m it v ?_ hreset
    rw [State.itemCommand_write _ _ hrun hrow, State.writeEntry_ro _ _ _ hro]
    rfl
  · rw [exec_stage, State.itemCommand_stage _ _ hrun hrow, State.stageEntry_ro _ _ _ hro]
    rfl
  · refine exec_write_of_not_pending m it v ?_ hreset
    rw [State.itemCommand_write _ _ hrun hrow, State.writeEntry_value_error _ _ hacc hval]
  · refine exec_write_of_not_pending m it v ?_ hreset
    rw [State.itemCommand_write _ _ hrun hrow, State.writeEntry_whole_error _ _ hacc hval hoff hwhole]

/-- Settles O8: an entry of fixed size is not the event log, so its READ reaches no memory. -/
theorem readAnswersValue : Obligations.ReadAnswersValue := by
  unfold Obligations.ReadAnswersValue
  intro m it r n s hrun hrow hacc hsize hoff
  have hlog : ¬ (it.index = 0x7100 ∧ it.sub = 2) := fun hlog => by
    have := (eventLog_row (State.rowOf_of_lookup hrow) hlog).2
    rw [hsize] at this
    contradiction
  constructor
  · rw [exec_read, State.itemCommand_read _ _ hrun hrow (.inl rfl) hlog, State.readEntry_fixed _ _ _ hacc hsize hoff]
    rfl
  · rw [exec_readStaged, State.itemCommand_read _ _ hrun hrow (.inr rfl) hlog, State.readEntry_fixed _ _ _ hacc hsize hoff]
    rfl

/-- Settles O9: STAGE, and WRITE of an RS entry, both put the value in the stage set. -/
theorem stagingFillsTheStageSet : Obligations.StagingFillsTheStageSet := by
  unfold Obligations.StagingFillsTheStageSet
  intro m it r n v x y held s hrun hrow hsize hval hwhole hroom hreset
  have hitem := State.stageItem_fixed s m.val hsize hval hwhole hroom
  refine ⟨fun hro hwo => ?_, fun hrs => exec_write_of_not_pending m it v ?_ hreset⟩
  · rw [exec_stage, State.itemCommand_stage _ _ hrun hrow, State.stageEntry_stages _ _ _ hro hwo, hitem]
    rfl
  · rw [State.itemCommand_write _ _ hrun hrow, State.writeEntry_rs _ _ _ hrs, hitem]
    rfl

/-- Settles O10, by the three cases of the subscription. -/
theorem subscriptionsFollowTheMaster : Obligations.SubscriptionsFollowTheMaster := by
  unfold Obligations.SubscriptionsFollowTheMaster
  intro m it r v s hrun hrow
  refine ⟨fun hacc hlen hnew hfew hroom => ?_, fun hacc hlen hold => ?_, ?_⟩
  · rw [exec_subscribe, State.itemCommand_subscribe _ _ hrun hrow, State.subscribe_new _ _ hacc hlen hnew hfew hroom]
    rfl
  · rw [exec_subscribe, State.itemCommand_subscribe _ _ hrun hrow, State.subscribe_renewed _ _ hacc hlen hold]
    rfl
  · rw [exec_unsubscribe, State.itemCommand_unsubscribe _ _ hrun hrow]
    rfl

/-- Settles O12: what the accepted commit leaves is the pending commit of `State.pendTime`. -/
theorem timeCommitIsTakenWhole : Obligations.TimeCommitIsTakenWhole := by
  unfold Obligations.TimeCommitIsTakenWhole
  intro m word u s hrun hserve hword hsel hmine hall hwhole frame time items hcheck hleft v hitems
  have hfull : s.commitsFull m.val = false := State.commitsFull_eq_false hmine hall
  have hdue : u.todoOf 2 items ≠ [] := by rwa [← State.todoOf_masterPut]
  rw [exec_commit_time hrun hserve hword hsel hfull hwhole hcheck hleft hdue, State.pendTime, State.todoOf_commitTaken,
    State.todoOf_masterPut]
  rfl

/-- Settles O57: each instruction selects its register by Table 15.9. -/
theorem jtagInstructionsAct : Obligations.JtagInstructionsAct := by
  unfold Obligations.JtagInstructionsAct
  intro cells mask op s jtag
  refine ⟨fun hdst => ?_, fun hstart hstandby => ?_, rfl, rfl, fun hop => ?_, fun hop => ?_, fun hvalid => ?_, fun hvalid => ?_⟩
  · have hmay : s.testMay = true := by simpa [State.testMay] using hdst
    simp only [exec, execExtest, execFuseprog, hmay, if_true]
    exact ⟨rfl, rfl⟩
  · have hmay : s.testMay = false := by simp [State.testMay, hstart, hstandby]
    simp only [exec, execExtest, execFuseprog, hmay, Bool.false_eq_true, if_false]
    exact ⟨rfl, rfl⟩
  · simp only [exec, execBypass, List.contains_iff_mem, if_neg hop]
    rfl
  · simp only [exec, execBypass, List.contains_iff_mem, if_pos hop]
  · simp only [exec, execPciePerstDeassert, hvalid, if_true]
  · simp only [exec, execPciePerstDeassert, hvalid, Bool.false_eq_true, if_false]

end Sys2Proof.Proofs

/-! PROOF. A pending commit of the heartbeat period applies at its time (Table 2.6a, R64). -/

namespace Sys2Proof.Machine

open Sys2Proof

section

set_option Elab.async false

variable (s old : State) (keys : List Nat)

/-- The heartbeat period as an item of a commit. -/
def heartbeatItem (n : Nat) : Todo := { key := dkey 0x1100 0x10, val := .num n, cls := .device, after := false }

theorem State.putItem_heartbeat (n : Nat) : s.putItem (heartbeatItem n) = s.putLive 0x1100 0x10 (.num n) := by
  have hkey : (heartbeatItem n).key = 0x110010 := rfl
  have hval : (heartbeatItem n).val = .num n := rfl
  have hpegs : dkey 0x40F0 2 = 0x40F002 := rfl
  have htime : dkey 0x7100 0x0D = 0x71000D := rfl
  have hstate : dkey 0x7100 0x0A = 0x71000A := rfl
  unfold State.putItem
  simp [hkey, hval, hpegs, htime, hstate]

theorem State.afterPut_heartbeat : s.afterPut old keys (dkey 0x1100 0x10) = s := by
  simp [State.afterPut, dkey, flipKey]

theorem State.afterChange_heartbeat : s.afterChange old keys (dkey 0x1100 0x10) = s := by
  simp [State.afterChange, dkey]

/-- The heartbeat period's new value does nothing but be read back. -/
theorem State.applyItems_heartbeat (n : Nat) :
    s.applyItems [heartbeatItem n] = s.accrue.putLive 0x1100 0x10 (.num n) := by
  have hkey : (heartbeatItem n).key = dkey 0x1100 0x10 := rfl
  have hrequest : isRequest (dkey 0x1100 0x10) = false := by decide
  have hcandidate : candidateKey (dkey 0x1100 0x10) = false := by decide
  have horder : inWindowOrder (fun t : Todo => t.key) [heartbeatItem n] = [heartbeatItem n] := by
    simp [inWindowOrder, hkey, show windowSub 1 (dkey 0x1100 0x10) = false by decide,
      show windowSub 0x0A (dkey 0x1100 0x10) = false by decide]
  have hgain : ¬ (0x2200 ≤ dkey 0x1100 0x10 / 256 ∧ dkey 0x1100 0x10 / 256 < 0x2220 ∧ dkey 0x1100 0x10 % 256 = 0x0D) := by
    decide
  simp [State.applyItems, hkey, hrequest, hcandidate, horder, hgain, State.putItem_heartbeat, State.afterPut_heartbeat,
    State.afterChange_heartbeat, show [dkey 0x1100 0x10].eraseDups = [dkey 0x1100 0x10] from rfl]

/-- What became of the commits that are done is noted at their masters. -/
theorem State.commitsDone_fields :
    s.commitsDone.oz.commits = s.oz.commits.filter (fun p => !p.todo.isEmpty) ∧ s.commitsDone.dict = s.dict := by
  have hnoted (l : List Pending) (u : State) :
      (l.foldl (fun s p => s.masterPut p.master ((s.masterAt p.master).commitDone p)) u).oz.commits = u.oz.commits ∧
      (l.foldl (fun s p => s.masterPut p.master ((s.masterAt p.master).commitDone p)) u).dict = u.dict := by
    induction l generalizing u with
    | nil => exact ⟨rfl, rfl⟩
    | cons p l ih => exact ih _
  obtain ⟨hcommits, hdict⟩ := hnoted (s.oz.commits.filter (fun p => p.todo.isEmpty)) s
  exact ⟨congrArg (List.filter _) hcommits, hdict⟩

/-- The only pending commit holds one item and is picked whole: it is pending no more. -/
theorem State.takeItems_one (q : Pending) (x : Todo) (pick : Pending → Todo → Bool) (hcommits : s.oz.commits = [q])
    (htodo : q.todo = [x]) (hpick : pick q x = true) :
    (s.takeItems pick).2 = [x] ∧ (s.takeItems pick).1.oz.commits = [] ∧ (s.takeItems pick).1.dict = s.dict := by
  have hpicked : picked s.oz.commits pick = [(q.id, x)] := by simp [picked, hcommits, htodo, hpick]
  have hrest : (q.rest pick [(q.id, x)]).todo = [] := by simp [Pending.rest, htodo, hpick]
  refine ⟨by rw [State.takeItems, hpicked]; rfl, ?_, (State.commitsDone_fields _).2⟩
  rw [State.takeItems, hpicked, hcommits]
  refine (State.commitsDone_fields _).1.trans ?_
  simp [hrest]

theorem State.putLive_oz (i b : Nat) (v : Val) : (s.putLive i b v).oz = s.oz := by
  unfold State.putLive State.putCommitted
  split
  · split
    · split <;> rfl
    · rfl
  · rfl

/-- An RP entry takes the value and no other entry moves, written or not. -/
theorem State.putLive_persistent {i b : Nat} {r : Row} (n : Nat) (hrow : rowOf i b = some r) (hacc : r.acc = .rp) :
    (s.putLive i b (.num n)).nat i b = n ∧
    ∀ j c, dkey i b ≠ dkey j c → (s.putLive i b (.num n)).val j c = s.val j c := by
  have hput : s.putLive i b (.num n) = s.putCommitted i b (.num n) := by simp only [State.putLive, hrow, hacc, if_true]
  rw [hput, State.putCommitted]
  split
  next hsame => exact ⟨by simp [State.nat, State.int, hsame, valInt], fun _ _ _ => rfl⟩
  next => exact ⟨State.nat_putN s i b n, fun j c h => State.val_put_ne s i b j c _ h⟩

end

end Sys2Proof.Machine

namespace Sys2Proof.Proofs

open Sys2Proof Sys2Proof.Machine

/-- Settles O13: the item is taken out of its commit and put in its entry. -/
theorem timeCommitAppliesAtItsTime : Obligations.TimeCommitAppliesAtItsTime := by
  unfold Obligations.TimeCommitAppliesAtItsTime
  intro q n s hcommits hselector htime htodo
  let pick (p : Pending) (t : Todo) : Bool := p.selector == 2 && t.cls == .device && decide (p.time ≤ s.clk.tai)
  obtain ⟨htaken, hnone, hdict⟩ := State.takeItems_one s q (heartbeatItem n) pick hcommits htodo
    (by simp [pick, hselector, heartbeatItem, htime])
  refine ⟨(s.takeItems pick).1.accrue.putLive 0x1100 0x10 (.num n), ?_, ?_⟩
  · rw [← State.applyItems_heartbeat, ← htaken]
    rfl
  · have hval (i b : Nat) : (s.takeItems pick).1.accrue.val i b = s.val i b :=
      congrArg (fun d => tgetD d (dfltOf i b) (dkey i b)) hdict
    have hrow : (rowOf 0x1100 0x10).map (·.acc) = some .rp := by decide
    obtain ⟨r, hr, hacc⟩ := Option.map_eq_some_iff.mp hrow
    obtain ⟨hput, hother⟩ := State.putLive_persistent (s.takeItems pick).1.accrue n hr hacc
    exact ⟨hput, by rw [State.putLive_oz]; exact hnone, fun i b hkey => (hother i b (hkey (0x1100, 0x10) (by simp))).trans (hval i b)⟩

end Sys2Proof.Proofs

/-! PROOF. Requests and their responses (R51, R56 to R59, R78, R540). -/

namespace Sys2Proof.Machine

open Sys2Proof

section

set_option Elab.async false

variable {s : State} {src : Source} {msg : List Byte}

/-! ### A transport unit -/

theorem exec_oziloRequest (src : Source) (msg : List Byte) (s : State) :
    exec (.oziloRequest src msg) s = .next (s.receive src msg) := rfl

theorem State.receive_dropped (msg : List Byte) (h : s.ozRuns = false ∨ s.reaches src = false) : s.receive src msg = s :=
  if_pos h

theorem State.receive_discard (hrun : s.ozRuns = true) (hreach : s.reaches src = true)
    (hcheck : checkMessage msg = .discard) : s.receive src msg = s := by
  simp [State.receive, hrun, hreach, hcheck]

theorem State.receive_badCrc (hrun : s.ozRuns = true) (hreach : s.reaches src = true)
    (hcheck : checkMessage msg = .badCrc) : s.receive src msg = s.bump 0x1100 7 := by
  simp [State.receive, hrun, hreach, hcheck]

theorem State.receive_answer {seq st : Nat} (hrun : s.ozRuns = true) (hreach : s.reaches src = true)
    (hcheck : checkMessage msg = .answer seq st) :
    s.receive src msg = s.respond src false (message 0x02 seq ((s.knownMaster src).getD 0xFFFF) 0 st []) := by
  simp [State.receive, hrun, hreach, hcheck]

theorem State.receive_known {m seq : Nat} {items : List ReqItem} (hrun : s.ozRuns = true) (hreach : s.reaches src = true)
    (hpass : checkMessage msg = .pass seq items) (hmaster : s.knownMaster src = some m) :
    s.receive src msg = s.onRequest src m seq items := by
  simp [State.receive, State.masterFor, hrun, hreach, hpass, hmaster]

theorem checkMessage_discard (h : msg.length < 20 ∨ slice 0 2 msg ≠ [0x4F, 0x5A]) : checkMessage msg = .discard := by
  have hbad : (decide (msg.length < 20) || slice 0 2 msg != [0x4F, 0x5A]) = true := by simpa using h
  simp only [checkMessage, hbad, if_true]

theorem checkMessage_badCrc (hlen : 20 ≤ msg.length) (hmagic : slice 0 2 msg = [0x4F, 0x5A])
    (hcrc : leAt msg (msg.length - 4) 4 ≠ crc32c (msg.take (msg.length - 4))) : checkMessage msg = .badCrc := by
  have hgood : (decide (msg.length < 20) || slice 0 2 msg != [0x4F, 0x5A]) = false := by simp [hlen, hmagic]
  have hdiffer : (leAt msg (msg.length - 4) 4 != crc32c (msg.take (msg.length - 4))) = true := by simpa using hcrc
  simp only [checkMessage, hgood, hdiffer, Bool.false_eq_true, if_false, if_true]

/-! ### A request of a known master -/

variable {m seq : Nat} (items : List ReqItem)

theorem State.onRequest_repeated {k : Kept} (hkept : (s.masterAt m).kept.find? (fun k => k.seq == seq) = some k) :
    s.onRequest src m seq items = s.respond src false k.response := by
  simp only [State.onRequest, hkept]

theorem State.onRequest_outside (hkept : (s.masterAt m).kept.find? (fun k => k.seq == seq) = none)
    (hwindow : inWindow (s.masterAt m).last seq = false) : s.onRequest src m seq items = s.bump 0x1100 8 := by
  simp only [State.onRequest, hkept, hwindow, if_true]

theorem State.onRequest_busy (hkept : (s.masterAt m).kept.find? (fun k => k.seq == seq) = none)
    (hwindow : inWindow (s.masterAt m).last seq = true) (hfull : 8 ≤ s.outstanding m) :
    s.onRequest src m seq items = s.respond src false (message 0x02 seq m 0 stBusy []) := by
  simp only [State.onRequest, hkept, hwindow, hfull, Bool.true_eq_false, if_false, if_true]

end

end Sys2Proof.Machine

namespace Sys2Proof.Proofs

open Sys2Proof Sys2Proof.Machine

/-- Settles O14: by what the check makes of the message, and by the kept responses, the window and the outstanding requests
of its master. -/
theorem requestsAreCheckedFirst : Obligations.RequestsAreCheckedFirst := by
  unfold Obligations.RequestsAreCheckedFirst
  refine ⟨fun src msg seq m items s hrun hreach hpass hmaster => ⟨fun k hkept => ?_, fun l hkept hlast hfar => ?_⟩,
    fun src msg seq m items s hrun hreach hpass hmaster hkept hwindow hfull => ?_, fun src msg s hdrop => ?_,
    fun src msg s hrun hreach => ⟨fun hbad => ?_, fun hlen hmagic hcrc => ?_, fun seq st hanswer => ?_⟩⟩
  · rw [exec_oziloRequest, State.receive_known hrun hreach hpass hmaster, State.onRequest_repeated _ hkept]
  · have hwindow : inWindow (s.masterAt m).last seq = false := by
      simp only [hlast, inWindow, Bool.and_eq_false_iff, decide_eq_false_iff_not]
      omega
    rw [exec_oziloRequest, State.receive_known hrun hreach hpass hmaster, State.onRequest_outside _ hkept hwindow]
  · rw [exec_oziloRequest, State.receive_known hrun hreach hpass hmaster, State.onRequest_busy _ hkept hwindow hfull]
    rfl
  · rw [exec_oziloRequest, State.receive_dropped _ hdrop]
  · rw [exec_oziloRequest, State.receive_discard hrun hreach (checkMessage_discard hbad)]
  · rw [exec_oziloRequest, State.receive_badCrc hrun hreach (checkMessage_badCrc hlen hmagic hcrc)]
  · rw [exec_oziloRequest, State.receive_answer hrun hreach hanswer]

/-- Settles O16, by what waits. -/
theorem waitingResponsesArePlacedAndRead : Obligations.WaitingResponsesArePlacedAndRead := by
  unfold Obligations.WaitingResponsesArePlacedAndRead
  refine ⟨fun ctx s => ⟨fun p l hqueued => ?_, fun p l hqueued hwaiting => ?_, fun hqueued hwaiting => ?_⟩,
    fun cmd len s => ⟨fun hnone => ?_, fun p l hsome => ?_, fun w b hwait hbusy => ?_, rfl⟩⟩
  · simp only [exec, execReadyWordClear, hqueued]
    rfl
  · simp only [exec, execReadyWordClear, hqueued, hwaiting]
    rfl
  · simp only [exec, execReadyWordClear, hqueued, hwaiting]
  · simp only [exec, execSpiReadResponse, hnone]
  · simp only [exec, execSpiReadResponse, hsome]
    rfl
  · cases w <;> cases b <;> simp_all [exec, execSpiStatus, State.spiIrq, leBytes]

end Sys2Proof.Proofs

/-! PROOF. A request of a UDP master whose table of masters is out of order (R12, R54, R56). -/

namespace Sys2Proof.Machine

open Sys2Proof

/-- Request 5 of master 70: a READ of the heartbeat period. -/
def readHeartbeat : List Byte := message 0x01 5 70 1 0x00 (itemBytes 1 false (Item.mk false 0 0x1100 0x10 0 0) 0 [])

/-- The row of the heartbeat period. -/
def heartbeatRow : Row := (rowOf 0x1100 0x10).getD ⟨0, 0, .u8, .ro, 0, 0, .all⟩

/-- DARK with the address 7, port 9 known twice, as master 70 and after that as master 66: the table is not in its order, which
the obligation does not ask for. -/
def doubledMaster : State :=
  { State.reset.putN 0x4200 1 1 with oz := { State.reset.oz with
      addrInForce := [5, 0, 0, 41620], masters := [(70, { addr := some (7, 9) }), (66, { addr := some (7, 9) })] } }

/-- The credits of master 70's response queue that its accepted requests hold. -/
def creditsHeld : Host.Outcome State Fault Refusal → Option Nat
  | .next s => some (s.queueAt (responseQueue 70)).reserved
  | _ => none

/-- The request of master 70 puts its record behind that of 66, whose credit the response then gives back. -/
theorem doubledMaster_keeps_credit :
    creditsHeld (exec (.oziloRequest (.udp 7 9 5 41620) readHeartbeat) doubledMaster) = some 1 := by
  decide +kernel

end Sys2Proof.Machine

namespace Sys2Proof.Proofs

open Sys2Proof Sys2Proof.Machine

/-- Refutes O15: in a state whose table of masters is out of order and holds one address twice, `State.respond` finds another
master than the one that the request was taken for, and gives that one's credit back. -/
theorem not_readRequestIsAnswered : ¬ Obligations.ReadRequestIsAnswered := by
  unfold Obligations.ReadRequestIsAnswered
  intro h
  have hmet : checkMessage readHeartbeat =
        .pass 5 [{ op := 1, it := Item.mk false 0 0x1100 0x10 0 0, value := [] }] ∧
      doubledMaster.lookup (Item.mk false 0 0x1100 0x10 0 0) = .ok heartbeatRow ∧ doubledMaster.ozRuns = true := by
    decide +kernel
  obtain ⟨hpass, hrow, hrun⟩ := hmet
  have hsent := (h (.udp 7 9 5 41620) readHeartbeat 5 70 2 (Item.mk false 0 0x1100 0x10 0 0)
    heartbeatRow doubledMaster hrun (by decide +kernel) hpass (by decide +kernel) (by decide +kernel) (by decide +kernel)
    (by decide +kernel) (by decide +kernel) hrow (by decide +kernel) (by decide +kernel) rfl (by decide +kernel)).1 7 9 5 41620 rfl
  have hcredits := congrArg creditsHeld hsent
  rw [doubledMaster_keeps_credit] at hcredits
  exact absurd hcredits (by decide +kernel)

end Sys2Proof.Proofs

/-! PROOF. Heartbeats, publications, forgotten masters and the persistent store (R44, R45, R47, R55, R56, R70 to R72, R78, R471). -/

namespace Sys2Proof.Machine

open Sys2Proof

section

set_option Elab.async false

variable (s : State)

@[simp] theorem length_leBytes (n v : Nat) : (leBytes n v).length = n := by
  induction n generalizing v with
  | zero => rfl
  | succ n ih => simp [leBytes, ih]

/-! ### Messages -/

theorem leNat_leBytes (n v : Nat) : leNat (leBytes n v) = v % 256 ^ n := by
  induction n generalizing v with
  | zero => simp [leBytes, leNat, Nat.mod_one]
  | succ n ih =>
    simp only [leBytes, leNat, ih, BitVec.toNat_ofNat]
    rw [show 2 ^ 8 = 256 from rfl, Nat.pow_succ', ← Nat.mod_mul]

/-- The sequence field of a message. -/
theorem leAt_message (type seq master count status : Nat) (body : List Byte) :
    leAt (message type seq master count status body) 4 2 = seq % 65536 := by
  have hseq : slice 4 2 (message type seq master count status body) = leBytes 2 seq := by
    simp [message, slice, leBytes]
  rw [leAt, hseq, leNat_leBytes]
  rfl

/-- The body of a heartbeat (R72). -/
theorem State.length_heartbeatBody : s.heartbeatBody.length = 32 := by
  simp [State.heartbeatBody]

/-! ### Publications -/

/-- A subscription whose entry was published at this time with a period is not due. -/
theorem State.subDue_of_sent_now (m : Nat) (x : Sub) {f : Nat} (hsent : x.sent = some (s.clk.up, f)) (hperiod : 0 < x.period) :
    s.subDue m x = false := by
  have hlater : s.clk.up < s.clk.up + x.period * tMs := Nat.lt_add_of_pos_right (Nat.mul_pos hperiod (by decide))
  have hnot : ¬ s.clk.up + x.period * tMs ≤ s.clk.up := Nat.not_le.mpr hlater
  simp only [State.subDue, hsent, Nat.ne_of_gt hperiod, if_false, hnot, decide_false]

theorem exec_publication_not_due {m : MasterId} {index sub : Nat}
    (h : (s.masterAt m.val).subs.any (fun t => t.key == dkey index sub && s.subDue m.val t) = false) :
    exec (.publication m index sub) s = .next s := by
  simp only [exec, execPublication, h, true_or, or_true, if_true]

/-- The publication of an entry is noted at its subscription, and the master's sequence advances. -/
def State.published (s : State) (m index sub : Nat) : State :=
  s.masterPut m { s.masterAt m with
    pubSeq := ((s.masterAt m).pubSeq + 1) % 65536
    subs := (s.masterAt m).subs.map (fun t => if t.key = dkey index sub then
      { t with shown := s.liveVal m index sub, sent := some (s.clk.up, s.frameMark index sub) } else t) }

/-- A publication goes to a PCIe context, where it may have to wait, or to a UDP master's address. -/
def State.deliverPub (u : State) (m key : Nat) (addr : Option (Nat × Nat)) (msg : List Byte) : State :=
  if m < 65 then
    if (u.ctxAt (m - 1)).ready = 0 then u.placeCtx (m - 1) (u.ctxAt (m - 1)) msg
    else
      u.ctxPut (m - 1) { u.ctxAt (m - 1) with
        waiting := if (u.ctxAt (m - 1)).waiting.any (fun p => p.1 == key) then
            (u.ctxAt (m - 1)).waiting.map (fun p => if p.1 = key then (key, msg) else p)
          else (u.ctxAt (m - 1)).waiting ++ [(key, msg)] }
  else
    match addr with
    | some (ip, port) => u.send (.ozilo (u.udpPeer ip port) msg)
    | none => u

theorem exec_publication_due {m : MasterId} {index sub : Nat} {r : Row} (hrun : s.ozRuns = true) (hpos : 1 ≤ m.val)
    (hdue : (s.masterAt m.val).subs.any (fun t => t.key == dkey index sub && s.subDue m.val t) = true)
    (hserve : s.serves index = true) (hrow : rowOf index sub = some r) :
    exec (.publication m index sub) s = .next ((s.published m.val index sub).deliverPub m.val (dkey index sub)
      (s.masterAt m.val).addr (s.publicationOf m.val index sub r)) := by
  have hgo : ¬ (s.ozRuns = false ∨ m.val = 0 ∨
      (s.masterAt m.val).subs.any (fun t => t.key == dkey index sub && s.subDue m.val t) = false ∨ s.serves index = false) := by
    simp only [hrun, hdue, hserve, Bool.true_eq_false, false_or, or_false]
    omega
  simp only [exec, execPublication, if_neg hgo, hrow]
  rfl

/-- The delivery concerns neither the masters nor the clocks. -/
theorem State.deliverPub_fields (m key : Nat) (addr : Option (Nat × Nat)) (msg : List Byte) :
    (s.deliverPub m key addr msg).oz.masters = s.oz.masters ∧ (s.deliverPub m key addr msg).clk = s.clk := by
  unfold State.deliverPub
  split
  · split <;> exact ⟨rfl, rfl⟩
  · split <;> exact ⟨rfl, rfl⟩

theorem State.deliverPub_udp {m : Nat} (key ip port : Nat) (msg : List Byte) (hm : 65 ≤ m) :
    s.deliverPub m key (some (ip, port)) msg = s.send (.ozilo (.udp ip port s.localIp s.localPort) msg) := by
  simp only [State.deliverPub, if_neg (Nat.not_lt.mpr hm)]
  rfl

/-- A publication takes the place of the one that waits. -/
theorem State.deliverPub_waiting {m key : Nat} (addr : Option (Nat × Nat)) (msg : List Byte) {p : List Byte} (hm : m < 65)
    (hready : (s.ctxAt (m - 1)).ready ≠ 0) (hwaiting : (s.ctxAt (m - 1)).waiting = [(key, p)]) :
    s.deliverPub m key addr msg = s.ctxPut (m - 1) { s.ctxAt (m - 1) with waiting := [(key, msg)] } := by
  simp [State.deliverPub, if_pos hm, if_neg hready, hwaiting]

/-- The master that published its only subscription, which has a period, has none that is due. -/
theorem State.published_not_due {m index sub : Nat} {j : Sub} {t : State} (hsubs : (s.masterAt m).subs = [j])
    (hkey : j.key = dkey index sub) (hperiod : 0 < j.period)
    (hmasters : t.oz.masters = (s.published m index sub).oz.masters) (hclk : t.clk = s.clk) :
    (t.masterAt m).subs.any (fun x => x.key == dkey index sub && t.subDue m x) = false := by
  have hmaster : t.masterAt m = (s.published m index sub).masterAt m := congrArg (fun l : Tab Master => tgetD l {} m) hmasters
  have hnow : (t.masterAt m).subs =
      [{ j with shown := s.liveVal m index sub, sent := some (t.clk.up, s.frameMark index sub) }] := by
    rw [hmaster, State.published, State.masterAt, State.masterPut, tgetD_tput_self, hsubs, hclk]
    simp [hkey]
  rw [hnow]
  simp [State.subDue_of_sent_now, hperiod]

/-! ### Forgotten masters -/

theorem State.queuesFreed_eq (m : Nat) : s.queuesFreed m = { s with queues := (s.queuesFreed m).queues } := rfl

/-- The queues of a master that is forgotten hold no request that is outstanding. -/
theorem State.outstanding_queuesFreed (m : Nat) : (s.queuesFreed m).outstanding m = 0 := by
  have hne : responseQueue m ≠ requestQueue m := by unfold responseQueue requestQueue; omega
  unfold State.queuesFreed State.outstanding State.queueAt State.queuePut
  simp only [tgetD_tput_ne _ _ _ hne, tgetD_tput_self]
  rfl

theorem State.each_queuesFreed (l : List Nat) :
    s.each l State.queuesFreed = { s with queues := (s.each l State.queuesFreed).queues } := by
  induction l generalizing s with
  | nil => rfl
  | cons m l ih => exact ih (s.queuesFreed m)

end

end Sys2Proof.Machine

namespace Sys2Proof.Proofs

open Sys2Proof Sys2Proof.Machine

/-- Settles O17: by the address of the heartbeats, by where a publication goes, and by the masters that are forgotten. -/
theorem heartbeatsAndPublicationsAreSent : Obligations.HeartbeatsAndPublicationsAreSent := by
  unfold Obligations.HeartbeatsAndPublicationsAreSent
  refine ⟨fun s hrun => ⟨fun haddr => ?_, fun m ip port x haddr hmasters hudp => ?_, State.length_heartbeatBody s⟩,
    fun m index sub r s hrun hdue hserve hrow => ⟨?_, fun ip port hm haddr => ?_, fun p hpos hm hready hwaiting => ?_,
      fun j hsubs hperiod hkey => ?_⟩,
    fun m s => ⟨fun hm => ?_, fun hm => ?_, fun hpending => ?_⟩⟩
  · simp only [exec, execHeartbeat, hrun, Bool.true_eq_false, if_false, if_pos haddr]
    rfl
  · simp only [exec, execHeartbeat, hrun, haddr, hmasters, hudp, Bool.true_eq_false, if_false, ne_eq, not_true_eq_false,
      List.foldl_cons, List.foldl_nil]
    rfl
  · exact leAt_message ..
  · have hsent := exec_publication_due s hrun (by omega) hdue hserve hrow
    rw [haddr, State.deliverPub_udp _ _ _ _ _ hm] at hsent
    exact hsent
  · rw [exec_publication_due s hrun hpos hdue hserve hrow]
    exact congrArg _ (State.deliverPub_waiting _ _ _ hm hready hwaiting)
  · by_cases hpos : 1 ≤ m.val
    · have hsent := exec_publication_due s hrun hpos hdue hserve hrow
      obtain ⟨hmasters, hclk⟩ := State.deliverPub_fields (s.published m.val index sub) m.val (dkey index sub)
        (s.masterAt m.val).addr (s.publicationOf m.val index sub r)
      exact ⟨_, hsent, fun _ => exec_publication_not_due _ (State.published_not_due s hsubs hkey hperiod hmasters hclk)⟩
    · obtain ⟨t, ht, -⟩ := exec_answers (.publication m index sub) s rfl
      exact ⟨t, ht, fun h => absurd h hpos⟩
  · have hforgotten : exec (.masterForgotten m) s = .next (((s.masterPut m.val {}).queuesFreed m.val).orphans (· == m.val)) := by
      simp only [exec, execMasterForgotten, if_pos hm]
    have hmasters (k : Nat) : (((s.masterPut m.val {}).queuesFreed m.val).orphans (· == m.val)).masterAt k =
        if m.val = k then {} else s.masterAt k :=
      tgetD_tput s.oz.masters {} {} m.val k
    refine ⟨_, hforgotten, by simp [hmasters], fun k hk => by simp [hmasters, Ne.symm hk], ?_,
      State.outstanding_queuesFreed _ _, rfl⟩
    simp [State.orphans, State.queuesFreed, State.queuePut, State.masterPut, Pending.orphan]
  · simp only [exec, execMasterForgotten, if_neg (Nat.not_le.mpr hm)]
  · obtain ⟨q, hq⟩ : ∃ q, s.each ((s.oz.masters.filter (fun p => decide (65 ≤ p.1))).map (·.1)) State.queuesFreed =
        { s with queues := q } := ⟨_, State.each_queuesFreed s _⟩
    refine ⟨_, by simp only [exec, execAddressChange, hpending, if_true, hq]; rfl, rfl, rfl, rfl, ?_, rfl⟩
    simp [State.orphans, Pending.orphan]

end Sys2Proof.Proofs

/-! PROOF. The persistent store (R44, R45, R47, R471). -/

namespace Sys2Proof.Machine

open Sys2Proof

section

set_option Elab.async false

variable (s : State)

/-- Writes that all fit the journal's room. -/
theorem journalFits_all (l : List PWrite) (room : Nat) (h : (l.map (fun w => w.size + 16)).sum ≤ room) :
    journalFits room l = (l, []) := by
  induction l generalizing room with
  | nil => rfl
  | cons w l ih =>
    simp only [List.map_cons, List.sum_cons] at h
    have hrest := ih (room - (w.size + 16)) (by omega)
    simp only [journalFits, if_pos (show w.size + 16 ≤ room by omega), hrest]

theorem journalFits_none {w : PWrite} (l : List PWrite) {room : Nat} (h : room < w.size + 16) :
    journalFits room (w :: l) = ([], w :: l) := by
  simp only [journalFits, if_neg (Nat.not_le.mpr h)]

theorem exec_heldWritesFlush {s : State} (hcan : s.canPersist = true) (hrun : s.store.stopped = false)
    (hheld : s.store.held.isEmpty = false) : exec .heldWritesFlush s = .next { s with store := storeFlush s.store } := by
  simp only [exec, execHeldWritesFlush, hcan, hrun, hheld, and_self, if_true]

theorem exec_persistenceStateClear (m : MasterId) (v : Byte) {s : State} (hrun : s.ozRuns = true)
    (hserve : s.serves 0x7100 = true) :
    exec (.persistenceStateClear m v) s = .next ((s.pstateWrite m.val v.toNat).1.answer 0x02 (writeItem 0x02 0x7100 0x0A 1)
      (s.pstateWrite m.val v.toNat).2 []) := by
  rw [← State.hostWrite_served (it := writeItem 0x02 0x7100 0x0A 1) (fun s => s.pstateWrite m.val v.toNat) hrun hserve]
  rfl

/-- What became of the commits that are done is noted at their masters. -/
theorem State.within_commitsDone : s.Within [.oz] s.commitsDone := by
  have hnote (u : State) (p : Pending) : u.Within [.oz] (u.masterPut p.master ((u.masterAt p.master).commitDone p)) :=
    (State.within_set_oz (by simp) _).mpr (State.within_refl _ _)
  exact (State.within_set_oz (by simp) _).mpr ((State.within_foldl _ hnote).mpr (State.within_refl _ _))

theorem State.within_overtake (key : Nat) : s.Within [.oz] (s.overtake key) :=
  State.Within.trans ((State.within_set_oz (by simp) _).mpr (State.within_refl _ _)) (State.within_commitsDone _)

theorem tfind_put {α : Type} (t : Tab α) (k j : Nat) (v : α) :
    tfind (tins k v (terase t k)) j = if k = j then some v else tfind t j := by
  rw [tfind_tins _ _ _ _ (by simp [tfind_terase]), tfind_terase]
  split <;> rfl

end

end Sys2Proof.Machine

namespace Sys2Proof.Proofs

open Sys2Proof Sys2Proof.Machine

/-- Settles O18, by what fits the journal and by the record at its front. -/
theorem persistentWritesKeepTheirOrder : Obligations.PersistentWritesKeepTheirOrder := by
  unfold Obligations.PersistentWritesKeepTheirOrder
  refine ⟨fun m v s => ⟨fun hcan hrun hheld hfit => ?_, fun w l hcan hrun hheld hfull => ?_, fun hrun hserve hv => ?_,
      fun hrun hserve hfull => ?_, fun hrun hserve hfull => ?_⟩,
    fun w l s => ⟨fun hrun hcan hunder hkey => ?_, fun hrun hcan hheld hroom => ?_⟩⟩
  · have hfits := journalFits_all s.store.held (journalMax - journalFill s.store) (by omega)
    rw [exec_heldWritesFlush hcan hrun hheld]
    simp only [storeFlush, hfits, List.isEmpty_nil, if_true]
  · have hfits := journalFits_none l (room := journalMax - journalFill s.store) (w := w) (by omega)
    refine ⟨_, exec_heldWritesFlush hcan hrun (by simp [hheld]), ?_⟩
    simp [storeFlush, hheld, hfits]
  · have hnot : v.toNat ≠ 0 := fun h => hv (BitVec.eq_of_toNat_eq h)
    rw [exec_persistenceStateClear m v hrun hserve]
    simp only [State.pstateWrite, State.clearWrite, if_pos hnot]
    rfl
  · rw [exec_persistenceStateClear m 0 hrun hserve]
    simp only [State.pstateWrite, State.clearWrite, hfull]
    rfl
  · refine ⟨_, exec_persistenceStateClear m 0 hrun hserve, ?_⟩
    have hleft := State.within_overtake s (dkey 0x7100 0x0A)
    have hmem : (s.overtake (dkey 0x7100 0x0A)).mem = s.mem :=
      MemSt.eq_of_cells (hleft .cells (by simp)) (hleft .mem (by simp))
    have hstore : (s.overtake (dkey 0x7100 0x0A)).store = s.store := hleft .store (by simp)
    have hcleared : s.pstateWrite m.val (0 : Byte).toNat = ((s.overtake (dkey 0x7100 0x0A)).pstateClear, stOk) := by
      simp only [State.pstateWrite, State.clearWrite, hfull]
      rfl
    rw [hcleared]
    refine ⟨fun hlost hheld => ?_, hleft .dict (by simp), hmem, hleft .out (by simp)⟩
    show (storeStateClear (s.overtake (dkey 0x7100 0x0A)).store).pstate = 0
    simp [storeStateClear, hstore, hlost, hheld]
  · refine ⟨{ s with store := storeCommit (storeRemap s.store none) }, ?_, ?_⟩
    · simp [exec, execPersistentWrite, hrun, hunder, hcan]
    · simp only [storeRemap, storeCommit, hunder, if_pos hkey]
      exact ⟨trivial, by simp [tfind_put], fun k hk => by simp [tfind_put, Ne.symm hk], trivial, trivial⟩
  · have hput : storePersist true s.store (dkey 0x7100 0x0D) (.num s.poweredTime) = { s.store with
        under := s.store.under ++
          [{ key := dkey 0x7100 0x0D, val := .num s.poweredTime, size := pwSize (.num s.poweredTime) }] } := by
      have hfits : journalRoom s.store (pwSize (.num s.poweredTime)) = true := decide_eq_true hroom
      simp only [storePersist, hrun, hheld, hfits, List.isEmpty_nil, Bool.and_self, Bool.false_eq_true, if_false, if_true]
    simp only [exec, execPoweredTimePersist, State.persist, hcan, hput]
    rfl

end Sys2Proof.Proofs

/-! PROOF. Syncs and the servo (R83, R85, R87). -/

namespace Sys2Proof.Machine

open Sys2Proof

section

set_option Elab.async false

variable {s : State} {port : PortId} {o : Int}

/-- The state that shows the offset of the latest Sync. -/
def State.showOffset (s : State) (o : Int) : State := s.putI 0x1200 4 (sat32 o)

theorem State.nat_showOffset_ne (s : State) (o : Int) {b : Nat} (h : dkey 0x1200 4 ≠ dkey 0x1200 b) :
    (s.showOffset o).nat 0x1200 b = s.nat 0x1200 b := State.nat_putI_ne s _ h

theorem State.fix_showOffset_ne (s : State) (o : Int) {b : Nat} (h : dkey 0x1200 4 ≠ dkey 0x1200 b) :
    (s.showOffset o).fix 0x1200 b = s.fix 0x1200 b := by
  unfold State.fix State.int
  rw [State.showOffset, State.putI, State.val_put_ne _ _ _ _ _ _ h]

theorem exec_ptpSync_taken (hport : s.flag 0x1201 1 port.val = true) (hselected : s.servo.selected = true)
    (hfollowed : s.nat 0x1201 0x0B = port.val) :
    exec (.ptpSync port { domain := s.nat 0x1201 3, beyond := [], offset := o }) s = .next (s.sync o) := by
  have htakes := (s.ptpTakes_iff port (s.nat 0x1201 3) []).mpr ⟨hport, rfl, rfl⟩
  simp [exec, execPtpSync, htakes, hselected, hfollowed]

theorem exec_ptpSync_discarded {domain : Nat} {beyond : List PtpFeature}
    (h : s.ptpTakes port domain beyond = false ∨ s.servo.selected = false ∨ s.nat 0x1201 0x0B ≠ port.val) :
    exec (.ptpSync port { domain := domain, beyond := beyond, offset := o }) s = .next s := by
  rcases h with h | h | h <;> simp [exec, execPtpSync, h]

theorem State.beyondStep_showOffset (s : State) (o p : Int) : (s.showOffset o).beyondStep p = decide (s.nat 0x1200 8 < p.natAbs) := by
  rw [State.beyondStep, State.nat_showOffset_ne _ _ (by decide)]
  exact decide_eq_decide.mpr Int.ofNat_lt

/-- A Sync within the step threshold steers the LOCKED servo. -/
theorem State.sync_locked (hstate : s.nat 0x1200 3 = 2) (hnear : o.natAbs ≤ s.nat 0x1200 8) :
    s.sync o = { (s.showOffset o).steer o with servo := { ((s.showOffset o).steer o).servo with jumpRun := 0 } } := by
  have hlocked : (s.showOffset o).servoState = 2 := (State.nat_showOffset_ne s o (by decide)).trans hstate
  have hbig : (s.showOffset o).beyondStep o = false := by
    rw [State.beyondStep_showOffset]
    exact decide_eq_false (Nat.not_lt.mpr hnear)
  unfold State.sync
  rw [← State.showOffset]
  simp only [hlocked, hbig]
  rfl

/-- A Sync beyond the step threshold steps the time base in ACQUIRING. -/
theorem State.sync_acquiring_far (hstate : s.nat 0x1200 3 = 1) (hfar : s.nat 0x1200 8 < o.natAbs) :
    s.sync o =
      let t := (s.showOffset o).stepTai (((s.showOffset o).clk.tai : Int) - o * (tNs : Int)).toNat
      { t with servo := { t.servo with integ := 0, lockRun := 0, lastSync := some t.clk.up } } := by
  have hacquiring : (s.showOffset o).servoState = 1 := (State.nat_showOffset_ne s o (by decide)).trans hstate
  have hbig : (s.showOffset o).beyondStep o = true := by
    rw [State.beyondStep_showOffset]
    exact decide_eq_true hfar
  unfold State.sync
  rw [← State.showOffset]
  simp only [hacquiring, hbig, svAcquiring, if_true]

/-- The fourth Sync beyond the threshold in a row is a jump in LOCKED. -/
theorem State.sync_jump (hstate : s.nat 0x1200 3 = 2) (hrun : s.servo.jumpRun = 3) (hfar : s.nat 0x1200 8 < o.natAbs) :
    s.sync o = ((s.showOffset o).bump 0x1200 0x10).enterHoldover false := by
  have hlocked : (s.showOffset o).servoState = 2 := (State.nat_showOffset_ne s o (by decide)).trans hstate
  have hbig : (s.showOffset o).beyondStep o = true := by
    rw [State.beyondStep_showOffset]
    exact decide_eq_true hfar
  have hjumps : (s.showOffset o).servo.jumpRun = 3 := hrun
  unfold State.sync
  rw [← State.showOffset]
  simp only [hlocked, hbig, hjumps]
  rfl

theorem State.enterHoldover_fields (s : State) (fromAcquiring : Bool) :
    (s.enterHoldover fromAcquiring).servo.c = s.servo.c ∧ (s.enterHoldover fromAcquiring).clk = s.clk := ⟨rfl, rfl⟩

theorem State.nat_enterHoldover_count (s : State) (fromAcquiring : Bool) :
    (s.enterHoldover fromAcquiring).nat 0x1200 0x11 = min (s.nat 0x1200 0x11 + 1) 0xFFFFFFFF :=
  (State.nat_bump (s.setServo svHoldover) 0x1200 0x11).trans
    (by rw [State.nat, s.int_setServo_ne svHoldover (by decide) (by decide), ← State.nat])

/-- The realignment of the PTP courses leaves the servo as it is. -/
theorem State.servo_realignPtp (s : State) : s.realignPtp.servo = s.servo :=
  State.each_proj State.servo (fun s k => by split <;> rfl) s _

theorem State.servo_stepTai (s : State) (t : Nat) : (s.stepTai t).servo = s.servo := by
  rw [State.stepTai, State.servo_realignPtp]
  rfl

end

end Sys2Proof.Machine

namespace Sys2Proof.Proofs

open Sys2Proof Sys2Proof.Machine

/-- Settles O19, by the servo's state and the step threshold. -/
theorem servoFollowsItsOffsets : Obligations.ServoFollowsItsOffsets := by
  unfold Obligations.ServoFollowsItsOffsets
  refine ⟨fun port o t0 s hport hselected hfollowed hstate hnear hlast => ?_,
    fun port o s hport hselected hfollowed hfar => ⟨fun hstate => ?_, fun hstate hrun => ?_⟩,
    fun port domain beyond o s hno => ?_⟩
  · refine ⟨_, exec_ptpSync_taken hport hselected hfollowed, ?_⟩
    rw [State.sync_locked hstate hnear]
    have hdt : (s.showOffset o).syncDt = ((s.clk.up - t0 : Nat) : Rat) / (tS : Rat) := by
      simp [State.syncDt, State.showOffset, State.putI, hlast]
    have hkp : (s.showOffset o).fix 0x1200 0x0A = s.fix 0x1200 0x0A := State.fix_showOffset_ne s o (by decide)
    have hki : (s.showOffset o).fix 0x1200 0x0B = s.fix 0x1200 0x0B := State.fix_showOffset_ne s o (by decide)
    have hslew : (s.showOffset o).fix 0x1200 7 = s.fix 0x1200 7 := State.fix_showOffset_ne s o (by decide)
    have hlocked : ((s.showOffset o).steer o).nat 0x1200 3 = 2 := by
      rw [State.steer, State.putX]
      exact ((congrArg (fun v => (valInt v).toNat) (State.val_put_ne _ _ _ _ _ _ (by decide))).trans
        (State.nat_showOffset_ne s o (by decide))).trans hstate
    refine ⟨?_, ?_, rfl, hlocked, rfl⟩
    · simp only [State.steer, State.putX, servoStep, hdt, hkp, hki, hslew]
      rfl
    · simp only [State.steer, State.putX, servoStep, hdt, hkp, hki, hslew, Bool.or_eq_true, decide_eq_true_eq]
      rfl
  · refine ⟨_, exec_ptpSync_taken hport hselected hfollowed, ?_⟩
    rw [State.sync_acquiring_far hstate hfar]
    have htai : (s.showOffset o).clk = s.clk := rfl
    rw [htai]
    have hclk := State.clk_stepTai (s.showOffset o) ((s.clk.tai : Int) - o * (tNs : Int)).toNat
    have hservo := State.servo_stepTai (s.showOffset o) ((s.clk.tai : Int) - o * (tNs : Int)).toNat
    have hsteps := State.nat_stepTai (s.showOffset o) ((s.clk.tai : Int) - o * (tNs : Int)).toNat
    rw [State.nat_showOffset_ne _ _ (by decide)] at hsteps
    generalize (s.showOffset o).stepTai ((s.clk.tai : Int) - o * (tNs : Int)).toNat = t at hclk hservo hsteps
    simp only [hclk, hservo]
    exact ⟨trivial, trivial, rfl, rfl, hsteps⟩
  · refine ⟨_, exec_ptpSync_taken hport hselected hfollowed, ?_⟩
    rw [State.sync_jump hstate hrun hfar]
    obtain ⟨hc, hclk⟩ := State.enterHoldover_fields ((s.showOffset o).bump 0x1200 0x10) false
    refine ⟨State.servoState_enterHoldover .., ?_, ?_, hc, hclk⟩
    · rw [State.nat_enterHoldover_ne _ _ (by decide) (by decide) (by decide), State.nat_bump,
        State.nat_showOffset_ne _ _ (by decide)]
    · rw [State.nat_enterHoldover_count, State.nat_bump_ne _ (by decide), State.nat_showOffset_ne _ _ (by decide)]
  · refine exec_ptpSync_discarded ?_
    rcases hno with h | h | h | h | h
    · exact .inl (State.ptpTakes_eq_false (.inl h))
    · exact .inl (State.ptpTakes_eq_false (.inr (.inl h)))
    · exact .inl (State.ptpTakes_eq_false (.inr (.inr h)))
    · exact .inr (.inl h)
    · exact .inr (.inr h)

end Sys2Proof.Proofs

/-! PROOF. Loops over the courses, and the SYNC_IN inputs (R95, R96). -/

namespace Sys2Proof.Machine

open Sys2Proof

section

set_option Elab.async false

/-! ### Loops -/

/-- What each step of a loop keeps, the loop keeps. -/
theorem State.each_invariant {P : State → Prop} {f : State → Nat → State} {l : List Nat} {s : State}
    (hstep : ∀ u, ∀ j ∈ l, P u → P (f u j)) (h : P s) : P (s.each l f) := by
  induction l generalizing s with
  | nil => exact h
  | cons j l ih =>
    exact ih (fun u i hi => hstep u i (List.mem_cons_of_mem _ hi)) (hstep s j List.mem_cons_self h)

/-- The step of element `k` decides what the other steps of the loop neither disturb before it nor undo after it. -/
theorem State.each_at {P R : State → Prop} {f : State → Nat → State} {l : List Nat} {k : Nat} {s : State} (hk : k ∈ l)
    (hnodup : l.Nodup) (hbefore : ∀ u, ∀ j ∈ l, j ≠ k → P u → P (f u j)) (hat : ∀ u, P u → R (f u k))
    (hafter : ∀ u, ∀ j ∈ l, j ≠ k → R u → R (f u j)) (h : P s) : R (s.each l f) := by
  induction l generalizing s with
  | nil => simp at hk
  | cons j l ih =>
    obtain ⟨hj, hl⟩ := List.nodup_cons.mp hnodup
    by_cases hjk : j = k
    · subst hjk
      show R ((f s j).each l f)
      exact State.each_invariant (fun u i hi => hafter u i (List.mem_cons_of_mem _ hi) fun h => hj (h ▸ hi)) (hat s h)
    · exact ih ((List.mem_cons.mp hk).resolve_left (Ne.symm hjk)) hl
        (fun u i hi => hbefore u i (List.mem_cons_of_mem _ hi)) (fun u i hi => hafter u i (List.mem_cons_of_mem _ hi))
        (hbefore s j List.mem_cons_self hjk h)

theorem mem_allCourses {k : Nat} : k ∈ allCourses ↔ k < 32 := List.mem_range

theorem nodup_allCourses : allCourses.Nodup := List.nodup_range

/-! ### What the courses' frames do not touch of an input -/

/-- The clocks, an input but for its count of lines, and its entries. -/
def State.inputView (s : State) (i : Nat) : ClkSt × SyncSt × (Fin 256 → Val) :=
  (s.clk, { s.syncsAt i with lines := 0 }, fun b => s.val (0x1210 + i) b)

variable {s : State} {i : Nat}

theorem State.nat_of_inputView {u t : State} (h : t.inputView i = u.inputView i) (b : Fin 256) :
    t.nat (0x1210 + i) b = u.nat (0x1210 + i) b := by
  have hval : t.val (0x1210 + i) b = u.val (0x1210 + i) b := congrFun (congrArg (·.2.2) h) b
  simp only [State.nat, State.int, hval]

theorem State.inputView_put (hi : i < 4) (u : State) {j : Nat} (b : Nat) (v : Val) (hj : 0x1214 ≤ j) :
    (u.put j b v).inputView i = u.inputView i := by
  have hkey (c : Fin 256) : dkey j b ≠ dkey (0x1210 + i) c := by unfold dkey; omega
  exact Prod.ext rfl (Prod.ext rfl (funext fun c => State.val_put_ne _ _ _ _ _ _ (hkey c)))

theorem State.inputView_requestFrame (hi : i < 4) (u : State) (k : Nat) (counter : Option Nat) (t : Nat) :
    (u.requestFrame k counter t).inputView i = u.inputView i := by
  have hindex : 0x1214 ≤ refIx k := by unfold refIx; omega
  unfold State.requestFrame
  dsimp only
  split
  · exact State.inputView_put hi _ _ _ hindex
  · rfl

theorem State.inputView_frameEdge (hi : i < 4) (u : State) (j t : Nat) : (u.frameEdge j t).inputView i = u.inputView i := by
  refine State.each_proj (fun u => u.inputView i) (fun u k => ?_) u _
  split
  · dsimp only
    split
    · exact State.inputView_requestFrame hi ..
    · rfl
  · rfl

theorem State.inputView_syncsPut_lines (u : State) (j n : Nat) :
    (u.syncsPut j { u.syncsAt j with lines := n }).inputView i = u.inputView i := by
  refine Prod.ext rfl (Prod.ext ?_ rfl)
  simp only [State.inputView, State.syncsAt_syncsPut]
  split
  next h => rw [h]
  next => rfl

theorem State.inputView_markLines (u : State) (j : Nat) : (u.markLines j).inputView i = u.inputView i := by
  refine State.each_proj (fun u => u.inputView i) (fun u k => ?_) u _
  split
  · exact State.inputView_syncsPut_lines ..
  · rfl

/-- A counted edge requests frames and counts lines, and leaves the rest of every input. -/
theorem State.inputView_countEdge (hi : i < 4) (u : State) (j t : Nat) : (u.countEdge j t).inputView i = u.inputView i := by
  unfold State.countEdge
  dsimp only
  split
  · exact (State.inputView_frameEdge hi ..).trans (State.inputView_markLines ..)
  · split
    · exact ((State.inputView_frameEdge hi ..).trans (State.inputView_syncsPut_lines ..)).trans (State.inputView_markLines ..)
    · exact (State.inputView_syncsPut_lines ..).trans (State.inputView_markLines ..)

/-! ### Edges -/

theorem exec_syncInEdge {i : Fin 4} {falling : Bool} (time : Nat) (hon : s.nat (0x1210 + i.val) 1 ≠ 0)
    (hedge : (s.nat (0x1210 + i.val) 2 == 1) = falling) :
    exec (.syncInEdge i falling time) s = .next (((s.standIns i.val time 4).syncHold i.val).syncEdge i.val time) := by
  have hgo : ¬ (s.nat (0x1210 + i.val) 1 = 0 ∨ (s.nat (0x1210 + i.val) 2 == 1) ≠ falling) := by simp [hon, hedge]
  simp only [exec, execSyncInEdge, if_neg hgo]

theorem exec_syncInEdge_ignored {i : Fin 4} {falling : Bool} (time : Nat)
    (h : s.nat (0x1210 + i.val) 1 = 0 ∨ (s.nat (0x1210 + i.val) 2 == 1) ≠ falling) :
    exec (.syncInEdge i falling time) s = .next s := by
  simp only [exec, execSyncInEdge, if_pos h]

theorem exec_syncInHoldover {i : Fin 4} (hon : s.nat (0x1210 + i.val) 1 ≠ 0) :
    exec (.syncInHoldover i) s = .next ((s.standIns i.val s.clk.tai 4).syncHold i.val) := by
  simp only [exec, execSyncInHoldover, if_neg hon]

/-- Nothing stands in for edges of an input that is not valid, that has missed four, or whose next edge is not overdue. -/
theorem State.standIns_none {t n : Nat} (h : s.nat (0x1210 + i) 8 ≠ 2 ∨ 4 ≤ (s.syncsAt i).missed ∨
    ∀ p, (s.syncsAt i).predicted = some p → t ≤ p + s.nat (0x1210 + i) 5 * tNs) : s.standIns i t n = s := by
  cases n with
  | zero => rfl
  | succ n =>
    unfold State.standIns
    dsimp only
    split
    next p hp =>
      refine if_neg fun ⟨hvalid, hfew, hdue⟩ => ?_
      rcases h with h | h | h
      · exact h hvalid
      · omega
      · exact absurd (h p hp) (by omega)
    next => rfl

theorem State.syncHold_stays (h : s.nat (0x1210 + i) 8 ≠ 2 ∨ (s.syncsAt i).missed < 4) : s.syncHold i = s :=
  if_neg fun ⟨hvalid, hmany⟩ => by
    rcases h with h | h
    · exact h hvalid
    · omega

theorem State.syncHold_enters (hvalid : s.nat (0x1210 + i) 8 = 2) (hmany : 4 ≤ (s.syncsAt i).missed) :
    (s.syncHold i).nat (0x1210 + i) 8 = 3 ∧ ((s.syncHold i).syncsAt i).good = 0 ∧
    ((s.syncHold i).syncsAt i).holdSince = s.clk.up := by
  have hsync : (s.syncHold i).syncsAt i =
      { s.syncsAt i with good := 0, predicted := none, holdSince := s.clk.up } := by
    rw [State.syncHold, if_pos ⟨hvalid, hmany⟩]
    exact tgetD_tput_self s.syncs {} _ i
  refine ⟨?_, by rw [hsync], by rw [hsync]⟩
  rw [State.syncHold, if_pos ⟨hvalid, hmany⟩, State.nat_putN]

theorem State.inGlitch_iff (t p : Nat) : s.inGlitch i t p = true ↔
    p ≤ t + s.nat (0x1210 + i) 5 * tNs ∧ t ≤ p + s.nat (0x1210 + i) 5 * tNs := by
  simp only [State.inGlitch, decide_eq_true_eq]
  omega

theorem State.syncEdge_valid {t p : Nat} (hvalid : s.nat (0x1210 + i) 8 = 2) (hpredicted : (s.syncsAt i).predicted = some p) :
    s.syncEdge i t = if s.inGlitch i t p then (s.acceptEdge i t).countEdge i t else s.bump (0x1210 + i) 9 := by
  simp only [State.syncEdge, hvalid, hpredicted, if_true]

theorem State.syncEdge_acquiring {t : Nat} (hstate : s.nat (0x1210 + i) 8 = 1) :
    s.syncEdge i t = (s.acquireEdge i t).countEdge i t := by
  simp [State.syncEdge, hstate]

/-- An accepted edge is shown and is the base of the next prediction. -/
theorem State.acceptEdge_shows (s : State) (i t : Nat) :
    (s.acceptEdge i t).nat (0x1210 + i) 7 = time80 (t / tNs) ∧ (s.acceptEdge i t).nat (0x1210 + i) 8 = s.nat (0x1210 + i) 8 ∧
    ((s.acceptEdge i t).syncsAt i).last = some t ∧ ((s.acceptEdge i t).syncsAt i).missed = 0 := by
  have hsyncs : (s.acceptEdge i t).syncsAt i = _ := tgetD_tput_self s.syncs {} _ i
  refine ⟨State.nat_putN .., ?_, by rw [hsyncs], by rw [hsyncs]⟩
  unfold State.acceptEdge
  dsimp only
  rw [State.nat_putN_ne _ _ _ _ _ _ (by unfold dkey; omega), State.nat_putN_ne _ _ _ _ _ _ (by unfold dkey; omega)]
  rfl

/-! ### Edges toward validity -/

theorem State.mode_acceptEdge (s : State) (i t : Nat) : (s.acceptEdge i t).nat (0x1210 + i) 1 = s.nat (0x1210 + i) 1 := by
  unfold State.acceptEdge
  dsimp only
  rw [State.nat_putN_ne _ _ _ _ _ _ (by unfold dkey; omega), State.nat_putN_ne _ _ _ _ _ _ (by unfold dkey; omega)]
  rfl

/-- The state that has noted an edge of an input being acquired. -/
def State.noteEdge (s : State) (i t est good : Nat) : State :=
  ((s.syncsPut i { s.syncsAt i with
      last := some t, predicted := if est = 0 then none else some (t + est), missed := 0, good := good }).putN
    (0x1210 + i) 6 est).putN (0x1210 + i) 7 (time80 (t / tNs))

theorem State.noteEdge_shows (s : State) (i t est good : Nat) :
    (s.noteEdge i t est good).nat (0x1210 + i) 6 = est ∧ (s.noteEdge i t est good).nat (0x1210 + i) 7 = time80 (t / tNs) ∧
    (s.noteEdge i t est good).nat (0x1210 + i) 8 = s.nat (0x1210 + i) 8 ∧
    ((s.noteEdge i t est good).syncsAt i).last = some t := by
  have hsyncs : (s.noteEdge i t est good).syncsAt i = _ := tgetD_tput_self s.syncs {} _ i
  refine ⟨?_, State.nat_putN .., ?_, by rw [hsyncs]⟩
  · rw [State.noteEdge, State.nat_putN_ne _ _ _ _ _ _ (by unfold dkey; omega), State.nat_putN]
  · rw [State.noteEdge, State.nat_putN_ne _ _ _ _ _ _ (by unfold dkey; omega),
      State.nat_putN_ne _ _ _ _ _ _ (by unfold dkey; omega)]
    rfl

/-- The first edges of an input that acquires show the period since the edge before. -/
theorem State.acquireEdge_first {t l : Nat} (hstate : s.nat (0x1210 + i) 8 = 1) (hlast : (s.syncsAt i).last = some l)
    (hpredicted : (s.syncsAt i).predicted = none) : s.acquireEdge i t = s.noteEdge i t (t - l) 0 := by
  simp only [State.acquireEdge, hstate, hlast, hpredicted]
  rfl

/-- The eighth edge in a row within its window makes the input valid; its courses realign. -/
theorem State.acquireEdge_eighth {t l p : Nat} (hstate : s.nat (0x1210 + i) 8 = 1) (hlast : (s.syncsAt i).last = some l)
    (hpredicted : (s.syncsAt i).predicted = some p) (hnear : s.inGlitch i t p = true) (hgood : (s.syncsAt i).good = 7) :
    s.acquireEdge i t =
      ((((s.noteEdge i t (t - l) 8).putN (0x1210 + i) 8 2).restoreRef (fun k => s.follows k 1 i)).each allCourses
        (fun u k => if u.follows k 1 i then u.realign k else u)) := by
  simp [State.acquireEdge, State.noteEdge, hstate, hlast, hpredicted, hnear, hgood]

theorem State.inputView_realigned (hi : i < 4) (u : State) (f : Nat → Bool) (g : State → Nat → Bool) :
    ((u.restoreRef f).each allCourses (fun u k => if g u k then u.realign k else u)).inputView i = u.inputView i := by
  have hrealign (u : State) : (u.each allCourses (fun u k => if g u k then u.realign k else u)).inputView i = u.inputView i :=
    State.each_proj (fun u => u.inputView i) (fun u k => by split <;> rfl) u _
  refine (hrealign _).trans (State.each_proj (fun u => u.inputView i) (fun u k => ?_) u _)
  split
  · unfold State.clearCause
    split
    · exact State.inputView_put hi _ _ _ (by unfold crs; omega)
    · rfl
  · rfl

/-! ### Holdover -/

/-- A predicted edge that stands in for one that was not accepted. -/
theorem State.standIns_step {t n p : Nat} (hvalid : s.nat (0x1210 + i) 8 = 2) (hfew : (s.syncsAt i).missed < 4)
    (hpredicted : (s.syncsAt i).predicted = some p) (hdue : p + s.nat (0x1210 + i) 5 * tNs < t) :
    s.standIns i t (n + 1) =
      ((s.syncsPut i { s.syncsAt i with
        last := some p, predicted := some (p + s.nat (0x1210 + i) 6), missed := (s.syncsAt i).missed + 1 }).countEdge i
          p).standIns i t n := by
  rw [State.standIns]
  simp only [hpredicted, if_pos (⟨hvalid, hfew, hdue⟩ : _ ∧ _ ∧ _)]

/-- With the window of the last of them over, stand-ins bring the count of missed edges to four. -/
theorem State.standIns_four (hi : i < 4) {t n p : Nat} (hvalid : s.nat (0x1210 + i) 8 = 2)
    (hmissed : (s.syncsAt i).missed + n = 4) (hpredicted : (s.syncsAt i).predicted = some p)
    (hdue : ∀ q < n, p + q * s.nat (0x1210 + i) 6 + s.nat (0x1210 + i) 5 * tNs < t) :
    (s.standIns i t n).nat (0x1210 + i) 8 = 2 ∧ ((s.standIns i t n).syncsAt i).missed = 4 ∧ (s.standIns i t n).clk = s.clk := by
  induction n generalizing s p with
  | zero => exact ⟨hvalid, hmissed, rfl⟩
  | succ n ih =>
    have hfirst : p + s.nat (0x1210 + i) 5 * tNs < t := by simpa using hdue 0 (Nat.succ_pos n)
    rw [State.standIns_step hvalid (by omega) hpredicted hfirst]
    generalize hu : s.syncsPut i { s.syncsAt i with
      last := some p, predicted := some (p + s.nat (0x1210 + i) 6), missed := (s.syncsAt i).missed + 1 } = u
    have hview := State.inputView_countEdge hi u i p
    have hentry (b : Fin 256) : (u.countEdge i p).nat (0x1210 + i) b = s.nat (0x1210 + i) b :=
      (State.nat_of_inputView hview b).trans (by rw [← hu]; rfl)
    have hsync : { (u.countEdge i p).syncsAt i with lines := 0 } = { u.syncsAt i with lines := 0 } :=
      congrArg (·.2.1) hview
    have hnoted : u.syncsAt i = { s.syncsAt i with
        last := some p, predicted := some (p + s.nat (0x1210 + i) 6), missed := (s.syncsAt i).missed + 1 } := by
      rw [← hu, State.syncsAt_syncsPut, if_pos rfl]
    rw [hnoted] at hsync
    simp only [SyncSt.mk.injEq] at hsync
    obtain ⟨hcoming, -, hcount, -⟩ := hsync
    have hclk : (u.countEdge i p).clk = s.clk := (congrArg (·.1) hview).trans (by rw [← hu]; rfl)
    have hmore : (u.countEdge i p).nat (0x1210 + i) 6 = s.nat (0x1210 + i) 6 := hentry 6
    have hwindow : (u.countEdge i p).nat (0x1210 + i) 5 = s.nat (0x1210 + i) 5 := hentry 5
    have hstill : (u.countEdge i p).nat (0x1210 + i) 8 = 2 := (hentry 8).trans hvalid
    have hnext := ih (s := u.countEdge i p) (p := p + s.nat (0x1210 + i) 6) hstill (by omega) hcoming (fun q hq => by
        have hlater := hdue (q + 1) (by omega)
        rw [Nat.add_mul q 1 (s.nat (0x1210 + i) 6), Nat.one_mul] at hlater
        rw [hmore, hwindow]
        omega)
    obtain ⟨hstate, hfour, hsame⟩ := hnext
    exact ⟨hstate, hfour, hsame.trans hclk⟩

/-! ### The frames that an edge requests -/

/-- What a request of a frame of course `k` depends on. -/
def State.courseView (s : State) (k : Nat) : ClkSt × FrameSt × (Fin 256 → Val) × (Fin 256 → Val) :=
  (s.clk, s.frmAt k, fun b => s.val (refIx k) b, fun b => s.val (crs k) b)

theorem State.courseView_bump {k j : Nat} (u : State) (hk : k < 32) (hj : j < 32) (hjk : j ≠ k) :
    (u.bump (refIx j) 0x19).courseView k = u.courseView k := by
  have href (c : Fin 256) : dkey (refIx j) 0x19 ≠ dkey (refIx k) c := by unfold dkey refIx; omega
  have hcrs (c : Fin 256) : dkey (refIx j) 0x19 ≠ dkey (crs k) c := by unfold dkey refIx crs; omega
  exact Prod.ext rfl (Prod.ext rfl (Prod.ext (funext fun c => State.val_put_ne _ _ _ _ _ _ (href c))
    (funext fun c => State.val_put_ne _ _ _ _ _ _ (hcrs c))))

theorem State.courseView_frmPut {k j : Nat} (u : State) (x : FrameSt) (hjk : j ≠ k) :
    (u.frmPut j x).courseView k = u.courseView k :=
  Prod.ext rfl (Prod.ext (by simp [State.courseView, State.frmAt_frmPut, hjk]) rfl)

theorem State.courseView_requestFrame {k j : Nat} (u : State) (counter : Option Nat) (t : Nat) (hk : k < 32) (hj : j < 32)
    (hjk : j ≠ k) : (u.requestFrame j counter t).courseView k = u.courseView k := by
  unfold State.requestFrame
  dsimp only
  split
  · rw [State.courseView_bump _ hk hj hjk, State.courseView_frmPut _ _ hjk]
  · rw [State.courseView_frmPut _ _ hjk]

theorem State.frmAt_requestFrame (u : State) (k : Nat) (counter : Option Nat) (t : Nat) :
    ((u.requestFrame k counter t).frmAt k).held = some { counter := counter, at_ := t, waits := !u.flybackOver k } := by
  unfold State.requestFrame
  dsimp only
  split
  · simp [State.bump, State.addSat, State.putN, State.put, State.frmAt, State.frmPut, tgetD_tput_self]
  · simp [State.frmAt_frmPut]

theorem State.of_courseView {u s : State} {k : Nat} (h : u.courseView k = s.courseView k) :
    u.clk = s.clk ∧ u.frmAt k = s.frmAt k ∧ u.follows k = s.follows k ∧ u.int (refIx k) 5 = s.int (refIx k) 5 ∧
    u.flybackOver k = s.flybackOver k := by
  have hclk : u.clk = s.clk := congrArg (·.1) h
  have hfrm : u.frmAt k = s.frmAt k := congrArg (·.2.1) h
  have href (b : Fin 256) : u.val (refIx k) b = s.val (refIx k) b := congrFun (congrArg (·.2.2.1) h) b
  have hcrs (b : Fin 256) : u.val (crs k) b = s.val (crs k) b := congrFun (congrArg (·.2.2.2) h) b
  have href1 : u.val (refIx k) 1 = s.val (refIx k) 1 := href 1
  have href2 : u.val (refIx k) 2 = s.val (refIx k) 2 := href 2
  have href5 : u.val (refIx k) 5 = s.val (refIx k) 5 := href 5
  have hcrs12 : u.nat (crs k) 0x12 = s.nat (crs k) 0x12 := congrArg (fun v => (valInt v).toNat) (hcrs 0x12)
  refine ⟨hclk, hfrm, ?_, ?_, ?_⟩
  · funext r ch
    simp only [State.follows, State.nat, State.int, href1, href2]
  · simp only [State.int, href5]
  · unfold State.flybackOver
    rw [hfrm, hclk, hcrs12]

/-- The step of `State.frameEdge` for one course. -/
def State.edgeAt (i t : Nat) (u : State) (k : Nat) : State :=
  if u.follows k 1 i then
    if u.edgeRequest k i t ≤ (u.clk.tai : Int) then u.requestFrame k none (u.edgeRequest k i t).toNat
    else u.frmPut k { u.frmAt k with coming := (u.frmAt k).coming ++ [(u.edgeRequest k i t).toNat] }
  else u

theorem State.frameEdge_eq (s : State) (i t : Nat) : s.frameEdge i t = s.each allCourses (State.edgeAt i t) := rfl

theorem State.courseView_edgeAt {k j : Nat} (u : State) (i t : Nat) (hk : k < 32) (hj : j < 32) (hjk : j ≠ k) :
    (State.edgeAt i t u j).courseView k = u.courseView k := by
  unfold State.edgeAt
  split
  · split
    · exact State.courseView_requestFrame _ _ _ hk hj hjk
    · exact State.courseView_frmPut _ _ hjk
  · rfl

/-- A frame edge requests a frame of a course without a phase offset at its own time. -/
theorem State.frameEdge_requests {k t : Nat} (s : State) (i : Nat) (hk : k < 32) (hfollows : s.follows k 1 i = true)
    (hphase : s.int (refIx k) 5 = 0) (htime : t ≤ s.clk.tai) :
    ((s.frameEdge i t).frmAt k).held = some { counter := none, at_ := t, waits := !s.flybackOver k } := by
  rw [State.frameEdge_eq]
  refine State.each_at (P := fun u => u.courseView k = s.courseView k)
    (R := fun u => (u.frmAt k).held = some { counter := none, at_ := t, waits := !s.flybackOver k })
    (mem_allCourses.mpr hk) nodup_allCourses (fun u j hj hjk h => ?_) (fun u h => ?_) (fun u j hj hjk h => ?_) rfl
  · exact (State.courseView_edgeAt u i t hk (mem_allCourses.mp hj) hjk).trans h
  · obtain ⟨hclk, -, hsame, hint, hfly⟩ := State.of_courseView h
    have hdue : u.edgeRequest k i t = t := by simp [State.edgeRequest, hint, hphase]
    have hnow : (t : Int) ≤ u.clk.tai := by rw [hclk]; exact Int.ofNat_le.mpr htime
    have hrequest : State.edgeAt i t u k = u.requestFrame k none t := by
      simp only [State.edgeAt, hsame, hfollows, hdue, if_pos hnow, if_true, Int.toNat_natCast]
    rw [hrequest, State.frmAt_requestFrame, hfly]
  · have hview := State.courseView_edgeAt u i t hk (mem_allCourses.mp hj) hjk
    have hfrm : (State.edgeAt i t u j).frmAt k = u.frmAt k := congrArg (·.2.1) hview
    rw [hfrm]
    exact h

/-! ### The commands -/

variable {i : Fin 4} {falling : Bool} {time p : Nat}

/-- An edge within the glitch window of a valid input's prediction is accepted and counted. -/
theorem exec_syncInEdge_accepted (hon : s.nat (0x1210 + i.val) 1 ≠ 0) (hedge : (s.nat (0x1210 + i.val) 2 == 1) = falling)
    (hvalid : s.nat (0x1210 + i.val) 8 = 2) (hpredicted : (s.syncsAt i.val).predicted = some p)
    (hfew : (s.syncsAt i.val).missed < 4) (hearly : p ≤ time + s.nat (0x1210 + i.val) 5 * tNs)
    (hlate : time ≤ p + s.nat (0x1210 + i.val) 5 * tNs) :
    exec (.syncInEdge i falling time) s = .next ((s.acceptEdge i.val time).countEdge i.val time) := by
  have hglitch : s.inGlitch i.val time p = true := State.inGlitch_iff .. |>.mpr ⟨hearly, hlate⟩
  rw [exec_syncInEdge time hon hedge,
    State.standIns_none (.inr (.inr fun q hq => by rw [hpredicted] at hq; cases hq; exact hlate)),
    State.syncHold_stays (.inr hfew), State.syncEdge_valid hvalid hpredicted, if_pos hglitch]

/-- One before the window is discarded. -/
theorem exec_syncInEdge_early (hon : s.nat (0x1210 + i.val) 1 ≠ 0) (hedge : (s.nat (0x1210 + i.val) 2 == 1) = falling)
    (hvalid : s.nat (0x1210 + i.val) 8 = 2) (hpredicted : (s.syncsAt i.val).predicted = some p)
    (hfew : (s.syncsAt i.val).missed < 4) (hbefore : time + s.nat (0x1210 + i.val) 5 * tNs < p) :
    exec (.syncInEdge i falling time) s = .next (s.bump (0x1210 + i.val) 9) := by
  have hglitch : s.inGlitch i.val time p = false :=
    Bool.eq_false_iff.mpr fun h => absurd (State.inGlitch_iff .. |>.mp h).1 (Nat.not_le.mpr hbefore)
  rw [exec_syncInEdge time hon hedge,
    State.standIns_none (.inr (.inr fun q hq => by rw [hpredicted] at hq; cases hq; omega)),
    State.syncHold_stays (.inr hfew), State.syncEdge_valid hvalid hpredicted, hglitch]
  rfl

theorem exec_syncInEdge_acquiring (hon : s.nat (0x1210 + i.val) 1 ≠ 0)
    (hedge : (s.nat (0x1210 + i.val) 2 == 1) = falling) (hstate : s.nat (0x1210 + i.val) 8 = 1) :
    exec (.syncInEdge i falling time) s = .next ((s.acquireEdge i.val time).countEdge i.val time) := by
  have hnot : s.nat (0x1210 + i.val) 8 ≠ 2 := by rw [hstate]; decide
  rw [exec_syncInEdge time hon hedge, State.standIns_none (.inl hnot), State.syncHold_stays (.inl hnot),
    State.syncEdge_acquiring hstate]

/-- What a counted edge shows. -/
theorem State.countEdge_shows (u : State) (i : Fin 4) (time : Nat) :
    (u.countEdge i.val time).nat (0x1210 + i.val) 6 = u.nat (0x1210 + i.val) 6 ∧
    (u.countEdge i.val time).nat (0x1210 + i.val) 7 = u.nat (0x1210 + i.val) 7 ∧
    (u.countEdge i.val time).nat (0x1210 + i.val) 8 = u.nat (0x1210 + i.val) 8 ∧
    ((u.countEdge i.val time).syncsAt i.val).last = (u.syncsAt i.val).last ∧
    ((u.countEdge i.val time).syncsAt i.val).missed = (u.syncsAt i.val).missed := by
  have hview := State.inputView_countEdge i.isLt u i.val time
  have hsync : { (u.countEdge i.val time).syncsAt i.val with lines := 0 } = { u.syncsAt i.val with lines := 0 } :=
    congrArg (·.2.1) hview
  simp only [SyncSt.mk.injEq] at hsync
  obtain ⟨-, hlast, hmissed, -⟩ := hsync
  exact ⟨State.nat_of_inputView hview 6, State.nat_of_inputView hview 7, State.nat_of_inputView hview 8, hlast, hmissed⟩

/-- The edge that an input in frame mode counts requests the frames that follow it. -/
theorem State.countEdge_requests {k : Nat} (u : State) (i t : Nat) (hk : k < 32) (hframe : u.nat (0x1210 + i) 1 = 1)
    (hfollows : u.follows k 1 i = true) (hphase : u.int (refIx k) 5 = 0) (htime : t ≤ u.clk.tai) :
    ((u.countEdge i t).frmAt k).held = some { counter := none, at_ := t, waits := !u.flybackOver k } := by
  have hmarked : (u.markLines i).dict = u.dict ∧ (u.markLines i).clk = u.clk ∧ (u.markLines i).frm = u.frm :=
    State.each_invariant (P := fun v => v.dict = u.dict ∧ v.clk = u.clk ∧ v.frm = u.frm)
      (fun v j _ h => by split <;> exact h) ⟨rfl, rfl, rfl⟩
  obtain ⟨hdict, hclk, hfrm⟩ := hmarked
  have hval (j b : Nat) : (u.markLines i).val j b = u.val j b := congrArg (fun d => tgetD d (dfltOf j b) (dkey j b)) hdict
  have hview : (u.markLines i).courseView k = u.courseView k := by
    simp only [State.courseView, hclk, hval, State.frmAt, hfrm]
  obtain ⟨-, -, hsame, hint, hfly⟩ := State.of_courseView hview
  have hmode : (u.markLines i).nat (0x1210 + i) 1 = 1 := by simpa only [State.nat, State.int, hval] using hframe
  unfold State.countEdge
  dsimp only
  rw [if_pos hmode, State.frameEdge_requests (u.markLines i) i hk (by rw [hsame]; exact hfollows) (hint.trans hphase)
    (by rw [hclk]; exact htime), hfly]

/-- The frames' view of a course does not see an input's edges. -/
theorem State.courseView_acceptEdge {k : Nat} (s : State) (i : Fin 4) (t : Nat) :
    (s.acceptEdge i.val t).courseView k = s.courseView k := by
  have href (b : Nat) (c : Fin 256) (hb : b < 256) : dkey (0x1210 + i.val) b ≠ dkey (refIx k) c := by unfold dkey refIx; omega
  have hcrs (b : Nat) (c : Fin 256) (hb : b < 256) : dkey (0x1210 + i.val) b ≠ dkey (crs k) c := by unfold dkey crs; omega
  refine Prod.ext rfl (Prod.ext rfl (Prod.ext (funext fun c => ?_) (funext fun c => ?_)))
  · exact (State.val_put_ne _ _ _ _ _ _ (href 7 c (by decide))).trans (State.val_put_ne _ _ _ _ _ _ (href 6 c (by decide)))
  · exact (State.val_put_ne _ _ _ _ _ _ (hcrs 7 c (by decide))).trans (State.val_put_ne _ _ _ _ _ _ (hcrs 6 c (by decide)))

/-- The eighth edge in a row leaves its input valid. -/
theorem State.acquireEdge_eighth_shows {l : Nat} (hstate : s.nat (0x1210 + i.val) 8 = 1)
    (hlast : (s.syncsAt i.val).last = some l) (hpredicted : (s.syncsAt i.val).predicted = some p)
    (hnear : s.inGlitch i.val time p = true) (hgood : (s.syncsAt i.val).good = 7) :
    (s.acquireEdge i.val time).nat (0x1210 + i.val) 8 = 2 ∧
    (s.acquireEdge i.val time).nat (0x1210 + i.val) 7 = time80 (time / tNs) := by
  rw [State.acquireEdge_eighth hstate hlast hpredicted hnear hgood]
  obtain ⟨-, hshown, -, -⟩ := State.noteEdge_shows s i.val time (time - l) 8
  have hview := State.inputView_realigned i.isLt ((s.noteEdge i.val time (time - l) 8).putN (0x1210 + i.val) 8 2)
    (fun k => s.follows k 1 i.val) (fun u k => u.follows k 1 i.val)
  have hkey : dkey (0x1210 + i.val) 8 ≠ dkey (0x1210 + i.val) 7 := by unfold dkey; omega
  have hvalid := State.nat_putN (s.noteEdge i.val time (time - l) 8) (0x1210 + i.val) 8 2
  exact ⟨(State.nat_of_inputView hview 8).trans hvalid,
    (State.nat_of_inputView hview 7).trans ((State.nat_putN_ne _ _ _ _ _ _ hkey).trans hshown)⟩

/-- A valid input whose four next edges are all overdue enters holdover. -/
theorem exec_syncInHoldover_overdue (hon : s.nat (0x1210 + i.val) 1 ≠ 0) (hvalid : s.nat (0x1210 + i.val) 8 = 2)
    (hmissed : (s.syncsAt i.val).missed = 0) (hpredicted : (s.syncsAt i.val).predicted = some p)
    (hdue : p + 3 * s.nat (0x1210 + i.val) 6 + s.nat (0x1210 + i.val) 5 * tNs < s.clk.tai) :
    Completes (.syncInHoldover i) s (fun t => t.nat (0x1210 + i.val) 8 = 3 ∧ (t.syncsAt i.val).good = 0 ∧
      (t.syncsAt i.val).holdSince = s.clk.up) := by
  have hall (q : Nat) (hq : q < 4) :
      p + q * s.nat (0x1210 + i.val) 6 + s.nat (0x1210 + i.val) 5 * tNs < s.clk.tai := by
    have hle := Nat.mul_le_mul_right (s.nat (0x1210 + i.val) 6) (Nat.le_of_lt_succ hq)
    omega
  obtain ⟨hstill, hfour, hclk⟩ := State.standIns_four (n := 4) i.isLt hvalid (by omega) hpredicted hall
  obtain ⟨hheld, hgood, hsince⟩ := State.syncHold_enters hstill (Nat.le_of_eq hfour.symm)
  exact ⟨_, exec_syncInHoldover hon, hheld, hgood, hsince.trans (congrArg ClkSt.up hclk)⟩

end

end Sys2Proof.Machine

namespace Sys2Proof.Proofs

open Sys2Proof Sys2Proof.Machine

/-- Settles O21, by the input's state and by where the edge lies to its prediction. -/
theorem syncInputsFollowTheirEdges : Obligations.SyncInputsFollowTheirEdges := by
  unfold Obligations.SyncInputsFollowTheirEdges
  intro i falling time l p s x ix window
  refine ⟨exec_syncInEdge_ignored time, fun hon hedge hvalid hpredicted hfew => ⟨fun hearly hlate => ?_, fun hbefore => ?_⟩,
    fun hon hedge hstate hlast => ⟨fun hnone => ?_, fun hpredicted hearly hlate hgood => ?_⟩, fun hon hvalid hmany => ?_,
    fun hon hvalid hmissed hpredicted => ⟨fun hdue => ?_, fun hnot => ?_⟩, fun hoff => ?_⟩
  · obtain ⟨hshown, hstays, hlast, hnone⟩ := State.acceptEdge_shows s i.val time
    obtain ⟨-, hshown', hstays', hlast', hnone'⟩ := State.countEdge_shows (s.acceptEdge i.val time) i time
    refine ⟨_, exec_syncInEdge_accepted hon hedge hvalid hpredicted hfew hearly hlate, hshown'.trans hshown,
      (hstays'.trans hstays).trans hvalid, hlast'.trans hlast, hnone'.trans hnone,
      fun k hk hframe hfollows hphase htime => ?_⟩
    obtain ⟨hclk, -, hsame, hint, hfly⟩ := State.of_courseView (State.courseView_acceptEdge s i time (k := k))
    rw [State.countEdge_requests _ _ _ hk (by rw [State.mode_acceptEdge]; exact hframe) (by rw [hsame]; exact hfollows)
      (hint.trans hphase) (by rw [hclk]; exact htime), hfly]
  · exact exec_syncInEdge_early hon hedge hvalid hpredicted hfew hbefore
  · obtain ⟨hperiod, hshown, hstays, hlast'⟩ := State.noteEdge_shows s i.val time (time - l) 0
    obtain ⟨hperiod', hshown', hstays', hlast'', -⟩ := State.countEdge_shows (s.noteEdge i.val time (time - l) 0) i time
    refine ⟨_, exec_syncInEdge_acquiring hon hedge hstate, ?_⟩
    rw [State.acquireEdge_first hstate hlast hnone]
    exact ⟨hperiod'.trans hperiod, hshown'.trans hshown, hlast''.trans hlast', (hstays'.trans hstays).trans hstate⟩
  · have hglitch : s.inGlitch i.val time p = true := State.inGlitch_iff .. |>.mpr ⟨hearly, hlate⟩
    obtain ⟨hvalid, hshown⟩ := State.acquireEdge_eighth_shows hstate hlast hpredicted hglitch hgood
    obtain ⟨-, hshown', hstays', -, -⟩ := State.countEdge_shows (s.acquireEdge i.val time) i time
    exact ⟨_, exec_syncInEdge_acquiring hon hedge hstate, hstays'.trans hvalid, hshown'.trans hshown⟩
  · rw [exec_syncInHoldover hon, State.standIns_none (.inr (.inl hmany))]
    exact congrArg _ (if_pos ⟨hvalid, hmany⟩)
  · exact exec_syncInHoldover_overdue hon hvalid hmissed hpredicted hdue
  · have hfew : (s.syncsAt i.val).missed < 4 := by rw [show (s.syncsAt i.val).missed = 0 from hmissed]; decide
    rw [exec_syncInHoldover hon, State.standIns_none (.inr (.inr fun q hq => by rw [hpredicted] at hq; cases hq; exact hnot)),
      State.syncHold_stays (.inr hfew)]
  · by_cases hon : s.nat (0x1210 + i.val) 1 = 0
    · simp only [exec, execSyncInHoldover, if_pos hon]
    · have hnot := hoff.resolve_left hon
      rw [exec_syncInHoldover hon, State.standIns_none (.inl hnot), State.syncHold_stays (.inl hnot)]

end Sys2Proof.Proofs

/-! PROOF. An index position beyond 63 bits (R97). -/

namespace Sys2Proof.Machine

open Sys2Proof

/-- Channel 0 in incremental mode with Z seen, and an index position in its entry that no position of 64 bits reaches: no
hypothesis of the obligation bounds it. -/
def farIndex : State := ((State.reset.putN 0x1218 1 1).putN 0x1218 3 (2 ^ 63)).shaftsPut 0 { zPending := true }

/-- The position of channel 0 where a command leaves it. -/
def shaftPosAfter : Host.Outcome State Fault Refusal → Option Int
  | .next s => some (s.shaftPos 0)
  | _ => none

/-- The count loads the index position as a signed number of 64 bits. -/
theorem farIndex_wraps : shaftPosAfter (exec (.shaftCount 0 true false) farIndex) = some (-2 ^ 63) := by
  decide +kernel

end Sys2Proof.Machine

namespace Sys2Proof.Proofs

open Sys2Proof Sys2Proof.Machine

/-- Refutes O22: the clause of the index gives the position as the entry's value, which wraps where it does not fit 64 bits. -/
theorem not_shaftsFollowTheirLines : ¬ Obligations.ShaftsFollowTheirLines := by
  unfold Obligations.ShaftsFollowTheirLines
  intro h
  obtain ⟨t, ht, hpos, -⟩ := (h.1 0 true false { bits := 0, parity := false, highBefore := false, highAfter := false } farIndex
    (by decide +kernel)).2.1 (by decide +kernel) (by decide +kernel) (by decide +kernel)
  have hwrapped : some (t.shaftPos 0) = some (-2 ^ 63) := (congrArg shaftPosAfter ht).symm.trans farIndex_wraps
  have hindex : ((farIndex.nat (shIx 0) 3 : Nat) : Int) = 2 ^ 63 := by decide +kernel
  have hclaim : t.shaftPos 0 = 2 ^ 63 := hpos.trans hindex
  rw [hclaim] at hwrapped
  exact absurd hwrapped (by decide)

end Sys2Proof.Proofs

/-! PROOF. Which entries a write leaves as they were. -/

namespace Sys2Proof.Machine

theorem State.onlyEntries_put (s : State) (i b : Nat) (v : Val) : s.OnlyEntries (s.put i b v) [(i, b)] :=
  ⟨rfl, fun j c hother => s.val_put_ne i b j c v (hother (i, b) (by simp))⟩

theorem State.onlyEntries_putN (s : State) (i b n : Nat) : s.OnlyEntries (s.putN i b n) [(i, b)] :=
  s.onlyEntries_put i b _

end Sys2Proof.Machine

/-! PROOF. Consorts: beacons and phase lock. -/

namespace Sys2Proof.Machine

variable {s : State}

theorem exec_beaconSend_member {id : Fin 65536} (hmember : s.members id.val ≠ []) :
    exec (.beaconSend id) s = .next (({ s with beacon := { s.beacon with seq := (s.beacon.seq + 1) % 2 ^ 32 } } : State).send
      (.beacon (s.nat 0x1240 2) (s.nat 0x1240 3) (s.beaconBody id.val ++ leBytes 4 (crc32c (s.beaconBody id.val))))) :=
  congrArg Host.Outcome.next (if_neg (by simpa using hmember))

theorem exec_beaconSend_alone {id : Fin 65536} (halone : s.members id.val = []) : exec (.beaconSend id) s = .next s :=
  congrArg Host.Outcome.next (if_pos (by simpa using halone))

theorem exec_beaconReceive_bad {msg : List Byte} (hbad : beaconOk msg = false) :
    exec (.beaconReceive msg) s = .next (s.bump 0x1240 7) :=
  congrArg Host.Outcome.next (if_neg (by simp [hbad]))

/-- Counting the beacon comes first; the peer's node number raises 1240:05, and the peer joins the list last. -/
theorem exec_beaconReceive_own {msg : List Byte} (hok : beaconOk msg = true) (hown : (peerOf msg).serial = Config.serial) :
    exec (.beaconReceive msg) s = .next (s.bump 0x1240 6) :=
  congrArg Host.Outcome.next ((if_pos hok).trans (if_pos hown))

theorem exec_beaconReceive_peer {msg : List Byte} (hok : beaconOk msg = true) (hother : (peerOf msg).serial ≠ Config.serial) :
    Completes (.beaconReceive msg) s (fun t => t.nat 0x1240 6 = min (s.nat 0x1240 6 + 1) 0xFFFFFFFF ∧
      t.beacon.peers.getLast? = some (peerOf msg) ∧
      t.nat 0x1240 5 = (if (peerOf msg).node = s.nat 0x1240 1 then 1 else s.nat 0x1240 5)) := by
  refine ⟨_, congrArg Host.Outcome.next ((if_pos hok).trans (if_neg hother)), ?_, by simp, ?_⟩
  · change (ite _ _ _ : State).nat 0x1240 6 = _
    split
    · rw [State.nat_putN_ne _ _ _ _ _ _ (by decide), State.nat_bump]
    · exact State.nat_bump ..
  · change (ite _ _ _ : State).nat 0x1240 5 = _
    split
    · exact State.nat_putN ..
    · exact State.nat_bump_ne _ (by decide)

theorem exec_phaseLocked_near {k : CourseId} (hseeks : s.nat (refIx k.val) 0x13 = 3 ∨ s.nat (refIx k.val) 0x13 = 5)
    (hnear : 64 ≤ (s.mirAt k.val).nearBows) : exec (.phaseLocked k) s = .next (s.putN (refIx k.val) 0x13 4) :=
  congrArg Host.Outcome.next (if_pos ⟨hseeks, hnear⟩)

theorem exec_phaseLocked_stays {k : CourseId}
    (hnot : s.nat (refIx k.val) 0x13 ≠ 3 ∧ s.nat (refIx k.val) 0x13 ≠ 5 ∨ (s.mirAt k.val).nearBows < 64) :
    exec (.phaseLocked k) s = .next s :=
  congrArg Host.Outcome.next (if_neg (by omega))

theorem exec_phaseLockLost_far {k : CourseId} (hlocked : s.nat (refIx k.val) 0x13 = 4)
    (hfar : 16 ≤ (s.mirAt k.val).farBows) : exec (.phaseLockLost k) s = .next (s.putN (refIx k.val) 0x13 5) :=
  congrArg Host.Outcome.next (if_pos ⟨hlocked, hfar⟩)

theorem exec_phaseLockLost_stays {k : CourseId}
    (hnot : s.nat (refIx k.val) 0x13 ≠ 4 ∨ (s.mirAt k.val).farBows < 16) : exec (.phaseLockLost k) s = .next s :=
  congrArg Host.Outcome.next (if_neg (by omega))

theorem completes_of_putN {c : Instr} {i b n : Nat} (hexec : exec c s = .next (s.putN i b n)) :
    Completes c s (fun t => t.nat i b = n ∧ s.OnlyEntries t [(i, b)]) :=
  ⟨_, hexec, State.nat_putN .., s.onlyEntries_putN ..⟩

theorem consortPeerAbsent_marks (id : Fin 65536) (node : Fin 262144) :
    Completes (.consortPeerAbsent id node) s (fun t =>
      (∀ p ∈ t.beacon.peers, p.consort = id.val → p.node = node.val → p.present = false) ∧
      t.beacon.peers.length = s.beacon.peers.length ∧
      t = { s with beacon := { s.beacon with peers := t.beacon.peers } }) := by
  refine ⟨_, rfl, fun p hp hid hnode => ?_, List.length_map .., rfl⟩
  obtain ⟨q, -, rfl⟩ := List.mem_map.mp hp
  by_cases hq : q.consort = id.val ∧ q.node = node.val
  · rw [if_pos hq]
  · rw [if_neg hq] at hid hnode
    exact absurd ⟨hid, hnode⟩ hq

end Sys2Proof.Machine

namespace Sys2Proof.Proofs

open Sys2Proof.Machine

/-- Settles O25: each command is one guarded update, so each clause names the branch its hypotheses take. -/
theorem consortsBeaconAndLock : Obligations.ConsortsBeaconAndLock := by
  unfold Obligations.ConsortsBeaconAndLock
  refine ⟨fun id s => ⟨fun hmember => ⟨_, exec_beaconSend_member hmember, rfl, rfl, rfl, rfl, rfl⟩, exec_beaconSend_alone⟩,
    fun msg id node s => ⟨fun hok => ?_, exec_beaconReceive_bad,
      completes_of_putN rfl, consortPeerAbsent_marks id node⟩,
    fun k s => ⟨fun hseeks hnear => completes_of_putN (exec_phaseLocked_near hseeks hnear),
      fun hlocked hfar => completes_of_putN (exec_phaseLockLost_far hlocked hfar), exec_phaseLocked_stays,
      exec_phaseLockLost_stays⟩⟩
  by_cases hown : (peerOf msg).serial = Config.serial
  · refine ⟨_, exec_beaconReceive_own hok hown, State.nat_bump .., ?_⟩
    rw [if_pos hown]
  · simpa only [hown, if_false] using exec_beaconReceive_peer hok hown

end Sys2Proof.Proofs

/-! PROOF. A valid pair of crossings (R126 to R133, R542). -/

namespace Sys2Proof.Machine

variable {s : State}

theorem State.bowAt_eq {s t : State} (h : t.bow = s.bow) (k : Nat) : t.bowAt k = s.bowAt k :=
  congrArg (fun l => tgetD l ({} : BowSt) k) h

@[simp] theorem State.bowAt_bowPut_self (s : State) (k : Nat) (b : BowSt) : (s.bowPut k b).bowAt k = b :=
  tgetD_tput_self ..

@[simp] theorem State.bowAt_publishModel (s : State) (k : Nat) : (s.publishModel k).bowAt k = { s.bowAt k with
    snap := some { bow := (s.bowAt k).bow, forward := (s.bowAt k).forward, c := (s.bowAt k).c, hp := (s.bowAt k).hp,
                   a := (s.bowAt k).a, setPoint := s.setPointNow k, state := s.modelState k } } :=
  State.bowAt_bowPut_self ..

@[simp] theorem State.bowAt_showAsymmetry (s : State) (k j : Nat) (mid : Rat) : (s.showAsymmetry k mid).bowAt j = s.bowAt j := by
  unfold State.showAsymmetry
  split <;> rfl

theorem State.nat_showAsymmetry {k i b : Nat} (s : State) (mid : Rat) (h : dkey (crs k) 0x19 ≠ dkey i b) :
    (s.showAsymmetry k mid).nat i b = s.nat i b := by
  unfold State.showAsymmetry
  split
  · exact State.nat_putI_ne _ _ h
  · rfl

/-- The clock runs and the course moves: its stamps count. -/
def State.Stamps (s : State) (k : Nat) : Prop := s.cst k ≠ 0 ∧ s.clk.refclk = true ∧ s.clk.slotRun = true

/-- The second crossing of a bow takes the stamp that waited and notes the direction. -/
def State.stampTaken (s : State) (k : Nat) (upper : Bool) : State :=
  s.bowPut k { s.bowAt k with stamp := none, stampForward := some upper }

section
variable {k : CourseId} {upper : Bool} {shown t0 : Nat}

theorem State.Stamps.runs (h : s.Stamps k.val) :
    ¬ (s.cst k.val = 0 ∨ s.clk.refclk = false ∨ s.clk.slotRun = false) := by
  obtain ⟨hmoves, href, hrun⟩ := h
  simp [hmoves, href, hrun]

theorem exec_senseCrossingStamp_first (h : s.Stamps k.val) (hnone : (s.bowAt k.val).stamp = none) :
    exec (.senseCrossingStamp k upper shown) s = .next (if (s.bowAt k.val).mid.isSome ∨ (s.bowAt k.val).rejected then s
      else s.bowPut k.val { s.bowAt k.val with stamp := some (upper, s.stampOf (2 * k.val) shown) }) := by
  refine congrArg Host.Outcome.next ((if_neg h.runs).trans ?_)
  simp only [hnone]

theorem exec_senseCrossingStamp_same (h : s.Stamps k.val) (hsame : (s.bowAt k.val).stamp = some (upper, t0)) :
    exec (.senseCrossingStamp k upper shown) s =
      .next (s.bowPut k.val { s.bowAt k.val with stamp := some (upper, s.stampOf (2 * k.val) shown) }) := by
  refine congrArg Host.Outcome.next ((if_neg h.runs).trans ?_)
  simp only [hsame, if_true]

/-- The crossing of the other level makes the pair; it counts where its interval is valid and its direction the bow's. -/
theorem exec_senseCrossingStamp_pair (h : s.Stamps k.val) (hother : (s.bowAt k.val).stamp = some (!upper, t0)) {hp : Rat}
    (hhp : hp = if (s.bowAt k.val).seeded then (s.bowAt k.val).hp else halfPeriod (s.f32 (0x3150 + k.val) 1)) :
    let t64 := s.stampOf (2 * k.val) shown
    let dt : Rat := ((t64 : Int) - (t0 : Int) : Int) / 64
    exec (.senseCrossingStamp k upper shown) s = .next (
      if pairValid dt hp ∧ ((s.bowAt k.val).seeded = false ∨ (s.bowAt k.val).forward = upper) then
        (s.stampTaken k.val upper).takePair k.val upper (((t64 : Rat) + (t0 : Rat)) / 128) dt hp
      else s.stampTaken k.val upper) := by
  refine congrArg Host.Outcome.next ((if_neg h.runs).trans ?_)
  subst hhp
  simp only [hother, Bool.not_eq_self, if_false, Bool.not_not, State.stampTaken]

theorem pairValid_of {dt hp : Rat} (hpos : 0 < hp) (hlow : hp / 10 ≤ dt) (hhigh : dt ≤ 9 * hp / 10) : pairValid dt hp = true := by
  simp [pairValid, hpos, hlow, hhigh]

end

/-- The pair that a second crossing makes: its interval and its mid-point, in slots. -/
def State.pairInterval (s : State) (k shown t0 : Nat) : Rat := ((s.stampOf (2 * k) shown : Int) - (t0 : Int) : Int) / 64
def State.pairMid (s : State) (k shown t0 : Nat) : Rat := ((s.stampOf (2 * k) shown : Rat) + (t0 : Rat)) / 128

theorem exec_senseCrossingStamp_valid {k : CourseId} {upper : Bool} {shown t0 : Nat} (h : s.Stamps k.val)
    (hother : (s.bowAt k.val).stamp = some (!upper, t0)) {hp : Rat}
    (hhp : hp = if (s.bowAt k.val).seeded then (s.bowAt k.val).hp else halfPeriod (s.f32 (0x3150 + k.val) 1))
    (hvalid : pairValid (s.pairInterval k.val shown t0) hp = true)
    (hdir : (s.bowAt k.val).seeded = false ∨ (s.bowAt k.val).forward = upper) :
    exec (.senseCrossingStamp k upper shown) s = .next ((s.stampTaken k.val upper).takePair k.val upper
      (s.pairMid k.val shown t0) (s.pairInterval k.val shown t0) hp) :=
  (exec_senseCrossingStamp_pair h hother hhp).trans (congrArg Host.Outcome.next (if_pos ⟨hvalid, hdir⟩))

theorem State.seeded_takePair {u : State} {k : Nat} (hnot : (u.bowAt k).seeded = false) (fwd : Bool) (mid dt hp : Rat) :
    u.takePair k fwd mid dt hp = u.seedModel k fwd mid dt hp := by
  unfold State.takePair
  simp [hnot]

theorem State.bowAt_setModel (s : State) (k j n : Nat) : (s.setModel k n).bowAt j = s.bowAt j := rfl

theorem State.seedModel_seeds (u : State) (k : Nat) (fwd : Bool) (mid dt hp : Rat) :
    let b := (u.seedModel k fwd mid dt hp).bowAt k
    b.seeded = true ∧ b.hp = hp ∧ b.c = mid ∧ b.forward = fwd ∧ b.stamp = (u.bowAt k).stamp := by
  unfold State.seedModel
  dsimp only
  rw [State.bowAt_publishModel]
  split <;> simp [State.bowAt_setModel]

theorem absR_eq_abs (q : Rat) : absR q = |q| := by
  unfold absR
  split
  · exact (abs_of_neg ‹_›).symm
  · exact (abs_of_nonneg (not_lt.mp ‹_›)).symm

theorem absR_clampR_symm {e : Rat} (he : 0 ≤ e) (q : Rat) : |clampR (-e) e q| ≤ e := by
  unfold clampR
  split
  · rw [abs_neg, abs_of_nonneg he]
  · split
    · rw [abs_of_nonneg he]
    · exact abs_le.mpr ⟨not_lt.mp ‹_›, not_lt.mp ‹_›⟩

theorem abs_mul_clampR_sub {e : Rat} (he : 0 ≤ e) (x q : Rat) : |x * (1 + clampR (-e) e q) - x| ≤ |x| * e := by
  rw [mul_add, mul_one, add_sub_cancel_left, abs_mul]
  exact mul_le_mul_of_nonneg_left (absR_clampR_symm he q) (abs_nonneg x)

/-- The relative error of R130's arithmetic is at most 2⁻⁴⁰ (log 10). -/
theorem absR_mul_relErr_sub (x : Rat) (n : Nat) : absR (x * relErr n - x) ≤ absR x / 1099511627776 := by
  have hbound := abs_mul_clampR_sub (e := 1 / 1099511627776) (by norm_num) x (Config.freeRat n)
  rw [absR_eq_abs, absR_eq_abs, div_eq_mul_one_div]
  exact hbound

section
variable {u : State} {k : Nat} {fwd : Bool} {mid dt hp mid2 c2 : Rat}

theorem State.bowAt_evalP2 (s : State) (k j : Nat) : (s.evalP2 k).bowAt j = s.bowAt j := rfl

theorem State.updateModel_updates (u : State) (k : Nat) (mid dt raw c2 : Rat) :
    let b := (u.updateModel k mid dt raw c2).bowAt k
    b.mid = some mid ∧ b.updated = true ∧ b.stamp = (u.bowAt k).stamp ∧
    b.hp = ((u.bowAt k).hp + (raw - (u.bowAt k).hp) / u.gain k 0) * relErr u.free := by
  unfold State.updateModel
  simp [State.bowAt_evalP2, State.bowAt_setModel]

theorem State.takePair_near (hseeded : (u.bowAt k).seeded = true) (hprev : (u.bowAt k).prev2 = some ⟨some mid2, c2⟩)
    (hnear : absR ((mid - mid2) / 2 - (u.bowAt k).hp) ≤ (u.bowAt k).hp / 1000) :
    u.takePair k fwd mid dt hp = (u.updateModel k mid dt ((mid - mid2) / 2) c2).showAsymmetry k mid := by
  unfold State.takePair
  simp [hseeded, hprev, not_lt.mpr hnear]

theorem State.takePair_far (hseeded : (u.bowAt k).seeded = true) (hprev : (u.bowAt k).prev2 = some ⟨some mid2, c2⟩)
    (hfar : (u.bowAt k).hp / 1000 < absR ((mid - mid2) / 2 - (u.bowAt k).hp)) :
    u.takePair k fwd mid dt hp = (u.rejectPair k mid).showAsymmetry k mid := by
  unfold State.takePair
  simp [hseeded, hprev, hfar]

theorem State.rejectPair_rejects (u : State) (k : Nat) (mid : Rat) :
    (u.rejectPair k mid).bowAt k =
      { u.bowAt k with mid := some mid, rejected := true, rejRun := (u.bowAt k).rejRun + 1, run := 0 } := by
  unfold State.rejectPair
  dsimp only
  (repeat' split) <;> simp [State.bowAt_setModel, State.bowAt_eq (State.bump_fields _ _ _).2.2.2.2.2.2.2.2.1]

theorem State.nat_setModel_ne {b : Nat} (hother : dkey (crs k) 0x15 ≠ dkey (crs k) b) (n : Nat) :
    (u.setModel k n).nat (crs k) b = u.nat (crs k) b := State.nat_putN_ne _ _ _ _ _ _ hother

theorem State.rejectPair_counts (u : State) (mid : Rat) :
    (u.rejectPair k mid).nat (crs k) 0x1A = min (u.nat (crs k) 0x1A + 1) 0xFFFFFFFF := by
  have hother : dkey (crs k) 0x15 ≠ dkey (crs k) 0x1A := by simp [dkey]
  unfold State.rejectPair
  dsimp only
  (repeat' split) <;> simp [State.nat_setModel_ne hother]

theorem State.rejectPair_loses (h : 3 ≤ (u.bowAt k).rejRun) (mid : Rat) : (u.rejectPair k mid).nat (crs k) 0x15 = 4 := by
  unfold State.rejectPair
  rw [if_pos (by omega)]
  exact State.nat_putN ..

end

end Sys2Proof.Machine

namespace Sys2Proof.Proofs

open Sys2Proof.Machine

/-- Settles O26: a stamp waits, is replaced or makes the pair, and the pair seeds, updates or is rejected. -/
theorem crossingsSeedTheModel : Obligations.CrossingsSeedTheModel := by
  unfold Obligations.CrossingsSeedTheModel
  intro k upper t0 shown mid2 c2 s hmoves href hrun
  have hstamps : s.Stamps k.val := ⟨hmoves, href, hrun⟩
  have hself : (s.stampTaken k.val upper).bowAt k.val = { s.bowAt k.val with stamp := none, stampForward := some upper } :=
    State.bowAt_bowPut_self ..
  refine ⟨fun hnone hmid hrej => ?_, fun hnone hused => ?_, exec_senseCrossingStamp_same hstamps,
    fun hother hnot hpos hlow hhigh => ?_, fun hother hseeded hfwd hpos hlow hhigh hprev => ⟨fun hnear => ?_, fun hfar => ?_⟩,
    fun hother hseeded hfwd => ?_⟩
  · rw [exec_senseCrossingStamp_first hstamps hnone, if_neg (by simp [hmid, hrej])]
  · rw [exec_senseCrossingStamp_first hstamps hnone, if_pos hused]
  · refine ⟨_, exec_senseCrossingStamp_valid hstamps hother (by simp [hnot]) (pairValid_of hpos hlow hhigh) (.inl hnot), ?_⟩
    rw [State.seeded_takePair (by rw [hself]; exact hnot)]
    obtain ⟨h1, h2, h3, h4, h5⟩ := State.seedModel_seeds (s.stampTaken k.val upper) k.val upper
      (s.pairMid k.val shown t0) (s.pairInterval k.val shown t0) (halfPeriod (s.f32 (0x3150 + k.val) 1))
    exact ⟨h1, h2, h3, h4, by rw [h5, hself]⟩
  · refine ⟨_, exec_senseCrossingStamp_valid hstamps hother (by simp [hseeded]) (pairValid_of hpos hlow hhigh) (.inr hfwd), ?_⟩
    rw [State.takePair_near (by rw [hself]; exact hseeded) (by rw [hself]; exact hprev) (by rw [hself]; exact hnear)]
    simp only [State.bowAt_showAsymmetry]
    obtain ⟨h1, h2, h3, h4⟩ := State.updateModel_updates (s.stampTaken k.val upper) k.val
      (s.pairMid k.val shown t0) (s.pairInterval k.val shown t0) ((s.pairMid k.val shown t0 - mid2) / 2) c2
    refine ⟨h1, h2, by rw [h3, hself], ?_⟩
    rw [h4, hself]
    exact absR_mul_relErr_sub _ _
  · refine ⟨_, exec_senseCrossingStamp_valid hstamps hother (by simp [hseeded]) (pairValid_of hpos hlow hhigh) (.inr hfwd), ?_⟩
    rw [State.takePair_far (by rw [hself]; exact hseeded) (by rw [hself]; exact hprev) (by rw [hself]; exact hfar)]
    simp only [State.bowAt_showAsymmetry, State.rejectPair_rejects, hself, true_and]
    have hrow (b : Nat) (hb : b < 0x19 ∨ b = 0x1A) : dkey (crs k.val) 0x19 ≠ dkey (crs k.val) b := by simp [dkey]; omega
    refine ⟨?_, fun hthree => ?_⟩
    · rw [State.nat_showAsymmetry _ _ (hrow 0x1A (.inr rfl)), State.rejectPair_counts]
      rfl
    · rw [State.nat_showAsymmetry _ _ (hrow 0x15 (.inl (by decide)))]
      exact State.rejectPair_loses (by rw [hself]; exact hthree) _
  · exact (exec_senseCrossingStamp_pair hstamps hother rfl).trans
      (congrArg Host.Outcome.next (if_neg (by simp [hseeded, hfwd])))

end Sys2Proof.Proofs

/-! PROOF. The entries that an operation may write: `DictIn L d e` says that the dictionary `e` differs from `d` in the
    places
`L` at most. -/

namespace Sys2Proof.Machine

open Sys2Proof

/-- Entries that an operation may write: one entry; a sub-index of the indices from one on; every entry of those. -/
inductive Place where
  | entry (i b : Nat)
  | column (lo b : Nat)
  | rows (lo : Nat)
  deriving DecidableEq

/-- The place holds the entry. -/
@[simp] def Place.has : Place → Nat → Nat → Prop
  | .entry j c, i, b => i = j ∧ b = c
  | .column lo c, i, b => lo ≤ i ∧ b = c
  | .rows lo, i, _ => lo ≤ i

/-- `e` holds what `d` does in every entry outside the places. -/
def DictIn (L : List Place) (d e : Tab Val) : Prop :=
  ∀ i b, b < 256 → (∀ p ∈ L, ¬ p.has i b) → tgetD e (dfltOf i b) (dkey i b) = tgetD d (dfltOf i b) (dkey i b)

section

variable {L : List Place} {d e : Tab Val} {s t : State}

theorem DictIn.refl (L : List Place) (d : Tab Val) : DictIn L d d := fun _ _ _ _ => rfl

theorem DictIn.val (h : DictIn L s.dict t.dict) {i b : Nat} (hb : b < 256) (hout : ∀ p ∈ L, ¬ p.has i b) :
    t.val i b = s.val i b := h i b hb hout

theorem DictIn.int (h : DictIn L s.dict t.dict) {i b : Nat} (hb : b < 256) (hout : ∀ p ∈ L, ¬ p.has i b) :
    t.int i b = s.int i b := congrArg valInt (h.val hb hout)

theorem DictIn.nat (h : DictIn L s.dict t.dict) {i b : Nat} (hb : b < 256) (hout : ∀ p ∈ L, ¬ p.has i b) :
    t.nat i b = s.nat i b := congrArg Int.toNat (h.int hb hout)

theorem DictIn.flag (h : DictIn L s.dict t.dict) {i b : Nat} (n : Nat) (hb : b < 256) (hout : ∀ p ∈ L, ¬ p.has i b) :
    t.flag i b n = s.flag i b n := congrArg (bit · n) (h.nat hb hout)

theorem DictIn.mono {L' : List Place} (h : DictIn L d e) (hsub : L ⊆ L') : DictIn L' d e :=
  fun i b hb hout => h i b hb fun p hp => hout p (hsub hp)

theorem DictIn.trans {f : Tab Val} (h : DictIn L d e) (g : DictIn L e f) : DictIn L d f :=
  fun i b hb hout => (g i b hb hout).trans (h i b hb hout)

theorem dkey_ne {i b j c : Nat} (hb : b < 256) (hc : c < 256) (h : i = j → b ≠ c) : dkey j c ≠ dkey i b := by
  intro hkey
  unfold dkey at hkey
  exact h (by omega) (by omega)

theorem dictIn_put {j c : Nat} (v : Val) (p : Place) (hp : p ∈ L) (hc : c < 256) (hhas : p.has j c) :
    DictIn L d (s.put j c v).dict ↔ DictIn L d s.dict := by
  have hsame (i b : Nat) (hb : b < 256) (hout : ∀ p ∈ L, ¬ p.has i b) : (s.put j c v).val i b = s.val i b := by
    refine State.val_put_ne _ _ _ _ _ _ (dkey_ne hb hc fun hi hbc => hout p hp ?_)
    rw [hi, hbc]
    exact hhas
  exact ⟨fun h i b hb hout => (hsame i b hb hout).symm.trans (h i b hb hout),
    fun h i b hb hout => (hsame i b hb hout).trans (h i b hb hout)⟩

@[simp] theorem dictIn_entry (i b : Nat) (v : Val) (h : .entry i b ∈ L) (hb : b < 256) :
    DictIn L d (s.put i b v).dict ↔ DictIn L d s.dict :=
  dictIn_put v _ h hb ⟨rfl, rfl⟩

theorem dictIn_column {i b : Nat} (lo : Nat) (v : Val) (hlo : lo ≤ i) (hb : b < 256) (h : .column lo b ∈ L) :
    DictIn L d (s.put i b v).dict ↔ DictIn L d s.dict :=
  dictIn_put v _ h hb ⟨hlo, rfl⟩

theorem dictIn_rows {i b : Nat} (lo : Nat) (v : Val) (hlo : lo ≤ i) (hb : b < 256) (h : .rows lo ∈ L) :
    DictIn L d (s.put i b v).dict ↔ DictIn L d s.dict :=
  dictIn_put v _ h hb hlo

theorem dictIn_each (l : List Nat) {f : State → Nat → State}
    (h : ∀ (s : State) k, DictIn L d (f s k).dict ↔ DictIn L d s.dict) :
    DictIn L d (s.each l f).dict ↔ DictIn L d s.dict := by
  induction l generalizing s with
  | nil => rfl
  | cons k l ih => exact (ih (s := f s k)).trans (h s k)

theorem dictIn_foldl {β : Type} (l : List β) {f : State → β → State}
    (h : ∀ (s : State) x, DictIn L d (f s x).dict ↔ DictIn L d s.dict) :
    DictIn L d (l.foldl f s).dict ↔ DictIn L d s.dict := by
  induction l generalizing s with
  | nil => rfl
  | cons x l ih => exact (ih (s := f s x)).trans (h s x)

theorem dictIn_foldl_fst {β γ : Type} (l : List β) {f : State × γ → β → State × γ}
    (h : ∀ (x : State × γ) y, DictIn L d (f x y).1.dict ↔ DictIn L d x.1.dict) (x : State × γ) :
    DictIn L d (l.foldl f x).1.dict ↔ DictIn L d x.1.dict := by
  induction l generalizing x with
  | nil => rfl
  | cons y l ih => exact (ih (f x y)).trans (h x y)

theorem dictIn_foldl_of {β γ : Type} (g : γ → State) (l : List β) {f : γ → β → γ}
    (h : ∀ x y, DictIn L d (g (f x y)).dict ↔ DictIn L d (g x).dict) (x : γ) :
    DictIn L d (g (l.foldl f x)).dict ↔ DictIn L d (g x).dict := by
  induction l generalizing x with
  | nil => rfl
  | cons y l ih => exact (ih (f x y)).trans (h x y)

theorem le_emitIx (l : Nat) : 0x2000 ≤ emitIx l := by
  unfold emitIx
  split <;> omega

theorem le_laneIx (l : Nat) : 0x2000 ≤ laneIx l := by
  unfold laneIx
  split <;> omega

@[simp] theorem dictIn_ite (c : Prop) [Decidable c] :
    DictIn L d (if c then s else t).dict ↔ if c then DictIn L d s.dict else DictIn L d t.dict := by
  split <;> rfl

end

end Sys2Proof.Machine

/-! PROOF. What entries the operations of spares, courses, trips and lanes may write. -/

namespace Sys2Proof.Machine

open Sys2Proof

section

variable {L : List Place} {D : Tab Val}

@[simp] theorem State.dict_accrue (s : State) :
    s.accrue.dict = s.dict := rfl

@[simp] theorem State.writes_clearCause (h : [.column 0x2200 3] ⊆ L) (s : State) (k b : Nat) :
    DictIn L D (s.clearCause k b).dict ↔ DictIn L D s.dict := by
  unfold State.clearCause
  split <;> simp_all [State.setFlag, State.putN, dictIn_column 0x2200, crs]

@[simp] theorem State.writes_causeBit (h : [.column 0x2200 2, .column 0x2200 3] ⊆ L) (s : State) (k b : Nat) :
    DictIn L D (s.causeBit k b).dict ↔ DictIn L D s.dict := by
  unfold State.causeBit
  dsimp only
  (repeat' split) <;> simp_all [State.putN, State.setFlag, dictIn_column 0x2200, crs]

@[simp] theorem State.writes_ledgerNote (h : [.column 0x7020 5] ⊆ L) (s : State) (k : Nat) (r : LedgerRec) :
    DictIn L D (s.ledgerNote k r).dict ↔ DictIn L D s.dict := by
  simp_all [State.ledgerNote, State.add64, State.putN, dictIn_column 0x7020]

@[simp] theorem State.writes_hushNoted (h : [.column 0x7020 5] ⊆ L) (s : State) (k : Nat) :
    DictIn L D (s.hushNoted k).dict ↔ DictIn L D s.dict := by
  unfold State.hushNoted
  split <;> simp_all

@[simp] theorem State.writes_darkIfDone (h : [.entry 0x4200 1] ⊆ L) (s : State) :
    DictIn L D s.darkIfDone.dict ↔ DictIn L D s.dict := by
  simp_all [State.darkIfDone, State.putN]

@[simp] theorem State.writes_emptyPartition (h : [.column 0x2680 0xF, .column 0x2680 0x10] ⊆ L) (s : State) (k : Nat) :
    DictIn L D (s.emptyPartition k).dict ↔ DictIn L D s.dict := by
  simp_all [State.emptyPartition, State.putN, dictIn_column 0x2680]

@[simp] theorem State.writes_domainBit (h : [.column 0x4010 4] ⊆ L) (s : State) (k i : Nat) (b : Bool) :
    DictIn L D (s.domainBit k i b).dict ↔ DictIn L D s.dict := by
  simp_all [State.domainBit, State.setFlag, State.putN, dictIn_column 0x4010, dictIn_each]

@[simp] theorem State.writes_runStart (h : [.column 0x4010 4] ⊆ L) (s : State) (k : Nat) :
    DictIn L D (s.runStart k).dict ↔ DictIn L D s.dict := by
  simp_all [State.runStart]

@[simp] theorem State.writes_setCst (h : [.column 0x2200 1, .column 0x2680 0xF, .column 0x2680 0x10, .column 0x4010 4,
    .column 0x7020 5, .entry 0x4200 1] ⊆ L) (s : State) (k st : Nat) :
    DictIn L D (s.setCst k st).dict ↔ DictIn L D s.dict := by
  simp_all [State.setCst, State.putN, dictIn_column 0x2200, crs]

@[simp] theorem State.dict_setArm (s : State) (k : Nat) (b : Bool) :
    (s.setArm k b).dict = s.dict := rfl

@[simp] theorem State.writes_toHushed (h : [.column 0x2200 1, .column 0x2680 0xF, .column 0x2680 0x10,
    .column 0x4010 4, .column 0x7020 5, .entry 0x4200 1] ⊆ L) (s : State) (k : Nat) :
    DictIn L D (s.toHushed k).dict ↔ DictIn L D s.dict := by
  simp_all [State.toHushed]

@[simp] theorem State.dict_queueBlock (s : State) (l : Nat) (x : TxBlock) :
    (s.queueBlock l x).dict = s.dict := rfl

@[simp] theorem State.dict_queueControl (s : State) (l b rank type fields : Nat) :
    (s.queueControl l b rank type fields).dict = s.dict := rfl

@[simp] theorem State.dict_hushCopies (s : State) (l b cause epoch : Nat) :
    (s.hushCopies l b cause epoch).dict = s.dict :=
  ((State.within_hushCopies (L := [.lanes]) (by simp) ..).mpr (State.within_refl _ _)) .dict (by simp)

@[simp] theorem State.dict_hushLane (s : State) (b cause : Nat) (l : Nat) :
    (s.hushLane b cause l).dict = s.dict := by
  unfold State.hushLane
  dsimp only
  split <;> simp

@[simp] theorem State.dict_hushCourse (s : State) (k cause : Nat) :
    (s.hushCourse k cause).dict = s.dict :=
  ((State.within_hushCourse (L := [.lanes]) (by simp) ..).mpr (State.within_refl _ _)) .dict (by simp)

@[simp] theorem State.writes_hushIfSpinning (h : [.column 0x2200 1, .column 0x2680 0xF, .column 0x2680 0x10,
    .column 0x4010 4, .column 0x7020 5, .entry 0x4200 1] ⊆ L) (s : State) (k : Nat) :
    DictIn L D (s.hushIfSpinning k).dict ↔ DictIn L D s.dict := by
  simp_all [State.hushIfSpinning]

@[simp] theorem State.writes_setCause (h : [.column 0x2200 1, .column 0x2200 2, .column 0x2200 3, .column 0x2680 0xF,
    .column 0x2680 0x10, .column 0x4010 4, .column 0x7020 5, .entry 0x4200 1] ⊆ L) (s : State) (k b : Nat) :
    DictIn L D (s.setCause k b).dict ↔ DictIn L D s.dict := by
  simp_all [State.setCause]

@[simp] theorem State.writes_retrainRefresh (h : [.column 0x2200 1, .column 0x2200 2, .column 0x2200 3,
    .column 0x2680 0xF, .column 0x2680 0x10, .column 0x4010 4, .column 0x7020 5, .entry 0x4200
    1] ⊆ L) (s : State) (k : Nat) :
    DictIn L D (s.retrainRefresh k).dict ↔ DictIn L D s.dict := by
  simp_all [State.retrainRefresh]

@[simp] theorem State.writes_laneRefresh (h : [.column 0x2200 1, .column 0x2200 2, .column 0x2200 3,
    .column 0x2680 0xF, .column 0x2680 0x10, .column 0x4010 4, .column 0x7020 5, .entry 0x4200
    1] ⊆ L) (s : State) (l : Nat) :
    DictIn L D (s.laneRefresh l).dict ↔ DictIn L D s.dict := by
  unfold State.laneRefresh
  split <;> simp_all

@[simp] theorem State.dict_offer (s : State) (kind : SpareKind) (unit : Nat) (worn : Bool) :
    (s.offer kind unit worn).dict = s.dict := by
  unfold State.offer
  dsimp only
  split <;> simp

@[simp] theorem State.writes_laneFailed (h : [.column 0x2200 1, .column 0x2200 2, .column 0x2200 3, .column 0x2680 0xF,
    .column 0x2680 0x10, .column 0x4010 4, .column 0x7020 5, .entry 0x4200 1] ⊆ L) (s : State) (l : Nat) :
    DictIn L D (s.laneFailed l).dict ↔ DictIn L D s.dict := by
  simp_all [State.laneFailed]

@[simp] theorem State.dict_darkBowTime (s : State) (k cls slots : Nat) :
    (s.darkBowTime k cls slots).dict = s.dict := by
  unfold State.darkBowTime
  split <;> rfl

@[simp] theorem State.writes_ledgerAdd (h : [.column 0x7020 2, .column 0x7020 5] ⊆ L) (s : State) (k : Nat)
    (r : LedgerRec) :
    DictIn L D (s.ledgerAdd k r).dict ↔ DictIn L D s.dict := by
  simp_all [State.ledgerAdd, State.add64, State.putN, dictIn_column 0x7020]

@[simp] theorem State.writes_darkBow (h : [.column 0x7020 2, .column 0x7020 5] ⊆ L) (s : State) (k : Nat)
    (r : LedgerRec) :
    DictIn L D (s.darkBow k r).dict ↔ DictIn L D s.dict := by
  unfold State.darkBow
  split <;> simp_all

@[simp] theorem State.writes_cutLedger (h : [.column 0x7020 2, .column 0x7020 5] ⊆ L) (s : State) (bh cause0 k : Nat) :
    DictIn L D (s.cutLedger bh cause0 k).dict ↔ DictIn L D s.dict := by
  unfold State.cutLedger
  dsimp only
  split <;> simp_all

@[simp] theorem State.writes_spanLost (h : [.column 0x7020 2, .column 0x7020 5] ⊆ L) (s : State) (l : Nat) :
    DictIn L D (s.spanLost l).dict ↔ DictIn L D s.dict := by
  unfold State.spanLost
  split <;> simp_all

@[simp] theorem State.writes_enterRetrain (h : [.column 0x2200 1, .column 0x2200 2, .column 0x2200 3,
    .column 0x2680 0xF, .column 0x2680 0x10, .column 0x4010 4, .column 0x7020 2, .column 0x7020 5, .entry 0x4200
    1] ⊆ L) (s0 : State) (l cls : Nat) :
    DictIn L D (s0.enterRetrain l cls).dict ↔ DictIn L D s0.dict := by
  simp_all [State.enterRetrain]

@[simp] theorem State.writes_takeLatency (h : [.column 0x2000 8] ⊆ L) (s : State) (l lfar : Nat) :
    DictIn L D (s.takeLatency l lfar).dict ↔ DictIn L D s.dict := by
  simp only [List.cons_subset, List.nil_subset, and_true] at h
  unfold State.takeLatency
  dsimp only
  split <;> split <;> simp [State.putN, dictIn_column 0x2000 _ (le_laneIx l), h]

@[simp] theorem State.writes_laneUp (h : [.column 0x2000 8, .column 0x2200 1, .column 0x2200 2, .column 0x2200 3,
    .column 0x2680 0xF, .column 0x2680 0x10, .column 0x4010 4, .column 0x7020 5, .entry 0x4200
    1] ⊆ L) (s0 : State) (l lfar : Nat) :
    DictIn L D (s0.laneUp l lfar).dict ↔ DictIn L D s0.dict := by
  simp_all [State.laneUp]

@[simp] theorem State.dict_realign (s : State) (k : Nat) :
    (s.realign k).dict = s.dict := rfl

@[simp] theorem State.dict_setBufs (s : State) (c : Nat) (l : List Buf) :
    (s.setBufs c l).dict = s.dict := rfl

@[simp] theorem State.dict_modBuf (s : State) (c b : Nat) (f : Buf → Buf) :
    (s.modBuf c b f).dict = s.dict := rfl

@[simp] theorem State.dict_freeBuf (s : State) (c b : Nat) :
    (s.freeBuf c b).dict = s.dict := rfl

@[simp] theorem State.dict_setEmitOk (s : State) (k : Nat) (b : Bool) :
    (s.setEmitOk k b).dict = s.dict := rfl

@[simp] theorem State.dict_rampAdvance (s : State) (k : Nat) :
    (s.rampAdvance k).dict = s.dict := rfl

@[simp] theorem State.dict_mirrorStop (s : State) (k : Nat) :
    (s.mirrorStop k).dict = s.dict := by
  unfold State.mirrorStop
  split <;> rfl

@[simp] theorem State.writes_dropModel (h : [.column 0x2200 0x15, .column 0x2200 0x1E] ⊆ L) (s : State) (k : Nat) :
    DictIn L D (s.dropModel k).dict ↔ DictIn L D s.dict := by
  simp_all [State.dropModel, State.putN, dictIn_column 0x2200, crs]

@[simp] theorem State.writes_runAbort (h : [.column 0x4010 4, .column 0x4010 0x12] ⊆ L) (s : State) (k : Nat) :
    DictIn L D (s.runAbort k).dict ↔ DictIn L D s.dict := by
  simp_all [State.runAbort, State.bump, State.addSat, State.putN, dictIn_column 0x4010, dictIn_each]

@[simp] theorem State.writes_toStopped (h : [.column 0x2200 1, .column 0x2200 0x15, .column 0x2200 0x1E,
    .column 0x2680 0xF, .column 0x2680 0x10, .column 0x4010 4, .column 0x4010 0x12, .column 0x7020 5, .entry 0x4200
    1] ⊆ L) (s : State) (k : Nat) :
    DictIn L D (s.toStopped k).dict ↔ DictIn L D s.dict := by
  simp_all [State.toStopped]

@[simp] theorem State.writes_setCauseNow (h : [.column 0x2200 1, .column 0x2200 2, .column 0x2200 3,
    .column 0x2200 0x15, .column 0x2200 0x1E, .column 0x2680 0xF, .column 0x2680 0x10, .column 0x4010 4, .column 0x4010
    0x12, .column 0x7020 5, .entry 0x4200 1] ⊆ L) (s : State) (k b : Nat) :
    DictIn L D (s.setCauseNow k b).dict ↔ DictIn L D s.dict := by
  unfold State.setCauseNow
  split <;> simp_all [crs]

@[simp] theorem State.writes_leaveLit (h : [.column 0x2200 1, .column 0x2200 2, .column 0x2200 3, .column 0x2200 0x15,
    .column 0x2200 0x1E, .column 0x2680 0xF, .column 0x2680 0x10, .column 0x4010 4, .column 0x4010 0x12, .column 0x7020
    5, .entry 0x4200 1] ⊆ L) (s : State) :
    DictIn L D s.leaveLit.dict ↔ DictIn L D s.dict := by
  simp_all [State.leaveLit, State.putN, dictIn_each]

@[simp] theorem State.writes_releaseBuf (h : [.column 0x2400 0x10] ⊆ L) (s : State) (c b : Nat) :
    DictIn L D (s.releaseBuf c b).dict ↔ DictIn L D s.dict := by
  simp_all [State.releaseBuf, State.bump, State.addSat, State.putN, dictIn_column 0x2400, cvIx]

@[simp] theorem State.writes_releaseWhere (h : [.column 0x2400 0x10] ⊆ L) (s : State) (c : Nat) (f : Buf → Bool) :
    DictIn L D (s.releaseWhere c f).dict ↔ DictIn L D s.dict := by
  refine dictIn_each _ fun s b => ?_
  split
  · split <;> simp_all
  · rfl

@[simp] theorem State.writes_shaftHush (h : [.column 0x2200 1, .column 0x2200 2, .column 0x2200 3, .column 0x2680 0xF,
    .column 0x2680 0x10, .column 0x4010 4, .column 0x7020 5, .entry 0x4200 1] ⊆ L) (s : State) (j : Nat) :
    DictIn L D (s.shaftHush j).dict ↔ DictIn L D s.dict := by
  simp_all [State.shaftHush, shIx, dictIn_each]

@[simp] theorem State.writes_setShaft (h : [.column 0x1218 0x10, .column 0x2200 1, .column 0x2200 2, .column 0x2200 3,
    .column 0x2680 0xF, .column 0x2680 0x10, .column 0x4010 4, .column 0x7020 5, .entry 0x4200
    1] ⊆ L) (s : State) (j st : Nat) :
    DictIn L D (s.setShaft j st).dict ↔ DictIn L D s.dict := by
  simp_all [State.setShaft, State.putN, dictIn_column 0x1218, shIx]

@[simp] theorem State.writes_setSup (h : [.column 0x2200 1, .column 0x2200 2, .column 0x2200 3, .column 0x2680 0xF,
    .column 0x2680 0x10, .column 0x3000 0x23, .column 0x3000 0x27, .column 0x4010 4, .column 0x7020 5, .entry 0x4200
    1] ⊆ L) (s : State) (i new : Nat) :
    DictIn L D (s.setSup i new).dict ↔ DictIn L D s.dict := by
  unfold State.setSup
  (repeat' split) <;> simp_all [State.putN, State.bump, State.addSat, dictIn_column 0x3000, slotIx]

@[simp] theorem State.writes_declareFailed (h : [.column 0x2200 1, .column 0x2200 2, .column 0x2200 3,
    .column 0x2200 0x15, .column 0x2200 0x1E, .column 0x2680 0xF, .column 0x2680 0x10, .column 0x3000 0x23, .column
    0x3000 0x27, .column 0x3150 0x19, .column 0x3150 0x1A, .column 0x4010 4, .column 0x4010 0x12, .column 0x7020 5,
    .entry 0x4200 1] ⊆ L) (s : State) (k : Nat) :
    DictIn L D (s.declareFailed k).dict ↔ DictIn L D s.dict := by
  simp_all [State.declareFailed, State.bump, State.addSat, State.putN, dictIn_column 0x3150]

@[simp] theorem State.writes_requestFrame (h : [.column 0x1220 0x19] ⊆ L) (s : State) (k : Nat) (counter : Option Nat)
    (t : Nat) :
    DictIn L D (s.requestFrame k counter t).dict ↔ DictIn L D s.dict := by
  simp_all [State.requestFrame, State.bump, State.addSat, State.putN, dictIn_column 0x1220, refIx]

@[simp] theorem State.writes_frameNumber (h : [.column 0x1220 0x19] ⊆ L) (s : State) (k : Nat) (p : Int)
    (before : Option (Nat × Int)) :
    DictIn L D (s.frameNumber k p before).dict ↔ DictIn L D s.dict := by
  unfold State.frameNumber
  split <;> simp_all

@[simp] theorem State.writes_releaseTravel (h : [.column 0x2400 0x10] ⊆ L) (s : State) (k : Nat) :
    DictIn L D (s.releaseTravel k).dict ↔ DictIn L D s.dict := by
  unfold State.releaseTravel
  split <;> simp_all

@[simp] theorem State.writes_shaftMove (h : [.column 0x1218 0xD, .column 0x1218 0x10, .column 0x1220 0x19,
    .column 0x2200 1, .column 0x2200 2, .column 0x2200 3, .column 0x2400 0x10, .column 0x2680 0xF, .column 0x2680 0x10,
    .column 0x4010 4, .column 0x7020 5, .entry 0x4200 1] ⊆ L) (s : State) (j : Nat) (p : Int) (before : Option (Nat ×
    Int)) :
    DictIn L D (s.shaftMove j p before).dict ↔ DictIn L D s.dict := by
  simp_all [State.shaftMove, State.putI, dictIn_column 0x1218, shIx, dictIn_each]

@[simp] theorem State.writes_convert (h : [.column 0x3110 5, .column 0x3110 6, .column 0x3110 9] ⊆ L) (s : State)
    (c : Nat) (n : Nat) (code : Int) :
    DictIn L D (s.convert c n code).dict ↔ DictIn L D s.dict := by
  simp_all [State.convert, State.putI, State.bump, State.addSat, State.putN, dictIn_column 0x3110]

@[simp] theorem State.writes_convertAll (h : [.column 0x3110 5, .column 0x3110 6, .column 0x3110 9] ⊆ L) (s : State)
    (c : Nat) (codes : List Int) :
    DictIn L D (s.convertAll c codes).dict ↔ DictIn L D s.dict :=
  dictIn_foldl_fst _ (fun x q => by simp_all) _

@[simp] theorem State.writes_countTrip (h : [.rows 0x3810] ⊆ L) (s : State) (k t : Nat) :
    DictIn L D (s.countTrip k t).dict ↔ DictIn L D s.dict := by
  simp only [List.cons_subset, List.nil_subset, and_true] at h
  unfold State.countTrip
  split
  · exact dictIn_rows 0x3810 _ (by omega) (by omega) h
  · rfl

@[simp] theorem State.writes_trip (h : [.column 0x2200 1, .column 0x2200 2, .column 0x2200 3, .column 0x2200 0x15,
    .column 0x2200 0x1E, .column 0x2680 0xF, .column 0x2680 0x10, .column 0x4010 4, .column 0x4010 0x12, .column 0x7020
    5, .entry 0x3800 0x12, .entry 0x4200 1, .rows 0x3810] ⊆ L) (s : State) (k t : Nat) :
    DictIn L D (s.trip k t).dict ↔ DictIn L D s.dict := by
  simp_all [State.trip, State.putN]

end

end Sys2Proof.Machine

/-! PROOF. What entries the parts of a frame start may write. -/

namespace Sys2Proof.Machine

open Sys2Proof

section

variable {L : List Place} {D : Tab Val}

@[simp] theorem State.dict_modCap (s : State) (k b : Nat) (f : CapBuf → CapBuf) :
    (s.modCap k b f).dict = s.dict := rfl

@[simp] theorem State.dict_capBegin (s : State) (k b counter : Nat) :
    (s.capBegin k b counter).dict = s.dict := rfl

@[simp] theorem State.writes_captureBegin (h : [.column 0x2800 0xF] ⊆ L) (s : State) (k counter : Nat) :
    DictIn L D (s.captureBegin k counter).dict ↔ DictIn L D s.dict := by
  unfold State.captureBegin
  dsimp only
  (repeat' split) <;> simp_all [State.bump, State.addSat, State.putN, dictIn_column 0x2800, capIx]

@[simp] theorem State.writes_reschedule (h : [.column 0x3000 0x28, .entry 0x3100 1, .entry 0x3100 0x10] ⊆ L)
    (s : State) :
    DictIn L D s.reschedule.dict ↔ DictIn L D s.dict := by
  simp only [List.cons_subset, List.nil_subset, and_true] at h
  have hslots (s : State) (l : List Assign) : DictIn L D (s.each (List.range 88) (fun s i =>
      match l.find? (fun a => a.slot == i) with
      | none => (s.putN (0x3000 + i) 0x28 0).slotsPut i { s.slotsAt i with per := 0 }
      | some a => (s.putN (0x3000 + i) 0x28 (a.off * 65536 + a.pos * 256)).slotsPut i
          { s.slotsAt i with per := a.per })).dict ↔
      DictIn L D s.dict := dictIn_each _ fun s i => by split <;> simp [State.putN, dictIn_column 0x3000, h]
  unfold State.reschedule
  split
  · rfl
  · dsimp only
    split
    · exact ((dictIn_entry _ _ _ h.2.2 (by decide)).trans (dictIn_entry _ _ _ h.2.1 (by decide))).trans (hslots _ _)
    · exact (dictIn_entry _ _ _ h.2.1 (by decide)).trans (hslots _ _)

@[simp] theorem State.dict_pegRefresh (s : State) (p : Nat) :
    (s.pegRefresh p).dict = s.dict := by
  unfold State.pegRefresh
  split <;> rfl

@[simp] theorem State.dict_pegsRefresh (s : State) :
    s.pegsRefresh.dict = s.dict := by
  refine State.each_proj State.dict (fun s p => ?_) s _
  simp

@[simp] theorem State.dict_putCopy (s : State) (mesh copy : Nat) (c : MeshCopy) :
    (s.putCopy mesh copy c).dict = s.dict := rfl

@[simp] theorem State.writes_writeCopy (h : [.column 0x2600 3, .column 0x2600 6] ⊆ L) (s : State) (mesh copy : Nat)
    (blob : List Byte) (disp : List (Nat × Int × Int)) :
    DictIn L D (s.writeCopy mesh copy blob disp).dict ↔ DictIn L D s.dict := by
  simp_all [State.writeCopy, State.putN, dictIn_column 0x2600, dictIn_foldl]

@[simp] theorem State.writes_writeMesh (h : [.column 0x2600 3, .column 0x2600 6] ⊆ L) (s : State) (mesh : Nat)
    (blob : List Byte) (disp : List (Nat × Int × Int)) :
    DictIn L D (s.writeMesh mesh blob disp).dict ↔ DictIn L D s.dict := by
  unfold State.writeMesh
  split <;> simp_all

@[simp] theorem State.writes_releaseHeldMeshes (h : [.column 0x2600 3, .column 0x2600 6] ⊆ L) (s : State) (k : Nat) :
    DictIn L D (s.releaseHeldMeshes k).dict ↔ DictIn L D s.dict := by
  refine dictIn_each _ fun s m => ?_
  split
  · split <;> simp_all
  · rfl

@[simp] theorem State.dict_logWith (s : State) (sev source code unit detail extra : Nat) :
    (s.logWith sev source code unit detail extra).dict = s.dict := rfl

@[simp] theorem State.dict_logAt (s : State) (sev source kind unit : Nat) :
    (s.logAt sev source kind unit).dict = s.dict := rfl

@[simp] theorem State.writes_useMatrix (h : [.column 0x2000 0x15, .column 0x2700 0x14, .column 0x2700 0x15,
    .column 0x2700 0x16, .column 0x2700 0x17, .column 0x2700 0x18, .column 0x2700
    0x19] ⊆ L) (s : State) (k counter : Nat) (m : MatrixSt) :
    DictIn L D (s.useMatrix k counter m).dict ↔ DictIn L D s.dict := by
  simp only [List.cons_subset, List.nil_subset, and_true] at h
  have hcorr (l : List (Nat × Rat)) (u : State) : DictIn L D (l.foldl (fun s p => s.putF (emitIx p.1) 0x15 p.2) u).dict
      ↔
      DictIn L D u.dict := dictIn_foldl _ fun s p => dictIn_column 0x2000 _ (le_emitIx p.1) (by decide) h.1
  unfold State.useMatrix
  dsimp only
  rw [State.setFlag, State.putN, dictIn_column 0x2700 _ (by unfold colIx; omega) (by decide) h.2.2.2.2.1, hcorr]
  simp [State.putN, State.putF, State.putB, State.bump, State.addSat, dictIn_column 0x2700, colIx, h]

@[simp] theorem State.writes_frameMatrix (h : [.column 0x2000 0x15, .column 0x2700 0x14, .column 0x2700 0x15,
    .column 0x2700 0x16, .column 0x2700 0x17, .column 0x2700 0x18, .column 0x2700
    0x19] ⊆ L) (s : State) (k counter : Nat) (colour switched : Bool) :
    DictIn L D (s.frameMatrix k counter colour switched).dict ↔ DictIn L D s.dict := by
  unfold State.frameMatrix
  dsimp only
  (repeat' split) <;> simp_all

@[simp] theorem State.dict_logCritical (s : State) (source kind unit : Nat) :
    (s.logCritical source kind unit).dict = s.dict := rfl

@[simp] theorem State.writes_recover (h : [.entry 0x7000 0x17, .entry 0x7000 0x18, .entry 0x7000 0x19] ⊆ L) (s : State)
    (rs cls dur unit : Nat) :
    DictIn L D (s.recover rs cls dur unit).dict ↔ DictIn L D s.dict := by
  simp only [List.cons_subset, List.nil_subset, and_true] at h
  unfold State.recover
  dsimp only
  split <;> simp [State.putN, State.bump, State.addSat, h]

@[simp] theorem State.dict_capEnd (s : State) (k : Nat) (early : Bool) :
    (s.capEnd k early).dict = s.dict := by
  unfold State.capEnd
  split <;> rfl

@[simp] theorem State.dict_captureEnd (s : State) (k : Nat) :
    (s.captureEnd k).dict = s.dict := by
  unfold State.captureEnd
  dsimp only
  split
  · rfl
  · split
    · rfl
    · split
      · simp
      · rfl

@[simp] theorem State.dict_drainInput (s : State) (i : Nat) :
    (s.drainInput i).dict = s.dict := rfl

@[simp] theorem State.dict_drainAll (s : State) :
    s.drainAll.dict = s.dict :=
  ((State.within_drainAll (L := [.inputs]) (by simp) ..).mpr (State.within_refl _ _)) .dict (by simp)

@[simp] theorem State.dict_setSlotState (s : State) (i n : Nat) :
    (s.setSlotState i n).dict = s.dict := rfl

@[simp] theorem State.writes_abandonWrite (h : [.entry 0x7F00 0xA] ⊆ L) (s : State) :
    DictIn L D s.abandonWrite.dict ↔ DictIn L D s.dict := by
  unfold State.abandonWrite
  split <;> simp_all [State.putN]

@[simp] theorem State.writes_switchIn (h : [.entry 0x7000 7, .entry 0x7000 9] ⊆ L) (s : State) (kind unit spare : Nat) :
    DictIn L D (s.switchIn kind unit spare).dict ↔ DictIn L D s.dict := by
  simp_all [State.switchIn, State.putN, State.bump, State.addSat]

@[simp] theorem State.writes_swapPairs (h : [.entry 0x7000 7, .entry 0x7000 9, .entry 0x7F00 8, .entry 0x7F00 0xA] ⊆ L)
    (s : State) (oldRole : Nat) :
    DictIn L D (s.swapPairs oldRole).dict ↔ DictIn L D s.dict := by
  simp_all [State.swapPairs, State.bump, State.addSat, State.putN]

@[simp] theorem State.writes_runSlot (h : [.entry 0x1000 6, .entry 0x1000 7] ⊆ L) (s : State) (i : Nat) :
    DictIn L D (s.runSlot i).dict ↔ DictIn L D s.dict := by
  simp_all [State.runSlot, State.putN]

@[simp] theorem State.writes_switchNow (h : [.entry 0x1000 6, .entry 0x1000 7, .entry 0x7000 7, .entry 0x7000 9,
    .entry 0x7F00 7, .entry 0x7F00 8, .entry 0x7F00 0xA] ⊆ L) (s : State) :
    DictIn L D s.switchNow.dict ↔ DictIn L D s.dict := by
  simp_all [State.switchNow, State.putN]

@[simp] theorem State.writes_panicRefresh (h : [.entry 0x5000 0x1A] ⊆ L) (s : State) :
    DictIn L D s.panicRefresh.dict ↔ DictIn L D s.dict := by
  unfold State.panicRefresh
  dsimp only
  split <;> simp_all [State.setFlag, State.putN]

@[simp] theorem State.writes_refreshWater (h : [.column 0x2680 0xF, .column 0x2680 0x10, .column 0x2680 0x11,
    .column 0x2680 0x12, .entry 0x5000 0x1A] ⊆ L) (s : State) (k : Nat) :
    DictIn L D (s.refreshWater k).dict ↔ DictIn L D s.dict := by
  simp_all [State.refreshWater, State.putN, State.bump, State.addSat, dictIn_column 0x2680]

@[simp] theorem State.writes_setModel (h : [.column 0x2200 0x15] ⊆ L) (s : State) (k st : Nat) :
    DictIn L D (s.setModel k st).dict ↔ DictIn L D s.dict := by
  simp_all [State.setModel, State.putN, dictIn_column 0x2200, crs]

@[simp] theorem State.writes_mirrorSlotsOn (h : [.column 0x3000 1, .column 0x3000 0x23, .column 0x3000 0x28,
    .entry 0x3100 1, .entry 0x3100 0x10] ⊆ L) (s : State) (k : Nat) :
    DictIn L D (s.mirrorSlotsOn k).dict ↔ DictIn L D s.dict := by
  simp_all [State.mirrorSlotsOn, State.putN, dictIn_column 0x3000, dictIn_each]

@[simp] theorem State.writes_toSpinning (h : [.column 0x2200 1, .column 0x2200 0x15, .column 0x2680 0xF,
    .column 0x2680 0x10, .column 0x3000 1, .column 0x3000 0x23, .column 0x3000 0x28, .column 0x3110 7, .column 0x3150
    5, .column 0x3150 9, .column 0x3150 0x17, .column 0x3150 0x1C, .column 0x4010 4, .column 0x7020 5, .entry 0x3100 1,
    .entry 0x3100 0x10, .entry 0x4200 1] ⊆ L) (s : State) (k : Nat) :
    DictIn L D (s.toSpinning k).dict ↔ DictIn L D s.dict := by
  simp only [List.cons_subset, List.nil_subset, and_true] at h
  unfold State.toSpinning
  simp [State.putN, State.putI, dictIn_column 0x3150, dictIn_column 0x3110, dictIn_column 0x2200, crs, h, Nat.add_assoc]

@[simp] theorem State.writes_courseRequest (h : [.column 0x2200 1, .column 0x2200 2, .column 0x2200 3,
    .column 0x2200 0x15, .column 0x2200 0x1E, .column 0x2680 0xF, .column 0x2680 0x10, .column 0x3000 1, .column 0x3000
    0x23, .column 0x3000 0x28, .column 0x3110 7, .column 0x3150 5, .column 0x3150 9, .column 0x3150 0x17, .column
    0x3150 0x1C, .column 0x4010 4, .column 0x4010 0x12, .column 0x7020 5, .entry 0x3100 1, .entry 0x3100 0x10, .entry
    0x4200 1] ⊆ L) (s : State) (k v : Nat) :
    DictIn L D (s.courseRequest k v).dict ↔ DictIn L D s.dict := by
  simp_all [State.courseRequest, State.putN, dictIn_column 0x2200, crs]

@[simp] theorem State.dict_noteWear (s : State) (l : Nat) :
    (s.noteWear l).dict = s.dict := by
  unfold State.noteWear
  split <;> rfl

@[simp] theorem State.writes_acquire (h : [.column 0x2000 0x16] ⊆ L) (s : State) (l : Nat) :
    DictIn L D (s.acquire l).dict ↔ DictIn L D s.dict := by
  simp only [List.cons_subset, List.nil_subset, and_true] at h
  simp [State.acquire, State.putN, dictIn_column 0x2000 _ (le_emitIx l), h]

@[simp] theorem State.writes_emitterIn (h : [.column 0x2000 0x16] ⊆ L) (s : State) (l : Nat) :
    DictIn L D (s.emitterIn l).dict ↔ DictIn L D s.dict := by
  simp_all [State.emitterIn]

@[simp] theorem State.writes_emitterOut (h : [.column 0x2000 0x16] ⊆ L) (s : State) (l : Nat) :
    DictIn L D (s.emitterOut l).dict ↔ DictIn L D s.dict := by
  simp only [List.cons_subset, List.nil_subset, and_true] at h
  simp [State.emitterOut, State.putN, dictIn_column 0x2000 _ (le_emitIx l), h]

@[simp] theorem State.writes_moveString (h : [.column 0x2000 4] ⊆ L) (s : State) (i : Nat) :
    DictIn L D (s.moveString i).dict ↔ DictIn L D s.dict := by
  unfold State.moveString
  (repeat' split) <;> simp_all [State.putN, dictIn_column 0x2000]

@[simp] theorem State.writes_switchNowSpare (h : [.column 0x2000 4, .column 0x2000 0x16, .column 0x2100 3,
    .entry 0x7000 7, .entry 0x7000 9] ⊆ L) (s : State) (i : Nat) :
    DictIn L D (s.switchNowSpare i).dict ↔ DictIn L D s.dict := by
  unfold State.switchNowSpare
  dsimp only
  (repeat' split) <;> simp_all [State.bump, State.addSat, State.putN, dictIn_column 0x2100]

@[simp] theorem State.writes_retrySpin (h : [.column 0x2200 1, .column 0x2200 2, .column 0x2200 3, .column 0x2200 0x15,
    .column 0x2200 0x1E, .column 0x2680 0xF, .column 0x2680 0x10, .column 0x3000 1, .column 0x3000 0x23, .column 0x3000
    0x28, .column 0x3110 7, .column 0x3150 5, .column 0x3150 9, .column 0x3150 0x17, .column 0x3150 0x1C, .column
    0x4010 4, .column 0x4010 0x12, .column 0x7020 5, .entry 0x3100 1, .entry 0x3100 0x10, .entry 0x4200
    1] ⊆ L) (s : State) (k : Nat) (keys : List Nat) :
    DictIn L D (s.retrySpin k keys).dict ↔ DictIn L D s.dict := by
  simp_all [State.retrySpin]

@[simp] theorem State.writes_frameLatency (h : [.column 0x2000 8] ⊆ L) (s : State) (k : Nat) :
    DictIn L D (s.frameLatency k).dict ↔ DictIn L D s.dict := by
  simp only [List.cons_subset, List.nil_subset, and_true] at h
  refine dictIn_each _ fun s l => ?_
  split
  · simp [State.putN, dictIn_column 0x2000 _ (le_laneIx l), h]
  · rfl

@[simp] theorem State.writes_placeLane (h : [.column 0x2000 9, .column 0x2200 0x1D] ⊆ L) (k : Nat) (sn : Snapshot)
    (c : Rat) (forward : Bool) (m : FretMap)
    (levels : List (Nat × List Nat)) (acc : State × List LanePlan × List PlacedHarmonic) (str : Nat) :
    DictIn L D (State.placeLane k sn c forward m levels acc str).1.dict ↔ DictIn L D acc.1.dict := by
  simp only [List.cons_subset, List.nil_subset, and_true] at h
  unfold State.placeLane
  dsimp only
  split
  · rfl
  · simp [State.putN, State.addSat, dictIn_column 0x2200, dictIn_column 0x2000 _ (le_laneIx _), crs, h]

@[simp] theorem State.writes_takeBand (h : [.column 0x2800 0x11, .column 0x2800 0x17] ⊆ L) (s : State) (k : Nat)
    (m : FretMap) (bridge forward : Bool) (active : Nat) (forced : Bool) :
    DictIn L D (s.takeBand k m bridge forward active forced).1.dict ↔ DictIn L D s.dict := by
  unfold State.takeBand
  split <;> simp_all [State.bump, State.addSat, State.putN, dictIn_column 0x2800]

@[simp] theorem State.dict_fillBuckets (s : State) (k : Nat) :
    (s.fillBuckets k).dict = s.dict := rfl

@[simp] theorem State.writes_takeHarmonics (h : [.column 0x2800 0x11, .column 0x2800 0x17, .entry 0x40F0 6] ⊆ L)
    (s : State) (k : Nat) (m : FretMap) (forward : Bool) (active : Nat) :
    DictIn L D (s.takeHarmonics k m forward active).1.dict ↔ DictIn L D s.dict := by
  simp_all [State.takeHarmonics, State.bump, State.addSat, State.putN]

@[simp] theorem State.writes_placeActive (h : [.column 0x2000 9, .column 0x2200 0x1D, .column 0x2800 0x11,
    .column 0x2800 0x17, .column 0x4140 9, .entry 0x40F0
    6] ⊆ L) (s : State) (k m : Nat) (forward : Bool) (i : Nat) (sn : Snapshot) (map : FretMap) (c : Rat) :
    DictIn L D (s.placeActive k m forward i sn map c).1.dict ↔ DictIn L D s.dict := by
  simp only [List.cons_subset, List.nil_subset, and_true] at h
  unfold State.placeActive
  dsimp only
  refine (dictIn_foldl_of Prod.fst _ (fun x y => by simp [h]) _).trans ?_
  split <;> simp [State.putN, State.bump, State.addSat, dictIn_column 0x4140, h]

@[simp] theorem State.writes_loseModel (h : [.column 0x2200 0x15] ⊆ L) (s : State) (k m : Nat) :
    DictIn L D (s.loseModel k m).dict ↔ DictIn L D s.dict := by
  unfold State.loseModel
  split <;> simp_all

@[simp] theorem State.writes_placeNext (h : [.column 0x2000 9, .column 0x2200 0x15, .column 0x2200 0x1C,
    .column 0x2200 0x1D, .column 0x2800 0x11, .column 0x2800 0x17, .column 0x4140 9, .entry 0x40F0
    6] ⊆ L) (s0 : State) (k : Nat) :
    DictIn L D (s0.placeNext k).dict ↔ DictIn L D s0.dict := by
  unfold State.placeNext
  dsimp only
  (repeat' split) <;> simp_all [State.bump, State.addSat, State.putN, dictIn_column 0x2200, crs]

@[simp] theorem State.writes_frameMove (h : [.column 0x2200 1, .column 0x2680 0xF, .column 0x2680 0x10,
    .column 0x4010 4, .column 0x7020 5, .entry 0x4200 1] ⊆ L) (s : State) (k : Nat) :
    DictIn L D (s.frameMove k).dict ↔ DictIn L D s.dict := by
  simp_all [State.frameMove]

@[simp] theorem State.writes_switchAtFrame (h : [.entry 0x1000 6, .entry 0x1000 7, .entry 0x7000 7, .entry 0x7000 9,
    .entry 0x7F00 7, .entry 0x7F00 8, .entry 0x7F00 0xA] ⊆ L) (s : State) (k : Nat) :
    DictIn L D (s.switchAtFrame k).dict ↔ DictIn L D s.dict := by
  simp_all [State.switchAtFrame]

@[simp] theorem State.dict_sendFrames (s : State) (k counter : Nat) :
    (s.sendFrames k counter).dict = s.dict := by
  unfold State.sendFrames
  split
  · refine State.each_proj State.dict (fun s p => ?_) s _
    split <;> rfl
  · rfl

@[simp] theorem State.writes_placeAgain (h : [.column 0x2000 9, .column 0x2200 0x15, .column 0x2200 0x1C,
    .column 0x2200 0x1D, .column 0x2800 0x11, .column 0x2800 0x17, .column 0x4140 9, .entry 0x40F0
    6] ⊆ L) (s : State) (k : Nat) :
    DictIn L D (s.placeAgain k).dict ↔ DictIn L D s.dict := by
  unfold State.placeAgain
  split <;> simp_all

@[simp] theorem State.writes_retireOne (h : [.entry 0x26F0 2, .entry 0x26F0 3, .entry 0x7000 7, .entry 0x7000 9,
    .entry 0x7000 0x17, .entry 0x7000 0x18, .entry 0x7000 0x19] ⊆ L) (k : Nat) (s : State) (bank : Nat) :
    DictIn L D (State.retireOne k s bank).dict ↔ DictIn L D s.dict := by
  simp only [List.cons_subset, List.nil_subset, and_true] at h
  unfold State.retireOne
  dsimp only
  split <;> simp [State.putN, State.bump, State.addSat, h]

@[simp] theorem State.writes_retireBanks (h : [.entry 0x26F0 2, .entry 0x26F0 3, .entry 0x7000 7, .entry 0x7000 9,
    .entry 0x7000 0x17, .entry 0x7000 0x18, .entry 0x7000 0x19] ⊆ L) (s : State) (k : Nat) :
    DictIn L D (s.retireBanks k).dict ↔ DictIn L D s.dict := by
  simp only [List.cons_subset, List.nil_subset, and_true] at h
  have hall : DictIn L D (s.each (s.fetAt k).retire (State.retireOne k)).dict ↔ DictIn L D s.dict :=
    dictIn_each _ fun s b => by simp [h]
  exact hall

@[simp] theorem State.dict_frameFetch (s : State) (k : Nat) :
    (s.frameFetch k).dict = s.dict := rfl

@[simp] theorem State.writes_switchAtStart (h : [.column 0x2000 4, .column 0x2000 0x16, .column 0x2100 3,
    .entry 0x7000 7, .entry 0x7000 9] ⊆ L) (s : State) (i : Nat) :
    DictIn L D (s.switchAtStart i).dict ↔ DictIn L D s.dict := by
  simp_all [State.switchAtStart]

@[simp] theorem State.writes_switchIns (h : [.column 0x2000 4, .column 0x2000 0x16, .column 0x2100 3, .column 0x2200 1,
    .column 0x2200 2, .column 0x2200 3, .column 0x2680 0xF, .column 0x2680 0x10, .column 0x4010 4, .column 0x7020 5,
    .entry 0x4200 1, .entry 0x7000 7, .entry 0x7000 9] ⊆ L) (s : State) (k : Nat) :
    DictIn L D (s.switchIns k).dict ↔ DictIn L D s.dict := by
  unfold State.switchIns
  split <;> simp_all [dictIn_each]

@[simp] theorem State.writes_frameMesh (h : [.column 0x2600 3, .column 0x2600 6] ⊆ L) (s : State) (k : Nat)
    (isRepeat : Bool) :
    DictIn L D (s.frameMesh k isRepeat).dict ↔ DictIn L D s.dict := by
  simp_all [State.frameMesh]

@[simp] theorem State.writes_frameClamped (h : [.column 0x2700 0x1A] ⊆ L) (s : State) (k : Nat) :
    DictIn L D (s.frameClamped k).dict ↔ DictIn L D s.dict := by
  simp_all [State.frameClamped, State.bump, State.addSat, State.putN, dictIn_column 0x2700, colIx]

end

end Sys2Proof.Machine

/-! PROOF. What the parts of a frame start may change. -/

namespace Sys2Proof.Machine
section
variable {s₀ : State} {L : List Part}
@[simp] theorem State.within_modCap (h : [.capt] ⊆ L) (s : State) (k b : Nat) (f : CapBuf → CapBuf) :
    s₀.Within L (s.modCap k b f) ↔ s₀.Within L s := by
  simp_all [State.modCap]

@[simp] theorem State.within_capBegin (h : [.capt] ⊆ L) (s : State) (k b counter : Nat) :
    s₀.Within L (s.capBegin k b counter) ↔ s₀.Within L s := by
  simp_all [State.capBegin]

@[simp] theorem State.within_captureBegin (h : [.dict, .capt] ⊆ L) (s : State) (k counter : Nat) :
    s₀.Within L (s.captureBegin k counter) ↔ s₀.Within L s := by
  unfold State.captureBegin
  split <;> simp_all

@[simp] theorem State.within_pegsPut (h : [.pegs] ⊆ L) (s : State) (k : Nat) (x : PegSt) :
    s₀.Within L (s.pegsPut k x) ↔ s₀.Within L s :=
  State.within_of_taking rfl h

@[simp] theorem State.within_pegRefresh (h : [.pegs] ⊆ L) (s : State) (p : Nat) :
    s₀.Within L (s.pegRefresh p) ↔ s₀.Within L s := by
  simp_all [State.pegRefresh]

@[simp] theorem State.within_pegsRefresh (h : [.pegs] ⊆ L) (s : State) :
    s₀.Within L s.pegsRefresh ↔ s₀.Within L s := by
  simp_all [State.pegsRefresh]

@[simp] theorem State.within_meshesPut (h : [.meshes] ⊆ L) (s : State) (k : Nat) (x : MeshSt) :
    s₀.Within L (s.meshesPut k x) ↔ s₀.Within L s :=
  State.within_of_taking rfl h

@[simp] theorem State.within_putCopy (h : [.meshes] ⊆ L) (s : State) (mesh copy : Nat) (c : MeshCopy) :
    s₀.Within L (s.putCopy mesh copy c) ↔ s₀.Within L s := by
  simp_all [State.putCopy]

@[simp] theorem State.within_writeCopy (h : [.dict, .meshes] ⊆ L) (s : State) (mesh copy : Nat) (blob : List Byte)
    (disp : List (Nat × Int × Int)) :
    s₀.Within L (s.writeCopy mesh copy blob disp) ↔ s₀.Within L s := by
  simp_all [State.writeCopy]

@[simp] theorem State.within_writeMesh (h : [.dict, .meshes] ⊆ L) (s : State) (mesh : Nat) (blob : List Byte)
    (disp : List (Nat × Int × Int)) :
    s₀.Within L (s.writeMesh mesh blob disp) ↔ s₀.Within L s := by
  unfold State.writeMesh
  split <;> simp_all

@[simp] theorem State.within_releaseHeldMeshes (h : [.dict, .meshes] ⊆ L) (s : State) (k : Nat) :
    s₀.Within L (s.releaseHeldMeshes k) ↔ s₀.Within L s := by
  simp only [List.cons_subset, List.nil_subset, and_true] at h
  refine State.within_each _ (fun s m => ?_)
  split
  · split <;> simp [h]
  · exact State.within_refl _ _

@[simp] theorem State.within_useMatrix (h : [.dict, .col, .free] ⊆ L) (s : State) (k counter : Nat) (m : MatrixSt) :
    s₀.Within L (s.useMatrix k counter m) ↔ s₀.Within L s := by
  simp only [List.cons_subset, List.nil_subset, and_true] at h
  have hcorr (l : List (Nat × Rat)) (u : State) : s₀.Within L (l.foldl (fun s p => s.putF (emitIx p.1) 0x15 p.2) u) ↔
      s₀.Within L u := State.within_foldl _ fun s p => by simp [h]
  unfold State.useMatrix
  dsimp only
  rw [State.within_setFlag (by simp [h]), hcorr]
  simp [h, State.within_set_free]

@[simp] theorem State.within_frameMatrix (h : [.dict, .col, .free] ⊆ L) (s : State) (k counter : Nat)
    (colour switched : Bool) :
    s₀.Within L (s.frameMatrix k counter colour switched) ↔ s₀.Within L s := by
  unfold State.frameMatrix
  dsimp only
  (repeat' split) <;> simp_all

@[simp] theorem State.within_capEnd (h : [.capt] ⊆ L) (s : State) (k : Nat) (early : Bool) :
    s₀.Within L (s.capEnd k early) ↔ s₀.Within L s := by
  unfold State.capEnd
  split <;> simp_all

@[simp] theorem State.within_captureEnd (h : [.capt] ⊆ L) (s : State) (k : Nat) :
    s₀.Within L (s.captureEnd k) ↔ s₀.Within L s := by
  unfold State.captureEnd
  dsimp only
  (repeat' split) <;> simp_all

@[simp] theorem State.within_setSlotState (h : [.store] ⊆ L) (s : State) (i n : Nat) :
    s₀.Within L (s.setSlotState i n) ↔ s₀.Within L s :=
  State.within_of_taking rfl h

@[simp] theorem State.within_abandonWrite (h : [.dict, .store, .fw] ⊆ L) (s : State) :
    s₀.Within L s.abandonWrite ↔ s₀.Within L s := by
  unfold State.abandonWrite
  split <;> simp_all

@[simp] theorem State.within_swapPairs (h : [.dict, .store, .fw] ⊆ L) (s : State) (oldRole : Nat) :
    s₀.Within L (s.swapPairs oldRole) ↔ s₀.Within L s := by
  simp_all [State.swapPairs]

@[simp] theorem State.within_runSlot (h : [.dict] ⊆ L) (s : State) (i : Nat) :
    s₀.Within L (s.runSlot i) ↔ s₀.Within L s := by
  simp_all [State.runSlot]

@[simp] theorem State.within_switchNow (h : [.dict, .store, .fw] ⊆ L) (s : State) :
    s₀.Within L s.switchNow ↔ s₀.Within L s := by
  simp_all [State.switchNow]

@[simp] theorem State.within_emitPut (h : [.emit] ⊆ L) (s : State) (k : Nat) (x : EmitterSt) :
    s₀.Within L (s.emitPut k x) ↔ s₀.Within L s :=
  State.within_of_taking rfl h

@[simp] theorem State.within_noteWear (h : [.emit] ⊆ L) (s : State) (l : Nat) :
    s₀.Within L (s.noteWear l) ↔ s₀.Within L s := by
  unfold State.noteWear
  split <;> simp_all

@[simp] theorem State.within_acquire (h : [.dict, .emit] ⊆ L) (s : State) (l : Nat) :
    s₀.Within L (s.acquire l) ↔ s₀.Within L s := by
  simp_all [State.acquire]

@[simp] theorem State.within_emitterIn (h : [.dict, .emit] ⊆ L) (s : State) (l : Nat) :
    s₀.Within L (s.emitterIn l) ↔ s₀.Within L s := by
  simp_all [State.emitterIn]

@[simp] theorem State.within_emitterOut (h : [.dict, .emit] ⊆ L) (s : State) (l : Nat) :
    s₀.Within L (s.emitterOut l) ↔ s₀.Within L s := by
  simp_all [State.emitterOut]

@[simp] theorem State.within_moveString (h : [.dict] ⊆ L) (s : State) (i : Nat) :
    s₀.Within L (s.moveString i) ↔ s₀.Within L s := by
  unfold State.moveString
  (repeat' split) <;> simp_all

@[simp] theorem State.within_switchNowSpare (h : [.dict, .emit] ⊆ L) (s : State) (i : Nat) :
    s₀.Within L (s.switchNowSpare i) ↔ s₀.Within L s := by
  unfold State.switchNowSpare
  dsimp only
  (repeat' split) <;> simp_all

@[simp] theorem State.within_sparesPut (h : [.spares] ⊆ L) (s : State) (k : Nat) (x : SpareSt) :
    s₀.Within L (s.sparesPut k x) ↔ s₀.Within L s :=
  State.within_of_taking rfl h

@[simp] theorem State.within_frameLatency (h : [.dict, .lanes] ⊆ L) (s : State) (k : Nat) :
    s₀.Within L (s.frameLatency k) ↔ s₀.Within L s := by
  simp only [List.cons_subset, List.nil_subset, and_true] at h
  refine State.within_each _ (fun s l => ?_)
  split
  · simp [h]
  · exact State.within_refl _ _

@[simp] theorem State.within_placeLane (h : [.dict, .free] ⊆ L) (k : Nat) (sn : Snapshot) (c : Rat) (forward : Bool)
    (m : FretMap)
    (levels : List (Nat × List Nat)) (acc : State × List LanePlan × List PlacedHarmonic) (str : Nat) :
    s₀.Within L (State.placeLane k sn c forward m levels acc str).1 ↔ s₀.Within L acc.1 := by
  simp only [List.cons_subset, List.nil_subset, and_true] at h
  unfold State.placeLane
  dsimp only
  split <;> simp [h]

@[simp] theorem State.within_takeBand (h : [.dict, .plc, .runs] ⊆ L) (s : State) (k : Nat) (m : FretMap)
    (bridge forward : Bool) (active : Nat) (forced : Bool) :
    s₀.Within L (s.takeBand k m bridge forward active forced).1 ↔ s₀.Within L s := by
  unfold State.takeBand
  split <;> simp_all

@[simp] theorem State.within_fillBuckets (h : [.plc] ⊆ L) (s : State) (k : Nat) :
    s₀.Within L (s.fillBuckets k) ↔ s₀.Within L s := by
  simp_all [State.fillBuckets]

@[simp] theorem State.within_takeHarmonics (h : [.dict, .plc, .runs] ⊆ L) (s : State) (k : Nat) (m : FretMap)
    (forward : Bool) (active : Nat) :
    s₀.Within L (s.takeHarmonics k m forward active).1 ↔ s₀.Within L s := by
  simp_all [State.takeHarmonics]

@[simp] theorem State.within_placeActive (h : [.dict, .plc, .runs, .free] ⊆ L) (s : State) (k m : Nat) (forward : Bool)
    (i : Nat) (sn : Snapshot) (map : FretMap) (c : Rat) :
    s₀.Within L (s.placeActive k m forward i sn map c).1 ↔ s₀.Within L s := by
  simp only [List.cons_subset, List.nil_subset, and_true] at h
  unfold State.placeActive
  dsimp only
  refine (State.within_foldl_fst _ (fun x y => by simp [h]) _).trans ?_
  split <;> simp [h]

@[simp] theorem State.within_loseModel (h : [.dict] ⊆ L) (s : State) (k m : Nat) :
    s₀.Within L (s.loseModel k m) ↔ s₀.Within L s := by
  unfold State.loseModel
  split <;> simp_all

@[simp] theorem State.within_placeNext (h : [.dict, .plc, .runs, .free] ⊆ L) (s0 : State) (k : Nat) :
    s₀.Within L (s0.placeNext k) ↔ s₀.Within L s0 := by
  unfold State.placeNext
  dsimp only
  (repeat' split) <;> simp_all

@[simp] theorem State.within_frameMove (h : [.dict, .plc, .ledger, .fet, .col, .runs, .svc] ⊆ L) (s : State) (k : Nat) :
    s₀.Within L (s.frameMove k) ↔ s₀.Within L s := by
  simp_all [State.frameMove]

@[simp] theorem State.within_switchAtFrame (h : [.dict, .store, .fw] ⊆ L) (s : State) (k : Nat) :
    s₀.Within L (s.switchAtFrame k) ↔ s₀.Within L s := by
  simp_all [State.switchAtFrame]

@[simp] theorem State.within_sendFrames (h : [.lanes] ⊆ L) (s : State) (k counter : Nat) :
    s₀.Within L (s.sendFrames k counter) ↔ s₀.Within L s := by
  simp_all [State.sendFrames]

@[simp] theorem State.within_placeAgain (h : [.dict, .plc, .runs, .free] ⊆ L) (s : State) (k : Nat) :
    s₀.Within L (s.placeAgain k) ↔ s₀.Within L s := by
  unfold State.placeAgain
  split <;> simp_all

@[simp] theorem State.within_retireOne (h : [.dict, .store, .fet, .svc] ⊆ L) (k : Nat) (s : State) (bank : Nat) :
    s₀.Within L (State.retireOne k s bank) ↔ s₀.Within L s := by
  simp only [List.cons_subset, List.nil_subset, and_true] at h
  unfold State.retireOne
  dsimp only
  split <;> simp [h]

@[simp] theorem State.within_retireBanks (h : [.dict, .store, .fet, .svc] ⊆ L) (s : State) (k : Nat) :
    s₀.Within L (s.retireBanks k) ↔ s₀.Within L s := by
  simp only [List.cons_subset, List.nil_subset, and_true] at h
  have hall : s₀.Within L (s.each (s.fetAt k).retire (State.retireOne k)) ↔ s₀.Within L s :=
    State.within_each _ fun s b => by simp [h]
  simp only [State.retireBanks]
  rw [State.within_fetPut (by simp [h]), hall]

@[simp] theorem State.within_frameFetch (h : [.plc, .fet] ⊆ L) (s : State) (k : Nat) :
    s₀.Within L (s.frameFetch k) ↔ s₀.Within L s := by
  simp_all [State.frameFetch]

@[simp] theorem State.within_switchAtStart (h : [.dict, .spares, .emit] ⊆ L) (s : State) (i : Nat) :
    s₀.Within L (s.switchAtStart i) ↔ s₀.Within L s := by
  simp_all [State.switchAtStart]

@[simp] theorem State.within_switchIns (h : [.dict, .plc, .lanes, .spares, .ledger, .fet, .col, .emit, .capoC, .pegs,
    .runs, .svc] ⊆ L) (s : State) (k : Nat) :
    s₀.Within L (s.switchIns k) ↔ s₀.Within L s := by
  simp_all [State.switchIns]

@[simp] theorem State.within_frameMesh (h : [.dict, .meshes, .fet] ⊆ L) (s : State) (k : Nat) (isRepeat : Bool) :
    s₀.Within L (s.frameMesh k isRepeat) ↔ s₀.Within L s := by
  simp_all [State.frameMesh]

@[simp] theorem State.within_frameLevel (h : [.bow] ⊆ L) (s : State) (k : Nat) :
    s₀.Within L (s.frameLevel k) ↔ s₀.Within L s := by
  simp_all [State.frameLevel]

@[simp] theorem State.within_frameClamped (h : [.dict, .col] ⊆ L) (s : State) (k : Nat) :
    s₀.Within L (s.frameClamped k) ↔ s₀.Within L s := by
  simp_all [State.frameClamped]

@[simp] theorem State.within_contentServo (h : [.frm] ⊆ L) (s : State) (k : Nat) :
    s₀.Within L (s.contentServo k) ↔ s₀.Within L s := by
  unfold State.contentServo
  dsimp only
  split <;> simp_all

end

end Sys2Proof.Machine

/-! PROOF. Bows are placed and start in turn (R24, R132, R141). -/

namespace Sys2Proof.Machine

variable {s : State} {k : Nat}

@[simp] theorem State.plcAt_plcPut_self (s : State) (k : Nat) (p : PlaceSt) : (s.plcPut k p).plcAt k = p :=
  tgetD_tput_self ..

theorem State.plcAt_eq {s t : State} (h : t.plc = s.plc) (k : Nat) : t.plcAt k = s.plcAt k :=
  congrArg (fun l => tgetD l ({} : PlaceSt) k) h

theorem State.next_countBow (s : State) (k : Nat) (cut : Option Nat) :
    ((s.countBow k cut).plcAt k).next = (s.plcAt k).next := by
  unfold State.countBow
  dsimp only
  split
  · split
    · rw [State.plcAt_plcPut_self]
    · rfl
  · rfl

theorem State.next_hushNoted (s : State) (k : Nat) : ((s.hushNoted k).plcAt k).next = (s.plcAt k).next := by
  unfold State.hushNoted
  split
  · have hnote (u : State) (n : LedgerRec) : (u.ledgerNote k n).plcAt k = u.plcAt k :=
      State.plcAt_eq ((State.within_ledgerNote (List.Subset.refl _) u k n).mpr (State.within_refl _ _) .plc (by simp)) k
    rw [hnote, State.plcAt_plcPut_self]
  · rfl

theorem State.next_closeLedger (s : State) (k : Nat) : ((s.closeLedger k).plcAt k).next = (s.plcAt k).next := by
  unfold State.closeLedger
  rw [State.next_hushNoted]
  have hdone (b : Nat) : (s.ledgerDone k b).plcAt k = s.plcAt k :=
    State.plcAt_eq ((State.within_ledgerDone (List.Subset.refl _) s k b).mpr (State.within_refl _ _) .plc (by simp)) k
  split
  · split <;> simp only [hdone]
  · rfl

/-- The bow before the one that begins is closed: its spans, its ledger record, its capture row. -/
def State.bowClosed (s : State) (k : Nat) : State := (((s.closeBow k).closeSpan k).closeLedger k).capMark k

theorem State.bowAt_bowClosed (s : State) (k : Nat) :
    ((s.bowClosed k).bowAt k).bow = (s.bowAt k).bow ∧ ((s.bowClosed k).bowAt k).forward = (s.bowAt k).forward := by
  have hlater : (s.closeBow k).Within [.dict, .plc, .energy, .ledger, .capt] (s.bowClosed k) := by simp [State.bowClosed]
  rw [State.bowAt_eq (hlater .bow (by simp))]
  unfold State.closeBow
  dsimp only
  (repeat' split) <;> simp [State.bowAt_setModel]

theorem State.next_bowClosed (s : State) (k : Nat) : ((s.bowClosed k).plcAt k).next = (s.plcAt k).next := by
  have hclose : s.Within [.dict, .bow] (s.closeBow k) := by simp
  have hcap : (((s.closeBow k).closeSpan k).closeLedger k).Within [.capt] (s.bowClosed k) := by simp [State.bowClosed]
  rw [State.plcAt_eq (hcap .plc (by simp)), State.next_closeLedger, State.closeSpan, State.next_countBow,
    State.plcAt_eq (hclose .plc (by simp))]

theorem State.plcAt_frameBow (s : State) (k : Nat) :
    ((s.frameBow k).plcAt k).cur = (s.plcAt k).next ∧ ((s.frameBow k).plcAt k).next = none := by
  have hplc (u : State) (i b n : Nat) (p : PlaceSt) : ((u.plcPut k p).putN i b n).plcAt k = p := State.plcAt_plcPut_self ..
  unfold State.frameBow
  rw [hplc]
  exact ⟨rfl, rfl⟩

theorem State.plcAt_fetchBow (s : State) (k : Nat) :
    ((s.fetchBow k).plcAt k).cur = (s.plcAt k).cur ∧ ((s.fetchBow k).plcAt k).next = (s.plcAt k).next := by
  unfold State.fetchBow
  dsimp only
  rw [State.plcAt_plcPut_self]
  have hgone (l : List FetchBow) (u : State) : u.Within [.fet] (l.foldl (fun s b => s.releaseTiles k b) u) :=
    (State.within_foldl _ fun u b => by simp).mpr (State.within_refl _ _)
  have hput (f : FetchSt) : s.Within [.fet] (s.fetPut k f) := by simp
  have hplc (f : FetchSt) (l : List FetchBow) :
      (l.foldl (fun s b => s.releaseTiles k b) (s.fetPut k f)).plcAt k = s.plcAt k :=
    State.plcAt_eq (((hput f).trans (hgone l _)) .plc (by simp)) k
  rw [hplc]
  exact ⟨rfl, rfl⟩

/-- What follows once the next bow has begun. -/
def State.bowBegun (s : State) (k : Nat) : State := ((((s.frameBow k).countAmp k).fetchBow k).refreshWater k).litClock k

theorem State.within_bowBegun (s : State) (k : Nat) :
    s.Within [.dict, .frm, .plc, .mir, .fet, .inputs, .mem, .col] (s.bowBegun k) := by
  simp [State.bowBegun]

theorem State.plcAt_bowBegun (s : State) (k : Nat) :
    ((s.bowBegun k).plcAt k).cur = (s.plcAt k).next ∧ ((s.bowBegun k).plcAt k).next = none := by
  have hlater : (((s.frameBow k).countAmp k).fetchBow k).Within [.dict, .inputs, .mem, .col] (s.bowBegun k) := by
    simp [State.bowBegun]
  have hamp : (s.frameBow k).Within [.mir] ((s.frameBow k).countAmp k) := by simp
  obtain ⟨hcur, hnext⟩ := State.plcAt_fetchBow ((s.frameBow k).countAmp k) k
  rw [State.plcAt_eq (hlater .plc (by simp)), hcur, hnext, State.plcAt_eq (hamp .plc (by simp))]
  exact State.plcAt_frameBow s k

@[simp] theorem State.writes_frameBow {L : List Place} {D : Tab Val} (h : [.column 0x2200 0x1E] ⊆ L) (s : State) (k : Nat) :
    DictIn L D (s.frameBow k).dict ↔ DictIn L D s.dict := by
  simp_all [State.frameBow, State.putN, dictIn_column 0x2200, crs]

theorem State.dict_of_within {t : State} {P : List Part} (h : s.Within P t) (hdict : .dict ∉ P) : t.dict = s.dict := h .dict hdict

theorem State.writes_bowBegun (s : State) (k : Nat) :
    DictIn [.column 0x2200 0x1E, .column 0x2680 0xF, .column 0x2680 0x10, .column 0x2680 0x11, .column 0x2680 0x12,
      .entry 0x5000 0x1A] s.dict (s.bowBegun k).dict := by
  have hlit (u : State) : (u.litClock k).dict = u.dict := State.dict_of_within (P := [.col]) (by simp) (by simp)
  have hfetch (u : State) : (u.fetchBow k).dict = u.dict := State.dict_of_within (P := [.plc, .fet]) (by simp) (by simp)
  have hamp (u : State) : (u.countAmp k).dict = u.dict := State.dict_of_within (P := [.mir]) (by simp) (by simp)
  unfold State.bowBegun
  rw [hlit, State.writes_refreshWater (by simp), hfetch, hamp, State.writes_frameBow (by simp)]
  exact DictIn.refl _ _

theorem State.nextBow_advances (s : State) (k : Nat) :
    ((s.nextBow k).bowAt k).bow = ((s.bowAt k).bow + 1) % 2 ^ 48 ∧ ((s.nextBow k).bowAt k).forward = !(s.bowAt k).forward ∧
    (s.nextBow k).nat (crs k) 0x16 = ((s.bowAt k).bow + 1) % 2 ^ 48 ∧ (s.nextBow k).plcAt k = s.plcAt k := by
  have hbow (x : BowSt) (i b n : Nat) : ((s.bowPut k x).putN i b n).bowAt k = x := State.bowAt_bowPut_self ..
  unfold State.nextBow
  dsimp only
  rw [hbow]
  exact ⟨rfl, rfl, State.nat_putN .., rfl⟩

theorem exec_bowStart {k : CourseId} (hmoves : s.cst k.val ≠ 0) (hseeded : (s.bowAt k.val).seeded = true)
    (hrun : s.clk.slotRun = true) (href : s.clk.refclk = true) :
    exec (.bowStart k) s = .next (((s.bowClosed k.val).nextBow k.val).bowBegun k.val) :=
  congrArg Host.Outcome.next (if_pos ⟨hmoves, hseeded, hrun, href⟩)

theorem State.placeNext_places (s : State) (k : Nat) : ((s.placeNext k).plcAt k).next.isSome = true := by
  unfold State.placeNext
  dsimp only
  (repeat' split) <;> rw [State.plcAt_plcPut_self] <;> rfl

theorem exec_bowPlacement {k : CourseId} (hmoves : s.cst k.val ≠ 0) (hmodel : s.modelState k.val ≠ 0)
    (href : s.clk.refclk = true) (hnone : (s.plcAt k.val).next = none) :
    exec (.bowPlacement k) s = .next (s.placeNext k.val) :=
  congrArg Host.Outcome.next (if_neg (by simp [hmoves, hmodel, href, hnone]))

theorem exec_bowPlacement_stays {k : CourseId} (h : s.cst k.val = 0 ∨ (s.plcAt k.val).next.isSome = true) :
    exec (.bowPlacement k) s = .next s :=
  congrArg Host.Outcome.next (if_pos (h.elim .inl fun hplaced => .inr (.inr (.inr hplaced))))

end Sys2Proof.Machine

namespace Sys2Proof.Proofs

open Sys2Proof.Machine

/-- Settles O27: the bow before is closed, the next one takes its number and what was placed, and what follows keeps both. -/
theorem bowsArePlacedAndStart : Obligations.BowsArePlacedAndStart := by
  unfold Obligations.BowsArePlacedAndStart
  refine ⟨fun k s hmoves hseeded hrun href => ⟨_, exec_bowStart hmoves hseeded hrun href, ?_⟩,
    fun k s => ⟨fun hmoves hmodel href hnone =>
      ⟨_, exec_bowPlacement hmoves hmodel href hnone, s.placeNext_places k.val⟩, exec_bowPlacement_stays⟩⟩
  obtain ⟨hbow, hforward, hshown, hplc⟩ := State.nextBow_advances (s.bowClosed k.val) k.val
  obtain ⟨hbow₀, hforward₀⟩ := State.bowAt_bowClosed (s := s) (k := k.val)
  obtain ⟨hcur, hnext⟩ := State.plcAt_bowBegun (s := (s.bowClosed k.val).nextBow k.val) (k := k.val)
  have hkept := State.writes_bowBegun ((s.bowClosed k.val).nextBow k.val) k.val
  have hbowKept := State.within_bowBegun ((s.bowClosed k.val).nextBow k.val) k.val .bow (by simp)
  rw [State.bowAt_eq hbowKept, hbow, hforward, hcur, hplc, State.next_bowClosed,
    hkept.nat (by decide) (by simp [crs]), hshown, hbow₀, hforward₀]
  exact ⟨rfl, rfl, rfl, rfl, hnext⟩

end Sys2Proof.Proofs

/-! PROOF. Frames are requested and start (R91 to R94, R99, R100). -/

namespace Sys2Proof.Machine

variable {s : State}

/-! ### Requests -/

theorem State.requestFrame_none {k : Nat} (hnone : (s.frmAt k).held = none) (counter : Option Nat) (t : Nat) :
    s.requestFrame k counter t = s.frmPut k { s.frmAt k with
      held := some { counter := counter, at_ := t, waits := !s.flybackOver k } } := by
  simp [State.requestFrame, hnone]

theorem State.requestFrame_some {k : Nat} {r : FrameReq} (hsome : (s.frmAt k).held = some r) (counter : Option Nat) (t : Nat) :
    s.requestFrame k counter t = (s.frmPut k { s.frmAt k with
      held := some { counter := counter, at_ := t, waits := !s.flybackOver k } }).bump (refIx k) 0x19 := by
  simp [State.requestFrame, hsome]

theorem State.frmAt_frmPut_self (s : State) (k : Nat) (f : FrameSt) : (s.frmPut k f).frmAt k = f := tgetD_tput_self ..

theorem State.frmAt_eq {t : State} (h : t.frm = s.frm) (k : Nat) : t.frmAt k = s.frmAt k :=
  congrArg (fun l => tgetD l ({} : FrameSt) k) h

theorem State.held_requestFrame (s : State) (k : Nat) (counter : Option Nat) (t : Nat) :
    ((s.requestFrame k counter t).frmAt k).held = some { counter := counter, at_ := t, waits := !s.flybackOver k } := by
  unfold State.requestFrame
  dsimp only
  split
  · rw [State.frmAt_eq (State.bump_fields _ _ _).2.2.2.2.2.2.1, State.frmAt_frmPut_self]
  · rw [State.frmAt_frmPut_self]

section
variable {k : CourseId}

theorem exec_ptpFrameEpoch (href : s.nat (refIx k.val) 1 = 0) : exec (.ptpFrameEpoch k) s = .next
    (s.requestFrame k.val (some (s.ptpNow k.val % (2 ^ 32 : Nat)).toNat) (s.ptpStartOf k.val (s.ptpNow k.val)).toNat) :=
  congrArg Host.Outcome.next (if_pos href)

theorem exec_contentFollowPeriodEnd (href : s.nat (refIx k.val) 1 = 3) :
    exec (.contentFollowPeriodEnd k) s = .next (s.requestFrame k.val none s.clk.tai) :=
  congrArg Host.Outcome.next (if_pos href)

theorem repeatFrame_requests (href : s.nat (refIx k.val) 1 = 1 ∨ s.nat (refIx k.val) 1 = 2) (hrepeat : s.nat (refIx k.val) 8 ≠ 0) :
    Completes (.repeatFrame k) s (fun t => (t.frmAt k.val).held =
      some { counter := none, at_ := s.clk.tai, waits := !s.flybackOver k.val, isRepeat := true }) := by
  refine ⟨_, congrArg Host.Outcome.next (if_pos ⟨href, hrepeat⟩), ?_⟩
  dsimp only
  rw [State.frmAt_frmPut_self, State.held_requestFrame]
  rfl

end

/-! ### A frame start with nothing to apply -/

theorem State.no_commits (hnone : s.oz.commits = []) : ({ s with oz := { s.oz with commits := [] } } : State) = s :=
  congrArg (fun l => ({ s with oz := { s.oz with commits := l } } : State)) hnone.symm

theorem State.commitsDone_none (hnone : s.oz.commits = []) : s.commitsDone = s := by
  unfold State.commitsDone
  simp only [hnone, List.filter_nil, List.foldl_nil]
  exact State.no_commits hnone

theorem State.takeItems_none (hnone : s.oz.commits = []) (pick : Pending → Todo → Bool) : s.takeItems pick = (s, []) := by
  unfold State.takeItems
  rw [hnone]
  exact Prod.ext ((congrArg State.commitsDone (State.no_commits hnone)).trans (State.commitsDone_none hnone)) rfl

theorem State.passFence_none (hnone : s.oz.commits = []) (k : Nat) : s.passFence k = s := by
  unfold State.passFence
  rw [hnone, List.map_nil]
  exact State.no_commits hnone

theorem State.applyAtFrame_nil (s : State) : s.applyAtFrame [] = s := rfl

/-- A domain with no value that waits keeps everything but its own record. -/
theorem State.domainFrame_idle {d k : Nat} (hnone : (s.domainsAt d).waiting = []) :
    s.Within [.domains] (s.domainFrame d k) ∧ ∀ e, e ≠ d → (s.domainFrame d k).domainsAt e = s.domainsAt e := by
  have hidle : ∃ x y, s.domainFrame d k = (s.domainsPut d x).domainsPut d y := by
    unfold State.domainFrame
    dsimp only
    rw [hnone]
    exact ⟨_, _, rfl⟩
  obtain ⟨x, y, hxy⟩ := hidle
  rw [hxy]
  refine ⟨State.Within.trans (t := s.domainsPut d x) ?_ ?_, fun e he => ?_⟩
  · exact (State.within_of_taking (L := [.domains]) rfl (List.Subset.refl _)).mpr (State.within_refl _ _)
  · exact (State.within_of_taking (L := [.domains]) rfl (List.Subset.refl _)).mpr (State.within_refl _ _)
  · exact (tgetD_tput_other _ _ _ _ he.symm).trans (tgetD_tput_other _ _ _ _ he.symm)

/-! The parts of `startFrame` where no item applies. -/

/-- The course's frame is set up up to its domains. -/
def State.frameSetUp (s : State) (k n : Nat) (r : FrameReq) : State :=
  let s1 := s.frameLevel k
  let s2 := (((s1.switchIns k).frameMatrix k n false (!(s1.switching k).isEmpty)).frameMesh k r.isRepeat).frameLatency k
  s2.retireBanks k

/-- What follows once the flyback of the frame before is forgotten. -/
def State.frameGoesOn (s : State) (k n : Nat) : State :=
  (((((((s.captureEnd k).sendFrames k n).placeAgain k).frameMove k).switchAtFrame k).captureBegin k n).refreshWater k)

def State.flybackForgotten (s : State) (k : Nat) : State :=
  s.frmPut k { s.frmAt k with flyback := s.nat (crs k) 0x11 == 0 || !(s.bowAt k).seeded, lastEnd := none }

def State.frameBegun (s : State) (k : Nat) (r : FrameReq) : State := ((s.frameClamped k).contentServo k).frameBegins k r

theorem State.retrySpin_nil (s : State) (k : Nat) : s.retrySpin k [] = s := by
  unfold State.retrySpin
  exact if_neg (by simp)

theorem State.commits_frameBegun (s : State) (k : Nat) (r : FrameReq) : (s.frameBegun k r).oz.commits = s.oz.commits := by
  have h : s.Within [.dict, .col, .frm] (s.frameBegun k r) := by simp [State.frameBegun, State.frameBegins]
  exact congrArg OzSt.commits (h .oz (by simp))

theorem State.startFrame_nothing {k : Nat} (hnone : s.oz.commits = []) (r : FrameReq) :
    s.startFrame k r = (((((((s.frameBegun k r).frameSetUp k (s.startCounter k r) r).domainFrame k k).domainFrame (32 + k) k).frameFetch
      k).flybackForgotten k).frameGoesOn k (s.startCounter k r)) := by
  have hbegun : (s.frameBegun k r).oz.commits = [] := (s.commits_frameBegun k r).trans hnone
  unfold State.startFrame
  dsimp only
  rw [← State.frameBegun, State.takeItems_none hbegun]
  simp only [State.passFence_none hbegun, State.applyAtFrame_nil, List.map_nil, List.any_nil, State.retrySpin_nil]
  rfl

/-- The entries that a frame start may write where no item applies. -/
def frameStartPlaces : List Place := [.column 0x2000 0x15, .column 0x2000 0x16, .column 0x2000 4, .column 0x2000 8,
  .column 0x2000 9, .column 0x2100 3, .column 0x2200 0x15, .column 0x2200 0x1C, .column 0x2200 0x1D, .column 0x2200 1,
  .column 0x2200 2, .column 0x2200 3, .column 0x2600 3, .column 0x2600 6, .column 0x2680 0x10, .column 0x2680 0x11,
  .column 0x2680 0x12, .column 0x2680 0xF, .column 0x2700 0x14, .column 0x2700 0x15, .column 0x2700 0x16, .column 0x2700 0x17,
  .column 0x2700 0x18, .column 0x2700 0x19, .column 0x2700 0x1A, .column 0x2800 0x11, .column 0x2800 0x17, .column 0x2800 0xF,
  .column 0x4010 4, .column 0x4140 9, .column 0x7020 5, .entry 0x1000 6, .entry 0x1000 7, .entry 0x26F0 2, .entry 0x26F0 3,
  .entry 0x40F0 6, .entry 0x4200 1, .entry 0x5000 0x1A, .entry 0x7000 0x17, .entry 0x7000 0x18, .entry 0x7000 0x19,
  .entry 0x7000 7, .entry 0x7000 9, .entry 0x7F00 0xA, .entry 0x7F00 7, .entry 0x7F00 8]

theorem frameStartPlaces_not_ref {k : Nat} (hk : k < 32) (b : Nat) :
    ∀ p ∈ frameStartPlaces, ¬ p.has (refIx k) b := by
  simp [frameStartPlaces, refIx]
  omega

theorem State.writes_frameSetUp (s : State) (k n : Nat) (r : FrameReq) :
    DictIn frameStartPlaces s.dict (s.frameSetUp k n r).dict := by
  have hlevel : (s.frameLevel k).dict = s.dict := State.dict_of_within (P := [.bow]) (by simp) (by simp)
  unfold State.frameSetUp
  dsimp only
  rw [State.writes_retireBanks (by simp [frameStartPlaces]), State.writes_frameLatency (by simp [frameStartPlaces]),
    State.writes_frameMesh (by simp [frameStartPlaces]), State.writes_frameMatrix (by simp [frameStartPlaces]),
    State.writes_switchIns (by simp [frameStartPlaces]), hlevel]
  exact DictIn.refl _ _

theorem State.writes_frameGoesOn (s : State) (k n : Nat) : DictIn frameStartPlaces s.dict (s.frameGoesOn k n).dict := by
  unfold State.frameGoesOn
  rw [State.writes_refreshWater (by simp [frameStartPlaces]), State.writes_captureBegin (by simp [frameStartPlaces]),
    State.writes_switchAtFrame (by simp [frameStartPlaces]), State.writes_frameMove (by simp [frameStartPlaces]),
    State.writes_placeAgain (by simp [frameStartPlaces]), State.dict_sendFrames, State.dict_captureEnd]
  exact DictIn.refl _ _

theorem State.within_frameSetUp (s : State) (k n : Nat) (r : FrameReq) :
    s.Within [.dict, .plc, .lanes, .spares, .ledger, .fet, .col, .emit, .capoC, .pegs, .runs, .svc, .free, .meshes, .store, .bow]
      (s.frameSetUp k n r) := by
  simp [State.frameSetUp]

theorem State.within_frameGoesOn (s : State) (k n : Nat) :
    s.Within [.dict, .plc, .lanes, .ledger, .fet, .col, .capt, .runs, .svc, .free, .store, .fw, .inputs, .mem]
      (s.frameGoesOn k n) := by
  simp [State.frameGoesOn]

/-- The frame takes its counter and its time, and its request is held no more. -/
theorem State.frameBegun_takes {k : Nat} (hk : k < 32) (s : State) (r : FrameReq) :
    (s.frameBegun k r).nat (refIx k) 0x10 = s.startCounter k r ∧
    (s.frameBegun k r).nat (refIx k) 0x11 = time80 (s.startTime r / tNs) ∧ ((s.frameBegun k r).frmAt k).held = none ∧
    (s.frameBegun k r).domains = s.domains := by
  have hbefore : s.Within [.dict, .col, .frm] ((s.frameClamped k).contentServo k) := by simp
  have hdict : DictIn frameStartPlaces s.dict ((s.frameClamped k).contentServo k).dict := by
    have hservo : ((s.frameClamped k).contentServo k).dict = (s.frameClamped k).dict :=
      State.dict_of_within (P := [.frm]) (by simp) (by simp)
    rw [hservo, State.writes_frameClamped (by simp [frameStartPlaces])]
    exact DictIn.refl _ _
  have hcounter : ((s.frameClamped k).contentServo k).startCounter k r = s.startCounter k r := by
    unfold State.startCounter
    rw [hdict.nat (by decide) (frameStartPlaces_not_ref hk _)]
  have htime : ((s.frameClamped k).contentServo k).startTime r = s.startTime r := by
    unfold State.startTime
    rw [show ((s.frameClamped k).contentServo k).clk = s.clk from hbefore .clk (by simp)]
  refine ⟨?_, ?_, ?_, hbefore .domains (by simp)⟩
  · rw [State.frameBegun, State.frameBegins, State.nat_putN_ne _ _ _ _ _ _ (by simp [dkey]), State.nat_putN, hcounter]
  · rw [State.frameBegun, State.frameBegins, State.nat_putN, htime]
  · have hfrm (u : State) (f : FrameSt) (i b c m n : Nat) : (((u.frmPut k f).putN i b m).putN i c n).frmAt k = f :=
      State.frmAt_frmPut_self ..
    rw [State.frameBegun, State.frameBegins, hfrm]

/-- A frame starts with no commit and no tuned value that waits. -/
theorem State.startFrame_starts {k : Nat} (hk : k < 32) (s : State) (r : FrameReq) (hnone : s.oz.commits = [])
    (hidle : ∀ d < 98, (s.domainsAt d).waiting = []) :
    (s.startFrame k r).nat (refIx k) 0x10 = s.startCounter k r ∧
    (s.startFrame k r).nat (refIx k) 0x11 = time80 (s.startTime r / tNs) ∧ ((s.startFrame k r).frmAt k).held = none := by
  obtain ⟨hcounter, htime, hheld, hdomains⟩ := State.frameBegun_takes hk s r
  have hsetUp := State.within_frameSetUp (s.frameBegun k r) k (s.startCounter k r) r
  have hwrites := State.writes_frameSetUp (s.frameBegun k r) k (s.startCounter k r) r
  rw [State.startFrame_nothing hnone]
  generalize (s.frameBegun k r).frameSetUp k (s.startCounter k r) r = u at *
  have hwaits (d : Nat) (hd : d < 98) : (u.domainsAt d).waiting = [] := by
    have hu : u.domains = (s.frameBegun k r).domains := hsetUp .domains (by simp)
    have hsame : u.domains = s.domains := hu.trans hdomains
    have hat : u.domainsAt d = s.domainsAt d := congrArg (fun l => tgetD l ({} : DomainSt) d) hsame
    rw [hat, hidle d hd]
  obtain ⟨hw, hother⟩ := State.domainFrame_idle (k := k) (hwaits k (by omega))
  obtain ⟨hw2, -⟩ := State.domainFrame_idle (s := u.domainFrame k k) (d := 32 + k) (k := k)
    (by rw [hother _ (by omega)]; exact hwaits _ (by omega))
  have hfetch : ((u.domainFrame k k).domainFrame (32 + k) k).Within [.plc, .fet]
      (((u.domainFrame k k).domainFrame (32 + k) k).frameFetch k) := by simp
  have hdomain : u.Within [.domains, .plc, .fet] (((u.domainFrame k k).domainFrame (32 + k) k).frameFetch k) :=
    ((hw.trans hw2).mono (by simp)).trans (hfetch.mono (by simp))
  generalize ((u.domainFrame k k).domainFrame (32 + k) k).frameFetch k = v at *
  have hgoes := State.within_frameGoesOn (v.flybackForgotten k) k (s.startCounter k r)
  have hlast := State.writes_frameGoesOn (v.flybackForgotten k) k (s.startCounter k r)
  have hrow (b : Nat) (hb : b = 0x10 ∨ b = 0x11) :
      ((v.flybackForgotten k).frameGoesOn k (s.startCounter k r)).nat (refIx k) b = (s.frameBegun k r).nat (refIx k) b := by
    have hout := frameStartPlaces_not_ref hk b
    have hdict : v.dict = u.dict := hdomain .dict (by simp)
    rw [hlast.nat (by omega) hout]
    change v.nat (refIx k) b = _
    rw [← hwrites.nat (by omega) hout, State.nat, State.int, State.val, hdict]
    rfl
  refine ⟨(hrow _ (.inl rfl)).trans hcounter, (hrow _ (.inr rfl)).trans htime, ?_⟩
  rw [State.frmAt_eq (hgoes .frm (by simp)), State.flybackForgotten, State.frmAt_frmPut_self,
    State.frmAt_eq (hdomain .frm (by simp)), State.frmAt_eq (hsetUp .frm (by simp)), hheld]

theorem exec_frameStart {k : CourseId} {r : FrameReq} (hheld : (s.frmAt k.val).held = some r) (href : s.clk.refclk = true) :
    exec (.frameStart k) s = .next (if s.flybackOver k.val = true then s.startFrame k.val r else s) := by
  have hasked : s.frameAsked k.val = some r := by simp [State.frameAsked, hheld]
  change Host.Outcome.next _ = _
  simp only [hasked, href, and_true]

end Sys2Proof.Machine

namespace Sys2Proof.Proofs

open Sys2Proof.Machine

/-- Settles O23: a request replaces what is held; a frame start with nothing to apply takes the request's counter and time, and
nothing that follows writes those entries. -/
theorem framesAreRequestedAndStart : Obligations.FramesAreRequestedAndStart := by
  unfold Obligations.FramesAreRequestedAndStart
  refine ⟨fun k s => ⟨fun href hnone => ?_, fun href hnone => ?_, fun r href hsome => ?_, fun href hlate => ?_,
    fun href hdone hsoon => ?_, repeatFrame_requests⟩, fun k r s hheld href => ⟨fun hnot => ?_, fun hover hnone hidle => ?_⟩⟩
  · rw [exec_ptpFrameEpoch href, State.requestFrame_none hnone]
    rfl
  · rw [exec_contentFollowPeriodEnd href, State.requestFrame_none hnone]
  · rw [exec_contentFollowPeriodEnd href, State.requestFrame_some hsome]
  · exact congrArg Host.Outcome.next (if_pos ⟨href, hlate⟩)
  · exact congrArg Host.Outcome.next (if_neg fun h => h.2.elim hdone (not_le.mpr hsoon))
  · rw [exec_frameStart hheld href, if_neg (by simp [hnot])]
  · refine ⟨_, (exec_frameStart hheld href).trans (congrArg _ (if_pos hover)), ?_⟩
    exact State.startFrame_starts k.isLt s r hnone hidle

end Sys2Proof.Proofs

/-! PROOF. What the parts of a turnaround and of the commit fence may change. -/

namespace Sys2Proof.Machine
section
variable {s₀ : State} {L : List Part}
@[simp] theorem State.within_energySync (h : [.energy] ⊆ L) (s : State) (l : List Nat) :
    s₀.Within L (s.energySync l) ↔ s₀.Within L s := by
  simp_all [State.energySync]

@[simp] theorem State.within_limitsTake (h : [.dict, .plc, .capo, .energy] ⊆ L) (s0 : State) (k : Nat) :
    s₀.Within L (s0.limitsTake k) ↔ s₀.Within L s0 := by
  simp only [List.cons_subset, List.nil_subset, and_true] at h
  unfold State.limitsTake
  dsimp only
  rw [State.within_set_capo (by simp [h])]
  simp [h]

@[simp] theorem State.within_persist (h : [.store] ⊆ L) (s : State) (key : Nat) (v : Val) :
    s₀.Within L (s.persist key v) ↔ s₀.Within L s :=
  State.within_of_taking rfl h

@[simp] theorem State.within_putRP (h : [.dict, .store] ⊆ L) (s : State) (index sub : Nat) (v : Val) :
    s₀.Within L (s.putRP index sub v) ↔ s₀.Within L s := by
  simp_all [State.putRP]

@[simp] theorem State.within_putKey (h : [.dict] ⊆ L) (s : State) (key : Nat) (v : Val) :
    s₀.Within L (s.putKey key v) ↔ s₀.Within L s := by
  simp_all [State.putKey]

@[simp] theorem State.within_takeBuf (h : [.dict, .canvases] ⊆ L) (s : State) (c b : Nat) (late : Bool) :
    s₀.Within L (s.takeBuf c b late) ↔ s₀.Within L s := by
  unfold State.takeBuf
  (repeat' split) <;> simp_all

@[simp] theorem State.within_releaseLanes (h : [.lanes] ⊆ L) (s : State) (k : Nat) :
    s₀.Within L (s.releaseLanes k) ↔ s₀.Within L s := by
  simp_all [State.releaseLanes]

@[simp] theorem State.within_runAdvance (h : [.runs] ⊆ L) (s : State) (k : Nat) :
    s₀.Within L (s.runAdvance k) ↔ s₀.Within L s := by
  simp_all [State.runAdvance]

@[simp] theorem State.within_runRho (h : [.dict, .store, .emit, .free] ⊆ L) (s : State) (k l : Nat) (h : Rat) :
    s₀.Within L (s.runRho k l h) ↔ s₀.Within L s := by
  simp_all [State.runRho]

@[simp] theorem State.within_runGives (h : [.runs] ⊆ L) (s : State) (k : Nat) (ms : List Measured) :
    s₀.Within L (s.runGives k ms) ↔ s₀.Within L s := by
  simp_all [State.runGives]

@[simp] theorem State.within_runProbeStep (h : [.dict, .store, .emit, .runs, .free] ⊆ L) (s : State) (k : Nat) :
    s₀.Within L (s.runProbeStep k) ↔ s₀.Within L s := by
  simp only [List.cons_subset, List.nil_subset, and_true] at h
  have hrho (l : List Nat) (g : Nat → Rat) (u : State) : s₀.Within L (l.foldl (fun s l => s.runRho k l (g l)) u) ↔
      s₀.Within L u := State.within_foldl _ fun s l => by simp [h]
  unfold State.runProbeStep
  dsimp only
  split
  · rfl
  · split <;> simp [h, hrho]

@[simp] theorem State.within_runMove (h : [.pegs, .runs] ⊆ L) (s : State) (k p : Nat) (by_ : Int) :
    s₀.Within L (s.runMove k p by_) ↔ s₀.Within L s := by
  simp_all [State.runMove]

@[simp] theorem State.within_runBridgeStep (h : [.pegs, .runs] ⊆ L) (s : State) (k : Nat) :
    s₀.Within L (s.runBridgeStep k) ↔ s₀.Within L s := by
  simp_all [State.runBridgeStep]

@[simp] theorem State.within_runDarkStep (h : [.pegs, .runs] ⊆ L) (s : State) (k x : Nat) :
    s₀.Within L (s.runDarkStep k x) ↔ s₀.Within L s := by
  simp_all [State.runDarkStep]

@[simp] theorem State.within_runStep (h : [.dict, .store, .emit, .pegs, .runs, .free] ⊆ L) (s : State) (k : Nat) :
    s₀.Within L (s.runStep k) ↔ s₀.Within L s := by
  unfold State.runStep
  dsimp only
  (repeat' split) <;> simp_all

@[simp] theorem State.within_toArmed (h : [.dict, .plc, .lanes, .ledger, .fet, .col, .capo, .capoC, .runs, .svc] ⊆ L)
    (s : State) (k : Nat) :
    s₀.Within L (s.toArmed k) ↔ s₀.Within L s := by
  simp_all [State.toArmed]

@[simp] theorem State.within_toTracking (h : [.dict, .plc, .ledger, .fet, .col, .mir, .runs, .svc] ⊆ L) (s : State)
    (k : Nat) :
    s₀.Within L (s.toTracking k) ↔ s₀.Within L s := by
  simp_all [State.toTracking]

@[simp] theorem State.within_turnaroundMove (h : [.dict, .plc, .lanes, .ledger, .fet, .col, .mir, .capo, .capoC, .runs,
    .svc] ⊆ L) (s : State) (k : Nat) :
    s₀.Within L (s.turnaroundMove k) ↔ s₀.Within L s := by
  simp_all [State.turnaroundMove]

@[simp] theorem State.within_decideMatrix (h : [.dict, .col, .free] ⊆ L) (s : State) (k : Nat) :
    s₀.Within L (s.decideMatrix k) ↔ s₀.Within L s := by
  simp only [List.cons_subset, List.nil_subset, and_true] at h
  unfold State.decideMatrix
  dsimp only
  split
  · simp [h]
  · split
    · rw [State.within_set_free (by simp [h]), State.within_colPut (by simp [h])]
    · (repeat' split) <;> simp [h]

@[simp] theorem State.within_decideMesh (h : [.dict, .fet, .col] ⊆ L) (s : State) (k : Nat) :
    s₀.Within L (s.decideMesh k) ↔ s₀.Within L s := by
  unfold State.decideMesh
  dsimp only
  split <;> simp_all

@[simp] theorem State.within_flipsDecided (h : [.oz] ⊆ L) (s : State) (k c : Nat) :
    s₀.Within L (s.flipsDecided k c) ↔ s₀.Within L s :=
  State.within_of_taking rfl h

@[simp] theorem State.within_releaseEarlier (h : [.dict, .canvases] ⊆ L) (s : State) (k c b : Nat) :
    s₀.Within L (s.releaseEarlier k c b) ↔ s₀.Within L s := by
  simp_all [State.releaseEarlier]

@[simp] theorem State.within_decideBuffer (h : [.dict, .canvases] ⊆ L) (s : State) (k c : Nat) :
    s₀.Within L (s.decideBuffer k c).1 ↔ s₀.Within L s := by
  unfold State.decideBuffer
  split <;> simp_all

@[simp] theorem State.within_decideNextBuffer (h : [.dict, .oz, .canvases, .fet] ⊆ L) (s : State) (k : Nat) :
    s₀.Within L (s.decideNextBuffer k) ↔ s₀.Within L s := by
  unfold State.decideNextBuffer
  split <;> simp_all

@[simp] theorem State.within_decideSpare (h : [.spares] ⊆ L) (s : State) (k i : Nat) :
    s₀.Within L (s.decideSpare k i) ↔ s₀.Within L s := by
  unfold State.decideSpare
  split <;> simp_all

@[simp] theorem State.within_decideSpares (h : [.spares] ⊆ L) (s : State) (k : Nat) :
    s₀.Within L (s.decideSpares k) ↔ s₀.Within L s := by
  simp_all [State.decideSpares]

@[simp] theorem State.within_decideFrame (h : [.dict, .oz, .spares, .canvases, .fet, .col, .free] ⊆ L) (s : State)
    (k : Nat) :
    s₀.Within L (s.decideFrame k) ↔ s₀.Within L s := by
  simp_all [State.decideFrame]

end

end Sys2Proof.Machine

/-! PROOF. What entries a turnaround and a nut may write. -/

namespace Sys2Proof.Machine

open Sys2Proof

section

variable {L : List Place} {D : Tab Val}

@[simp] theorem State.writes_countSpan (h : [.column 0x3810 0xD, .column 0x3810 0xE] ⊆ L) (s : State) (k : Nat)
    (cut : Option Nat) (p : LanePlan) :
    DictIn L D (s.countSpan k cut p).dict ↔ DictIn L D s.dict := by
  simp_all [State.countSpan, State.putN, State.addSat, dictIn_column 0x3810]

@[simp] theorem State.writes_countBow (h : [.column 0x3810 0xD, .column 0x3810 0xE] ⊆ L) (s : State) (k : Nat)
    (cut : Option Nat) :
    DictIn L D (s.countBow k cut).dict ↔ DictIn L D s.dict := by
  simp only [List.cons_subset, List.nil_subset, and_true] at h
  have hspans (l : List Nat) (b : PlacedBow) : DictIn L D (s.each l (fun s i =>
      match b.plans[i]? with
      | some q => s.countSpan k cut q
      | none => s)).dict ↔ DictIn L D s.dict := dictIn_each _ fun s i => by split <;> simp [h]
  unfold State.countBow
  dsimp only
  split
  · split
    · exact hspans _ _
    · rfl
  · rfl

@[simp] theorem State.writes_closeSpan (h : [.column 0x3810 0xD, .column 0x3810 0xE] ⊆ L) (s : State) (k : Nat) :
    DictIn L D (s.closeSpan k).dict ↔ DictIn L D s.dict := by
  simp_all [State.closeSpan]

@[simp] theorem State.dict_energySync (s : State) (l : List Nat) :
    (s.energySync l).dict = s.dict := by
  unfold State.energySync
  exact State.each_proj State.dict (f := fun s str => s.energyPut str (s.energyTo str s.clk.slot)) (fun _ _ => rfl) s l

@[simp] theorem State.writes_limitsTake (h : [.column 0x3810 0xD, .column 0x3810 0xE] ⊆ L) (s0 : State) (k : Nat) :
    DictIn L D (s0.limitsTake k).dict ↔ DictIn L D s0.dict := by
  simp_all [State.limitsTake]

@[simp] theorem State.writes_lockRefresh (h : [.column 0x2200 3] ⊆ L) (s : State) (k : Nat) :
    DictIn L D (s.lockRefresh k).dict ↔ DictIn L D s.dict := by
  simp_all [State.lockRefresh]

@[simp] theorem State.dict_releaseLanes (s : State) (k : Nat) :
    (s.releaseLanes k).dict = s.dict := by
  refine State.each_proj State.dict (fun s p => ?_) s _
  split <;> rfl

@[simp] theorem State.dict_runAdvance (s : State) (k : Nat) :
    (s.runAdvance k).dict = s.dict := rfl

@[simp] theorem State.writes_runRho (h : [.column 0x2000 0x13, .column 0x2000 0x16] ⊆ L) (s : State) (k l : Nat)
    (x : Rat) :
    DictIn L D (s.runRho k l x).dict ↔ DictIn L D s.dict := by
  simp only [List.cons_subset, List.nil_subset, and_true] at h
  have hput (u : State) (v : Val) : DictIn L D (u.putRP (emitIx l) 0x13 v).dict ↔ DictIn L D u.dict := by
    unfold State.putRP
    split
    · rfl
    · split
      · rfl
      · exact dictIn_column 0x2000 v (le_emitIx l) (by decide) h.1
  unfold State.runRho
  dsimp only
  split
  · rw [State.writes_acquire (by simp [h])]
    exact hput _ _
  · exact hput _ _

@[simp] theorem State.dict_runGives (s : State) (k : Nat) (ms : List Measured) :
    (s.runGives k ms).dict = s.dict := rfl

@[simp] theorem State.writes_runProbeStep (h : [.column 0x2000 0x13, .column 0x2000 0x16] ⊆ L) (s : State) (k : Nat) :
    DictIn L D (s.runProbeStep k).dict ↔ DictIn L D s.dict := by
  unfold State.runProbeStep
  split <;> simp_all [dictIn_foldl]

@[simp] theorem State.dict_runMove (s : State) (k p : Nat) (by_ : Int) :
    (s.runMove k p by_).dict = s.dict := by
  simp [State.runMove]

@[simp] theorem State.dict_runBridgeStep (s : State) (k : Nat) :
    (s.runBridgeStep k).dict = s.dict :=
  ((State.within_runBridgeStep (L := [.pegs, .runs]) (by simp) ..).mpr (State.within_refl _ _)) .dict (by simp)

@[simp] theorem State.dict_runDarkStep (s : State) (k x : Nat) :
    (s.runDarkStep k x).dict = s.dict :=
  ((State.within_runDarkStep (L := [.pegs, .runs]) (by simp) ..).mpr (State.within_refl _ _)) .dict (by simp)

@[simp] theorem State.writes_runStep (h : [.column 0x2000 0x13, .column 0x2000 0x16] ⊆ L) (s : State) (k : Nat) :
    DictIn L D (s.runStep k).dict ↔ DictIn L D s.dict := by
  unfold State.runStep
  dsimp only
  (repeat' split) <;> simp_all

@[simp] theorem State.writes_toArmed (h : [.column 0x2200 1, .column 0x2680 0xF, .column 0x2680 0x10, .column 0x4010 4,
    .column 0x7020 5, .entry 0x4200 1] ⊆ L) (s : State) (k : Nat) :
    DictIn L D (s.toArmed k).dict ↔ DictIn L D s.dict := by
  simp_all [State.toArmed]

@[simp] theorem State.writes_toTracking (h : [.column 0x2200 1, .column 0x2680 0xF, .column 0x2680 0x10,
    .column 0x4010 4, .column 0x7020 5, .entry 0x4200 1] ⊆ L) (s : State) (k : Nat) :
    DictIn L D (s.toTracking k).dict ↔ DictIn L D s.dict := by
  simp_all [State.toTracking]

@[simp] theorem State.writes_turnaroundMove (h : [.column 0x2200 1, .column 0x2680 0xF, .column 0x2680 0x10,
    .column 0x4010 4, .column 0x7020 5, .entry 0x4200 1] ⊆ L) (s : State) (k : Nat) :
    DictIn L D (s.turnaroundMove k).dict ↔ DictIn L D s.dict := by
  simp_all [State.turnaroundMove]

@[simp] theorem State.writes_nutDark (h : [.column 0x2200 0x1B, .column 0x7020 2, .column 0x7020 5] ⊆ L) (s : State)
    (k : Nat) (b : PlacedBow) (hushed : Bool) :
    DictIn L D (s.nutDark k b hushed).dict ↔ DictIn L D s.dict := by
  simp_all [State.nutDark, State.bump, State.addSat, State.putN, dictIn_column 0x2200, crs]

@[simp] theorem State.writes_nutMove (h : [.column 0x2200 1, .column 0x2200 0x15, .column 0x2200 0x1E,
    .column 0x2680 0xF, .column 0x2680 0x10, .column 0x4010 4, .column 0x4010 0x12, .column 0x7020 5, .entry 0x4200
    1] ⊆ L) (s : State) (k : Nat) :
    DictIn L D (s.nutMove k).1.dict ↔ DictIn L D s.dict := by
  simp_all [State.nutMove]

end

end Sys2Proof.Machine

/-! PROOF. Courses move at turnarounds and nuts; the commit fence (Table 1.6, R154, R156, R321, R492). -/

namespace Sys2Proof.Machine

variable {s : State} {k : Nat}

theorem State.nat_of_dict {t : State} (h : t.dict = s.dict) (i b : Nat) : t.nat i b = s.nat i b :=
  congrArg (fun d => (valInt (tgetD d (dfltOf i b) (dkey i b))).toNat) h

theorem State.cst_of_dictIn {L : List Place} {t : State} (h : DictIn L s.dict t.dict) (hout : ∀ p ∈ L, ¬ p.has (crs k) 1) :
    t.cst k = s.cst k := h.nat (by decide) hout

theorem State.applyPoint_none (hnone : s.oz.commits = []) (pick : Pending → Todo → Bool) : s.applyPoint pick = s := by
  unfold State.applyPoint
  rw [State.takeItems_none hnone]
  rfl

/-- What a change of state writes after the state itself is another entry. -/
theorem State.cst_setCst (hk : k < 32) (s : State) (n : Nat) : (s.setCst k n).cst k = n := by
  have hdark (u : State) : u.darkIfDone.cst k = u.cst k := by
    have h := (State.writes_darkIfDone (List.Subset.refl _) u).mpr (DictIn.refl _ _)
    exact State.cst_of_dictIn h (by simp only [List.forall_mem_singleton, Place.has, crs]; omega)
  have hempty (u : State) : (u.emptyPartition k).cst k = u.cst k := by
    have h := (State.writes_emptyPartition (List.Subset.refl _) u k).mpr (DictIn.refl _ _)
    exact State.cst_of_dictIn h (by simp)
  have hrun (u : State) : ((u.putN (crs k) 1 n).runStart k).cst k = n := by
    have h := (State.writes_runStart (List.Subset.refl _) (u.putN (crs k) 1 n) k).mpr (DictIn.refl _ _)
    rw [State.cst_of_dictIn h (by simp)]
    exact State.nat_putN ..
  unfold State.setCst
  dsimp only
  (repeat' split) <;> simp only [hdark, hempty, hrun]

theorem State.cst_setArm (s : State) (k j : Nat) (b : Bool) : (s.setArm j b).cst k = s.cst k := rfl

/-- The course as its turnaround moves it, but for the items that apply there. -/
def State.turnReady (s : State) (k : Nat) : State := ((s.lockRefresh k).limitsTake k).runStep k

theorem State.within_turnReady (s : State) (k : Nat) : s.Within [.dict, .svc, .plc, .capo, .energy, .store, .emit, .pegs, .runs, .free]
    (s.turnReady k) := by
  simp [State.turnReady]

theorem State.writes_turnReady (s : State) (k : Nat) :
    DictIn [.column 0x2200 3, .column 0x3810 0xD, .column 0x3810 0xE, .column 0x2000 0x13, .column 0x2000 0x16] s.dict
      (s.turnReady k).dict := by
  unfold State.turnReady
  rw [State.writes_runStep (by simp), State.writes_limitsTake (by simp), State.writes_lockRefresh (by simp)]
  exact DictIn.refl _ _

theorem State.turnaroundMove_armed (hk : k < 32) (hst : s.cst k = 3) (hreq : s.creq k = 2) : (s.turnaroundMove k).cst k = 2 := by
  have hmove : s.turnaroundMove k = (s.setCst k 2).setArm k false := by simp [State.turnaroundMove, hst, hreq]
  rw [hmove, State.cst_setArm, State.cst_setCst hk]

theorem State.turnaroundMove_spinning (hk : k < 32) (hst : s.cst k = 1) (hcauses : s.causes k = 0) (hlocked : s.loopsLocked k = true) :
    (s.turnaroundMove k).cst k = 2 ∧ ((s.turnaroundMove k).mirAt k).starting = false := by
  have hmove : s.turnaroundMove k = s.toTracking k := by simp [State.turnaroundMove, hst, hcauses, hlocked]
  have hmir (u : State) : (u.setCst k 2).mir = u.mir :=
    (State.within_setCst (List.Subset.refl _) u k 2).mpr (State.within_refl _ _) .mir (by simp)
  rw [hmove, State.toTracking]
  refine ⟨State.cst_setCst hk .., ?_⟩
  rw [State.mirAt, hmir]
  exact congrArg MirSt.starting (tgetD_tput_self ..)

theorem exec_bowTurnaround {k : CourseId} (hmoves : s.cst k.val ≠ 0) (href : s.clk.refclk = true)
    (hnone : s.oz.commits = []) : exec (.bowTurnaround k) s = .next ((s.turnReady k.val).turnaroundMove k.val) := by
  have hready : (s.turnReady k.val).oz.commits = [] := by
    rw [show (s.turnReady k.val).oz = s.oz from State.within_turnReady s k.val .oz (by simp)]
    exact hnone
  refine congrArg Host.Outcome.next ((if_neg (by simp [hmoves, href])).trans ?_)
  exact congrArg (State.turnaroundMove · k.val) (State.applyPoint_none hready _)

/-! ### The nut -/

/-- The course as its nut finds it. -/
def State.atNut (s : State) (k : Nat) : State := s.plcPut k { s.plcAt k with nutPassed := true }

theorem exec_nutReached_stays {k : CourseId} {queued : Bool} (h : s.cst k.val = 0 ∨ (s.plcAt k.val).nutPassed = true) :
    exec (.nutReached k queued) s = .next s :=
  congrArg Host.Outcome.next (if_pos h)

/-- What becomes of the bow in progress once the course has moved at its nut. -/
def State.nutBow (s : State) (k : Nat) (queued hushed : Bool) : Option PlacedBow → State
  | none => s
  | some b =>
    if s.cst k = 4 ∧ b.active.isSome ∧ b.dark.isNone ∧ queued = true ∧ s.spanFits b = true ∧ s.clk.refclk = true then
      s.openSpans k b
    else s.nutDark k b hushed

theorem exec_nutReached {k : CourseId} {queued : Bool} (hmoves : s.cst k.val ≠ 0) (hnew : (s.plcAt k.val).nutPassed = false) :
    exec (.nutReached k queued) s = .next ((((s.atNut k.val).nutMove k.val).1.emitAtNut k.val).nutBow k.val queued
      ((s.atNut k.val).nutMove k.val).2 (s.plcAt k.val).cur).darkIfDone := by
  refine congrArg Host.Outcome.next ((if_neg (by simp [hmoves, hnew])).trans ?_)
  rfl

theorem State.nutMove_stays (hst : s.cst k = 4) (hreq : s.creq k = 4) (hcauses : s.causes k = 0) (hmode : s.nat 0x4200 2 = 2)
    (hgood : (s.mirAt k).failed = false) : s.nutMove k = (s, false) := by
  simp [State.nutMove, hst, hreq, hcauses, hmode, hgood]

theorem State.nutMove_stops (hst : s.cst k = 4) (hreq : s.creq k = 0) : (s.nutMove k).1 = (s.hushCourse k 0).toStopped k := by
  simp [State.nutMove, hst, hreq]

theorem State.cst_emitAtNut (s : State) (k j : Nat) : (s.emitAtNut k).cst j = s.cst j := by
  unfold State.emitAtNut
  split <;> rfl

theorem State.cst_darkIfDone (hk : k < 32) (s : State) : s.darkIfDone.cst k = s.cst k := by
  have h := (State.writes_darkIfDone (List.Subset.refl _) s).mpr (DictIn.refl _ _)
  exact State.cst_of_dictIn h (by simp only [List.forall_mem_singleton, Place.has, crs]; omega)

theorem State.darkIfDone_stays (hmode : s.nat 0x4200 2 = 2) : s.darkIfDone = s := by
  simp [State.darkIfDone, hmode]

theorem State.cst_toStopped (hk : k < 32) (s : State) : (s.toStopped k).cst k = 0 := by
  unfold State.toStopped
  split
  · assumption
  · have hrest (u : State) : (((((u.setArm k false).setEmitOk k false).mirrorStop k).dropModel k).runAbort k).cst k = u.cst k := by
      have h : DictIn [.column 0x2200 0x15, .column 0x2200 0x1E, .column 0x4010 4, .column 0x4010 0x12] u.dict
          (((((u.setArm k false).setEmitOk k false).mirrorStop k).dropModel k).runAbort k).dict := by
        simp [DictIn.refl]
      exact State.cst_of_dictIn h (by simp)
    rw [hrest, State.cst_setCst hk]

/-- A LIT course that keeps its state at its nut: its bow opens its spans where they are queued and fit. -/
theorem nutReached_opens {k : CourseId} {b : PlacedBow} (hst : s.cst k.val = 4)
    (hmove : (s.atNut k.val).nutMove k.val = (s.atNut k.val, false)) (hmode : s.nat 0x4200 2 = 2) (href : s.clk.refclk = true)
    (hnew : (s.plcAt k.val).nutPassed = false) (hcur : (s.plcAt k.val).cur = some b) (hactive : b.active.isSome = true)
    (hdark : b.dark = none) (hfits : s.spanFits b = true) :
    Completes (.nutReached k true) s (fun t =>
      (t.plcAt k.val).opened = true ∧ (t.plcAt k.val).nutPassed = true ∧ t.cst k.val = 4) := by
  have hsame : s.Within [.plc, .capo] ((s.atNut k.val).emitAtNut k.val) := by simp [State.atNut]
  have hclk : ((s.atNut k.val).emitAtNut k.val).clk = s.clk := hsame .clk (by simp)
  have hdict : ((s.atNut k.val).emitAtNut k.val).dict = s.dict := hsame .dict (by simp)
  have hplc : ((s.atNut k.val).emitAtNut k.val).plcAt k.val = { s.plcAt k.val with nutPassed := true } := by
    have h : (s.atNut k.val).Within [.capo] ((s.atNut k.val).emitAtNut k.val) := by simp
    rw [State.plcAt_eq (h .plc (by simp)), State.atNut, State.plcAt_plcPut_self]
  refine ⟨_, exec_nutReached (by omega) hnew, ?_⟩
  rw [hmove, hcur]
  generalize (s.atNut k.val).emitAtNut k.val = u at *
  have hopens : u.nutBow k.val true false (some b) = u.openSpans k.val b :=
    if_pos ⟨(State.nat_of_dict hdict ..).trans hst, hactive, by simp [hdark], rfl,
      by rw [State.spanFits, State.blockNow, hclk]; exact hfits, by rw [hclk, href]⟩
  have hspans : (u.plcPut k.val { u.plcAt k.val with opened := true }).Within [.lanes] (u.openSpans k.val b) :=
    (State.within_foldl _ fun u p => by simp).mpr (State.within_refl _ _)
  have hspansDict : (u.openSpans k.val b).dict = s.dict := (State.dict_of_within hspans (by simp)).trans hdict
  have hstill : (u.openSpans k.val b).darkIfDone = u.openSpans k.val b :=
    State.darkIfDone_stays (by rw [State.nat_of_dict hspansDict, hmode])
  rw [hopens, hstill, State.plcAt_eq (hspans .plc (by simp)), State.plcAt_plcPut_self, hplc]
  exact ⟨rfl, rfl, (State.nat_of_dict hspansDict ..).trans hst⟩

theorem State.writes_emitAtNut (s : State) (k : Nat) : (s.emitAtNut k).dict = s.dict :=
  State.dict_of_within (P := [.capo]) (by simp) (by simp)

theorem State.plcAt_darkBow (s : State) (k : Nat) (r : LedgerRec) :
    (s.darkBow k r).plcAt k = { s.plcAt k with hushed := none } := by
  have hrest (u : State) : u.Within [.dict, .ledger, .svc] (match darkBowClass r.cause with
      | none => u.ledgerAdd k r
      | some c => (u.ledgerAdd k r).darkBowTime k c (s.bowAt k).hp.floor.toNat) := by split <;> simp
  exact (State.plcAt_eq (hrest (s.plcPut k { s.plcAt k with hushed := none }) .plc (by simp)) k).trans
    (State.plcAt_plcPut_self ..)

/-- Its blocks are not queued: it is dark from its nut slot with cause 0x10. -/
theorem State.nutDark_unqueued {b : PlacedBow} (hst : s.cst k = 4) (hcauses : s.causes k = 0) (hlit : (s.plcAt k).lit = true)
    (hcut : (s.plcAt k).cut = none) (hactive : b.active.isSome = true) (hdark : b.dark = none) :
    s.nutDark k b false = ((s.bump (crs k) 0x1B).plcPut k { s.plcAt k with cut := some ((b.c - b.hp / 2).floor.toNat, 0x10) }).darkBow
      k { slot := (b.c - b.hp / 2).floor.toNat, bow := b.bow, cause := 0x10, cut := false } := by
  have hcause : (if s.causes k ≠ 0 ∧ ((false : Bool) = true ∨ s.cst k = 5) then lowestCause (s.causes k) else b.dark.getD 0x10)
      = 0x10 := by simp [hcauses, hdark]
  unfold State.nutDark
  dsimp only
  rw [hcause]
  refine (if_neg ?_).trans ?_
  · rw [Option.isNone_iff_eq_none, hlit, hcut, hst]
    obtain ⟨a, ha⟩ := Option.isSome_iff_exists.mp hactive
    simp [ha]
  · rw [if_pos rfl]

theorem State.nutDark_shows {b : PlacedBow} (hst : s.cst k = 4) (hcauses : s.causes k = 0) (hlit : (s.plcAt k).lit = true)
    (hcut : (s.plcAt k).cut = none) (hactive : b.active.isSome = true) (hdark : b.dark = none) :
    ((s.nutDark k b false).plcAt k).cut = some ((b.c - b.hp / 2).floor.toNat, 0x10) ∧
    ((s.nutDark k b false).plcAt k).opened = (s.plcAt k).opened ∧
    (s.nutDark k b false).nat (crs k) 0x1B = min (s.nat (crs k) 0x1B + 1) 0xFFFFFFFF := by
  rw [State.nutDark_unqueued hst hcauses hlit hcut hactive hdark, State.plcAt_darkBow, State.plcAt_plcPut_self]
  refine ⟨rfl, rfl, ?_⟩
  have h (u : State) (r : LedgerRec) : DictIn [.column 0x7020 2, .column 0x7020 5] u.dict (u.darkBow k r).dict :=
    (State.writes_darkBow (List.Subset.refl _) u k r).mpr (DictIn.refl _ _)
  rw [(h _ _).nat (by decide) (by simp)]
  exact State.nat_bump ..

theorem nutReached_dark {k : CourseId} {b : PlacedBow} (hst : s.cst k.val = 4) (hcauses : s.causes k.val = 0)
    (hmove : (s.atNut k.val).nutMove k.val = (s.atNut k.val, false)) (hmode : s.nat 0x4200 2 = 2)
    (hnew : (s.plcAt k.val).nutPassed = false) (hcur : (s.plcAt k.val).cur = some b) (hactive : b.active.isSome = true)
    (hdark : b.dark = none) (hlit : (s.plcAt k.val).lit = true) (hcut : (s.plcAt k.val).cut = none) :
    Completes (.nutReached k false) s (fun t =>
      (t.plcAt k.val).cut = some ((b.c - b.hp / 2).floor.toNat, 0x10) ∧ (t.plcAt k.val).opened = (s.plcAt k.val).opened ∧
      t.nat (crs k.val) 0x1B = min (s.nat (crs k.val) 0x1B + 1) 0xFFFFFFFF ∧ t.cst k.val = 4) := by
  have hdict : ((s.atNut k.val).emitAtNut k.val).dict = s.dict := State.writes_emitAtNut ..
  have hplc : ((s.atNut k.val).emitAtNut k.val).plcAt k.val = { s.plcAt k.val with nutPassed := true } := by
    have h : (s.atNut k.val).Within [.capo] ((s.atNut k.val).emitAtNut k.val) := by simp
    rw [State.plcAt_eq (h .plc (by simp)), State.atNut, State.plcAt_plcPut_self]
  refine ⟨_, exec_nutReached (by omega) hnew, ?_⟩
  rw [hmove, hcur]
  generalize (s.atNut k.val).emitAtNut k.val = u at *
  have hbow : u.nutBow k.val false false (some b) = u.nutDark k.val b false := if_neg (by simp)
  have hkept : DictIn [.column 0x2200 0x1B, .column 0x7020 2, .column 0x7020 5] s.dict (u.nutDark k.val b false).dict := by
    rw [State.writes_nutDark (List.Subset.refl _), hdict]
    exact DictIn.refl _ _
  have hstill : (u.nutDark k.val b false).darkIfDone = u.nutDark k.val b false :=
    State.darkIfDone_stays (by rw [hkept.nat (by decide) (by simp), hmode])
  obtain ⟨hc, ho, hn⟩ := State.nutDark_shows (s := u) (k := k.val) (b := b) ((State.nat_of_dict hdict ..).trans hst)
    ((State.nat_of_dict hdict ..).trans hcauses) (by rw [hplc]; exact hlit) (by rw [hplc]; exact hcut) hactive hdark
  rw [hbow, hstill, hc, ho, hn, hplc, State.nat_of_dict hdict]
  exact ⟨rfl, rfl, rfl, (State.cst_of_dictIn hkept (by simp)).trans hst⟩

/-- A LIT course asked to stop stops at its nut. -/
theorem nutReached_stops {k : CourseId} {queued : Bool} (hst : s.cst k.val = 4) (hreq : s.creq k.val = 0)
    (hnew : (s.plcAt k.val).nutPassed = false) (hcur : (s.plcAt k.val).cur = none) :
    Completes (.nutReached k queued) s (fun t => t.cst k.val = 0) := by
  refine ⟨_, exec_nutReached (by omega) hnew, ?_⟩
  rw [hcur]
  change State.cst (State.darkIfDone (State.emitAtNut _ _)) _ = 0
  rw [State.cst_darkIfDone k.isLt, State.cst_emitAtNut, State.nutMove_stops (s := s.atNut k.val) hst hreq, State.cst_toStopped k.isLt]

/-! ### The commit fence -/

section
variable {k : CourseId}

theorem exec_commitFence_stays (h : (s.frmAt k.val).fenced = true ∨ s.atFence k.val = false) :
    exec (.commitFence k) s = .next s :=
  congrArg Host.Outcome.next (if_neg (by rcases h with h | h <;> simp [h]))

theorem commitFence_passes (hlow : 2 ≤ s.cst k.val) (hhigh : s.cst k.val ≤ 5) (hrun : (s.frmAt k.val).running = true)
    (href : s.clk.refclk = true) (hopen : (s.frmAt k.val).fenced = false) (hat : s.atFence k.val = true) :
    Completes (.commitFence k) s (fun t => (t.frmAt k.val).fenced = true ∧ (t.frmAt k.val).fenceTai = some s.clk.tai ∧
      (t.fetAt k.val).decided = true ∧ (t.fetAt k.val).scheduledNext = 0) := by
  refine ⟨_, congrArg Host.Outcome.next (if_pos ⟨hlow, hhigh, hrun, hopen, hat, href⟩), ?_⟩
  have hfrm (u : State) : (u.decideFrame k.val).frm = u.frm :=
    (State.within_decideFrame (List.Subset.refl _) u k.val).mpr (State.within_refl _ _) .frm (by simp)
  have hfet (u : State) : ((u.decideFrame k.val).fetAt k.val).decided = true ∧
      ((u.decideFrame k.val).fetAt k.val).scheduledNext = 0 := by
    have h (v : State) (f : FetchSt) : (v.fetPut k.val f).fetAt k.val = f := tgetD_tput_self ..
    unfold State.decideFrame
    dsimp only
    rw [h]
    exact ⟨rfl, rfl⟩
  dsimp only
  rw [State.frmAt_eq (hfrm _), State.frmAt_frmPut_self]
  exact ⟨rfl, rfl, hfet _⟩

end

end Sys2Proof.Machine

namespace Sys2Proof.Proofs

open Sys2Proof.Machine

/-- Settles O28: each move is the branch its hypotheses take, and what is written after it leaves the state entry. -/
theorem coursesMoveAtBowsAndFences : Obligations.CoursesMoveAtBowsAndFences := by
  unfold Obligations.CoursesMoveAtBowsAndFences
  refine ⟨fun k queued s hnone href => ⟨fun hst hreq => ?_, fun hst hu hcauses hlocked _ => ?_, fun hst => ?_, nutReached_stops,
    exec_nutReached_stays⟩, fun k b s hst hreq hcauses hdst hmode href hgood hnew hcur hactive hdark => ?_,
    fun k s hlow hhigh hrun href => ⟨fun hopen hfew => ⟨fun hat => ?_, fun hnot => ?_⟩, fun hfenced => ?_⟩⟩
  · refine ⟨_, exec_bowTurnaround (by omega) href hnone, ?_⟩
    have hkept := State.writes_turnReady s k.val
    exact State.turnaroundMove_armed k.isLt ((State.cst_of_dictIn hkept (by simp)).trans hst)
      ((hkept.nat (by decide) (by simp)).trans hreq)
  · exact ⟨_, exec_bowTurnaround (by omega) href hnone, State.turnaroundMove_spinning k.isLt hu hcauses hlocked⟩
  · exact congrArg Host.Outcome.next (if_pos (.inl hst))
  · have hmove : (s.atNut k.val).nutMove k.val = (s.atNut k.val, false) := State.nutMove_stays hst hreq hcauses hmode hgood
    exact ⟨nutReached_opens hst hmove hmode href hnew hcur hactive hdark,
      fun hlit hcut => nutReached_dark hst hcauses hmove hmode hnew hcur hactive hdark hlit hcut⟩
  · exact commitFence_passes hlow hhigh hrun href hopen (by simp [State.atFence, hfew, hat])
  · exact exec_commitFence_stays (.inr (by simp [State.atFence, hnot]))
  · exact exec_commitFence_stays (.inl hfenced)

end Sys2Proof.Proofs

/-! PROOF. A bow record while the accumulator holds an uncorrectable error (R290, Table 13.9). -/

namespace Sys2Proof.Machine

open Sys2Proof

/-- A capture frame of one row of one cell, which one frame has contributed to. -/
def begunFrame : CapFrame :=
  { form := 1, input := 0, wanted := 1, firstFrame := 0, lastFrame := 0, startTai := 0, frames := 1, incomplete := false
    ended := false, rowCount := 1, rowLength := 18, forwardFrets := 1, reverseFrets := 1
    rows := [(0, { frames := 1, bow := 0, reverse := false, harmonic := false, records := 1, offset := 0, darkSum := 0
                   darkN := 0, lost := false, cells := [(0, 1, false)] })] }

/-- The contribution of a second frame to its row, drained and not merged yet. -/
def drainedRow : StagedRow :=
  { course := 0, base := 0, row := 0
    part := { bow := 1, reverse := false, harmonic := false, records := [], offset := 0, dark := none, counter := 1, lost := false } }

/-- The bow that ended last. -/
def endedBow : PlacedBow := plainBow 1 true (some 0) none 0 0 0 0 {}

/-- Course 0 in TRACKING captures input 0. -/
def capturing : State :=
  ((((State.reset.putN (crs 0) 1 2).putN (capIx 0) 1 0).captPut 0
    { bufs := [{ state := 1, base := 0, size := 0, holders := [], frame := some begunFrame }], row := some (0, 0, 1) }).inputsPut 0
      { arrived := [drainedRow] }).plcPut 0 { last := some endedBow }

/-- The same with an uncorrectable error in the accumulator cell of the row. -/
def capturingPoisoned : State :=
  { capturing with mem := { capturing.mem with poison := [capturing.accUnit 0 begunFrame 0 0] } }

/-- The units with an uncorrectable error where a command leaves them. -/
def poisonAfter : Host.Outcome State Fault Refusal → List Nat
  | .next s => s.mem.poison
  | _ => []

/-- Recording the bow merges the row, which writes the cell afresh: its error is gone. -/
theorem capturingPoisoned_heals : poisonAfter (exec (.harmonicRecord 0 0 []) capturingPoisoned) = [] := by
  decide +kernel

end Sys2Proof.Machine

namespace Sys2Proof.Proofs

open Sys2Proof Sys2Proof.Machine

/-- Refutes O36: recording a bow merges the rows that have been drained into the accumulator, and that clears the error of a
cell it writes, so memory is not what it was. -/
theorem not_captureFollowsItsInputsAndBuffers : ¬ Obligations.CaptureFollowsItsInputsAndBuffers := by
  unfold Obligations.CaptureFollowsItsInputsAndBuffers
  intro h
  have hcourse := (h.1 0 0 0 0 [] endedBow { bow := endedBow, samples := [], voids := [] } 0
    { lane := 0, string := 0, bridgeBand := false, level := 0, probeFrets := [], gainFrets := [], tuning := false,
      lastSlot := 0, void := 0 } (fiducialOf [] 0) capturingPoisoned).2.1 (by decide +kernel) (by decide +kernel)
  obtain ⟨t, hexec, -, hmem, -⟩ := hcourse.2.2 (by decide +kernel) rfl (by decide +kernel)
  have hpoison : t.mem.poison = [] := by
    have hheals := capturingPoisoned_heals
    rw [hexec] at hheals
    exact hheals
  rw [hmem] at hpoison
  exact absurd hpoison (by decide +kernel)

end Sys2Proof.Proofs

/-! PROOF. What the operations of streams, canvases, fetch and start may change. -/

namespace Sys2Proof.Machine
section
variable {s₀ : State} {L : List Part}
@[simp] theorem State.within_ringPut (h : [.queues] ⊆ L) (s : State) (q : Nat) (x : RingSt) :
    s₀.Within L (s.ringPut q x) ↔ s₀.Within L s :=
  State.within_of_taking rfl h

@[simp] theorem State.within_raiseVector (h : [.queues, .out] ⊆ L) (s : State) (q : Nat) :
    s₀.Within L (s.raiseVector q) ↔ s₀.Within L s := by
  simp_all [State.raiseVector]

@[simp] theorem State.within_showCapUse (h : [.dict] ⊆ L) (s : State) :
    s₀.Within L s.showCapUse ↔ s₀.Within L s := by
  simp_all [State.showCapUse]

@[simp] theorem State.within_cstreamsPut (h : [.cstreams] ⊆ L) (s : State) (k : Nat) (x : CStreamSt) :
    s₀.Within L (s.cstreamsPut k x) ↔ s₀.Within L s :=
  State.within_of_taking rfl h

@[simp] theorem State.within_capRelease (h : [.dict, .capt, .cstreams] ⊆ L) (s : State) (k b c : Nat) :
    s₀.Within L (s.capRelease k b c) ↔ s₀.Within L s := by
  unfold State.capRelease
  dsimp only
  split <;> simp_all

@[simp] theorem State.within_queuePush (h : [.queues] ⊆ L) (s : State) (q : Nat) :
    s₀.Within L (s.queuePush q) ↔ s₀.Within L s := by
  simp_all [State.queuePush]

@[simp] theorem State.within_poisonTile (h : [.dict, .fet] ⊆ L) (s : State) (k tile : Nat) :
    s₀.Within L (s.poisonTile k tile) ↔ s₀.Within L s := by
  simp_all [State.poisonTile]

@[simp] theorem State.within_retireBank (h : [.fet] ⊆ L) (s : State) (k bank : Nat) :
    s₀.Within L (s.retireBank k bank) ↔ s₀.Within L s := by
  simp_all [State.retireBank]

@[simp] theorem State.within_putCommitted (h : [.dict, .store] ⊆ L) (s : State) (index sub : Nat) (v : Val) :
    s₀.Within L (s.putCommitted index sub v) ↔ s₀.Within L s := by
  simp_all [State.putCommitted]

@[simp] theorem State.within_sendPacket (h : [.dict, .out] ⊆ L) (s : State) (i unit total : Nat) (poisoned : Bool)
    (p : Nat × List Byte) :
    s₀.Within L (s.sendPacket i unit total poisoned p) ↔ s₀.Within L s := by
  simp_all [State.sendPacket]

@[simp] theorem State.within_ringPush (h : [.queues, .out] ⊆ L) (s : State) (q : Nat) (b : List Byte) :
    s₀.Within L (s.ringPush q b) ↔ s₀.Within L s := by
  simp_all [State.ringPush]

@[simp] theorem State.within_ringTake (h : [.queues] ⊆ L) (s : State) (q : Nat) :
    s₀.Within L (s.ringTake q) ↔ s₀.Within L s := by
  simp_all [State.ringTake]

@[simp] theorem State.within_streamDone (h : [.queues, .out] ⊆ L) (s : State) (i tag status written unit : Nat) :
    s₀.Within L (s.streamDone i tag status written unit) ↔ s₀.Within L s := by
  simp_all [State.streamDone]

@[simp] theorem State.within_hstreamsPut (h : [.hstreams] ⊆ L) (s : State) (k : Nat) (x : HStreamSt) :
    s₀.Within L (s.hstreamsPut k x) ↔ s₀.Within L s :=
  State.within_of_taking rfl h

@[simp] theorem State.within_releaseReady (h : [.dict, .canvases] ⊆ L) (s : State) (c mask : Nat) :
    s₀.Within L (s.releaseReady c mask) ↔ s₀.Within L s := by
  simp_all [State.releaseReady]

@[simp] theorem State.within_hsDone (h : [.dict, .queues, .out] ⊆ L) (s : State) (h : Nat) (d : List Byte)
    (status : Nat) (buffer : Option Nat) :
    s₀.Within L (s.hsDone h d status buffer) ↔ s₀.Within L s := by
  simp_all [State.hsDone]

@[simp] theorem State.within_rectInto (h : [.dict, .store, .mem, .chans, .queues, .svc, .out, .free, .cells] ⊆ L)
    (s : State) (h c b : Nat) (d src : List Byte) (pcieError : Bool) :
    s₀.Within L (s.rectInto h c b d src pcieError) ↔ s₀.Within L s := by
  simp_all [State.rectInto]

@[simp] theorem State.within_rectClaims (h : [.dict, .store, .canvases, .hstreams, .mem, .chans, .queues, .svc, .out,
    .free, .cells] ⊆ L) (s : State) (h c : Nat) (d src : List Byte) (err : Bool) :
    s₀.Within L (s.rectClaims h c d src err) ↔ s₀.Within L s := by
  unfold State.rectClaims
  (repeat' split) <;> simp_all

@[simp] theorem State.within_boot (h : [.dict, .store, .svc] ⊆ L) (s : State) :
    s₀.Within L s.boot ↔ s₀.Within L s := by
  unfold State.boot
  split <;> simp_all

@[simp] theorem State.within_flowsAfterStandby (h : [.canvases, .flows] ⊆ L) (s : State) :
    s₀.Within L s.flowsAfterStandby ↔ s₀.Within L s := by
  simp_all [State.flowsAfterStandby]

@[simp] theorem State.within_gainPersist (h : [.store] ⊆ L) (s : State) :
    s₀.Within L s.gainPersist ↔ s₀.Within L s := by
  simp_all [State.gainPersist]

@[simp] theorem State.within_refineDrop (h : [.dict, .capt, .cstreams] ⊆ L) (s : State) (k : Nat) :
    s₀.Within L (s.refineDrop k) ↔ s₀.Within L s := by
  simp_all [State.refineDrop]

end

end Sys2Proof.Machine

/-! PROOF. Capture streams send their batches (R297 to R299). -/

namespace Sys2Proof.Machine

variable {s : State}

theorem State.cstreamsAt_put_self (s : State) (i : Nat) (x : CStreamSt) : (s.cstreamsPut i x).cstreamsAt i = x :=
  tgetD_tput_self ..

theorem State.cstreamsAt_eq {t : State} (h : t.cstreams = s.cstreams) (i : Nat) : t.cstreamsAt i = s.cstreamsAt i :=
  congrArg (fun l => tgetD l ({} : CStreamSt) i) h

/-- The stream takes up to 64 records of its batch. -/
def State.batchTaken (s : State) (i : Nat) : State :=
  (List.range (min 64 (s.cstreamsAt i).batch.length)).foldl (fun s _ => s.queueCommit (useStream i))
    (s.cstreamsPut i { s.cstreamsAt i with batch := (s.cstreamsAt i).batch.drop 64 })

theorem State.batchTaken_takes (s : State) (i : Nat) :
    (s.batchTaken i).cstreamsAt i = { s.cstreamsAt i with batch := (s.cstreamsAt i).batch.drop 64 } ∧
    s.Within [.cstreams, .queues] (s.batchTaken i) := by
  have hcommit (l : List Nat) (u : State) : u.Within [.queues] (l.foldl (fun s _ => s.queueCommit (useStream i)) u) :=
    (State.within_foldl _ fun u _ => by simp).mpr (State.within_refl _ _)
  refine ⟨?_, ?_⟩
  · exact (State.cstreamsAt_eq (hcommit _ _ .cstreams (by simp)) i).trans (State.cstreamsAt_put_self ..)
  · refine State.Within.trans ?_ ((hcommit _ _).mono (by simp))
    simp

theorem State.streamFlush_stays {i : Nat} (h : s.nat (strIx i) 1 = 0 ∨ s.clk.up < (s.cstreamsAt i).busyTo) :
    s.streamFlush i = s := by
  unfold State.streamFlush
  exact if_pos (h.elim .inl fun hbusy => .inr (.inr hbusy))

theorem State.streamFlush_batch {i : Nat} (hon : s.nat (strIx i) 1 ≠ 0) (hfree : (s.cstreamsAt i).busyTo ≤ s.clk.up)
    (hroom : s.streamRoom i = true) (hcontent : s.nat (strIx i) 2 ≠ 0) (hbatch : (s.cstreamsAt i).batch.isEmpty = false) :
    s.streamFlush i = if s.noDesc i then (s.batchTaken i).bump (strIx i) 0x0A
      else (s.batchTaken i).sendUnit i ((s.cstreamsAt i).batch.take 64).flatten false := by
  unfold State.streamFlush
  dsimp only
  rw [if_neg (by simp [hon, hroom, not_lt.mpr hfree]), if_neg hcontent, if_neg (by simp [hbatch])]
  rfl

theorem State.streamFlush_no_batch {i : Nat} (hcontent : s.nat (strIx i) 2 ≠ 0) (hbatch : (s.cstreamsAt i).batch = []) :
    s.streamFlush i = s := by
  unfold State.streamFlush
  dsimp only
  simp only [hcontent, hbatch, if_false, List.isEmpty_nil, if_true, ite_self]

/-- Both commands that send have the stream flush what it has. -/
theorem exec_stream_send {i : StreamId} {c : Instr} (hcontent : s.nat (strIx i.val) 2 ≠ 0)
    (hc : c ∈ [Instr.streamBatchTimer i, .streamUnitSend i]) : exec c s = .next (s.streamFlush i.val) := by
  simp only [List.mem_cons, List.not_mem_nil, or_false] at hc
  obtain rfl | rfl := hc
  · exact congrArg Host.Outcome.next (if_neg hcontent)
  · rfl

theorem State.out_streamDone {o : Out} (h : o ∈ s.out) (i tag status written unit : Nat) :
    o ∈ (s.streamDone i tag status written unit).out := by
  unfold State.streamDone State.ringPush State.send
  dsimp only
  split
  · exact h
  · exact List.mem_append_left _ h

theorem State.mem_of_within {t : State} {L : List Part} (h : s.Within L t) (hmem : .mem ∉ L) (hcells : .cells ∉ L) :
    t.mem = s.mem :=
  MemSt.eq_of_cells (h .cells hcells) (h .mem hmem)

theorem State.val_of_dict {t : State} (h : t.dict = s.dict) (i b : Nat) : t.val i b = s.val i b :=
  congrArg (fun d => tgetD d (dfltOf i b) (dkey i b)) h

/-- A unit goes into the buffer that waits longest. -/
theorem State.sendUnit_buffer {i addr len tag : Nat} {r : List (Nat × Nat × Nat)} {b : List Byte} (hring : s.nat (strIx i) 1 = 3)
    (hdescs : (s.cstreamsAt i).descs = (addr, len, tag) :: r) (poisoned : Bool) :
    ((s.sendUnit i b poisoned).cstreamsAt i).batch = (s.cstreamsAt i).batch ∧
    ((s.sendUnit i b poisoned).cstreamsAt i).descs = r ∧
    ((s.sendUnit i b poisoned).cstreamsAt i).unit = ((s.cstreamsAt i).unit + 1) % 2 ^ 32 ∧
    .hostWrite addr (b.take len) ∈ (s.sendUnit i b poisoned).out := by
  have hdone (u : State) (tag status written unit : Nat) : (u.streamDone i tag status written unit).cstreamsAt i = u.cstreamsAt i :=
    State.cstreamsAt_eq ((State.within_streamDone (List.Subset.refl _) u i tag status written unit).mpr
      (State.within_refl _ _) .cstreams (by simp)) i
  have hput (u : State) (y : CStreamSt) (o : Out) : ((u.cstreamsPut i y).send o).cstreamsAt i = y := State.cstreamsAt_put_self ..
  unfold State.sendUnit
  dsimp only
  rw [if_pos hring, hdescs]
  dsimp only
  rw [hdone, hput]
  exact ⟨rfl, rfl, rfl, State.out_streamDone (List.mem_append_right _ (List.mem_singleton.mpr rfl)) ..⟩

/-- A unit goes out as packets. -/
theorem State.sendUnit_packets {i : Nat} {b : List Byte} (hpackets : s.nat (strIx i) 1 ≠ 3) (poisoned : Bool) :
    ((s.sendUnit i b poisoned).cstreamsAt i).batch = (s.cstreamsAt i).batch ∧
    ((s.sendUnit i b poisoned).cstreamsAt i).unit = ((s.cstreamsAt i).unit + 1) % 2 ^ 32 ∧
    (s.sendUnit i b poisoned).nat (strIx i) 9 = min (s.nat (strIx i) 9 + 1) 0xFFFFFFFF ∧
    (s.sendUnit i b poisoned).mem = s.mem := by
  have hpacks (l : List (Nat × List Byte)) (unit total : Nat) (u : State) :
      u.Within [.dict, .out] (l.foldl (fun s p => s.sendPacket i unit total poisoned p) u) :=
    (State.within_foldl _ fun u p => by simp).mpr (State.within_refl _ _)
  have hwrites (l : List (Nat × List Byte)) (unit total : Nat) (u : State) :
      DictIn [.entry (strIx i) 0x0D, .entry (strIx i) 0x0B] u.dict
        (l.foldl (fun s p => s.sendPacket i unit total poisoned p) u).dict :=
    (dictIn_foldl _ fun u p => by simp [State.sendPacket, State.putN, State.add64, State.send]).mpr (DictIn.refl _ _)
  have hput (u : State) (y : CStreamSt) (n : Nat) : ((u.cstreamsPut i y).bump (strIx i) n).cstreamsAt i = y :=
    State.cstreamsAt_put_self ..
  unfold State.sendUnit
  dsimp only
  rw [if_neg hpackets, State.cstreamsAt_eq (hpacks _ _ _ _ .cstreams (by simp)), hput,
    (hwrites _ _ _ _).nat (by decide) (by simp), State.nat_bump]
  refine ⟨rfl, rfl, rfl, ?_⟩
  exact (State.mem_of_within (hpacks _ _ _ _) (by simp) (by simp)).trans rfl

section
variable {i : StreamId} {c : Instr}

/-- What makes a stream flush its batch. -/
structure State.Flushes (s : State) (i : Nat) : Prop where
  on : s.nat (strIx i) 1 ≠ 0
  free : (s.cstreamsAt i).busyTo ≤ s.clk.up
  room : s.streamRoom i = true
  content : s.nat (strIx i) 2 ≠ 0
  batch : (s.cstreamsAt i).batch.isEmpty = false

theorem State.Flushes.exec (h : s.Flushes i.val) (hc : c ∈ [Instr.streamBatchTimer i, .streamUnitSend i]) :
    exec c s = .next (if s.noDesc i.val then (s.batchTaken i.val).bump (strIx i.val) 0x0A
      else (s.batchTaken i.val).sendUnit i.val ((s.cstreamsAt i.val).batch.take 64).flatten false) :=
  (exec_stream_send h.content hc).trans
    (congrArg _ (State.streamFlush_batch h.on h.free h.room h.content h.batch))

theorem State.batchTaken_nat (s : State) (i b c : Nat) : (s.batchTaken i).nat b c = s.nat b c :=
  State.nat_of_dict ((s.batchTaken_takes i).2 .dict (by simp)) b c

/-- A ring stream without a buffer discards the batch, and counts it. -/
theorem stream_discards (h : s.Flushes i.val) (hc : c ∈ [Instr.streamBatchTimer i, .streamUnitSend i])
    (hring : s.nat (strIx i.val) 1 = 3) (hnone : (s.cstreamsAt i.val).descs = []) : Completes c s (fun t =>
      t.cstreamsAt i.val = { s.cstreamsAt i.val with batch := (s.cstreamsAt i.val).batch.drop 64 } ∧
      t.nat (strIx i.val) 0x0A = min (s.nat (strIx i.val) 0x0A + 1) 0xFFFFFFFF ∧
      s.EntriesBut t [(strIx i.val, 0x0A)] ∧ t.out = s.out ∧ t.mem = s.mem) := by
  obtain ⟨hstream, hwithin⟩ := s.batchTaken_takes i.val
  refine ⟨_, (h.exec hc).trans (congrArg _ (if_pos (by simp [State.noDesc, hring, hnone]))), ?_, ?_, ?_, ?_, ?_⟩
  · exact hstream
  · rw [State.nat_bump, State.batchTaken_nat]
  · intro j b hother
    exact (State.val_put_ne _ _ _ _ _ _ (hother (strIx i.val, 0x0A) (by simp))).trans
      (State.val_of_dict (hwithin .dict (by simp)) j b)
  · exact hwithin .out (by simp)
  · have hmem := State.mem_of_within hwithin (by simp) (by simp)
    exact hmem

/-- A ring stream sends the batch into the buffer that waits longest. -/
theorem stream_fills {addr len tag : Nat} {r : List (Nat × Nat × Nat)} (h : s.Flushes i.val)
    (hc : c ∈ [Instr.streamBatchTimer i, .streamUnitSend i]) (hring : s.nat (strIx i.val) 1 = 3)
    (hdescs : (s.cstreamsAt i.val).descs = (addr, len, tag) :: r) : Completes c s (fun t =>
      (t.cstreamsAt i.val).batch = (s.cstreamsAt i.val).batch.drop 64 ∧ (t.cstreamsAt i.val).descs = r ∧
      .hostWrite addr (((s.cstreamsAt i.val).batch.take 64).flatten.take len) ∈ t.out ∧
      (t.cstreamsAt i.val).unit = ((s.cstreamsAt i.val).unit + 1) % 2 ^ 32) := by
  have hstream := (s.batchTaken_takes i.val).1
  obtain ⟨hbatch, hrest, hunit, hout⟩ := State.sendUnit_buffer (s := s.batchTaken i.val)
    (b := ((s.cstreamsAt i.val).batch.take 64).flatten) (by rw [State.batchTaken_nat]; exact hring) (by rw [hstream]; exact hdescs) false
  refine ⟨_, (h.exec hc).trans (congrArg _ (if_neg (by simp [State.noDesc, hring, hdescs]))), ?_, hrest, hout, ?_⟩
  · rw [hbatch, hstream]
  · rw [hunit, hstream]

/-- Another stream sends the batch as packets, a unit that 2880:09 counts. -/
theorem stream_sends (h : s.Flushes i.val) (hc : c ∈ [Instr.streamBatchTimer i, .streamUnitSend i])
    (hpackets : s.nat (strIx i.val) 1 ≠ 3) : Completes c s (fun t =>
      (t.cstreamsAt i.val).batch = (s.cstreamsAt i.val).batch.drop 64 ∧
      (t.cstreamsAt i.val).unit = ((s.cstreamsAt i.val).unit + 1) % 2 ^ 32 ∧
      t.nat (strIx i.val) 9 = min (s.nat (strIx i.val) 9 + 1) 0xFFFFFFFF ∧ t.mem = s.mem) := by
  obtain ⟨hstream, hwithin⟩ := s.batchTaken_takes i.val
  obtain ⟨hbatch, hunit, hcount, hmem⟩ := State.sendUnit_packets (s := s.batchTaken i.val)
    (b := ((s.cstreamsAt i.val).batch.take 64).flatten) (by rw [State.batchTaken_nat]; exact hpackets) false
  refine ⟨_, (h.exec hc).trans (congrArg _ (if_neg (by simp [State.noDesc, hpackets]))), ?_, ?_, ?_, ?_⟩
  · rw [hbatch, hstream]
  · rw [hunit, hstream]
  · rw [hcount, State.batchTaken_nat]
  · exact hmem.trans (State.mem_of_within hwithin (by simp) (by simp))

theorem exec_streamBufferDescriptor {desc : List Byte} (hring : s.nat (strIx i.val) 1 = 3)
    (hentry : s.ringHasEntry (s.nat (strIx i.val) 7) = true)
    (hfew : (s.cstreamsAt i.val).descs.length < (s.ringAt (s.nat (strIx i.val) 7)).outstanding)
    (hroom : s.streamRoom i.val = true) : exec (.streamBufferDescriptor i desc) s = .next (
      if streamDescOk desc then
        (s.cstreamsPut i.val { s.cstreamsAt i.val with
          descs := (s.cstreamsAt i.val).descs ++ [(leAt desc 16 8, leAt desc 4 4, leAt desc 24 4)] }).streamFlush i.val
      else s.streamDone i.val (leAt desc 24 4) stRange 0 (s.cstreamsAt i.val).unit) :=
  congrArg Host.Outcome.next (if_pos ⟨hring, hentry, hfew, hroom⟩)

theorem exec_stream_held (h : s.nat (strIx i.val) 1 = 0 ∨ s.clk.up < (s.cstreamsAt i.val).busyTo) :
    exec (.streamUnitSend i) s = .next s ∧ exec (.streamBatchTimer i) s = .next s := by
  have hstays := State.streamFlush_stays h
  refine ⟨congrArg Host.Outcome.next hstays, congrArg Host.Outcome.next ?_⟩
  rw [hstays, ite_self]

end

end Sys2Proof.Machine

namespace Sys2Proof.Proofs

open Sys2Proof.Machine

/-- Settles O37: each stream either holds back, discards its batch, fills a buffer or sends packets. -/
theorem streamsSendTheirUnits : Obligations.StreamsSendTheirUnits := by
  unfold Obligations.StreamsSendTheirUnits
  intro i desc s
  refine ⟨exec_stream_held, fun hon hfree hroom hcontent hbatch c hc => ?_, fun hring hentry hfew hroom => ⟨fun hbad => ?_,
    fun hgood hcontent hbatch => ?_⟩⟩
  · have h : s.Flushes i.val := ⟨hon, hfree, hroom, hcontent, hbatch⟩
    exact ⟨stream_discards h hc, fun addr len tag r => stream_fills h hc, stream_sends h hc⟩
  · rw [exec_streamBufferDescriptor hring hentry hfew hroom, if_neg (by simp [hbad])]
    rfl
  · rw [exec_streamBufferDescriptor hring hentry hfew hroom, if_pos hgood]
    refine congrArg Host.Outcome.next (State.streamFlush_no_batch hcontent ?_)
    rw [State.cstreamsAt_put_self]
    exact hbatch

end Sys2Proof.Proofs

/-! PROOF. Faults of slices and stores, and colour matrices (R227, R229, R230, R246). -/

namespace Sys2Proof.Machine

variable {s : State}

theorem testBit_withBit_true (v i : Nat) : bit (withBit v i true) i = true := by
  simp [bit, withBit]

theorem State.flag_setFlag_true (s : State) (i b n : Nat) : (s.setFlag i b n true).flag i b n = true := by
  rw [State.flag, State.setFlag, State.nat_putN]
  exact testBit_withBit_true _ _

theorem State.entriesBut_bump (s : State) (i b : Nat) : s.EntriesBut (s.bump i b) [(i, b)] :=
  (s.onlyEntries_putN i b _).2

/-- A hush cause that is set shows. -/
theorem State.flag_causeBit (s : State) (k b : Nat) : (s.causeBit k b).flag (crs k) 3 b = true := by
  have hset : (s.accrue.setFlag (crs k) 3 b true).flag (crs k) 3 b = true := State.flag_setFlag_true ..
  unfold State.causeBit
  split
  next hflag => exact hflag
  next =>
    dsimp only
    split
    · rw [State.flag, State.nat_putN_ne _ _ _ _ _ _ (by unfold dkey; omega)]
      exact hset
    · exact hset

theorem State.flag_setCause (s : State) (k b : Nat) : (s.setCause k b).flag (crs k) 3 b = true := by
  have hhush := (State.writes_hushIfSpinning (List.Subset.refl _) (s.causeBit k b) k).mpr (DictIn.refl _ _)
  have hkept : ((s.causeBit k b).hushIfSpinning k).flag (crs k) 3 b = (s.causeBit k b).flag (crs k) 3 b :=
    hhush.flag b (by decide) (by simp)
  rw [State.setCause, hkept, State.flag_causeBit]

theorem State.dict_retireBank (s : State) (k bank : Nat) : (s.retireBank k bank).dict = s.dict :=
  State.dict_of_within (P := [.fet]) (by simp) (by simp)

theorem State.fetAt_put_self (s : State) (k : Nat) (f : FetchSt) : (s.fetPut k f).fetAt k = f := tgetD_tput_self ..

theorem State.fetAt_eq {t : State} (h : t.fet = s.fet) (k : Nat) : t.fetAt k = s.fetAt k :=
  congrArg (fun l => tgetD l ({} : FetchSt) k) h

theorem State.mem_retire_of_retireBank (hnew : s.svc.retired.contains bank = false) :
    bank ∈ ((s.retireBank k bank).fetAt k).retire := by
  unfold State.retireBank
  dsimp only
  split
  next h => exact List.contains_iff_mem.mp (h.resolve_right (by rw [hnew]; exact Bool.false_ne_true))
  next => simp [State.fetAt_put_self]

theorem State.fetAt_retireBank (s : State) (k bank : Nat) :
    ((s.retireBank k bank).fetAt k).resident = (s.fetAt k).resident := by
  unfold State.retireBank
  dsimp only
  split
  · rfl
  · rw [State.fetAt_put_self]

theorem State.fetAt_poisonTile (s : State) (k tile : Nat) : (s.poisonTile k tile).fetAt k =
    { s.fetAt k with poisoned := (s.fetAt k).poisoned.filter (· != tile) ++ [tile] } :=
  State.fetAt_put_self ..

/-! ### Render slices -/

section
variable {k : CourseId} {slice : Fin 36} {x : Nat}

theorem exec_renderSliceFault_again (hfailed : s.sliceFailed slice.val = true) : exec (.renderSliceFault slice) s = .next s :=
  congrArg Host.Outcome.next (if_pos hfailed)

theorem exec_renderSliceFault_free (hgood : s.sliceFailed slice.val = false) (hnone : s.sliceCourse slice.val = none) :
    exec (.renderSliceFault slice) s = .next (s.setFlag 0x26F0 9 slice.val true) := by
  refine congrArg Host.Outcome.next ((if_neg (by simp [hgood])).trans ?_)
  simp only [hnone]

/-- A spare takes the place of the slice that failed. -/
theorem renderSliceFault_replaced (hgood : s.sliceFailed slice.val = false) (hcourse : s.sliceCourse slice.val = some k.val)
    (hspare : (s.setFlag 0x26F0 9 slice.val true).spareSlice = some x) : Completes (.renderSliceFault slice) s (fun t =>
      t.nat (0x2680 + k.val) 0x16 = x ∧ t.nat (0x2680 + k.val) 0x17 = min (s.nat (0x2680 + k.val) 0x17 + 1) 0xFFFFFFFF ∧
      t.nat 0x7000 7 = min (s.nat 0x7000 7 + 1) 0xFFFFFFFF) := by
  let u := s.setFlag 0x26F0 9 slice.val true
  have hexec : exec (.renderSliceFault slice) s = .next ((((u.putN (0x2680 + k.val) 0x16 x).bump (0x2680 + k.val) 0x17).switchIn 2
      slice.val x).recover 1 0 (4 * tUs) k.val) := by
    refine congrArg Host.Outcome.next ((if_neg (by simp [hgood])).trans ?_)
    simp only [hcourse, hspare]
    rfl
  have hrecover (v : State) : DictIn [.entry 0x7000 0x17, .entry 0x7000 0x18, .entry 0x7000 0x19] v.dict
      (v.recover 1 0 (4 * tUs) k.val).dict := (State.writes_recover (List.Subset.refl _) ..).mpr (DictIn.refl _ _)
  have hswitch (v : State) : DictIn [.entry 0x7000 7, .entry 0x7000 9] v.dict (v.switchIn 2 slice.val x).dict :=
    (State.writes_switchIn (List.Subset.refl _) ..).mpr (DictIn.refl _ _)
  have hcounts (v : State) : (v.switchIn 2 slice.val x).nat 0x7000 7 = min (v.nat 0x7000 7 + 1) 0xFFFFFFFF := by
    rw [State.switchIn, State.nat_putN_ne _ _ _ _ _ _ (by decide), State.nat_bump]
  have hu (i b : Nat) (h : dkey 0x26F0 9 ≠ dkey i b) : u.nat i b = s.nat i b := State.nat_putN_ne _ _ _ _ _ _ h
  have hk := k.isLt
  refine ⟨_, hexec, ?_, ?_, ?_⟩
  · rw [(hrecover _).nat (by decide) (by simp), (hswitch _).nat (by decide) (by simp),
      State.nat_bump_ne _ (by unfold dkey; omega), State.nat_putN]
  · rw [(hrecover _).nat (by decide) (by simp; omega), (hswitch _).nat (by decide) (by simp), State.nat_bump,
      State.nat_putN_ne _ _ _ _ _ _ (by unfold dkey; omega), hu _ _ (by unfold dkey; omega)]
  · rw [(hrecover _).nat (by decide) (by simp), hcounts, State.nat_bump_ne _ (by unfold dkey; omega),
      State.nat_putN_ne _ _ _ _ _ _ (by unfold dkey; omega), hu _ _ (by decide)]

/-- With no spare left the course is hushed for its slice. -/
theorem renderSliceFault_hushes (hgood : s.sliceFailed slice.val = false) (hcourse : s.sliceCourse slice.val = some k.val)
    (hnone : (s.setFlag 0x26F0 9 slice.val true).spareSlice = none) : Completes (.renderSliceFault slice) s (fun t =>
      t.sliceFailed slice.val = true ∧ t.flag (crs k.val) 3 4 = true) := by
  let u := s.setFlag 0x26F0 9 slice.val true
  have hexec : exec (.renderSliceFault slice) s = .next ((u.setCause k.val 4).recover 2 4 (4 * tUs) k.val) := by
    refine congrArg Host.Outcome.next ((if_neg (by simp [hgood])).trans ?_)
    simp only [hcourse, hnone]
    rfl
  have hrecover (v : State) : DictIn [.entry 0x7000 0x17, .entry 0x7000 0x18, .entry 0x7000 0x19] v.dict
      (v.recover 2 4 (4 * tUs) k.val).dict := (State.writes_recover (List.Subset.refl _) ..).mpr (DictIn.refl _ _)
  have hcause := (State.writes_setCause (List.Subset.refl _) u k.val 4).mpr (DictIn.refl _ _)
  have hk := k.isLt
  refine ⟨_, hexec, ?_, ?_⟩
  · rw [State.sliceFailed, (hrecover _).flag _ (by decide) (by simp), hcause.flag _ (by decide) (by simp)]
    exact State.flag_setFlag_true ..
  · rw [(hrecover _).flag _ (by decide) (by simp [crs]), State.flag_setCause]

end

/-! ### The tile store -/

section
variable {k : CourseId} {bank : Fin 258} {tile : Nat}

/-- An uncorrectable error poisons the tile where it is resident, and has the bank retire. -/
theorem fetchStoreError_uncorrectable (s : State) (k : CourseId) (bank : Fin 258) (tile : Nat) :
    Completes (.fetchStoreError k bank tile true) s (fun t =>
      t.nat 0x26F0 5 = min (s.nat 0x26F0 5 + 1) 0xFFFFFFFF ∧
      ((s.fetAt k.val).resident.contains tile = true → tile ∈ (t.fetAt k.val).poisoned) ∧
      (s.svc.retired.contains bank.val = false → bank.val ∈ (t.fetAt k.val).retire) ∧ t.mem = s.mem) := by
  have hcount : ((s.bump 0x26F0 5).retireBank k.val bank.val).nat 0x26F0 5 = min (s.nat 0x26F0 5 + 1) 0xFFFFFFFF := by
    rw [State.nat_of_dict (State.dict_retireBank ..), State.nat_bump]
  have hwithin : s.Within [.dict, .fet] ((s.bump 0x26F0 5).retireBank k.val bank.val) := by simp
  have hresident : (((s.bump 0x26F0 5).retireBank k.val bank.val).fetAt k.val).resident = (s.fetAt k.val).resident :=
    State.fetAt_retireBank ..
  have hretire : s.svc.retired.contains bank.val = false →
      bank.val ∈ (((s.bump 0x26F0 5).retireBank k.val bank.val).fetAt k.val).retire :=
    fun hnew => State.mem_retire_of_retireBank hnew
  refine ⟨_, rfl, ?_⟩
  simp only [if_true]
  generalize (s.bump 0x26F0 5).retireBank k.val bank.val = u at *
  have hmem := State.mem_of_within hwithin (by simp) (by simp)
  rw [hresident]
  by_cases hin : (s.fetAt k.val).resident.contains tile = true
  · have hpoison : DictIn [.column 0x2680 0x14] u.dict (u.poisonTile k.val tile).dict := by
      simp [State.poisonTile, State.bump, State.addSat, State.putN, dictIn_column 0x2680, DictIn.refl]
    rw [if_pos hin, hpoison.nat (by decide) (by simp), State.fetAt_poisonTile]
    exact ⟨hcount, fun _ => List.mem_append_right _ (List.mem_singleton.mpr rfl), hretire, hmem⟩
  · rw [if_neg hin]
    exact ⟨hcount, fun h => absurd h hin, hretire, hmem⟩

/-- A corrected error is counted. -/
theorem fetchStoreError_corrected (s : State) (k : CourseId) (bank : Fin 258) (tile : Nat) :
    Completes (.fetchStoreError k bank tile false) s (fun t =>
      t.nat 0x26F0 4 = min (s.nat 0x26F0 4 + 1) 0xFFFFFFFF ∧ s.EntriesBut t [(0x26F0, 4)] ∧ t.mem = s.mem) := by
  let l := (tgetD s.svc.bankErrors [] bank.val).filter (fun t => decide (s.clk.up < t + 86400 * tS)) ++ [s.clk.up]
  let u : State := { s with svc := { s.svc with bankErrors := tput s.svc.bankErrors [] bank.val l } }
  refine ⟨if 16 ≤ l.length then (u.bump 0x26F0 4).retireBank k.val bank.val else u.bump 0x26F0 4, rfl, ?_⟩
  have hcount : (u.bump 0x26F0 4).nat 0x26F0 4 = min (s.nat 0x26F0 4 + 1) 0xFFFFFFFF := State.nat_bump ..
  have hrest : s.EntriesBut (u.bump 0x26F0 4) [(0x26F0, 4)] := u.entriesBut_bump 0x26F0 4
  split
  · have hdict := State.dict_retireBank (u.bump 0x26F0 4) k.val bank.val
    have hwithin : (u.bump 0x26F0 4).Within [.fet] ((u.bump 0x26F0 4).retireBank k.val bank.val) := by simp
    refine ⟨(State.nat_of_dict hdict ..).trans hcount, fun i b hother => ?_, ?_⟩
    · exact (State.val_of_dict hdict i b).trans (hrest i b hother)
    · have hmem := State.mem_of_within hwithin (by simp) (by simp)
      exact hmem
  · exact ⟨hcount, hrest, rfl⟩

end

/-! ### Colour matrices -/

theorem matrixComplete_readies {k : CourseId} (hmode : s.nat (colIx k.val) 0x0E ≠ 0) (hprim : s.primaries k.val ≠ [])
    (hnone : (s.colAt k.val).ready = none) (hup : s.fw.restarting = false) : Completes (.matrixComplete k) s (fun t =>
      (t.colAt k.val).ready = some (s.newMatrix k.val false) ∧ t.dict = s.dict ∧ t.mem = s.mem) := by
  refine ⟨_, congrArg Host.Outcome.next (if_pos ⟨hmode, hprim, hnone, hup⟩), ?_, rfl, rfl⟩
  have hput (c : ColourSt) : ({ (s.colPut k.val c) with free := s.free + 256 } : State).colAt k.val = c := tgetD_tput_self ..
  dsimp only
  rw [hput]

theorem exec_matrixComplete_ready {k : CourseId} (hready : (s.colAt k.val).ready ≠ none) :
    exec (.matrixComplete k) s = .next s :=
  congrArg Host.Outcome.next (if_neg fun h => hready h.2.2.1)

end Sys2Proof.Machine

namespace Sys2Proof.Proofs

open Sys2Proof.Machine

/-- Settles O34: each fault is a guarded update, and what follows it writes other entries. -/
theorem fetchFaultsAndMatrices : Obligations.FetchFaultsAndMatrices := by
  unfold Obligations.FetchFaultsAndMatrices
  exact ⟨fun k slice bank tile x s => ⟨exec_renderSliceFault_free, exec_renderSliceFault_again, renderSliceFault_replaced,
    renderSliceFault_hushes, fetchStoreError_uncorrectable s k bank tile, fetchStoreError_corrected s k bank tile⟩,
    fun k s => ⟨matrixComplete_readies, exec_matrixComplete_ready⟩⟩

end Sys2Proof.Proofs

/-! PROOF. Fetch schedules bows, takes tiles and renders (R219, R222, R224). -/

namespace Sys2Proof.Machine

variable {s : State} {k : CourseId}

theorem fetch_stopped (tile : Nat) (hnot : s.fetchRuns k.val = false) : exec (.fetchSchedule k) s = .next s ∧
    exec (.bowRender k) s = .next s ∧ exec (.tileArrival k tile false) s = .next s := by
  refine ⟨congrArg Host.Outcome.next (if_pos (.inl hnot)), congrArg Host.Outcome.next (if_pos hnot),
    congrArg Host.Outcome.next (if_neg ?_)⟩
  simp [hnot]

theorem fetchSchedule_appends {i m : Nat} {next : Bool} (hrun : s.fetchRuns k.val = true)
    (hseeded : (s.bowAt k.val).seeded = true) (hnext : s.nextToFetch k.val = some (next, i))
    (hbow : s.bowOfActive k.val next i = some m) (hnear : m ≤ (s.bowAt k.val).bow + s.nat (0x2680 + k.val) 0x0E)
    (hroom : (s.fetAt k.val).resident.length < s.tileSlots k.val) : Completes (.fetchSchedule k) s (fun t =>
      (t.fetAt k.val).bows = (s.fetAt k.val).bows ++ [s.newFetchBow k.val m i next] ∧
      (t.fetAt k.val).resident = (s.fetAt k.val).resident ∧ t.mem = s.mem) := by
  have hput (f : FetchSt) (u v : Rat) :
      (((s.fetPut k.val f).putX (0x2680 + k.val) 0x18 u).putX (0x2680 + k.val) 0x19 v).fetAt k.val = f :=
    State.fetAt_put_self ..
  refine ⟨((s.fetPut k.val { (if next then { s.fetAt k.val with scheduledNext := i + 1 }
        else { s.fetAt k.val with scheduled := i + 1 } : FetchSt) with
      bows := (s.fetAt k.val).bows ++ [s.newFetchBow k.val m i next], delta := s.bowDelta k.val m next }).putX
        (0x2680 + k.val) 0x18 (s.newFetchBow k.val m i next).ox).putX (0x2680 + k.val) 0x19 (s.newFetchBow k.val m i next).oy,
    congrArg Host.Outcome.next ((if_neg (by simp [hrun, hseeded])).trans ?_), ?_⟩
  · simp only [hnext, hbow]
    exact if_neg (by simp [not_lt.mpr hnear, not_le.mpr hroom])
  · dsimp only
    rw [hput]
    refine ⟨rfl, ?_, rfl⟩
    cases next <;> rfl

/-- A tile that a scheduled bow needs becomes resident; its poison, if any, and the water levels are other parts. -/
theorem tileArrival_takes {tile : Nat} (hrun : s.fetchRuns k.val = true)
    (hnew : (s.fetAt k.val).resident.contains tile = false) (hroom : (s.fetAt k.val).resident.length < s.tileSlots k.val)
    (hneeded : (s.fetAt k.val).bows.any (fun b => b.levels.isNone && b.tiles.contains tile) = true) :
    Completes (.tileArrival k tile false) s (fun t => tile ∈ (t.fetAt k.val).resident ∧
      t.nat (0x2680 + k.val) 0x13 = (s.nat (0x2680 + k.val) 0x13 + 1) % 2 ^ 64 ∧ t.mem.cells = s.mem.cells) := by
  let u := (s.fetPut k.val { s.fetAt k.val with resident := (s.fetAt k.val).resident ++ [tile] }).add64 (0x2680 + k.val) 0x13 1
  let v := if false || s.tilePoison tile then u.poisonTile k.val tile else u
  refine ⟨v.refreshWater k.val, congrArg Host.Outcome.next (if_pos ⟨hrun, hnew, hroom, hneeded⟩), ?_⟩
  have hufet : u.fetAt k.val = { s.fetAt k.val with resident := (s.fetAt k.val).resident ++ [tile] } := State.fetAt_put_self ..
  have hucount : u.nat (0x2680 + k.val) 0x13 = (s.nat (0x2680 + k.val) 0x13 + 1) % 2 ^ 64 := State.nat_add64 ..
  have hres : tile ∈ (v.fetAt k.val).resident := by
    have hmem : tile ∈ (u.fetAt k.val).resident := by simp [hufet]
    unfold v
    split
    · rw [State.fetAt_poisonTile]
      exact hmem
    · exact hmem
  have hv : DictIn [.column 0x2680 0x14] u.dict v.dict := by
    unfold v
    split
    · simp [State.poisonTile, State.bump, State.addSat, State.putN, dictIn_column 0x2680, DictIn.refl]
    · exact DictIn.refl _ _
  have hvcells : v.mem.cells = s.mem.cells := by
    unfold v
    split <;> rfl
  have hwater := (State.writes_refreshWater (List.Subset.refl _) v k.val).mpr (DictIn.refl _ _)
  have hlast : v.Within [.dict, .inputs, .mem] (v.refreshWater k.val) := by simp
  have hcells : (v.refreshWater k.val).mem.cells = v.mem.cells := hlast .cells (by simp)
  refine ⟨?_, ?_, hcells.trans hvcells⟩
  · rw [State.fetAt_eq (hlast .fet (by simp))]
    exact hres
  · rw [hwater.nat (by decide) (by simp), hv.nat (by decide) (by simp), hucount]

theorem State.fetAt_releaseTiles (s : State) (k : Nat) (b : FetchBow) :
    ((s.releaseTiles k b).fetAt k).bows = (s.fetAt k).bows := by
  unfold State.releaseTiles
  dsimp only
  split
  · rw [State.fetAt_put_self]
  · rfl

/-- A bow whose tiles are there is rendered; the tiles that no other bow needs go. -/
theorem bowRender_renders {b : FetchBow} (hrun : s.fetchRuns k.val = true) (hbows : (s.fetAt k.val).bows = [b])
    (hbare : b.levels = none) (hready : (s.fetAt k.val).bowReady b = true) (hnear : b.bow ≤ (s.bowAt k.val).bow + 3) :
    Completes (.bowRender k) s (fun t =>
      (t.fetAt k.val).bows =
        [{ b with levels := some ((s.frameView k.val b.next).renderBow k.val b (s.fetAt k.val).poisoned).1 }] ∧
      t.dict = s.dict ∧ t.mem = s.mem) := by
  let r := (s.frameView k.val b.next).renderBow k.val b (s.fetAt k.val).poisoned
  let u := (s.fetPut k.val { s.fetAt k.val with
    bows := (s.fetAt k.val).bows.map (fun x => if x = b then { x with levels := some r.1 } else x) }).releaseTiles k.val b
  have hfind : (s.fetAt k.val).bows.find? (fun b => b.levels.isNone) = some b := by simp [hbows, hbare]
  refine ⟨if r.2 then u.colPut k.val (if b.next then { u.colAt k.val with clampedNext := true }
      else { u.colAt k.val with clamped := true }) else u,
    congrArg Host.Outcome.next ((if_neg (by simp [hrun])).trans ?_), ?_⟩
  · simp only [hfind]
    exact if_neg (by simp [hready, not_lt.mpr hnear])
  · have hu : (u.fetAt k.val).bows = [{ b with levels := some r.1 }] := by
      refine (State.fetAt_releaseTiles ..).trans ?_
      rw [State.fetAt_put_self, hbows]
      simp
    have hwithin : s.Within [.fet] u := by simp [u]
    have hcol (c : ColourSt) : s.Within [.fet, .col] (u.colPut k.val c) := by simp [u]
    split
    · exact ⟨hu, (hcol _) .dict (by simp), State.mem_of_within (hcol _) (by simp) (by simp)⟩
    · exact ⟨hu, hwithin .dict (by simp), State.mem_of_within hwithin (by simp) (by simp)⟩

end Sys2Proof.Machine

namespace Sys2Proof.Proofs

open Sys2Proof.Machine

/-- Settles O33: each command names the branch its hypotheses take. -/
theorem fetchFollowsTheSchedule : Obligations.FetchFollowsTheSchedule := by
  unfold Obligations.FetchFollowsTheSchedule
  exact fun k i m tile next s => ⟨fetch_stopped tile, fetchSchedule_appends, tileArrival_takes, fun b => bowRender_renders⟩

end Sys2Proof.Proofs

/-! PROOF. Mesh copies are recomputed and refined (R206, R209, R300). -/

namespace Sys2Proof.Machine

variable {s : State} {m : Nat}

theorem State.meshesAt_put_self (s : State) (m : Nat) (x : MeshSt) : (s.meshesPut m x).meshesAt m = x := tgetD_tput_self ..

theorem State.meshesAt_eq {t : State} (h : t.meshes = s.meshes) (m : Nat) : t.meshesAt m = s.meshesAt m :=
  congrArg (fun l => tgetD l ({} : MeshSt) m) h

theorem State.meshesAt_putCopy (s : State) (m copy : Nat) (c : MeshCopy) : (s.putCopy m copy c).meshesAt m =
    if copy = 0 then { s.meshesAt m with copy0 := c } else { s.meshesAt m with copy1 := c } :=
  State.meshesAt_put_self ..

theorem State.copyAt_putCopy_self (s : State) (m copy : Nat) (c : MeshCopy) : (s.putCopy m copy c).copyAt m copy = c := by
  unfold State.copyAt
  rw [State.meshesAt_putCopy]
  split <;> rfl

theorem State.copyAt_eq {t : State} (h : t.meshes = s.meshes) (m copy : Nat) : t.copyAt m copy = s.copyAt m copy := by
  unfold State.copyAt
  rw [State.meshesAt_eq h]

/-! ### Recomputation -/

section
variable {mesh : Fin 128} {copy : Fin 2}

theorem exec_warpRecomputeComplete_stays (h : (s.copyAt mesh.val copy.val).state ≠ 1 ∨ s.warpRuns = false) :
    exec (.warpRecomputeComplete mesh copy) s = .next s :=
  congrArg Host.Outcome.next (if_neg (by rcases h with h | h <;> simp [h]))

theorem warpRecomputeComplete_checks (hstate : (s.copyAt mesh.val copy.val).state = 1) (hrun : s.warpRuns = true) :
    let n := s.footprint (mesh.val / 4) (s.copyAt mesh.val copy.val)
    let fits := decide (n ≤ s.tileSlots (mesh.val / 4))
    Completes (.warpRecomputeComplete mesh copy) s (fun t =>
      (t.copyAt mesh.val copy.val).state = (if fits then 2 else 4) ∧
      t.nat (0x2600 + mesh.val) 5 = (if (s.meshesAt mesh.val).newest copy.val then n else s.nat (0x2600 + mesh.val) 5) ∧
      t.nat (0x2600 + mesh.val) 4 = (if fits then 0 else 4 * 2 ^ 24) ∧ t.mem = s.mem) := by
  intro n fits
  let u := (s.putCopy mesh.val copy.val { s.copyAt mesh.val copy.val with state := if fits then 2 else 4 }).putN
    (0x2600 + mesh.val) 4 (if fits then 0 else 4 * 2 ^ 24)
  refine ⟨if (s.meshesAt mesh.val).newest copy.val then u.putN (0x2600 + mesh.val) 5 n else u,
    congrArg Host.Outcome.next (if_pos ⟨hstate, hrun⟩), ?_⟩
  have hcopy : (u.copyAt mesh.val copy.val).state = if fits then 2 else 4 :=
    congrArg MeshCopy.state (State.copyAt_putCopy_self ..)
  have hcheck : u.nat (0x2600 + mesh.val) 4 = if fits then 0 else 4 * 2 ^ 24 := State.nat_putN ..
  have hshown : u.nat (0x2600 + mesh.val) 5 = s.nat (0x2600 + mesh.val) 5 :=
    State.nat_putN_ne _ _ _ _ _ _ (by unfold dkey; omega)
  split
  · exact ⟨hcopy, State.nat_putN .., by rw [State.nat_putN_ne _ _ _ _ _ _ (by unfold dkey; omega), hcheck], rfl⟩
  · exact ⟨hcopy, hshown, hcheck, rfl⟩

end

/-! ### Refinement -/

/-- The displacements that a refinement writes: those asked for are moved, the others kept within the limit. -/
def refinedDisp (limit : Nat) (base moves : List (Nat × Int × Int)) : List (Nat × Int × Int) :=
  (base.filter (fun d => !moves.any (fun e => e.1 == d.1))).map (fun d => (d.1, withinLen limit d.2)) ++
    moves.map (fun d => (d.1, moveDisp limit (dispOf base d.1) d.2))

variable {limit j : Nat} {base moves : List (Nat × Int × Int)}

/-- What the nodes keep or lose is said by their numbers. -/
theorem find?_map_of_fst (g : Nat × Int × Int → Nat × Int × Int) (hg : ∀ d, (g d).1 = d.1) (l : List (Nat × Int × Int)) :
    (l.map g).find? (fun d => d.1 == j) = (l.find? (fun d => d.1 == j)).map g := by
  rw [List.find?_map]
  congr 2
  funext d
  simp [hg]

theorem find?_filter_fst (p : Nat → Bool) (l : List (Nat × Int × Int)) : (l.filter (fun d => p d.1)).find? (fun d => d.1 == j) =
    if p j then l.find? (fun d => d.1 == j) else none := by
  rw [List.find?_filter]
  by_cases hp : p j = true
  · rw [if_pos hp]
    congr 1
    funext d
    by_cases hd : d.1 = j
    · simp [hd, hp]
    · simp [hd]
  · rw [if_neg hp, List.find?_eq_none]
    rintro d - hd
    obtain ⟨hpd, rfl⟩ : p d.1 = true ∧ d.1 = j := by simpa using hd
    exact hp hpd

theorem find?_refinedDisp : (refinedDisp limit base moves).find? (fun d => d.1 == j) =
    if moves.any (fun e => e.1 == j) then
      (moves.find? (fun d => d.1 == j)).map (fun d => (d.1, moveDisp limit (dispOf base d.1) d.2))
    else (base.find? (fun d => d.1 == j)).map (fun d => (d.1, withinLen limit d.2)) := by
  rw [refinedDisp, List.find?_append, find?_map_of_fst (fun d => (d.1, withinLen limit d.2)) fun _ => rfl,
    find?_map_of_fst (fun d => (d.1, moveDisp limit (dispOf base d.1) d.2)) fun _ => rfl,
    find?_filter_fst (fun i => !moves.any (fun e => e.1 == i))]
  by_cases hany : moves.any (fun e => e.1 == j) = true
  · simp [hany]
  · have hnone : moves.find? (fun d => d.1 == j) = none := by
      simp only [List.any_eq_true, not_exists, not_and] at hany
      exact List.find?_eq_none.mpr hany
    simp only [Bool.not_eq_true] at hany
    rw [hany, hnone]
    simp

theorem withinLen_zero (limit : Nat) : withinLen limit (0, 0) = (0, 0) := by
  simp [withinLen]

/-- A node that every move of its own moves alike. -/
theorem dispOf_refinedDisp_moved {d : Int × Int} (hmove : (j, d) ∈ moves)
    (honly : moves.all (fun e => e.1 != j || e == (j, d)) = true) :
    dispOf (refinedDisp limit base moves) j = moveDisp limit (dispOf base j) d := by
  obtain ⟨e, he⟩ : ∃ e, moves.find? (fun d => d.1 == j) = some e :=
    Option.isSome_iff_exists.mp (List.find?_isSome.mpr ⟨_, hmove, by simp⟩)
  have hej := List.find?_some he
  have hed : e = (j, d) := by
    have heither := List.all_eq_true.mp honly e (List.mem_of_find?_eq_some he)
    simp only [beq_iff_eq] at hej
    simpa [hej] using heither
  have hany : moves.any (fun e => e.1 == j) = true := List.any_eq_true.mpr ⟨_, hmove, by simp⟩
  rw [dispOf, find?_refinedDisp, if_pos hany, he, hed]
  rfl

/-- A node that no move names. -/
theorem dispOf_refinedDisp_kept (hnone : moves.any (fun e => e.1 == j) = false) :
    dispOf (refinedDisp limit base moves) j = withinLen limit (dispOf base j) := by
  rw [dispOf, find?_refinedDisp, if_neg (by simp [hnone])]
  unfold dispOf
  cases base.find? (fun d => d.1 == j) with
  | none => exact (withinLen_zero limit).symm
  | some d => rfl

/-- The selected mesh is written with what refinement makes of its newest copy. -/
theorem exec_refinementUpdate {mesh : Fin 128} (hgood : s.refineBad (mesh.val / 4) = false)
    (hon : s.nat (0x2680 + mesh.val / 4) 0x0B = 1) (hmesh : s.nat (0x2680 + mesh.val / 4) 1 = mesh.val % 4)
    (hfree : (s.meshesAt mesh.val).held = none) (hnewest : (s.meshesAt mesh.val).copy1.age < (s.meshesAt mesh.val).copy0.age)
    (hblob : (s.meshesAt mesh.val).copy0.blob ≠ []) (moves : List (Nat × Int × Int)) :
    exec (.refinementUpdate mesh moves) s = .next (s.writeMesh mesh.val (s.meshesAt mesh.val).copy0.blob
      (refinedDisp (s.int (0x2680 + mesh.val / 4) 0x0C * 4096 / 65536).toNat (s.meshesAt mesh.val).copy0.disp moves)) := by
  refine congrArg Host.Outcome.next ((if_neg (by simp [hgood])).trans ?_)
  rw [if_neg (not_le.mpr hnewest), if_pos ⟨hon, hmesh, hblob, by simp [hfree]⟩, refinedDisp]
  simp only [List.any_map, Function.comp_def]

/-- Copy 0 is in use: the write goes to copy 1. -/
theorem State.writeMesh_copy1 {blob : List Byte} {disp : List (Nat × Int × Int)} (h0 : s.copyUsed m 0 = true)
    (h1 : s.copyUsed m 1 = false) : s.writeMesh m blob disp = s.writeCopy m 1 blob disp := by
  simp [State.writeMesh, h0, h1]

theorem State.meshesAt_writeCopy1 (s : State) (m : Nat) (blob : List Byte) (disp : List (Nat × Int × Int)) :
    (s.writeCopy m 1 blob disp).meshesAt m = { s.meshesAt m with
      nextAge := (s.meshesAt m).nextAge + 1
      copy1 := { state := 1, blob := blob, age := (s.meshesAt m).nextAge, disp := disp } } := by
  have hput (u : State) (c : MeshCopy) (i a b p q : Nat) : (((u.putCopy m 1 c).putN i a p).putN i b q).meshesAt m =
      { u.meshesAt m with copy1 := c } := State.meshesAt_putCopy ..
  unfold State.writeCopy
  rw [hput, State.meshesAt_put_self]

/-! ### A frame that refinement lets go -/

theorem State.captAt_put_self (s : State) (k : Nat) (x : CaptSt) : (s.captPut k x).captAt k = x := tgetD_tput_self ..

theorem State.captAt_eq {t : State} (h : t.capt = s.capt) (k : Nat) : t.captAt k = s.captAt k :=
  congrArg (fun l => tgetD l ({} : CaptSt) k) h

/-- The buffer that a consumer lets go: it is FREE once nobody holds it. -/
def CapBuf.without (c : Nat) (y : CapBuf) : CapBuf :=
  let h := y.holders.filter (· != c)
  if h.isEmpty then { y with state := 0, holders := [], frame := none } else { y with holders := h }

theorem CapBuf.holders_without (c : Nat) (y : CapBuf) : c ∉ (y.without c).holders := by
  unfold CapBuf.without
  dsimp only
  split <;> simp

/-- What refinement's release makes of a buffer. -/
def CapBuf.refined (y : CapBuf) : CapBuf := if y.state = 3 ∧ y.holders.contains 16 = true then y.without 16 else y

theorem CapBuf.holders_refined {y : CapBuf} (h : y.refined.state = 3) : 16 ∉ y.refined.holders := by
  unfold CapBuf.refined at h ⊢
  split at h
  next hheld =>
    rw [if_pos hheld]
    exact CapBuf.holders_without 16 y
  next hnot =>
    rw [if_neg hnot]
    simpa [h] using hnot

theorem CapBuf.modify_refined {l : List CapBuf} {b : Nat} (h : ∀ y, l[b]? = some y → y.refined = y) :
    l.modify b CapBuf.refined = l := by
  refine List.ext_getElem? fun i => ?_
  rw [List.getElem?_modify]
  cases hy : l[i]? with
  | none => simp
  | some y =>
    by_cases hb : b = i
    · subst hb
      simp [h y hy]
    · simp [hb]

theorem State.capRelease_held {k b : Nat} {y : CapBuf} (hb : (s.captAt k).bufs[b]? = some y)
    (hheld : y.state = 3 ∧ y.holders.contains 16 = true) : s.capRelease k b 16 = s.modCap k b (CapBuf.without 16) := by
  unfold State.capRelease
  simp only [hb, hheld, and_self, if_true]
  exact if_neg (by simp)

theorem State.capRelease_unheld {k b : Nat} (hold : (s.captAt k).old = [])
    (h : ∀ y, (s.captAt k).bufs[b]? = some y → ¬ (y.state = 3 ∧ y.holders.contains 16 = true)) : s.capRelease k b 16 = s := by
  unfold State.capRelease
  simp only [hold, List.find?_nil, Option.map_none]
  cases hb : (s.captAt k).bufs[b]? with
  | none => rfl
  | some y => simp only [h y hb, if_false]

theorem State.captAt_capRelease_refinement {k b : Nat} (hold : (s.captAt k).old = []) :
    ((s.capRelease k b 16).captAt k).old = [] ∧
    ((s.capRelease k b 16).captAt k).bufs = (s.captAt k).bufs.modify b CapBuf.refined := by
  by_cases h : ∃ y, (s.captAt k).bufs[b]? = some y ∧ y.state = 3 ∧ y.holders.contains 16 = true
  · obtain ⟨y, hb, hheld⟩ := h
    have hput (g : CapBuf → CapBuf) : (s.modCap k b g).captAt k = { s.captAt k with bufs := (s.captAt k).bufs.modify b g } :=
      State.captAt_put_self ..
    rw [State.capRelease_held hb hheld, hput]
    refine ⟨hold, List.ext_getElem? fun i => ?_⟩
    simp only [List.getElem?_modify]
    by_cases hi : b = i
    · subst hi
      have hy : y.refined = y.without 16 := if_pos hheld
      simp [hb, hy]
    · simp [hi]
  · have hnot (y : CapBuf) (hb : (s.captAt k).bufs[b]? = some y) : ¬ (y.state = 3 ∧ y.holders.contains 16 = true) :=
      fun hheld => h ⟨y, hb, hheld⟩
    rw [State.capRelease_unheld hold hnot, CapBuf.modify_refined fun y hy => if_neg (hnot y hy)]
    exact ⟨hold, rfl⟩

/-- Once refinement has let buffer b go it does not hold it, whatever it lets go besides. -/
theorem State.refineDrop_lets_go {k b : Nat} (hb : b < 8) (hold : (s.captAt k).old = []) {y : CapBuf}
    (hy : ((s.refineDrop k).captAt k).bufs[b]? = some y) (hstate : y.state = 3) : 16 ∉ y.holders := by
  have hstep (u : State) (j : Nat) (hu : (u.captAt k).old = []) : ((u.capRelease k j 16).captAt k).old = [] :=
    (State.captAt_capRelease_refinement hu).1
  refine (State.each_at (P := fun u => (u.captAt k).old = [])
    (R := fun u => (u.captAt k).old = [] ∧ ∀ y, (u.captAt k).bufs[b]? = some y → y.state = 3 → 16 ∉ y.holders)
    (List.mem_range.mpr hb) List.nodup_range (fun u j _ _ hu => hstep u j hu) (fun u hu => ⟨hstep u b hu, ?_⟩)
    (fun u j _ hjb hu => ⟨hstep u j hu.1, ?_⟩) hold).2 y hy hstate
  · rw [(State.captAt_capRelease_refinement hu).2]
    intro z hz hst
    simp only [List.getElem?_modify, if_true] at hz
    obtain ⟨x, -, rfl⟩ := Option.map_eq_some_iff.mp hz
    exact CapBuf.holders_refined hst
  · rw [(State.captAt_capRelease_refinement hu.1).2]
    intro z hz
    simp only [List.getElem?_modify, hjb, if_false] at hz
    exact hu.2 z (by simpa using hz)

end Sys2Proof.Machine

namespace Sys2Proof.Proofs

open Sys2Proof.Machine

/-- Settles O32: recomputation checks the copy's footprint; refinement writes the copy that is not in use, node by node. -/
theorem meshCopiesAreRecomputed : Obligations.MeshCopiesAreRecomputed := by
  unfold Obligations.MeshCopiesAreRecomputed
  intro mesh copy moves s
  refine ⟨warpRecomputeComplete_checks, exec_warpRecomputeComplete_stays,
    fun hgood hon hmesh hfree hnewest hblob h0 h1 => ⟨_, exec_refinementUpdate hgood hon hmesh hfree hnewest hblob moves, ?_⟩,
    fun hbad hold => ⟨s.refineDrop (mesh.val / 4), congrArg Host.Outcome.next (if_pos hbad), ?_, ?_⟩, fun hgood hoff => ?_⟩
  · have hwrite := State.meshesAt_writeCopy1 s mesh.val (s.meshesAt mesh.val).copy0.blob
      (refinedDisp (s.int (0x2680 + mesh.val / 4) 0x0C * 4096 / 65536).toNat (s.meshesAt mesh.val).copy0.disp moves)
    rw [State.writeMesh_copy1 h0 h1]
    simp only [State.copyAt, one_ne_zero, if_false, if_true, hwrite, true_and, and_true]
    exact ⟨fun j d => dispOf_refinedDisp_moved, fun j => dispOf_refinedDisp_kept⟩
  · have hwithin : s.Within [.dict, .capt, .cstreams] (s.refineDrop (mesh.val / 4)) := by simp
    exact hwithin .meshes (by simp)
  · exact fun b hb y hy hstate => State.refineDrop_lets_go hb hold hy hstate
  · exact congrArg Host.Outcome.next ((if_neg (by simp [hgood])).trans (if_neg fun h => hoff h.1))

end Sys2Proof.Proofs

/-! PROOF. What entries a write to memory and a descriptor that is done may write. -/

namespace Sys2Proof.Machine

open Sys2Proof

section

variable {L : List Place} {D : Tab Val}

@[simp] theorem State.dict_send (s : State) (o : Out) :
    (s.send o).dict = s.dict := rfl

@[simp] theorem State.dict_cancelWriteBack (s : State) (c unit : Nat) :
    (s.cancelWriteBack c unit).dict = s.dict := by
  unfold State.cancelWriteBack
  dsimp only
  split <;> simp

@[simp] theorem State.dict_ringPush (s : State) (q : Nat) (b : List Byte) :
    (s.ringPush q b).dict = s.dict := rfl

@[simp] theorem State.dict_ringTake (s : State) (q : Nat) :
    (s.ringTake q).dict = s.dict := rfl

@[simp] theorem State.dict_answer (s : State) (op : Nat) (it : Item) (status : Nat) (value : List Byte) :
    (s.answer op it status value).dict = s.dict := rfl

@[simp] theorem State.dict_candidate (s : State) (c unit : Nat) :
    (s.candidate c unit).dict = s.dict := by
  unfold State.candidate
  dsimp only
  split <;> simp

@[simp] theorem State.writes_correctedUnit (h : [.column 0x5010 2, .entry 0x5000 0x1C] ⊆ L) (s : State) (c unit : Nat) :
    DictIn L D (s.correctedUnit c unit).dict ↔ DictIn L D s.dict := by
  simp only [List.cons_subset, List.nil_subset, and_true] at h
  have hcounts : DictIn L D ((s.bump 0x5000 0x1C).bump (0x5010 + c) 2).dict ↔ DictIn L D s.dict :=
    (dictIn_column 0x5010 _ (by omega) (by decide) h.1).trans (dictIn_entry 0x5000 0x1C _ h.2 (by decide))
  unfold State.correctedUnit
  dsimp only
  split
  · rw [State.dict_candidate]
    exact hcounts
  · exact hcounts

@[simp] theorem State.dict_garble (s : State) (c unit : Nat) :
    (s.garble c unit).dict = s.dict := rfl

@[simp] theorem State.writes_uncorrectable (h : [.column 0x5010 3, .entry 0x5000 0x1B, .entry 0x5000 0x1D] ⊆ L)
    (s : State) (c unit port found : Nat) :
    DictIn L D (s.uncorrectable c unit port found).dict ↔ DictIn L D s.dict := by
  simp only [List.cons_subset, List.nil_subset, and_true] at h
  unfold State.uncorrectable
  dsimp only
  rw [State.dict_candidate]
  refine (dictIn_column 0x5010 _ (by omega) (by decide) h.1).trans ?_
  refine (dictIn_entry 0x5000 0x1D _ h.2.2 (by decide)).trans ?_
  refine (dictIn_entry 0x5000 0x1B _ h.2.1 (by decide)).trans ?_
  rw [State.dict_logCritical]

@[simp] theorem State.writes_checkUnit (h : [.column 0x5010 2, .column 0x5010 3, .entry 0x5000 0x1B,
    .entry 0x5000 0x1C, .entry 0x5000 0x1D] ⊆ L) (s : State) (c unit port found bad : Nat) :
    DictIn L D (s.checkUnit c unit port found bad).1.dict ↔ DictIn L D s.dict := by
  simp_all [State.checkUnit]

@[simp] theorem State.writes_readUnit (h : [.column 0x5010 2, .column 0x5010 3, .entry 0x5000 0x1B, .entry 0x5000 0x1C,
    .entry 0x5000 0x1D] ⊆ L) (s : State) (cls : AddrClass) (a port found bad : Nat) :
    DictIn L D (s.readUnit cls a port found bad).1.dict ↔ DictIn L D s.dict := by
  simp_all [State.readUnit]

@[simp] theorem State.writes_writePiece (h : [.column 0x5010 2, .column 0x5010 3, .entry 0x5000 0x1B,
    .entry 0x5000 0x1C, .entry 0x5000 0x1D] ⊆ L) (s : State) (cls : AddrClass) (port bad a : Nat) (d : List Byte) :
    DictIn L D (s.writePiece cls port bad a d).1.dict ↔ DictIn L D s.dict := by
  simp_all [State.writePiece]

@[simp] theorem State.writes_writeSpan (h : [.column 0x5010 2, .column 0x5010 3, .entry 0x5000 0x1B,
    .entry 0x5000 0x1C, .entry 0x5000 0x1D] ⊆ L) (s : State) (cls : AddrClass) (port bad a : Nat) (d : List Byte) :
    DictIn L D (s.writeSpan cls port bad a d).1.dict ↔ DictIn L D s.dict := by
  simp only [List.cons_subset, List.nil_subset, and_true] at h
  exact dictIn_foldl_fst _ (fun x p => by simp [h]) _

@[simp] theorem State.writes_dataWrite (h : [.column 0x5010 2, .column 0x5010 3, .entry 0x5000 0x1B,
    .entry 0x5000 0x1C, .entry 0x5000 0x1D] ⊆ L) (s : State) (port a : Nat) (d : List Byte) :
    DictIn L D (s.dataWrite port a d).1.dict ↔ DictIn L D s.dict := by
  simp_all [State.dataWrite]

@[simp] theorem State.writes_writePixels (h : [.column 0x5010 2, .column 0x5010 3, .entry 0x5000 0x1B,
    .entry 0x5000 0x1C, .entry 0x5000 0x1D] ⊆ L) (s : State) (port c b : Nat) (px : List (Nat × Nat × List Byte)) :
    DictIn L D (s.writePixels port c b px).dict ↔ DictIn L D s.dict := by
  simp_all [State.writePixels, dictIn_foldl]

@[simp] theorem State.writes_hsDone (h : [.column 0x2540 5, .column 0x2540 6] ⊆ L) (s : State) (h : Nat)
    (d : List Byte) (status : Nat) (buffer : Option Nat) :
    DictIn L D (s.hsDone h d status buffer).dict ↔ DictIn L D s.dict := by
  simp_all [State.hsDone, State.bump, State.add64, State.addSat, State.putN, dictIn_column 0x2540, hsIx]

end

end Sys2Proof.Machine

/-! PROOF. Host content descriptors (R185). -/

namespace Sys2Proof.Machine

variable {s : State}

theorem State.hstreamsAt_put_self (s : State) (h : Nat) (x : HStreamSt) : (s.hstreamsPut h x).hstreamsAt h = x :=
  tgetD_tput_self ..

theorem State.hstreamsAt_put_bump (s : State) (h i b : Nat) (x : HStreamSt) : ((s.hstreamsPut h x).bump i b).hstreamsAt h = x :=
  State.hstreamsAt_put_self ..

theorem State.hstreamsAt_eq {t : State} (heq : t.hstreams = s.hstreams) (h : Nat) : t.hstreamsAt h = s.hstreamsAt h :=
  congrArg (fun l => tgetD l ({} : HStreamSt) h) heq

theorem State.bufs_eq {t : State} (h : t.canvases = s.canvases) (c : Nat) : t.bufs c = s.bufs c :=
  congrArg (fun l => (tgetD l ({} : CanvasSt) c).bufs) h

theorem State.bufs_modBuf (s : State) (c b : Nat) (f : Buf → Buf) : (s.modBuf c b f).bufs c = (s.bufs c).modify b f :=
  congrArg CanvasSt.bufs (tgetD_tput_self ..)

/-- A buffer that reads FILLING is one that is there, and is FILLING. -/
theorem State.buf_of_filling {c b : Nat} (h : s.bufState c b = 1) :
    ∃ x, (s.bufs c)[b]? = some x ∧ x.filling0 = false ∧ x.state = 1 := by
  unfold State.bufState at h
  cases hb : (s.bufs c)[b]? with
  | none => simp [hb] at h
  | some x =>
    simp only [hb] at h
    split at h
    · simp at h
    next hfill =>
      split at h
      · simp at h
      · exact ⟨x, rfl, by simpa using hfill, h⟩

theorem State.bufState_of {c b : Nat} {x : Buf} (hb : (s.bufs c)[b]? = some x) (hfill : x.filling0 = false) (hstate : x.state ≠ 3) :
    s.bufState c b = x.state := by
  simp [State.bufState, hb, hfill, hstate]

theorem State.buf_freeBuf {c b : Nat} {x : Buf} (hb : (s.bufs c)[b]? = some x) : ((s.freeBuf c b).bufs c)[b]? = some freshBuf := by
  rw [State.freeBuf, State.bufs_modBuf, List.getElem?_modify, hb]
  simp

theorem State.buf_readyBuf {c b : Nat} {x : Buf} (hb : (s.bufs c)[b]? = some x) (kind : Nat) (target : Int) :
    ∃ y, ((s.readyBuf c b kind target).bufs c)[b]? = some y ∧ y.state = 2 ∧ y.filling0 = x.filling0 := by
  have hput (u : State) (n : Nat) : (u.putN (cvIx c) 0x13 n).bufs c = u.bufs c := rfl
  have hbefore (y : CanvasSt) : (s.canvasesPut c y).bufs c = y.bufs := congrArg CanvasSt.bufs (tgetD_tput_self ..)
  have hsame : (s.canvasesAt c).bufs[b]? = some x := hb
  unfold State.readyBuf
  rw [hput, State.bufs_modBuf, hbefore, List.getElem?_modify, hsame]
  simp

/-! ### Descriptors -/

section
variable {h : FlowId} {desc pixels : List Byte} {err : Bool} {c b : Nat}

theorem exec_descriptors_unread (hcanvas : s.hsCanvas h.val = some c) (hunread : s.hsReads h.val desc = false) :
    exec (.writeRect h desc pixels err) s = .next s ∧ exec (.complete h desc) s = .next s ∧
    exec (.abortBuffer h desc) s = .next s := by
  refine ⟨?_, ?_, ?_⟩ <;> change Host.Outcome.next _ = _ <;> simp only [hcanvas, hunread, if_true]

theorem exec_writeRect_bad (hcanvas : s.hsCanvas h.val = some c) (hread : s.hsReads h.val desc = true)
    (hbad : s.rectFails c desc = true) : exec (.writeRect h desc pixels err) s =
      .next (s.hsDone h.val desc 0x05 (s.hstreamsAt h.val).buffer) := by
  change Host.Outcome.next _ = _
  simp only [hcanvas, hread, hbad, Bool.true_eq_false, if_false, if_true]
  rfl

theorem exec_writeRect_good (hcanvas : s.hsCanvas h.val = some c) (hread : s.hsReads h.val desc = true)
    (hgood : s.rectFails c desc = false) : exec (.writeRect h desc pixels err) s = .next (s.rectClaims h.val c desc pixels err) := by
  change Host.Outcome.next _ = _
  simp only [hcanvas, hread, hgood, Bool.true_eq_false, Bool.false_eq_true, if_false]

/-- A rectangle that the stream's buffer takes is counted in bytes. -/
theorem writeRect_writes (hcanvas : s.hsCanvas h.val = some c) (hread : s.hsReads h.val desc = true)
    (hgood : s.rectFails c desc = false) (hbuffer : (s.hstreamsAt h.val).buffer = some b) :
    Completes (.writeRect h desc pixels false) s (fun t => t.hstreamsAt h.val = s.hstreamsAt h.val ∧
      t.nat (hsIx h.val) 9 = (s.nat (hsIx h.val) 9 + sourceBytes (leAt desc 2 1) (leAt desc 8 2) * leAt desc 10 2) % 2 ^ 64) := by
  have hclaims : s.rectClaims h.val c desc pixels false = s.rectInto h.val c b desc pixels false := by
    simp only [State.rectClaims, hbuffer]
  refine ⟨_, exec_writeRect_good hcanvas hread hgood, ?_⟩
  rw [hclaims]
  have hwithin := (State.within_rectInto (List.Subset.refl _) s h.val c b desc pixels false).mpr (State.within_refl _ _)
  refine ⟨State.hstreamsAt_eq (hwithin .hstreams (by simp)) _, ?_⟩
  have hdone (u : State) : DictIn [.column 0x2540 5, .column 0x2540 6] u.dict (u.hsDone h.val desc stOk (some b)).dict :=
    (State.writes_hsDone (List.Subset.refl _) ..).mpr (DictIn.refl _ _)
  have hpixels := (State.writes_writePixels (List.Subset.refl _) s 34 c b (s.rectPixels c desc pixels)).mpr (DictIn.refl _ _)
  have hh := h.isLt
  change ((State.add64 _ _ _ _).hsDone _ _ _ _).nat _ _ = _
  rw [(hdone _).nat (by decide) (by simp), State.nat_add64, hpixels.nat (by decide) (by simp [hsIx])]

theorem writeRect_waits (hcanvas : s.hsCanvas h.val = some c) (hread : s.hsReads h.val desc = true)
    (hgood : s.rectFails c desc = false) (hbuffer : (s.hstreamsAt h.val).buffer = none) (hnone : s.freeBuffer c = none) :
    Completes (.writeRect h desc pixels err) s (fun t => (t.hstreamsAt h.val).waiting = some (desc, pixels, err) ∧
      t.mem = s.mem) := by
  have hclaims : s.rectClaims h.val c desc pixels err =
      (s.hstreamsPut h.val { waiting := some (desc, pixels, err) }).bump (hsIx h.val) 8 := by
    simp only [State.rectClaims, hbuffer, hnone]
  refine ⟨_, (exec_writeRect_good hcanvas hread hgood).trans (congrArg _ hclaims), ?_, rfl⟩
  rw [State.hstreamsAt_put_bump]

theorem State.within_hsDone_here (s : State) (h : Nat) (d : List Byte) (status : Nat) (buffer : Option Nat) :
    s.Within [.dict, .queues, .out] (s.hsDone h d status buffer) := by
  simp

theorem complete_readies (hcanvas : s.hsCanvas h.val = some c) (hread : s.hsReads h.val desc = true)
    (hgood : s.completeFails c desc = false) (hbuffer : (s.hstreamsAt h.val).buffer = some b) (hfilling : s.bufState c b = 1) :
    Completes (.complete h desc) s (fun t => t.hstreamsAt h.val = {} ∧ t.bufState c b = 2 ∧ t.mem = s.mem) := by
  obtain ⟨x, hx, hfill, -⟩ := State.buf_of_filling hfilling
  obtain ⟨y, hy, hready, hyfill⟩ := State.buf_readyBuf hx (leAt desc 3 1) (descTarget desc)
  let u := (s.readyBuf c b (leAt desc 3 1) (descTarget desc)).contentArrived c
  let t := ((u.hstreamsPut h.val {}).bump (hsIx h.val) 7).hsDone h.val desc stOk (some b)
  have hexec : exec (.complete h desc) s = .next t := by
    change Host.Outcome.next _ = _
    simp only [hcanvas, hread, hgood, hbuffer, Bool.true_eq_false, Bool.false_eq_true, if_false]
    rfl
  have hdone : ((u.hstreamsPut h.val {}).bump (hsIx h.val) 7).Within [.dict, .queues, .out] t := State.within_hsDone_here _ _ _ _ _
  have hready' : (s.readyBuf c b (leAt desc 3 1) (descTarget desc)).Within [.dict, .frm, .hstreams]
      ((u.hstreamsPut h.val {}).bump (hsIx h.val) 7) := by simp [u]
  have hbefore : s.Within [.dict, .canvases] (s.readyBuf c b (leAt desc 3 1) (descTarget desc)) := by simp
  have hlater : (s.readyBuf c b (leAt desc 3 1) (descTarget desc)).Within [.dict, .frm, .hstreams, .queues, .out] t :=
    (hready'.mono (by simp)).trans (hdone.mono (by simp))
  have hall : s.Within [.dict, .canvases, .frm, .hstreams, .queues, .out] t :=
    (hbefore.mono (by simp)).trans (hlater.mono (by simp))
  refine ⟨t, hexec, ?_, ?_, State.mem_of_within hall (by simp) (by simp)⟩
  · exact (State.hstreamsAt_eq (hdone .hstreams (by simp)) h.val).trans (State.hstreamsAt_put_bump u h.val (hsIx h.val) 7 {})
  · rw [State.bufState_of (x := y) (by rw [State.bufs_eq (hlater .canvases (by simp))]; exact hy) (hyfill.trans hfill)
      (by simp [hready]), hready]

theorem abortBuffer_frees (hcanvas : s.hsCanvas h.val = some c) (hread : s.hsReads h.val desc = true)
    (hgood : descReserved desc = false) (hbuffer : (s.hstreamsAt h.val).buffer = some b) (hfilling : s.bufState c b = 1) :
    Completes (.abortBuffer h desc) s (fun t => t.hstreamsAt h.val = {} ∧ t.bufState c b = 0 ∧ t.mem = s.mem) := by
  obtain ⟨x, hx, -, -⟩ := State.buf_of_filling hfilling
  let t := ((s.freeBuf c b).hstreamsPut h.val {}).hsDone h.val desc stOk (some b)
  have hexec : exec (.abortBuffer h desc) s = .next t := by
    change Host.Outcome.next _ = _
    simp only [hcanvas, hread, hgood, hbuffer, Bool.true_eq_false, Bool.false_eq_true, if_false]
    rfl
  have hdone : ((s.freeBuf c b).hstreamsPut h.val {}).Within [.dict, .queues, .out] t := State.within_hsDone_here _ _ _ _ _
  have hall : s.Within [.dict, .canvases, .hstreams, .queues, .out] t := by simp [t]
  have hlater : (s.freeBuf c b).Within [.dict, .hstreams, .queues, .out] t := by simp [t]
  refine ⟨t, hexec, ?_, ?_, State.mem_of_within hall (by simp) (by simp)⟩
  · exact (State.hstreamsAt_eq (hdone .hstreams (by simp)) _).trans (State.hstreamsAt_put_self ..)
  · exact State.bufState_of (x := freshBuf) (by rw [State.bufs_eq (hlater .canvases (by simp))]; exact State.buf_freeBuf hx)
      rfl (by decide)

theorem exec_descriptorResume_waits {d src : List Byte} {e : Bool} (hcanvas : s.hsCanvas h.val = some c)
    (hwaiting : (s.hstreamsAt h.val).waiting = some (d, src, e)) (hnone : s.freeBuffer c = none) :
    exec (.descriptorResume h) s = .next s := by
  change Host.Outcome.next _ = _
  simp [hcanvas, hwaiting, hnone]

/-- A rectangle that waited claims the buffer that is free. -/
theorem descriptorResume_claims {d src : List Byte} {e : Bool} (hcanvas : s.hsCanvas h.val = some c)
    (hwaiting : (s.hstreamsAt h.val).waiting = some (d, src, e)) (hfree : s.freeBuffer c = some b)
    (hgoes : s.ingestPaused = false) (hdst : s.dst = 1 ∨ s.dst = 2) : Completes (.descriptorResume h) s (fun t =>
      (t.hstreamsAt h.val).buffer = some b ∧ (t.hstreamsAt h.val).waiting = none) := by
  let u := ((s.hstreamsPut h.val {}).modBuf c b (fun y => { y with state := 1, stamp := none, flows := [] })).hstreamsPut h.val
    { buffer := some b }
  have hclaims : (s.hstreamsPut h.val {}).rectClaims h.val c d src e = u.rectInto h.val c b d src e := by
    have hstill : (s.hstreamsPut h.val {}).freeBuffer c = some b := hfree
    unfold State.rectClaims
    simp only [State.hstreamsAt_put_self, hstill]
    rfl
  have hexec : exec (.descriptorResume h) s = .next (u.rectInto h.val c b d src e) := by
    rw [← hclaims]
    change Host.Outcome.next _ = _
    simp only [hcanvas, hwaiting]
    rw [if_pos ⟨by simp [hfree], hgoes, hdst⟩]
  have hwithin := (State.within_rectInto (List.Subset.refl _) u h.val c b d src e).mpr (State.within_refl _ _)
  have hstream : (u.rectInto h.val c b d src e).hstreamsAt h.val = { buffer := some b } :=
    (State.hstreamsAt_eq (hwithin .hstreams (by simp)) _).trans (State.hstreamsAt_put_self ..)
  exact ⟨_, hexec, congrArg HStreamSt.buffer hstream, congrArg HStreamSt.waiting hstream⟩

end

end Sys2Proof.Machine

namespace Sys2Proof.Proofs

open Sys2Proof.Machine

/-- Settles O31: each descriptor is checked first, and acts on the buffer that its stream holds or claims. -/
theorem hostContentFollowsItsDescriptors : Obligations.HostContentFollowsItsDescriptors := by
  unfold Obligations.HostContentFollowsItsDescriptors
  intro h desc pixels err c b s hcanvas
  refine ⟨exec_descriptors_unread hcanvas, exec_writeRect_bad hcanvas, fun hread hgood hbuffer herr => ?_,
    writeRect_waits hcanvas, complete_readies hcanvas, abortBuffer_frees hcanvas,
    fun d src e => descriptorResume_claims hcanvas, fun d src e => exec_descriptorResume_waits hcanvas⟩
  subst herr
  exact writeRect_writes hcanvas hread hgood hbuffer

end Sys2Proof.Proofs

/-! PROOF. What entries the frames and buffers of ingest may write. -/

namespace Sys2Proof.Machine

open Sys2Proof

section

variable {L : List Place} {D : Tab Val}

@[simp] theorem State.dict_dropBuffer (s : State) (c b : Nat) :
    (s.dropBuffer c b).dict = s.dict :=
  ((State.within_dropBuffer (L := [.flows]) (by simp) ..).mpr (State.within_refl _ _)) .dict (by simp)

@[simp] theorem State.dict_stampOver (s : State) (c stamp : Nat) :
    (s.stampOver c stamp).dict = s.dict := rfl

@[simp] theorem State.dict_contentArrived (s : State) (c : Nat) :
    (s.contentArrived c).dict = s.dict :=
  ((State.within_contentArrived (L := [.frm]) (by simp) ..).mpr (State.within_refl _ _)) .dict (by simp)

@[simp] theorem State.writes_readyBuf (h : [.column 0x2400 0x13] ⊆ L) (s : State) (c b kind : Nat) (target : Int) :
    DictIn L D (s.readyBuf c b kind target).dict ↔ DictIn L D s.dict := by
  simp_all [State.readyBuf, State.putN, dictIn_column 0x2400, cvIx]

@[simp] theorem State.writes_flowReady (h : [.column 0x2400 0x13] ⊆ L) (s : State) (c b stamp : Nat) :
    DictIn L D (s.flowReady c b stamp).dict ↔ DictIn L D s.dict := by
  unfold State.flowReady
  split <;> simp_all

@[simp] theorem State.writes_flowIncomplete (h : [.column 0x2400 0x11, .column 0x2400 0x13] ⊆ L) (s : State)
    (c b stamp : Nat) :
    DictIn L D (s.flowIncomplete c b stamp).dict ↔ DictIn L D s.dict := by
  simp_all [State.flowIncomplete, State.bump, State.addSat, State.putN, dictIn_column 0x2400, cvIx]

@[simp] theorem State.writes_releaseReady (h : [.column 0x2400 0x10] ⊆ L) (s : State) (c mask : Nat) :
    DictIn L D (s.releaseReady c mask).dict ↔ DictIn L D s.dict := by
  simp_all [State.releaseReady, dictIn_each]

@[simp] theorem State.writes_endFrame (h : [.column 0x2400 0x11, .column 0x2400 0x13, .column 0x2500 0x18,
    .column 0x2500 0x1A, .column 0x2500 0x1B] ⊆ L) (s : State) (f : Nat) (a : Assembly) (complete : Bool) :
    DictIn L D (s.endFrame f a complete).dict ↔ DictIn L D s.dict := by
  unfold State.endFrame
  dsimp only
  split <;> simp_all [State.bump, State.addSat, State.putN, dictIn_column 0x2500, flIx]

@[simp] theorem State.writes_endComplete (h : [.column 0x2400 0x11, .column 0x2400 0x13, .column 0x2500 0x18,
    .column 0x2500 0x1A, .column 0x2500 0x1B] ⊆ L) (s : State) (f n : Nat) :
    DictIn L D (s.endComplete f n).dict ↔ DictIn L D s.dict := by
  simp only [List.cons_subset, List.nil_subset, and_true] at h
  induction n generalizing s with
  | zero => rfl
  | succ n ih =>
    unfold State.endComplete
    split
    · rfl
    · rw [ih, State.writes_endFrame (by simp [h])]

@[simp] theorem State.writes_writeRows (h : [.column 0x5010 2, .column 0x5010 3, .entry 0x5000 0x1B,
    .entry 0x5000 0x1C, .entry 0x5000 0x1D] ⊆ L) (s : State) (port f c b : Nat) (raw : Tab (Nat × Nat × Nat ×
    Nat)) (rows : List SampleRow) :
    DictIn L D (s.writeRows port f c b raw rows).dict ↔ DictIn L D s.dict := by
  simp_all [State.writeRows, flIx, dictIn_foldl]

@[simp] theorem State.writes_newFrame (h : [.column 0x2500 0x1C] ⊆ L) (s : State) (f stamp seq : Nat) :
    DictIn L D (s.newFrame f stamp seq).dict ↔ DictIn L D s.dict := by
  unfold State.newFrame
  (repeat' split) <;> simp_all [State.bump, State.addSat, State.putN, dictIn_column 0x2500, flIx]

end

end Sys2Proof.Machine

/-! PROOF. Ingest takes packets and ends frames (R16, R172 to R176, R196). -/

namespace Sys2Proof.Machine

variable {s : State} {f port : Nat} {p : RtpPacket}

theorem State.flowsAt_put_self (s : State) (f : Nat) (x : FlowSt) : (s.flowsPut f x).flowsAt f = x := tgetD_tput_self ..

theorem State.flowsAt_eq {t : State} (h : t.flows = s.flows) (f : Nat) : t.flowsAt f = s.flowsAt f :=
  congrArg (fun l => tgetD l ({} : FlowSt) f) h

theorem flIx_ge (f : Nat) : 0x2500 ≤ flIx f := Nat.le_add_right ..

/-! ### Port receive -/

theorem filter_range_eq (f : Fin 64) : (List.range 64).filter (fun g => decide (g = f.val)) = [f.val] := by
  revert f
  decide

theorem State.flowsOf_only {f : Fin 64} (h : ∀ g < 64, s.delivers g port p = decide (g = f.val)) : s.flowsOf port p =
    [f.val] := by
  rw [← filter_range_eq f]
  exact List.filter_congr fun g hg => h g (List.mem_range.mp hg)

theorem State.flowsOf_of_dict {t : State} (h : t.dict = s.dict) (port : Nat) (p : RtpPacket) : t.flowsOf port p =
    s.flowsOf port p := by
  have hnat (i b : Nat) : t.nat i b = s.nat i b := State.nat_of_dict h i b
  unfold State.flowsOf
  refine List.filter_congr fun g _ => ?_
  simp only [State.delivers, hnat]

theorem State.rxDrain_paused (h : s.ingestPaused = true) : s.rxDrain = s := if_pos (by simp [h])

theorem State.rxDrain_empty (h : s.rx = []) : s.rxDrain = s := if_pos (by simp [h])

theorem exec_st2110Packet {f : FlowId} {port : PortId} (hlow : s.dst ≠ 0) (hhigh : s.dst ≠ 4)
    (hflow : s.flowsOf port.val p = [f.val]) :
    exec (.st2110Packet port p) s = .next (s.rxDrain.rxHold port.val p f.val).rxDrain := by
  refine congrArg Host.Outcome.next ((if_neg (by simp [hlow, hhigh])).trans ?_)
  simp only [hflow]

/-- Port receive holds the packet. -/
def State.rxTaken (s : State) (f port : Nat) (shared : Bool) (p : RtpPacket) : State :=
  ({ s with rx := s.rx ++ [{ port := port, flow := f, shared := shared, packet := p }] } : State).queuePush (useFlow f)

theorem State.rxHold_reserved (hflow : s.flowsOf port p = [f])
    (hroom : s.rxBytes (fun x => x.port == port && x.flow == f && !x.shared) + p.length ≤ s.flowReserve f) :
    s.rxHold port p f = s.rxTaken f port false p := by
  unfold State.rxHold
  rw [hflow]
  exact if_pos hroom

theorem State.rxHold_shared (hflow : s.flowsOf port p = [f])
    (hfull : s.flowReserve f < s.rxBytes (fun x => x.port == port && x.flow == f && !x.shared) + p.length)
    (hroom : s.rxBytes (fun x => x.port == port && x.shared) + p.length ≤ 4194304) :
    s.rxHold port p f = s.rxTaken f port true p := by
  unfold State.rxHold
  rw [hflow]
  exact (if_neg (not_le.mpr hfull)).trans (if_pos hroom)

theorem State.rxHold_dropped
    (hfull : s.flowReserve f < s.rxBytes (fun x => x.port == port && x.flow == f && !x.shared) + p.length)
    (hshared : 4194304 < s.rxBytes (fun x => x.port == port && x.shared) + p.length) :
    s.rxHold port p f = s.bump 0x25F0 (5 + port) := by
  unfold State.rxHold
  exact (if_neg (not_le.mpr hfull)).trans (if_neg (not_le.mpr hshared))

/-- A packet that ingest takes at once goes to its flow. -/
theorem exec_st2110Packet_through {f : FlowId} {port : PortId} (hlow : s.dst ≠ 0) (hhigh : s.dst ≠ 4)
    (hflow : s.flowsOf port.val p = [f.val]) (hempty : s.rx = []) (hgoes : s.ingestPaused = false)
        (hlen : p.length ≤ 4194304) :
    ∃ v : State, s.Within [.queues] v ∧
      exec (.st2110Packet port p) s = .next ((v.flowPacket f.val port.val p).queueCommit (useFlow f.val)) := by
  have hbytes (w : RxPacket → Bool) : s.rxBytes w = 0 := by simp [State.rxBytes, hempty]
  obtain ⟨shared, hhold⟩ : ∃ shared, s.rxHold port.val p f.val = s.rxTaken f.val port.val shared p := by
    by_cases hroom : p.length ≤ s.flowReserve f.val
    · exact ⟨false, State.rxHold_reserved hflow (by rw [hbytes]; omega)⟩
    · exact ⟨true, State.rxHold_shared hflow (by rw [hbytes]; omega) (by rw [hbytes]; omega)⟩
  let v : State := { (s.rxTaken f.val port.val shared p) with rx := [] }
  have hv : s.Within [.queues] v := by
    intro q hq
    let held : RxPacket := { port := port.val, flow := f.val, shared := shared, packet := p }
    have h : ({ s with rx := s.rx ++ [held] } : State).Within [.queues] (s.rxTaken f.val port.val shared p) := by
      simp [State.rxTaken, held]
    by_cases hrx : q = .rx
    · subst hrx
      exact hempty.symm
    · cases q <;> first | exact absurd rfl hrx | exact h _ hq
  refine ⟨v, hv, ?_⟩
  rw [exec_st2110Packet hlow hhigh hflow, State.rxDrain_empty hempty, hhold]
  have hrx : (s.rxTaken f.val port.val shared p).rx =
      [{ port := port.val, flow := f.val, shared := shared, packet := p }] := by
    change s.rx ++ _ = _
    rw [hempty, List.nil_append]
  have hstill : (s.rxTaken f.val port.val shared p).ingestPaused = false := hgoes
  have hdeliver : v.rxDeliver port.val p = (v.flowPacket f.val port.val p).queueCommit (useFlow f.val) := by
    unfold State.rxDeliver
    rw [State.flowsOf_of_dict (hv .dict (by simp)), hflow]
    rfl
  rw [State.rxDrain, if_neg (by simp [hrx, hstill]), hrx, ← hdeliver]
  rfl

end Sys2Proof.Machine

/-! PROOF. Flows take packets, end frames and release buffers (R166, R172 to R178, R190, R196, R197). -/

namespace Sys2Proof.Machine

variable {s : State} {f port : Nat} {p : RtpPacket}

/-! ### A packet on one unmerged flow -/

theorem State.flowsAt_flowSeen (s : State) (f port : Nat) :
    ((s.flowSeen f port).flowsAt f).asms = (s.flowsAt f).asms ∧ ((s.flowSeen f port).flowsAt f).ssrc =
        (s.flowsAt f).ssrc ∧
      ((s.flowSeen f port).flowsAt f).skipStamp = (s.flowsAt f).skipStamp ∧
      ((s.flowSeen f port).flowsAt f).endedStamp = (s.flowsAt f).endedStamp := by
  have hat (x : FlowSt) (n : Nat) : ((s.flowsPut f x).putN (flIx f) 0x15 n).flowsAt f = x := State.flowsAt_put_self ..
  unfold State.flowSeen
  dsimp only
  rw [hat]
  split <;> exact ⟨rfl, rfl, rfl, rfl⟩

theorem State.flowSource_same {ssrc : Nat} (h : (s.flowsAt f).ssrc = some ssrc) :
    s.flowSource f ssrc = s.flowsPut f { s.flowsAt f with ssrc := some ssrc } := by
  simp [State.flowSource, h]

/-- What a flow that takes a packet of its own source has noted. -/
def State.flowMet (s : State) (f port ssrc : Nat) : State := (s.flowSeen f port).flowSource f ssrc

theorem State.flowsAt_flowMet {ssrc : Nat} (h : (s.flowsAt f).ssrc = some ssrc) :
    ((s.flowMet f port ssrc).flowsAt f).asms = (s.flowsAt f).asms ∧
      ((s.flowMet f port ssrc).flowsAt f).skipStamp = (s.flowsAt f).skipStamp ∧
      ((s.flowMet f port ssrc).flowsAt f).endedStamp = (s.flowsAt f).endedStamp := by
  obtain ⟨hasms, hssrc, hskip, hended⟩ := State.flowsAt_flowSeen s f port
  rw [State.flowMet, State.flowSource_same (hssrc.trans h), State.flowsAt_put_self]
  exact ⟨hasms, hskip, hended⟩

theorem State.dict_flowMet {ssrc : Nat} (h : (s.flowsAt f).ssrc = some ssrc) :
    (s.flowMet f port ssrc).dict = (s.flowSeen f port).dict :=
  (congrArg State.dict (State.flowSource_same ((State.flowsAt_flowSeen s f port).2.1.trans h))).trans rfl

theorem State.nat_flowMet {ssrc b : Nat} (h : (s.flowsAt f).ssrc = some ssrc) (hne : b ≠ 0x15) (hb : b < 256) :
    (s.flowMet f port ssrc).nat (flIx f) b = s.nat (flIx f) b :=
  (State.nat_of_dict (State.dict_flowMet h) ..).trans
      (State.nat_putN_ne _ _ _ _ _ _ (dkey_ne hb (by decide) fun _ => hne))

theorem State.within_flowMet (s : State) {ssrc : Nat} (h : (s.flowsAt f).ssrc = some ssrc) :
    s.Within [.dict, .flows] (s.flowMet f port ssrc) := by
  rw [State.flowMet, State.flowSource_same ((State.flowsAt_flowSeen s f port).2.1.trans h)]
  simp

theorem State.flowPacket_field (hdst : s.dst ≠ 3) (hfield : p.rows.any (·.field) = true) :
    s.flowPacket f port p = (s.flowMet f port p.ssrc).bump (flIx f) 0x19 :=
  (if_neg hdst).trans (if_pos hfield)

theorem State.flowPacket_joins (hsrc : (s.flowsAt f).ssrc = some p.ssrc) (hdst : s.dst ≠ 3)
    (hfield : p.rows.any (·.field) = false) (hmode : s.nat (flIx f) 1 ≠ 3)
    (hskip : (s.flowsAt f).skipStamp ≠ some p.timestamp) (hended : (s.flowsAt f).endedStamp ≠ some p.timestamp)
    (hopen : (s.flowsAt f).asms.any (fun a => a.ended && a.stamp == p.timestamp) = false) :
    ∃ x, s.flowPacket f port p = ((s.flowMet f port p.ssrc).flowsPut f x).joinPacket f port p := by
  obtain ⟨hasms, hskip', hended'⟩ := State.flowsAt_flowMet (port := port) hsrc
  have hjudge : ((s.flowSeen f port).flowSource f p.ssrc).mergeJudge f p = 0 :=
    if_pos fun h => hmode ((State.nat_flowMet hsrc (by decide) (by decide)).symm.trans h)
  have hgoes : ¬ (((s.flowMet f port p.ssrc).flowsAt f).skipStamp = some p.timestamp ∨
      ((s.flowMet f port p.ssrc).flowsAt f).endedStamp = some p.timestamp ∨
      ((s.flowMet f port p.ssrc).flowsAt f).asms.any (fun a => a.ended && a.stamp == p.timestamp) = true) := by
    rw [hasms, hskip', hended']
    simp [hskip, hended, hopen]
  unfold State.flowPacket
  simp only [hdst, hfield, hjudge]
  exact ⟨_, if_neg hgoes⟩

/-- What joining a packet may write once it is counted. -/
def joinPlaces : List Place :=
  [.column 0x2500 0x18, .column 0x2500 0x19, .column 0x2500 0x1A, .column 0x2500 0x1B, .column 0x2500 0x1C,
    .column 0x2400 0x11, .column 0x2400 0x13, .column 0x5010 2, .column 0x5010 3, .entry 0x5000 0x1B, .entry 0x5000
        0x1C,
    .entry 0x5000 0x1D]

theorem State.writes_joinPacket (s : State) (f port : Nat) (p : RtpPacket) :
    DictIn joinPlaces ((s.add64 (flIx f) 0x16 1).putN (flIx f) 0x1D p.timestamp).dict (s.joinPacket f port p).dict := by
  have hbump (D : Tab Val) (u : State) : DictIn joinPlaces D (u.bump (flIx f) 0x19).dict ↔ DictIn joinPlaces D u.dict
      := by
    simp [State.bump, State.addSat, State.putN, dictIn_column 0x2500, flIx, joinPlaces]
  have hframe (D : Tab Val) (u : State) (stamp seq : Nat) : DictIn joinPlaces D (u.newFrame f stamp seq).dict ↔ DictIn
      joinPlaces D u.dict :=
    State.writes_newFrame (by simp [joinPlaces]) ..
  have hrows (D : Tab Val) (u : State) (c b : Nat) (raw : Tab (Nat × Nat × Nat × Nat)) (rows : List SampleRow) :
      DictIn joinPlaces D (u.writeRows port f c b raw rows).dict ↔ DictIn joinPlaces D u.dict :=
    State.writes_writeRows (by simp [joinPlaces]) ..
  have hend (D : Tab Val) (u : State) (n : Nat) : DictIn joinPlaces D (u.endComplete f n).dict ↔ DictIn joinPlaces D
      u.dict :=
    State.writes_endComplete (by simp [joinPlaces]) ..
  have hput (u : State) (x : FlowSt) : (u.flowsPut f x).dict = u.dict := rfl
  unfold State.joinPacket
  simp only [hend]
  split
  · split
    · simp only [apply_ite State.dict, apply_ite (DictIn joinPlaces _), hbump, hrows, hframe, hput, ite_self,
        DictIn.refl]
    · simp only [apply_ite State.dict, apply_ite (DictIn joinPlaces _), hframe, hput, ite_self, DictIn.refl]
  · simp only [apply_ite State.dict, apply_ite (DictIn joinPlaces _), hframe, hput, ite_self, DictIn.refl]

/-! ### The ends of frames -/

/-- A flow whose only frame has ended. -/
def FlowSt.endedLone (x : FlowSt) (a : Assembly) : FlowSt :=
  ({ x with asms := [{ a with ended := true }], old := x.old ++ a.seen } : FlowSt).popEnded [{ a with ended := true }]

theorem FlowSt.asms_endedLone (x : FlowSt) (a : Assembly) : (x.endedLone a).asms = [] := rfl

theorem FlowSt.endedStamp_endedLone (x : FlowSt) (a : Assembly) : (x.endedLone a).endedStamp = some a.stamp := rfl

/-- A frame that fails is counted with its missing packets, unless it had been refused. -/
theorem State.endFrame_loneFailed {a : Assembly} (hlone : (s.flowsAt f).asms = [a]) (hbuf : a.buffer = none) :
    ∃ n, s.endFrame f a false =
      if a.refused then s.flowsPut f ((s.flowsAt f).endedLone a)
      else ((s.flowsPut f ((s.flowsAt f).endedLone a)).bump (flIx f) 0x1B).addSat (flIx f) 0x18 n := by
  unfold State.endFrame
  simp only [hlone, hbuf, List.map_cons, List.map_nil, if_true, Bool.false_eq_true, if_false]
  exact ⟨_, rfl⟩

theorem exec_mergeDeadline_lone {f : FlowId} {a : Assembly} (hlone : (s.flowsAt f.val).asms = [a])
    (hopen : a.ended = false)
    (hempty : ((s.endFrame f.val a false).flowsAt f.val).asms = []) :
    exec (.mergeDeadline f) s = .next (s.endFrame f.val a false) := by
  change execMergeDeadline f s = _
  unfold execMergeDeadline
  simp only [hlone, List.find?_cons, hopen, Bool.not_false, hempty, List.length_nil, State.endComplete]

theorem exec_mergeDeadline_ended {f : FlowId} (h : (s.flowsAt f.val).asms.all (·.ended) = true) :
    exec (.mergeDeadline f) s = .next s := by
  have hnone : (s.flowsAt f.val).asms.find? (fun a => !a.ended) = none :=
    List.find?_eq_none.mpr fun a ha => by simp [List.all_eq_true.mp h a ha]
  change execMergeDeadline f s = _
  simp only [execMergeDeadline, hnone]

/-! ### Buffers that the host releases -/

theorem bitsSet_one (b : Fin 4) : bitsSet 4 (1#8 <<< b.val).toNat = [b.val] := by
  revert b
  decide

theorem State.releaseReady_one {c b mask : Nat} (hmask : bitsSet 4 mask = [b]) (hready : s.bufState c b = 2)
    (hflip : s.flipNames c b = false) :
    s.releaseReady c mask = s.releaseBuf c b := by
  unfold State.releaseReady
  rw [hmask]
  exact if_pos ⟨hready, hflip⟩

theorem State.bufState_releaseBuf {c b : Nat} (h : s.bufState c b = 2) : (s.releaseBuf c b).bufState c b ≠ 2 := by
  obtain ⟨x, hx⟩ : ∃ x, (s.bufs c)[b]? = some x := by
    refine Option.isSome_iff_exists.mp (Option.isSome_iff_ne_none.mpr fun hnone => ?_)
    simp [State.bufState, hnone] at h
  have hfresh : ((s.releaseBuf c b).bufs c)[b]? = some freshBuf := State.buf_freeBuf hx
  simp [State.bufState, hfresh, freshBuf]

theorem State.bufs_dataZero (s : State) (a len c : Nat) : (s.dataZero a len).bufs c = s.bufs c := rfl

theorem exec_canvasZeroFillComplete {c : CanvasId} {b : Fin 4} {x : Buf} (hb : (s.bufs c.val)[b.val]? = some x)
    (hfill : x.filling0 = true) :
    exec (.canvasZeroFillComplete c b) s =
      .next ((s.dataZero (s.bufBase c.val b.val) (s.nat (cvIx c.val) 0x0B)).modBuf c.val b.val
        (fun y => { y with filling0 := false })) := by
  change execCanvasZeroFillComplete c b s = _
  simp only [execCanvasZeroFillComplete, hb, hfill, if_true]


/-- A packet of the flow's own source that joins its frame is counted, and shows its timestamp. -/
theorem State.flowPacket_counted (hf : f < 64) (hsrc : (s.flowsAt f).ssrc = some p.ssrc) (hdst : s.dst ≠ 3)
    (hfield : p.rows.any (·.field) = false) (hmode : s.nat (flIx f) 1 ≠ 3)
    (hskip : (s.flowsAt f).skipStamp ≠ some p.timestamp) (hended : (s.flowsAt f).endedStamp ≠ some p.timestamp)
    (hopen : (s.flowsAt f).asms.any (fun a => a.ended && a.stamp == p.timestamp) = false) :
    (s.flowPacket f port p).nat (flIx f) 0x16 = (s.nat (flIx f) 0x16 + 1) % 2 ^ 64 ∧
      (s.flowPacket f port p).nat (flIx f) 0x1D = p.timestamp := by
  obtain ⟨x, hjoin⟩ := State.flowPacket_joins (port := port) hsrc hdst hfield hmode hskip hended hopen
  have hmet : ((s.flowMet f port p.ssrc).flowsPut f x).nat (flIx f) 0x16 = s.nat (flIx f) 0x16 :=
    State.nat_flowMet hsrc (by decide) (by decide)
  have hw := State.writes_joinPacket ((s.flowMet f port p.ssrc).flowsPut f x) f port p
  have hix : flIx f ≠ 0x5000 := by
    unfold flIx
    omega
  rw [hjoin]
  constructor
  · refine (hw.nat (by decide) (by simp [joinPlaces, hix])).trans ?_
    rw [State.nat_putN_ne _ _ _ _ _ _ (dkey_ne (by decide) (by decide) fun _ => by decide), State.nat_add64, hmet]
  · exact (hw.nat (by decide) (by simp [joinPlaces, hix])).trans (State.nat_putN ..)

end Sys2Proof.Machine

namespace Sys2Proof.Proofs
open Sys2Proof.Machine

theorem releaseReadyBuffers_clauses (c : CanvasId) (b : Fin 4) (mask : Byte) (s : State) :
    (s.ozRuns = true → s.serves (cvIx c.val) = true → mask = 0 → exec (.releaseReadyBuffers c mask) s =
      .next (s.answer 0x02 (writeItem 0x02 (cvIx c.val) 0x14 1) 0x00 [])) ∧
    (s.ozRuns = true → s.serves (cvIx c.val) = true → mask = 1#8 <<< b.val → s.bufState c.val b.val = 2 →
      s.flipNames c.val b.val = false →
      Completes (.releaseReadyBuffers c mask) s (fun t => t.bufState c.val b.val ≠ 2 ∧
        t.nat (cvIx c.val) 0x10 = min (s.nat (cvIx c.val) 0x10 + 1) 0xFFFFFFFF)) := by
  have hexec (hrun : s.ozRuns = true) (hserve : s.serves (cvIx c.val) = true) : exec (.releaseReadyBuffers c mask) s =
      .next ((s.releaseReady c.val mask.toNat).answer 0x02 (writeItem 0x02 (cvIx c.val) 0x14 1) 0x00 []) :=
    congrArg Host.Outcome.next (State.hostWrite_served _ hrun hserve)
  constructor
  · intro hrun hserve hmask
    subst hmask
    exact hexec hrun hserve
  · intro hrun hserve hmask hready hflip
    subst hmask
    refine ⟨_, hexec hrun hserve, ?_⟩
    rw [State.releaseReady_one (bitsSet_one b) hready hflip]
    exact ⟨State.bufState_releaseBuf hready, State.nat_bump (s.freeBuf c.val b.val) ..⟩

theorem mergeDeadline_clause (f : FlowId) (a : Assembly) (s : State) (hlone : (s.flowsAt f.val).asms = [a])
    (hopen : a.ended = false) (hbuf : a.buffer = none) : Completes (.mergeDeadline f) s (fun t =>
      (t.flowsAt f.val).asms = [] ∧ (t.flowsAt f.val).endedStamp = some a.stamp ∧ t.mem = s.mem ∧
      (a.refused = true → t.dict = s.dict) ∧
      (a.refused = false → t.nat (flIx f.val) 0x1B = min (s.nat (flIx f.val) 0x1B + 1) 0xFFFFFFFF ∧
        s.EntriesBut t [(flIx f.val, 0x1B), (flIx f.val, 0x18)])) := by
  obtain ⟨n, hend⟩ := State.endFrame_loneFailed hlone hbuf
  have hflow : (s.endFrame f.val a false).flowsAt f.val = (s.flowsAt f.val).endedLone a := by
    rw [hend]
    split <;> exact State.flowsAt_put_self ..
  have hasms : ((s.endFrame f.val a false).flowsAt f.val).asms = [] := hflow ▸ FlowSt.asms_endedLone ..
  have hstamp : ((s.endFrame f.val a false).flowsAt f.val).endedStamp = some a.stamp := hflow ▸
      FlowSt.endedStamp_endedLone ..
  refine ⟨_, exec_mergeDeadline_lone hlone hopen hasms, hasms, hstamp, ?_, ?_, ?_⟩
  · exact State.mem_of_within
      ((State.within_endFrame (List.Subset.refl _) s f.val a false).mpr (State.within_refl _ _)) (by simp) (by simp)
  · intro hrefused
    rw [hend, if_pos hrefused]
    rfl
  · intro hcounted
    rw [hend, if_neg (by simp [hcounted])]
    constructor
    · exact (State.nat_putN_ne _ _ _ _ _ _ (dkey_ne (by decide) (by decide) fun _ => by decide)).trans
        (State.nat_bump ..)
    · intro i b hother
      exact (State.val_put_ne _ _ _ _ _ _ (hother (flIx f.val, 0x18) (by simp))).trans
        (State.val_put_ne _ _ _ _ _ _ (hother (flIx f.val, 0x1B) (by simp)))

theorem packetTaken_clauses (f : FlowId) (port : PortId) (p : RtpPacket) (s : State)
    (honly : ∀ g < 64, s.delivers g port.val p = decide (g = f.val)) (hdst : s.dst = 1 ∨ s.dst = 2) (hempty : s.rx = [])
    (hgoes : s.ingestPaused = false) (hlen : p.length ≤ 4194304) (hsrc : (s.flowsAt f.val).ssrc = some p.ssrc)
    (hmode : s.nat (flIx f.val) 1 ≠ 3) :
    (p.rows.any (·.field) = true → Completes (.st2110Packet port p) s (fun t =>
      t.nat (flIx f.val) 0x19 = min (s.nat (flIx f.val) 0x19 + 1) 0xFFFFFFFF ∧ (t.flowsAt f.val).asms =
          (s.flowsAt f.val).asms ∧
      t.rx = [] ∧ t.mem = s.mem)) ∧
    (p.rows.any (·.field) = false → (s.flowsAt f.val).skipStamp ≠ some p.timestamp →
      (s.flowsAt f.val).endedStamp ≠ some p.timestamp →
      (s.flowsAt f.val).asms.any (fun a => a.ended && a.stamp == p.timestamp) = false →
      Completes (.st2110Packet port p) s (fun t =>
        t.nat (flIx f.val) 0x16 = (s.nat (flIx f.val) 0x16 + 1) % 2 ^ 64 ∧ t.nat (flIx f.val) 0x1D = p.timestamp ∧ t.rx
            = [])) := by
  obtain ⟨v, hv, hexec⟩ := exec_st2110Packet_through (f := f) (by omega) (by omega) (State.flowsOf_only honly) hempty
      hgoes hlen
  have hflows : v.flowsAt f.val = s.flowsAt f.val := State.flowsAt_eq (hv .flows (by simp)) _
  have hdict : v.dict = s.dict := hv .dict (by simp)
  have hvdst : v.dst ≠ 3 := by
    have h : v.dst = s.dst := State.nat_of_dict hdict ..
    omega
  have hvsrc : (v.flowsAt f.val).ssrc = some p.ssrc := hflows ▸ hsrc
  have hrx : ((v.flowPacket f.val port.val p).queueCommit (useFlow f.val)).rx = [] := by
    have hkept := (State.within_flowPacket (List.Subset.refl _) v f.val port.val p).mpr (State.within_refl _ _)
    have hthrough : (v.flowPacket f.val port.val p).rx = v.rx := hkept .rx (by simp)
    have hentered : v.rx = s.rx := hv .rx (by simp)
    exact hthrough.trans (hentered.trans hempty)
  constructor
  · intro hfield
    have hmet := State.within_flowMet (port := port.val) v hvsrc
    refine ⟨_, hexec, ?_, ?_, hrx, ?_⟩
    · rw [State.flowPacket_field hvdst hfield]
      refine (State.nat_bump (v.flowMet f.val port.val p.ssrc) ..).trans ?_
      rw [State.nat_flowMet hvsrc (by decide) (by decide), State.nat_of_dict hdict]
    · rw [State.flowPacket_field hvdst hfield]
      exact (State.flowsAt_flowMet hvsrc).1.trans (congrArg FlowSt.asms hflows)
    · rw [State.flowPacket_field hvdst hfield]
      exact (State.mem_of_within hmet (by simp) (by simp)).trans (State.mem_of_within hv (by simp) (by simp))
  · intro hfield hskip hended hopen
    obtain ⟨hcount, hstamp⟩ := State.flowPacket_counted f.isLt (port := port.val) hvsrc hvdst hfield
      (by rwa [State.nat_of_dict hdict]) (by rwa [hflows]) (by rwa [hflows]) (by rwa [hflows])
    exact ⟨_, hexec, hcount.trans (by rw [State.nat_of_dict hdict]), hstamp, hrx⟩

theorem packetHeld_clauses (f : FlowId) (port : PortId) (p : RtpPacket) (s : State)
    (honly : ∀ g < 64, s.delivers g port.val p = decide (g = f.val)) (hlow : 1 ≤ s.dst) (hhigh : s.dst ≤ 3)
    (hpaused : s.ingestPaused = true) :
    (s.rxBytes (fun y => y.port == port.val && y.flow == f.val && !y.shared) + p.length ≤ s.flowReserve f.val →
      Completes (.st2110Packet port p) s (fun t =>
        t.rx = s.rx ++ [{ port := port.val, flow := f.val, shared := false, packet := p }] ∧ t.dict = s.dict ∧ t.mem =
            s.mem)) ∧
    (s.flowReserve f.val < s.rxBytes (fun y => y.port == port.val && y.flow == f.val && !y.shared) + p.length →
      4194304 < s.rxBytes (fun y => y.port == port.val && y.shared) + p.length →
      exec (.st2110Packet port p) s = .next (s.bump 0x25F0 (5 + port.val))) := by
  have honlyFlow := State.flowsOf_only honly
  have hexec := exec_st2110Packet (by omega) (by omega) honlyFlow
  rw [State.rxDrain_paused hpaused] at hexec
  constructor
  · intro hroom
    have hheld : (s.rxTaken f.val port.val false p).ingestPaused = true := hpaused
    rw [State.rxHold_reserved honlyFlow hroom, State.rxDrain_paused hheld] at hexec
    exact ⟨_, hexec, rfl, rfl, rfl⟩
  · intro hfull hshared
    have hheld : (s.bump 0x25F0 (5 + port.val)).ingestPaused = true := hpaused
    rw [hexec, State.rxHold_dropped hfull hshared, State.rxDrain_paused hheld]

/-- Settles O30: what a packet, the end of a frame, a released buffer and its fill of zeros leave. -/
theorem flowsFillTheirCanvases : Obligations.FlowsFillTheirCanvases := by
  unfold Obligations.FlowsFillTheirCanvases
  refine ⟨fun f port p s => ⟨?_, ?_, ?_⟩, fun f port a s => ⟨?_, exec_mergeDeadline_ended, ?_, ?_⟩,
      fun c b mask x s => ?_⟩
  · exact fun hdst => congrArg Host.Outcome.next (if_pos hdst)
  · exact packetTaken_clauses f port p s
  · exact packetHeld_clauses f port p s
  · exact mergeDeadline_clause f a s
  · intro hmode hstate
    exact ⟨_, congrArg Host.Outcome.next (if_pos ⟨hmode, hstate⟩), State.nat_putN ..,
        (State.onlyEntries_putN (s.flowsPut _ _) _ _ _).2, rfl⟩
  · exact fun hmode => completes_of_putN (congrArg Host.Outcome.next (if_pos hmode))
  · obtain ⟨hnone, hone⟩ := releaseReadyBuffers_clauses c b mask s
    refine ⟨hnone, hone, fun hb hfill => ⟨_, exec_canvasZeroFillComplete hb hfill, ?_, rfl⟩⟩
    rw [State.bufs_modBuf, State.bufs_dataZero, List.getElem?_modify, hb]
    simp

end Sys2Proof.Proofs

/-! PROOF. The parts that requests of courses, pegs and channels may change. -/

namespace Sys2Proof.Machine

section
variable {s₀ : State} {L : List Part}

@[simp] theorem State.within_domainsPut (h : [.domains] ⊆ L) (s : State) (k : Nat) (x : DomainSt) :
    s₀.Within L (s.domainsPut k x) ↔ s₀.Within L s :=
  State.within_of_taking rfl h

@[simp] theorem State.within_setChan (h : [.dict] ⊆ L) (s : State) (c st : Nat) :
    s₀.Within L (s.setChan c st) ↔ s₀.Within L s := by
  simp_all [State.setChan]

@[simp] theorem State.within_mirrorSlotsOn (h : [.dict, .slots] ⊆ L) (s : State) (k : Nat) :
    s₀.Within L (s.mirrorSlotsOn k) ↔ s₀.Within L s := by
  simp_all [State.mirrorSlotsOn]

@[simp] theorem State.within_toSpinning (h : [.dict, .bow, .plc, .ledger, .fet, .col, .slots, .mir, .runs, .svc] ⊆ L)
    (s : State) (k : Nat) :
    s₀.Within L (s.toSpinning k) ↔ s₀.Within L s := by
  simp_all [State.toSpinning]

@[simp] theorem State.within_courseRequest (h : [.dict, .frm, .bow, .plc, .lanes, .ledger, .fet, .col, .slots, .mir,
    .capo, .capoC, .runs, .svc] ⊆ L) (s : State) (k v : Nat) :
    s₀.Within L (s.courseRequest k v) ↔ s₀.Within L s := by
  simp_all [State.courseRequest]

@[simp] theorem State.within_pegsFirst (h : [.pegs] ⊆ L) (s : State) :
    s₀.Within L s.pegsFirst ↔ s₀.Within L s := by
  simp_all [State.pegsFirst]

@[simp] theorem State.within_chanExits (h : [.dict] ⊆ L) (s : State) (c : Nat) :
    s₀.Within L (s.chanExits c) ↔ s₀.Within L s := by
  simp_all [State.chanExits]

end

end Sys2Proof.Machine

/-! PROOF. What the steps of the start and of the exit from STANDBY may write. -/

namespace Sys2Proof.Machine

open Sys2Proof

section

variable {L : List Place} {D : Tab Val}

@[simp] theorem State.dict_persist (s : State) (key : Nat) (v : Val) :
    (s.persist key v).dict = s.dict := rfl

@[simp] theorem State.dict_discardFrames (s : State) (f : Nat) (canvas : Option Nat) :
    (s.discardFrames f canvas).dict = s.dict :=
  ((State.within_discardFrames (L := [.canvases, .flows]) (by simp) ..).mpr (State.within_refl _ _)) .dict (by simp)

@[simp] theorem State.dict_flowAnew (s : State) (f : Nat) (canvas : Option Nat) (skip : Option Nat) :
    (s.flowAnew f canvas skip).dict = s.dict := by
  simp [State.flowAnew]

@[simp] theorem State.writes_setChan (h : [.column 0x5010 1] ⊆ L) (s : State) (c st : Nat) :
    DictIn L D (s.setChan c st).dict ↔ DictIn L D s.dict := by
  simp_all [State.setChan, State.putN, dictIn_column 0x5010]

@[simp] theorem State.dict_pegsFirst (s : State) :
    s.pegsFirst.dict = s.dict :=
  ((State.within_pegsFirst (L := [.pegs]) (by simp) ..).mpr (State.within_refl _ _)) .dict (by simp)

@[simp] theorem State.writes_chanExits (h : [.column 0x5010 1, .column 0x5010 0xB] ⊆ L) (s : State) (c : Nat) :
    DictIn L D (s.chanExits c).dict ↔ DictIn L D s.dict := by
  simp_all [State.chanExits, State.bump, State.addSat, State.putN, dictIn_column 0x5010]

@[simp] theorem State.writes_boot (h : [.entry 0x1000 6, .entry 0x1000 7, .entry 0x7F00 7, .entry 0x7F00 0xB,
    .entry 0x7F00 0xD] ⊆ L) (s : State) :
    DictIn L D s.boot.dict ↔ DictIn L D s.dict := by
  unfold State.boot
  split <;> simp_all [State.putN]

@[simp] theorem State.dict_flowsAfterStandby (s : State) :
    s.flowsAfterStandby.dict = s.dict :=
  ((State.within_flowsAfterStandby (L := [.canvases, .flows]) (by simp) ..).mpr (State.within_refl _ _)) .dict (by simp)

@[simp] theorem State.dict_gainPersist (s : State) :
    s.gainPersist.dict = s.dict :=
  ((State.within_gainPersist (L := [.store]) (by simp) ..).mpr (State.within_refl _ _)) .dict (by simp)

end

end Sys2Proof.Machine

/-! PROOF. What the end of the start keeps of the device state and of the domains' modes (R19, R526). -/

namespace Sys2Proof.Machine

variable {s t u : State} {k d : Nat}

/-- The entries that the end of the start sets once: the device state, and the mode of each domain. -/
def startEntry (i b : Nat) : Prop := i = 0x4200 ∧ b = 1 ∨ 0x4010 ≤ i ∧ i < 0x4072 ∧ b = 3

/-- Outside LIT the device state, and the mode of each domain, stay. -/
def State.StartKept (s t : State) : Prop := s.dst ≠ 2 → ∀ i b, startEntry i b → t.nat i b = s.nat i b

theorem State.StartKept.dst (h : s.StartKept t) (hs : s.dst ≠ 2) : t.dst = s.dst := h hs _ _ (Or.inl ⟨rfl, rfl⟩)

theorem State.StartKept.mode (h : s.StartKept t) (hs : s.dst ≠ 2) (hd : d < 98) : t.nat (domIx d) 3 = s.nat (domIx d) 3
    :=
  h hs _ _ (Or.inr ⟨by simp [domIx], by unfold domIx; omega, rfl⟩)

theorem State.StartKept.refl (s : State) : s.StartKept s := fun _ _ _ _ => rfl

theorem State.StartKept.trans (h : s.StartKept t) (g : t.StartKept u) : s.StartKept u := fun hs i b hb =>
  (g ((h.dst hs).trans_ne hs) i b hb).trans (h hs i b hb)

theorem State.startKept_of_dict (h : t.dict = s.dict) : s.StartKept t := fun _ i b _ => State.nat_of_dict h i b

theorem startEntry_lt {i b : Nat} (h : startEntry i b) : b < 256 := by
  unfold startEntry at h
  omega

theorem State.startKept_of_dictIn {L : List Place} (h : DictIn L s.dict t.dict) (hout : ∀ i b,
    startEntry i b → ∀ p ∈ L, ¬ p.has i b) :
    s.StartKept t := fun _ i b hb => h.nat (startEntry_lt hb) (hout i b hb)

theorem State.startKept_putN (s : State) {i b : Nat} (n : Nat) (hb : b < 256) (h : ¬ startEntry i b) : s.StartKept
    (s.putN i b n) :=
  fun _ j c hc => State.nat_putN_ne _ _ _ _ _ _ (dkey_ne (startEntry_lt hc) hb fun hij hcb => h (by rwa [← hij, ← hcb]))

theorem State.startKept_each {l : List Nat} {f : State → Nat → State} (h : ∀ u : State, ∀ j ∈ l, u.StartKept (f u j))
    (s : State) :
    s.StartKept (s.each l f) :=
  State.each_invariant (P := s.StartKept) (fun u j hj hu => hu.trans (h u j hj)) (State.StartKept.refl s)

theorem State.startKept_darkIfDone (s : State) : s.StartKept s.darkIfDone := fun hs => by
  rw [State.darkIfDone, if_neg fun h => hs h.1]
  exact State.StartKept.refl s hs

/-! ### Courses -/

theorem not_startEntry_crs (hk : k < 32) (b : Nat) : ¬ startEntry (crs k) b := by
  unfold startEntry crs
  omega

theorem State.startKept_accrue (s : State) : s.StartKept s.accrue := State.startKept_of_dict rfl

theorem State.StartKept.ite {c : Prop} [Decidable c] (ht : s.StartKept t) (hu : s.StartKept u) : s.StartKept
    (if c then t else u) := by
  split <;> assumption

/-- The place holds no entry that the end of the start sets. -/
def Place.startFree : Place → Bool
  | .entry i b => !(i == 0x4200 && b == 1) && !(decide (0x4010 ≤ i) && decide (i < 0x4072) && b == 3)
  | .column lo b => b != 1 && b != 3 || decide (0x4201 ≤ lo)
  | .rows lo => decide (0x4201 ≤ lo)

theorem Place.not_has_of_startFree {L : List Place} (h : L.all Place.startFree = true) (i b : Nat)
    (hb : startEntry i b) :
    ∀ p ∈ L, ¬ p.has i b := by
  intro p hp hhas
  have hfree : p.startFree = true := List.all_eq_true.mp h p hp
  unfold startEntry at hb
  cases p <;> simp only [Place.has] at hhas <;> simp [Place.startFree] at hfree <;> omega

theorem State.startKept_of_places {L : List Place} (h : DictIn L s.dict t.dict) (hfree : L.all Place.startFree = true)
    : s.StartKept t :=
  State.startKept_of_dictIn h (Place.not_has_of_startFree hfree)

theorem State.startKept_hushNoted (s : State) (k : Nat) : s.StartKept (s.hushNoted k) :=
  State.startKept_of_places ((State.writes_hushNoted (List.Subset.refl _) s k).mpr (DictIn.refl _ _)) rfl

theorem State.startKept_runStart (s : State) (k : Nat) : s.StartKept (s.runStart k) :=
  State.startKept_of_places ((State.writes_runStart (List.Subset.refl _) s k).mpr (DictIn.refl _ _)) rfl

theorem State.startKept_emptyPartition (s : State) (k : Nat) : s.StartKept (s.emptyPartition k) :=
  State.startKept_of_places ((State.writes_emptyPartition (List.Subset.refl _) s k).mpr (DictIn.refl _ _)) rfl

theorem State.startKept_crs (hk : k < 32) (s : State) {b : Nat} (n : Nat) (hb : b < 256) : s.StartKept
    (s.putN (crs k) b n) :=
  State.startKept_putN s n hb (not_startEntry_crs hk b)

/-- A change of state: its time in LIT noted, the state itself, and what follows from it. -/
theorem State.setCst_form (s : State) (k n : Nat) : ∃ v : State,
    v.dict = (if s.cst k = 5 then s.hushNoted k else s).dict ∧
    ∃ w : State, (w = (v.putN (crs k) 1 n).runStart k ∨ w = ((v.putN (crs k) 1 n).runStart k).emptyPartition k) ∧
      (s.setCst k n = w ∨ s.setCst k n = w.darkIfDone) := by
  have hor (c : Prop) [Decidable c] (a b : State) : (if c then a else b) = a ∨ (if c then a else b) = b := by
    split <;> simp
  unfold State.setCst
  refine ⟨_, ?_, _, hor _ _ _, (hor _ _ _).symm⟩
  (repeat' split) <;> rfl

theorem State.startKept_setCst (hk : k < 32) (s : State) (n : Nat) : s.StartKept (s.setCst k n) := by
  obtain ⟨v, hv, w, hw, hset⟩ := s.setCst_form k n
  have hnote : s.StartKept v :=
    (State.StartKept.ite (State.startKept_hushNoted s k) (State.StartKept.refl s)).trans (State.startKept_of_dict hv)
  have hrun : s.StartKept ((v.putN (crs k) 1 n).runStart k) :=
    (hnote.trans (State.startKept_crs hk v n (by decide))).trans (State.startKept_runStart _ k)
  have hkept : s.StartKept w := by
    rcases hw with rfl | rfl
    · exact hrun
    · exact hrun.trans (State.startKept_emptyPartition _ k)
  rcases hset with h | h <;> rw [h]
  · exact hkept
  · exact hkept.trans (State.startKept_darkIfDone w)

theorem State.startKept_toStopped (hk : k < 32) (s : State) : s.StartKept (s.toStopped k) := by
  have hrest (u : State) : u.StartKept (((((u.setArm k false).setEmitOk k false).mirrorStop k).dropModel k).runAbort k)
      :=
    State.startKept_of_places (L := [.column 0x2200 0x15, .column 0x2200 0x1E, .column 0x4010 4, .column 0x4010 0x12])
      (by simp [DictIn.refl]) rfl
  exact State.StartKept.ite (State.StartKept.refl s) ((State.startKept_setCst hk s 0).trans (hrest _))

theorem State.startKept_toHushed (hk : k < 32) (s : State) : s.StartKept (s.toHushed k) := by
  have hdark (u : State) (x : PlaceSt) : u.StartKept ((u.setArm k false).plcPut k x) := State.startKept_of_dict rfl
  have hnote (x : PlaceSt) : s.StartKept (((s.setCst k 5).setArm k false).plcPut k x) :=
    (State.startKept_setCst hk s 5).trans (hdark _ x)
  exact State.StartKept.ite (State.StartKept.refl s)
      (State.StartKept.ite (hnote _) ((hnote _).trans (State.startKept_hushNoted _ k)))

theorem State.startKept_hushIfSpinning (hk : k < 32) (s : State) : s.StartKept (s.hushIfSpinning k) :=
  State.StartKept.ite ((State.startKept_toHushed hk s).trans (State.startKept_of_dict (State.dict_hushCourse ..)))
    (State.StartKept.refl s)

theorem State.startKept_setFlag (hk : k < 32) (s : State) {b : Nat} (i : Nat) (v : Bool) (hb : b < 256) :
    s.StartKept (s.setFlag (crs k) b i v) := State.startKept_crs hk s _ hb

theorem State.startKept_causeBit (hk : k < 32) (s : State) (b : Nat) : s.StartKept (s.causeBit k b) := by
  have hset : s.StartKept (s.accrue.setFlag (crs k) 3 b true) :=
    (State.startKept_accrue s).trans (State.startKept_setFlag hk _ _ _ (by decide))
  exact State.StartKept.ite (State.StartKept.refl s)
    (State.StartKept.ite (hset.trans (State.startKept_crs hk _ _ (by decide))) hset)

theorem State.startKept_setCause (hk : k < 32) (s : State) (b : Nat) : s.StartKept (s.setCause k b) :=
  (State.startKept_causeBit hk s b).trans (State.startKept_hushIfSpinning hk _)

theorem State.startKept_clearCause (hk : k < 32) (s : State) (b : Nat) : s.StartKept (s.clearCause k b) :=
  State.StartKept.ite ((State.startKept_accrue s).trans (State.startKept_setFlag hk _ _ _ (by decide)))
      (State.StartKept.refl s)

theorem State.startKept_retrainRefresh (hk : k < 32) (s : State) : s.StartKept (s.retrainRefresh k) :=
  State.StartKept.ite (State.startKept_setCause hk s 5) (State.startKept_clearCause hk s 5)

theorem State.startKept_shaftHush (s : State) (j : Nat) : s.StartKept (s.shaftHush j) := by
  refine State.startKept_each (fun u k hk => ?_) s
  have hlt : k < 32 := List.mem_range.mp (List.mem_filter.mp hk).1
  exact State.StartKept.ite (State.startKept_setCause hlt u 6) (State.startKept_clearCause hlt u 6)

theorem State.startKept_setShaft {j : Nat} (hj : j < 8) (s : State) (n : Nat) : s.StartKept (s.setShaft j n) := by
  refine (State.startKept_putN s n (by decide) ?_).trans (State.startKept_shaftHush _ j)
  unfold startEntry shIx
  omega

end Sys2Proof.Machine

/-! PROOF. Start, the entry to STANDBY and its exit (R19, R458, R526). -/

namespace Sys2Proof.Machine

variable {s t u : State} {k d : Nat}

theorem State.startKept_put (s : State) {i b : Nat} (v : Val) (hb : b < 256) (h : ¬ startEntry i b) : s.StartKept
    (s.put i b v) :=
  fun _ j c hc => congrArg (fun v => (valInt v).toNat)
    (s.val_put_ne i b j c v (dkey_ne (startEntry_lt hc) hb fun hij hcb => h (by rwa [← hij, ← hcb])))

theorem State.startKept_laserSummary (s : State) : s.StartKept s.laserSummary := by
  have hflag (u : State) (i : Nat) (v : Bool) : u.StartKept (u.setFlag 0x4100 3 i v) :=
    State.startKept_putN u _ (by decide) (by simp [startEntry])
  exact (hflag _ _ _).trans (hflag _ _ _)

theorem not_startEntry_laser {b : Nat} (hb : b ≠ 1) : ¬ startEntry (laserIx k) b := by
  unfold startEntry laserIx
  omega

theorem State.startKept_laserUpdate (hk : k < 32) (s : State) : s.StartKept (s.laserUpdate k) := by
  have hput (u : State) {b : Nat} (v : Val) (hlt : b < 256) (hne : b ≠ 1) : u.StartKept (u.put (laserIx k) b v) :=
    State.startKept_put u v hlt (not_startEntry_laser hne)
  have hhot (u : State) (c : Prop) [Decidable c] : u.StartKept
      (if c then (u.bump (laserIx k) 0x0A).setCause k 2 else u) :=
    State.StartKept.ite ((hput u _ (by decide) (by decide)).trans (State.startKept_setCause hk _ 2))
        (State.StartKept.refl u)
  unfold State.laserUpdate
  dsimp only
  split
  · exact ((hput s _ (by decide) (by decide)).trans (hput _ _ (by decide) (by decide))).trans
      (State.startKept_laserSummary _)
  · split
    · exact State.StartKept.refl s
    · refine (State.StartKept.trans ?_ (hput _ _ (by decide) (by decide))).trans (State.startKept_laserSummary _)
      refine (State.StartKept.trans ?_ (hhot _ _)).trans (hput _ _ (by decide) (by decide))
      exact (State.StartKept.ite (hput s _ (by decide) (by decide)) (State.StartKept.refl s)).trans
          (hput _ _ (by decide) (by decide))

theorem State.startKept_low (s : State) {i b : Nat} (v : Val) (hb : b < 256) (hi : i < 0x4000) : s.StartKept
    (s.put i b v) :=
  State.startKept_put s v hb (by unfold startEntry; omega)

theorem State.startKept_mirrorSlotsOn (hk : k < 32) (s : State) : s.StartKept (s.mirrorSlotsOn k) := by
  refine State.StartKept.trans (State.startKept_each (fun u i hi => ?_) s)
    (State.startKept_of_places ((State.writes_reschedule (List.Subset.refl _) _).mpr (DictIn.refl _ _)) rfl)
  have hlt : 0x3000 + i < 0x4000 := by
    simp only [List.mem_cons, List.not_mem_nil, or_false] at hi
    omega
  exact (State.startKept_low u _ (by decide) hlt).trans (State.startKept_low _ _ (by decide) hlt)

theorem State.startKept_plcPut (s : State) (k : Nat) (x : PlaceSt) : s.StartKept (s.plcPut k x) :=
    State.startKept_of_dict rfl

theorem State.startKept_bowPut (s : State) (k : Nat) (x : BowSt) : s.StartKept (s.bowPut k x) :=
    State.startKept_of_dict rfl

theorem State.startKept_mirPut (s : State) (k : Nat) (x : MirSt) : s.StartKept (s.mirPut k x) :=
    State.startKept_of_dict rfl

theorem State.startKept_toSpinning (hk : k < 32) (s : State) : s.StartKept (s.toSpinning k) := by
  have hput (u : State) {i b : Nat} (v : Val) (hb : b < 256) (hi : i < 0x4000) : u.StartKept (u.put i b v) :=
    State.startKept_low u v hb hi
  have hslots (m : MirSt) : s.StartKept (((s.setCst k 1).mirPut k m).mirrorSlotsOn k) :=
    ((State.startKept_setCst hk s 1).trans (State.startKept_mirPut _ k m)).trans (State.startKept_mirrorSlotsOn hk _)
  unfold State.toSpinning
  dsimp only
  refine ((State.StartKept.trans ?_ (hput _ _ (by decide) (by unfold crs; omega))).trans (State.startKept_plcPut _ k
      _)).trans
    (State.startKept_bowPut _ k _)
  refine (State.StartKept.trans ?_ (hput _ _ (by decide) (by omega))).trans (hput _ _ (by decide) (by omega))
  refine (State.StartKept.trans ?_ (hput _ _ (by decide) (by omega))).trans (hput _ _ (by decide) (by omega))
  exact ((hslots _).trans (hput _ _ (by decide) (by omega))).trans (hput _ _ (by decide) (by omega))

theorem State.startKept_courseRequest (hk : k < 32) (s : State) (v : Nat) : s.StartKept (s.courseRequest k v) := by
  have hasked : s.StartKept (s.accrue.putN (crs k) 2 v) :=
    (State.startKept_accrue s).trans (State.startKept_crs hk _ v (by decide))
  have hcause (u : State) : u.StartKept (if v = 5 then u.setCause k 9 else u.clearCause k 9) :=
    State.StartKept.ite (State.startKept_setCause hk u 9) (State.startKept_clearCause hk u 9)
  have hspins (u : State) : u.StartKept (((u.toSpinning k).retrainRefresh k).hushIfSpinning k) :=
    ((State.startKept_toSpinning hk u).trans (State.startKept_retrainRefresh hk _)).trans
        (State.startKept_hushIfSpinning hk _)
  have h := hasked.trans (hcause _)
  exact State.StartKept.ite (State.StartKept.ite h (h.trans (State.startKept_toStopped hk _)))
    (State.StartKept.ite (h.trans (hspins _)) h)

/-! ### Domains whose mode is not automatic -/

theorem State.tunedValues_fixed (hmode : s.nat (domIx d) 3 ≠ 1) : s.tunedValues d = [] := by
  refine List.filterMap_eq_nil_iff.mpr fun p _ => ?_
  simp [State.tuned, hmode]

/-- A domain waits for nothing. -/
def State.Waitless (s : State) : Prop := ∀ d < 98, (s.domainsAt d).waiting = []

theorem State.domainLoad_nothing (hnone : (s.domainsAt d).waiting = []) : s.domainLoad d = s.domainsPut d
    { s.domainsAt d with waiting := [] } := by
  simp [State.domainLoad, hnone, State.each]

/-- From `s` only the record of domain `d` has moved, and it waits for nothing. -/
def State.OnlyDomain (d : Nat) (s t : State) : Prop :=
  s.StartKept t ∧ s.Within [.dict, .domains, .free, .pegs] t ∧ (t.domainsAt d).waiting = [] ∧
    ∀ e, e ≠ d → t.domainsAt e = s.domainsAt e

theorem State.OnlyDomain.trans (h : State.OnlyDomain d s t) (g : State.OnlyDomain d t u) : State.OnlyDomain d s u := by
  obtain ⟨hkept, hw, -, hother⟩ := h
  obtain ⟨hkept', hw', hnone, hother'⟩ := g
  exact ⟨hkept.trans hkept', hw.trans hw', hnone, fun e he => (hother' e he).trans (hother e he)⟩

theorem State.onlyDomain_put (s : State) {x : DomainSt} (hnone : x.waiting = []) :
    State.OnlyDomain d s (s.domainsPut d x) := by
  have hat : (s.domainsPut d x).domainsAt d = x := tgetD_tput_self ..
  exact ⟨State.startKept_of_dict rfl, by simp, by rw [hat, hnone], fun e he => tgetD_tput_other _ _ _ _ he.symm⟩

/-- What moves no domain keeps a domain idle. -/
theorem State.OnlyDomain.of_within (h : State.OnlyDomain d s t) (hkept : t.StartKept u) (hw : t.Within [.dict, .free,
    .pegs] u) :
    State.OnlyDomain d s u := by
  obtain ⟨hkept', hw', hnone, hother⟩ := h
  have hdomains : u.domains = t.domains := hw .domains (by simp)
  have hat (e : Nat) : u.domainsAt e = t.domainsAt e := congrArg (fun l => tgetD l ({} : DomainSt) e) hdomains
  exact ⟨hkept'.trans hkept, hw'.trans (hw.mono (by simp)), by rw [hat, hnone], fun e he => (hat e).trans (hother e he)⟩

theorem State.onlyDomain_frame (hnone : (s.domainsAt d).waiting = []) (hlate : (s.domainsAt d).late = []) :
    State.OnlyDomain d s (s.domainFrame d k) := by
  have hputs (x y : DomainSt) (hx : x.waiting = []) (hy : y.waiting = []) :
      State.OnlyDomain d s ((s.domainsPut d x).domainsPut d y) :=
    (State.onlyDomain_put s hx).trans (State.onlyDomain_put _ hy)
  unfold State.domainFrame
  dsimp only
  rw [hnone, hlate]
  exact hputs _ _ rfl rfl

theorem not_startEntry_domain {b : Nat} (hb : b ≠ 3) (hb' : b ≠ 1) : ¬ startEntry (domIx d) b := by
  unfold startEntry
  omega

/-- Free-running temperatures that are used up. -/
def State.freeUsed (s : State) (n : Nat) : State := { s with free := s.free + n }

@[simp] theorem State.within_freeUsed {s₀ : State} {L : List Part} (h : [.free] ⊆ L) (s : State) (n : Nat) :
    s₀.Within L (s.freeUsed n) ↔ s₀.Within L s := State.within_of_taking rfl h

/-- What `evaluate` shows in the domain's entries before it takes new values. -/
def State.evaluated (s : State) (d : Nat) (t : Rat) : State :=
  let s1 := (s.domainsPut d { s.domainsAt d with used := some t }).freeUsed (if (s.keyTemp d).isSome then 0 else 1)
  ((s1.putF (domIx d) 6 t).setFlag (domIx d) 4 2 (s.keyFailed d)).setFlag (domIx d) 4 3 (s.points d).isEmpty

theorem State.onlyDomain_evaluated (hnone : (s.domainsAt d).waiting = []) (t : Rat) : State.OnlyDomain d s
    (s.evaluated d t) := by
  have hput (u : State) {b : Nat} (v : Val) (hlt : b < 256) (hb : b ≠ 3) (hb' : b ≠ 1) : u.StartKept
      (u.put (domIx d) b v) :=
    State.startKept_put u v hlt (not_startEntry_domain hb hb')
  have hfree (u : State) (n : Nat) : u.StartKept (u.freeUsed n) := State.startKept_of_dict rfl
  have hfirst : State.OnlyDomain d s (s.domainsPut d { s.domainsAt d with used := some t }) := State.onlyDomain_put s
      hnone
  refine hfirst.of_within (State.StartKept.trans ?_ (hput _ _ (by decide) (by decide) (by decide)))
      (by simp [State.evaluated])
  refine State.StartKept.trans ?_ (hput _ _ (by decide) (by decide) (by decide))
  exact (hfree _ _).trans (hput _ _ (by decide) (by decide) (by decide))

theorem State.onlyDomain_pegsRefresh (h : State.OnlyDomain d s t) : State.OnlyDomain d s t.pegsRefresh :=
  h.of_within (State.startKept_of_dict (State.dict_pegsRefresh t)) (by simp)

/-- The values `all` join those that wait, and apply where the domain is idle. -/
def State.valuesTaken (s2 : State) (d : Nat) (t : Rat) (all : List (Nat × Val)) : State :=
  let fenced := (s2.domainCourse d).any (fun k => (s2.frmAt k).fenced && s2.cst k != 0)
  let x : DomainSt :=
    if fenced then
      { waiting := (s2.domainsAt d).waiting.filter (fun p => atFrameKey p.1) ++ s2.unlike (all.filter (fun p =>
          !atFrameKey p.1))
        late := all.filter (fun p => atFrameKey p.1), used := some t }
    else { waiting := s2.unlike all, used := some t }
  let s3 := (s2.domainsPut d x).pegsRefresh
  if s3.domainIdle d then
    match s3.domainCourse d with
    | some k => s3.domainFrame d k
    | none => s3
  else s3

theorem State.evaluate_eq (s : State) (d : Nat) (hrun : (s.domainCourse d).any (fun k => (s.runsAt k).active) = false) :
    ∃ t, s.evaluate d = (s.evaluated d t).valuesTaken d t ((s.evaluated d t).tunedValues d) := by
  unfold State.evaluate
  rw [if_neg (by simp [hrun])]
  exact ⟨_, rfl⟩

theorem State.onlyDomain_valuesTaken (hnone : (s.domainsAt d).waiting = []) (t : Rat) : State.OnlyDomain d s
    (s.valuesTaken d t []) := by
  have htaken (x : DomainSt) (hx : x.waiting = []) (hlate : x.late = []) (k : Nat) :
      State.OnlyDomain d s (s.domainsPut d x).pegsRefresh ∧ State.OnlyDomain d s
          ((s.domainsPut d x).pegsRefresh.domainFrame d k) := by
    have hfirst : State.OnlyDomain d s (s.domainsPut d x).pegsRefresh := State.onlyDomain_pegsRefresh
        (State.onlyDomain_put s hx)
    have hat : (s.domainsPut d x).pegsRefresh.domainsAt d = x := by
      have hkept : (s.domainsPut d x).pegsRefresh.domains = (s.domainsPut d x).domains :=
        ((State.within_pegsRefresh (List.Subset.refl _) _).mpr (State.within_refl _ _)) .domains (by simp)
      exact (congrArg (fun l => tgetD l ({} : DomainSt) d) hkept).trans (tgetD_tput_self ..)
    exact ⟨hfirst, hfirst.trans (State.onlyDomain_frame (by rw [hat, hx]) (by rw [hat, hlate]))⟩
  unfold State.valuesTaken
  simp only [hnone, State.unlike, List.filter_nil, List.append_nil, ite_self]
  split
  · split
    · exact (htaken _ rfl rfl _).2
    · exact (htaken _ rfl rfl 0).1
  · exact (htaken _ rfl rfl 0).1

theorem State.onlyDomain_evaluate (hs : s.dst ≠ 2) (hmode : s.nat (domIx d) 3 ≠ 1) (hd : d < 98)
    (hnone : (s.domainsAt d).waiting = []) : State.OnlyDomain d s (s.evaluate d) := by
  by_cases hrun : (s.domainCourse d).any (fun k => (s.runsAt k).active) = true
  · rw [State.evaluate, if_pos hrun]
    exact ⟨State.StartKept.refl s, State.within_refl _ _, hnone, fun _ _ => rfl⟩
  · obtain ⟨t, heval⟩ := State.evaluate_eq s d (by simpa using hrun)
    have hshown : State.OnlyDomain d s (s.evaluated d t) := State.onlyDomain_evaluated hnone t
    have hvalues : (s.evaluated d t).tunedValues d = [] := State.tunedValues_fixed (by rwa [hshown.1.mode hs hd])
    rw [heval, hvalues]
    exact hshown.trans (State.onlyDomain_valuesTaken hshown.2.2.1 t)

theorem State.onlyDomain_load (hnone : (s.domainsAt d).waiting = []) : State.OnlyDomain d s (s.domainLoad d) := by
  rw [State.domainLoad_nothing hnone]
  exact State.onlyDomain_put s rfl

theorem State.onlyDomain_start (hs : s.dst ≠ 2) (hmode : s.nat (domIx d) 3 ≠ 1) (hd : d < 98)
    (hnone : (s.domainsAt d).waiting = []) : State.OnlyDomain d s (s.domainStart d) := by
  have hput (u : State) {b n : Nat} (hlt : b < 256) (hb : b ≠ 3) (hb' : b ≠ 1) (h : State.OnlyDomain d s u) :
      State.OnlyDomain d s (u.putN (domIx d) b n) :=
    h.of_within (State.startKept_put u _ hlt (not_startEntry_domain hb hb')) (by simp)
  have hself : State.OnlyDomain d s s := ⟨State.StartKept.refl s, State.within_refl _ _, hnone, fun _ _ => rfl⟩
  have hgoes (u : State) (h : State.OnlyDomain d s u) : State.OnlyDomain d s ((u.evaluate d).domainLoad d) := by
    have heval : State.OnlyDomain d u (u.evaluate d) :=
      State.onlyDomain_evaluate ((h.1.dst hs).trans_ne hs) ((h.1.mode hs hd).trans_ne hmode) hd h.2.2.1
    exact (h.trans heval).trans (State.onlyDomain_load heval.2.2.1)
  have hcount (n : Nat) : State.OnlyDomain d s (s.putN (domIx d) 5 n) := hput s (by decide) (by decide) (by decide)
      hself
  unfold State.domainStart
  dsimp only
  split
  · exact hgoes _ (hput _ (by decide) (by decide) (by decide) (hput _ (by decide) (by decide) (by decide) (hcount _)))
  · exact hgoes _ (hcount _)

end Sys2Proof.Machine

/-! PROOF. Start, the entry to STANDBY and its exit (R19, R458, R526). -/

namespace Sys2Proof.Machine

variable {s t u : State} {k d : Nat}

/-- The parts that the steps of the start after its end is noted may change. -/
def startParts : List Part :=
  [.dict, .frm, .bow, .plc, .lanes, .ledger, .fet, .col, .slots, .mir, .capo, .capoC, .runs, .svc, .domains, .free,
      .pegs]

/-- A later step of the start keeps the device state, the modes of the domains and the supply's record. -/
def State.Starts (s t : State) : Prop := s.StartKept t ∧ s.Within startParts t

theorem State.Starts.trans (h : s.Starts t) (g : t.Starts u) : s.Starts u := ⟨h.1.trans g.1, h.2.trans g.2⟩

theorem State.starts_each {l : List Nat} {f : State → Nat → State} (h : ∀ u : State, ∀ j ∈ l, u.Starts (f u j))
    (s : State) :
    s.Starts (s.each l f) :=
  State.each_invariant (P := s.Starts) (fun u j hj hu => hu.trans (h u j hj)) ⟨State.StartKept.refl s,
      State.within_refl _ _⟩

theorem State.starts_shafts (s : State) (f : State → Nat → Nat) : s.Starts
    (s.each (List.range 8) (fun s j => s.setShaft j (f s j))) :=
  State.starts_each (fun u j hj => ⟨State.startKept_setShaft (List.mem_range.mp hj) u _, by simp [startParts]⟩) s

theorem State.starts_requests (s : State) (f : State → Nat → Nat) : s.Starts
    (s.each allCourses (fun s k => s.courseRequest k (f s k))) :=
  State.starts_each (fun u k hk => ⟨State.startKept_courseRequest (List.mem_range.mp hk) u _, by simp [startParts]⟩) s

theorem State.starts_lasers (s : State) :
    s.Starts (s.each allCourses (fun s k => s.laserUpdate k)) ∧
        (s.each allCourses (fun s k => s.laserUpdate k)).domains = s.domains := by
  have hwithin : s.Within [.dict, .plc, .lanes, .ledger, .fet, .col, .capoC, .runs, .svc]
      (s.each allCourses (fun s k => s.laserUpdate k)) := by
    simp
  refine ⟨⟨?_, hwithin.mono (by simp [startParts])⟩, hwithin .domains (by simp)⟩
  exact State.startKept_each (fun u k hk => State.startKept_laserUpdate (List.mem_range.mp hk) u) s

/-- Where no domain is automatic and none waits for a value, every domain starts with nothing to load. -/
theorem State.starts_domains (hs : s.dst ≠ 2) (hmode : ∀ d < 98, s.nat (domIx d) 3 ≠ 1) (hnone : ∀ d < 98,
    (s.domainsAt d).waiting = []) :
    s.Starts (s.each (List.range 98) (fun s d => s.domainStart d)) := by
  refine (State.each_invariant (P := fun u : State => s.Starts u ∧ ∀ d < 98, (u.domainsAt d).waiting = []) ?_
    ⟨⟨State.StartKept.refl s, State.within_refl _ _⟩, hnone⟩).1
  rintro u d hd ⟨hu, hwaits⟩
  have hlt : d < 98 := List.mem_range.mp hd
  obtain ⟨hkept, hw, hdone, hother⟩ := State.onlyDomain_start ((hu.1.dst hs).trans_ne hs)
    ((hu.1.mode hs hlt).trans_ne (hmode d hlt)) hlt (hwaits d hlt)
  refine ⟨hu.trans ⟨hkept, hw.mono (by simp [startParts])⟩, fun e he => ?_⟩
  by_cases hed : e = d
  · rw [hed, hdone]
  · rw [hother e hed, hwaits e he]

/-- What the end of the start notes before the shafts, domains and courses. -/
def State.startNoted (s : State) : State :=
  let s1 := (s.putN 0x4200 1 s.startTarget).putN 0x7100 0x0C s.pwr.cause
  { s1 with
    pwr := { s1.pwr with step := 7, rstout := false }
    oz := { s1.oz with addrInForce := [s.nat 0x1100 1, s.nat 0x1100 2, s.nat 0x1100 3, s.nat 0x1100 4] } }

theorem State.dst_startNoted (s : State) : s.startNoted.dst = s.startTarget :=
  (State.nat_putN_ne _ _ _ _ _ _ (dkey_ne (by decide) (by decide) fun h => absurd h (by decide))).trans
      (State.nat_putN ..)

theorem State.startTarget_boot (s : State) (h : s.capo.shutLatch = true ∨ s.nat 0x4200 3 ≠ 2) :
    s.boot.startTarget = if s.capo.shutLatch then 4 else 1 := by
  have hwithin : s.Within [.dict, .store, .svc] s.boot := (State.within_boot (List.Subset.refl _) s).mpr
      (State.within_refl _ _)
  have hcapo : s.boot.capo = s.capo := hwithin .capo (by simp)
  have hkept := ((State.writes_boot (List.Subset.refl _) s).mpr (DictIn.refl _ _)).nat (i := 0x4200) (b := 3)
      (by decide) (by simp)
  unfold State.startTarget
  rw [hcapo, hkept]
  rcases h with h | h
  · simp [h]
  · simp [h]

theorem State.startEnd_shut (h : s.boot.startTarget = 4) : s.startEnd.dst = 4 ∧ s.startEnd.pwr = s.boot.startNoted.pwr
    := by
  let v := s.boot.startNoted.each (List.range 8) (fun s j => s.setShaft j (if s.nat (shIx j) 1 = 0 then 0 else 5))
  have heq : s.startEnd = v.each allCourses (fun s k => s.putN (crs k) 2 (s.nat (crs k) 4)) := if_pos h
  have hv : s.boot.startNoted.Starts v := State.starts_shafts _ _
  have hrest : v.Starts (v.each allCourses (fun s k => s.putN (crs k) 2 (s.nat (crs k) 4))) :=
    State.starts_each (fun u k hk => ⟨State.startKept_crs (List.mem_range.mp hk) u _ (by decide),
        by simp [startParts]⟩) v
  have hdst : s.boot.startNoted.dst = 4 := (State.dst_startNoted _).trans h
  rw [heq]
  exact ⟨((hv.trans hrest).1.dst (by omega)).trans hdst, (hv.trans hrest).2 .pwr (by simp [startParts])⟩

theorem State.startEnd_dark (h : s.boot.startTarget = 1) (hmode : ∀ d < 98,
    s.nat (domIx d) 3 ≠ 1 ∧ (s.domainsAt d).waiting = []) :
    s.startEnd.dst = 1 ∧ s.startEnd.pwr = s.boot.startNoted.pwr := by
  let w := s.boot.startNoted.each (List.range 8) (fun s j => s.setShaft j (if s.nat (shIx j) 1 = 0 then 0 else 5))
  let v := w.each allCourses (fun s k => s.laserUpdate k)
  let u := v.each (List.range 98) (fun s d => s.domainStart d)
  have heq : s.startEnd = u.pegsFirst.each allCourses (fun s k => s.courseRequest k (s.nat (crs k) 4)) := by
    unfold State.startEnd
    dsimp only
    rw [if_neg (by omega), if_neg (by omega)]
    rfl
  have hdst : s.boot.startNoted.dst = 1 := (State.dst_startNoted _).trans h
  have hw : s.boot.startNoted.Starts w := State.starts_shafts _ _
  obtain ⟨hlasers, hdomains⟩ := State.starts_lasers w
  have hv : s.boot.startNoted.Starts v := hw.trans hlasers
  have hvdst : v.dst = 1 := (hv.1.dst (by omega)).trans hdst
  have hat (d : Nat) : v.domainsAt d = s.domainsAt d := by
    have hshafts : w.domains = s.boot.startNoted.domains := by
      have hwithin : s.boot.startNoted.Within [.dict, .plc, .lanes, .ledger, .fet, .col, .capoC, .runs, .svc] w := by
          simp [w]
      exact hwithin .domains (by simp)
    have hboot : s.boot.domains = s.domains :=
      ((State.within_boot (List.Subset.refl _) s).mpr (State.within_refl _ _)) .domains (by simp)
    exact congrArg (fun l => tgetD l ({} : DomainSt) d) (hdomains.trans (hshafts.trans hboot))
  have hmodes (d : Nat) (hd : d < 98) : v.nat (domIx d) 3 = s.nat (domIx d) 3 := by
    have hix : domIx d < 0x4100 ∧ 0x4010 ≤ domIx d := by
      unfold domIx
      omega
    have hboot : s.boot.nat (domIx d) 3 = s.nat (domIx d) 3 :=
      ((State.writes_boot (List.Subset.refl _) s).mpr (DictIn.refl _ _)).nat (by decide) (by simp)
    have hnoted : s.boot.startNoted.nat (domIx d) 3 = s.boot.nat (domIx d) 3 :=
      (State.nat_putN_ne _ _ _ _ _ _ (dkey_ne (by decide) (by decide) fun _ => by decide)).trans
        (State.nat_putN_ne _ _ _ _ _ _ (dkey_ne (by decide) (by decide) fun _ => by decide))
    exact (hv.1.mode (by omega) hd).trans (hnoted.trans hboot)
  have hu : v.Starts u := State.starts_domains (by omega) (fun d hd => by rw [hmodes d hd]; exact (hmode d hd).1)
    (fun d hd => by rw [hat]; exact (hmode d hd).2)
  have hpegs : u.Starts u.pegsFirst := ⟨State.startKept_of_dict (State.dict_pegsFirst u), by simp [startParts]⟩
  have hall : s.boot.startNoted.Starts s.startEnd := by
    rw [heq]
    exact ((hv.trans hu).trans hpegs).trans (State.starts_requests _ _)
  exact ⟨(hall.1.dst (by omega)).trans hdst, hall.2 .pwr (by simp [startParts])⟩

/-! ### STANDBY -/

/-- Every lane but the failed ones goes off. -/
def State.lanesQuiet (s : State) : State :=
  s.each allLanes (fun s l => if (s.lanesAt l).state = 5 then s else s.lanesPut l ((s.lanesAt l).quiet 0))

/-- The entry to STANDBY, complete but for the lanes. -/
def State.standbyNoted (s : State) : State :=
    ({ s.gainPersist with pwr := { s.pwr with entering := false } } : State).putN 0x4200 1 3

theorem exec_standbyEntryComplete (hentering : s.pwr.entering = true) (hdst : s.dst = 1)
    (hstopped : s.allStopped = true)
    (hasleep : s.dramAsleep = true ∨ s.pwr.dramFailed = true) : exec .standbyEntryComplete s = .next
        s.standbyNoted.lanesQuiet :=
  congrArg Host.Outcome.next (if_pos ⟨hentering, hdst, hstopped, hasleep⟩)

theorem State.within_lanesQuiet (s : State) : s.Within [.lanes] s.lanesQuiet := by
  have hstep (u : State) (l : Nat) :
      u.Within [.lanes] (if (u.lanesAt l).state = 5 then u else u.lanesPut l ((u.lanesAt l).quiet 0)) := by
    simp
  exact (State.within_each allLanes hstep).mpr (State.within_refl _ _)

theorem State.state_lanesQuiet (s : State) (l : Nat) (hl : l < 272) :
    (s.lanesQuiet.lanesAt l).state = if (s.lanesAt l).state = 5 then 5 else 0 := by
  refine State.each_at (P := fun u => u.lanesAt l = s.lanesAt l)
    (R := fun u => (u.lanesAt l).state = if (s.lanesAt l).state = 5 then 5 else 0)
    (List.mem_range.mpr hl) List.nodup_range (fun u j _ hne hu => ?_) (fun u hu => ?_) (fun u j _ hne hu => ?_) rfl
  · split
    · exact hu
    · rw [State.lanesAt_lanesPut, if_neg hne, hu]
  · rw [← hu]
    split
    · assumption
    · rw [State.lanesAt_lanesPut, if_pos rfl]
      rfl
  · split
    · exact hu
    · rw [State.lanesAt_lanesPut, if_neg hne, hu]

/-- What the exit of a channel from self-refresh leaves. -/
def State.chanAwake (s : State) (c : Nat) : State :=
  let s1 := s.chanExits c
  if s1.chanLive c then
    (s1.putI (0x5010 + c) 6 0).chansPut c { s1.chansAt c with
      due := false, forced := false, waited := false, overdue := false, trainedAt := s.clk.up }
  else s1

def awakePlaces : List Place := [.column 0x5010 1, .column 0x5010 0xB, .column 0x5010 6]

theorem State.chanAwake_keeps (s : State) (c : Nat) :
    DictIn awakePlaces s.dict (s.chanAwake c).dict ∧ s.Within [.dict, .chans] (s.chanAwake c) := by
  unfold State.chanAwake
  dsimp only
  split
  · exact ⟨by simp [State.putI, awakePlaces, dictIn_column 0x5010, DictIn.refl], by simp⟩
  · exact ⟨by simp [awakePlaces, DictIn.refl], by simp⟩

/-- No request waits for DRAM. -/
def State.nothingWaits (s : State) : State := { s with mem := { s.mem with waiting := [], dueOrder := [] } }

@[simp] theorem State.within_nothingWaits {s₀ : State} {L : List Part} (h : [.mem] ⊆ L) (s : State) :
    s₀.Within L s.nothingWaits ↔ s₀.Within L s := by
  refine State.Within.iff fun q hq => ?_
  cases q <;> first | exact absurd (h (List.mem_singleton_self _)) hq | rfl

/-- What the exit from self-refresh shows of all channels together. -/
def State.exitShown (s : State) : State := ((s.putN 0x5000 1 1).setFlag 0x5000 0x1A 7 false).setFlag 0x5000 0x1A 5 false

theorem State.nat_exitShown (s : State) : s.exitShown.nat 0x5000 1 = 1 := by
  have hother (u : State) (n : Nat) : (u.putN 0x5000 0x1A n).nat 0x5000 1 = u.nat 0x5000 1 :=
    State.nat_putN_ne _ _ _ _ _ _ (dkey_ne (by decide) (by decide) fun _ => by decide)
  rw [State.exitShown, State.setFlag, hother, State.setFlag, hother, State.nat_putN]

theorem State.dramExit_eq (hnone : (s.each (List.range 32) State.chanAwake).exitShown.mem.waiting = []) :
    s.dramExit = (s.each (List.range 32) State.chanAwake).exitShown.nothingWaits := by
  have heq : s.dramExit = (s.each (List.range 32) State.chanAwake).exitShown.mem.waiting.foldl State.serve
      (s.each (List.range 32) State.chanAwake).exitShown.nothingWaits := by
    unfold State.dramExit State.chanAwake State.exitShown State.nothingWaits
    rfl
  rw [heq, hnone, List.foldl_nil]

/-- The exit of every channel from self-refresh, where no request waits. -/
theorem State.dramExit_idle (hnone : s.mem.waiting = []) :
    DictIn (.entry 0x5000 1 :: .entry 0x5000 0x1A :: awakePlaces) s.dict s.dramExit.dict ∧
      s.Within [.dict, .chans, .mem] s.dramExit ∧ s.dramExit.nat 0x5000 1 = 1 := by
  obtain ⟨hdict, hwithin⟩ : DictIn awakePlaces s.dict (s.each (List.range 32) State.chanAwake).dict ∧
      s.Within [.dict, .chans] (s.each (List.range 32) State.chanAwake) :=
    State.each_invariant (P := fun u : State => DictIn awakePlaces s.dict u.dict ∧ s.Within [.dict, .chans] u)
      (fun u c _ hu => ⟨hu.1.trans (u.chanAwake_keeps c).1, hu.2.trans (u.chanAwake_keeps c).2⟩)
      ⟨DictIn.refl _ _, State.within_refl _ _⟩
  have heq := State.dramExit_eq (s := s)
  generalize s.each (List.range 32) State.chanAwake = v at hdict hwithin heq
  have hw : s.Within [.dict, .chans] v.exitShown := by simpa [State.exitShown] using hwithin
  rw [heq (by rw [State.mem_of_within hw (by simp) (by simp), hnone])]
  refine ⟨?_, ?_, State.nat_exitShown v⟩
  · have hmono : DictIn (.entry 0x5000 1 :: .entry 0x5000 0x1A :: awakePlaces) s.dict v.dict := hdict.mono (by simp)
    have hshown : DictIn (.entry 0x5000 1 :: .entry 0x5000 0x1A :: awakePlaces) s.dict v.exitShown.dict := by
      simpa [State.exitShown, State.putN, State.setFlag] using hmono
    exact hshown
  · exact (State.within_nothingWaits (by simp) _).mpr (hw.mono (by simp))

/-- Lanes that are off begin to train. -/
def State.lanesTrain (s : State) : State :=
  s.each allLanes (fun s l => if (s.lanesAt l).state = 0 then s.lanesPut l { s.lanesAt l with state := 1 } else s)

theorem State.within_lanesTrain (s : State) : s.Within [.lanes] s.lanesTrain := by
  have hstep (u : State) (l : Nat) :
      u.Within [.lanes] (if (u.lanesAt l).state = 0 then u.lanesPut l { u.lanesAt l with state := 1 } else u) := by
    simp
  exact (State.within_each allLanes hstep).mpr (State.within_refl _ _)

/-- The exit from self-refresh, begun. -/
def State.exitNoted (s : State) : State := { s with pwr := { s.pwr with exiting := false } }

theorem exec_dramExitComplete_standby (hexiting : s.pwr.exiting = true) (href : s.clk.refclk = true)
    (hdst : s.dst = 3) : exec .dramExitComplete s =
      .next (((s.exitNoted.dramExit.flowsAfterStandby).putN 0x4200 1 1).lanesTrain.litIfAsked) := by
  change execDramExitComplete s = _
  unfold execDramExitComplete
  rw [if_pos ⟨hexiting, href⟩]
  dsimp only
  rw [if_pos hdst]
  rfl

end Sys2Proof.Machine

namespace Sys2Proof.Proofs
open Sys2Proof.Machine

theorem startComplete_clause (s : State) (hmay : s.startMay = true) (hstep : s.pwr.step = 2)
    (hcapo : s.nat 0x3800 1 ≠ 0)
    (htrained : s.pwr.dramTrained = true ∨ s.capo.shutLatch = true) (hcool : s.zonesCool = true)
    (hidle : s.capo.shutLatch = true ∨ s.nat 0x4200 3 ≠ 2 ∧ ∀ d < 98,
        s.nat (domIx d) 3 ≠ 1 ∧ (s.domainsAt d).waiting = []) :
    Completes .startComplete s
        (fun t => t.dst = (if s.capo.shutLatch then 4 else 1) ∧ t.pwr.step = 7 ∧ t.pwr.rstout = false) := by
  have htarget := State.startTarget_boot s (hidle.imp id And.left)
  refine ⟨s.startEnd, congrArg Host.Outcome.next (if_pos ⟨hmay, hstep, hcapo, htrained, hcool⟩), ?_⟩
  by_cases hshut : s.capo.shutLatch = true
  · rw [if_pos hshut] at htarget ⊢
    obtain ⟨hdst, hpwr⟩ := State.startEnd_shut htarget
    rw [hpwr]
    exact ⟨hdst, rfl, rfl⟩
  · rw [if_neg hshut] at htarget ⊢
    obtain ⟨hdst, hpwr⟩ := State.startEnd_dark htarget (hidle.resolve_left hshut).2
    rw [hpwr]
    exact ⟨hdst, rfl, rfl⟩

theorem standbyEntry_clause (s : State) (hentering : s.pwr.entering = true) (hdst : s.dst = 1)
    (hstopped : s.allStopped = true)
    (hasleep : s.dramAsleep = true ∨ s.pwr.dramFailed = true) : Completes .standbyEntryComplete s (fun t =>
      t.dst = 3 ∧ t.pwr.entering = false ∧ ∀ l < 272, (t.lanesAt l).state = if (s.lanesAt l).state = 5 then 5 else
          0) := by
  refine ⟨_, exec_standbyEntryComplete hentering hdst hstopped hasleep, ?_⟩
  have hgains : s.gainPersist.lanes = s.lanes :=
    ((State.within_gainPersist (List.Subset.refl _) s).mpr (State.within_refl _ _)) .lanes (by simp)
  have hnoted (u : State) (p : PwrSt) (n : Nat) : (({ u with pwr := p } : State).putN 0x4200 1 n).lanes = u.lanes := rfl
  have hlanes : s.standbyNoted.lanes = s.lanes := (hnoted _ _ _).trans hgains
  have hpwr : s.standbyNoted.lanesQuiet.pwr = s.standbyNoted.pwr := (State.within_lanesQuiet _) .pwr (by simp)
  have hdict : s.standbyNoted.lanesQuiet.dict = s.standbyNoted.dict := (State.within_lanesQuiet _) .dict (by simp)
  refine ⟨?_, by rw [hpwr]; rfl, fun l hl => ?_⟩
  · rw [State.dst, State.nat_of_dict hdict, State.standbyNoted, State.nat_putN]
  · have hat : s.standbyNoted.lanesAt l = s.lanesAt l := congrArg (fun x => tgetD x ({} : LaneSt) l) hlanes
    rw [State.state_lanesQuiet _ l hl, hat]

theorem dramExit_clause (s : State) (hexiting : s.pwr.exiting = true) (href : s.clk.refclk = true) (hdst : s.dst = 3)
    (hdark : s.pwr.litAfter = false) (hnone : s.mem.waiting = []) :
    Completes .dramExitComplete s (fun t => t.dst = 1 ∧ t.pwr.exiting = false ∧ t.nat 0x5000 1 = 1) := by
  obtain ⟨-, hwithin, hrun⟩ := State.dramExit_idle (s := s.exitNoted) hnone
  have htrain := State.within_lanesTrain ((s.exitNoted.dramExit.flowsAfterStandby).putN 0x4200 1 1)
  have hexec := exec_dramExitComplete_standby hexiting href hdst
  have hpwr : (((s.exitNoted.dramExit.flowsAfterStandby).putN 0x4200 1 1).lanesTrain).pwr = s.exitNoted.pwr := by
    have hput (u : State) : (u.putN 0x4200 1 1).pwr = u.pwr := rfl
    have h1 : (((s.exitNoted.dramExit.flowsAfterStandby).putN 0x4200 1 1).lanesTrain).pwr =
        ((s.exitNoted.dramExit.flowsAfterStandby).putN 0x4200 1 1).pwr := htrain .pwr (by simp)
    have h2 : s.exitNoted.dramExit.flowsAfterStandby.pwr = s.exitNoted.dramExit.pwr :=
      ((State.within_flowsAfterStandby (List.Subset.refl _) _).mpr (State.within_refl _ _)) .pwr (by simp)
    have h3 : s.exitNoted.dramExit.pwr = s.exitNoted.pwr := hwithin .pwr (by simp)
    rw [h1, hput, h2, h3]
  have hdict : (((s.exitNoted.dramExit.flowsAfterStandby).putN 0x4200 1 1).lanesTrain).dict =
      ((s.exitNoted.dramExit.flowsAfterStandby).putN 0x4200 1 1).dict := htrain .dict (by simp)
  generalize (((s.exitNoted.dramExit.flowsAfterStandby).putN 0x4200 1 1).lanesTrain) = v at hexec hpwr hdict
  rw [State.litIfAsked, if_neg (by rw [hpwr]; simp [State.exitNoted, hdark])] at hexec
  refine ⟨v, hexec, ?_, by rw [hpwr]; rfl, ?_⟩
  · rw [State.dst, State.nat_of_dict hdict, State.nat_putN]
  · rw [State.nat_of_dict hdict,
      State.nat_putN_ne _ _ _ _ _ _ (dkey_ne (by decide) (by decide) fun h => absurd h (by decide)),
      State.nat_of_dict (State.dict_flowsAfterStandby _), hrun]

/-- Settles O29: the end of the start, of the entry to STANDBY and of the exit from it. -/
theorem startAndStandbyMoveTheDevice : Obligations.StartAndStandbyMoveTheDevice := by
  unfold Obligations.StartAndStandbyMoveTheDevice
  exact fun s => ⟨startComplete_clause s, standbyEntry_clause s, dramExit_clause s⟩

end Sys2Proof.Proofs

/-! PROOF. What a course's hush, stop and trip write: its own entries and no other course's (Table 1.6, R388, R393). -/

namespace Sys2Proof.Machine

section

variable {L : List Place} {D : Tab Val} {k : Nat}

/-- What moving course `k` to another state may write. -/
def coursePlaces (k : Nat) : List Place :=
  [.entry (crs k) 1, .entry (crs k) 2, .entry (crs k) 3, .column 0x2200 0x15, .column 0x2200 0x1E, .column 0x2680 0xF,
    .column 0x2680 0x10, .column 0x4010 4, .column 0x4010 0x12, .column 0x7020 5, .entry 0x4200 1]

theorem State.moves_setCst (h : coursePlaces k ⊆ L) (s : State) (st : Nat) : DictIn L D (s.setCst k st).dict ↔ DictIn L
    D s.dict := by
  simp only [coursePlaces, List.cons_subset, List.nil_subset, and_true] at h
  simp [State.setCst, State.putN, h]

theorem State.moves_toHushed (h : coursePlaces k ⊆ L) (s : State) : DictIn L D (s.toHushed k).dict ↔ DictIn L D s.dict
    := by
  have hnote (u : State) : DictIn L D (u.hushNoted k).dict ↔ DictIn L D u.dict :=
    State.writes_hushNoted (fun p hp => h (by simp only [List.mem_singleton] at hp; simp [hp, coursePlaces])) u k
  simp [State.toHushed, State.moves_setCst h, hnote]

theorem State.moves_toStopped (h : coursePlaces k ⊆ L) (s : State) : DictIn L D (s.toStopped k).dict ↔ DictIn L D
    s.dict := by
  have hset := State.moves_setCst (D := D) h
  simp only [coursePlaces, List.cons_subset, List.nil_subset, and_true] at h
  simp [State.toStopped, hset, h]

theorem State.moves_causeBit (h : coursePlaces k ⊆ L) (s : State) (b : Nat) : DictIn L D (s.causeBit k b).dict ↔ DictIn
    L D s.dict := by
  simp only [coursePlaces, List.cons_subset, List.nil_subset, and_true] at h
  unfold State.causeBit
  dsimp only
  (repeat' split) <;> simp [State.setFlag, State.putN, h]

theorem State.moves_setCauseNow (h : coursePlaces k ⊆ L) (s : State) (b : Nat) :
    DictIn L D (s.setCauseNow k b).dict ↔ DictIn L D s.dict := by
  unfold State.setCauseNow
  split <;> simp [State.moves_toStopped h, State.moves_toHushed h, State.moves_causeBit h]

theorem State.moves_hushIfSpinning (h : coursePlaces k ⊆ L) (s : State) : DictIn L D (s.hushIfSpinning k).dict ↔ DictIn
    L D s.dict := by
  simp [State.hushIfSpinning, State.moves_toHushed h]

theorem State.moves_setCause (h : coursePlaces k ⊆ L) (s : State) (b : Nat) : DictIn L D (s.setCause k b).dict ↔ DictIn
    L D s.dict := by
  simp [State.setCause, State.moves_hushIfSpinning h, State.moves_causeBit h]

theorem State.moves_clearCause (h : coursePlaces k ⊆ L) (s : State) (b : Nat) : DictIn L D (s.clearCause k b).dict ↔
    DictIn L D s.dict := by
  simp only [coursePlaces, List.cons_subset, List.nil_subset, and_true] at h
  simp [State.clearCause, State.setFlag, State.putN, h]

/-- What a trip of course `k` may write. -/
def tripPlaces (k : Nat) : List Place := .entry 0x3800 0x12 :: .rows 0x3810 :: coursePlaces k

theorem State.moves_trip (h : tripPlaces k ⊆ L) (s : State) (t : Nat) : DictIn L D (s.trip k t).dict ↔ DictIn L D
    s.dict := by
  simp only [tripPlaces, List.cons_subset] at h
  obtain ⟨hshown, hrows, hcourse⟩ := h
  simp [State.trip, State.putN, State.moves_setCauseNow hcourse, hshown, hrows]

/-- What a mirror that is declared failed may write. -/
def failPlaces (k : Nat) : List Place :=
  .entry (0x3150 + k) 0x19 :: .entry (0x3150 + k) 0x1A :: .column 0x3000 0x23 :: coursePlaces k

theorem State.moves_declareFailed (h : failPlaces k ⊆ L) (s : State) : DictIn L D (s.declareFailed k).dict ↔ DictIn L D
    s.dict := by
  simp only [failPlaces, List.cons_subset] at h
  obtain ⟨hstarts, hfails, hsup, hcourse⟩ := h
  have hslots (u : State) (i : Nat) : DictIn L D (u.setSup i 4).dict ↔ DictIn L D u.dict := by
    unfold State.setSup
    (repeat' split) <;> simp_all [State.putN, dictIn_column 0x3000, slotIx]
  simp [State.declareFailed, State.bump, State.addSat, State.putN, State.moves_toStopped hcourse, hslots, hstarts,
      hfails]

end

/-! ### The capo's record of a course -/

variable {s t u : State} {k : Nat}

/-- Of what the capo holds of the courses only the arm signals may have moved. -/
def State.ArmsOnly (s t : State) : Prop := ∀ j, ∃ b, t.capoCAt j = { s.capoCAt j with armed := b }

theorem State.ArmsOnly.trans (h : s.ArmsOnly t) (g : t.ArmsOnly u) : s.ArmsOnly u := fun j => by
  obtain ⟨b, hb⟩ := h j
  obtain ⟨c, hc⟩ := g j
  exact ⟨c, by rw [hc, hb]⟩

theorem State.armsOnly_of_eq (h : t.capoC = s.capoC) : s.ArmsOnly t := fun j =>
  ⟨(s.capoCAt j).armed, congrArg (fun l => tgetD l ({} : CapoCourse) j) h⟩

theorem State.armsOnly_of_within {L : List Part} (h : s.Within L t) (hL : .capoC ∉ L) : s.ArmsOnly t :=
    State.armsOnly_of_eq (h .capoC hL)

theorem State.ArmsOnly.ite {c : Prop} [Decidable c] (ht : s.ArmsOnly t) (hu : s.ArmsOnly u) : s.ArmsOnly
    (if c then t else u) := by
  split <;> assumption

theorem State.armsOnly_refl (s : State) : s.ArmsOnly s := State.armsOnly_of_eq rfl

theorem State.armsOnly_setArm (s : State) (k : Nat) (b : Bool) : s.ArmsOnly (s.setArm k b) := fun j => by
  have hat : (s.setArm k b).capoCAt j = if k = j then { s.capoCAt k with armed := b } else s.capoCAt j := tgetD_tput ..
  rw [hat]
  split
  · subst_vars
    exact ⟨b, rfl⟩
  · exact ⟨_, rfl⟩

theorem State.armsOnly_setCst (s : State) (k n : Nat) : s.ArmsOnly (s.setCst k n) :=
  State.armsOnly_of_within ((State.within_setCst (List.Subset.refl _) s k n).mpr (State.within_refl _ _)) (by simp)

theorem State.armsOnly_toHushed (s : State) (k : Nat) : s.ArmsOnly (s.toHushed k) := by
  have hdark (x : PlaceSt) : s.ArmsOnly (((s.setCst k 5).setArm k false).plcPut k x) :=
    ((State.armsOnly_setCst s k 5).trans (State.armsOnly_setArm _ k false)).trans (State.armsOnly_of_eq rfl)
  have hnote (u : State) : u.ArmsOnly (u.hushNoted k) :=
    State.armsOnly_of_within ((State.within_hushNoted (List.Subset.refl _) u k).mpr (State.within_refl _ _)) (by simp)
  exact State.ArmsOnly.ite (State.armsOnly_refl s) (State.ArmsOnly.ite (hdark _) ((hdark _).trans (hnote _)))

theorem State.armsOnly_toStopped (s : State) (k : Nat) : s.ArmsOnly (s.toStopped k) := by
  have harm : s.ArmsOnly ((s.setCst k 0).setArm k false) :=
    (State.armsOnly_setCst s k 0).trans (State.armsOnly_setArm _ k false)
  have hrest (u : State) : u.Within [.dict, .frm, .bow, .plc, .fet, .mir, .capo, .runs]
      ((((u.setEmitOk k false).mirrorStop k).dropModel k).runAbort k) := by
    simp
  exact State.ArmsOnly.ite (State.armsOnly_refl s) (harm.trans (State.armsOnly_of_within (hrest _) (by simp)))

theorem State.armsOnly_setCauseNow (s : State) (k b : Nat) : s.ArmsOnly (s.setCauseNow k b) := by
  have hbit : s.ArmsOnly (s.causeBit k b) :=
    State.armsOnly_of_within ((State.within_causeBit (List.Subset.refl _) s k b).mpr (State.within_refl _ _)) (by simp)
  have hhush := hbit.trans (State.armsOnly_toHushed _ k)
  exact State.ArmsOnly.ite (State.armsOnly_refl s)
      (State.ArmsOnly.ite (hhush.trans (State.armsOnly_toStopped _ k)) hhush)

end Sys2Proof.Machine

/-! PROOF. The scan watch (R382 to R384), and the capo's start and fault (R375, R393). -/

namespace Sys2Proof.Machine

variable {s t u : State} {k : Nat}

theorem State.capoCAt_put_self (s : State) (k : Nat) (x : CapoCourse) : (s.capoCPut k x).capoCAt k = x :=
    tgetD_tput_self ..

/-! ### The scan watch -/

/-- A miss of course `k`, but for the trip that it may be. -/
def State.missNoted (s : State) (k time : Nat) : State :=
  (s.capoCPut k { s.capoCAt k with
    misses := (s.capoCAt k).misses + 1, expected := (s.capoCAt k).expected.map (fun e => (e.1, time)),
    exc := (s.capoCAt k).exc.map (fun x => (x.1, x.2.1, false)) }).putN (0x3810 + k) 8 0

theorem State.scanMiss_first {time : Nat} (h : (s.capoCAt k).misses = 0) : s.scanMiss k time = s.missNoted k time :=
  if_neg (by omega)

theorem State.scanMiss_trips {time : Nat} (h : 1 ≤ (s.capoCAt k).misses) (harm : (s.capoCAt k).armed = true) :
    s.scanMiss k time = (s.missNoted k time).trip k 0 := if_pos ⟨by omega, harm⟩

theorem State.capoCAt_missNoted (s : State) (k time : Nat) :
    (s.missNoted k time).capoCAt k = { s.capoCAt k with
      misses := (s.capoCAt k).misses + 1, expected := (s.capoCAt k).expected.map (fun e => (e.1, time)),
      exc := (s.capoCAt k).exc.map (fun x => (x.1, x.2.1, false)) } := State.capoCAt_put_self ..

theorem bit_or_two_pow (n t : Nat) : bit (n ||| 2 ^ t) t = true := by
  simp [bit, Nat.testBit_or, Nat.testBit_two_pow_self]

/-- A trip latches, and leaves the count of misses. -/
theorem State.capoCAt_trip (s : State) (k t : Nat) :
    bit ((s.trip k t).capoCAt k).trips t = true ∧ ((s.trip k t).capoCAt k).misses = (s.capoCAt k).misses := by
  unfold State.trip
  dsimp only
  split
  · exact ⟨by assumption, rfl⟩
  · obtain ⟨b, hb⟩ := State.armsOnly_setCauseNow (((s.capoCPut k { s.capoCAt k with
      trips := (s.capoCAt k).trips ||| 2 ^ t }).countTrip k t).putN 0x3800 0x12
        (k * 2 ^ 56 + (t + 1) * 2 ^ 48 + s.upUs % 2 ^ 48)) k (tripBit t) k
    have hcount (v : State) (n : Nat) : ((v.countTrip k t).putN 0x3800 0x12 n).capoCAt k = v.capoCAt k := by
      unfold State.countTrip
      split <;> rfl
    rw [hb, hcount, State.capoCAt_put_self]
    exact ⟨bit_or_two_pow .., rfl⟩

/-- A trip keeps the count of valid excursions. -/
theorem State.excursions_trip (s : State) (k : Nat) : (s.trip k 0).nat (0x3810 + k) 8 = s.nat (0x3810 + k) 8 := by
  unfold State.trip
  dsimp only
  split
  · rfl
  · have h := (State.writes_setCauseNow (List.Subset.refl _) (((s.capoCPut k { s.capoCAt k with
      trips := (s.capoCAt k).trips ||| 2 ^ 0 }).countTrip k 0).putN 0x3800 0x12
        (k * 2 ^ 56 + (0 + 1) * 2 ^ 48 + s.upUs % 2 ^ 48)) k (tripBit 0)).mpr (DictIn.refl _ _)
    rw [h.nat (by decide) (by simp), State.nat_putN_ne _ _ _ _ _ _ (dkey_ne (by decide) (by decide) fun _ => by decide)]
    exact State.nat_bump_ne _ (dkey_ne (by decide) (by decide) fun _ => by decide)

theorem State.excursionBegins_expected {sg : Bool} {t0 time : Nat} (h : (s.capoCAt k).expected = some (sg, t0)) :
    ∃ u : State, (u = s ∨ ∃ n, u = s.putN (0x3810 + k) 9 n) ∧ s.excursionBegins k time sg =
      u.capoCPut k { s.capoCAt k with exc := some (sg, time, decide (time - t0 ≤ s.watchSamples k)) } := by
  unfold State.excursionBegins
  simp only [h, if_true]
  cases (s.capoCAt k).lastEnd with
  | none => exact ⟨s, Or.inl rfl, rfl⟩
  | some e => exact ⟨_, Or.inr ⟨_, rfl⟩, rfl⟩

theorem State.excursionEnds_valid {sg : Bool} {t0 time : Nat} (h : (s.capoCAt k).exc = some (sg, t0, true))
    (hin : time - t0 ≤ s.watchSamples k) : s.excursionEnds k time =
      (s.capoCPut k { s.capoCAt k with exc := none, lastEnd := some time, misses := 0, expected := some (!sg,
          time) }).putN
        (0x3810 + k) 8 (min (s.nat (0x3810 + k) 8 + 1) 255) := by
  unfold State.excursionEnds
  simp only [h]
  exact if_pos ⟨trivial, hin⟩

/-- The watch is over once its interval has passed from the expectation, or from the excursion that meets it. -/
theorem State.watchOver_of {sg : Bool} {t0 t1 time : Nat} (h : (s.capoCAt k).expected = some (sg, t0))
    (hover : (s.capoCAt k).exc = none ∧ t0 + s.watchSamples k ≤ time ∨
      (s.capoCAt k).exc = some (sg, t1, true) ∧ t1 + s.watchSamples k ≤ time) : s.watchOver k time = true := by
  unfold State.watchOver
  rcases hover with ⟨hexc, hle⟩ | ⟨hexc, hle⟩ <;> simp only [hexc, h] <;> exact decide_eq_true hle

end Sys2Proof.Machine

namespace Sys2Proof.Proofs
open Sys2Proof.Machine

section
variable {k : CourseId} {s : State} {time : Nat}

theorem exec_scanExcursion_begins {sg : Bool} (hstate : s.nat 0x3800 1 = 1) (hon : s.capo.vaon = true) :
    exec (.scanExcursion k sg true time) s = .next (s.excursionBegins k.val time sg) :=
  congrArg Host.Outcome.next (if_pos ⟨hstate, hon⟩)

theorem exec_scanExcursion_ends {sg : Bool} (hstate : s.nat 0x3800 1 = 1) (hon : s.capo.vaon = true) :
    exec (.scanExcursion k sg false time) s = .next (s.excursionEnds k.val time) :=
  congrArg Host.Outcome.next (if_pos ⟨hstate, hon⟩)

theorem exec_scanWatchMiss_over (hstate : s.nat 0x3800 1 = 1) (hon : s.capo.vaon = true)
    (hover : s.watchOver k.val time = true) :
    exec (.scanWatchMiss k time) s = .next (s.scanMiss k.val time) :=
  congrArg Host.Outcome.next (if_pos ⟨hstate, hon, hover⟩)

end

/-- Settles O45: excursions that begin and end in time, and misses. -/
theorem scanWatchCountsExcursions : Obligations.ScanWatchCountsExcursions := by
  unfold Obligations.ScanWatchCountsExcursions
  intro k sg t0 t1 time s
  refine ⟨fun hoff => ?_, fun hstate hon => ⟨fun hexp => ?_, fun hexc hin => ?_, fun hover => ?_,
      fun hexp hover hfirst => ?_,
    fun hexp hover hmissed harm => ?_⟩⟩
  · exact ⟨congrArg Host.Outcome.next (if_neg fun h => hoff h.1), congrArg Host.Outcome.next (if_neg fun h => hoff h.1),
      congrArg Host.Outcome.next (if_neg fun h => hoff h.1)⟩
  · obtain ⟨u, hu, heq⟩ := State.excursionBegins_expected (time := time) hexp
    refine ⟨_, exec_scanExcursion_begins hstate hon, ?_⟩
    rw [heq]
    refine ⟨State.capoCAt_put_self .., ?_⟩
    rcases hu with rfl | ⟨n, rfl⟩
    · exact fun _ _ _ => rfl
    · exact (s.onlyEntries_putN (0x3810 + k.val) 9 n).2
  · refine ⟨_, exec_scanExcursion_ends hstate hon, ?_⟩
    rw [State.excursionEnds_valid hexc hin]
    have hat (x : CapoCourse) (n : Nat) : ((s.capoCPut k.val x).putN (0x3810 + k.val) 8 n).capoCAt k.val = x :=
      State.capoCAt_put_self ..
    exact ⟨hat _ _, State.nat_putN .., rfl, (s.onlyEntries_putN _ 8 _).2⟩
  · exact congrArg Host.Outcome.next (if_neg fun h => by simp [hover] at h)
  · refine ⟨_, exec_scanWatchMiss_over hstate hon (State.watchOver_of hexp hover), ?_⟩
    rw [State.scanMiss_first hfirst]
    dsimp only
    rw [State.capoCAt_missNoted, hfirst, hexp]
    exact ⟨rfl, rfl, rfl, State.nat_putN .., (s.onlyEntries_putN _ 8 0).2⟩
  · refine ⟨_, exec_scanWatchMiss_over hstate hon (State.watchOver_of hexp hover), ?_⟩
    rw [State.scanMiss_trips hmissed harm]
    obtain ⟨htrips, hmisses⟩ := (s.missNoted k.val time).capoCAt_trip k.val 0
    rw [State.capoCAt_missNoted] at hmisses
    exact ⟨hmisses, htrips, (State.excursions_trip _ _).trans (State.nat_putN ..)⟩

end Sys2Proof.Proofs

/-! PROOF. The capo's start and its fault (R375, R393). -/

namespace Sys2Proof.Machine

variable {s t u : State} {k : Nat}

/-- What the fault of course `k` may write. -/
def faultPlaces (k : Nat) : List Place := .entry (0x3150 + k) 0x1C :: (tripPlaces k ++ failPlaces k)

theorem State.moves_capoRelease (s : State) (k : Nat) (stopped : Bool) :
    DictIn (faultPlaces k) s.dict (s.capoRelease k stopped).dict := by
  have hrelease : .entry (0x3150 + k) 0x1C ∈ faultPlaces k := List.mem_cons_self
  have hfail : failPlaces k ⊆ faultPlaces k := fun p hp => List.mem_cons_of_mem _ (List.mem_append_right _ hp)
  simp [State.capoRelease, State.putN, State.moves_declareFailed hfail, hrelease, DictIn.refl]

theorem State.moves_capoStop (s : State) (k : Nat) (stopped : Bool) :
    DictIn (faultPlaces k) s.dict ((s.trip k 4).capoRelease k stopped).dict := by
  have htrip : tripPlaces k ⊆ faultPlaces k := fun p hp => List.mem_cons_of_mem _ (List.mem_append_left _ hp)
  exact ((State.moves_trip htrip s 4).mpr (DictIn.refl _ _)).trans (State.moves_capoRelease _ k stopped)

/-- The axis of a course that the capo releases is off. -/
theorem State.axis_capoRelease (s : State) (k : Nat) (stopped : Bool) : (s.capoRelease k stopped).nat (0x3150 + k) 0x1C
    = 0 := by
  have hoff : (s.putN (0x3150 + k) 0x1C 0).nat (0x3150 + k) 0x1C = 0 := State.nat_putN ..
  have hkept :=
      ((State.writes_declareFailed (List.Subset.refl _) (s.putN (0x3150 + k) 0x1C 0) k).mpr (DictIn.refl _ _)).nat
    (i := 0x3150 + k) (b := 0x1C) (by decide) (by simp)
  unfold State.capoRelease
  dsimp only
  split
  · exact hoff
  · exact hkept.trans hoff

theorem State.armsOnly_capoRelease (s : State) (k : Nat) (stopped : Bool) : s.ArmsOnly (s.capoRelease k stopped) := by
  have hslots (u : State) (i : Nat) : u.ArmsOnly (u.setSup i 4) := by
    have h : u.Within [.dict, .slots] (u.setSup i 4) := by
      unfold State.setSup
      (repeat' split) <;> simp_all
    exact State.armsOnly_of_within h (by simp)
  have hfails (u : State) (x : MirSt) : u.ArmsOnly (((u.setSup (2 * k) 4).setSup (2 * k + 1) 4).mirPut k x) :=
    ((hslots u _).trans (hslots _ _)).trans (State.armsOnly_of_eq rfl)
  have hcount (u : State) : u.ArmsOnly (if (u.bump (0x3150 + k) 0x1A).cst k = 1
      then (u.bump (0x3150 + k) 0x1A).bump (0x3150 + k) 0x19 else u.bump (0x3150 + k) 0x1A) :=
    State.ArmsOnly.ite (State.armsOnly_of_eq rfl) (State.armsOnly_of_eq rfl)
  have hdeclared (u : State) : u.ArmsOnly (u.declareFailed k) := by
    have h (x : MirSt) := (hcount u).trans (hfails _ x)
    exact State.ArmsOnly.ite (h _) ((h _).trans (State.armsOnly_toStopped _ k))
  have hrelease (u : State) : u.ArmsOnly (u.putN (0x3150 + k) 0x1C 0) := State.armsOnly_of_eq rfl
  exact State.ArmsOnly.ite (hrelease s) ((hrelease s).trans (hdeclared _))

/-- Course `k` has been tripped by T5 and its axis released. -/
def State.FaultOf (s : State) (k : Nat) : Prop := bit (s.capoCAt k).trips 4 = true ∧ s.nat (0x3150 + k) 0x1C = 0

theorem State.faultOf_capoStop (s : State) (k : Nat) (stopped : Bool) : ((s.trip k 4).capoRelease k stopped).FaultOf k
    := by
  obtain ⟨b, hb⟩ := (s.trip k 4).armsOnly_capoRelease k stopped k
  refine ⟨?_, State.axis_capoRelease ..⟩
  rw [hb]
  exact (s.capoCAt_trip k 4).1

theorem State.capoCAt_trip_other (s : State) {j k : Nat} (t : Nat) (h : j ≠ k) :
    ((s.trip j t).capoCAt k).trips = (s.capoCAt k).trips := by
  unfold State.trip
  dsimp only
  split
  · rfl
  · obtain ⟨b, hb⟩ := State.armsOnly_setCauseNow (((s.capoCPut j { s.capoCAt j with
      trips := (s.capoCAt j).trips ||| 2 ^ t }).countTrip j t).putN 0x3800 0x12
        (j * 2 ^ 56 + (t + 1) * 2 ^ 48 + s.upUs % 2 ^ 48)) j (tripBit t) k
    have hcount (v : State) (n : Nat) : ((v.countTrip j t).putN 0x3800 0x12 n).capoCAt k = v.capoCAt k := by
      unfold State.countTrip
      split <;> rfl
    rw [hb, hcount, State.capoCAt_capoCPut, if_neg h]

theorem State.FaultOf.stop {j : Nat} (hk : k < 32) (hjk : j ≠ k) (h : s.FaultOf k) (stopped : Bool) :
    ((s.trip j 4).capoRelease j stopped).FaultOf k := by
  obtain ⟨htrip, haxis⟩ := h
  obtain ⟨b, hb⟩ := (s.trip j 4).armsOnly_capoRelease j stopped k
  refine ⟨?_, ((State.moves_capoStop s j stopped).nat (by decide) ?_).trans haxis⟩
  · rw [hb]
    exact (congrArg (bit · 4) (State.capoCAt_trip_other s 4 hjk)).trans htrip
  · simp only [faultPlaces, tripPlaces, failPlaces, coursePlaces, List.cons_append, List.nil_append,
      List.forall_mem_cons, Place.has, crs]
    simp
    omega

theorem State.int_capoStop {j b : Nat} (hj : j < 32) (hb : b = 1 ∨ b = 0x0C ∨ b = 0x0D) (s : State) (stopped : Bool) :
    ((s.trip j 4).capoRelease j stopped).int 0x3800 b = s.int 0x3800 b := by
  refine (State.moves_capoStop s j stopped).int (by omega) ?_
  simp only [faultPlaces, tripPlaces, failPlaces, coursePlaces, List.cons_append, List.nil_append,
      List.forall_mem_cons, Place.has, crs]
  simp
  omega

theorem State.int_capoFaultNow (h : s.nat 0x3800 1 ≠ 2) {b : Nat} (hb : b = 1 ∨ b = 0x0C ∨ b = 0x0D) :
    s.capoFaultNow.int 0x3800 b = ((s.putN 0x3800 1 2).bump 0x3800 0x0C).int 0x3800 b := by
  unfold State.capoFaultNow
  rw [if_neg h]
  exact State.each_invariant
      (P := fun u : State => u.int 0x3800 b = ((s.putN 0x3800 1 2).bump 0x3800 0x0C).int 0x3800 b)
    (fun u j hj hu => (State.int_capoStop (List.mem_range.mp hj) hb u _).trans hu) rfl

theorem State.capoFaultNow_stops (h : s.nat 0x3800 1 ≠ 2) (hk : k < 32) : s.capoFaultNow.FaultOf k := by
  unfold State.capoFaultNow
  rw [if_neg h]
  exact State.each_at (P := fun _ => True) (R := fun u => u.FaultOf k) (List.mem_range.mpr hk) List.nodup_range
    (fun _ _ _ _ _ => trivial) (fun u _ => u.faultOf_capoStop k _) (fun _ _ _ hne hu => hu.stop hk hne _) trivial

/-- A capo fault that is new: state 2, counted, and every course tripped with its axis released. -/
theorem State.capoFaultNow_shows (h : s.nat 0x3800 1 ≠ 2) :
    s.capoFaultNow.nat 0x3800 1 = 2 ∧ s.capoFaultNow.nat 0x3800 0x0C = min (s.nat 0x3800 0x0C + 1) 0xFFFFFFFF ∧
      s.capoFaultNow.int 0x3800 0x0D = s.int 0x3800 0x0D ∧ ∀ k < 32, s.capoFaultNow.FaultOf k := by
  have hnat (b : Nat) (hb : b = 1 ∨ b = 0x0C ∨ b = 0x0D) :
      s.capoFaultNow.nat 0x3800 b = ((s.putN 0x3800 1 2).bump 0x3800 0x0C).nat 0x3800 b :=
    congrArg Int.toNat (State.int_capoFaultNow h hb)
  have hint (u : State) (b n : Nat) (hb : b = 1 ∨ b = 0x0C) : (u.putN 0x3800 b n).int 0x3800 0x0D = u.int 0x3800 0x0D :=
    congrArg valInt (State.val_put_ne _ _ _ _ _ _ (dkey_ne (by decide) (by omega) fun _ => by omega))
  refine ⟨(hnat 1 (by simp)).trans ?_, (hnat 0x0C (by simp)).trans ?_, (State.int_capoFaultNow h (by simp)).trans ?_,
    fun k hk => State.capoFaultNow_stops h hk⟩
  · rw [State.nat_bump_ne _ (dkey_ne (by decide) (by decide) fun _ => by decide), State.nat_putN]
  · rw [State.nat_bump, State.nat_putN_ne _ _ _ _ _ _ (dkey_ne (by decide) (by decide) fun _ => by decide)]
  · exact (hint _ _ _ (by simp)).trans (hint _ _ _ (by simp))

/-! ### VAON and the self-test -/

/-- What VAON samples. -/
def State.sampled (s : State) (sel : Nat) : State :=
  ({ s with
    capo := { sel := sel, blown := s.capo.blown, blownSeen := s.capo.blown, vaon := true, interlock := s.capo.interlock,
              highSince := s.capo.highSince }
    capoC := [] } : State).putN 0x3800 1 0

theorem State.capoDefaults_shows (s : State) :
    s.capoDefaults.nat 0x3800 1 = s.nat 0x3800 1 ∧ s.capoDefaults.nat 0x3800 2 = s.capo.sel ∧
      s.capoDefaults.nat 0x3800 4 = s.classInForce := by
  have hcourses (u : State) (c b : Nat) (hb : b < 256) : (u.each allCourses (fun s k =>
      ((((s.putN (0x3810 + k) 3 200).putN (0x3810 + k) 4 60000).putN (0x3810 + k) 5 950).putN (0x3810 + k) 6 c).putN
        (0x3810 + k) 7 c)).nat 0x3800 b = u.nat 0x3800 b := by
    have h : DictIn [.rows 0x3810] u.dict (u.each allCourses (fun s k =>
        ((((s.putN (0x3810 + k) 3 200).putN (0x3810 + k) 4 60000).putN (0x3810 + k) 5 950).putN (0x3810 + k) 6 c).putN
          (0x3810 + k) 7 c)).dict :=
      (dictIn_each _ fun v k => by simp [State.putN, dictIn_rows 0x3810]).mpr (DictIn.refl _ _)
    exact h.nat hb (by simp)
  have hput (u : State) {b c : Nat} (v : Val) (hb : b < 256) (hc : c < 256) (hbc : b ≠ c) :
      (u.put 0x3800 c v).nat 0x3800 b = u.nat 0x3800 b :=
    congrArg (fun v => (valInt v).toNat) (State.val_put_ne _ _ _ _ _ _ (dkey_ne hb hc fun _ => hbc))
  unfold State.capoDefaults
  dsimp only
  refine ⟨(hcourses _ _ _ (by decide)).trans ?_, (hcourses _ _ _ (by decide)).trans ?_,
      (hcourses _ _ _ (by decide)).trans ?_⟩
  · iterate 6 refine (hput _ _ (by decide) (by decide) (by decide)).trans ?_
    rfl
  · iterate 5 refine (hput _ _ (by decide) (by decide) (by decide)).trans ?_
    exact State.nat_putN ..
  · iterate 3 refine (hput _ _ (by decide) (by decide) (by decide)).trans ?_
    exact State.nat_putN ..

/-- The scan watch of a course expects no sign. -/
def State.unwatch (s : State) (k : Nat) : State := s.capoCPut k { s.capoCAt k with expected := none, misses := 0 }

theorem State.capoCAt_unwatchAll (s : State) (hk : k < 32) :
    (s.each allCourses State.unwatch).capoCAt k = { s.capoCAt k with expected := none, misses := 0 } := by
  have hother (u : State) {j : Nat} (hne : j ≠ k) : (u.unwatch j).capoCAt k = u.capoCAt k :=
    (State.capoCAt_capoCPut ..).trans (if_neg hne)
  refine State.each_at (P := fun u => u.capoCAt k = s.capoCAt k)
    (R := fun u => u.capoCAt k = { s.capoCAt k with expected := none, misses := 0 }) (List.mem_range.mpr hk)
        List.nodup_range
    (fun u j _ hne hu => (hother u hne).trans hu) (fun u hu => ?_) (fun u j _ hne hu => (hother u hne).trans hu) rfl
  rw [State.unwatch, State.capoCAt_put_self, hu]

theorem exec_vaonValid {sel : BitVec 3} (hoff : s.capo.vaon = false) :
    exec (.vaonValid sel) s = .next (s.sampled sel.toNat).capoDefaults := congrArg Host.Outcome.next
        (if_neg (by simp [hoff]))

theorem exec_capoSelfTest_passes (hon : s.capo.vaon = true) (hstate : s.nat 0x3800 1 = 0) (href : s.clk.refclk = true) :
    exec (.capoSelfTestComplete true) s = .next ((s.putN 0x3800 1 1).each allCourses State.unwatch) :=
  congrArg Host.Outcome.next ((if_pos ⟨hon, hstate, href⟩).trans (if_pos rfl))

theorem exec_capoSelfTest_fails (hon : s.capo.vaon = true) (hstate : s.nat 0x3800 1 = 0) (href : s.clk.refclk = true) :
    exec (.capoSelfTestComplete false) s = .next s.capoFaultNow :=
  congrArg Host.Outcome.next ((if_pos ⟨hon, hstate, href⟩).trans (if_neg (by simp)))

theorem exec_capoFault_beyond {dev : Int} (hon : s.capo.vaon = true) (href : s.clk.refclk = true)
    (h : 50000 < dev.natAbs) :
    exec (.capoFault dev) s = .next (s.putI 0x3800 0x0D (sat32 dev)).capoFaultNow :=
  congrArg Host.Outcome.next ((if_pos ⟨hon, href⟩).trans (if_pos h))

end Sys2Proof.Machine

namespace Sys2Proof.Proofs
open Sys2Proof.Machine

theorem vaonValid_clause (sel : BitVec 3) (s : State) (hoff : s.capo.vaon = false) :
    Completes (.vaonValid sel) s (fun t => t.capo.vaon = true ∧ t.capo.sel = sel.toNat ∧
      t.capo.blownSeen = s.capo.blown ∧ t.nat 0x3800 1 = 0 ∧ t.nat 0x3800 2 = sel.toNat ∧
      t.nat 0x3800 4 = min sel.toNat (7 - (7 &&& s.capo.blown)) ∧ t.capoC = [] ∧ t.mem = s.mem) := by
  obtain ⟨hstate, hsel, hclass⟩ := (s.sampled sel.toNat).capoDefaults_shows
  have hw := (State.within_capoDefaults (List.Subset.refl _) (s.sampled sel.toNat)).mpr (State.within_refl _ _)
  have hcapo : (s.sampled sel.toNat).capoDefaults.capo = (s.sampled sel.toNat).capo := hw .capo (by simp)
  have hcourses : (s.sampled sel.toNat).capoDefaults.capoC = (s.sampled sel.toNat).capoC := hw .capoC (by simp)
  refine ⟨_, exec_vaonValid hoff, by rw [hcapo]; rfl, by rw [hcapo]; rfl, by rw [hcapo]; rfl, hstate.trans ?_, hsel,
      hclass, hcourses, ?_⟩
  · exact State.nat_putN ..
  · exact (State.mem_of_within hw (by simp) (by simp)).trans rfl

theorem selfTestPassed_clause (s : State) (hon : s.capo.vaon = true) (hstate : s.nat 0x3800 1 = 0)
    (href : s.clk.refclk = true) :
    Completes (.capoSelfTestComplete true) s (fun t => t.nat 0x3800 1 = 1 ∧ s.EntriesBut t [(0x3800, 1)] ∧
      ∀ k < 32, t.capoCAt k = { s.capoCAt k with expected := none, misses := 0 }) := by
  have hone (u : State) (k : Nat) : (u.unwatch k).dict = u.dict := rfl
  have hunwatch (u : State) : (u.each allCourses State.unwatch).dict = u.dict := State.each_proj State.dict hone u
      allCourses
  have hdict := hunwatch (s.putN 0x3800 1 1)
  have hexec := exec_capoSelfTest_passes hon hstate href
  have hwatch (k : Nat) (hk : k < 32) := State.capoCAt_unwatchAll (s.putN 0x3800 1 1) hk
  generalize (s.putN 0x3800 1 1).each allCourses State.unwatch = v at hexec hdict hwatch
  refine ⟨v, hexec, ?_, fun i b hother => ?_, hwatch⟩
  · rw [State.nat_of_dict hdict, State.nat_putN]
  · rw [State.val_of_dict hdict]
    exact (s.onlyEntries_putN 0x3800 1 1).2 i b hother

/-- Settles O44: the straps and the fuses at VAON, the self-test, and the oscillator's check. -/
theorem capoStartsAndFails : Obligations.CapoStartsAndFails := by
  unfold Obligations.CapoStartsAndFails
  intro sel dev s
  refine ⟨fun hon => congrArg Host.Outcome.next (if_pos hon), vaonValid_clause sel s,
    fun hon hstate href => ⟨selfTestPassed_clause s hon hstate href, ?_⟩, fun href => ?_, fun hon href =>
        ⟨fun hin => ?_, ?_⟩⟩
  · obtain ⟨hfault, hcount, -, hall⟩ := State.capoFaultNow_shows (s := s) (by omega)
    exact ⟨_, exec_capoSelfTest_fails hon hstate href, hfault, hcount, hall⟩
  · exact ⟨congrArg Host.Outcome.next (if_neg fun h => by simp [href] at h),
      congrArg Host.Outcome.next (if_neg fun h => by simp [href] at h),
      congrArg Host.Outcome.next (if_neg fun h => by simp [href] at h)⟩
  · exact congrArg Host.Outcome.next ((if_pos ⟨hon, href⟩).trans (if_neg (by omega)))
  · intro hbeyond hstate
    have hother (b : Nat) (hb : b < 256) (hne : b ≠ 0x0D) : (s.putI 0x3800 0x0D (sat32 dev)).nat 0x3800 b = s.nat
        0x3800 b :=
      congrArg (fun v => (valInt v).toNat) (State.val_put_ne _ _ _ _ _ _ (dkey_ne hb (by decide) fun _ => hne))
    obtain ⟨hfault, hcount, hdev, hall⟩ := State.capoFaultNow_shows (s := s.putI 0x3800 0x0D (sat32 dev))
      (by rwa [hother 1 (by decide) (by decide)])
    rw [hother 0x0C (by decide) (by decide)] at hcount
    exact ⟨_, exec_capoFault_beyond hon href hbeyond, ⟨hfault, hcount, hall⟩, hdev.trans (State.int_putI ..)⟩

end Sys2Proof.Proofs

/-! PROOF. Trips latch until they are re-armed (R380, R385, R388, R390). -/

namespace Sys2Proof.Machine

variable {s t u : State} {j k : Nat}

/-! ### What a trip of one course leaves to the others -/

/-- Of what the capo holds of the courses only course `j`'s may have moved. -/
def State.ArmOf (j : Nat) (s t : State) : Prop := ∀ k, k ≠ j → t.capoCAt k = s.capoCAt k

theorem State.ArmOf.trans (h : State.ArmOf j s t) (g : State.ArmOf j t u) : State.ArmOf j s u := fun k hk =>
    (g k hk).trans (h k hk)

theorem State.armOf_of_eq (h : t.capoC = s.capoC) : State.ArmOf j s t := fun k _ =>
  congrArg (fun l => tgetD l ({} : CapoCourse) k) h

theorem State.armOf_of_within {L : List Part} (h : s.Within L t) (hL : .capoC ∉ L) : State.ArmOf j s t :=
  State.armOf_of_eq (h .capoC hL)

theorem State.ArmOf.ite {c : Prop} [Decidable c] (ht : State.ArmOf j s t) (hu : State.ArmOf j s u) :
    State.ArmOf j s (if c then t else u) := by
  split <;> assumption

theorem State.armOf_refl (s : State) : State.ArmOf j s s := fun _ _ => rfl

theorem State.armOf_put (s : State) (x : CapoCourse) : State.ArmOf j s (s.capoCPut j x) := fun _ hk =>
  (State.capoCAt_capoCPut ..).trans (if_neg hk.symm)

theorem State.armOf_setCst (s : State) (n : Nat) : State.ArmOf j s (s.setCst j n) :=
  State.armOf_of_within ((State.within_setCst (List.Subset.refl _) s j n).mpr (State.within_refl _ _)) (by simp)

theorem State.armOf_toHushed (s : State) : State.ArmOf j s (s.toHushed j) := by
  have hdark (x : PlaceSt) : State.ArmOf j s (((s.setCst j 5).setArm j false).plcPut j x) :=
    ((State.armOf_setCst s 5).trans (State.armOf_put _ _)).trans (State.armOf_of_eq rfl)
  have hnote (u : State) : State.ArmOf j u (u.hushNoted j) :=
    State.armOf_of_within ((State.within_hushNoted (List.Subset.refl _) u j).mpr (State.within_refl _ _)) (by simp)
  exact State.ArmOf.ite (State.armOf_refl s) (State.ArmOf.ite (hdark _) ((hdark _).trans (hnote _)))

theorem State.armOf_toStopped (s : State) : State.ArmOf j s (s.toStopped j) := by
  have harm : State.ArmOf j s ((s.setCst j 0).setArm j false) := (State.armOf_setCst s 0).trans (State.armOf_put _ _)
  have hrest (u : State) :
      u.Within [.dict, .frm, .bow, .plc, .fet, .mir, .capo, .runs]
          ((((u.setEmitOk j false).mirrorStop j).dropModel j).runAbort j) := by
    simp
  exact State.ArmOf.ite (State.armOf_refl s) (harm.trans (State.armOf_of_within (hrest _) (by simp)))

theorem State.armOf_setCauseNow (s : State) (b : Nat) : State.ArmOf j s (s.setCauseNow j b) := by
  have hbit : State.ArmOf j s (s.causeBit j b) :=
    State.armOf_of_within ((State.within_causeBit (List.Subset.refl _) s j b).mpr (State.within_refl _ _)) (by simp)
  have hhush := hbit.trans (State.armOf_toHushed _)
  exact State.ArmOf.ite (State.armOf_refl s) (State.ArmOf.ite (hhush.trans (State.armOf_toStopped _)) hhush)

/-- A trip that latches, but for its hush. -/
def State.tripNoted (s : State) (k t : Nat) : State :=
  ((s.capoCPut k { s.capoCAt k with trips := (s.capoCAt k).trips ||| 2 ^ t }).countTrip k t).putN 0x3800 0x12
    (k * 2 ^ 56 + (t + 1) * 2 ^ 48 + s.upUs % 2 ^ 48)

theorem State.trip_latched {n : Nat} (h : bit (s.capoCAt k).trips n = true) : s.trip k n = s := if_pos h

theorem State.trip_new {n : Nat} (h : bit (s.capoCAt k).trips n = false) : s.trip k n = (s.tripNoted k n).setCauseNow k
    (tripBit n) :=
  if_neg (by simp [h])

theorem State.capoC_tripNoted (s : State) (k n : Nat) :
    (s.tripNoted k n).capoC = (s.capoCPut k { s.capoCAt k with trips := (s.capoCAt k).trips ||| 2 ^ n }).capoC := by
  unfold State.tripNoted State.countTrip
  split <;> rfl

theorem State.armOf_trip (s : State) (n : Nat) : State.ArmOf j s (s.trip j n) := by
  by_cases h : bit (s.capoCAt j).trips n = true
  · rw [State.trip_latched h]
    exact State.armOf_refl s
  · rw [State.trip_new (by simpa using h)]
    exact ((State.armOf_put s _).trans (State.armOf_of_eq (State.capoC_tripNoted s j n))).trans
        (State.armOf_setCauseNow _ _)

/-! ### Hush causes and states of other courses -/

theorem not_has_coursePlaces (hk : k < 32) (hjk : j ≠ k) {b : Nat} (hb : b ≤ 3) :
    ∀ p ∈ coursePlaces j, ¬ p.has (crs k) b := by
  simp only [coursePlaces, List.forall_mem_cons, Place.has, crs]
  simp
  omega

theorem not_has_tripPlaces (hk : k < 32) (hjk : j ≠ k) {b : Nat} (hb : b ≤ 3) :
    ∀ p ∈ tripPlaces j, ¬ p.has (crs k) b := by
  have h := not_has_coursePlaces hk hjk hb
  simp only [tripPlaces, List.forall_mem_cons, Place.has, crs] at h ⊢
  exact ⟨by omega, by omega, h⟩

theorem State.nat_trip_other (hk : k < 32) (hjk : j ≠ k) (s : State) (n : Nat) {b : Nat} (hb : b ≤ 3) :
    (s.trip j n).nat (crs k) b = s.nat (crs k) b :=
  ((State.moves_trip (List.Subset.refl _) s n).mpr (DictIn.refl _ _)).nat (by omega) (not_has_tripPlaces hk hjk hb)

theorem State.nat_setCauseNow_other (hk : k < 32) (hjk : j ≠ k) (s : State) (n : Nat) {b : Nat} (hb : b ≤ 3) :
    (s.setCauseNow j n).nat (crs k) b = s.nat (crs k) b :=
  ((State.moves_setCauseNow (List.Subset.refl _) s n).mpr (DictIn.refl _ _)).nat (by omega)
      (not_has_coursePlaces hk hjk hb)

/-! ### The device leaves LIT, or its state stays -/

/-- The device state stays, or goes from LIT to DARK. -/
def State.DarkOnly (s t : State) : Prop := t.dst = s.dst ∨ s.dst = 2 ∧ t.dst = 1

theorem State.DarkOnly.trans (h : s.DarkOnly t) (g : t.DarkOnly u) : s.DarkOnly u := by
  unfold State.DarkOnly at *
  omega

theorem State.darkOnly_refl (s : State) : s.DarkOnly s := Or.inl rfl

theorem State.DarkOnly.ite {c : Prop} [Decidable c] (ht : s.DarkOnly t) (hu : s.DarkOnly u) : s.DarkOnly
    (if c then t else u) := by
  split <;> assumption

theorem State.darkOnly_of_dict (h : t.dict = s.dict) : s.DarkOnly t := Or.inl (State.nat_of_dict h ..)

theorem State.darkOnly_of_places {L : List Place} (h : DictIn L s.dict t.dict) (hfree : L.all Place.startFree = true) :
    s.DarkOnly t :=
  Or.inl (h.nat (by decide) (Place.not_has_of_startFree hfree _ _ (Or.inl ⟨rfl, rfl⟩)))

theorem State.darkOnly_darkIfDone (s : State) : s.DarkOnly s.darkIfDone := by
  unfold State.darkIfDone
  split
  next h => exact Or.inr ⟨h.1, State.nat_putN ..⟩
  next => exact State.darkOnly_refl s

theorem State.darkOnly_crs (hk : k < 32) (s : State) {b : Nat} (n : Nat) (hb : b < 256) : s.DarkOnly
    (s.putN (crs k) b n) :=
  Or.inl (State.nat_putN_ne _ _ _ _ _ _ (dkey_ne (by decide) hb fun h => absurd h (by unfold crs; omega)))

theorem State.darkOnly_hushNoted (s : State) (k : Nat) : s.DarkOnly (s.hushNoted k) :=
  State.darkOnly_of_places ((State.writes_hushNoted (List.Subset.refl _) s k).mpr (DictIn.refl _ _)) rfl

theorem State.darkOnly_setCst (hk : k < 32) (s : State) (n : Nat) : s.DarkOnly (s.setCst k n) := by
  obtain ⟨v, hv, w, hw, hset⟩ := s.setCst_form k n
  have hnote : s.DarkOnly v :=
    (State.DarkOnly.ite (State.darkOnly_hushNoted s k) (State.darkOnly_refl s)).trans (State.darkOnly_of_dict hv)
  have hrun : s.DarkOnly ((v.putN (crs k) 1 n).runStart k) :=
    (hnote.trans (State.darkOnly_crs hk v n (by decide))).trans
      (State.darkOnly_of_places ((State.writes_runStart (List.Subset.refl _) _ k).mpr (DictIn.refl _ _)) rfl)
  have hkept : s.DarkOnly w := by
    rcases hw with rfl | rfl
    · exact hrun
    · exact hrun.trans
        (State.darkOnly_of_places ((State.writes_emptyPartition (List.Subset.refl _) _ k).mpr (DictIn.refl _ _)) rfl)
  rcases hset with h | h <;> rw [h]
  · exact hkept
  · exact hkept.trans (State.darkOnly_darkIfDone w)

theorem State.darkOnly_toHushed (hk : k < 32) (s : State) : s.DarkOnly (s.toHushed k) := by
  have hdark (u : State) (x : PlaceSt) : u.DarkOnly ((u.setArm k false).plcPut k x) := State.darkOnly_of_dict rfl
  have hnote (x : PlaceSt) : s.DarkOnly (((s.setCst k 5).setArm k false).plcPut k x) :=
    (State.darkOnly_setCst hk s 5).trans (hdark _ x)
  exact State.DarkOnly.ite (State.darkOnly_refl s)
      (State.DarkOnly.ite (hnote _) ((hnote _).trans (State.darkOnly_hushNoted _ k)))

theorem State.darkOnly_toStopped (hk : k < 32) (s : State) : s.DarkOnly (s.toStopped k) := by
  have hrest (u : State) : u.DarkOnly (((((u.setArm k false).setEmitOk k false).mirrorStop k).dropModel k).runAbort k)
      :=
    State.darkOnly_of_places (L := [.column 0x2200 0x15, .column 0x2200 0x1E, .column 0x4010 4, .column 0x4010 0x12])
      (by simp [DictIn.refl]) rfl
  exact State.DarkOnly.ite (State.darkOnly_refl s) ((State.darkOnly_setCst hk s 0).trans (hrest _))

theorem State.darkOnly_causeBit (hk : k < 32) (s : State) (b : Nat) : s.DarkOnly (s.causeBit k b) := by
  have hset : s.DarkOnly (s.accrue.setFlag (crs k) 3 b true) :=
    (State.darkOnly_of_dict rfl).trans (State.darkOnly_crs hk s.accrue _ (by decide))
  exact State.DarkOnly.ite (State.darkOnly_refl s)
    (State.DarkOnly.ite (hset.trans (State.darkOnly_crs hk _ _ (by decide))) hset)

theorem State.darkOnly_setCauseNow (hk : k < 32) (s : State) (b : Nat) : s.DarkOnly (s.setCauseNow k b) := by
  have hhush := (State.darkOnly_causeBit hk s b).trans (State.darkOnly_toHushed hk _)
  exact State.DarkOnly.ite (State.darkOnly_refl s)
      (State.DarkOnly.ite (hhush.trans (State.darkOnly_toStopped hk _)) hhush)

theorem State.writes_tripNoted (s : State) (k : Nat) {n : Nat} (hn : n < 5) :
    DictIn [.entry 0x3800 0x12, .entry (0x3810 + k) (0x0A + n)] s.dict (s.tripNoted k n).dict := by
  unfold State.tripNoted State.countTrip
  split
  · simp only [State.putN, State.bump, State.addSat]
    rw [dictIn_entry _ _ _ (by simp) (by decide), dictIn_entry _ _ _ (by simp) (by omega)]
    exact DictIn.refl _ _
  · simp only [State.putN]
    rw [dictIn_entry _ _ _ (by simp) (by decide)]
    exact DictIn.refl _ _

theorem State.nat_tripNoted (s : State) (k : Nat) {n i b : Nat} (hn : n < 5) (hi : i < 0x3800 ∨ 0x3830 ≤ i)
    (hb : b < 256) (hk : k < 32) :
    (s.tripNoted k n).nat i b = s.nat i b := by
  refine (State.writes_tripNoted s k hn).nat hb ?_
  simp only [List.forall_mem_cons, Place.has, List.not_mem_nil, false_implies, implies_true, and_true]
  omega

theorem State.darkOnly_trip (hk : k < 32) (s : State) {n : Nat} (hn : n < 5) : s.DarkOnly (s.trip k n) := by
  by_cases h : bit (s.capoCAt k).trips n = true
  · rw [State.trip_latched h]
    exact State.darkOnly_refl s
  · rw [State.trip_new (by simpa using h)]
    exact State.DarkOnly.trans (Or.inl (State.nat_tripNoted s k hn (by decide) (by decide) hk))
        (State.darkOnly_setCauseNow hk _ _)

theorem State.darkOnly_each {l : List Nat} {f : State → Nat → State} (h : ∀ u : State, ∀ j ∈ l, u.DarkOnly (f u j))
    (s : State) :
    s.DarkOnly (s.each l f) :=
  State.each_invariant (P := s.DarkOnly) (fun u j hj hu => hu.trans (h u j hj)) (State.darkOnly_refl s)

/-- The device is out of LIT after it leaves it. -/
theorem State.dst_leaveLit (s : State) : s.leaveLit.dst = if s.dst = 2 then 1 else s.dst := by
  have hcourses (u : State) : u.DarkOnly (u.each allCourses (fun s k => if s.cst k = 0 then s else s.setCauseNow k 10))
      :=
    State.darkOnly_each (fun v k hk => State.DarkOnly.ite (State.darkOnly_refl v)
      (State.darkOnly_setCauseNow (List.mem_range.mp hk) v 10)) u
  unfold State.leaveLit
  split
  next hlit =>
    have hput : (s.putN 0x4200 1 1).dst = 1 := State.nat_putN ..
    have h := hcourses (s.putN 0x4200 1 1)
    unfold State.DarkOnly at h
    dsimp only
    omega
  next => rfl

/-! ### The course that trips -/

theorem State.flag_toHushed (s : State) (k n : Nat) : (s.toHushed k).flag (crs k) 3 n = s.flag (crs k) 3 n :=
  ((State.writes_toHushed (List.Subset.refl _) s k).mpr (DictIn.refl _ _)).flag n (by decide) (by simp)

theorem State.flag_toStopped (s : State) (k n : Nat) : (s.toStopped k).flag (crs k) 3 n = s.flag (crs k) 3 n :=
  ((State.writes_toStopped (List.Subset.refl _) s k).mpr (DictIn.refl _ _)).flag n (by decide) (by simp)

theorem bit_withBit_true {v n : Nat} (i : Nat) (h : bit v n = true) : bit (withBit v i true) n = true := by
  simp only [bit] at h
  simp [bit, withBit, h]

theorem bit_withBit_false (v i : Nat) : bit (withBit v i false) i = false := by
  unfold withBit bit
  split
  next h => simp at h
  next =>
    split
    next hset =>
      have hdiv : (v - 2 ^ i) / 2 ^ i = v / 2 ^ i - 1 := by
        simpa using Nat.sub_mul_div v (2 ^ i) 1
      rw [Nat.testBit_eq_decide_div_mod_eq] at hset ⊢
      rw [hdiv]
      simp only [decide_eq_true_eq, decide_eq_false_iff_not] at hset ⊢
      omega
    next hclear => simpa using hclear

theorem State.flag_causeBit_kept {b n : Nat} (h : s.flag (crs k) 3 n = true) : (s.causeBit k b).flag (crs k) 3 n = true
    := by
  have hset : (s.accrue.setFlag (crs k) 3 b true).flag (crs k) 3 n = true := by
    rw [State.flag, State.setFlag, State.nat_putN]
    exact bit_withBit_true b h
  unfold State.causeBit
  split
  · exact h
  · dsimp only
    split
    · rw [State.flag, State.nat_putN_ne _ _ _ _ _ _ (dkey_ne (by decide) (by decide) fun _ => by decide)]
      exact hset
    · exact hset

/-- A hush cause that is set at once shows with those that were set. -/
theorem State.flag_setCauseNow {b n : Nat} (h : n = b ∨ s.flag (crs k) 3 n = true) : (s.setCauseNow k b).flag (crs k) 3
    n = true := by
  have hbit : (s.causeBit k b).flag (crs k) 3 n = true := by
    rcases h with rfl | h
    · exact State.flag_causeBit ..
    · exact State.flag_causeBit_kept h
  unfold State.setCauseNow
  split
  next hset => exact h.elim (fun hnb => hnb ▸ hset) id
  next =>
    dsimp only
    split
    · rw [State.flag_toStopped, State.flag_toHushed, hbit]
    · rw [State.flag_toHushed, hbit]

theorem State.cst_toHushed (hk : k < 32) (s : State) (h : s.cst k ≠ 0) : (s.toHushed k).cst k = 5 := by
  unfold State.toHushed
  split
  next hdone => exact hdone.resolve_left h
  next =>
    have hnote (u : State) : (u.hushNoted k).cst k = u.cst k :=
      State.cst_of_dictIn ((State.writes_hushNoted (List.Subset.refl _) u k).mpr (DictIn.refl _ _)) (by simp)
    have hdark (u : State) (x : PlaceSt) : ((u.setArm k false).plcPut k x).cst k = u.cst k := rfl
    dsimp only
    split
    · rw [hdark, State.cst_setCst hk]
    · rw [hnote, hdark, State.cst_setCst hk]

/-- A course that runs is HUSHED or STOPPED by a cause that is new. -/
theorem State.cst_setCauseNow (hk : k < 32) {b : Nat} (hnew : s.flag (crs k) 3 b = false) (h : s.cst k ≠ 0) :
    (s.setCauseNow k b).cst k = 5 ∨ (s.setCauseNow k b).cst k = 0 := by
  have hbit : (s.causeBit k b).cst k = s.cst k :=
    State.cst_of_dictIn ((State.writes_causeBit (List.Subset.refl _) s k b).mpr (DictIn.refl _ _)) (by simp)
  have hhush : ((s.causeBit k b).toHushed k).cst k = 5 := State.cst_toHushed hk _ (by rwa [hbit])
  unfold State.setCauseNow
  rw [if_neg (by simp [hnew])]
  dsimp only
  split
  · exact Or.inr (State.cst_toStopped hk _)
  · exact Or.inl hhush

end Sys2Proof.Machine

/-! PROOF. Trips latch until they are re-armed (R380, R385, R388, R390): the commands. -/

namespace Sys2Proof.Machine

variable {s t u : State} {j k : Nat}

/-! ### Energy and interlock trips -/

theorem State.nat_setCauseNow_capo (s : State) (k b : Nat) {i c : Nat} (hi : i < 0x4000) (hc : c = 0x0B ∨ c = 0x12) :
    (s.setCauseNow k b).nat i c = s.nat i c := by
  refine ((State.moves_setCauseNow (List.Subset.refl _) s b).mpr (DictIn.refl _ _)).nat (by omega) ?_
  simp only [coursePlaces, List.forall_mem_cons, Place.has, crs, List.not_mem_nil, false_implies, implies_true,
      and_true]
  omega

/-- What a new trip of course `k` leaves. -/
theorem State.trip_new_shows {n : Nat} (h : bit (s.capoCAt k).trips n = false) :
    ((s.trip k n).capoCAt k).trips = ((s.capoCAt k).trips ||| 2 ^ n) ∧ (s.trip k n).flag (crs k) 3 (tripBit n) = true ∧
      (s.trip k n).nat 0x3800 0x12 = k * 2 ^ 56 + (n + 1) * 2 ^ 48 + s.upUs % 2 ^ 48 := by
  rw [State.trip_new h]
  refine ⟨?_, State.flag_setCauseNow (Or.inl rfl), ?_⟩
  · obtain ⟨b, hb⟩ := State.armsOnly_setCauseNow (s.tripNoted k n) k (tripBit n) k
    have hat : (s.tripNoted k n).capoCAt k = { s.capoCAt k with trips := (s.capoCAt k).trips ||| 2 ^ n } :=
      (congrArg (fun l => tgetD l ({} : CapoCourse) k) (State.capoC_tripNoted s k n)).trans (State.capoCAt_put_self ..)
    rw [hb, hat]
  · rw [State.nat_setCauseNow_capo _ _ _ (by decide) (Or.inr rfl)]
    exact State.nat_putN ..

theorem State.mem_trip (s : State) (k n : Nat) : (s.trip k n).mem = s.mem :=
  State.mem_of_within ((State.within_trip (List.Subset.refl _) s k n).mpr (State.within_refl _ _)) (by simp) (by simp)

theorem State.energyTrip_counted (hk : k < 32) (h : bit (s.capoCAt k).trips 1 = false) :
    (s.trip k 1).nat (0x3810 + k) 0x0B = min (s.nat (0x3810 + k) 0x0B + 1) 0xFFFFFFFF := by
  rw [State.trip_new h, State.nat_setCauseNow_capo _ _ _ (by omega) (Or.inl rfl)]
  exact (State.nat_putN_ne _ _ _ _ _ _ (dkey_ne (by decide) (by decide) fun h => absurd h (by omega))).trans
      (State.nat_bump _ _ _)

theorem State.trip_moves (hk : k < 32) {n : Nat} (hn : n < 5) (h : bit (s.capoCAt k).trips n = false)
    (hclear : s.flag (crs k) 3 (tripBit n) = false) (hruns : s.cst k ≠ 0) : (s.trip k n).cst k = 5 ∨ (s.trip k n).cst k
        = 0 := by
  have hnat (b : Nat) (hb : b < 256) : (s.tripNoted k n).nat (crs k) b = s.nat (crs k) b :=
    State.nat_tripNoted s k hn (Or.inl (by unfold crs; omega)) hb hk
  rw [State.trip_new h]
  refine State.cst_setCauseNow hk ?_ ?_
  · exact (congrArg (bit · (tripBit n)) (hnat 3 (by decide))).trans hclear
  · exact fun hzero => hruns ((hnat 1 (by decide)).symm.trans hzero)

/-! ### The interlock -/

/-- The interlock trips a course that is not STOPPED. -/
def State.interlockTrips (s : State) (k : Nat) : State := if s.cst k = 0 then s else s.trip k 3

/-- The device leaves LIT: a course that is not STOPPED is hushed. -/
def State.leavesLit (s : State) (k : Nat) : State := if s.cst k = 0 then s else s.setCauseNow k 10

/-- What the capo and the hush causes show of a course that the interlock finds running. -/
def State.InterlockLatched (s : State) (k : Nat) (new : Bool) : Prop :=
  bit (s.capoCAt k).trips 3 = true ∧ (new = true → s.flag (crs k) 3 1 = true)

theorem State.interlockTrips_other (hk : k < 32) (hjk : j ≠ k) (u : State) :
    (u.interlockTrips j).capoCAt k = u.capoCAt k ∧ ∀ b ≤ 3, (u.interlockTrips j).nat (crs k) b = u.nat (crs k) b := by
  unfold State.interlockTrips
  split
  · exact ⟨rfl, fun _ _ => rfl⟩
  · exact ⟨State.armOf_trip u 3 k hjk.symm, fun b hb => State.nat_trip_other hk hjk u 3 hb⟩

theorem State.leavesLit_other (hk : k < 32) (hjk : j ≠ k) (u : State) :
    (u.leavesLit j).capoCAt k = u.capoCAt k ∧ ∀ b ≤ 3, (u.leavesLit j).nat (crs k) b = u.nat (crs k) b := by
  unfold State.leavesLit
  split
  · exact ⟨rfl, fun _ _ => rfl⟩
  · exact ⟨State.armOf_setCauseNow u 10 k hjk.symm, fun b hb => State.nat_setCauseNow_other hk hjk u 10 hb⟩

theorem State.interlock_each (hk : k < 32) (h : s.cst k ≠ 0) :
    (s.each allCourses State.interlockTrips).InterlockLatched k (!bit (s.capoCAt k).trips 3) := by
  have hflag (u v : State) (hb : ∀ b ≤ 3, v.nat (crs k) b = u.nat (crs k) b) : v.flag (crs k) 3 1 = u.flag (crs k) 3 1
      :=
    congrArg (bit · 1) (hb 3 (by decide))
  refine State.each_at (P := fun u => u.capoCAt k = s.capoCAt k ∧ u.cst k = s.cst k)
    (R := fun u => u.InterlockLatched k (!bit (s.capoCAt k).trips 3)) (List.mem_range.mpr hk) List.nodup_range
    (fun u j _ hne hu => ?_) (fun u hu => ?_) (fun u j _ hne hu => ?_) ⟨rfl, rfl⟩
  · obtain ⟨hcapo, hnat⟩ := State.interlockTrips_other hk hne u
    exact ⟨hcapo.trans hu.1, (hnat 1 (by decide)).trans hu.2⟩
  · obtain ⟨hcapo, hcst⟩ := hu
    rw [State.interlockTrips, if_neg (by omega), ← hcapo]
    exact ⟨(u.capoCAt_trip k 3).1, fun hnew => (State.trip_new_shows (by simpa using hnew)).2.1⟩
  · obtain ⟨hcapo, hnat⟩ := State.interlockTrips_other hk hne u
    exact ⟨by rw [hcapo]; exact hu.1, fun hnew => (hflag _ _ hnat).trans (hu.2 hnew)⟩

theorem State.InterlockLatched.leaves (hk : k < 32) {new : Bool} (h : s.InterlockLatched k new) :
    (s.each allCourses State.leavesLit).InterlockLatched k new := by
  refine State.each_invariant (P := fun u => u.InterlockLatched k new) (fun u j _ hu => ?_) h
  by_cases hjk : j = k
  · subst hjk
    unfold State.leavesLit
    split
    · exact hu
    · obtain ⟨b, hb⟩ := State.armsOnly_setCauseNow u j 10 j
      exact ⟨by rw [hb]; exact hu.1, fun hnew => State.flag_setCauseNow (Or.inr (hu.2 hnew))⟩
  · obtain ⟨hcapo, hnat⟩ := State.leavesLit_other hk hjk u
    exact ⟨by rw [hcapo]; exact hu.1, fun hnew => (congrArg (bit · 1) (hnat 3 (by decide))).trans (hu.2 hnew)⟩

/-- A course that is STOPPED is left alone, by the interlock's trip and as the device leaves LIT. -/
theorem State.stopped_each {f : State → Nat → State} (hskip : ∀ u : State, u.cst k = 0 → f u k = u)
    (hother : ∀ (u : State) (j : Nat), j ≠ k → (f u j).capoCAt k = u.capoCAt k ∧ ∀ b ≤ 3,
        (f u j).nat (crs k) b = u.nat (crs k) b)
    (h : s.cst k = 0) : (s.each allCourses f).capoCAt k = s.capoCAt k ∧ (s.each allCourses f).cst k = 0 := by
  refine State.each_invariant (P := fun u => u.capoCAt k = s.capoCAt k ∧ u.cst k = 0) (fun u j _ hu => ?_) ⟨rfl, h⟩
  by_cases hjk : j = k
  · rw [hjk, hskip u hu.2]
    exact hu
  · obtain ⟨hcapo, hnat⟩ := hother u j hjk
    exact ⟨hcapo.trans hu.1, (hnat 1 (by decide)).trans hu.2⟩

theorem State.leaveLit_eq (s : State) :
    s.leaveLit = s ∨ ∃ u : State, u = s.putN 0x4200 1 1 ∧ s.leaveLit = u.each allCourses State.leavesLit := by
  unfold State.leaveLit
  split
  · exact Or.inr ⟨_, rfl, rfl⟩
  · exact Or.inl rfl

/-- The interlock is open, and its trip is counted. -/
def State.interlockOpen (s : State) : State :=
    (({ s with capo := { s.capo with interlock := false } } : State).putN 0x3800 5 0).bump 0x3800 0x0B

theorem exec_interlockTrip (hon : s.capo.vaon = true) :
    exec .interlockTrip s = .next (s.interlockOpen.each allCourses State.interlockTrips).leaveLit := congrArg
        Host.Outcome.next (if_pos hon)

end Sys2Proof.Machine

/-! PROOF. What the trips' commands show, and re-arm (R385, R388, R390). -/

namespace Sys2Proof.Machine

variable {s t u : State} {j k : Nat}

/-! ### The interlock's input is kept by hushes and stops -/

theorem State.interlock_of_within {L : List Part} (h : s.Within L t) (hL : .capo ∉ L) : t.capo.interlock =
    s.capo.interlock := by
  have hcapo : t.capo = s.capo := h .capo hL
  rw [hcapo]

theorem State.interlock_toStopped (s : State) (k : Nat) : (s.toStopped k).capo.interlock = s.capo.interlock := by
  have harm (u : State) : ((u.setArm k false).setEmitOk k false).capo.interlock = u.capo.interlock := rfl
  have hset : (s.setCst k 0).capo.interlock = s.capo.interlock :=
    State.interlock_of_within ((State.within_setCst (List.Subset.refl _) s k 0).mpr (State.within_refl _ _)) (by simp)
  have hrest (u : State) : u.Within [.dict, .frm, .bow, .plc, .fet, .mir, .runs]
      (((u.mirrorStop k).dropModel k).runAbort k) := by
    simp
  unfold State.toStopped
  split
  · rfl
  · rw [State.interlock_of_within (hrest _) (by simp), harm, hset]

theorem State.interlock_setCauseNow (s : State) (k b : Nat) : (s.setCauseNow k b).capo.interlock = s.capo.interlock :=
    by
  have hhush : ((s.causeBit k b).toHushed k).capo.interlock = s.capo.interlock :=
    State.interlock_of_within (L := [.dict, .plc, .ledger, .fet, .col, .capoC, .runs, .svc]) (by simp) (by simp)
  unfold State.setCauseNow
  split
  · rfl
  · dsimp only
    split
    · rw [State.interlock_toStopped, hhush]
    · exact hhush

theorem State.interlock_trip (s : State) (k n : Nat) : (s.trip k n).capo.interlock = s.capo.interlock := by
  by_cases h : bit (s.capoCAt k).trips n = true
  · rw [State.trip_latched h]
  · have hnoted : s.Within [.dict, .capoC] (s.tripNoted k n) := by
      simp [State.tripNoted]
    rw [State.trip_new (by simpa using h), State.interlock_setCauseNow, State.interlock_of_within hnoted (by simp)]

theorem State.nat_trip_capo (s : State) (k n : Nat) {c : Nat} (hc : c = 5 ∨ c = 0x0B) : (s.trip k n).nat 0x3800 c =
    s.nat 0x3800 c := by
  refine ((State.moves_trip (List.Subset.refl _) s n).mpr (DictIn.refl _ _)).nat (by omega) ?_
  simp only [tripPlaces, coursePlaces, List.forall_mem_cons, Place.has, crs, List.not_mem_nil, false_implies,
      implies_true, and_true]
  omega

theorem State.nat_hush_capo (s : State) (k n : Nat) {c : Nat} (hc : c = 5 ∨ c = 0x0B) :
    (s.setCauseNow k n).nat 0x3800 c = s.nat 0x3800 c := by
  refine ((State.moves_setCauseNow (List.Subset.refl _) s n).mpr (DictIn.refl _ _)).nat (by omega) ?_
  simp only [coursePlaces, List.forall_mem_cons, Place.has, crs, List.not_mem_nil, false_implies, implies_true,
      and_true]
  omega

/-- The interlock's input, its state and its count stay. -/
def State.InterlockSame (s t : State) : Prop :=
  t.capo.interlock = s.capo.interlock ∧ t.nat 0x3800 5 = s.nat 0x3800 5 ∧ t.nat 0x3800 0x0B = s.nat 0x3800 0x0B ∧ t.mem
      = s.mem

theorem State.InterlockSame.trans (h : s.InterlockSame t) (g : t.InterlockSame u) : s.InterlockSame u := by
  obtain ⟨h1, h2, h3, h4⟩ := h
  obtain ⟨g1, g2, g3, g4⟩ := g
  exact ⟨g1.trans h1, g2.trans h2, g3.trans h3, g4.trans h4⟩

theorem State.interlockSame_refl (s : State) : s.InterlockSame s := ⟨rfl, rfl, rfl, rfl⟩

theorem State.interlockSame_trips (s : State) : s.InterlockSame (s.each allCourses State.interlockTrips) := by
  refine State.each_invariant (P := s.InterlockSame) (fun u j _ hu => hu.trans ?_) s.interlockSame_refl
  unfold State.interlockTrips
  split
  · exact u.interlockSame_refl
  · exact ⟨State.interlock_trip .., State.nat_trip_capo _ _ _ (Or.inl rfl), State.nat_trip_capo _ _ _ (Or.inr rfl),
      State.mem_trip ..⟩

theorem State.interlockSame_leaveLit (s : State) : s.InterlockSame s.leaveLit := by
  have hput : s.InterlockSame (s.putN 0x4200 1 1) := ⟨rfl,
      State.nat_putN_ne _ _ _ _ _ _ (dkey_ne (by decide) (by decide)
    fun h => absurd h (by decide)), State.nat_putN_ne _ _ _ _ _ _ (dkey_ne (by decide) (by decide) fun h => absurd h
        (by decide)), rfl⟩
  rcases s.leaveLit_eq with h | ⟨u, rfl, h⟩
  · rw [h]
    exact s.interlockSame_refl
  · rw [h]
    refine State.each_invariant (P := s.InterlockSame) (fun u j _ hu => hu.trans ?_) hput
    unfold State.leavesLit
    split
    · exact u.interlockSame_refl
    · exact ⟨State.interlock_setCauseNow .., State.nat_hush_capo _ _ _ (Or.inl rfl),
        State.nat_hush_capo _ _ _ (Or.inr rfl),
        State.mem_of_within ((State.within_setCauseNow (List.Subset.refl _) u j 10).mpr (State.within_refl _ _))
            (by simp) (by simp)⟩

/-! ### Overtravel -/

theorem State.mirAt_eq (h : t.mir = s.mir) (k : Nat) : t.mirAt k = s.mirAt k := congrArg
    (fun l => tgetD l ({} : MirSt) k) h

theorem State.mirAt_put_self (s : State) (k : Nat) (x : MirSt) : (s.mirPut k x).mirAt k = x := tgetD_tput_self ..

theorem State.failed_mirrorStop (s : State) (k : Nat) : ((s.mirrorStop k).mirAt k).failed = (s.mirAt k).failed := by
  unfold State.mirrorStop
  split
  · rfl
  · dsimp only
    rw [State.mirAt_put_self, State.rampAdvance, State.mirAt_put_self]

theorem State.failed_toStopped (s : State) (k : Nat) : ((s.toStopped k).mirAt k).failed = (s.mirAt k).failed := by
  have harm (u : State) : ((u.setArm k false).setEmitOk k false).mir = u.mir := rfl
  have hset : (s.setCst k 0).mir = s.mir :=
      ((State.within_setCst (List.Subset.refl _) s k 0).mpr (State.within_refl _ _)) .mir (by simp)
  have hrest (u : State) : u.Within [.dict, .frm, .bow, .plc, .fet, .runs] ((u.dropModel k).runAbort k) := by
    simp
  unfold State.toStopped
  split
  · rfl
  · have hmir := hrest ((((s.setCst k 0).setArm k false).setEmitOk k false).mirrorStop k) .mir (by simp)
    rw [State.mirAt_eq hmir, State.failed_mirrorStop, State.mirAt_eq ((harm _).trans hset)]

theorem State.failed_declareFailed (s : State) (k : Nat) : ((s.declareFailed k).mirAt k).failed = true := by
  have hfailed (u v : State) (hv : (v.mirAt k).failed = true) :
      ((if u.cst k = 4 then v else v.toStopped k).mirAt k).failed = true := by
    split
    · exact hv
    · rw [State.failed_toStopped, hv]
  exact hfailed _ _ (congrArg MirSt.failed (State.mirAt_put_self ..))

theorem State.failed_capoRelease (s : State) (k : Nat) : ((s.capoRelease k false).mirAt k).failed = true := by
  unfold State.capoRelease
  dsimp only
  split
  next h => simpa using h
  next => exact State.failed_declareFailed ..

end Sys2Proof.Machine

/-! PROOF. Re-arm (R390), and the commands of the trips. -/

namespace Sys2Proof.Machine

variable {s t u : State} {k : Nat}

theorem bitsSet_course (k : CourseId) : bitsSet 32 (1#32 <<< k.val).toNat = [k.val] := by
  revert k
  decide +kernel

theorem State.flag_clearCause (s : State) (k b : Nat) : (s.clearCause k b).flag (crs k) 3 b = false := by
  unfold State.clearCause
  split
  · rw [State.flag, State.setFlag, State.nat_putN]
    exact bit_withBit_false _ _
  next h => simpa using h

theorem State.keptTrips_interlock (h : (s.capoCAt k).trips = 8) (hclosed : s.capo.interlock = true)
    (hheld : s.capo.highSince + s.nat 0x3800 6 * tMs ≤ s.clk.up) : s.keptTrips k = 0 := by
  have hset : bitsSet 5 8 = [3] := by decide
  have hrearm : s.rearmable k 3 = true := by simp [State.rearmable, hclosed, hheld]
  simp [State.keptTrips, h, hset, hrearm, maskOf]

theorem testBit_foldl_or {l : List Nat} {m i : Nat} (h : m.testBit i = true ∨ i ∈ l) :
    (l.foldl (fun m i => m ||| 2 ^ i) m).testBit i = true := by
  induction l generalizing m with
  | nil => simpa using h
  | cons j l ih =>
    refine ih ?_
    rcases h with h | h
    · exact Or.inl (by simp [Nat.testBit_or, h])
    · rcases List.mem_cons.mp h with rfl | h
      · exact Or.inl (by simp [Nat.testBit_or])
      · exact Or.inr h

/-- A trip of T5 is kept. -/
theorem State.keptTrips_fault (h : bit (s.capoCAt k).trips 4 = true) : bit (s.keptTrips k) 4 = true := by
  refine testBit_foldl_or (Or.inr (List.mem_filter.mpr ⟨?_, rfl⟩))
  exact List.mem_filter.mpr ⟨by simp, h⟩

theorem State.rearm_one {mask : Nat} (hmask : bitsSet 32 mask = [k]) (h : (s.capoCAt k).trips ≠ 0) : s.rearm mask =
    if s.keptTrips k ≠ 0 then ((({ s.keepTrips k (s.keptTrips k) with free := s.free + 32 } : State)).bump 0x3800 0x0E,
      stRejected)
    else ({ s.keepTrips k (s.keptTrips k) with free := s.free + 32 }, stOk) := by
  unfold State.rearm
  rw [hmask]
  by_cases hkept : s.keptTrips k = 0 <;> simp [State.each, h, hkept]

/-- What a re-arm keeps of a course, and the rest of the state that it leaves. -/
theorem State.keepTrips_shows (s : State) (k kept : Nat) : ((s.keepTrips k kept).capoCAt k).trips = kept ∧
    s.Within [.dict, .capoC, .svc] (s.keepTrips k kept) ∧ DictIn [.column 0x2200 3] s.dict (s.keepTrips k kept).dict :=
        by
  have hclear (u : State) (b : Nat) : u.Within [.dict, .svc] (u.clearCause k b) := by simp
  have hif (u : State) (c : Prop) [Decidable c] (b : Nat) : (if c then u.clearCause k b else u).capoC = u.capoC := by
    split
    · exact hclear u b .capoC (by simp)
    · rfl
  have hcapo : (s.keepTrips k kept).capoC = (s.capoCPut k { s.capoCAt k with trips := kept }).capoC :=
      (hif _ _ _).trans (hif _ _ _)
  refine ⟨?_, by simp [State.keepTrips], by simp [State.keepTrips, DictIn.refl]⟩
  exact (congrArg (fun l => (tgetD l ({} : CapoCourse) k).trips) hcapo).trans
      (congrArg CapoCourse.trips (State.capoCAt_put_self ..))

theorem State.flag_keepTrips_none (s : State) (k : Nat) : (s.keepTrips k 0).flag (crs k) 3 1 = false :=
    State.flag_clearCause ..

theorem exec_rearm {m : MasterId} {mask : BitVec 32} (hrun : s.ozRuns = true) (hserve : s.serves 0x3800 = true) :
    exec (.rearm m mask) s = .next
        ((s.rearm mask.toNat).1.answer 0x02 (writeItem 0x04 0x3800 7 4) (s.rearm mask.toNat).2 []) :=
  congrArg Host.Outcome.next (State.hostWrite_served _ hrun hserve)

end Sys2Proof.Machine

namespace Sys2Proof.Proofs
open Sys2Proof.Machine

section
variable {k : CourseId} {string : CanvasId} {m : MasterId} {s : State}

theorem exec_energyTrip (hon : s.capo.vaon = true) (hstring : s.courseOfString string.val = some k.val) :
    exec (.energyTrip string) s = .next (if s.energyOver k.val string.val then s.trip k.val 1 else s) := by
  refine congrArg Host.Outcome.next ((if_pos hon).trans ?_)
  rw [hstring]

theorem energyTrip_latches (hon : s.capo.vaon = true) (hstring : s.courseOfString string.val = some k.val)
    (hnew : bit (s.capoCAt k.val).trips 1 = false) (hover : s.energyOver k.val string.val = true) :
    Completes (.energyTrip string) s (fun t =>
      (t.capoCAt k.val).trips = ((s.capoCAt k.val).trips ||| 2) ∧ t.flag (crs k.val) 3 0 = true ∧
      t.nat (0x3810 + k.val) 0x0B = min (s.nat (0x3810 + k.val) 0x0B + 1) 0xFFFFFFFF ∧
      t.nat 0x3800 0x12 = k.val * 2 ^ 56 + 2 * 2 ^ 48 + s.upUs % 2 ^ 48 ∧
      (s.flag (crs k.val) 3 0 = false → s.cst k.val ≠ 0 → t.cst k.val = 5 ∨ t.cst k.val = 0) ∧ t.mem = s.mem) := by
  obtain ⟨htrips, hflag, hshown⟩ := State.trip_new_shows hnew
  have hexec := exec_energyTrip hon hstring
  rw [if_pos hover] at hexec
  exact ⟨_, hexec, htrips, hflag, State.energyTrip_counted k.isLt hnew, hshown,
    State.trip_moves k.isLt (by decide) hnew, State.mem_trip ..⟩

theorem interlockTrip_clause (hon : s.capo.vaon = true) : Completes .interlockTrip s
    (fun t => t.capo.interlock = false ∧ t.nat 0x3800 5 = 0 ∧
      t.nat 0x3800 0x0B = min (s.nat 0x3800 0x0B + 1) 0xFFFFFFFF ∧ t.dst = (if s.dst = 2 then 1 else s.dst) ∧
      (s.cst k.val ≠ 0 → bit (t.capoCAt k.val).trips 3 = true ∧
        (bit (s.capoCAt k.val).trips 3 = false → t.flag (crs k.val) 3 1 = true)) ∧
      (s.cst k.val = 0 → t.capoCAt k.val = s.capoCAt k.val) ∧ t.mem = s.mem) := by
  have hput (i b c : Nat) (u : State) (n : Nat) (h : i ≠ 0x3800) (hb : b < 256) (hc : c < 256) :
      (u.putN 0x3800 c n).nat i b = u.nat i b :=
    State.nat_putN_ne _ _ _ _ _ _ (dkey_ne hb hc fun hi => absurd hi h)
  have hopen (i b : Nat) (h : i ≠ 0x3800) (hb : b < 256) : s.interlockOpen.nat i b = s.nat i b :=
    (hput i b _ _ _ h hb (by decide)).trans (hput i b _ _ _ h hb (by decide))
  have hcst : s.interlockOpen.cst k.val = s.cst k.val := hopen _ _ (by unfold crs; omega) (by decide)
  obtain ⟨hlock, hstate, hcount, hmem⟩ :=
    s.interlockOpen.interlockSame_trips.trans
        (s.interlockOpen.each allCourses State.interlockTrips).interlockSame_leaveLit
  have hdark : s.interlockOpen.DarkOnly (s.interlockOpen.each allCourses State.interlockTrips) :=
    State.darkOnly_each
        (fun u j hj => State.DarkOnly.ite (State.darkOnly_refl u) (State.darkOnly_trip (List.mem_range.mp hj) u (by
        decide))) _
  have hleave := State.dst_leaveLit (s.interlockOpen.each allCourses State.interlockTrips)
  have hdst : s.interlockOpen.dst = s.dst := hopen _ _ (by decide) (by decide)
  have hlatch := State.interlock_each k.isLt (s := s.interlockOpen)
  have hstop := State.stopped_each (k := k.val) (s := s.interlockOpen) (f := State.interlockTrips)
      (fun u hu => if_pos hu)
    fun u j hj => State.interlockTrips_other k.isLt hj u
  have heq := (s.interlockOpen.each allCourses State.interlockTrips).leaveLit_eq
  have hexec := exec_interlockTrip hon
  generalize s.interlockOpen.each allCourses State.interlockTrips = v at *
  refine ⟨v.leaveLit, hexec, hlock, ?_, ?_, ?_, fun hruns => ?_, fun hstopped => ?_, hmem⟩
  · rw [hstate]
    exact (State.nat_bump_ne _ (dkey_ne (by decide) (by decide) fun _ => by decide)).trans (State.nat_putN ..)
  · rw [hcount]
    refine (State.nat_bump ..).trans ?_
    rw [State.nat_putN_ne _ _ _ _ _ _ (dkey_ne (by decide) (by decide) fun _ => by decide)]
    rfl
  · unfold State.DarkOnly at hdark
    rw [hleave]
    (repeat' split) <;> omega
  · have hv := hlatch (by rwa [hcst])
    have hall : v.leaveLit.InterlockLatched k.val (!bit (s.capoCAt k.val).trips 3) := by
      rcases heq with h | ⟨u, rfl, h⟩
      · rw [h]
        exact hv
      · rw [h]
        refine State.InterlockLatched.leaves k.isLt ⟨hv.1, fun hnew => (congrArg (bit · 1) ?_).trans (hv.2 hnew)⟩
        exact State.nat_putN_ne _ _ _ _ _ _ (dkey_ne (by decide) (by decide) fun _ => by decide)
    exact ⟨hall.1, fun hnew => hall.2 (by simp [hnew])⟩
  · obtain ⟨hcapo, hzero⟩ := hstop (by rwa [hcst])
    rcases heq with h | ⟨u, rfl, h⟩
    · rw [h]
      exact hcapo
    · rw [h]
      have hix : crs k.val ≠ 0x4200 := by
        unfold crs
        omega
      have hput0 : (v.putN 0x4200 1 1).cst k.val = 0 :=
        (State.nat_putN_ne _ _ _ _ _ _ (dkey_ne (by decide) (by decide) fun hi => absurd hi hix)).trans hzero
      exact (State.stopped_each (fun u hu => if_pos hu) (fun u j hj => State.leavesLit_other k.isLt hj u)
          hput0).1.trans hcapo

theorem interlockRise_clause (hopen : s.capo.interlock = false) : Completes .interlockRise s (fun t =>
    t.capo.interlock = true ∧ t.capo.highSince = s.clk.up ∧ t.nat 0x3800 5 = 1 ∧ t.capoC = s.capoC) := by
  let v : State := ({ s with capo := { s.capo with interlock := true, highSince := s.clk.up } } : State).putN 0x3800 5 1
  have hexec : exec .interlockRise s = .next v.clearBit10 := congrArg Host.Outcome.next (if_neg (by simp [hopen]))
  have hw : v.Within [.dict, .svc] v.clearBit10 := by simp [State.clearBit10]
  have hdict : DictIn [.column 0x2200 3] v.dict v.clearBit10.dict := by
    unfold State.clearBit10
    split
    · exact (dictIn_each _ fun u j => by simp).mpr (DictIn.refl _ _)
    · exact DictIn.refl _ _
  have hcapo : v.clearBit10.capo = v.capo := hw .capo (by simp)
  have hcourses : v.clearBit10.capoC = v.capoC := hw .capoC (by simp)
  exact ⟨_, hexec, by rw [hcapo]; rfl, by rw [hcapo]; rfl, (hdict.nat (by decide) (by simp)).trans (State.nat_putN ..),
      hcourses⟩

theorem overtravelTrip_clause (hon : s.capo.vaon = true) : Completes (.overtravelTrip k) s
    (fun t => bit (t.capoCAt k.val).trips 2 = true ∧
      t.nat (0x3150 + k.val) 0x1C = 0 ∧ (s.cst k.val ≠ 0 → (t.mirAt k.val).failed = true) ∧ t.mem = s.mem) := by
  have hexec : exec (.overtravelTrip k) s = .next ((s.trip k.val 2).capoRelease k.val (s.cst k.val == 0)) :=
    congrArg Host.Outcome.next (if_pos hon)
  obtain ⟨b, hb⟩ := (s.trip k.val 2).armsOnly_capoRelease k.val (s.cst k.val == 0) k.val
  have hmem := State.mem_of_within
      ((State.within_capoRelease (List.Subset.refl _) (s.trip k.val 2) k.val (s.cst k.val == 0)).mpr
    (State.within_refl _ _)) (by simp) (by simp)
  refine ⟨_, hexec, by rw [hb]; exact (s.capoCAt_trip k.val 2).1, State.axis_capoRelease .., fun hruns => ?_,
    hmem.trans (State.mem_trip ..)⟩
  have hfalse : (s.cst k.val == 0) = false := by simpa using hruns
  rw [hfalse]
  exact State.failed_capoRelease ..

theorem rearm_clears (hrun : s.ozRuns = true) (hserve : s.serves 0x3800 = true) (htrips : (s.capoCAt k.val).trips = 8)
    (hclosed : s.capo.interlock = true) (hheld : s.capo.highSince + s.nat 0x3800 6 * tMs ≤ s.clk.up) :
    Completes (.rearm m (1#32 <<< k.val)) s (fun t => (t.capoCAt k.val).trips = 0 ∧ t.flag (crs k.val) 3 1 = false ∧
      t.oz.answered = s.oz.answered ++ [(0x02, writeItem 0x04 0x3800 7 4, 0x00, [])]) := by
  have hkept := State.keptTrips_interlock htrips hclosed hheld
  have hone := State.rearm_one (bitsSet_course k) (s := s) (by omega)
  rw [hkept, if_neg (by simp)] at hone
  have hexec := exec_rearm (m := m) (mask := 1#32 <<< k.val) hrun hserve
  rw [hone] at hexec
  obtain ⟨hshown, hw, -⟩ := s.keepTrips_shows k.val 0
  have hoz : (s.keepTrips k.val 0).oz = s.oz := hw .oz (by simp)
  exact ⟨_, hexec, hshown, State.flag_keepTrips_none s k.val, congrArg (fun o => o.answered ++ _) hoz⟩

theorem rearm_rejected (hrun : s.ozRuns = true) (hserve : s.serves 0x3800 = true)
    (hfault : bit (s.capoCAt k.val).trips 4 = true) :
    Completes (.rearm m (1#32 <<< k.val)) s (fun t =>
      bit (t.capoCAt k.val).trips 4 = true ∧ t.nat 0x3800 0x0E = min (s.nat 0x3800 0x0E + 1) 0xFFFFFFFF ∧
      t.oz.answered = s.oz.answered ++ [(0x02, writeItem 0x04 0x3800 7 4, 0x07, [])]) := by
  have hkept := State.keptTrips_fault hfault
  have hone := State.rearm_one (bitsSet_course k) (s := s) (fun h => by simp [h, bit] at hfault)
  rw [if_pos (fun h => by simp [h, bit] at hkept)] at hone
  have hexec := exec_rearm (m := m) (mask := 1#32 <<< k.val) hrun hserve
  rw [hone] at hexec
  obtain ⟨hshown, hw, hdict⟩ := s.keepTrips_shows k.val (s.keptTrips k.val)
  have hoz : (s.keepTrips k.val (s.keptTrips k.val)).oz = s.oz := hw .oz (by simp)
  have hcount : (s.keepTrips k.val (s.keptTrips k.val)).nat 0x3800 0x0E = s.nat 0x3800 0x0E := hdict.nat (by decide)
      (by simp)
  refine ⟨_, hexec, (congrArg (bit · 4) hshown).trans hkept, ?_, congrArg (fun o => o.answered ++ _) hoz⟩
  exact (State.nat_bump ..).trans (congrArg (fun n => min (n + 1) 0xFFFFFFFF) hcount)

end

/-- Settles O46: energy, interlock and overtravel trips, and what a re-arm clears and keeps. -/
theorem tripsLatchUntilTheyAreRearmed : Obligations.TripsLatchUntilTheyAreRearmed := by
  unfold Obligations.TripsLatchUntilTheyAreRearmed
  intro k string m s
  refine ⟨fun hon hstring => ⟨fun hnone => ?_, energyTrip_latches hon hstring⟩, interlockTrip_clause,
      interlockRise_clause,
    fun hclosed => congrArg Host.Outcome.next (if_pos hclosed), overtravelTrip_clause, fun hoff => ?_, rearm_clears,
        rearm_rejected⟩
  · rw [exec_energyTrip hon hstring]
    split
    next hover => exact congrArg Host.Outcome.next (State.trip_latched (hnone.resolve_right (by simp [hover])))
    next => rfl
  · exact ⟨congrArg Host.Outcome.next (if_neg (by simp [hoff])), congrArg Host.Outcome.next (if_neg (by simp [hoff]))⟩

end Sys2Proof.Proofs

/-! PROOF. A START that is not counted: the holding of persistent writes is full (R46, R516). -/

namespace Sys2Proof.Machine

/-- Power becomes valid while one held write fills the 64 KiB of the holding. -/
def holdingFull : State :=
  { State.reset with
    capo := { State.reset.capo with vaon := true }
    store := { State.reset.store with held := [{ key := dkey 0x7100 0x0B, val := .num 0, size := 65536 }] }
    pwr := { State.reset.pwr with valid := false } }

/-- The count of starts where a command leaves it. -/
def startsAfter : Host.Outcome State Fault Refusal → Nat
  | .next s => s.nat 0x7100 0x0B
  | _ => 0

/-- The count is refused, and stays. -/
theorem holdingFull_not_counted : startsAfter (exec (.powerValid 3300) holdingFull) = 0 := by
  decide +kernel

end Sys2Proof.Machine

namespace Sys2Proof.Proofs
open Sys2Proof Sys2Proof.Machine

/-- Refutes O55: a START whose count would be held beyond the 64 KiB of R45 is not counted in 7100:0B, as R46 refuses
    the write. -/
theorem not_suppliesAreWatched : ¬ Obligations.SuppliesAreWatched := by
  unfold Obligations.SuppliesAreWatched
  intro h
  obtain ⟨t, hexec, -, -, hcount, -⟩ := (h 3300 0 0 0 holdingFull).2.1 rfl rfl
  have hkept := holdingFull_not_counted
  rw [hexec] at hkept
  have hzero : t.nat 0x7100 0x0B = 0 := hkept
  have hstart : holdingFull.nat 0x7100 0x0B = 0 := by decide +kernel
  rw [hzero, hstart] at hcount
  exact absurd hcount (by decide)

end Sys2Proof.Proofs

/-! PROOF. The end of a probation whose boot slot is not moved: the holding of persistent writes is full (R46, R500). -/

namespace Sys2Proof.Machine

/-- A new image runs in slot 1 and its probation ends while one held write fills the 64 KiB of the holding. -/
def probationHeld : State :=
  ({ State.reset with
    store := { State.reset.store with held := [{ key := dkey 0x7F00 2, val := .num 0, size := 65536 }] } } : State).putN
      0x7F00 0x0A 5 |>.putN 0x1000 7 1

/-- The boot slot where a command leaves it. -/
def bootSlotAfter : Host.Outcome State Fault Refusal → Nat
  | .next s => s.nat 0x7F00 2
  | _ => 0

/-- The move of the boot slot is refused. -/
theorem probationHeld_keeps_slot : bootSlotAfter (exec .probationEnd probationHeld) = 0 := by
  decide +kernel

end Sys2Proof.Machine

namespace Sys2Proof.Proofs
open Sys2Proof Sys2Proof.Machine

/-- Refutes O54: at the end of probation the write of the boot slot is refused where it would be held beyond the 64 KiB
    of R45,
and 7F00:02 stays. -/
theorem not_updatesGoThroughTheirSteps : ¬ Obligations.UpdatesGoThroughTheirSteps := by
  unfold Obligations.UpdatesGoThroughTheirSteps
  intro h
  obtain ⟨-, -, -, -, -, -, -, -, hend, -⟩ := h 0 0 0 [] probationHeld
  obtain ⟨t, hexec, -, hslot, -⟩ := hend (by decide +kernel)
  have hkept := probationHeld_keeps_slot
  rw [hexec] at hkept
  have hzero : t.nat 0x7F00 2 = 0 := hkept
  have hruns : probationHeld.nat 0x1000 7 = 1 := by decide +kernel
  rw [hzero, hruns] at hslot
  exact absurd hslot (by decide)

end Sys2Proof.Proofs

/-! PROOF. Management pairs take over or restart; units restart (R493, R496, R497). -/

namespace Sys2Proof.Machine

variable {s t u : State} {k l : Nat}

/-! ### Recoveries -/

theorem State.nat_recover (s : State) (rs cls dur unit : Nat) :
    (s.recover rs cls dur unit).nat 0x7000 0x17 = min (s.nat 0x7000 0x17 + 1) 0xFFFFFFFF ∧
      (s.recover rs cls dur unit).nat 0x7000 0x18 = rs * 2 ^ 56 + cls * 2 ^ 48 + s.upUs % 2 ^ 48 := by
  have hdict : ∃ u : State, u = ((s.logCritical (restartSource rs) (100 + rs) unit).bump 0x7000 0x17).putN 0x7000 0x18
      (rs * 2 ^ 56 + cls * 2 ^ 48 + s.upUs % 2 ^ 48) ∧
      ((s.recover rs cls dur unit).dict = u.dict ∨ (s.recover rs cls dur unit).dict = (u.bump 0x7000 0x19).dict) := by
    refine ⟨_, rfl, ?_⟩
    unfold State.recover
    dsimp only
    split
    · exact Or.inr rfl
    · exact Or.inl rfl
  obtain ⟨u, hu, hdict⟩ := hdict
  have hcount : u.nat 0x7000 0x17 = min (s.nat 0x7000 0x17 + 1) 0xFFFFFFFF := by
    rw [hu, State.nat_putN_ne _ _ _ _ _ _ (dkey_ne (by decide) (by decide) fun _ => by decide), State.nat_bump,
      State.nat_of_dict (State.dict_logCritical ..)]
  have hshown : u.nat 0x7000 0x18 = rs * 2 ^ 56 + cls * 2 ^ 48 + s.upUs % 2 ^ 48 := by rw [hu, State.nat_putN]
  rcases hdict with h | h
  · exact ⟨(State.nat_of_dict h ..).trans hcount, (State.nat_of_dict h ..).trans hshown⟩
  · have hother (b : Nat) (hb : b < 256) (hne : b ≠ 0x19) : (u.bump 0x7000 0x19).nat 0x7000 b = u.nat 0x7000 b :=
      State.nat_bump_ne _ (dkey_ne hb (by decide) fun _ => hne)
    exact ⟨(State.nat_of_dict h ..).trans ((hother _ (by decide) (by decide)).trans hcount),
      (State.nat_of_dict h ..).trans ((hother _ (by decide) (by decide)).trans hshown)⟩

theorem State.nat_recover_other (s : State) (rs cls dur unit : Nat) {i b : Nat} (h : i ≠ 0x7000) (hb : b < 256) :
    (s.recover rs cls dur unit).nat i b = s.nat i b :=
  ((State.writes_recover (List.Subset.refl _) s rs cls dur unit).mpr (DictIn.refl _ _)).nat hb (by simp [h])

theorem State.within_recovered (s : State) (rs cls dur unit : Nat) : s.Within [.dict, .store, .svc]
    (s.recover rs cls dur unit) :=
  (State.within_recover (List.Subset.refl _) s rs cls dur unit).mpr (State.within_refl _ _)

/-! ### The pairs' roles -/

theorem FwSt.active_cases (f : FwSt) : f.active = 0 ∧ f.other = 1 ∨ f.active = 1 ∧ f.other = 0 := by
  unfold FwSt.other FwSt.active
  split <;> simp

theorem FwSt.role_setRole (f : FwSt) {p q : Nat} (hp : p < 2) (hq : q < 2) (r : Nat) : (f.setRole p r).role q = if p =
    q then r else f.role q := by
  have hp' : p = 0 ∨ p = 1 := by omega
  have hq' : q = 0 ∨ q = 1 := by omega
  rcases hp' with rfl | rfl <;> rcases hq' with rfl | rfl <;> rfl

theorem FwSt.role_setFaults (f : FwSt) (p : Nat) (l : List Nat) (q : Nat) : (f.setFaults p l).role q = f.role q := by
  unfold FwSt.setFaults
  split <;> rfl

theorem FwSt.restarting_setFaults (f : FwSt) (p : Nat) (l : List Nat) : (f.setFaults p l).restarting = f.restarting :=
    by
  unfold FwSt.setFaults
  split <;> rfl

theorem State.abandonWrite_fw (s : State) : s.abandonWrite.fw = { s.fw with writing := none } := by
  unfold State.abandonWrite
  split
  next h => rw [← h]
  next => rfl

theorem State.swapPairs_fw (s : State) (oldRole : Nat) : (s.swapPairs oldRole).fw =
    { (s.fw.setRole s.fw.other 1).setRole s.fw.active oldRole with switchDue := false, writing := none } := by
  have hshown (u : State) (a b c : Nat) : ((u.bump 0x7F00 8).switchIn a b c).fw = u.fw := by
    have hw : u.Within [.dict] ((u.bump 0x7F00 8).switchIn a b c) := by simp
    exact hw .fw (by simp)
  unfold State.swapPairs
  dsimp only
  rw [hshown, State.abandonWrite_fw]

theorem FwSt.restarting_setRole (f : FwSt) (p r : Nat) : (f.setRole p r).restarting = f.restarting := by
  unfold FwSt.setRole
  split <;> rfl

/-- The pairs' roles after a switch: the other pair is active. -/
theorem State.swapPairs_roles (s : State) {oldRole : Nat} : (s.swapPairs oldRole).fw.role s.fw.other = 1 ∧
    (s.swapPairs oldRole).fw.role s.fw.active = oldRole ∧ (s.swapPairs oldRole).fw.restarting = s.fw.restarting := by
  rw [State.swapPairs_fw]
  refine ⟨?_, ?_, ?_⟩
  · change ((s.fw.setRole s.fw.other 1).setRole s.fw.active oldRole).role s.fw.other = 1
    rcases s.fw.active_cases with ⟨ha, ho⟩ | ⟨ha, ho⟩ <;> rw [ha, ho] <;> rfl
  · change ((s.fw.setRole s.fw.other 1).setRole s.fw.active oldRole).role s.fw.active = oldRole
    rcases s.fw.active_cases with ⟨ha, ho⟩ | ⟨ha, ho⟩ <;> rw [ha, ho] <;> rfl
  · change ((s.fw.setRole s.fw.other 1).setRole s.fw.active oldRole).restarting = s.fw.restarting
    rw [FwSt.restarting_setRole, FwSt.restarting_setRole]

theorem State.swapPairs_counted (s : State) (oldRole : Nat) :
    (s.swapPairs oldRole).nat 0x7F00 8 = min (s.nat 0x7F00 8 + 1) 0xFFFFFFFF := by
  have habandon (u : State) : u.abandonWrite.nat 0x7F00 8 = u.nat 0x7F00 8 :=
    ((State.writes_abandonWrite (List.Subset.refl _) u).mpr (DictIn.refl _ _)).nat (by decide) (by simp)
  have hswitch (u : State) (a b c : Nat) : (u.switchIn a b c).nat 0x7F00 8 = u.nat 0x7F00 8 :=
    ((State.writes_switchIn (List.Subset.refl _) u a b c).mpr (DictIn.refl _ _)).nat (by decide) (by simp)
  unfold State.swapPairs
  dsimp only
  rw [hswitch, State.nat_bump, habandon]
  rfl

/-! ### Taking over -/

/-- What the take-over notes after the pairs have changed places. -/
def State.takenOver (s : State) : State :=
  let a := s.fw.active
  let l := s.fw.faults a s.clk.up
  let failed := decide (2 ≤ l.length)
  let s1 := s.swapPairs (if failed then 4 else if s.nat 0x7000 4 = 0 then 0 else 3)
  { s1 with fw := { s1.fw.setFaults a l with synced := false, faulty := if failed then 0 else a + 1 } }

/-- An update whose new image fails ends; one not yet switched over goes idle. -/
def State.updateEnded (s : State) (slot st : Nat) : State :=
  if st = 5 then (s.runSlot slot).putN 0x7F00 0x0A 7
  else if st = 4 then (s.runSlot slot).putN 0x7F00 0x0A 0
  else s

theorem State.takeOver_eq (s : State) : s.takeOver =
    if decide (2 ≤ (s.fw.faults s.fw.active s.clk.up).length) = true then
      ((s.takenOver.updateEnded s.otherSlot (s.nat 0x7F00 0x0A)).recover 4 0 (100 * tUs) s.fw.active).offer .pair
          s.fw.active false
    else (s.takenOver.updateEnded s.otherSlot (s.nat 0x7F00 0x0A)).recover 4 0 (100 * tUs) s.fw.active := rfl

theorem State.updateEnded_keeps (s : State) (slot st : Nat) :
    s.Within [.dict] (s.updateEnded slot st) ∧ (s.updateEnded slot st).nat 0x7F00 8 = s.nat 0x7F00 8 := by
  have hupdate (n : Nat) : s.Within [.dict] ((s.runSlot slot).putN 0x7F00 0x0A n) ∧
      ((s.runSlot slot).putN 0x7F00 0x0A n).nat 0x7F00 8 = s.nat 0x7F00 8 :=
    ⟨by simp, (State.nat_putN_ne _ _ _ _ _ _ (dkey_ne (by decide) (by decide) fun _ => by decide)).trans
      (((State.writes_runSlot (List.Subset.refl _) s _).mpr (DictIn.refl _ _)).nat (by decide) (by simp))⟩
  unfold State.updateEnded
  split
  · exact hupdate 7
  · split
    · exact hupdate 0
    · exact ⟨State.within_refl _ _, rfl⟩

theorem State.takeOver_from (s : State) : s.takenOver.Within [.dict, .store, .svc] s.takeOver ∧
    s.takeOver.nat 0x7F00 8 = s.takenOver.nat 0x7F00 8 := by
  obtain ⟨hw, hn⟩ := s.takenOver.updateEnded_keeps s.otherSlot (s.nat 0x7F00 0x0A)
  rw [State.takeOver_eq]
  generalize s.takenOver.updateEnded s.otherSlot (s.nat 0x7F00 0x0A) = v at hw hn
  have hrec := (hw.mono (L' := [.dict, .store, .svc]) (by simp)).trans (v.within_recovered 4 0 (100 * tUs) s.fw.active)
  have hnat := (State.nat_recover_other v 4 0 (100 * tUs) s.fw.active (i := 0x7F00) (b := 8) (by decide) (by decide)).trans hn
  split
  · exact ⟨(State.within_offer (by simp) ..).mpr hrec, (State.nat_of_dict (State.dict_offer ..) ..).trans hnat⟩
  · exact ⟨hrec, hnat⟩

/-- The standby takes over: it is active, the other is not, and neither is synchronised. -/
theorem State.takeOver_shows (s : State) :
    s.takeOver.fw.role s.fw.other = 1 ∧ s.takeOver.fw.role s.fw.active ≠ 1 ∧ s.takeOver.fw.synced = false ∧
      s.takeOver.fw.restarting = s.fw.restarting ∧ s.takeOver.nat 0x7F00 8 = min (s.nat 0x7F00 8 + 1) 0xFFFFFFFF ∧
      s.takeOver.mem = s.mem := by
  obtain ⟨hw, hn⟩ := s.takeOver_from
  have hfw : s.takeOver.fw = s.takenOver.fw := hw .fw (by simp)
  have hnext (u : State) (f : FwSt) : ({ u with fw := f } : State).fw = f ∧ ({ u with fw := f } : State).dict = u.dict ∧
      ({ u with fw := f } : State).mem = u.mem := ⟨rfl, rfl, rfl⟩
  obtain ⟨r, hne, n, htaken⟩ : ∃ r, r ≠ 1 ∧ ∃ n, s.takenOver = { s.swapPairs r with
      fw := { (s.swapPairs r).fw.setFaults s.fw.active (s.fw.faults s.fw.active s.clk.up) with
        synced := false, faulty := n } } := by
    refine ⟨_, ?_, _, rfl⟩
    split
    · decide
    · split <;> decide
  obtain ⟨hfaults, hdict, hmem⟩ := hnext (s.swapPairs r) { (s.swapPairs r).fw.setFaults s.fw.active
    (s.fw.faults s.fw.active s.clk.up) with synced := false, faulty := n }
  rw [← htaken] at hfaults hdict hmem
  obtain ⟨hother, hactive, hrestart⟩ := s.swapPairs_roles (oldRole := r)
  have hrole (p : Nat) : s.takenOver.fw.role p = (s.swapPairs r).fw.role p := by
    rw [hfaults]
    exact FwSt.role_setFaults ..
  have hswap : (s.swapPairs r).mem = s.mem :=
    State.mem_of_within ((State.within_swapPairs (List.Subset.refl _) s r).mpr (State.within_refl _ _)) (by simp) (by simp)
  refine ⟨by rw [hfw, hrole, hother], by rwa [hfw, hrole, hactive], by rw [hfw, hfaults], ?_, ?_, ?_⟩
  · rw [hfw, hfaults]
    exact (FwSt.restarting_setFaults ..).trans hrestart
  · rw [hn, State.nat_of_dict hdict, State.swapPairs_counted]
  · rw [State.mem_of_within hw (by simp) (by simp), hmem, hswap]

end Sys2Proof.Machine

/-! PROOF. Management pairs take over or restart; units restart (R493, R496, R497): the commands. -/

namespace Sys2Proof.Machine

variable {s t u : State} {k l : Nat}

/-! ### A restart in place -/

theorem State.restartInPlace_eq (h : s.fw.restarting = false) : s.restartInPlace =
    ({ s with fw := { s.fw with restarting := true, switchDue := false } } : State).recover 5 0 (2 * tS) s.fw.active :=
  if_neg (by simp [h])

theorem State.restartInPlace_shows (h : s.fw.restarting = false) :
    s.restartInPlace.fw = { s.fw with restarting := true, switchDue := false } ∧
      s.restartInPlace.nat 0x7000 0x17 = min (s.nat 0x7000 0x17 + 1) 0xFFFFFFFF ∧ s.restartInPlace.mem = s.mem ∧
      ∀ b < 256, s.restartInPlace.nat 0x7F00 b = s.nat 0x7F00 b := by
  rw [State.restartInPlace_eq h]
  have hw := ({ s with fw := { s.fw with restarting := true, switchDue := false } } : State).within_recovered 5 0
      (2 * tS) s.fw.active
  have hfw := hw .fw (by simp)
  have hmem := State.mem_of_within hw (by simp) (by simp)
  exact ⟨hfw, (State.nat_recover _ 5 0 (2 * tS) s.fw.active).1, hmem, fun b hb => State.nat_recover_other _ _ _ _ _ (by decide) hb⟩

/-! ### A lane that retrains stays so through hushes -/

theorem State.state_queueControl (s : State) (j b rank type fields : Nat) :
    ((s.queueControl j b rank type fields).lanesAt l).state = (s.lanesAt l).state := by
  have hat (x : LaneSt) : (s.lanesPut j x).lanesAt l = if j = l then x else s.lanesAt l := tgetD_tput ..
  unfold State.queueControl State.queueBlock
  dsimp only
  rw [hat]
  split
  next hjl => rw [← hjl]
  next => rfl

theorem State.state_hushLane (s : State) (b cause j : Nat) (h : (s.lanesAt l).state = 4) :
    ((s.hushLane b cause j).lanesAt l).state = 4 := by
  have hcopies (u : State) (c e : Nat) (hu : (u.lanesAt l).state = 4) : ((u.hushCopies j b c e).lanesAt l).state = 4 :=
    State.each_invariant (P := fun u : State => (u.lanesAt l).state = 4)
        (fun v i _ hv => (State.state_queueControl ..).trans hv) hu
  unfold State.hushLane
  dsimp only
  split
  · refine hcopies _ _ _ ?_
    rw [State.lanesAt_lanesPut]
    split
    next hjl =>
      subst hjl
      rw [h]
      rfl
    next => exact h
  · exact h

theorem State.state_setCause (s : State) (k b : Nat) (h : (s.lanesAt l).state = 4) : ((s.setCause k b).lanesAt l).state
    = 4 := by
  have hbit : s.Within [.dict, .svc] (s.causeBit k b) := by simp
  have hhush (u : State) : u.Within [.dict, .plc, .ledger, .fet, .col, .capoC, .runs, .svc] (u.toHushed k) := by simp
  have hat (u v : State) (huv : v.lanes = u.lanes) (hu : (u.lanesAt l).state = 4) : (v.lanesAt l).state = 4 :=
    (congrArg (fun x => (tgetD x ({} : LaneSt) l).state) huv).trans hu
  have hset := hat s _ (hbit .lanes (by simp)) h
  unfold State.setCause State.hushIfSpinning
  split
  · exact State.each_invariant (P := fun u : State => (u.lanesAt l).state = 4)
      (fun v j _ hv => State.state_hushLane v _ _ j hv)
      (hat _ _ (hhush _ .lanes (by simp)) hset)
  · exact hset

theorem State.state_laneRefresh (s : State) (j : Nat) (h : (s.lanesAt l).state = 4) :
    ((s.laneRefresh j).lanesAt l).state = 4 := by
  have hclear (k : Nat) : (s.clearCause k 5).lanes = s.lanes :=
    ((State.within_clearCause (List.Subset.refl _) s k 5).mpr (State.within_refl _ _)) .lanes (by simp)
  unfold State.laneRefresh
  split
  · unfold State.retrainRefresh
    split
    · exact State.state_setCause s _ 5 h
    · exact (congrArg (fun x => (tgetD x ({} : LaneSt) l).state) (hclear _)).trans h
  · exact h

/-- A lane that has not retrained within a minute retrains. -/
theorem State.state_enterRetrain {cls : Nat} (h : (s.lanesAt l).retrainTimes = []) :
    ((s.enterRetrain l cls).lanesAt l).state = 4 := by
  have htimes :
      (if (s.lanesAt l).state = 5 then [] else (s.lanesAt l).retrainTimes.filter (fun t => decide (s.clk.up < t + 60 *
      tS))) = [] := by
    rw [h]
    split <;> rfl
  have hput (u : State) (x : LaneSt) (hx : x.state = 4) : ((u.lanesPut l x).laneRefresh l |>.lanesAt l).state = 4 :=
    State.state_laneRefresh _ l (by rw [State.lanesAt_lanesPut, if_pos rfl, hx])
  have hat : s.accrue.lanesAt l = s.lanesAt l := rfl
  have hup : s.accrue.clk = s.clk := rfl
  unfold State.enterRetrain
  simp only [hat, hup, htimes, List.length_nil]
  rw [if_neg (by decide)]
  exact hput _ _ rfl

/-! ### Units -/

/-- Ingest that restarts, but for its count. -/
def State.ingestCleared (s : State) : State :=
  let s1 := s.each (s.canvases.map (·.1)) (fun s c =>
    s.each (List.range 4) (fun s b => if s.bufState c b = 1 then s.freeBuf c b else s))
  let s2 := s1.each (s.flows.map (·.1)) (fun s f =>
    let x := s.flowsAt f
    s.flowsPut f { x with
      asms := [], nextFirst := none, skipStamp := (x.asms.getLast?.map (·.stamp)).orElse (fun _ => x.skipStamp) })
  s2.each (s.hstreams.map (·.1)) (fun s h => s.hstreamsPut h { s.hstreamsAt h with buffer := none })

theorem State.ingestRestart_eq (s : State) : s.ingestRestart = s.ingestCleared.bump 0x25F0 8 := rfl

theorem State.dict_ingestCleared (s : State) : s.ingestCleared.dict = s.dict := by
  have hbuf (u : State) (c : Nat) : u.Within [.canvases, .flows, .hstreams]
      (u.each (List.range 4) (fun s b => if s.bufState c b = 1 then s.freeBuf c b else s)) :=
    (State.within_each _ fun v b => by split <;> simp).mpr (State.within_refl _ _)
  have hw : s.Within [.canvases, .flows, .hstreams] s.ingestCleared := by
    simp [State.ingestCleared, State.within_each _ hbuf]
  exact hw .dict (by simp)

theorem State.ingestRestart_counts (s : State) : s.ingestRestart.nat 0x25F0 8 = min (s.nat 0x25F0 8 + 1) 0xFFFFFFFF ∧
    s.ingestRestart.nat 0x7000 0x17 = s.nat 0x7000 0x17 := by
  rw [State.ingestRestart_eq, State.nat_bump, State.nat_bump_ne _ (dkey_ne (by decide) (by decide) fun h => absurd h (by decide)),
    State.nat_of_dict s.dict_ingestCleared, State.nat_of_dict s.dict_ingestCleared]
  exact ⟨rfl, rfl⟩

/-- The fetch engine with nothing of its own, up to its water level. -/
def State.fetchEmptied (s : State) (k : Nat) : State :=
  s.fetPut k { s.fetAt k with
    bows := (s.fetAt k).bows.map (fun b => { b with levels := none }), resident := [], poisoned := [] }

theorem State.fetchRestart_eq (s : State) (k : Nat) : ∃ dur,
    s.fetchRestart k = ((s.fetchEmptied k).refreshWater k).recover 9 1 dur k := ⟨_, rfl⟩

theorem State.fetchRestart_shows (s : State) (k : Nat) : (s.fetchRestart k).nat 0x7000 0x17 = min
    (s.nat 0x7000 0x17 + 1) 0xFFFFFFFF ∧
    ((s.fetchRestart k).fetAt k).resident = [] ∧ ∀ b ∈ ((s.fetchRestart k).fetAt k).bows, b.levels = none := by
  obtain ⟨dur, heq⟩ := s.fetchRestart_eq k
  have hwater : ((s.fetchEmptied k).refreshWater k).nat 0x7000 0x17 = s.nat 0x7000 0x17 :=
    ((State.writes_refreshWater (List.Subset.refl _) (s.fetchEmptied k) k).mpr (DictIn.refl _ _)).nat (by decide) (by simp)
  have hkept : ((s.fetchEmptied k).refreshWater k).fet = (s.fetchEmptied k).fet :=
    ((State.within_refreshWater (List.Subset.refl _) (s.fetchEmptied k) k).mpr (State.within_refl _ _)) .fet (by simp)
  have hrec : (((s.fetchEmptied k).refreshWater k).recover 9 1 dur k).fet = ((s.fetchEmptied k).refreshWater k).fet :=
    (State.within_recovered _ 9 1 dur k) .fet (by simp)
  have hat : (s.fetchEmptied k).fetAt k = { s.fetAt k with
      bows := (s.fetAt k).bows.map (fun b => { b with levels := none }), resident := [], poisoned := []
          } := State.fetAt_put_self ..
  rw [heq, State.fetAt_eq (hrec.trans hkept), hat]
  refine ⟨(State.nat_recover _ 9 1 dur k).1.trans (by rw [hwater]), rfl, fun b hb => ?_⟩
  obtain ⟨c, -, rfl⟩ := List.mem_map.mp hb
  rfl

theorem State.placementRestart_shows (s : State) (k : Nat) : (s.placementRestart k).nat 0x7000 0x17 = min
    (s.nat 0x7000 0x17 + 1) 0xFFFFFFFF ∧
    ((s.placementRestart k).plcAt k).restart = true ∧ ((s.placementRestart k).plcAt k).cur = (s.plcAt k).cur ∧
    (s.placementRestart k).nat 0x7000 0x18 = 10 * 2 ^ 56 + 2 ^ 48 + s.upUs % 2 ^ 48 := by
  obtain ⟨x, dur, hx, hcur, heq⟩ : ∃ (x : PlaceSt) (dur : Nat), x.restart = true ∧ x.cur = (s.plcAt k).cur ∧
      s.placementRestart k = (s.plcPut k x).recover 10 1 dur k := by
    refine ⟨_, _, ?_, ?_, rfl⟩ <;> rfl
  have hrec : ((s.plcPut k x).recover 10 1 dur k).plc = (s.plcPut k x).plc := (State.within_recovered _ 10 1 dur k) .plc (by simp)
  have hat : (s.plcPut k x).plcAt k = x := State.plcAt_plcPut_self ..
  obtain ⟨hcount, hshown⟩ := (s.plcPut k x).nat_recover 10 1 dur k
  rw [heq, State.plcAt_eq hrec, hat]
  have hup : (s.plcPut k x).upUs = s.upUs := rfl
  exact ⟨hcount, hx, hcur, by simpa [hup] using hshown⟩

theorem State.laneRestart_shows {cls : Nat} (h : (s.lanesAt l).retrainTimes = []) (dur : Nat) :
    ((s.enterRetrain l cls).recover 11 1 dur l).nat 0x7000 0x17 = min (s.nat 0x7000 0x17 + 1) 0xFFFFFFFF ∧
      (((s.enterRetrain l cls).recover 11 1 dur l).lanesAt l).state = 4 := by
  have hrec : ((s.enterRetrain l cls).recover 11 1 dur l).lanes = (s.enterRetrain l cls).lanes :=
    (State.within_recovered _ 11 1 dur l) .lanes (by simp)
  have hkept : (s.enterRetrain l cls).nat 0x7000 0x17 = s.nat 0x7000 0x17 :=
    ((State.writes_enterRetrain (List.Subset.refl _) s l cls).mpr (DictIn.refl _ _)).nat (by decide) (by simp)
  exact ⟨(State.nat_recover _ 11 1 dur l).1.trans (by rw [hkept]),
    (congrArg (fun x => (tgetD x ({} : LaneSt) l).state) hrec).trans (State.state_enterRetrain h)⟩

end Sys2Proof.Machine

namespace Sys2Proof.Proofs
open Sys2Proof.Machine

section
variable {s : State}

/-- The fault of a pair that a synchronised standby covers, after it is counted in another entry of 7F00. -/
theorem takenOver_clause (b : Nat) (hb : b < 256) (hne : b ≠ 8) (hruns : s.fw.restarting = false)
    (hready : s.fw.ready = true) :
    (s.bump 0x7F00 b).pairFault.fw.role s.fw.other = 1 ∧ (s.bump 0x7F00 b).pairFault.fw.role s.fw.active ≠ 1 ∧
      (s.bump 0x7F00 b).pairFault.fw.synced = false ∧ (s.bump 0x7F00 b).pairFault.fw.restarting = false ∧
      (s.bump 0x7F00 b).pairFault.nat 0x7F00 8 = min (s.nat 0x7F00 8 + 1) 0xFFFFFFFF ∧ (s.bump 0x7F00 b).pairFault.mem
          = s.mem := by
  have heq : (s.bump 0x7F00 b).pairFault = (s.bump 0x7F00 b).takeOver :=
    (if_neg (by rw [show (s.bump 0x7F00 b).fw = s.fw from rfl, hruns]; decide)).trans (if_pos hready)
  obtain ⟨hother, hactive, hsynced, hrestart, hcount, hmem⟩ := (s.bump 0x7F00 b).takeOver_shows
  rw [State.nat_bump_ne _ (dkey_ne (by decide) hb fun _ => hne.symm)] at hcount
  rw [heq]
  exact ⟨hother, hactive, hsynced, hrestart.trans hruns, hcount, hmem⟩

/-- The fault of a pair with no standby: it restarts in place, and both are counted. -/
theorem restartsInPlace_clause (b : Nat) (hb : b < 256) (hruns : s.fw.restarting = false) (halone : s.fw.ready = false)
    :
    (s.bump 0x7F00 b).pairFault.fw.restarting = true ∧
      (s.bump 0x7F00 b).pairFault.nat 0x7000 0x17 = min (s.nat 0x7000 0x17 + 1) 0xFFFFFFFF ∧
      (s.bump 0x7F00 b).pairFault.nat 0x7F00 b = min (s.nat 0x7F00 b + 1) 0xFFFFFFFF := by
  let u : State := { s.bump 0x7F00 b with fw := s.fw.setFaults s.fw.active (s.fw.faults s.fw.active s.clk.up) }
  have heq : (s.bump 0x7F00 b).pairFault = u.restartInPlace :=
    (if_neg (by rw [show (s.bump 0x7F00 b).fw = s.fw from rfl, hruns]; decide)).trans
      (if_neg (by rw [show (s.bump 0x7F00 b).fw = s.fw from rfl, halone]; decide))
  obtain ⟨hfw, hcount, -, hnat⟩ := State.restartInPlace_shows (s := u) ((FwSt.restarting_setFaults ..).trans hruns)
  have hu (i c : Nat) : u.nat i c = (s.bump 0x7F00 b).nat i c := rfl
  rw [heq, hfw, hcount, hnat b hb, hu, hu, State.nat_bump, State.nat_bump_ne _ (dkey_ne (by decide) hb fun h => absurd h (by decide))]
  exact ⟨rfl, rfl, rfl⟩

theorem pairRestartInPlace_clause (hruns : s.fw.restarting = false) (halone : s.fw.ready = false) :
    Completes .pairRestartInPlace s (fun t => t.fw = { s.fw with restarting := true, switchDue := false } ∧
      t.nat 0x7000 0x17 = min (s.nat 0x7000 0x17 + 1) 0xFFFFFFFF ∧ t.mem = s.mem) := by
  have hexec : exec .pairRestartInPlace s = .next s.restartInPlace := congrArg Host.Outcome.next (if_neg (by simp [halone]))
  obtain ⟨hfw, hcount, hmem, -⟩ := State.restartInPlace_shows hruns
  exact ⟨_, hexec, hfw, hcount, hmem⟩

theorem pairRestartComplete_clause : Completes .pairRestartComplete s (fun t =>
    t.fw = { s.fw with restarting := false } ∧ t.mem = s.mem ∧ t.store = s.store) := by
  let u : State := { s with fw := { s.fw with restarting := false } }
  have hw : u.Within [.dict, .runs] (u.each allCourses (fun s k => s.runStart k)) := by simp
  have hfw : (u.each allCourses (fun s k => s.runStart k)).fw = u.fw := hw .fw (by simp)
  have hstore : (u.each allCourses (fun s k => s.runStart k)).store = u.store := hw .store (by simp)
  have hmem := State.mem_of_within hw (by simp) (by simp)
  have hexec : exec .pairRestartComplete s = .next (u.each allCourses (fun s k => s.runStart k)) := rfl
  generalize u.each allCourses (fun s k => s.runStart k) = v at hfw hstore hmem hexec
  exact ⟨v, hexec, hfw, hmem, hstore⟩

theorem pairStandbyReady_clause (hfault : s.fw.faulty = 1 ∨ s.fw.faulty = 2) (hpolicy : s.nat 0x7000 4 ≠ 0) :
    Completes .pairStandbyReady s (fun t => t.fw.role (s.fw.faulty - 1) = 2 ∧ t.fw.synced = true ∧ t.fw.faulty = 0 ∧
      s.EntriesBut t [(0x7F00, 7)]) := by
  refine ⟨_, congrArg Host.Outcome.next (if_neg (by omega)), ?_, rfl, rfl, (s.onlyEntries_putN 0x7F00 7 _).2⟩
  change (s.fw.setRole (s.fw.faulty - 1) 2).role (s.fw.faulty - 1) = 2
  rw [FwSt.role_setRole _ (by omega) (by omega), if_pos rfl]

/-- The queue engine and port receive restart with nothing of their own. -/
theorem queueAndPort_clauses (p : PortId) :
    Completes (.unitRestart .queueEngine) s (fun t => t.queues = { s.queues with resident := [] } ∧
      t.nat 0x7000 0x17 = min (s.nat 0x7000 0x17 + 1) 0xFFFFFFFF ∧ t.nat 0x6000 7 = min (s.nat 0x6000 7 + 1)
          0xFFFFFFFF) ∧
    Completes (.unitRestart (.portReceive p)) s (fun t => t.nat 0x7000 0x17 = min (s.nat 0x7000 0x17 + 1) 0xFFFFFFFF ∧
      t.nat 0x7000 0x18 = 8 * 2 ^ 56 + s.upUs % 2 ^ 48 ∧ t.rx = s.rx.filter (fun y => y.port != p.val) ∧ t.mem =
          s.mem) := by
  let q : State := ({ s with queues := { s.queues with resident := [] } } : State).bump 0x6000 7
  let r : State := { s with rx := s.rx.filter (fun x => x.port != p.val) }
  have hqueues := (State.within_recovered q 7 0 (50 * tUs) 0) .queues (by simp)
  have hrx := (State.within_recovered r 8 0 tMs p.val) .rx (by simp)
  have hmem := State.mem_of_within (State.within_recovered r 8 0 tMs p.val) (by simp) (by simp)
  have hq : q.nat 0x7000 0x17 = s.nat 0x7000 0x17 := State.nat_bump_ne _ (dkey_ne (by decide) (by decide) fun h => absurd h (by decide))
  obtain ⟨hrcount, hrshown⟩ := r.nat_recover 8 0 tMs p.val
  refine ⟨⟨_, rfl, hqueues, (q.nat_recover 7 0 (50 * tUs) 0).1.trans (by rw [hq]), ?_⟩, ⟨_, rfl, hrcount, ?_, hrx,
      hmem⟩⟩
  · exact (State.nat_recover_other q 7 0 (50 * tUs) 0 (by decide) (by decide)).trans (State.nat_bump _ _ _)
  · have hup : r.upUs = s.upUs := rfl
    have hshown : (r.recover 8 0 tMs p.val).nat 0x7000 0x18 = 8 * 2 ^ 56 + s.upUs % 2 ^ 48 := by simpa [hup] using
        hrshown
    exact hshown

theorem ingestRestart_clause : Completes (.unitRestart .ingest) s
    (fun t => t.nat 0x7000 0x17 = min (s.nat 0x7000 0x17 + 1) 0xFFFFFFFF ∧
    t.nat 0x25F0 8 = min (s.nat 0x25F0 8 + 1) 0xFFFFFFFF) := by
  obtain ⟨hown, hkept⟩ := s.ingestRestart_counts
  exact ⟨_, rfl, (State.nat_recover s.ingestRestart 6 0 tMs 0).1.trans (by rw [hkept]),
    (State.nat_recover_other s.ingestRestart 6 0 tMs 0 (by decide) (by decide)).trans hown⟩

theorem laneRestart_clause (l : LaneId) (hup : (s.lanesAt l.val).state = 2)
    (hfresh : (s.lanesAt l.val).retrainTimes = []) :
    Completes (.unitRestart (.lane l)) s (fun t => t.nat 0x7000 0x17 = min (s.nat 0x7000 0x17 + 1) 0xFFFFFFFF ∧
      (t.lanesAt l.val).state = 4) := by
  have hexec : exec (.unitRestart (.lane l)) s = .next ((s.enterRetrain l.val 1).recover 11 1 (2 * tMs) l.val) :=
    congrArg Host.Outcome.next (if_pos (by omega))
  exact ⟨_, hexec, State.laneRestart_shows hfresh _⟩

end

/-- Settles O53: faults of the pairs, the restart in place, the return of a pair, and the restarts of units. -/
theorem pairsTakeOverOrRestart : Obligations.PairsTakeOverOrRestart := by
  unfold Obligations.PairsTakeOverOrRestart
  intro k l p s
  obtain ⟨hqueue, hport⟩ := queueAndPort_clauses (s := s) p
  refine ⟨fun hruns => ?_, fun hruns hready => ⟨?_, ?_, ?_⟩, fun hruns halone => ⟨?_, ?_,
      pairRestartInPlace_clause hruns halone⟩,
    pairRestartComplete_clause, pairStandbyReady_clause, fun hno => congrArg Host.Outcome.next (if_pos hno), hqueue,
        hport,
    ⟨_, rfl, s.placementRestart_shows k.val⟩, ⟨_, rfl, s.fetchRestart_shows k.val⟩, ingestRestart_clause,
        laneRestart_clause l⟩
  · exact ⟨congrArg Host.Outcome.next (if_pos hruns), congrArg Host.Outcome.next (if_pos hruns)⟩
  · exact ⟨_, rfl, takenOver_clause 9 (by decide) (by decide) hruns hready⟩
  · exact ⟨_, rfl, takenOver_clause 0x0C (by decide) (by decide) hruns hready⟩
  · exact congrArg Host.Outcome.next (if_pos hready)
  · exact ⟨_, rfl, restartsInPlace_clause 9 (by decide) hruns halone⟩
  · exact ⟨_, rfl, restartsInPlace_clause 0x0C (by decide) hruns halone⟩

end Sys2Proof.Proofs

/-! PROOF. Host rings follow their doorbells (R478, R482, R483, R485). -/

namespace Sys2Proof.Machine

variable {s : State} {q i : Nat}

theorem State.ringAt_put_self (s : State) (q : Nat) (r : RingSt) : (s.ringPut q r).ringAt q = r := tgetD_tput_self ..

theorem State.ringAt_touchQueue (s : State) (q j : Nat) : (s.touchQueue q).ringAt j = s.ringAt j := by
  unfold State.touchQueue
  dsimp only
  (repeat' split) <;> rfl

theorem State.out_touchQueue (s : State) (q : Nat) : (s.touchQueue q).out = s.out := by
  unfold State.touchQueue
  dsimp only
  (repeat' split) <;> rfl

theorem State.entriesBut_touchQueue (s : State) (q : Nat) : s.EntriesBut (s.touchQueue q) [(0x6000, 3)] := by
  unfold State.touchQueue
  dsimp only
  split
  · exact fun _ _ _ => rfl
  · split
    · exact fun _ _ _ => rfl
    · exact (State.onlyEntries_putN _ _ _ _).2

theorem State.doorbellRefused_touchQueue (s : State) (p q i : Nat) : (s.touchQueue p).doorbellRefused q i =
    s.doorbellRefused q i := by
  simp only [State.doorbellRefused, State.ringAt_touchQueue]

end Sys2Proof.Machine

/-! PROOF. Host rings follow their doorbells (R478, R482, R483, R485): the commands. -/

namespace Sys2Proof.Machine

variable {s : State} {q i : Nat}

theorem isHostRing_of_le {n : Nat} (h : 0x18000 ≤ n) (hlt : n < 2 ^ 18) : isHostRing n = true := by
  simp only [isHostRing, Bool.and_eq_true, decide_eq_true_eq]
  omega

theorem State.doorbell_accepted_down (hring : isHostRing q = true) (hon : (s.ringAt q).enabled = true)
    (hdir : (s.ringAt q).deviceToHost = false) (hafter : idxAfter i (s.ringAt q).head = true)
    (hroom : idxDist i (s.ringAt q).tail ≤ (s.ringAt q).count) : s.doorbellRefused q i = false := by
  simp [State.doorbellRefused, hring, hon, hdir, hafter, hroom]

theorem State.doorbell_accepted_up (hring : isHostRing q = true) (hon : (s.ringAt q).enabled = true)
    (hdir : (s.ringAt q).deviceToHost = true) (hafter : idxAfter i (s.ringAt q).tail = true)
    (hroom : idxDist i (s.ringAt q).tail ≤ (s.ringAt q).outstanding) : s.doorbellRefused q i = false := by
  simp [State.doorbellRefused, hring, hon, hdir, hafter, hroom]

theorem State.doorbell_refused_off (hoff : (s.ringAt q).enabled = false) : s.doorbellRefused q i = true := by
  simp [State.doorbellRefused, hoff]

/-- A ring moved by a doorbell: its own record, and the descriptor's miss, where there was one. -/
theorem State.ringMoved (s : State) (q : Nat) (x : RingSt) : ((s.touchQueue q).ringPut q x).ringAt q = x ∧
    s.EntriesBut ((s.touchQueue q).ringPut q x) [(0x6000, 3)] ∧ ((s.touchQueue q).ringPut q x).out = s.out :=
  ⟨State.ringAt_put_self .., s.entriesBut_touchQueue q, s.out_touchQueue q⟩

/-- A doorbell on the state that it finds, with what it says of its ring. -/
theorem exec_hostDoorbell (v : BitVec 64) (s : State) : exec (.hostDoorbell v) s = .next (
    if s.doorbellRefused (bits v.toNat 49 32) (bits v.toNat 31 0) then
      if (s.ringAt (bits v.toNat 49 32)).allocated then
        (((s.touchQueue (bits v.toNat 49 32)).bump 0x6000 5).putN 0x6000 6 v.toNat).ringPut (bits v.toNat 49 32)
          { s.ringAt (bits v.toNat 49 32) with
            errors := min ((s.ringAt (bits v.toNat 49 32)).errors + 1) 0xFFFFFFFF, lastError := stRange }
      else ((s.touchQueue (bits v.toNat 49 32)).bump 0x6000 5).putN 0x6000 6 v.toNat
    else if (s.ringAt (bits v.toNat 49 32)).deviceToHost then
      (s.touchQueue (bits v.toNat 49 32)).ringPut (bits v.toNat 49 32)
        { s.ringAt (bits v.toNat 49 32) with tail := bits v.toNat 31 0 }
    else (s.touchQueue (bits v.toNat 49 32)).ringPut (bits v.toNat 49 32)
      { s.ringAt (bits v.toNat 49 32) with head := bits v.toNat 31 0 }) := by
  change execHostDoorbell v s = _
  unfold execHostDoorbell
  simp only [State.ringAt_touchQueue, State.doorbellRefused_touchQueue]

/-- A doorbell that is refused is counted and shown. -/
theorem State.refusalShown (s : State) (q n : Nat) :
    (((s.touchQueue q).bump 0x6000 5).putN 0x6000 6 n).nat 0x6000 5 = min (s.nat 0x6000 5 + 1) 0xFFFFFFFF ∧
      (((s.touchQueue q).bump 0x6000 5).putN 0x6000 6 n).nat 0x6000 6 = n := by
  have htouch : (s.touchQueue q).nat 0x6000 5 = s.nat 0x6000 5 :=
    congrArg (fun v => (valInt v).toNat) (s.entriesBut_touchQueue q 0x6000 5 (by
      simp only [List.forall_mem_singleton]
      exact dkey_ne (by decide) (by decide) fun _ => by decide))
  rw [State.nat_putN_ne _ _ _ _ _ _ (dkey_ne (by decide) (by decide) fun _ => by decide), State.nat_bump, htouch,
      State.nat_putN]
  exact ⟨rfl, rfl⟩

/-! ### Vectors -/

theorem State.raiseVector_none (h : (s.ringAt q).vector = 0xFFFF) : s.raiseVector q = s := if_pos h

theorem State.raiseVector_withheld (h : (s.ringAt q).vector ≠ 0xFFFF)
    (hquiet : (s.ringAt q).moderation ≠ 0 ∧ (s.ringAt q).quiet = true) :
    s.raiseVector q = s.ringPut q { s.ringAt q with withheld := true } := (if_neg h).trans (if_pos hquiet)

theorem State.raiseVector_sent (h : (s.ringAt q).vector ≠ 0xFFFF)
    (hloud : ¬ ((s.ringAt q).moderation ≠ 0 ∧ (s.ringAt q).quiet = true)) :
    s.raiseVector q = (s.ringPut q { s.ringAt q with quiet := decide ((s.ringAt q).moderation ≠ 0), withheld := false }).send
      (.msix (s.ringAt q).vector) := (if_neg h).trans (if_neg hloud)

/-- A vector that is raised keeps the ring's write-back and what has been sent. -/
theorem State.raiseVector_ring (s : State) (q : Nat) : ((s.raiseVector q).ringAt q).dirty = (s.ringAt q).dirty ∧
    ∀ o ∈ s.out, o ∈ (s.raiseVector q).out := by
  by_cases hnone : (s.ringAt q).vector = 0xFFFF
  · rw [State.raiseVector_none hnone]
    exact ⟨rfl, fun _ h => h⟩
  · by_cases hquiet : (s.ringAt q).moderation ≠ 0 ∧ (s.ringAt q).quiet = true
    · rw [State.raiseVector_withheld hnone hquiet, State.ringAt_put_self]
      exact ⟨rfl, fun _ h => h⟩
    · rw [State.raiseVector_sent hnone hquiet]
      have hat (x : RingSt) (o : Out) : ((s.ringPut q x).send o).ringAt q = x := State.ringAt_put_self ..
      rw [hat]
      exact ⟨rfl, fun o h => List.mem_append_left _ h⟩

end Sys2Proof.Machine

namespace Sys2Proof.Proofs
open Sys2Proof.Machine

theorem ringWriteBack_clause (q : Fin 262144) (s : State) (hon : (s.ringAt q.val).enabled = true)
    (hdirty : (s.ringAt q.val).dirty = true)
    (hwrite : (s.ringAt q.val).writeBack ≠ 0) : Completes (.ringWriteBack q) s (fun t =>
      .hostWrite (s.ringAt q.val).writeBack (leBytes 8 (if (s.ringAt q.val).deviceToHost then (s.ringAt q.val).head
        else (s.ringAt q.val).tail)) ∈ t.out ∧ (t.ringAt q.val).dirty = false ∧
      ((s.ringAt q.val).vector ≠ 0xFFFF → (s.ringAt q.val).moderation = 0 → .msix (s.ringAt q.val).vector ∈ t.out) ∧
      ((s.ringAt q.val).vector ≠ 0xFFFF → (s.ringAt q.val).moderation ≠ 0 → (s.ringAt q.val).quiet = true →
        (t.ringAt q.val).withheld = true)) := by
  let u : State := (s.ringPut q.val { s.ringAt q.val with dirty := false }).send
    (.hostWrite (s.ringAt q.val).writeBack (leBytes 8 (if (s.ringAt q.val).deviceToHost then (s.ringAt q.val).head
      else (s.ringAt q.val).tail)))
  have hexec : exec (.ringWriteBack q) s = .next (u.raiseVector q.val) := by
    change execRingWriteBack q s = _
    unfold execRingWriteBack
    dsimp only
    rw [if_pos ⟨hon, hdirty⟩, if_neg hwrite]
  have hat : u.ringAt q.val = { s.ringAt q.val with dirty := false } := State.ringAt_put_self ..
  obtain ⟨hclean, hout⟩ := u.raiseVector_ring q.val
  refine ⟨_, hexec, hout _ ?_, by rw [hclean, hat], fun hvector hfree => ?_, fun hvector hmod hquiet => ?_⟩
  · exact List.mem_append_right _ (List.mem_singleton_self _)
  · rw [State.raiseVector_sent (by rw [hat]; exact hvector) (by rw [hat]; exact fun h => h.1 hfree), hat]
    exact List.mem_append_right _ (List.mem_singleton_self _)
  · rw [State.raiseVector_withheld (by rw [hat]; exact hvector) (by rw [hat]; exact ⟨hmod, hquiet⟩), State.ringAt_put_self]

theorem moderationExpiry_clause (q : Fin 262144) (s : State) (hheld : (s.ringAt q.val).withheld = true)
    (hvector : (s.ringAt q.val).vector ≠ 0xFFFF) : Completes (.moderationExpiry q) s (fun t =>
      t.out = s.out ++ [.msix (s.ringAt q.val).vector] ∧ (t.ringAt q.val).withheld = false ∧ t.dict = s.dict) := by
  have hexec : exec (.moderationExpiry q) s = .next ((s.ringPut q.val { s.ringAt q.val with quiet := false }).raiseVector q.val) :=
    congrArg Host.Outcome.next (if_pos hheld)
  have hat : (s.ringPut q.val { s.ringAt q.val with quiet := false }).ringAt q.val = { s.ringAt q.val with quiet := false } :=
    State.ringAt_put_self ..
  rw [State.raiseVector_sent (by rw [hat]; exact hvector) (by rw [hat]; simp), hat] at hexec
  have hat' (u : State) (x : RingSt) (o : Out) : ((u.ringPut q.val x).send o).ringAt q.val = x :=
    State.ringAt_put_self u q.val x
  have hout (u : State) (x : RingSt) (o : Out) : ((u.ringPut q.val x).send o).out = u.out ++ [o] := rfl
  have hdict (u : State) (x : RingSt) (o : Out) : ((u.ringPut q.val x).send o).dict = u.dict := rfl
  have hput (x : RingSt) : (s.ringPut q.val x).out = s.out ∧ (s.ringPut q.val x).dict = s.dict := ⟨rfl, rfl⟩
  refine ⟨_, hexec, ?_⟩
  dsimp only
  rw [hout, hat', hdict, (hput _).1, (hput _).2]
  exact ⟨rfl, rfl, rfl⟩

/-- Settles O52: doorbells that move a ring or are refused, the write-back of an index, and its vector. -/
theorem hostRingsFollowTheirDoorbells : Obligations.HostRingsFollowTheirDoorbells := by
  unfold Obligations.HostRingsFollowTheirDoorbells
  intro v q s
  have hlt : bits v.toNat 49 32 < 2 ^ 18 := by
    simp only [bits]
    omega
  have hexec := exec_hostDoorbell v s
  refine ⟨fun hn hon hdir hafter hroom => ?_, fun hn hon hdir hafter hroom => ?_, fun hoff => ?_,
      ringWriteBack_clause q s,
    fun hclean => ?_, fun hfree => ?_, moderationExpiry_clause q s⟩
  · rw [State.doorbell_accepted_down (isHostRing_of_le hn hlt) hon hdir hafter hroom, if_neg (by simp),
      if_neg (by simp [hdir])] at hexec
    exact ⟨_, hexec, State.ringMoved ..⟩
  · rw [State.doorbell_accepted_up (isHostRing_of_le hn hlt) hon hdir hafter hroom, if_neg (by simp),
      if_pos hdir] at hexec
    exact ⟨_, hexec, State.ringMoved ..⟩
  · rw [State.doorbell_refused_off hoff, if_pos rfl] at hexec
    obtain ⟨hcount, hshown⟩ := s.refusalShown (bits v.toNat 49 32) v.toNat
    have hkept : ((s.touchQueue (bits v.toNat 49 32)).bump 0x6000 5 |>.putN 0x6000 6 v.toNat).ringAt
        (bits v.toNat 49 32) =
        s.ringAt (bits v.toNat 49 32) := s.ringAt_touchQueue ..
    refine ⟨_, hexec, ?_⟩
    split
    · have hat (u : State) (r : Nat) (x : RingSt) := State.ringAt_put_self u r x
      dsimp only
      rw [hat]
      exact ⟨rfl, rfl, hcount, hshown⟩
    · exact ⟨congrArg RingSt.head hkept, congrArg RingSt.tail hkept, hcount, hshown⟩
  · exact congrArg Host.Outcome.next (if_neg (by simp [hclean]))
  · exact congrArg Host.Outcome.next (if_neg (by simp [hfree]))

end Sys2Proof.Proofs

/-! PROOF. A lane that retrains hushes its SPINNING course, and so the course's other lanes (R319, R326, Table 1.6). -/

namespace Sys2Proof.Machine

/-- Course 0 is SPINNING on lanes 0 to 4, all of them UP. -/
def spinningOnFiveLanes : State :=
  let s := ((State.reset.putN (crs 0) 1 1).putN (crs 0) 5 0).putN (crs 0) 6 5
  (List.range 5).foldl (fun s l => s.lanesPut l { s.lanesAt l with state := 2 }) s

/-- The epoch of lane 4 where a command leaves it. -/
def lastEpochAfter : Host.Outcome State Fault Refusal → Nat
  | .next s => (s.lanesAt 4).epoch
  | _ => 0

/-- The PLL of quad 0 is lost: its lanes retrain, the course is hushed, and lane 4 of quad 1 moves to its next epoch. -/
theorem quadPllLoss_hushes_next_quad : lastEpochAfter (exec (.quadPllLoss 0) spinningOnFiveLanes) = 1 := by
  decide +kernel

end Sys2Proof.Machine

namespace Sys2Proof.Proofs
open Sys2Proof Sys2Proof.Machine

/-- Refutes O40: the retrain of a lane of a SPINNING course sets its hush cause 5, whose hush moves the course's lanes of
    other quads to their next epoch. -/
theorem not_lanesTrainAndRetrain : ¬ Obligations.LanesTrainAndRetrain := by
  unfold Obligations.LanesTrainAndRetrain
  intro h
  obtain ⟨-, -, -, ⟨t, hexec, -, -, hother, -⟩, -⟩ := h 0 0 0 0 0 spinningOnFiveLanes
  have hmoved := quadPllLoss_hushes_next_quad
  rw [hexec] at hmoved
  have hepoch : (t.lanesAt 4).epoch = 1 := hmoved
  have hstart : (spinningOnFiveLanes.lanesAt 4).epoch = 0 := by decide +kernel
  rw [hother 4 (by decide), hstart] at hepoch
  exact absurd hepoch (by decide)

end Sys2Proof.Proofs

/-! PROOF. LANES_OFF leaves hush cause 5 set where a string of the course is wired to a lane number beyond 271. -/

namespace Sys2Proof.Machine

/-- REFCLK is lost; string 0 of the LIT course 0 names lane 300, whose state reads RETRAIN. -/
def wiredBeyondTheLanes : State :=
  let s := (((State.reset.putN (crs 0) 1 4).putN (crs 0) 5 0).putN (crs 0) 6 1).putN (0x2000) 4 300
  ({ s with clk := { s.clk with refclk := false } } : State).lanesPut 300 { s.lanesAt 300 with state := 4 }

/-- Hush cause 5 of course 0 where a command leaves it. -/
def retrainCauseAfter : Host.Outcome State Fault Refusal → Bool
  | .next s => s.flag (crs 0) 3 5
  | _ => false

/-- LANES_OFF turns the part's 272 lanes off, and finds lane 300 in RETRAIN still. -/
theorem lanesOff_sets_retrainCause : retrainCauseAfter (exec .lanesOff wiredBeyondTheLanes) = true := by
  decide +kernel

end Sys2Proof.Machine

namespace Sys2Proof.Proofs
open Sys2Proof Sys2Proof.Machine

/-- Refutes O38: in a state whose 2000:04 names a lane beyond 271, one in RETRAIN, the lanes' end of transitions sets hush
    cause 5 of the course and does not leave it clear. -/
theorem not_lanesSendAndAreHushed : ¬ Obligations.LanesSendAndAreHushed := by
  unfold Obligations.LanesSendAndAreHushed
  intro h
  obtain ⟨-, -, -, -, hoff⟩ := h.2.2 0 0 wiredBeyondTheLanes
  obtain ⟨t, hexec, -, -, hclear, -⟩ := hoff (by decide +kernel)
  have hset := lanesOff_sets_retrainCause
  rw [hexec] at hset
  exact absurd (hset.symm.trans hclear) (by decide)

end Sys2Proof.Proofs

/-! PROOF. Return blocks (R306, R309, R329, R330, R332): what each type leaves. -/

namespace Sys2Proof.Machine

/-! ### Tables and entries -/

theorem terase_terase {α : Type} (t : Tab α) (k : Nat) : terase (terase t k) k = terase t k := by
  induction t with
  | nil => rfl
  | cons p r ih => grind [terase]

theorem terase_tins {α : Type} (t : Tab α) (k : Nat) (v : α) : terase (tins k v t) k = terase t k := by
  induction t with
  | nil => simp [tins, terase]
  | cons p r ih => grind [tins, terase]

/-- Of two writes of one key the second stays. -/
theorem tput_tput {α : Type} [DecidableEq α] (t : Tab α) (d v w : α) (k : Nat) : tput (tput t d k v) d k w = tput t d k
    w := by
  have herase : terase (tput t d k v) k = terase t k := by
    unfold tput
    split
    · exact terase_terase t k
    · rw [terase_tins, terase_terase]
  unfold tput at *
  rw [herase]

/-- The entries listed hold every entry that a write of one of them changes. -/
theorem State.EntriesBut.put {s t : State} {l : List (Nat × Nat)} {i b : Nat} (h : s.EntriesBut t l) (hm : (i, b) ∈ l)
    (v : Val) : s.EntriesBut (t.put i b v) l :=
  fun j c hout => (State.val_put_ne _ _ _ _ _ _ (hout _ hm)).trans (h j c hout)

theorem State.EntriesBut.of_dict {s t u : State} {l : List (Nat × Nat)} (h : s.EntriesBut t l) (hd : u.dict = t.dict) :
    s.EntriesBut u l :=
  fun i b hout => (congrArg (fun d => tgetD d (dfltOf i b) (dkey i b)) hd).trans (h i b hout)

theorem State.EntriesBut.refl (s : State) (l : List (Nat × Nat)) : s.EntriesBut s l := fun _ _ _ => rfl

/-! ### A return block taken, invalid or valid -/

variable {s : State} {k type wire : Nat} {f : State → Nat → State}

theorem State.retsAt_put_self (s : State) (k : Nat) (x : RetSt) : (s.retsPut k x).retsAt k = x := tgetD_tput_self ..

theorem State.onRet_disabled (h : (s.retsAt k).enabled = false) : s.onRet k type wire f = s := by
  unfold State.onRet
  simp [h]

/-- A course's return lane once it has descrambled a block. -/
def State.retDescrambled (s : State) (k wire : Nat) : RetSt :=
  { s.retsAt k with scr := (descramble 64 (wire / 4) (s.retsAt k).scr).2 }

/-- An invalid block is descrambled, ends the run and is counted. -/
theorem State.retInvalid_taken (h : (s.retsAt k).enabled = true) : (s.retTaken k wire).retInvalid k =
    (s.retsPut k { s.retDescrambled k wire with run := 0 }).bump (0x7F60 + k) 0x0A := by
  have hat : (s.retTaken k wire).retsAt k = s.retDescrambled k wire := State.retsAt_put_self ..
  have hput (x y : RetSt) : (s.retsPut k x).retsPut k y = s.retsPut k y :=
    congrArg (fun r => { s with rets := r }) (tput_tput ..)
  unfold State.retInvalid
  rw [hat, if_pos (show (s.retDescrambled k wire).enabled = true from h)]
  exact congrArg (State.bump · _ _) (hput ..)

theorem State.onRet_invalid (h : (s.retsAt k).enabled = true)
    (hbad : wire % 4 ≠ 1 ∨ retValid type (s.retPayload k wire) = false) : s.onRet k type wire f =
      (s.retsPut k { s.retDescrambled k wire with run := 0 }).bump (0x7F60 + k) 0x0A := by
  unfold State.onRet
  rw [if_neg (by simp [h]), if_neg (by rintro ⟨h1, h2⟩; simp_all), State.retInvalid_taken h]

theorem State.onRet_valid (h : (s.retsAt k).enabled = true) (hhead : wire % 4 = 1)
    (hvalid : retValid type (s.retPayload k wire) = true) : s.onRet k type wire f =
      f ((s.retTaken k wire).retBlock k (bits (s.retPayload k wire) 15 8)) (s.retPayload k wire) := by
  unfold State.onRet
  rw [if_neg (by simp [h]), if_pos ⟨hhead, hvalid⟩]

/-- A course's return lane once it has taken a valid block with a sequence. -/
def RetSt.counted (x : RetSt) (seq : Nat) : RetSt :=
  { x with run := x.run + 1, lastSeq := some seq,
           gaps := x.gaps + (if x.lastSeq.any (fun n => (n + 1) % 256 != seq) then 1 else 0) }

/-- A valid block counts in the return lane, and moves its state (7F60 + k:01). -/
theorem State.retBlock_eq (s : State) (k seq : Nat) : s.retBlock k seq =
    (if 63 ≤ (s.retsAt k).run then (s.retsPut k ((s.retsAt k).counted seq)).putN (0x7F60 + k) 1 2
     else if s.nat (0x7F60 + k) 1 = 0 then (s.retsPut k ((s.retsAt k).counted seq)).putN (0x7F60 + k) 1 1
     else s.retsPut k ((s.retsAt k).counted seq)) := by
  have hrun : (64 ≤ (s.retsAt k).run + 1) = (63 ≤ (s.retsAt k).run) := propext (by omega)
  unfold State.retBlock RetSt.counted
  dsimp only
  simp only [hrun]
  cases hseq : (s.retsAt k).lastSeq with
  | none => rfl
  | some n => by_cases h : (n + 1) % 256 = seq <;> simp [h]

theorem State.retsAt_retBlock (s : State) (k seq : Nat) : (s.retBlock k seq).retsAt k = (s.retsAt k).counted seq := by
  have hput (x : RetSt) (n : Nat) : ((s.retsPut k x).putN (0x7F60 + k) 1 n).retsAt k = x := State.retsAt_put_self s k x
  rw [State.retBlock_eq]
  repeat' split
  · exact hput _ 2
  · exact hput _ 1
  · exact State.retsAt_put_self ..

theorem State.lanesAt_retBlock (s : State) (k seq l : Nat) : (s.retBlock k seq).lanesAt l = s.lanesAt l := by
  rw [State.retBlock_eq]
  repeat' split
  all_goals rfl

theorem State.state_retBlock (s : State) (k seq : Nat) : (s.retBlock k seq).nat (0x7F60 + k) 1 =
    if 63 ≤ (s.retsAt k).run then 2 else if s.nat (0x7F60 + k) 1 = 0 then 1 else s.nat (0x7F60 + k) 1 := by
  rw [State.retBlock_eq]
  repeat' split
  · exact State.nat_putN ..
  · exact State.nat_putN ..
  · rfl

theorem State.entriesBut_retBlock (s : State) (k seq : Nat) {l : List (Nat × Nat)} (hm : (0x7F60 + k, 1) ∈ l) :
    s.EntriesBut (s.retBlock k seq) l := by
  have hbase : s.EntriesBut (s.retsPut k ((s.retsAt k).counted seq)) l := (State.EntriesBut.refl s l).of_dict rfl
  rw [State.retBlock_eq]
  repeat' split
  · exact hbase.put hm _
  · exact hbase.put hm _
  · exact hbase

/-! ### The fields of each type -/

/-- The return lane of course `k` and the entries of it once a valid block has been taken from the wire. -/
def State.retRest (s : State) (k wire : Nat) : State := (s.retTaken k wire).retBlock k (bits (s.retPayload k wire) 15 8)

theorem State.retsAt_retRest (s : State) (k wire : Nat) :
    (s.retRest k wire).retsAt k = (s.retDescrambled k wire).counted (bits (s.retPayload k wire) 15 8) :=
  (State.retsAt_retBlock ..).trans (congrArg (RetSt.counted · _) (State.retsAt_put_self ..))

theorem State.state_retRest (s : State) (k wire : Nat) : (s.retRest k wire).nat (0x7F60 + k) 1 =
    if 63 ≤ (s.retsAt k).run then 2 else if s.nat (0x7F60 + k) 1 = 0 then 1 else s.nat (0x7F60 + k) 1 := by
  have hrun : ((s.retTaken k wire).retsAt k).run = (s.retsAt k).run :=
    (congrArg RetSt.run (State.retsAt_put_self s k (s.retDescrambled k wire)) :)
  refine (State.state_retBlock ..).trans ?_
  rw [hrun]
  rfl

theorem State.entriesBut_retRest (s : State) (k wire : Nat) {l : List (Nat × Nat)} (hm : (0x7F60 + k, 1) ∈ l) :
    s.EntriesBut (s.retRest k wire) l := State.entriesBut_retBlock (s.retTaken k wire) k _ hm

theorem State.lanesAt_retRest (s : State) (k wire l : Nat) : (s.retRest k wire).lanesAt l = s.lanesAt l :=
  State.lanesAt_retBlock ..

/-- A status block shows the far end's lanes, its emission and its temperature. -/
theorem State.takeStatus_shows (s : State) (k wire : Nat) (b : Nat) :
    ((s.retRest k wire).takeStatus k b).retsAt k =
        { (s.retDescrambled k wire).counted (bits (s.retPayload k wire) 15 8) with
          locked := bits b 55 49, live := bits b 48 42, emitOk := bit b 41, fault := bit b 40 } ∧
      ((s.retRest k wire).takeStatus k b).int (0x7F60 + k) 7 = sext 8 (bits b 39 32) ∧
      s.EntriesBut ((s.retRest k wire).takeStatus k b) [(0x7F60 + k, 1), (0x7F60 + k, 7)] := by
  have hbase := s.entriesBut_retRest k wire (l := [(0x7F60 + k, 1), (0x7F60 + k, 7)]) (by simp)
  have hat := s.retsAt_retRest k wire
  generalize s.retRest k wire = u at *
  have hput (x : RetSt) (z : Int) : ((u.retsPut k x).putI (0x7F60 + k) 7 z).retsAt k = x := State.retsAt_put_self u k x
  unfold State.takeStatus
  rw [hput, hat]
  exact ⟨rfl, State.int_putI .., (hbase.of_dict rfl).put (by simp) _⟩

/-- A page of the far end's identity is shown in two entries. -/
theorem State.takeIdent_zero {b : Nat} (h : bits b 55 48 = 0) : s.takeIdent k b =
    (s.putN (0x7F60 + k) 2 (bits (bits b 47 16) 31 16)).putN (0x7F60 + k) 3 (bits (bits b 47 16) 15 0) := by
  unfold State.takeIdent
  simp only [h]

theorem State.takeIdent_three {b : Nat} (h : bits b 55 48 = 3) : s.takeIdent k b =
    (s.putN (0x7F60 + k) 5 (bits (bits b 47 16) 31 24)).putN (0x7F60 + k) 6 (bits (bits b 47 16) 23 16) := by
  unfold State.takeIdent
  simp only [h]

/-- The bits of a slice. -/
theorem bits_bits (b hi lo hi' lo' : Nat) (h : lo + hi' ≤ hi) (hle : lo' ≤ hi') :
    bits (bits b hi lo) hi' lo' = bits b (lo + hi') (lo + lo') := by
  have hcut : 2 ^ (hi + 1 - lo) = 2 ^ lo' * 2 ^ (hi + 1 - lo - lo') := by rw [← pow_add]; congr 1; omega
  have hle' : 2 ^ (hi' + 1 - lo') ∣ 2 ^ (hi + 1 - lo - lo') := pow_dvd_pow _ (by omega)
  unfold bits
  rw [show lo + hi' + 1 - (lo + lo') = hi' + 1 - lo' by omega, hcut, Nat.mod_mul_right_div_self,
      Nat.mod_mod_of_dvd _ hle',
    Nat.div_div_eq_div_mul, pow_add]

/-- An error counter of lane `l` that the far end reports. -/
theorem State.takeErrors_reported (s : State) (k wire b : Nat) (hl : bits b 55 47 ≤ 271) :
    (bits b 46 44 = 0 → (s.retRest k wire).takeErrors b =
      (s.retRest k wire).lanesPut (bits b 55 47) { s.lanesAt (bits b 55 47) with invalidFar := bits b 39 16 }) ∧
    (bits b 46 44 = 2 → (s.retRest k wire).takeErrors b =
      (s.retRest k wire).lanesPut (bits b 55 47) { s.lanesAt (bits b 55 47) with crcMismatches := bits b 39 16 }) ∧
    (bits b 46 44 = 7 → (s.retRest k wire).takeErrors b =
      (s.retRest k wire).lanesPut (bits b 55 47) { s.lanesAt (bits b 55 47) with clamped := bits b 39 16 }) := by
  have hlane := s.lanesAt_retRest k wire (bits b 55 47)
  unfold State.takeErrors
  dsimp only
  rw [if_neg (by omega), hlane]
  refine ⟨fun h => ?_, fun h => ?_, fun h => ?_⟩ <;> simp only [h]

/-- An offer leaves a waiting offer of the unit. -/
theorem State.offer_waits (s : State) (kind : SpareKind) (unit : Nat) :
    ∃ o ∈ (s.offer kind unit false).svc.offers, o.kind = kind ∧ o.unit = unit ∧ o.worn = false := by
  unfold State.offer
  dsimp only
  split
  case isTrue h =>
    obtain ⟨o, ho, hsame⟩ := List.any_eq_true.mp h
    simp only [Bool.and_eq_true, beq_iff_eq, Bool.false_or, Bool.not_eq_true'] at hsame
    exact ⟨o, ho, hsame.1.1, hsame.1.2, hsame.2⟩
  case isFalse => exact ⟨_, List.mem_append_right _ (List.mem_singleton_self _), rfl, rfl, rfl⟩

/-- A fault block is shown and counted, and its emitter is offered. -/
theorem State.takeFault_shows (s : State) (k wire b : Nat) (hl : bits b 55 47 ≤ 271) :
    ((s.retRest k wire).takeFault k b).nat (0x7F60 + k) 8 =
        bits b 55 47 * 2 ^ 39 + bits b 46 40 * 2 ^ 32 + bits b 39 16 * 2 ^ 8 ∧
      ((s.retRest k wire).takeFault k b).nat (0x7F60 + k) 9 = min (s.nat (0x7F60 + k) 9 + 1) 0xFFFFFFFF ∧
      (∃ o ∈ ((s.retRest k wire).takeFault k b).svc.offers, o.kind = .lane ∧ o.unit = bits b 55 47 ∧ o.worn = false) ∧
      ∀ j < 32, ((s.retRest k wire).takeFault k b).cst j = s.cst j := by
  have hbase := s.entriesBut_retRest k wire (l := [(0x7F60 + k, 1)]) (by simp)
  generalize s.retRest k wire = u at *
  unfold State.takeFault
  dsimp only
  rw [if_pos hl]
  set v := ((u.logEvent 7 evRetFault (bits b 55 47)).putN (0x7F60 + k) 8
    (bits b 55 47 * 2 ^ 39 + bits b 46 40 * 2 ^ 32 + bits b 39 16 * 2 ^ 8)).bump (0x7F60 + k) 9 with hv
  have hd : (v.offer .lane (bits b 55 47) false).dict = v.dict := State.dict_offer ..
  have hnat (i c : Nat) : (v.offer .lane (bits b 55 47) false).nat i c = v.nat i c :=
    congrArg (fun d => (valInt (tgetD d (dfltOf i c) (dkey i c))).toNat) hd
  have hlog (i c : Nat) : (u.logEvent 7 evRetFault (bits b 55 47)).nat i c = u.nat i c := rfl
  have hentry {i c : Nat} (hc : c < 256) (h : i = 0x7F60 + k → c ≠ 1) : u.nat i c = s.nat i c := by
    refine congrArg (fun x => (valInt x).toNat) (hbase i c ?_)
    simp only [List.mem_singleton, forall_eq]
    exact dkey_ne hc (by decide) h
  refine ⟨?_, ?_, State.offer_waits .., fun j hj => ?_⟩
  · rw [hnat, hv, State.nat_bump_ne _ (dkey_ne (by decide) (by decide) fun _ => by decide), State.nat_putN]
  · rw [hnat, hv, State.nat_bump, State.nat_putN_ne _ _ _ _ _ _ (dkey_ne (by decide) (by decide) fun _ => by decide), hlog,
      hentry (by decide) fun _ => by decide]
  · refine (hnat (crs j) 1).trans ?_
    rw [hv, State.nat_bump_ne _ (dkey_ne (by decide) (by decide) fun _ => by decide),
      State.nat_putN_ne _ _ _ _ _ _ (dkey_ne (by decide) (by decide) fun _ => by decide), hlog]
    exact hentry (by decide) fun h => by simp only [crs] at h; omega

/-- The identity pages 0 and 3 are shown in two entries each. -/
theorem State.takeIdent_shows (s : State) (k wire b : Nat) :
    (bits b 55 48 = 0 → ((s.retRest k wire).takeIdent k b).nat (0x7F60 + k) 2 = bits b 47 32 ∧
      ((s.retRest k wire).takeIdent k b).nat (0x7F60 + k) 3 = bits b 31 16 ∧
      s.EntriesBut ((s.retRest k wire).takeIdent k b) [(0x7F60 + k, 1), (0x7F60 + k, 2), (0x7F60 + k, 3)]) ∧
    (bits b 55 48 = 3 → ((s.retRest k wire).takeIdent k b).nat (0x7F60 + k) 5 = bits b 47 40 ∧
      ((s.retRest k wire).takeIdent k b).nat (0x7F60 + k) 6 = bits b 39 32 ∧
      s.EntriesBut ((s.retRest k wire).takeIdent k b) [(0x7F60 + k, 1), (0x7F60 + k, 5), (0x7F60 + k, 6)]) := by
  refine ⟨fun h => ?_, fun h => ?_⟩
  · have hbase := s.entriesBut_retRest k wire (l := [(0x7F60 + k, 1), (0x7F60 + k, 2), (0x7F60 + k, 3)]) (by simp)
    rw [State.takeIdent_zero h, bits_bits _ _ _ _ _ (by decide) (by decide), bits_bits _ _ _ _ _ (by decide) (by decide)]
    refine ⟨?_, State.nat_putN .., (hbase.put (by simp) _).put (by simp) _⟩
    rw [State.nat_putN_ne _ _ _ _ _ _ (dkey_ne (by decide) (by decide) fun _ => by decide), State.nat_putN]
  · have hbase := s.entriesBut_retRest k wire (l := [(0x7F60 + k, 1), (0x7F60 + k, 5), (0x7F60 + k, 6)]) (by simp)
    rw [State.takeIdent_three h, bits_bits _ _ _ _ _ (by decide) (by decide), bits_bits _ _ _ _ _ (by decide) (by decide)]
    refine ⟨?_, State.nat_putN .., (hbase.put (by simp) _).put (by simp) _⟩
    rw [State.nat_putN_ne _ _ _ _ _ _ (dkey_ne (by decide) (by decide) fun _ => by decide), State.nat_putN]

end Sys2Proof.Machine

namespace Sys2Proof.Proofs
open Sys2Proof Sys2Proof.Machine

/-- Settles O39: a block that is no use, one of each type that is, and a return lane that falls silent. -/
theorem returnBlocksAreReported : Obligations.ReturnBlocksAreReported := by
  unfold Obligations.ReturnBlocksAreReported
  intro k p s
  refine ⟨fun hoff => ⟨congrArg Host.Outcome.next (if_pos (Or.inl hoff)), ?_⟩, fun hon => ?_,
    fun hup => congrArg Host.Outcome.next (if_neg hup), fun hdown => congrArg Host.Outcome.next (if_pos hdown)⟩
  · have hnone (type : Nat) (f : State → Nat → State) : s.onRet k.val type p.toNat f = s := State.onRet_disabled hoff
    simp only [List.forall_mem_cons]
    exact ⟨congrArg Host.Outcome.next (hnone ..), congrArg Host.Outcome.next (hnone ..),
        congrArg Host.Outcome.next (hnone ..),
      congrArg Host.Outcome.next (hnone ..), congrArg Host.Outcome.next (hnone ..), congrArg Host.Outcome.next
          (hnone ..),
      fun _ h => absurd h List.not_mem_nil⟩
  · have hbad (type : Nat) (f : State → Nat → State)
        (h : decide (p.toNat % 4 = 1) = false ∨ retValid type (s.retPayload k.val p.toNat) = false) :
        s.onRet k.val type p.toNat f =
          (s.retsPut k.val { s.retDescrambled k.val p.toNat with run := 0 }).bump (0x7F60 + k.val) 0x0A :=
      State.onRet_invalid hon (h.imp_left of_decide_eq_false)
    refine ⟨fun h => ?_, ?_, fun hhead => ⟨fun hv => ?_, fun hv => ?_, fun hv hl => ?_, fun hv => ?_, fun hv hl => ?_⟩⟩
    · refine congrArg Host.Outcome.next ((if_neg ?_).trans (State.retInvalid_taken hon))
      rintro (hdis | ⟨hhead, hany⟩)
      · exact absurd (hon.symm.trans hdis) (by decide)
      · obtain ⟨type, hmem, hvalid⟩ := List.any_eq_true.mp hany
        obtain h | h := h
        · exact of_decide_eq_false h hhead
        · have := List.all_eq_true.mp h type hmem
          simp [hvalid] at this
    · simp only [List.forall_mem_cons]
      exact ⟨fun h => congrArg Host.Outcome.next (hbad _ _ h), fun h => congrArg Host.Outcome.next (hbad _ _ h),
        fun h => congrArg Host.Outcome.next (hbad _ _ h), fun h => congrArg Host.Outcome.next (hbad _ _ h),
        fun h => congrArg Host.Outcome.next (hbad _ _ h), fun h => congrArg Host.Outcome.next (hbad _ _ h),
        fun _ h => absurd h List.not_mem_nil⟩
    · exact ⟨_, congrArg Host.Outcome.next (State.onRet_valid hon (of_decide_eq_true hhead) hv), s.retsAt_retRest ..,
        s.state_retRest ..,
        s.entriesBut_retRest _ _ (by simp)⟩
    · exact ⟨_, congrArg Host.Outcome.next (State.onRet_valid hon (of_decide_eq_true hhead) hv), s.takeStatus_shows ..⟩
    · have hexec : exec (.retErrors k p) s =
          .next ((s.retRest k.val p.toNat).takeErrors (s.retPayload k.val p.toNat)) :=
        congrArg Host.Outcome.next (State.onRet_valid hon (of_decide_eq_true hhead) hv)
      obtain ⟨h0, h2, h7⟩ := s.takeErrors_reported k.val p.toNat _ hl
      exact ⟨fun h => hexec.trans (congrArg Host.Outcome.next (h0 h)),
          fun h => hexec.trans (congrArg Host.Outcome.next (h2 h)),
        fun h => hexec.trans (congrArg Host.Outcome.next (h7 h))⟩
    · have hexec : exec (.retIdent k p) s =
          .next ((s.retRest k.val p.toNat).takeIdent k.val (s.retPayload k.val p.toNat)) :=
        congrArg Host.Outcome.next (State.onRet_valid hon (of_decide_eq_true hhead) hv)
      obtain ⟨h0, h3⟩ := s.takeIdent_shows k.val p.toNat (s.retPayload k.val p.toNat)
      exact ⟨fun h => ⟨_, hexec, h0 h⟩, fun h => ⟨_, hexec, h3 h⟩⟩
    · exact ⟨_, congrArg Host.Outcome.next (State.onRet_valid hon (of_decide_eq_true hhead) hv),
        s.takeFault_shows _ _ _ hl⟩

end Sys2Proof.Proofs

/-! PROOF. The maintenance of DRAM (R436, R449, R453 to R455, R465 to R468): refresh, scrubbing and repair. -/

namespace Sys2Proof.Machine

variable {s : State} {c : Nat}

theorem State.flag_setFlag (s : State) (i b n : Nat) (v : Bool) : (s.setFlag i b n v).flag i b n = v := by
  rw [State.flag, State.setFlag, State.nat_putN]
  cases v with
  | true => exact testBit_withBit_true ..
  | false => exact bit_withBit_false ..

theorem State.nat_setFlag_ne (s : State) {i b j d : Nat} (n : Nat) (v : Bool) (h : dkey i b ≠ dkey j d) :
    (s.setFlag i b n v).nat j d = s.nat j d := State.nat_putN_ne _ _ _ _ _ _ h

theorem State.chansAt_put_self (s : State) (c : Nat) (x : ChanSt) : (s.chansPut c x).chansAt c = x := tgetD_tput_self ..

/-! ### Scrubbing -/

/-- A unit without bad bytes that is not poisoned reads as it is. -/
theorem State.checkUnit_clean {unit port found : Nat} (h : s.mem.poison = []) : (s.checkUnit c unit port found 0).1 = s
    := by
  unfold State.checkUnit
  simp [h]

/-- A channel begins its next scrub pass. -/
def State.scrubAgain (s : State) (c : Nat) : State :=
  s.chansPut c { s.chansAt c with scrub := 0, correctedBefore := (s.chansAt c).corrected, corrected := [] }

/-- A pass is over for the count of its units. -/
def State.scrubEnd (s : State) : State := { s with mem := { s.mem with scrubbed := 0, scrubLate := false } }

/-- A pass that ends leaves the entries and the cells. -/
theorem State.scrubEnd_keeps (u : State) (l : List Nat) : (u.each l State.scrubAgain).scrubEnd.dict = u.dict ∧
    (u.each l State.scrubAgain).scrubEnd.mem.cells = u.mem.cells ∧
    ∀ k, (u.each l State.scrubAgain).scrubEnd.chansAt k = (u.each l State.scrubAgain).chansAt k :=
  ⟨State.each_proj State.dict (f := State.scrubAgain) (fun _ _ => rfl) u l,
    State.each_proj (fun v => v.mem.cells) (f := State.scrubAgain) (fun _ _ => rfl) u l, fun _ => rfl⟩

/-- The end of a scrub pass: it is counted, and every channel begins again. -/
theorem State.scrubPass_shows (s : State) :
    s.scrubPass.nat 0x5000 0x13 = min (s.nat 0x5000 0x13 + 1) 0xFFFFFFFF ∧ s.scrubPass.nat 0x5000 0x12 = 0 ∧
      s.scrubPass.flag 0x5000 0x1A 3 = false ∧ s.scrubPass.mem.scrubbed = 0 ∧ s.scrubPass.mem.cells = s.mem.cells ∧
      ∀ k < 32, (s.scrubPass.chansAt k).scrub = 0 := by
  have hpass : s.scrubPass = State.scrubEnd
      ((((s.bump 0x5000 0x13).putN 0x5000 0x12 0).setFlag 0x5000 0x1A 3 false).each
    (List.range 32) State.scrubAgain) := rfl
  obtain ⟨hdict, hcells, hchan⟩ :=
    (((s.bump 0x5000 0x13).putN 0x5000 0x12 0).setFlag 0x5000 0x1A 3 false).scrubEnd_keeps (List.range 32)
  rw [← hpass] at hdict hcells hchan
  have hnat (i b : Nat) : s.scrubPass.nat i b =
      (((s.bump 0x5000 0x13).putN 0x5000 0x12 0).setFlag 0x5000 0x1A 3 false).nat i b :=
    congrArg (fun d => (valInt (tgetD d (dfltOf i b) (dkey i b))).toNat) hdict
  refine ⟨?_, ?_, ?_, rfl, hcells, fun k hk => ?_⟩
  · rw [hnat, State.nat_setFlag_ne _ _ _ (by decide), State.nat_putN_ne _ _ _ _ _ _ (by decide), State.nat_bump]
  · rw [hnat, State.nat_setFlag_ne _ _ _ (by decide), State.nat_putN]
  · rw [State.flag, hnat]
    exact State.flag_setFlag ..
  · rw [hchan]
    refine State.each_at (P := fun _ => True) (R := fun u : State => (u.chansAt k).scrub = 0) (List.mem_range.mpr hk)
      List.nodup_range (fun _ _ _ _ _ => trivial) (fun u _ => ?_) (fun u j _ hjk h => ?_) trivial
    · exact congrArg ChanSt.scrub (State.chansAt_put_self ..)
    · exact (congrArg ChanSt.scrub (tgetD_tput_ne _ _ _ hjk)).trans h

/-- A clean unit is scrubbed: the channel goes on to its next, and a pass ends with the last. -/
theorem State.scrubRead_clean (c : ChannelId) (hlive : s.chanLive c.val = true) (hclk : s.clk.refclk = true)
    (hpanic : s.anyPanic = false) (hunit : (s.chansAt c.val).scrub < s.mem.units) (hpoison : s.mem.poison = []) :
    exec (.scrubRead c 0) s = .next (
      let u := s.chansPut c.val { s.chansAt c.val with scrub := (s.chansAt c.val).scrub + 1 }
      if 32 * s.mem.units ≤ s.mem.scrubbed + 1 then u.scrubPass
      else ({ u with mem := { s.mem with scrubbed := s.mem.scrubbed + 1 } } : State).putN 0x5000 0x12
        ((s.mem.scrubbed + 1) * 100 / (32 * s.mem.units))) := by
  have hclean : (if s.mem.check = false then s else (s.checkUnit c.val (s.chansAt c.val).scrub 41 2 0).1) = s := by
    rw [State.checkUnit_clean hpoison, ite_self]
  refine congrArg Host.Outcome.next ((if_pos ⟨hlive, hunit, hclk, hpanic⟩).trans ?_)
  dsimp only
  rw [hclean]
  rfl

theorem scrubRead_pass (c : ChannelId) (hlive : s.chanLive c.val = true) (hclk : s.clk.refclk = true)
    (hpanic : s.anyPanic = false) (hunit : (s.chansAt c.val).scrub < s.mem.units) (hpoison : s.mem.poison = [])
    (hlast : 32 * s.mem.units ≤ s.mem.scrubbed + 1) : Completes (.scrubRead c 0) s (fun t =>
      t.nat 0x5000 0x13 = min (s.nat 0x5000 0x13 + 1) 0xFFFFFFFF ∧ t.nat 0x5000 0x12 = 0 ∧ t.flag 0x5000 0x1A 3 = false
          ∧
      t.mem.scrubbed = 0 ∧ t.mem.cells = s.mem.cells ∧ ∀ k < 32, (t.chansAt k).scrub = 0) := by
  have hexec := State.scrubRead_clean c hlive hclk hpanic hunit hpoison
  dsimp only at hexec
  rw [if_pos hlast] at hexec
  exact ⟨_, hexec, State.scrubPass_shows (s.chansPut c.val _)⟩

/-! ### Refresh and mode registers -/

theorem refresh_issued (c : ChannelId) (rank : Fin 2) (bank : Fin 16) (hlive : s.chanLive c.val = true)
    (hclk : s.clk.refclk = true)
    (issue : Bool) : exec (.refresh c rank bank issue) s = .next (
      let x := s.chansAt c.val
      let i := rank.val * 16 + bank.val
      let n := tgetD x.postponed 0 i
      if 8 ≤ n then (s.chansPut c.val { x with postponed := tput x.postponed 0 i (if issue then 7 else 8) }).bump 0x5000 0x2A
      else s.chansPut c.val { x with postponed := tput x.postponed 0 i (if issue then n - 1 else n + 1) }) :=
  congrArg Host.Outcome.next (if_pos ⟨hlive, hclk⟩)

/-- Mode register 4 is shown, and the flag says whether a channel is hot. -/
theorem mr4Read_clause (c : ChannelId) (m : Nat) (hot : Bool) (hlive : s.chanLive c.val = true)
    (hm : m = 1 ∨ m = 2 ∨ m = 4) :
    Completes (.mr4Read c m hot) s (fun t => t.nat (0x5010 + c.val) 7 = m ∧
      (t.chansAt c.val).hot = hot ∧ s.OnlyEntries { t with chans := s.chans } [(0x5010 + c.val, 7), (0x5000, 0x1A)]) := by
  have hexec : exec (.mr4Read c m hot) s = .next (
      let u := (s.putN (0x5010 + c.val) 7 m).chansPut c.val { s.chansAt c.val with hot := hot }
      u.setFlag 0x5000 0x1A 6 ((List.range 32).any (fun c => (u.chansAt c).hot))) := congrArg Host.Outcome.next (if_pos
          ⟨hlive, hm⟩)
  have hput (v : Bool) (x : ChanSt) :
      (((s.putN (0x5010 + c.val) 7 m).chansPut c.val x).setFlag 0x5000 0x1A 6 v).chansAt c.val = x :=
    State.chansAt_put_self (s.putN (0x5010 + c.val) 7 m) c.val x
  refine ⟨_, hexec, ?_, ?_, rfl, fun i b hout => ?_⟩
  · rw [State.nat_setFlag_ne _ _ _ (dkey_ne (by decide) (by decide) fun h => by omega)]
    exact State.nat_putN ..
  · rw [hput]
  · simp only [List.mem_cons, List.not_mem_nil, or_false, forall_eq_or_imp, forall_eq] at hout
    exact (State.val_put_ne _ _ _ _ _ _ hout.2).trans (State.val_put_ne _ _ _ _ _ _ hout.1)

theorem neighbourRefresh_clause (c : ChannelId) (w : Nat) (l : List Nat) (hrows : (s.chansAt c.val).neighbours = w :: l)
    (hlive : s.chanLive c.val = true) (hpanic : s.anyPanic = false)
        (hlow : 2 ≤ w / 16 % 2 ^ s.mem.rowBits (s.nat 0x5000 3))
    (hhigh : w / 16 % 2 ^ s.mem.rowBits (s.nat 0x5000 3) + 2 < 2 ^ s.mem.rowBits (s.nat 0x5000 3)) :
    exec (.neighbourRefresh c) s = .next ((s.chansPut c.val { s.chansAt c.val with neighbours := l }).add64 0x5000 0x1F 4) := by
  change execNeighbourRefresh c s = _
  unfold execNeighbourRefresh
  simp only [hrows, if_pos hlow, if_pos hhigh, if_pos (show 1 ≤ w / 16 % 2 ^ s.mem.rowBits (s.nat 0x5000 3) by omega),
    if_pos (show w / 16 % 2 ^ s.mem.rowBits (s.nat 0x5000 3) + 1 < 2 ^ s.mem.rowBits (s.nat 0x5000 3) by omega)]
  rw [if_pos ⟨hlive, hpanic⟩]

/-- A neighbour refresh of a channel that sleeps does nothing. -/
theorem neighbourRefresh_asleep (c : ChannelId) (h : s.chanLive c.val = false) : exec (.neighbourRefresh c) s = .next s
    := by
  change execNeighbourRefresh c s = _
  unfold execNeighbourRefresh
  dsimp only
  cases (s.chansAt c.val).neighbours with
  | nil => rfl
  | cons w l => exact congrArg Host.Outcome.next (if_neg (by simp [h]))

/-! ### Repair -/

/-- The repair candidates, by channel. -/
def State.repairCandidates (s : State) : List (Nat × Nat) :=
  (List.range 32).flatMap (fun c => (s.chansAt c).candidates.map (fun w => (c, w)))

theorem State.repairCandidates_nil (h : ∀ k < 32, (s.chansAt k).candidates = []) : s.repairCandidates = [] := by
  refine List.flatMap_eq_nil_iff.mpr fun k hk => ?_
  rw [h k (List.mem_range.mp hk), List.map_nil]

/-- The oldest candidate of the first channel that has one comes first. -/
theorem State.repairCandidates_first {w : Nat} {l : List Nat} (hc : c < 32) (hbefore : ∀ k < c,
    (s.chansAt k).candidates = [])
    (h : (s.chansAt c).candidates = w :: l) : ∃ r, s.repairCandidates = (c, w) :: r := by
  have hrange : List.range 32 = List.range c ++ c :: (List.range' (c + 1) (31 - c)) := by
    rw [List.range_eq_range', List.range_eq_range', ← List.range'_succ]
    have happend := List.range'_append_1 (s := 0) (m := c) (n := 31 - c + 1)
    rw [Nat.zero_add, show c + (31 - c + 1) = 32 by omega] at happend
    exact happend.symm
  refine ⟨l.map (fun w => (c, w)) ++ (List.range' (c + 1) (31 - c)).flatMap
    (fun c => (s.chansAt c).candidates.map (fun w => (c, w))), ?_⟩
  unfold State.repairCandidates
  rw [hrange, List.flatMap_append, List.flatMap_cons, h,
    List.flatMap_eq_nil_iff.mpr fun k hk => by rw [hbefore k (List.mem_range.mp hk), List.map_nil]]
  rfl

theorem softRepair_none (h : s.repairCandidates = []) : exec .softRepair s = .next s := by
  change execSoftRepair s = _
  unfold execSoftRepair
  unfold State.repairCandidates at h
  simp only [h]

theorem softRepair_panic (h : s.anyPanic = true) : exec .softRepair s = .next s := by
  change execSoftRepair s = _
  unfold execSoftRepair
  dsimp only
  split
  · rfl
  · rw [if_pos (Or.inl h)]

/-- The first candidate is repaired where a resource is left, and else counted as unrepaired. -/
theorem softRepair_first {w : Nat} {r : List (Nat × Nat)} (h : s.repairCandidates = (c, w) :: r)
    (hpanic : s.anyPanic = false)
    (hlive : s.chanLive c = true) (hclk : s.clk.refclk = true) : exec .softRepair s = .next (
      let x := { s.chansAt c with candidates := (s.chansAt c).candidates.filter (· != w) }
      let u := s.chansPut c x
      if 0 < s.repairRoom c then
        (({ u with mem := { s.mem with listed := s.mem.listed ++ [(c, w, false)] } } : State).addSat 0x5000 0x24 1).recordRepair
          c w false
      else ((u.chansPut c { x with unrepaired := (s.chansAt c).unrepaired ++ [w] }).addSat 0x5000 0x27 1).setFlag
        0x5000 0x1A 4 true) := by
  have hat (x : ChanSt) : (s.chansPut c x).chansAt c = x := State.chansAt_put_self ..
  change execSoftRepair s = _
  unfold execSoftRepair
  unfold State.repairCandidates at h
  simp only [h]
  rw [if_neg (by simp [hpanic, hlive, hclk]), hat]
  rfl

theorem softRepair_clause (c : ChannelId) {w : Nat} {l : List Nat} (hbefore : ∀ k < c.val,
    (s.chansAt k).candidates = [])
    (h : (s.chansAt c.val).candidates = w :: l) (hpanic : s.anyPanic = false)
    (hlive : s.chanLive c.val = true) (hclk : s.clk.refclk = true) : Completes .softRepair s (fun t =>
      (t.chansAt c.val).candidates = l.filter (· != w) ∧ t.mem.cells = s.mem.cells ∧
      (if 0 < s.repairRoom c.val then t.mem.listed = s.mem.listed ++ [(c.val, w, false)] ∧
          t.nat 0x5000 0x24 = min (s.nat 0x5000 0x24 + 1) 0xFFFFFFFF
        else t.mem.listed = s.mem.listed ∧ t.nat 0x5000 0x27 = min (s.nat 0x5000 0x27 + 1) 0xFFFFFFFF ∧
          t.flag 0x5000 0x1A 4 = true)) := by
  obtain ⟨r, hfirst⟩ := s.repairCandidates_first c.isLt hbefore h
  have hexec := softRepair_first hfirst hpanic hlive hclk
  have hfilter : (w :: l).filter (· != w) = l.filter (· != w) := List.filter_cons_of_neg (by simp)
  dsimp only at hexec
  rw [h, hfilter] at hexec
  have hat (u : State) (x : ChanSt) : (u.chansPut c.val x).chansAt c.val = x := State.chansAt_put_self ..
  refine ⟨_, hexec, ?_⟩
  split
  · have hkept (u : State) (m : MemSt) (v : Bool) :
        ((({ u with mem := m } : State).addSat 0x5000 0x24 1).recordRepair c.val w v).chansAt c.val = u.chansAt c.val ∧
          ((({ u with mem := m } : State).addSat 0x5000 0x24 1).recordRepair c.val w v).mem = m ∧
          ((({ u with mem := m } : State).addSat 0x5000 0x24 1).recordRepair c.val w v).nat 0x5000 0x24 =
            min (u.nat 0x5000 0x24 + 1) 0xFFFFFFFF := ⟨rfl, rfl, State.nat_addSat ({ u with mem := m } : State) _ _ _⟩
    obtain ⟨hchan, hmem, hcount⟩ := hkept (s.chansPut c.val { s.chansAt c.val with candidates := l.filter (· != w) })
      { s.mem with listed := s.mem.listed ++ [(c.val, w, false)] } false
    rw [hchan, hmem, hcount, hat]
    exact ⟨rfl, rfl, rfl, rfl⟩
  · have hkept (u : State) (v : Bool) : ((u.addSat 0x5000 0x27 1).setFlag 0x5000 0x1A 4 v).chansAt c.val = u.chansAt
      c.val ∧
        ((u.addSat 0x5000 0x27 1).setFlag 0x5000 0x1A 4 v).mem = u.mem ∧
        ((u.addSat 0x5000 0x27 1).setFlag 0x5000 0x1A 4 v).nat 0x5000 0x27 = min (u.nat 0x5000 0x27 + 1) 0xFFFFFFFF :=
      ⟨rfl, rfl, (State.nat_setFlag_ne _ _ _ (by decide)).trans (State.nat_addSat ..)⟩
    obtain ⟨hchan, hmem, hcount⟩ := hkept ((s.chansPut c.val { s.chansAt c.val with candidates := l.filter (· != w) }).chansPut c.val
      { s.chansAt c.val with candidates := l.filter (· != w), unrepaired := (s.chansAt c.val).unrepaired ++ [w] }) true
    rw [hchan, hmem, hcount, hat]
    exact ⟨rfl, rfl, rfl, rfl, State.flag_setFlag ..⟩

/-- Repairs recorded in turn are persisted, and nothing else. -/
theorem State.recordRepairs_store (l : List (Nat × Nat × Bool)) (s : State) :
    l.foldl (fun s r => s.recordRepair r.1 r.2.1 true) s =
      { s with store := (l.foldl (fun s r => s.recordRepair r.1 r.2.1 true) s).store } := by
  induction l generalizing s with
  | nil => rfl
  | cons r l ih =>
    have hone : s.recordRepair r.1 r.2.1 true = { s with store := (s.recordRepair r.1 r.2.1 true).store } := rfl
    rw [List.foldl_cons, ih]
    generalize (l.foldl (fun s r => s.recordRepair r.1 r.2.1 true) (s.recordRepair r.1 r.2.1 true)).store = st
    rw [hone]

theorem hardRepair_clause (hentering : s.pwr.entering = true) (hpermanent : s.nat 0x5000 0x28 = 1) :
    Completes .hardRepair s (fun t => t.mem.listed = s.mem.listed.map (fun r => (r.1, r.2.1, true)) ∧
      t = { s with mem := { s.mem with listed := t.mem.listed }, store := t.store }) := by
  have hexec : exec .hardRepair s = .next
      ((s.mem.listed.filter (fun r => !r.2.2)).foldl (fun s r => s.recordRepair r.1 r.2.1 true)
      { s with mem := { s.mem with listed := s.mem.listed.map (fun r => (r.1, r.2.1, true)) } }) :=
    congrArg Host.Outcome.next (if_pos ⟨hentering, hpermanent⟩)
  rw [State.recordRepairs_store] at hexec
  exact ⟨_, hexec, rfl, rfl⟩

end Sys2Proof.Machine

namespace Sys2Proof.Proofs
open Sys2Proof Sys2Proof.Machine

/-- Settles O50: a clause for each command, on a channel that is awake and on one that sleeps. -/
theorem dramIsMaintained : Obligations.DramIsMaintained := by
  unfold Obligations.DramIsMaintained
  intro c rank bank unit w l s
  refine ⟨fun h => congrArg Host.Outcome.next (if_pos h), fun h => congrArg Host.Outcome.next (if_neg (by rw [h]; decide)),
    fun hoff => ⟨fun b => ?_, ?_, ?_, neighbourRefresh_asleep c hoff⟩, fun hlive hclk hn => ⟨?_, ?_⟩, fun hlive hclk hn
        => ?_,
    fun hpanic => ⟨?_, softRepair_panic hpanic⟩, fun hlive hclk hpanic hunit hpoison => ⟨fun hnext => ?_, ?_⟩, rfl,
    fun hrows hlive hpanic hlow hhigh => neighbourRefresh_clause c w l hrows hlive hpanic hlow hhigh,
    fun m hot hlive hm => mr4Read_clause c m hot hlive hm, fun hnone => softRepair_none
        (State.repairCandidates_nil hnone),
    fun hbefore hfirst hpanic hlive hclk => softRepair_clause c hbefore hfirst hpanic hlive hclk,
    fun hentering hpermanent => hardRepair_clause hentering hpermanent,
    fun hstay => congrArg Host.Outcome.next (if_neg (by simp [hstay]))⟩
  · exact congrArg Host.Outcome.next (if_neg (by simp [hoff]))
  · exact congrArg Host.Outcome.next (if_neg (by simp [hoff]))
  · exact congrArg Host.Outcome.next (if_neg (by simp [hoff]))
  · rw [refresh_issued c rank bank hlive hclk]
    exact congrArg Host.Outcome.next (if_neg (by omega))
  · rw [refresh_issued c rank bank hlive hclk]
    exact congrArg Host.Outcome.next (if_neg (by omega))
  · rw [refresh_issued c rank bank hlive hclk]
    exact congrArg Host.Outcome.next (if_pos hn)
  · exact congrArg Host.Outcome.next (if_neg (by simp [hpanic]))
  · rw [State.scrubRead_clean c hlive hclk hpanic hunit hpoison]
    exact congrArg Host.Outcome.next (if_neg (by omega))
  · exact scrubRead_pass c hlive hclk hpanic hunit hpoison

end Sys2Proof.Proofs

/-! PROOF. Channels of DRAM power down, retrain and are trained (R434, R442, R456, R457, R460 to R464). -/

namespace Sys2Proof.Machine

variable {s : State} {c : Nat}

/-! ### Power-down and self-refresh -/

theorem powerDownEntry_first (c : ChannelId) (rank : Fin 2) (hlive : s.chanLive c.val = true)
    (hon : s.nat 0x5000 0x0E ≠ 0)
    (hrank : rank.val < s.nat 0x5000 4) (hdown : (s.chansAt c.val).down = [])
        (hsince : (s.chansAt c.val).downSince = none) :
    exec (.powerDownEntry c rank) s = .next (((s.chansPut c.val { s.chansAt c.val with
      down := [rank.val], downSince := some s.clk.up }).setChan c.val 2).add64 0x5000 0x23 1) := by
  refine congrArg Host.Outcome.next ((if_pos ⟨hlive, hon, hrank, by rw [hdown]; rfl⟩).trans ?_)
  rw [hdown, hsince]
  rfl

theorem State.mem_ranksWake (s : State) (c : Nat) : (s.ranksWake c).mem = s.mem := by
  have hone (u : State) (r : Nat) : (u.rankWakes c r).mem = u.mem := by
    unfold State.rankWakes
    dsimp only
    split <;> rfl
  exact (hone _ 1).trans (hone s 0)

/-- A channel in self-refresh, with its ranks awake before. -/
def State.chanAsleep (s : State) (c : Nat) : State :=
  { (s.chansPut c { s.chansAt c with due := false, forced := false, waited := false, overdue := false }).setChan c 3 with
    mem := { s.mem with dueOrder := s.mem.dueOrder.filter (· != c) } }

/-- A channel in self-refresh: its state, no retrain due, and its cells kept. -/
theorem State.chanSleeps_shows (s : State) (c : Nat) : (s.chanSleeps c).nat (0x5010 + c) 1 = 3 ∧
    ((s.chanSleeps c).chansAt c).due = false ∧ (s.chanSleeps c).mem.cells = s.mem.cells := by
  have hsleeps : s.chanSleeps c =
      let u := ((s.ranksWake c).chanAsleep c).setFlag 0x5000 0x1A 5
        ((List.range 32).any (fun k => (((s.ranksWake c).chanAsleep c).chansAt k).overdue))
      if (List.range 32).all (fun k => u.chanState k == 3) then u.putN 0x5000 1 2 else u := rfl
  have hcells : ((s.ranksWake c).chanAsleep c).mem.cells = s.mem.cells := (congrArg MemSt.cells (s.mem_ranksWake c) :)
  have hstate : ((s.ranksWake c).chanAsleep c).nat (0x5010 + c) 1 = 3 := State.nat_putN ((s.ranksWake c).chansPut c _)
      ..
  have hdue : (((s.ranksWake c).chanAsleep c).chansAt c).due = false :=
    congrArg ChanSt.due (State.chansAt_put_self (s.ranksWake c) c _)
  generalize (s.ranksWake c).chanAsleep c = u at *
  have hflag (v : Bool) : (u.setFlag 0x5000 0x1A 5 v).nat (0x5010 + c) 1 = 3 :=
    (State.nat_setFlag_ne _ _ _ (dkey_ne (by decide) (by decide) fun _ => by decide)).trans hstate
  rw [hsleeps]
  dsimp only
  split
  · exact ⟨(State.nat_putN_ne _ _ _ _ _ _ (dkey_ne (by decide) (by decide) fun h => by omega)).trans (hflag _), hdue,
      hcells⟩
  · exact ⟨hflag _, hdue, hcells⟩

/-! ### Retraining -/

theorem oscillatorRead_clause (c : ChannelId) (count : Int) (hlive : s.chanLive c.val = true) (hlow : -32768 ≤ count)
    (hhigh : count ≤ 32767) (hdue : (s.chansAt c.val).due = false) :
    (s.nat 0x5000 0x15 < count.natAbs → Completes (.oscillatorRead c count) s (fun t =>
      (t.chansAt c.val) = { s.chansAt c.val with due := true } ∧ t.int (0x5010 + c.val) 6 = count ∧
      t.mem.dueOrder = s.mem.dueOrder ++ [c.val] ∧ s.EntriesBut t [(0x5010 + c.val, 6)])) ∧
    (count.natAbs ≤ s.nat 0x5000 0x15 → s.clk.up < (s.chansAt c.val).trainedAt + s.nat 0x5000 0x14 * tMs →
      exec (.oscillatorRead c count) s = .next (s.putI (0x5010 + c.val) 6 count)) := by
  have hclamp : clampI (-32768) 32767 count = count := by
    unfold clampI
    omega
  have hexec : exec (.oscillatorRead c count) s = .next (
      if s.nat 0x5000 0x15 < count.natAbs ∨ (s.chansAt c.val).trainedAt + s.nat 0x5000 0x14 * tMs ≤ s.clk.up then
        (s.putI (0x5010 + c.val) 6 count).retrainDue c.val
      else s.putI (0x5010 + c.val) 6 count) := by
    refine congrArg Host.Outcome.next ((if_pos hlive).trans ?_)
    dsimp only
    rw [hclamp]
  refine ⟨fun hdrift => ?_, fun hsmall hrecent => ?_⟩
  · have hretrain : (s.putI (0x5010 + c.val) 6 count).retrainDue c.val =
        { (s.putI (0x5010 + c.val) 6 count).chansPut c.val { s.chansAt c.val with due := true } with
          mem := { s.mem with dueOrder := s.mem.dueOrder ++ [c.val] } } := by
      unfold State.retrainDue
      exact if_neg (show ¬ (s.chansAt c.val).due = true by simp [hdue])
    rw [if_pos (Or.inl hdrift), hretrain] at hexec
    have hat (u : State) (x : ChanSt) (m : MemSt) : ({ u.chansPut c.val x with mem := m } : State).chansAt c.val = x :=
      State.chansAt_put_self u c.val x
    refine ⟨_, hexec, hat .., State.int_putI s .., rfl, ?_⟩
    exact ((State.EntriesBut.refl s _).put (List.mem_singleton_self _) _).of_dict rfl
  · rw [hexec, if_neg (by omega)]

/-- A channel that has been retrained. -/
def State.retrained (s : State) (c : Nat) : State :=
  { (((s.bump 0x5000 0x16).bump (0x5010 + c) 5).putI (0x5010 + c) 6 0).chansPut c { s.chansAt c with
      due := false, forced := false, waited := false, overdue := false, trainedAt := s.clk.up } with
    mem := { s.mem with dueOrder := s.mem.dueOrder.filter (· != c) } }

theorem retrainPause_taken (c : ChannelId) (h : s.mayRetrain c.val = true) : exec (.retrainPause c) s =
    .next ((s.retrained c.val).setFlag 0x5000 0x1A 5 ((List.range 32).any (fun k => ((s.retrained c.val).chansAt
        k).overdue))) :=
  congrArg Host.Outcome.next (if_pos h)

/-- A retrain is counted for memory and for its channel, and the drift begins again. -/
theorem State.retrained_counts (s : State) (c : Nat) :
    (s.retrained c).nat 0x5000 0x16 = min (s.nat 0x5000 0x16 + 1) 0xFFFFFFFF ∧
      (s.retrained c).nat (0x5010 + c) 5 = min (s.nat (0x5010 + c) 5 + 1) 0xFFFFFFFF ∧ (s.retrained c).int (0x5010 + c)
          6 = 0 := by
  have hnat (i b : Nat) : (s.retrained c).nat i b =
      (((s.bump 0x5000 0x16).bump (0x5010 + c) 5).putI (0x5010 + c) 6 0).nat i b :=
    rfl
  have hint : (s.retrained c).int (0x5010 + c) 6 =
      (((s.bump 0x5000 0x16).bump (0x5010 + c) 5).putI (0x5010 + c) 6 0).int (0x5010 + c) 6 := rfl
  refine ⟨?_, ?_, hint.trans (State.int_putI ..)⟩
  · rw [hnat, State.nat_putI_ne _ _ (dkey_ne (by decide) (by decide) fun h => by omega),
      State.nat_bump_ne _ (dkey_ne (by decide) (by decide) fun h => by omega), State.nat_bump]
  · rw [hnat, State.nat_putI_ne _ _ (dkey_ne (by decide) (by decide) fun _ => by decide), State.nat_bump,
      State.nat_bump_ne _ (dkey_ne (by decide) (by decide) fun h => by omega)]

theorem retrainPause_clause (c : ChannelId) (h : s.mayRetrain c.val = true) : Completes (.retrainPause c) s (fun t =>
    (t.chansAt c.val) = { s.chansAt c.val with
      due := false, forced := false, waited := false, overdue := false, trainedAt := s.clk.up } ∧
    t.nat 0x5000 0x16 = min (s.nat 0x5000 0x16 + 1) 0xFFFFFFFF ∧
    t.nat (0x5010 + c.val) 5 = min (s.nat (0x5010 + c.val) 5 + 1) 0xFFFFFFFF ∧
    t.int (0x5010 + c.val) 6 = 0 ∧ t.mem.dueOrder = s.mem.dueOrder.filter (· != c.val)) := by
  obtain ⟨hall, hown, hdrift⟩ := s.retrained_counts c.val
  have hat : (s.retrained c.val).chansAt c.val = { s.chansAt c.val with
      due := false, forced := false, waited := false, overdue := false, trainedAt := s.clk.up
          } := State.chansAt_put_self _ c.val _
  have hmem : (s.retrained c.val).mem.dueOrder = s.mem.dueOrder.filter (· != c.val) := rfl
  refine ⟨_, retrainPause_taken c h, ?_⟩
  generalize s.retrained c.val = u at *
  refine ⟨hat, ?_, ?_, ?_, hmem⟩
  · rw [State.nat_setFlag_ne _ _ _ (by decide), hall]
  · rw [State.nat_setFlag_ne _ _ _ (dkey_ne (by decide) (by decide) fun _ => by decide), hown]
  · rw [State.setFlag, State.int_putN_ne _ _ (dkey_ne (by decide) (by decide) fun _ => by decide), hdrift]

/-! ### Training at START -/

theorem dramFails_shows (r : TrainingResult) (s : State) : (s.dramFails r).nat 0x5000 1 = 3 ∧
    (s.dramFails r).flag 0x5000 0x1A 8 = true ∧ (s.dramFails r).pwr.dramFailed = true ∧ (s.dramFails r).pwr.dramTrained
        = true := by
  have hchans (l : List Nat) (u : State) (hu : u.nat 0x5000 1 = 3 ∧ u.flag 0x5000 0x1A 8 = true) :
      (u.each l (fun s c => if bit r.failed.toNat c then s.setChan c 5 else s)).nat 0x5000 1 = 3 ∧
        (u.each l (fun s c => if bit r.failed.toNat c then s.setChan c 5 else s)).flag 0x5000 0x1A 8 = true := by
    refine State.each_invariant (P := fun v : State => v.nat 0x5000 1 = 3 ∧ v.flag 0x5000 0x1A 8 = true)
      (fun v c _ hv => ?_) hu
    split
    · have hnat (b : Nat) (hb : b < 256) : (v.setChan c 5).nat 0x5000 b = v.nat 0x5000 b :=
        State.nat_putN_ne _ _ _ _ _ _ (dkey_ne hb (by decide) fun h => by omega)
      exact ⟨(hnat 1 (by decide)).trans hv.1, (congrArg (bit · 8) (hnat 0x1A (by decide))).trans hv.2⟩
    · exact hv
  have hkept := hchans (List.range 32) ((s.putN 0x5000 1 3).setFlag 0x5000 0x1A 8 true)
    ⟨(State.nat_setFlag_ne _ _ _ (by decide)).trans (State.nat_putN ..), State.flag_setFlag ..⟩
  exact ⟨hkept.1, hkept.2, rfl, rfl⟩

/-- The state that training leaves before the channels are awake. -/
def State.sizesKnown (s : State) (r : TrainingResult) : State :=
  let m := s.memAtStart r
  let u : State := { s with mem := m, pwr := { s.pwr with dramTrained := true } }
  let v := (((((u.putN 0x5000 1 1).putN 0x5000 3 r.density).putN 0x5000 4 r.ranks).putN 0x5000 5
    (32 * (r.density * 128 * r.ranks))).putN 0x5000 6 (32 * m.chanMiB)).putN 0x5000 0x0C (32 * (m.chanMiB - m.control))
  ((v.putN 0x5000 0x0D (m.others.length * m.control)).setFlag 0x5000 0x1A 2 (!m.check)).setFlag 0x5000 0x1A 9
    (m.canvasPool != s.nat 0x25F0 1 || m.capturePool != s.nat 0x28F0 1)

/-- A channel is awake, just trained. -/
def State.chanTrained (s : State) (c : Nat) : State := (s.setChan c 1).chansPut c { trainedAt := s.clk.up }

theorem dramTraining_succeeds (r : TrainingResult) (hstart : s.dst = 0) (hnew : s.pwr.dramTrained = false)
    (hstep : 2 ≤ s.pwr.step) (hclk : s.clk.refclk = true) (hpass : trainingFails r = false) :
    exec (.dramTrainingComplete r) s = .next ((s.sizesKnown r).each (List.range 32) State.chanTrained) := by
  refine congrArg Host.Outcome.next ((if_neg ?_).trans ((if_neg (by simp [hpass])).trans ?_))
  · simp only [hstart, hnew, hclk]
    simp only [ne_eq, not_true_eq_false, Bool.false_eq_true, Bool.true_eq_false, false_or, or_false]
    omega
  · rfl

/-- Training shows the size of memory and what of it each channel serves. -/
theorem State.sizesKnown_shows (s : State) (r : TrainingResult) : (s.sizesKnown r).nat 0x5000 1 = 1 ∧
    (s.sizesKnown r).nat 0x5000 3 = r.density ∧ (s.sizesKnown r).nat 0x5000 4 = r.ranks ∧
    (s.sizesKnown r).nat 0x5000 5 = 32 * (r.density * 128 * r.ranks) ∧
    (s.sizesKnown r).nat 0x5000 6 = 32 * (s.memAtStart r).chanMiB ∧ (s.sizesKnown r).mem = s.memAtStart r ∧
    (s.sizesKnown r).pwr.dramTrained = true := by
  unfold State.sizesKnown
  generalize s.memAtStart r = m
  dsimp only
  simp (disch := decide) only [State.nat_setFlag_ne, State.nat_putN_ne, State.nat_putN, true_and]
  exact ⟨rfl, rfl⟩

theorem State.chanTrained_keeps (s : State) (c b : Nat) (hb : b < 256) : (s.chanTrained c).nat 0x5000 b = s.nat 0x5000
    b :=
  State.nat_putN_ne s _ _ _ _ _ (dkey_ne hb (by decide) fun h => by omega)

theorem dramTraining_passed (r : TrainingResult) (hstart : s.dst = 0) (hnew : s.pwr.dramTrained = false)
    (hstep : 2 ≤ s.pwr.step) (hclk : s.clk.refclk = true) (hpass : trainingFails r = false) :
    Completes (.dramTrainingComplete r) s (fun t =>
      t.nat 0x5000 1 = 1 ∧ t.nat 0x5000 3 = r.density ∧ t.nat 0x5000 4 = r.ranks ∧
        t.nat 0x5000 5 = 32 * (r.density * 128 * r.ranks) ∧
      t.mem.chanMiB = (if s.nat 0x5000 7 = 1 then r.density * 128 * r.ranks * 7 / 8 else r.density * 128 * r.ranks) ∧
      t.nat 0x5000 6 = 32 * t.mem.chanMiB ∧ t.pwr.dramTrained = true ∧ ∀ k < 32, t.nat (0x5010 + k) 1 = 1) := by
  have hsize : (s.memAtStart r).chanMiB =
      if s.nat 0x5000 7 = 1 then r.density * 128 * r.ranks * 7 / 8 else r.density * 128 * r.ranks := by
    show chanMiBOf r.density r.ranks (s.nat 0x5000 7 == 1) = _
    unfold chanMiBOf
    simp
  obtain ⟨hstate, hdensity, hranks, hmanaged, hserved, hmem, htrained⟩ := s.sizesKnown_shows r
  have hkept (l : List Nat) (u : State) : (∀ b < 256, (u.each l State.chanTrained).nat 0x5000 b = u.nat 0x5000 b) ∧
      (u.each l State.chanTrained).mem = u.mem ∧ (u.each l State.chanTrained).pwr = u.pwr :=
    ⟨fun b hb => State.each_proj (fun v => v.nat 0x5000 b) (fun v c => v.chanTrained_keeps c b hb) u l,
      State.each_proj State.mem (f := State.chanTrained) (fun _ _ => rfl) u l,
      State.each_proj State.pwr (f := State.chanTrained) (fun _ _ => rfl) u l⟩
  have hawake (u : State) (k : Nat) (hk : k < 32) : (u.each (List.range 32) State.chanTrained).nat (0x5010 + k) 1 = 1
      := by
    refine State.each_at (P := fun _ => True) (R := fun v : State => v.nat (0x5010 + k) 1 = 1) (List.mem_range.mpr hk)
      List.nodup_range (fun _ _ _ _ _ => trivial) (fun v _ => ?_) (fun v j _ hjk h => ?_) trivial
    · exact State.nat_putN v ..
    · exact (State.nat_putN_ne v _ _ _ _ _ (dkey_ne (by decide) (by decide) fun h => by omega)).trans h
  obtain ⟨hnat, hmem', hpwr⟩ := hkept (List.range 32) (s.sizesKnown r)
  refine ⟨_, dramTraining_succeeds r hstart hnew hstep hclk hpass, ?_⟩
  dsimp only
  rw [hnat 1 (by decide), hnat 3 (by decide), hnat 4 (by decide), hnat 5 (by decide), hnat 6 (by decide), hmem', hpwr,
      hmem]
  exact ⟨hstate, hdensity, hranks, hmanaged, hsize, hserved, htrained, hawake _⟩

end Sys2Proof.Machine

namespace Sys2Proof.Proofs
open Sys2Proof Sys2Proof.Machine

/-- Settles O51: a clause for each command, and training that fails and that passes. -/
theorem dramTrainsAndSleeps : Obligations.DramTrainsAndSleeps := by
  unfold Obligations.DramTrainsAndSleeps
  intro c rank count r s
  refine ⟨fun hoff => ⟨?_, ?_, ?_⟩, powerDownEntry_first c rank, fun hlive hstopped hentering hrepairs => ?_,
    fun hlive hlow hhigh hdue => oscillatorRead_clause c count hlive hlow hhigh hdue, fun hdue => ⟨?_, ?_, ?_⟩,
    fun hdue => ⟨fun hforced hpanic => ?_, fun hforced hpanic => ?_, fun hover => ?_, retrainPause_clause c⟩,
    fun hstart => congrArg Host.Outcome.next (if_pos (Or.inl hstart)),
    fun hstart hnew hstep hclk => ⟨fun hfail => ?_, dramTraining_passed r hstart hnew hstep hclk⟩⟩
  · exact congrArg Host.Outcome.next (if_neg (by simp [hoff]))
  · exact congrArg Host.Outcome.next (if_neg (by simp [hoff]))
  · exact congrArg Host.Outcome.next (if_neg (by simp [hoff]))
  · exact ⟨_, congrArg Host.Outcome.next (if_pos ⟨hlive, hstopped, Or.inl hentering, hrepairs⟩),
      s.chanSleeps_shows c.val⟩
  · exact congrArg Host.Outcome.next (if_neg (by simp [hdue]))
  · refine congrArg Host.Outcome.next ((if_neg ?_).trans (if_neg (by simp [hdue])))
    simp [State.mayRetrain, hdue]
  · exact congrArg Host.Outcome.next (if_neg (by simp [hdue]))
  · exact congrArg Host.Outcome.next ((if_pos ⟨hdue, hforced⟩).trans (by dsimp only; rw [hpanic]; rfl))
  · exact congrArg Host.Outcome.next ((if_pos ⟨hdue, hforced⟩).trans (by dsimp only; rw [hpanic]; rfl))
  · exact congrArg Host.Outcome.next (if_pos ⟨hdue, hover⟩)
  · have hexec : exec (.dramTrainingComplete r) s = .next (s.dramFails r) := by
      refine congrArg Host.Outcome.next ((if_neg ?_).trans (if_pos hfail))
      simp only [hstart, hnew, hclk]
      simp only [ne_eq, not_true_eq_false, Bool.false_eq_true, Bool.true_eq_false, false_or, or_false]
      omega
    exact ⟨_, hexec, dramFails_shows r s⟩

end Sys2Proof.Proofs

/-! PROOF. The load of pegs (R401, R402). -/

namespace Sys2Proof.Machine

variable {s : State} {k p : Nat}

/-- Bringing the shadows up to date changes the pegs, and nothing else. -/
theorem State.pegsRefresh_form (s : State) : s.pegsRefresh = { s with pegs := s.pegsRefresh.pegs } := by
  have hall (l : List Nat) (u : State) : u.each l (fun s p => s.pegRefresh p) =
      { u with pegs := (u.each l (fun s p => s.pegRefresh p)).pegs } := by
    induction l generalizing u with
    | nil => rfl
    | cons p l ih =>
      have hone : u.pegRefresh p = { u with pegs := (u.pegRefresh p).pegs } := by
        unfold State.pegRefresh
        split <;> rfl
      have hcons : u.each (p :: l) (fun s p => s.pegRefresh p) = (u.pegRefresh p).each l (fun s p => s.pegRefresh p) :=
          rfl
      rw [hcons, ih]
      generalize ((u.pegRefresh p).each l (fun s p => s.pegRefresh p)).pegs = g
      rw [hone]
  exact hall allPegs s

/-- A peg once its load is over: at its code, or 256 codes nearer. -/
def PegSt.loaded (x : PegSt) (slot v : Nat) : PegSt :=
  { x with
    code := if x.code + 256 < v then x.code + 256 else if v + 256 < x.code then x.code - 256 else v
    shadow := if x.code + 256 < v ∨ v + 256 < x.code then some v else none, before := x.code, loadedAt := slot }

theorem loadPeg_pending {x : PegSt} {v : Nat} (h : x.shadow = some v) (slot : Nat) :
    { loadPeg x with before := x.code, loadedAt := slot } = x.loaded slot v := by
  have hclamp : (clampI ((x.code : Int) - 256) ((x.code : Int) + 256) v).toNat =
      if x.code + 256 < v then x.code + 256 else if v + 256 < x.code then x.code - 256 else v := by
    unfold clampI
    split_ifs <;> omega
  have hreached : (if x.code + 256 < v then x.code + 256 else if v + 256 < x.code then x.code - 256 else v) = v ↔
      ¬ (x.code + 256 < v ∨ v + 256 < x.code) := by
    split_ifs <;> omega
  unfold loadPeg PegSt.loaded
  simp only [h, hclamp, hreached]
  congr 1
  split_ifs <;> rfl

theorem State.pegsAt_put_self (s : State) (p : Nat) (x : PegSt) : (s.pegsPut p x).pegsAt p = x := tgetD_tput_self ..

theorem State.pegsAt_put_ne (s : State) {p q : Nat} (x : PegSt) (h : q ≠ p) : (s.pegsPut q x).pegsAt p = s.pegsAt p :=
  tgetD_tput_ne _ _ _ h

/-- A peg takes its code, at the slot now. -/
def State.pegTaken (s : State) (p : Nat) : State :=
  s.pegsPut p { loadPeg (s.pegsAt p) with before := (s.pegsAt p).code, loadedAt := s.clk.slot }

/-- The pegs of the list that have a code pending. -/
def State.pegsDue (s : State) (ps : List Nat) : List Nat := ps.filter (fun p => (s.pegsAt p).shadow.isSome)

theorem State.pegLoad_eq (s : State) (ps : List Nat) : s.pegLoad ps =
    if (s.pegsDue ps).isEmpty then s
    else
      let t := (s.each (s.pegsDue ps) State.pegTaken).bump 0x40F0 4
      if (s.pegsDue ps).any (fun p => (t.pegsAt p).shadow.isSome) then t.bump 0x40F0 5 else t := rfl

/-- From `s` the pegs have moved, and the two counts of loads. -/
def State.PegsMoved (s t : State) : Prop :=
  s.EntriesBut t [(0x40F0, 4), (0x40F0, 5)] ∧ t.mem = s.mem ∧ t.domains = s.domains

theorem State.pegsTaken_keeps (s : State) (l : List Nat) : (s.each l State.pegTaken).dict = s.dict ∧
    (s.each l State.pegTaken).mem = s.mem ∧ (s.each l State.pegTaken).domains = s.domains :=
  ⟨State.each_proj State.dict (f := State.pegTaken) (fun _ _ => rfl) s l,
    State.each_proj State.mem (f := State.pegTaken) (fun _ _ => rfl) s l,
    State.each_proj State.domains (f := State.pegTaken) (fun _ _ => rfl) s l⟩

theorem State.pegLoad_moves (s : State) (ps : List Nat) : s.PegsMoved (s.pegLoad ps) := by
  have hcount (u : State) (b : Nat) (hb : (0x40F0, b) ∈ [(0x40F0, 4), (0x40F0, 5)]) (hu : s.PegsMoved u) :
      s.PegsMoved (u.bump 0x40F0 b) := ⟨hu.1.put hb _, hu.2.1, hu.2.2⟩
  obtain ⟨hdict, hmem, hdomains⟩ := s.pegsTaken_keeps (s.pegsDue ps)
  have htaken : s.PegsMoved (s.each (s.pegsDue ps) State.pegTaken) := ⟨(State.EntriesBut.refl s _).of_dict hdict, hmem,
      hdomains⟩
  rw [State.pegLoad_eq]
  split
  · exact ⟨State.EntriesBut.refl s _, rfl, rfl⟩
  · dsimp only
    split
    · exact hcount _ 5 (by simp) (hcount _ 4 (by simp) htaken)
    · exact hcount _ 4 (by simp) htaken

/-- What a load leaves of a peg: a counted load changes no peg. -/
theorem State.pegsAt_pegLoad (s : State) (ps : List Nat) (p : Nat) :
    (s.pegLoad ps).pegsAt p = (s.each (s.pegsDue ps) State.pegTaken).pegsAt p := by
  rw [State.pegLoad_eq]
  split
  · next h => rw [List.isEmpty_iff.mp h]; rfl
  · dsimp only
    split <;> rfl

/-- A peg that is not due stays. -/
theorem State.pegsAt_pegLoad_other {ps : List Nat} (h : p ∉ s.pegsDue ps) : (s.pegLoad ps).pegsAt p = s.pegsAt p := by
  rw [State.pegsAt_pegLoad]
  refine State.each_invariant (P := fun u : State => u.pegsAt p = s.pegsAt p) (fun u q hq hu => ?_) rfl
  exact (State.pegsAt_put_ne u _ fun hqp : q = p => h (hqp ▸ hq)).trans hu

/-- A peg that is due takes its code. -/
theorem State.pegsAt_pegLoad_due {ps : List Nat} {v : Nat} (hp : p ∈ ps) (hnodup : ps.Nodup)
    (hv : (s.pegsAt p).shadow = some v) : (s.pegLoad ps).pegsAt p = (s.pegsAt p).loaded s.clk.slot v := by
  have hdue : p ∈ s.pegsDue ps := List.mem_filter.mpr ⟨hp, by rw [hv]; rfl⟩
  rw [State.pegsAt_pegLoad]
  refine State.each_at (P := fun u : State => u.pegsAt p = s.pegsAt p ∧ u.clk = s.clk)
    (R := fun u : State => u.pegsAt p = (s.pegsAt p).loaded s.clk.slot v) hdue (hnodup.filter _)
    (fun u q _ hqp hu => ⟨(State.pegsAt_put_ne u _ hqp).trans hu.1, hu.2⟩) (fun u hu => ?_)
    (fun u q _ hqp hu => (State.pegsAt_put_ne u _ hqp).trans hu) ⟨rfl, rfl⟩
  rw [State.pegTaken, State.pegsAt_put_self, hu.1, hu.2]
  exact loadPeg_pending hv _

/-! ### Domains that wait for nothing -/

/-- Of domains that wait for nothing a load leaves pegs, entries and memory. -/
theorem State.domainLoads_idle (u : State) (l : List Nat) (hl : ∀ d ∈ l, d < 98) (hnone : ∀ d < 98,
    (u.domainsAt d).waiting = []) :
    (u.each l (fun s d => s.domainLoad d)).dict = u.dict ∧ (u.each l (fun s d => s.domainLoad d)).pegs = u.pegs ∧
      (u.each l (fun s d => s.domainLoad d)).mem = u.mem := by
  have hall := State.each_invariant (f := fun s d => s.domainLoad d) (l := l) (s := u)
    (P := fun v : State => (∀ d < 98, (v.domainsAt d).waiting = []) ∧ v.dict = u.dict ∧ v.pegs = u.pegs ∧ v.mem = u.mem)
    (fun v d hd ⟨hv, hdict, hpegs, hmem⟩ => ?_) ⟨hnone, rfl, rfl, rfl⟩
  · exact hall.2
  · rw [State.domainLoad_nothing (hv d (hl d hd))]
    refine ⟨fun e he => ?_, hdict, hpegs, hmem⟩
    by_cases hde : d = e
    · subst hde
      exact congrArg DomainSt.waiting (tgetD_tput_self ..)
    · exact (congrArg DomainSt.waiting (tgetD_tput_ne _ _ _ hde)).trans (hv e he)

theorem State.domainsOf_lt {d : Nat} (hk : k < 32) (h : d ∈ s.domainsOf k) : d < 98 := by
  unfold State.domainsOf at h
  split at h <;> simp at h <;> omega

/-- A load of pegs and of domains that wait for nothing: the pegs move, and the counts. -/
theorem State.load_moves (ps ds : List Nat) (hds : ∀ d ∈ ds, d < 98) (hnone : ∀ d < 98, (s.domainsAt d).waiting = []) :
    s.EntriesBut ((s.pegLoad ps).each ds (fun s d => s.domainLoad d)) [(0x40F0, 4), (0x40F0, 5)] ∧
      ((s.pegLoad ps).each ds (fun s d => s.domainLoad d)).mem = s.mem ∧
      ∀ p, ((s.pegLoad ps).each ds (fun s d => s.domainLoad d)).pegsAt p = (s.pegLoad ps).pegsAt p := by
  obtain ⟨hentries, hmem, hdomains⟩ := s.pegLoad_moves ps
  obtain ⟨hdict, hpegs, hmem'⟩ := (s.pegLoad ps).domainLoads_idle ds hds fun d hd => by
    exact (congrArg (fun l => (tgetD l ({} : DomainSt) d).waiting) hdomains).trans (hnone d hd)
  exact ⟨hentries.of_dict hdict, hmem'.trans hmem, fun p => congrArg (fun l => tgetD l ({} : PegSt) p) hpegs⟩

/-! ### PEG_LOAD -/

/-- The pegs of course `k` whose code has waited for 2 µs. -/
def State.pegsReady (s : State) (k : Nat) : List Nat :=
  allPegs.filter (fun p => s.pegCourse p == some k && decide ((s.pegsAt p).since + 2 * tUs ≤ s.clk.up))

/-- Whether the course of a peg is STOPPED, or it has none. -/
def State.pegIdle (s : State) (p : Nat) : Bool :=
  match s.pegCourse p with
  | some c => s.cst c == 0
  | none => true

theorem pegLoad_off (k : CourseId) (h : s.dst = 0 ∨ s.dst = 4) :
    exec (.pegLoad (some k)) s = .next s ∧ exec (.pegLoad none) s = .next s :=
  ⟨congrArg Host.Outcome.next (if_pos h), congrArg Host.Outcome.next (if_pos h)⟩

theorem pegLoad_course (k : CourseId) (hstart : s.dst ≠ 0) (hdown : s.dst ≠ 4) : exec (.pegLoad (some k)) s = .next (
    let u := s.pegsRefresh
    if u.cst k.val = 0 ∨ (u.captureLoadPending k.val = true ∧ u.turnHarmonic k.val = true) ∨
      (u.clk.slot : Rat) < u.loadInstant k.val then u
    else (u.pegLoad (u.pegsReady k.val)).each (u.domainsOf k.val) (fun s d => s.domainLoad d)) :=
  congrArg Host.Outcome.next (if_neg (by omega))

theorem pegLoad_idle (hstart : s.dst ≠ 0) (hdown : s.dst ≠ 4) : exec (.pegLoad none) s = .next (
    let u := s.pegsRefresh
    (u.pegLoad (allPegs.filter u.pegIdle)).each ((List.range 98).filter u.domainIdle) (fun s d => s.domainLoad d)) :=
  congrArg Host.Outcome.next (if_neg (by omega))

/-- What PEG_LOAD of a course leaves where no domain waits: the course's pegs that are ready take their codes. -/
theorem pegLoad_course_clause (k : CourseId) (p v : Nat) (hstart : s.dst ≠ 0) (hdown : s.dst ≠ 4)
    (hruns : s.cst k.val ≠ 0)
    (hcapture : s.pegsRefresh.captureLoadPending k.val = false ∨ s.turnHarmonic k.val = false)
    (hinstant : s.loadInstant k.val ≤ (s.clk.slot : Rat)) (hnone : ∀ d < 98, (s.domainsAt d).waiting = []) :
    Completes (.pegLoad (some k)) s (fun t => (s.EntriesBut t [(0x40F0, 4), (0x40F0, 5)] ∧ t.mem = s.mem) ∧
      (s.pegCourse p ≠ some k.val → t.pegsAt p = s.pegsRefresh.pegsAt p) ∧
      (p < 370 → s.pegCourse p = some k.val → (s.pegsRefresh.pegsAt p).shadow = some v → v ≤ 16383 →
        (s.clk.up < (s.pegsRefresh.pegsAt p).since + 2 * tUs → t.pegsAt p = s.pegsRefresh.pegsAt p) ∧
        ((s.pegsRefresh.pegsAt p).since + 2 * tUs ≤ s.clk.up →
          t.pegsAt p = (s.pegsRefresh.pegsAt p).loaded s.clk.slot v))) := by
  have hexec := pegLoad_course k hstart hdown
  dsimp only at hexec
  obtain ⟨g, hform⟩ : ∃ g, s.pegsRefresh = { s with pegs := g } := ⟨_, s.pegsRefresh_form⟩
  rw [hform] at hexec hcapture ⊢
  set u : State := { s with pegs := g } with hu
  have hready : ¬ (u.cst k.val = 0 ∨ (u.captureLoadPending k.val = true ∧ u.turnHarmonic k.val = true) ∨
      (u.clk.slot : Rat) < u.loadInstant k.val) := by
    rintro (h | ⟨h, h'⟩ | h)
    · exact hruns h
    · obtain hc | hc := hcapture
      · rw [hc] at h; exact absurd h (by decide)
      · exact absurd (h'.symm.trans hc) (by decide)
    · exact absurd hinstant (not_le.mpr h)
  rw [if_neg hready] at hexec
  obtain ⟨hentries, hmem, hpegs⟩ := u.load_moves (u.pegsReady k.val) (u.domainsOf k.val)
      (fun d hd => State.domainsOf_lt k.isLt hd) hnone
  refine ⟨_, hexec, ⟨hentries, hmem⟩, fun hother => ?_, fun hp hcourse hshadow _ => ⟨fun hyoung => ?_, fun hold => ?_⟩⟩
  · refine (hpegs p).trans (State.pegsAt_pegLoad_other fun h => hother ?_)
    have hmem := (List.mem_filter.mp (List.mem_filter.mp h).1).2
    simp only [Bool.and_eq_true, beq_iff_eq] at hmem
    exact hmem.1
  · refine (hpegs p).trans (State.pegsAt_pegLoad_other fun h => ?_)
    have hmem := (List.mem_filter.mp (List.mem_filter.mp h).1).2
    simp only [Bool.and_eq_true, decide_eq_true_eq] at hmem
    exact absurd hmem.2 (Nat.not_le.mpr hyoung)
  · refine (hpegs p).trans (State.pegsAt_pegLoad_due (List.mem_filter.mpr ⟨List.mem_range.mpr hp, ?_⟩)
      (List.nodup_range.filter _) hshadow)
    exact Bool.and_eq_true_iff.mpr ⟨beq_iff_eq.mpr hcourse, decide_eq_true hold⟩

/-- What PEG_LOAD leaves of a peg whose course is STOPPED, where no domain waits. -/
theorem pegLoad_idle_clause (p v : Nat) (hstart : s.dst ≠ 0) (hdown : s.dst ≠ 4) (hnone : ∀ d < 98,
    (s.domainsAt d).waiting = [])
    (hp : p < 370) (hidle : ∀ c, s.pegCourse p = some c → s.cst c = 0)
        (hshadow : (s.pegsRefresh.pegsAt p).shadow = some v) :
    Completes (.pegLoad none) s (fun t => (s.EntriesBut t [(0x40F0, 4), (0x40F0, 5)] ∧ t.mem = s.mem) ∧
      t.pegsAt p = (s.pegsRefresh.pegsAt p).loaded s.clk.slot v) := by
  have hexec := pegLoad_idle hstart hdown
  dsimp only at hexec
  obtain ⟨g, hform⟩ : ∃ g, s.pegsRefresh = { s with pegs := g } := ⟨_, s.pegsRefresh_form⟩
  rw [hform] at hexec hshadow ⊢
  set u : State := { s with pegs := g } with hu
  obtain ⟨hentries, hmem, hpegs⟩ := u.load_moves (allPegs.filter u.pegIdle) ((List.range 98).filter u.domainIdle)
    (fun d hd => List.mem_range.mp (List.mem_filter.mp hd).1) hnone
  have hstopped : u.pegIdle p = true := by
    change s.pegIdle p = true
    unfold State.pegIdle
    cases hc : s.pegCourse p with
    | none => rfl
    | some c => exact beq_iff_eq.mpr (hidle c hc)
  exact ⟨_, hexec, ⟨hentries, hmem⟩, (hpegs p).trans (State.pegsAt_pegLoad_due
    (List.mem_filter.mpr ⟨List.mem_range.mpr hp, hstopped⟩) (List.nodup_range.filter _) hshadow)⟩

end Sys2Proof.Machine

/-! PROOF. Tuning runs (R284, R412 to R417): requested, started, timed out and ended. -/

namespace Sys2Proof.Machine

variable {s : State} {k d : Nat}

theorem bit_withBit_ne {i j : Nat} (v : Nat) (b : Bool) (h : i ≠ j) : bit (withBit v i b) j = bit v j := by
  unfold withBit bit
  split
  · rw [Nat.testBit_or, Nat.testBit_two_pow_of_ne h, Bool.or_false]
  · split
    · next hbit =>
      have hodd : v / 2 ^ i % 2 = 1 := by
        rw [Nat.testBit_eq_decide_div_mod_eq] at hbit
        exact of_decide_eq_true hbit
      have hrest : v % 2 ^ i < 2 ^ i := Nat.mod_lt _ (Nat.two_pow_pos i)
      have hv : v = 2 ^ i * (v / 2 ^ i) + v % 2 ^ i := (Nat.div_add_mod ..).symm
      have hsub : v - 2 ^ i = 2 ^ i * (v / 2 ^ i - 1) + v % 2 ^ i := by
        have hle : 2 ^ i ≤ 2 ^ i * (v / 2 ^ i) := Nat.le_mul_of_pos_right _ (Nat.pos_of_ne_zero fun h => by simp [h] at hodd)
        rw [Nat.mul_sub, Nat.mul_one]
        omega
      rw [hsub, Nat.testBit_two_pow_mul_add _ hrest]
      conv_rhs => rw [hv, Nat.testBit_two_pow_mul_add _ hrest]
      split
      · rfl
      · obtain ⟨n, hn⟩ : ∃ n, j - i = n + 1 := ⟨j - i - 1, by omega⟩
        rw [hn, Nat.testBit_succ, Nat.testBit_succ]
        congr 1
        generalize v / 2 ^ i = q at *
        omega
    · rfl

theorem State.flag_setFlag_ne (s : State) {i b m n : Nat} (v : Bool) (h : m ≠ n) : (s.setFlag i b m v).flag i b n =
    s.flag i b n := by
  rw [State.flag, State.setFlag, State.nat_putN]
  exact bit_withBit_ne _ _ h

/-! ### The flags of a course's domains -/

theorem State.domainsOf_nodup (s : State) (hk : k < 32) : (s.domainsOf k).Nodup := by
  unfold State.domainsOf
  split
  · simp; omega
  · simp

theorem State.mem_domainsOf (s : State) (k : Nat) : k ∈ s.domainsOf k := List.mem_append_left _ List.mem_cons_self

/-- A write to domains changes their flags only. -/
theorem State.val_domainBit (s : State) (hk : k < 32) (i : Nat) (v : Bool) {j c : Nat} (hc : c < 256)
    (h : c ≠ 4 ∨ j < 0x4010 ∨ 0x4072 ≤ j) : (s.domainBit k i v).val j c = s.val j c := by
  refine State.each_invariant (P := fun u : State => u.val j c = s.val j c) (fun u d hd hu => ?_) rfl
  have hlt := State.domainsOf_lt hk hd
  exact (State.val_put_ne _ _ _ _ _ _ (dkey_ne hc (by decide) fun hj => by rcases h with h | h | h <;> omega)).trans hu

theorem State.nat_domainBit (s : State) (hk : k < 32) (i : Nat) (v : Bool) {j c : Nat} (hc : c < 256)
    (h : c ≠ 4 ∨ j < 0x4010 ∨ 0x4072 ≤ j) : (s.domainBit k i v).nat j c = s.nat j c :=
  congrArg (fun x => (valInt x).toNat) (s.val_domainBit hk i v hc h)

theorem State.domainBit_kept (s : State) (k i : Nat) (v : Bool) : (s.domainBit k i v).runs = s.runs ∧
    (s.domainBit k i v).mem = s.mem ∧ (s.domainBit k i v).fw = s.fw ∧ (s.domainBit k i v).clk = s.clk :=
  ⟨State.each_proj State.runs (f := fun s d => s.setFlag (0x4010 + d) 4 i v) (fun _ _ => rfl) s _,
    State.each_proj State.mem (f := fun s d => s.setFlag (0x4010 + d) 4 i v) (fun _ _ => rfl) s _,
    State.each_proj State.fw (f := fun s d => s.setFlag (0x4010 + d) 4 i v) (fun _ _ => rfl) s _,
    State.each_proj State.clk (f := fun s d => s.setFlag (0x4010 + d) 4 i v) (fun _ _ => rfl) s _⟩

theorem State.flag_domainBit (s : State) (hk : k < 32) (i : Nat) (v : Bool) (hd : d ∈ s.domainsOf k) :
    (s.domainBit k i v).flag (domIx d) 4 i = v := by
  refine State.each_at (P := fun _ => True) (R := fun u : State => u.flag (domIx d) 4 i = v) hd (s.domainsOf_nodup hk)
    (fun _ _ _ _ _ => trivial) (fun u _ => State.flag_setFlag ..) (fun u e _ hed hu => ?_) trivial
  refine (congrArg (bit · i) ?_).trans hu
  exact State.nat_setFlag_ne _ _ _ (dkey_ne (by decide) (by decide) fun h => by simp only [domIx] at h; omega)

theorem State.flag_domainBit_ne (s : State) (k : Nat) {i j : Nat} (v : Bool) (h : i ≠ j) :
    (s.domainBit k i v).flag (domIx d) 4 j = s.flag (domIx d) 4 j := by
  refine State.each_invariant (P := fun u : State => u.flag (domIx d) 4 j = s.flag (domIx d) 4 j) (fun u e _ hu => ?_)
      rfl
  by_cases hed : e = d
  · subst hed
    exact (State.flag_setFlag_ne u v h).trans hu
  · refine (congrArg (bit · j) ?_).trans hu
    exact State.nat_setFlag_ne _ _ _ (dkey_ne (by decide) (by decide) fun h => by simp only [domIx] at h; omega)

theorem State.domainsOf_domainBit (s : State) (hk : k < 32) (i : Nat) (v : Bool) : (s.domainBit k i v).domainsOf k =
    s.domainsOf k := by
  unfold State.domainsOf
  rw [s.nat_domainBit hk i v (by decide) (Or.inl (by decide))]

theorem State.runMay_domainBit (s : State) (hk : k < 32) (i : Nat) (v : Bool) : (s.domainBit k i v).runMay k = s.runMay
    k := by
  unfold State.runMay State.cst State.flag
  rw [s.nat_domainBit hk i v (by decide) (Or.inl (by decide)), s.nat_domainBit hk i v (by decide) (Or.inr (Or.inr (by decide))),
    (s.domainBit_kept k i v).2.2.1]

/-! ### A run requested -/

theorem State.runsAt_put_self (s : State) (k : Nat) (x : RunSt) : (s.runsPut k x).runsAt k = x := tgetD_tput_self ..

/-- The state of a course whose run is pending. -/
def State.runAsked (s : State) (k : Nat) : State := (s.runsPut k { pending := true, active := false }).domainBit k 1 true

theorem State.runAsked_shows (s : State) (hk : k < 32) : (s.runAsked k).runsAt k = { pending := true } ∧
    (s.runAsked k).runMay k = s.runMay k ∧ (s.runAsked k).flag (domIx k) 4 1 = true ∧ (s.runAsked k).mem = s.mem ∧
    (s.runAsked k).clk = s.clk := by
  obtain ⟨hruns, hmem, -, hclk⟩ := (s.runsPut k { pending := true, active := false }).domainBit_kept k 1 true
  refine ⟨?_, State.runMay_domainBit _ hk _ _, State.flag_domainBit _ hk _ _ (State.mem_domainsOf _ k), hmem, hclk⟩
  exact (congrArg (fun l => tgetD l ({} : RunSt) k) hruns).trans (State.runsAt_put_self ..)

theorem State.runRequest_new (hpending : (s.runsAt k).pending = false) (hactive : (s.runsAt k).active = false) :
    s.runRequest k = (s.runAsked k).runStart k := if_neg (by simp [hpending, hactive])

/-- A run that may begin is active at once, and one that may not is pending. -/
theorem State.runRequest_shows (hk : k < 32) (hpending : (s.runsAt k).pending = false)
    (hactive : (s.runsAt k).active = false) :
    (s.runMay k = true → (s.runRequest k).runsAt k = { active := true, phase := 1, probedAt := s.clk.up } ∧
      (s.runRequest k).flag (domIx k) 4 0 = true ∧ (s.runRequest k).mem = s.mem) ∧
    (s.runMay k = false → (s.runRequest k).runsAt k = { pending := true } ∧ (s.runRequest k).flag (domIx k) 4 1 = true ∧
      (s.runRequest k).mem = s.mem) := by
  obtain ⟨hasked, hmay, hflag, hmem, hclk⟩ := s.runAsked_shows hk
  rw [State.runRequest_new hpending hactive]
  generalize s.runAsked k = u at *
  refine ⟨fun h => ?_, fun h => ?_⟩
  · have hstart : u.runStart k = ((u.runsPut k { pending := false, active := true, phase := 1, probedAt := u.clk.up }).domainBit
        k 0 true).domainBit k 1 false := if_pos (by rw [hasked, hmay, h]; decide)
    rw [hstart, ← hclk, ← hmem]
    set v := u.runsPut k { pending := false, active := true, phase := 1, probedAt := u.clk.up } with hv
    obtain ⟨hruns1, hmem1, -, -⟩ := v.domainBit_kept k 0 true
    obtain ⟨hruns2, hmem2, -, -⟩ := (v.domainBit k 0 true).domainBit_kept k 1 false
    refine ⟨?_, ?_, hmem2.trans hmem1⟩
    · exact (congrArg (fun l => tgetD l ({} : RunSt) k) (hruns2.trans hruns1)).trans (State.runsAt_put_self ..)
    · exact (State.flag_domainBit_ne _ k false (by decide)).trans (State.flag_domainBit v hk 0 true (v.mem_domainsOf k))
  · have hwait : u.runStart k = u := if_neg (by rw [hasked, hmay, h]; decide)
    rw [hwait]
    exact ⟨hasked, hflag, hmem⟩

theorem runCommand_one (k : CourseId) (m : MasterId) (hrun : s.ozRuns = true) (hserve : s.serves 0x4000 = true) :
    exec (.runCommand m (1#32 <<< k.val)) s = .next
        ((s.runRequest k.val).answer 0x02 (writeItem 0x04 0x4000 1 4) stOk []) := by
  have hone : s.runCommand (1#32 <<< k.val).toNat = s.runRequest k.val := by
    unfold State.runCommand
    rw [bitsSet_course]
    rfl
  refine congrArg Host.Outcome.next ((State.hostWrite_served _ hrun hserve).trans ?_)
  rw [hone]

/-! ### A run that times out -/

theorem State.runAbort_active (h : (s.runsAt k).active = true) : s.runAbort k =
    (((s.runsPut k {}).domainBit k 0 false).domainBit k 4 true).each (s.domainsOf k)
        (fun s d => s.bump (0x4010 + d) 0x12) :=
  if_pos h

theorem State.runAbort_shows (hk : k < 32) (h : (s.runsAt k).active = true) : (s.runAbort k).runsAt k = {} ∧
    (s.runAbort k).flag (domIx k) 4 4 = true ∧
    (∀ d ∈ s.domainsOf k, (s.runAbort k).nat (domIx d) 0x12 = min (s.nat (domIx d) 0x12 + 1) 0xFFFFFFFF) ∧
    (s.runAbort k).mem = s.mem := by
  obtain ⟨hruns1, hmem1, -, -⟩ := (s.runsPut k {}).domainBit_kept k 0 false
  obtain ⟨hruns2, hmem2, -, -⟩ := ((s.runsPut k {}).domainBit k 0 false).domainBit_kept k 4 true
  have hflag := State.flag_domainBit ((s.runsPut k {}).domainBit k 0 false) hk 4 true (State.mem_domainsOf _ k)
  have hcount (e : Nat) : (((s.runsPut k {}).domainBit k 0 false).domainBit k 4 true).nat (domIx e) 0x12 = s.nat
      (domIx e) 0x12 :=
    (State.nat_domainBit _ hk _ _ (by decide) (Or.inl (by decide))).trans
      (State.nat_domainBit _ hk _ _ (by decide) (Or.inl (by decide)))
  rw [State.runAbort_active h]
  generalize ((s.runsPut k {}).domainBit k 0 false).domainBit k 4 true = u at *
  have hruns : (u.each (s.domainsOf k) (fun s d => s.bump (0x4010 + d) 0x12)).runs = u.runs :=
    State.each_proj State.runs (f := fun s d => s.bump (0x4010 + d) 0x12) (fun _ _ => rfl) u _
  have hmem : (u.each (s.domainsOf k) (fun s d => s.bump (0x4010 + d) 0x12)).mem = u.mem :=
    State.each_proj State.mem (f := fun s d => s.bump (0x4010 + d) 0x12) (fun _ _ => rfl) u _
  refine ⟨?_, ?_, fun d hd => ?_, hmem.trans (hmem2.trans hmem1)⟩
  · exact (congrArg (fun l => tgetD l ({} : RunSt) k) (hruns.trans (hruns2.trans hruns1))).trans
      (State.runsAt_put_self ..)
  · refine State.each_invariant (P := fun v : State => v.flag (domIx k) 4 4 = true) (fun v e _ hv => ?_) hflag
    exact (congrArg (bit · 4) (State.nat_bump_ne v (dkey_ne (by decide) (by decide) fun _ => by decide))).trans hv
  · refine State.each_at (P := fun v : State => v.nat (domIx d) 0x12 = s.nat (domIx d) 0x12)
      (R := fun v : State => v.nat (domIx d) 0x12 = min (s.nat (domIx d) 0x12 + 1) 0xFFFFFFFF) hd (s.domainsOf_nodup hk)
      (fun v e _ hed hv => ?_) (fun v hv => ?_) (fun v e _ hed hv => ?_) (hcount d)
    · exact (State.nat_bump_ne v (dkey_ne (by decide) (by decide) fun h => by simp only [domIx] at h; omega)).trans hv
    · exact (State.nat_bump v ..).trans (by rw [← hv]; rfl)
    · exact (State.nat_bump_ne v (dkey_ne (by decide) (by decide) fun h => by simp only [domIx] at h; omega)).trans hv

end Sys2Proof.Machine

/-! PROOF. A tuning run ends (R414 to R416): what its points and the values they bring leave alone. -/

namespace Sys2Proof.Machine

variable {s t : State} {k d : Nat}

/-- Entries that neither a point's summary nor a value that a domain brings at a frame can be: of no lane and no mirror,
    and of a domain neither its flags nor its temperature. -/
def Untuned (i b : Nat) : Prop := b < 256 ∧ 0x2200 ≤ i ∧ (i < 0x3150 ∨ 0x316F < i) ∧ (0x4010 ≤ i → b ≠ 4 ∧ b ≠ 6)

/-- Every untuned entry holds what it did. -/
def State.UntunedKept (s t : State) : Prop := ∀ i b, Untuned i b → t.val i b = s.val i b

theorem State.UntunedKept.refl (s : State) : s.UntunedKept s := fun _ _ _ => rfl

theorem State.UntunedKept.trans {u : State} (h : s.UntunedKept t) (g : t.UntunedKept u) : s.UntunedKept u :=
  fun i b hib => (g i b hib).trans (h i b hib)

theorem State.UntunedKept.of_dict {u : State} (h : s.UntunedKept t) (hd : u.dict = t.dict) : s.UntunedKept u :=
  fun i b hib => (congrArg (fun d => tgetD d (dfltOf i b) (dkey i b)) hd).trans (h i b hib)

theorem State.UntunedKept.put (h : s.UntunedKept t) {i b : Nat} (hb : b < 256) (hout : ¬ Untuned i b) (v : Val) :
    s.UntunedKept (t.put i b v) := fun j c hjc =>
  (State.val_put_ne _ _ _ _ _ _ (dkey_ne hjc.1 hb fun hj hc => hout (by rw [← hj, ← hc]; exact hjc))).trans (h j c hjc)

theorem not_untuned_domain {b : Nat} (hb : b = 4 ∨ b = 6) (d : Nat) : ¬ Untuned (domIx d) b := fun h => by
  have := h.2.2.2 (show 0x4010 ≤ domIx d by simp only [domIx]; omega)
  omega

theorem State.untunedKept_putCommitted (s : State) {i b : Nat} (hb : b < 256) (hout : ¬ Untuned i b) (v : Val) :
    s.UntunedKept (s.putCommitted i b v) := by
  unfold State.putCommitted
  split
  · exact .refl s
  · exact ((State.UntunedKept.refl s).put hb hout v).of_dict rfl

/-- A value that a domain brings at a frame is of a lane or of a mirror. -/
theorem State.untunedKept_setLiveOf (s : State) {key : Nat} (h : atFrameKey key = true) (v : Val) :
    s.UntunedKept (s.setLiveOf key v) := by
  have hframe : key / 256 < 0x2200 ∨ 0x3150 ≤ key / 256 ∧ key / 256 ≤ 0x316F := by
    simpa [atFrameKey] using h
  have hout : ¬ Untuned (key / 256) (key % 256) := fun hu => by
    obtain ⟨-, hlow, hrange, -⟩ := hu
    omega
  have hlive : s.setLiveOf key v = s.putLive (key / 256) (key % 256) v := if_neg (by omega)
  rw [hlive]
  unfold State.putLive
  split
  · split
    · exact s.untunedKept_putCommitted (Nat.mod_lt _ (by decide)) hout v
    · exact (State.UntunedKept.refl s).put (Nat.mod_lt _ (by decide)) hout v
  · exact .refl s

theorem State.untunedKept_domainFrame (s : State) (d k : Nat) : s.UntunedKept (s.domainFrame d k) := by
  have hdue (l : List (Nat × Val)) (u : State) (hl : ∀ p ∈ l, atFrameKey p.1 = true) (hu : s.UntunedKept u) :
      s.UntunedKept (l.foldl (fun s p => s.setLiveOf p.1 p.2) u) := by
    induction l generalizing u with
    | nil => exact hu
    | cons p l ih =>
      exact ih _ (fun q hq => hl q (List.mem_cons_of_mem _ hq))
          (hu.trans (u.untunedKept_setLiveOf (hl p List.mem_cons_self) p.2))
  have hflag (u : State) (v : Bool) (hu : s.UntunedKept u) : s.UntunedKept (u.setFlag (domIx d) 4 5 v) :=
    hu.put (by decide) (not_untuned_domain (Or.inl rfl) d) _
  have hbase (x : DomainSt) : s.UntunedKept (s.domainsPut d x) := (State.UntunedKept.refl s).of_dict rfl
  unfold State.domainFrame
  dsimp only
  generalize hx : ({ s.domainsAt d with waiting := _, late := _ } : DomainSt) = x
  refine State.UntunedKept.of_dict ?_ rfl
  split
  · exact hbase x
  · split
    · exact hflag _ _ (hdue _ _ (fun p hp => (List.mem_filter.mp hp).2) (hbase x))
    · exact hflag _ _ (hbase x)

theorem State.untunedKept_valuesTaken (s : State) (d : Nat) (t : Rat) (all : List (Nat × Val)) :
    s.UntunedKept (s.valuesTaken d t all) := by
  have htaken (x : DomainSt) : s.UntunedKept (s.domainsPut d x).pegsRefresh :=
    ((State.UntunedKept.refl s).of_dict rfl).of_dict (State.dict_pegsRefresh _)
  unfold State.valuesTaken
  dsimp only
  generalize (if (s.domainCourse d).any (fun k => (s.frmAt k).fenced && s.cst k != 0) = true then _ else _ : DomainSt)
      = x
  split
  · split
    · exact (htaken x).trans (State.untunedKept_domainFrame _ _ _)
    · exact htaken x
  · exact htaken x

/-- Evaluating a domain touches its summary and the values it brings. -/
theorem State.untunedKept_evaluate (s : State) (d : Nat) : s.UntunedKept (s.evaluate d) := by
  by_cases hrun : (s.domainCourse d).any (fun k => (s.runsAt k).active) = true
  · rw [State.evaluate, if_pos hrun]
    exact .refl s
  · obtain ⟨t, heval⟩ := State.evaluate_eq s d (by simpa using hrun)
    have hshown : s.UntunedKept (s.evaluated d t) := by
      refine State.UntunedKept.put
          (State.UntunedKept.put (State.UntunedKept.put (State.UntunedKept.of_dict (.refl s) rfl) ?_ ?_ _)
        ?_ ?_ _) ?_ ?_ _
      · decide
      · exact not_untuned_domain (Or.inr rfl) d
      · decide
      · exact not_untuned_domain (Or.inl rfl) d
      · decide
      · exact not_untuned_domain (Or.inl rfl) d
    rw [heval]
    generalize s.evaluated d t = u at *
    refine hshown.trans ?_
    exact State.untunedKept_valuesTaken _ _ _ _

/-! ### The count of runs -/

/-- An entry apart from the count of runs. -/
theorem State.runCount_put {i b : Nat} (h : dkey i b ≠ dkey 0x4000 7) (s : State) (v : Val) :
    (s.put i b v).nat 0x4000 7 = s.nat 0x4000 7 := congrArg (fun x => (valInt x).toNat) (State.val_put_ne _ _ _ _ _ _ h)

theorem State.runCount_putRP {i b : Nat} (h : dkey i b ≠ dkey 0x4000 7) (s : State) (v : Val) :
    (s.putRP i b v).nat 0x4000 7 = s.nat 0x4000 7 := by
  unfold State.putRP
  split
  · rfl
  · split
    · rfl
    · exact State.runCount_put h s v

theorem State.UntunedKept.runCount (h : s.UntunedKept t) : t.nat 0x4000 7 = s.nat 0x4000 7 :=
  congrArg (fun x => (valInt x).toNat) (h 0x4000 7 ⟨by decide, by decide, by decide, fun h => absurd h (by decide)⟩)

theorem State.runCount_pointApplied (s : State) (d i : Nat) (b : List Byte) :
    (s.pointApplied d i b).nat 0x4000 7 = s.nat 0x4000 7 := by
  have hkey (c : Nat) : dkey (domIx d) c ≠ dkey 0x4000 7 := by
    unfold dkey domIx
    omega
  have hinput : dkey (0x2820 + (d - 64)) 5 ≠ dkey 0x4000 7 := by
    unfold dkey
    omega
  have hdelay (u : State) (rs : List (Nat × Nat × Nat)) : (u.delayKnown d rs).nat 0x4000 7 = u.nat 0x4000 7 := by
    unfold State.delayKnown
    split
    · exact State.runCount_putRP hinput u _
    · rfl
  unfold State.pointApplied
  dsimp only
  rw [(State.untunedKept_evaluate _ d).runCount, hdelay]
  have hfirst (v : Val) (n : Nat) : ((s.putRP (domIx d) (0x0A + i) v).putN (domIx d) 5 n).nat 0x4000 7 = s.nat 0x4000 7
      :=
    (State.runCount_put (hkey 5) _ _).trans (State.runCount_putRP (hkey _) s v)
  split
  · exact hfirst _ _
  · refine (State.runCount_put (hkey 9) _ _).trans
      ((State.runCount_put (hkey 8) _ _).trans ((State.runCount_put (hkey 7) _ _).trans ?_))
    exact hfirst _ _

theorem State.runCount_runPoint (s : State) (d : Nat) (t : Rat) (ms : List Measured) :
    (s.runPoint d t ms).nat 0x4000 7 = s.nat 0x4000 7 := by
  unfold State.runPoint
  dsimp only
  split
  · rfl
  · exact State.runCount_pointApplied ..

theorem State.runCount_domainBit (s : State) (k i : Nat) (v : Bool) : (s.domainBit k i v).nat 0x4000 7 = s.nat 0x4000 7
    :=
  State.each_proj (fun u : State => u.nat 0x4000 7) (f := fun s d => s.setFlag (0x4010 + d) 4 i v)
    (fun u d => State.runCount_put (by unfold dkey; omega) u _) s _

theorem State.runCount_runStart (s : State) (k : Nat) : (s.runStart k).nat 0x4000 7 = s.nat 0x4000 7 := by
  unfold State.runStart
  split
  · exact (State.runCount_domainBit ..).trans (State.runCount_domainBit ..)
  · rfl

theorem State.runCount_runRequest (s : State) (k : Nat) : (s.runRequest k).nat 0x4000 7 = s.nat 0x4000 7 := by
  unfold State.runRequest
  split
  · rfl
  · exact (State.runCount_runStart ..).trans (State.runCount_domainBit ..)

theorem State.runCount_runCheck (s : State) (d : Nat) : (s.runCheck d).nat 0x4000 7 = s.nat 0x4000 7 := by
  unfold State.runCheck
  split
  · split
    · exact State.runCount_runRequest ..
    · rfl
  · rfl

/-- The state of a course whose run is over. -/
def State.runOver (s : State) (k : Nat) : State := ((s.runsPut k {}).domainBit k 0 false).domainBit k 4 false

/-- A run that ends is counted. -/
theorem State.runCount_runEnd (s : State) (k : Nat) : (s.runEnd k).nat 0x4000 7 = min (s.nat 0x4000 7 + 1) 0xFFFFFFFF
    := by
  have hpoints (l : List (Nat × Rat)) (u : State) :
      (l.foldl (fun v p => v.runPoint p.1 p.2 (s.runsAt k).measured) u).nat 0x4000 7 = u.nat 0x4000 7 := by
    induction l generalizing u with
    | nil => rfl
    | cons p l ih => exact (ih _).trans (State.runCount_runPoint ..)
  have hover : (s.runOver k).nat 0x4000 7 = s.nat 0x4000 7 := (State.runCount_domainBit ..).trans
      (State.runCount_domainBit ..)
  have hchecks (l : List Nat) (u : State) : (u.each l (fun s d => (s.evaluate d).runCheck d)).nat 0x4000 7 = u.nat
      0x4000 7 :=
    State.each_proj (fun u : State => u.nat 0x4000 7) (f := fun s d => (s.evaluate d).runCheck d)
      (fun u d => (State.runCount_runCheck ..).trans (State.untunedKept_evaluate u d).runCount) u l
  refine (hchecks _ _).trans ((State.nat_bump ..).trans ?_)
  have hkept := (hpoints ((s.domainsOf k).map (fun d => (d, s.runMean k d))) (s.runOver k)).trans hover
  exact congrArg (fun n => min (n + 1) 0xFFFFFFFF) hkept

/-! ### A run without measurements -/

/-- A domain's points are untuned entries. -/
theorem State.UntunedKept.points (h : s.UntunedKept t) (d : Nat) : t.points d = s.points d := by
  unfold State.points
  congr 1
  refine List.map_congr_left fun i hi => ?_
  have hi := List.mem_range.mp hi
  refine congrArg valBytes (h _ _ ⟨by omega, ?_, ?_, fun _ => by omega⟩) <;> simp only [domIx] <;> omega

theorem State.runPoint_nothing (hpoints : s.points d = []) (t : Rat) : s.runPoint d t [] = s := by
  have hpairs : s.pairsOf d = [] := by
    unfold State.pairsOf
    rw [hpoints]
    rfl
  have hrecords : s.runRecords d t [] = [] := by
    unfold State.runRecords
    rw [hpairs]
    rfl
  unfold State.runPoint
  simp [hrecords]

theorem State.runCheck_nothing (hpoints : s.points d = []) : s.runCheck d = s := by
  unfold State.runCheck
  split
  · exact if_neg (by simp [hpoints])
  · rfl

theorem State.runs_setLiveOf (s : State) (key : Nat) (v : Val) : (s.setLiveOf key v).runs = s.runs := by
  by_cases h : 2 ^ 24 ≤ key
  · have hdelays (b : List Byte) : (s.putB 0x40F0 3 b).runs = s.runs := rfl
    rw [State.setLiveOf, if_pos h]
    exact hdelays _
  · rw [State.setLiveOf, if_neg h]
    unfold State.putLive State.putCommitted
    split
    · split
      · split <;> rfl
      · rfl
    · rfl

theorem State.runs_domainFrame (s : State) (d k : Nat) : (s.domainFrame d k).runs = s.runs := by
  have hdue (l : List (Nat × Val)) (u : State) : (l.foldl (fun s p => s.setLiveOf p.1 p.2) u).runs = u.runs := by
    induction l generalizing u with
    | nil => rfl
    | cons p l ih => exact (ih _).trans (u.runs_setLiveOf p.1 p.2)
  unfold State.domainFrame
  dsimp only
  split
  · rfl
  · split
    · exact hdue _ (s.domainsPut d _)
    · rfl

theorem State.runs_valuesTaken (s : State) (d : Nat) (t : Rat) (all : List (Nat × Val)) :
    (s.valuesTaken d t all).runs = s.runs := by
  have htaken (x : DomainSt) : (s.domainsPut d x).pegsRefresh.runs = s.runs := by
    rw [State.pegsRefresh_form]
    rfl
  unfold State.valuesTaken
  dsimp only
  generalize (if (s.domainCourse d).any (fun k => (s.frmAt k).fenced && s.cst k != 0) = true then _ else _ : DomainSt)
      = x
  split
  · split
    · exact (State.runs_domainFrame _ _ _).trans (htaken x)
    · exact htaken x
  · exact htaken x

theorem State.runs_evaluate (s : State) (d : Nat) : (s.evaluate d).runs = s.runs := by
  by_cases hrun : (s.domainCourse d).any (fun k => (s.runsAt k).active) = true
  · rw [State.evaluate, if_pos hrun]
  · obtain ⟨t, heval⟩ := State.evaluate_eq s d (by simpa using hrun)
    rw [heval]
    exact State.runs_valuesTaken (s.evaluated d t) d t _

theorem State.points_counted (s : State) (d : Nat) : (s.bump 0x4000 7).points d = s.points d := by
  have hval (b : Nat) : (s.bump 0x4000 7).val (domIx d) b = s.val (domIx d) b := by
    refine s.entriesBut_bump 0x4000 7 (domIx d) b ?_
    simp only [List.mem_singleton, forall_eq]
    unfold dkey domIx
    omega
  have hblob (b : Nat) : (s.bump 0x4000 7).blob (domIx d) b = s.blob (domIx d) b := congrArg valBytes (hval b)
  unfold State.points
  simp only [hblob]

/-- A run that measured nothing, of domains that hold no points, leaves none. -/
theorem State.runsAt_runEnd_nothing (hk : k < 32) (hmeasured : (s.runsAt k).measured = [])
    (hpoints : ∀ d ∈ s.domainsOf k, s.points d = []) : (s.runEnd k).runsAt k = {} := by
  have hover : ∀ d ∈ s.domainsOf k, (s.runOver k).points d = [] := fun d hd => by
    have hblob (b : Nat) (hb : b < 256 ∧ b ≠ 4) : (s.runOver k).blob (domIx d) b = s.blob (domIx d) b :=
      congrArg valBytes ((State.val_domainBit _ hk _ _ hb.1 (Or.inl hb.2)).trans
        (State.val_domainBit (s.runsPut k {}) hk _ _ hb.1 (Or.inl hb.2)))
    refine Eq.trans (congrArg (List.filterMap _) (List.map_congr_left fun i hi => hblob _ ?_)) (hpoints d hd)
    have := List.mem_range.mp hi
    omega
  have hempty : (s.runOver k).runsAt k = {} :=
    (congrArg (fun l => tgetD l ({} : RunSt) k) ((State.domainBit_kept ..).1.trans (State.domainBit_kept ..).1)).trans
      (State.runsAt_put_self s k {})
  have hfold (l : List (Nat × Rat)) (u : State) (hl : ∀ p ∈ l, u.points p.1 = []) :
      l.foldl (fun v p => v.runPoint p.1 p.2 []) u = u := by
    induction l generalizing u with
    | nil => rfl
    | cons p l ih =>
      rw [List.foldl_cons, State.runPoint_nothing (hl p List.mem_cons_self)]
      exact ih u fun q hq => hl q (List.mem_cons_of_mem _ hq)
  have hend : s.runEnd k = ((s.runOver k).bump 0x4000 7).each (s.domainsOf k) (fun s d => (s.evaluate d).runCheck d) :=
      by
    have hnone := hfold ((s.domainsOf k).map (fun d => (d, s.runMean k d))) (s.runOver k) fun p hp => by
      obtain ⟨d, hd, rfl⟩ := List.mem_map.mp hp
      exact hover d hd
    have hdef : s.runEnd k = ((((s.domainsOf k).map (fun d => (d, s.runMean k d))).foldl (fun v p =>
      v.runPoint p.1 p.2 (s.runsAt k).measured) (s.runOver k)).bump 0x4000 7).each (s.domainsOf k)
        (fun s d => (s.evaluate d).runCheck d) := rfl
    rw [hdef, hmeasured, hnone]
  have hstart : ∀ d ∈ s.domainsOf k, ((s.runOver k).bump 0x4000 7).points d = [] := fun d hd => by
    rw [State.points_counted]
    exact hover d hd
  have hcounted (u : State) : (u.bump 0x4000 7).runsAt k = u.runsAt k := rfl
  have hempty' : ((s.runOver k).bump 0x4000 7).runsAt k = {} := by rw [hcounted, hempty]
  rw [hend]
  generalize (s.runOver k).bump 0x4000 7 = v at *
  refine (State.each_invariant (f := fun s d => (s.evaluate d).runCheck d)
    (P := fun u : State => u.runsAt k = {} ∧ ∀ d ∈ s.domainsOf k, u.points d = []) (fun u d hd hu => ?_)
    ⟨hempty', hstart⟩).1
  have hpoint (e : Nat) : (u.evaluate d).points e = u.points e := (State.untunedKept_evaluate u d).points e
  rw [State.runCheck_nothing ((hpoint d).trans (hu.2 d hd))]
  exact ⟨(congrArg (fun l => tgetD l ({} : RunSt) k) (u.runs_evaluate d)).trans hu.1,
      fun e he => (hpoint e).trans (hu.2 e he)⟩

end Sys2Proof.Machine

namespace Sys2Proof.Proofs
open Sys2Proof Sys2Proof.Machine

/-- Settles O48: a peg's load for a course and for stopped courses, and the commands of a run. -/
theorem pegsLoadAndTuningRuns : Obligations.PegsLoadAndTuningRuns := by
  unfold Obligations.PegsLoadAndTuningRuns
  refine ⟨fun k p v s => ⟨pegLoad_off k, fun hstart hdown => ⟨fun hstays => ?_, fun hruns hcapture hinstant hnone => ?_,
    fun hnone hp hidle hshadow _ => ?_⟩⟩, fun k m points values s => ⟨fun hrun hserve hpending hactive => ?_,
        fun hoff => ⟨?_, ?_, ?_⟩,
      fun hactive hmay => ⟨fun hnot => ?_, fun hphase => ?_⟩, fun hactive hlit hhold => ?_, fun hactive hmay =>
          ⟨fun hlate => ?_, fun hearly => ?_⟩⟩⟩
  · rw [pegLoad_course k hstart hdown]
    obtain ⟨g, hform⟩ : ∃ g, s.pegsRefresh = { s with pegs := g } := ⟨_, s.pegsRefresh_form⟩
    rw [hform] at hstays ⊢
    exact congrArg Host.Outcome.next (if_pos hstays)
  · exact pegLoad_course_clause k p v hstart hdown hruns hcapture hinstant hnone
  · exact pegLoad_idle_clause p v hstart hdown hnone hp hidle hshadow
  · obtain ⟨hnow, hlater⟩ := State.runRequest_shows k.isLt hpending hactive
    exact ⟨fun h => ⟨_, runCommand_one k m hrun hserve, hnow h⟩, fun h => ⟨_, runCommand_one k m hrun hserve, hlater h⟩⟩
  · exact congrArg Host.Outcome.next (if_neg (by simp [hoff]))
  · exact congrArg Host.Outcome.next (if_neg (by simp [hoff]))
  · exact congrArg Host.Outcome.next (if_neg (by simp [hoff]))
  · refine congrArg Host.Outcome.next (if_neg ?_)
    rintro ⟨-, -, hphase, hpoints, hvalues⟩
    exact hnot.elim (· hphase) (Or.elim · (· hpoints) (· hvalues))
  · exact ⟨_, congrArg Host.Outcome.next (if_pos ⟨hactive, hmay, hphase, rfl, rfl⟩), s.runCount_runEnd k.val,
      State.runsAt_runEnd_nothing k.isLt⟩
  · exact ⟨_, congrArg Host.Outcome.next (if_pos ⟨hactive, hlit, hhold⟩), State.runAbort_shows k.isLt hactive⟩
  · exact congrArg Host.Outcome.next (if_pos ⟨hactive, hmay, hlate⟩)
  · exact congrArg Host.Outcome.next (if_neg (by omega))

end Sys2Proof.Proofs

/-! PROOF. The entries that a loop's step and a mirror's start write. -/

namespace Sys2Proof.Machine

open Sys2Proof

section

variable {L : List Place} {D : Tab Val}

@[simp] theorem State.writes_convertDac (h : [.column 0x3110 7, .column 0x3110 8] ⊆ L) (s : State) (c : Nat) :
    DictIn L D (s.convertDac c).dict ↔ DictIn L D s.dict := by
  simp_all [State.convertDac, State.putI, dictIn_column 0x3110, dictIn_each]

@[simp] theorem State.writes_refreshDac (h : [.column 0x3110 7, .column 0x3110 8] ⊆ L) (s : State) (i : Nat) :
    DictIn L D (s.refreshDac i).dict ↔ DictIn L D s.dict := by
  unfold State.refreshDac
  split <;> simp_all

@[simp] theorem State.writes_setDrive (h : [.column 0x3150 5] ⊆ L) (s : State) (k : Nat) (a : Int) :
    DictIn L D (s.setDrive k a).dict ↔ DictIn L D s.dict := by
  simp_all [State.setDrive, State.putF, dictIn_column 0x3150]

@[simp] theorem State.writes_writeOut (h : [.column 0x3000 0x21, .column 0x3110 7, .column 0x3110 8,
    .column 0x3150 5] ⊆ L) (s : State) (i : Nat) (o : Int) :
    DictIn L D (s.writeOut i o).dict ↔ DictIn L D s.dict := by
  simp_all [State.writeOut, State.putI, dictIn_column 0x3000, slotIx]

@[simp] theorem State.writes_slotOff (h : [.column 0x3000 1, .column 0x3000 0x20, .column 0x3000 0x21,
    .column 0x3000 0x23, .column 0x3110 7, .column 0x3110 8, .column 0x3150 5] ⊆ L) (s : State) (i : Nat) :
    DictIn L D (s.slotOff i).dict ↔ DictIn L D s.dict := by
  simp_all [State.slotOff, State.putN, State.putI, dictIn_column 0x3000, slotIx]

@[simp] theorem State.writes_stopRampEnd (h : [.column 0x3000 1, .column 0x3000 0x20, .column 0x3000 0x21,
    .column 0x3000 0x23, .column 0x3000 0x28, .column 0x3110 7, .column 0x3110 8, .column 0x3150 5, .column 0x3150 9,
    .entry 0x3100 1, .entry 0x3100 0x10] ⊆ L) (s : State) (k : Nat) :
    DictIn L D (s.stopRampEnd k).dict ↔ DictIn L D s.dict := by
  simp_all [State.stopRampEnd, State.putN, dictIn_column 0x3150]

@[simp] theorem State.writes_setFreq (h : [.column 0x3150 1] ⊆ L) (s : State) (k : Nat) (f : Rat) :
    DictIn L D (s.setFreq k f).dict ↔ DictIn L D s.dict := by
  simp_all [State.setFreq, State.putF, dictIn_column 0x3150]

@[simp] theorem State.writes_trackPhase (h : [.column 0x1220 0x14, .column 0x3150 1] ⊆ L) (s : State) (k : Nat) :
    DictIn L D (s.trackPhase k).dict ↔ DictIn L D s.dict := by
  simp_all [State.trackPhase, State.putI, dictIn_column 0x1220, refIx]

@[simp] theorem State.writes_setAdmitted (h : [.column 0x1220 0x13] ⊆ L) (s : State) (k : Nat) (ok : Bool) :
    DictIn L D (s.setAdmitted k ok).dict ↔ DictIn L D s.dict := by
  simp_all [State.setAdmitted, State.putN, dictIn_column 0x1220, refIx]

@[simp] theorem State.writes_followG0 (h : [.column 0x3150 0x1B] ⊆ L) (s : State) (k : Nat) :
    DictIn L D (s.followG0 k).dict ↔ DictIn L D s.dict := by
  simp_all [State.followG0, State.putF, dictIn_column 0x3150]

@[simp] theorem State.dict_takeFree (s : State) :
    s.takeFree.dict = s.dict := rfl

@[simp] theorem State.writes_setTracker (h : [.column 0x3150 9] ⊆ L) (s : State) (k st : Nat) :
    DictIn L D (s.setTracker k st).dict ↔ DictIn L D s.dict := by
  simp_all [State.setTracker, State.putN, dictIn_column 0x3150]

@[simp] theorem State.writes_trackFree (h : [.column 0x3150 1, .column 0x3150 9] ⊆ L) (s : State) (k : Nat) (lag : Rat)
    :
    DictIn L D (s.trackFree k lag).dict ↔ DictIn L D s.dict := by
  simp_all [State.trackFree]

@[simp] theorem State.dict_evalP3 (s : State) (k : Nat) (lag : Rat) :
    (s.evalP3 k lag).dict = s.dict := rfl

@[simp] theorem State.writes_track (h : [.column 0x1220 0x14, .column 0x2200 3, .column 0x3150 1, .column 0x3150 2,
    .column 0x3150 6, .column 0x3150 9, .column 0x3150 0x1B] ⊆ L) (s : State) (k : Nat) (lag : Rat) :
    DictIn L D (s.track k lag).dict ↔ DictIn L D s.dict := by
  unfold State.track
  dsimp only
  split <;> simp_all [State.putF, dictIn_column 0x3150]

@[simp] theorem State.writes_chirp (h : [.column 0x3150 1] ⊆ L) (s : State) (k : Nat) (f low : Rat) :
    DictIn L D (s.chirp k f low).dict ↔ DictIn L D s.dict := by
  simp_all [State.chirp]

@[simp] theorem State.writes_excite (h : [.column 0x3110 7, .column 0x3110 8, .column 0x3150 1, .column 0x3150 5,
    .column 0x3150 9, .column 0x3150 0x18] ⊆ L) (s : State) (k : Nat) :
    DictIn L D (s.excite k).dict ↔ DictIn L D s.dict := by
  simp_all [State.excite, State.bump, State.addSat, State.putN, dictIn_column 0x3150, crs]

@[simp] theorem State.writes_decideAdmission (h : [.column 0x1220 0x13] ⊆ L) (s : State) (k : Nat) (anew : Bool) :
    DictIn L D (s.decideAdmission k anew).dict ↔ DictIn L D s.dict := by
  simp_all [State.decideAdmission, refIx]

@[simp] theorem State.writes_showPool (h : [.entry 0x3100 4] ⊆ L) (s : State) :
    DictIn L D s.showPool.dict ↔ DictIn L D s.dict := by
  simp_all [State.showPool, State.putN]

@[simp] theorem State.writes_moveSlot (h : [.column 0x3000 0x29, .entry 0x3100 4, .entry 0x3100 6, .entry 0x7000 7,
    .entry 0x7000 9] ⊆ L) (s : State) (i p : Nat) :
    DictIn L D (s.moveSlot i p).dict ↔ DictIn L D s.dict := by
  simp_all [State.moveSlot, State.putN, State.bump, State.addSat, dictIn_column 0x3000, slotIx]

@[simp] theorem State.writes_takeMove (h : [.column 0x3000 0x29, .entry 0x3100 4, .entry 0x3100 6, .entry 0x7000 7,
    .entry 0x7000 9] ⊆ L) (s : State) (i : Nat) :
    DictIn L D (s.takeMove i).dict ↔ DictIn L D s.dict := by
  unfold State.takeMove
  split <;> simp_all

@[simp] theorem State.writes_takeDest (h : [.column 0x3110 7, .column 0x3110 8] ⊆ L) (s : State) (i : Nat) :
    DictIn L D (s.takeDest i).dict ↔ DictIn L D s.dict := by
  unfold State.takeDest
  dsimp only
  (repeat' split) <;> simp_all [slotIx]

@[simp] theorem State.writes_takeManual (h : [.column 0x3000 0x18] ⊆ L) (s : State) (i : Nat) :
    DictIn L D (s.takeManual i).dict ↔ DictIn L D s.dict := by
  simp_all [State.takeManual, State.putI, dictIn_column 0x3000, slotIx]

@[simp] theorem State.writes_boundary (h : [.column 0x3000 0x18, .column 0x3000 0x29, .column 0x3110 7,
    .column 0x3110 8, .entry 0x3100 4, .entry 0x3100 6, .entry 0x7000 7, .entry 0x7000 9] ⊆ L) (s : State) (i : Nat) :
    DictIn L D (s.boundary i).dict ↔ DictIn L D s.dict := by
  simp_all [State.boundary]

@[simp] theorem State.dict_slowWindow (s : State) (i : Nat) :
    (s.slowWindow i).dict = s.dict := by
  unfold State.slowWindow
  split <;> rfl

@[simp] theorem State.writes_showChecks (h : [.column 0x3150 0x17] ⊆ L) (s : State) (i : Nat) (chk sat : Bool) :
    DictIn L D (s.showChecks i chk sat).dict ↔ DictIn L D s.dict := by
  simp_all [State.showChecks, State.setFlag, State.putN, dictIn_column 0x3150]

@[simp] theorem State.writes_supervise (h : [.column 0x2200 1, .column 0x2200 2, .column 0x2200 3, .column 0x2680 0xF,
    .column 0x2680 0x10, .column 0x3000 0x23, .column 0x3000 0x27, .column 0x3150 0x17, .column 0x4010 4, .column
    0x7020 5, .entry 0x4200 1] ⊆ L) (s : State) (i : Nat) (spOk : Bool) :
    DictIn L D (s.supervise i spOk).dict ↔ DictIn L D s.dict := by
  simp_all [State.supervise, slotIx]

@[simp] theorem State.dict_actNow (s : State) (i : Nat) (o : Int) :
    (s.actNow i o).dict = s.dict := by
  unfold State.actNow
  split <;> rfl

@[simp] theorem State.writes_storeStep (h : [.column 0x3000 0x1D, .column 0x3000 0x1E, .column 0x3000 0x1F,
    .column 0x3000 0x20, .column 0x3000 0x22, .column 0x3000 0x24, .column 0x3000
    0x25] ⊆ L) (s : State) (i mode : Nat) (x : Int) (r : LoopRes) :
    DictIn L D (s.storeStep i mode x r).dict ↔ DictIn L D s.dict := by
  simp_all [State.storeStep, State.putN, State.putI, State.bump, State.add64, State.addSat, dictIn_column 0x3000,
      slotIx]

@[simp] theorem State.writes_stepOn (h : [.column 0x2200 1, .column 0x2200 2, .column 0x2200 3, .column 0x2680 0xF,
    .column 0x2680 0x10, .column 0x3000 0x1D, .column 0x3000 0x1E, .column 0x3000 0x1F, .column 0x3000 0x20, .column
    0x3000 0x22, .column 0x3000 0x23, .column 0x3000 0x24, .column 0x3000 0x25, .column 0x3000 0x27, .column 0x3150
    0x17, .column 0x4010 4, .column 0x7020 5, .entry 0x4200 1] ⊆ L) (s : State) (i : Nat) (x : Int) :
    DictIn L D (s.stepOn i x).dict ↔ DictIn L D s.dict := by
  unfold State.stepOn
  dsimp only
  (repeat' split) <;> simp_all [slotIx]

@[simp] theorem State.writes_pullIn (h : [.column 0x1220 0x13, .column 0x3150 1, .column 0x3150 2, .column 0x3150 3,
    .column 0x3150 9] ⊆ L) (s : State) (k : Nat) (m : RingMeas) :
    DictIn L D (s.pullIn k m).dict ↔ DictIn L D s.dict := by
  simp_all [State.pullIn, State.putF, dictIn_column 0x3150]

@[simp] theorem State.writes_undoStep (h : [.column 0x3000 0x20] ⊆ L) (s : State) (i : Nat) :
    DictIn L D (s.undoStep i).dict ↔ DictIn L D s.dict := by
  unfold State.undoStep
  dsimp only
  split <;> simp_all [State.putI, dictIn_column 0x3000, slotIx]

@[simp] theorem State.writes_releaseAxis (h : [.column 0x3000 1, .column 0x3000 0x20, .column 0x3000 0x21,
    .column 0x3000 0x23, .column 0x3000 0x28, .column 0x3110 7, .column 0x3110 8, .column 0x3150 5, .column 0x3150 9,
    .column 0x3150 0x1C, .entry 0x3100 1, .entry 0x3100 0x10] ⊆ L) (s : State) (k : Nat) :
    DictIn L D (s.releaseAxis k).dict ↔ DictIn L D s.dict := by
  simp_all [State.releaseAxis, State.putN, dictIn_column 0x3150]

end

end Sys2Proof.Machine

/-! PROOF. Spares (R352, R369, R370, R502 to R505, R511, R513): moves, offers and the commands that clear. -/

namespace Sys2Proof.Machine

variable {s t : State} {i q : Nat}

/-! ### Commands that clear -/

theorem stickyFlagsClear_served (m : MasterId) (i : SlotId) (v : BitVec 32) (hrun : s.ozRuns = true)
    (hserve : s.serves (slotIx i.val) = true) : exec (.stickyFlagsClear m i v) s =
      .next ((s.stickyWrite m.val i.val v.toNat).1.answer 0x02 (writeItem 0x04 (slotIx i.val) 0x22 4)
        (s.stickyWrite m.val i.val v.toNat).2 []) :=
  congrArg Host.Outcome.next (State.hostWrite_served _ hrun hserve)

theorem State.stickyWrite_clears (s : State) {m : Nat} (i : Nat) (h : s.commitsFull m = false) :
    s.stickyWrite m i 0 = ((s.overtake (dkey (slotIx i) 0x22)).putN (slotIx i) 0x22 0, stOk) := by
  unfold State.stickyWrite State.clearWrite
  rw [if_neg (by decide), if_neg (by simp [h])]
  rfl

theorem State.stickyWrite_full (s : State) {m : Nat} (i : Nat) (h : s.commitsFull m = true) :
    s.stickyWrite m i 0 = (s, stBusy) := by
  unfold State.stickyWrite State.clearWrite
  rw [if_neg (by decide), if_pos h]

theorem State.stickyWrite_range (s : State) (m i : Nat) {v : Nat} (h : v ≠ 0) : s.stickyWrite m i v = (s, stRange) :=
    if_pos h

theorem moveToSpare_served (m : MasterId) (n : Nat) (hrun : s.ozRuns = true) (hserve : s.serves 0x3100 = true) :
    exec (.moveToSpare m n) s = .next ((s.moveToSpare (n % 256)).1.answer 0x02 (writeItem 0x02 0x3100 0x11 1)
      (s.moveToSpare (n % 256)).2 []) :=
  congrArg Host.Outcome.next (State.hostWrite_served _ hrun hserve)

theorem availabilityClear_served (m : MasterId) (v : Byte) (hrun : s.ozRuns = true) (hserve : s.serves 0x7000 = true) :
    exec (.availabilityClear m v) s = .next ((s.availabilityClear v.toNat).1.answer 0x02 (writeItem 0x02 0x7000 0x16 1)
      (s.availabilityClear v.toNat).2 []) :=
  congrArg Host.Outcome.next (State.hostWrite_served _ hrun hserve)

theorem criticalLogClear_served (m : MasterId) (v : Byte) (hrun : s.ozRuns = true) (hserve : s.serves 0x7100 = true) :
    exec (.criticalLogClear m v) s = .next ((s.criticalClear v.toNat).1.answer 0x02 (writeItem 0x02 0x7100 7 1)
      (s.criticalClear v.toNat).2 []) :=
  congrArg Host.Outcome.next (State.hostWrite_served _ hrun hserve)

/-! ### Offers and policies -/

theorem State.policyStuck_none (h : s.svc.placed = []) : s.policyStuck = none := by
  unfold State.policyStuck
  rw [h]
  rfl

/-- A policy of 0 serves no offer. -/
theorem State.policyServes_off (h : ∀ n, 1 ≤ n → n ≤ 6 → s.nat 0x7000 n = 0) (o : Offer) : s.policyServes o = false :=
    by
  have hrank : kindRank o.kind + 1 ≤ 6 := by cases o.kind <;> decide
  unfold State.policyServes
  rw [h _ (by omega) hrank]
  cases o.worn <;> rfl

/-- The offers that a policy serves now. -/
def State.offersReady (s : State) : List Offer :=
  s.svc.offers.filter (fun o => s.policyServes o && (match s.offerCourse o with
    | some k => !(s.policyPending k)
    | none => true))

theorem exec_policySwitchIn (s : State) : exec .policySwitchIn s = .next (
    if 256 ≤ s.oz.commits.length then s
    else
      match s.policyStuck, s.firstOffer s.offersReady with
      | some p, _ => s.policyWithdraw p
      | none, some o => s.policyAct o
      | none, none => s) := rfl

theorem policySwitchIn_idle (hplaced : s.svc.placed = []) (hready : s.offersReady = []) : exec .policySwitchIn s =
    .next s := by
  rw [exec_policySwitchIn, State.policyStuck_none hplaced, hready]
  split <;> rfl

theorem policySwitchIn_one {o : Offer} (hplaced : s.svc.placed = []) (hcommits : s.oz.commits = [])
    (hready : s.offersReady = [o]) :
    exec .policySwitchIn s = .next (s.policyAct o) := by
  rw [exec_policySwitchIn, State.policyStuck_none hplaced, hready, hcommits, if_neg (by decide)]
  rfl

theorem State.policyAct_slot {o : Offer} {r : List Nat} (hkind : o.kind = .loopSlot) (hslot : s.slotOn o.unit = some i)
    (hspare : s.openSpares = q :: r) : s.policyAct o =
      let u := (s.dropOffer o).logEvent 15 evPolicy o.unit
      u.slotsPut i { u.slotsAt i with moveTo := some q } := by
  have hused : s.offerUsed o = true := by
    unfold State.offerUsed
    simp [hkind, hslot]
  unfold State.policyAct
  rw [if_neg (by simp [hused])]
  simp only [hkind, hslot, hspare]

/-- A policy that serves loop slots names the first free spare for the slot that a failed unit serves. -/
theorem policySwitchIn_slot {o : Offer} {r : List Nat} (hoffers : s.svc.offers = [o]) (hplaced : s.svc.placed = [])
    (hkind : o.kind = .loopSlot) (hworn : o.worn = false) (hpolicy : 1 ≤ s.nat 0x7000 3) (hcommits : s.oz.commits = [])
    (hslot : s.slotOn o.unit = some i) (hspare : s.openSpares = q :: r) : Completes .policySwitchIn s (fun t =>
      t.svc.offers = [] ∧ (t.slotsAt i) = { s.slotsAt i with moveTo := some q } ∧ t.pool = s.pool ∧ t.mem = s.mem) := by
  have hserves : s.policyServes o = true := by
    unfold State.policyServes
    rw [hkind, hworn]
    exact decide_eq_true hpolicy
  have hready : s.offersReady = [o] := by
    have hpending (k : Nat) : s.policyPending k = false := by
      unfold State.policyPending
      rw [hcommits]
      rfl
    unfold State.offersReady
    rw [hoffers]
    refine List.filter_eq_self.mpr fun x hx => ?_
    obtain rfl := List.mem_singleton.mp hx
    rw [hserves, Bool.true_and]
    split
    · next k _ => rw [hpending k]; rfl
    · rfl
  have hexec := policySwitchIn_one hplaced hcommits hready
  rw [State.policyAct_slot hkind hslot hspare] at hexec
  dsimp only at hexec
  have hlog (u : State) : (u.logEvent 15 evPolicy o.unit).svc.offers = u.svc.offers ∧
      (u.logEvent 15 evPolicy o.unit).slotsAt i = u.slotsAt i ∧ (u.logEvent 15 evPolicy o.unit).pool = u.pool ∧
      (u.logEvent 15 evPolicy o.unit).mem = u.mem := by
    refine ⟨?_, rfl, rfl, rfl⟩
    unfold State.logEvent State.logAt State.logWith
    dsimp only
    split <;> rfl
  have hdropped : (s.dropOffer o).svc.offers = [] := by
    show s.svc.offers.filter (fun x => x != o) = []
    rw [hoffers]
    simp
  obtain ⟨hleft, hat, hpool, hmem⟩ := hlog (s.dropOffer o)
  rw [hat] at hexec
  refine ⟨_, hexec, hleft.trans hdropped, ?_, hpool, hmem⟩
  exact tgetD_tput_self ..

end Sys2Proof.Machine

/-! PROOF. What the steps of the loops leave of the slots they are not of (R341, R342, R369). -/

namespace Sys2Proof.Machine

variable {s t u : State} {i : Nat}

theorem State.slotsAt_put_self (s : State) (i : Nat) (x : SlotSt) : (s.slotsPut i x).slotsAt i = x := tgetD_tput_self ..

/-- The waiting output of a slot, its waiting move, its last measurement, and whether it is dead. -/
def SlotSt.stepPart (x : SlotSt) : Option Int × Option Nat × Int × Bool := (x.next, x.moveTo, x.xprev, x.dead)

/-- From `s` to `t` every slot keeps its output, move and measurement. -/
def State.SlotsKept (s t : State) : Prop := ∀ j, (t.slotsAt j).stepPart = (s.slotsAt j).stepPart

/-- From `s` to `t` every slot keeps its waiting move. -/
def State.MovesKept (s t : State) : Prop := ∀ j, (t.slotsAt j).moveTo = (s.slotsAt j).moveTo

theorem State.SlotsKept.refl (s : State) : s.SlotsKept s := fun _ => rfl

theorem State.SlotsKept.trans (h : s.SlotsKept t) (g : t.SlotsKept u) : s.SlotsKept u := fun j => (g j).trans (h j)

theorem State.SlotsKept.of_slots (h : t.slots = s.slots) : s.SlotsKept t :=
  fun j => congrArg (fun l => (tgetD l ({} : SlotSt) j).stepPart) h

theorem State.SlotsKept.put {x : SlotSt} (h : x.stepPart = (s.slotsAt i).stepPart) : s.SlotsKept (s.slotsPut i x) :=
    fun j => by
  rw [State.slotsAt_slotsPut]
  split
  · next hij => rw [← hij, h]
  · rfl

theorem State.SlotsKept.entry (s : State) (i b : Nat) (v : Val) : s.SlotsKept (s.put i b v) := .of_slots rfl

theorem State.SlotsKept.each {f : State → Nat → State} (h : ∀ (u : State) (j : Nat), u.SlotsKept (f u j)) (s : State)
    (l : List Nat) :
    s.SlotsKept (s.each l f) :=
  State.each_invariant (P := fun u : State => s.SlotsKept u) (fun u j _ hu => hu.trans (h u j)) (.refl s)

theorem State.SlotsKept.moves (h : s.SlotsKept t) : s.MovesKept t := fun j => congrArg (fun p => p.2.1) (h j)

theorem State.MovesKept.refl (s : State) : s.MovesKept s := fun _ => rfl

theorem State.MovesKept.trans (h : s.MovesKept t) (g : t.MovesKept u) : s.MovesKept u := fun j => (g j).trans (h j)

theorem State.MovesKept.of_slots (h : t.slots = s.slots) : s.MovesKept t := (State.SlotsKept.of_slots h).moves

theorem State.MovesKept.put {x : SlotSt} (h : x.moveTo = (s.slotsAt i).moveTo) : s.MovesKept (s.slotsPut i x) := fun j
    => by
  rw [State.slotsAt_slotsPut]
  split
  · next hij => rw [← hij, h]
  · rfl

/-! ### Conversions and destinations -/

theorem State.slotsKept_convertDac (s : State) (c : Nat) : s.SlotsKept (s.convertDac c) := by
  have hloop (u : State) (l : List Nat) (hit : Bool) :
      u.SlotsKept (u.each l (fun s i => s.slotsPut i { s.slotsAt i with clamped := hit })) := .each (fun u j => .put (by rfl)) u l
  have hfirst : s.SlotsKept ((s.putI (0x3110 + c) 8 (s.addIns c)).putI (0x3110 + c) 7 (s.dacNow c)) :=
    (State.SlotsKept.entry s _ _ _).trans (.entry _ _ _ _)
  unfold State.convertDac
  dsimp only
  exact hfirst.trans (hloop _ _ _)

theorem State.slotsKept_refreshDac (s : State) (i : Nat) : s.SlotsKept (s.refreshDac i) := by
  unfold State.refreshDac
  split
  · exact s.slotsKept_convertDac _
  · exact .refl s

theorem State.slotsKept_takeDest (s : State) (i : Nat) : s.SlotsKept (s.takeDest i) := by
  have hdest : s.SlotsKept (s.slotsPut i { s.slotsAt i with dest := s.nat (slotIx i) 0x0A }) := .put (by rfl)
  unfold State.takeDest
  dsimp only
  split
  · exact .refl s
  · split
    · exact hdest.trans (State.slotsKept_convertDac _ _)
    · exact hdest

theorem State.slotsKept_takeManual (s : State) (i : Nat) : s.SlotsKept (s.takeManual i) := by
  unfold State.takeManual
  split
  · exact (State.SlotsKept.put (by rfl)).trans (.entry _ _ _ _)
  · exact .refl s

/-- The boundary after its move keeps every slot. -/
theorem State.slotsKept_boundary (s : State) (i : Nat) : (s.takeMove i).SlotsKept (s.boundary i) :=
  ((State.slotsKept_takeDest _ i).trans (State.slotsKept_takeManual _ i)).trans (State.slotsKept_refreshDac _ i)

theorem State.slotsKept_writeOut (s : State) (i : Nat) (o : Int) : s.SlotsKept (s.writeOut i o) := by
  unfold State.writeOut
  dsimp only
  refine State.SlotsKept.trans ?_ (State.slotsKept_refreshDac _ i)
  split
  · exact .of_slots rfl
  · exact .of_slots rfl

theorem State.slotsKept_reschedule (s : State) : s.SlotsKept s.reschedule := by
  unfold State.reschedule
  split
  · exact .refl s
  · next l repacked _ =>
    have hslots : s.SlotsKept (s.each (List.range 88) (fun s i =>
        match l.find? (fun a => a.slot == i) with
        | none => (s.putN (0x3000 + i) 0x28 0).slotsPut i { s.slotsAt i with per := 0 }
        | some a => (s.putN (0x3000 + i) 0x28 (a.off * 65536 + a.pos * 256)).slotsPut i { s.slotsAt i with per := a.per })) := by
      refine .each (fun u j => ?_) s _
      split
      · exact (State.SlotsKept.entry u _ _ _).trans (.put (by rfl))
      · exact (State.SlotsKept.entry u _ _ _).trans (.put (by rfl))
    dsimp only
    split
    · exact hslots.trans (.of_slots rfl)
    · exact hslots.trans (.of_slots rfl)

/-! ### Supervision -/

theorem State.slotsKept_setSup (s : State) (i new : Nat) : s.SlotsKept (s.setSup i new) := by
  have hcause (u : State) (k b : Nat) : u.SlotsKept (u.setCause k b) :=
    .of_slots (((State.within_setCause (List.Subset.refl _) u k b).mpr (State.within_refl _ _)) .slots (by simp))
  unfold State.setSup
  dsimp only
  split
  · exact .refl s
  · have hfirst : s.SlotsKept ((if s.nat (slotIx i) 0x23 = 3 then s else s.slotsPut i { s.slotsAt i with
        preFault := s.int (slotIx i) 0x21 }).putN (slotIx i) 0x23 new) := by
      split
      · exact .entry _ _ _ _
      · exact (State.SlotsKept.put (by rfl)).trans (.entry _ _ _ _)
    refine hfirst.trans ?_
    generalize State.putN _ (slotIx i) 0x23 new = v
    have hcount : v.SlotsKept (v.bump (slotIx i) 0x27) := .of_slots rfl
    split
    · split
      · exact hcount.trans (hcause _ _ _)
      · split
        · exact hcount
        · exact hcount.trans (.put (by rfl))
    · split
      · exact .put (by rfl)
      · exact .refl v

theorem State.slotsKept_supervise (s : State) (i : Nat) (ok : Bool) : s.SlotsKept (s.supervise i ok) := by
  have hshow (u : State) (chk sat : Bool) : u.SlotsKept (u.showChecks i chk sat) :=
    .of_slots (by
      unfold State.showChecks
      dsimp only
      split
      · rfl
      · split <;> rfl)
  unfold State.supervise
  split
  · exact .refl s
  · dsimp only
    refine ((State.SlotsKept.put ?_).trans (hshow _ _ _)).trans (State.slotsKept_setSup _ _ _)
    rfl

theorem State.slotsKept_lockRefresh (s : State) (k : Nat) : s.SlotsKept (s.lockRefresh k) :=
  .of_slots (((State.within_lockRefresh (List.Subset.refl _) s k).mpr (State.within_refl _ _)) .slots (by simp))

theorem State.slotsKept_slowWindow (s : State) (i : Nat) : s.SlotsKept (s.slowWindow i) := .of_slots (by
  unfold State.slowWindow
  split <;> rfl)

theorem State.slotsKept_convertAll (s : State) (c : Nat) (codes : List Int) : s.SlotsKept (s.convertAll c codes) :=
  .of_slots (((State.within_convertAll (List.Subset.refl _) s c codes).mpr (State.within_refl _ _)) .slots (by simp))

end Sys2Proof.Machine

/-! PROOF. A loop's slot moves to a spare (R369, R370): at its period boundary, and at once when its unit fails. -/

namespace Sys2Proof.Machine

variable {s t u : State} {i q : Nat}

/-! ### A step, from its boundary on -/

/-- The step of slot `i` once its boundary has been taken. -/
def State.stepFrom (s : State) (i : Nat) (codes : List Int) : State :=
  if (s.slotsAt i).dead then s
  else if s.nat (slotIx i) 1 = 0 then s.slotOff i
  else if i < 64 ∧ i % 2 = 0 ∧ (s.mirAt (i / 2)).phase = 6 ∧ s.setPointNow (i / 2) = 0 then s.stopRampEnd (i / 2)
  else
    match (s.takeInput (s.nat (slotIx i) 4) codes).source i (s.nat (slotIx i) 4) (s.slotsAt i).shaftBase.1 with
    | none => ((s.takeInput (s.nat (slotIx i) 4) codes).setFlag (slotIx i) 0x22 12 true).bump (slotIx i) 0x26
    | some x => ((s.takeInput (s.nat (slotIx i) 4) codes).keepBack i).stepOn i x

theorem exec_loopStep (i : SlotId) (earlier : List Int) (latest : Option Int) (s : State) :
    exec (.loopStep i earlier latest) s = .next ((s.boundary i.val).stepFrom i.val (earlier ++ latest.toList)) := rfl

theorem State.takeInput_nil (s : State) (src : Nat) : s.takeInput src [] = s := by
  unfold State.takeInput
  cases s.measureChannel src with
  | none => rfl
  | some c => rfl

theorem State.movesKept_slotOff (s : State) (i : Nat) : s.MovesKept (s.slotOff i) := by
  unfold State.slotOff
  dsimp only
  have hcleared (x : SlotSt) (hx : x.moveTo = (s.slotsAt i).moveTo) : s.MovesKept (s.slotsPut i x) := .put hx
  have hcleared := hcleared
    { shaftBase := (s.slotsAt i).shaftBase, per := (s.slotsAt i).per, clamped := (s.slotsAt i).clamped,
      moveTo := (s.slotsAt i).moveTo, dest := (s.slotsAt i).dest } rfl
  generalize s.slotsPut i _ = v at *
  have hwritten : s.MovesKept (((v.putN (slotIx i) 1 0).putI (slotIx i) 0x20 0).writeOut i 0) :=
    hcleared.trans
        (((State.SlotsKept.entry v _ _ _).trans (.entry _ _ _ _)).trans (State.slotsKept_writeOut _ _ _)).moves
  split
  · exact hwritten
  · exact hwritten.trans (State.SlotsKept.entry _ _ _ _).moves

theorem State.movesKept_stopRampEnd (s : State) (k : Nat) : s.MovesKept (s.stopRampEnd k) := by
  have hmir (x : MirSt) : s.MovesKept (s.mirPut k x) := .of_slots rfl
  have hdrive (u : State) : u.MovesKept (((u.setDrive k 0).putN (0x3150 + k) 9 0)) := .of_slots rfl
  exact ((((hmir _).trans (State.movesKept_slotOff _ _)).trans (State.movesKept_slotOff _ _)).trans (hdrive _)).trans
    (State.slotsKept_reschedule _).moves

/-- The law and manual mode keep the slot's waiting move. -/
theorem loopManual_moveTo (p : LoopPar) (x : SlotSt) (m sp e n : Int) : (loopManual p x m sp e n).st.moveTo = x.moveTo
    := rfl

theorem loopLaw_moveTo (p : LoopPar) (x : SlotSt) (preset : Bool) (m sp n : Int) (src : Option Int) :
    (loopLaw p x preset m sp n src).st.moveTo = x.moveTo := rfl

theorem State.movesKept_storeStep {r : LoopRes} (h : r.st.moveTo = (s.slotsAt i).moveTo) (mode : Nat) (x : Int) :
    s.MovesKept (s.storeStep i mode x r) := by
  have hentries (u : State) (a b c d : Int) (n : Nat) :
      u.SlotsKept
          (((((u.putI (slotIx i) 0x1D a).putI (slotIx i) 0x1E b).putI (slotIx i) 0x1F c).putI (slotIx i) 0x20 d).add64
        (slotIx i) 0x24 n) := .of_slots rfl
  unfold State.storeStep
  dsimp only
  have hlast (u v : State) (hu : v.SlotsKept u) (hv : s.SlotsKept v) (n : Nat) (o : Option Int) :
      s.MovesKept ((u.putN (slotIx i) 0x22 n).slotsPut i { r.st with modeAt := mode, next := o }) := by
    refine ((hv.trans hu).trans (State.SlotsKept.entry u _ _ _)).moves.trans (.put ?_)
    exact h.trans ((((hv.trans hu).trans (State.SlotsKept.entry u _ _ _)).moves i)).symm
  split
  · exact hlast _ _ (.entry _ _ _ _) (hentries s _ _ _ _ _) _ _
  · exact hlast _ _ (.refl _) (hentries s _ _ _ _ _) _ _

theorem State.movesKept_actNow (s : State) (i : Nat) (o : Int) : s.MovesKept (s.actNow i o) := by
  unfold State.actNow
  split
  · exact .put (by rfl)
  · exact .refl s

theorem State.movesKept_stepOn (s : State) (i : Nat) (x : Int) : s.MovesKept (s.stepOn i x) := by
  unfold State.stepOn
  dsimp only
  split
  · have hstored := State.movesKept_storeStep (s := s) (i := i)
      (r := loopManual (s.loopPar i) (s.slotsAt i) x (s.int (slotIx i) 0x1E)
      (s.int (slotIx i) 0x1F) (s.int (slotIx i) 0x20)) rfl 1 x
    split
    · exact hstored
    · exact hstored.trans (State.slotsKept_setSup _ _ _).moves
  · have hstored := fun src => State.movesKept_storeStep (s := s) (i := i) (r := loopLaw (s.loopPar i) (s.slotsAt i)
      ((s.slotsAt i).modeAt == 1) x (s.int (slotIx i) 0x1E) (s.int (slotIx i) 0x20) src) rfl 2 x
    have hacted (src : Option Int) (ok : Bool) (o : Int) :=
        (((hstored src).trans (State.slotsKept_slowWindow _ i).moves).trans
      (State.slotsKept_supervise _ i ok).moves).trans (State.movesKept_actNow _ i o)
    split
    · exact (hacted _ _ _).trans (State.slotsKept_lockRefresh _ _).moves
    · exact hacted _ _ _

/-- What the step does after the boundary leaves every waiting move. -/
theorem State.movesKept_stepFrom (s : State) (i : Nat) : s.MovesKept (s.stepFrom i []) := by
  have hback : s.MovesKept (s.keepBack i) := .put (by rfl)
  have hskip : s.MovesKept ((s.setFlag (slotIx i) 0x22 12 true).bump (slotIx i) 0x26) := .of_slots rfl
  unfold State.stepFrom
  simp only [State.takeInput_nil]
  split
  · exact .refl s
  · split
    · exact s.movesKept_slotOff i
    · split
      · exact s.movesKept_stopRampEnd _
      · split
        · exact hskip
        · exact hback.trans (State.movesKept_stepOn _ _ _)

/-- What the step does after the boundary leaves the pool and memory. -/
theorem State.within_stepFrom (s : State) (i : Nat) (codes : List Int) :
    s.Within [.dict, .senses, .plc, .lanes, .ledger, .fet, .col, .slots, .mir, .capoC, .runs, .svc]
        (s.stepFrom i codes) := by
  unfold State.stepFrom
  repeat' split
  all_goals simp

/-- The entries that a step without a new measurement writes. -/
def stepPlaces : List Place :=
  [.column 0x2200 1, .column 0x2200 2, .column 0x2200 3, .column 0x2680 0xF, .column 0x2680 0x10, .column 0x3000 1,
    .column 0x3000 0x1D, .column 0x3000 0x1E, .column 0x3000 0x1F, .column 0x3000 0x20, .column 0x3000 0x21, .column
        0x3000 0x22,
    .column 0x3000 0x23, .column 0x3000 0x24, .column 0x3000 0x25, .column 0x3000 0x26, .column 0x3000 0x27, .column
        0x3000 0x28,
    .column 0x3110 7, .column 0x3110 8, .column 0x3150 5, .column 0x3150 9, .column 0x3150 0x17, .column 0x4010 4,
        .column 0x7020 5,
    .entry 0x3100 1, .entry 0x3100 0x10, .entry 0x4200 1]

theorem State.writes_stepFrom (s : State) (i : Nat) : DictIn stepPlaces s.dict (s.stepFrom i []).dict := by
  unfold State.stepFrom
  simp only [State.takeInput_nil]
  repeat' split
  all_goals simp [stepPlaces, DictIn.refl, State.keepBack, State.setFlag, State.bump, State.addSat, State.putN,
    dictIn_column 0x3000, slotIx]

end Sys2Proof.Machine

/-! PROOF. Spares serve failed units (R352, R369, R370, R502 to R505, R511, R513): the moves, and the clauses together.
    -/

namespace Sys2Proof.Machine

variable {s t u : State} {i q : Nat}

/-- A slot served by a spare: what the dictionary shows of the move. -/
def State.MovedTo (s t : State) (i q : Nat) : Prop :=
  t.nat (slotIx i) 0x29 = q ∧ t.nat (slotIx q) 0x29 = i ∧ t.nat 0x3100 6 = min (s.nat 0x3100 6 + 1) 0xFFFFFFFF ∧
    t.physOf i = q ∧ t.mem = s.mem

theorem State.physOf_of_pool (h : t.pool = s.pool) (i : Nat) : t.physOf i = s.physOf i := by
  unfold State.physOf
  rw [h]

theorem State.moveSlot_moves (s : State) (hi : i < 88) (hq : 88 ≤ q) (hq' : q < 96) : s.MovedTo (s.moveSlot i q) i q :=
    by
  have hfind : ((s.pool.moved.filter (fun m => m.1 != i)) ++ [(i, q)]).find? (fun m => m.1 == i) = some (i, q) := by
    rw [List.find?_append, List.find?_eq_none.mpr fun m hm => by simpa using (List.mem_filter.mp hm).2]
    simp
  have hpool : (s.moveSlot i q).pool.moved = (s.pool.moved.filter (fun m => m.1 != i)) ++ [(i, q)] := by
    unfold State.moveSlot
    dsimp only
    split <;> rfl
  have hmem : (s.moveSlot i q).mem = s.mem := State.mem_of_within
      ((State.within_moveSlot (List.Subset.refl _) s i q).mpr
    (State.within_refl _ _)) (by simp) (by simp)
  have hphys : (s.moveSlot i q).physOf i = q := by
    unfold State.physOf
    rw [hpool, hfind]
  have hshown (v : State) (old : Nat) (hv : v.nat 0x3100 6 = s.nat 0x3100 6) :
      (((((v.putN (slotIx i) 0x29 q).putN (slotIx q) 0x29 i).bump 0x3100 6).switchIn 3 old q).showPool).nat (slotIx i)
          0x29 = q ∧
      (((((v.putN (slotIx i) 0x29 q).putN (slotIx q) 0x29 i).bump 0x3100 6).switchIn 3 old q).showPool).nat (slotIx q)
          0x29 = i ∧
      (((((v.putN (slotIx i) 0x29 q).putN (slotIx q) 0x29 i).bump 0x3100 6).switchIn 3 old q).showPool).nat 0x3100 6 =
        min (s.nat 0x3100 6 + 1) 0xFFFFFFFF := by
    have hlast (w : State) : DictIn [.entry 0x3100 4, .entry 0x7000 7, .entry 0x7000 9] w.dict
        ((w.switchIn 3 old q).showPool).dict := by
      simp [DictIn.refl]
    have hplace (j b : Nat) (h : j < 0x7000 ∧ (j = 0x3100 → b ≠ 4)) :
        ∀ p ∈ [Place.entry 0x3100 4, .entry 0x7000 7, .entry 0x7000 9], ¬ p.has j b := by
      simp only [List.forall_mem_cons, Place.has]
      exact ⟨by omega, by omega, by omega, fun _ h => absurd h List.not_mem_nil⟩
    rw [(hlast _).nat (by decide) (hplace _ _ ⟨by simp only [slotIx]; omega, fun _ => by decide⟩),
      (hlast _).nat (by decide) (hplace _ _ ⟨by simp only [slotIx]; omega, fun _ => by decide⟩),
      (hlast _).nat (by decide) (hplace _ _ ⟨by decide, fun _ => by decide⟩)]
    refine ⟨?_, ?_, ?_⟩
    · rw [State.nat_bump_ne _ (dkey_ne (by decide) (by decide) fun _ => by decide),
        State.nat_putN_ne _ _ _ _ _ _ (dkey_ne (by decide) (by decide) fun h => by simp only [slotIx] at h; omega), State.nat_putN]
    · rw [State.nat_bump_ne _ (dkey_ne (by decide) (by decide) fun _ => by decide), State.nat_putN]
    · rw [State.nat_bump, State.nat_putN_ne _ _ _ _ _ _ (dkey_ne (by decide) (by decide) fun _ => by decide),
        State.nat_putN_ne _ _ _ _ _ _ (dkey_ne (by decide) (by decide) fun _ => by decide), hv]
  have hall : (s.moveSlot i q).nat (slotIx i) 0x29 = q ∧ (s.moveSlot i q).nat (slotIx q) 0x29 = i ∧
      (s.moveSlot i q).nat 0x3100 6 = min (s.nat 0x3100 6 + 1) 0xFFFFFFFF := by
    unfold State.moveSlot
    dsimp only
    split
    · exact hshown _ _ (State.nat_putN_ne _ _ _ _ _ _ (dkey_ne (by decide) (by decide) fun _ => by decide))
    · exact hshown _ _ rfl
  exact ⟨hall.1, hall.2.1, hall.2.2, hphys, hmem⟩

/-- What leaves the entries of the move, the pool and memory leaves the slot served by its spare. -/
theorem State.MovedTo.kept {L : List Place} (h : s.MovedTo t i q) (hd : DictIn L t.dict u.dict)
    (hpool : u.pool = t.pool)
    (hmem : u.mem = t.mem) (hL : ∀ p ∈ L, (∀ j < 96, ¬ p.has (slotIx j) 0x29) ∧ ¬ p.has 0x3100 6) (hi : i < 88)
        (hq : q < 96) :
    s.MovedTo u i q := by
  obtain ⟨hto, hfrom, hcount, hphys, hm⟩ := h
  refine ⟨?_, ?_, ?_, (State.physOf_of_pool hpool i).trans hphys, hmem.trans hm⟩
  · exact (hd.nat (by decide) fun p hp => (hL p hp).1 i (by omega)).trans hto
  · exact (hd.nat (by decide) fun p hp => (hL p hp).1 q hq).trans hfrom
  · exact (hd.nat (by decide) fun p hp => (hL p hp).2).trans hcount

/-! ### The move at a period boundary -/

theorem State.takeMove_taken (h : (s.slotsAt i).moveTo = some q) (hgood : s.pool.failed.contains q = false) :
    s.takeMove i = (s.slotsPut i { s.slotsAt i with moveTo := none }).moveSlot i q := by
  unfold State.takeMove
  simp only [h]
  exact if_neg (by rw [hgood]; decide)

theorem State.slots_moveSlot (s : State) (i q : Nat) : (s.moveSlot i q).slots = s.slots :=
  ((State.within_moveSlot (List.Subset.refl _) s i q).mpr (State.within_refl _ _)) .slots (by simp)

theorem loopStep_moves (i : SlotId) (h : (s.slotsAt i.val).moveTo = some q) (hq : 88 ≤ q) (hq' : q < 96)
    (hgood : s.pool.failed.contains q = false) : Completes (.loopStep i [] none) s (fun t =>
      (t.nat (slotIx i.val) 0x29 = q ∧ t.nat (slotIx q) 0x29 = i.val ∧
        t.nat 0x3100 6 = min (s.nat 0x3100 6 + 1) 0xFFFFFFFF ∧ t.physOf i.val = q ∧ t.mem = s.mem) ∧
      (t.slotsAt i.val).moveTo = none) := by
  have hmove := State.takeMove_taken h hgood
  have hmoved : s.MovedTo (s.takeMove i.val) i.val q := by
    rw [hmove]
    exact State.moveSlot_moves (s.slotsPut i.val _) i.isLt hq hq'
  have hnone : ((s.takeMove i.val).slotsAt i.val).moveTo = none := by
    rw [hmove]
    have hslots := (s.slotsPut i.val { s.slotsAt i.val with moveTo := none }).slots_moveSlot i.val q
    exact (congrArg (fun l => (tgetD l ({} : SlotSt) i.val).moveTo) hslots).trans
      (congrArg SlotSt.moveTo (State.slotsAt_put_self ..))
  have hentries : DictIn [.column 0x3000 0x18, .column 0x3110 7, .column 0x3110 8] (s.takeMove i.val).dict
      (s.boundary i.val).dict := by
    unfold State.boundary
    simp [DictIn.refl]
  have hparts : (s.takeMove i.val).Within [.dict, .slots] (s.boundary i.val) := by
    unfold State.boundary
    simp
  have hboundary : s.MovedTo (s.boundary i.val) i.val q :=
    hmoved.kept hentries (hparts .pool (by simp)) (State.mem_of_within hparts (by simp) (by simp))
      (by simp [slotIx]) i.isLt hq'
  have hstep := (s.boundary i.val).within_stepFrom i.val []
  have hall : s.MovedTo ((s.boundary i.val).stepFrom i.val []) i.val q :=
    hboundary.kept (State.writes_stepFrom _ _) (hstep .pool (by simp)) (State.mem_of_within hstep (by simp) (by simp))
      (by simp [slotIx, stepPlaces]) i.isLt hq'
  refine ⟨_, exec_loopStep i [] none s, hall, ?_⟩
  exact (State.movesKept_stepFrom _ _ i.val).trans (((s.slotsKept_boundary i.val).moves i.val).trans hnone)

/-! ### The move when a unit fails -/

/-- The state with a unit of the pool failed. -/
def State.unitFailed (s : State) (p : Nat) : State := { s with pool := { s.pool with failed := s.pool.failed ++ [p] } }

theorem State.openSpares_of {v : State} (hpool : v.pool = s.pool) (hmoves : s.MovesKept v) : v.openSpares =
    s.openSpares := by
  unfold State.openSpares State.freeSpares
  simp only [hpool, hmoves _]

theorem State.undoStep_kept (s : State) (i : Nat) : ((s.undoStep i).slotsAt i).next = none ∧ s.MovesKept (s.undoStep i)
    ∧
    s.Within [.dict, .slots] (s.undoStep i) := by
  refine ⟨?_, ?_, by simp⟩
  · unfold State.undoStep
    dsimp only
    split
    · exact congrArg SlotSt.next (State.slotsAt_put_self s i _)
    · exact congrArg SlotSt.next (State.slotsAt_put_self s i _)
  · unfold State.undoStep
    dsimp only
    split
    · exact (State.MovesKept.put (by rfl)).trans (State.SlotsKept.entry _ _ _ _).moves
    · exact .put (by rfl)

/-- A slot whose unit fails: its move is cancelled, its last step undone, and the failure counted. -/
def State.slotStruck (s : State) (p i : Nat) : State :=
  let u := (s.unitFailed p).showPool
  ((u.slotsPut i { u.slotsAt i with moveTo := none }).undoStep i).bump (slotIx i) 0x2A

theorem exec_loopSlotFault (phys : Fin 96) (hgood : s.pool.failed.contains phys.val = false) :
    exec (.loopSlotFault phys) s = .next (
      match (List.range 88).find? (fun i => s.physOf i == phys.val) with
      | none => (s.unitFailed phys.val).showPool
      | some i =>
        match (s.slotStruck phys.val i).openSpares with
        | [] => (s.slotStruck phys.val i).slotLost i
        | q :: _ => ((s.slotStruck phys.val i).moveSlot i q).recover 3 0 (s.nat (slotIx i) 2 * 625 * tNs) i) := by
  refine congrArg Host.Outcome.next ((if_neg (by rw [hgood]; decide)).trans ?_)
  rfl

/-- A slot that is struck keeps the pool but for its unit, memory and the count of moves, with its failure counted. -/
theorem State.slotStruck_shows {p : Nat} (hmove : (s.slotsAt i).moveTo = none) :
    (s.slotStruck p i).pool = (s.unitFailed p).pool ∧ (s.slotStruck p i).mem = s.mem ∧
      (s.unitFailed p).MovesKept (s.slotStruck p i) ∧ ((s.slotStruck p i).slotsAt i).next = none ∧
      (s.slotStruck p i).nat 0x3100 6 = s.nat 0x3100 6 ∧
      (s.slotStruck p i).nat (slotIx i) 0x2A = min (s.nat (slotIx i) 0x2A + 1) 0xFFFFFFFF := by
  have hfailed : (s.unitFailed p).MovesKept (s.unitFailed p).showPool := .of_slots rfl
  have hat : ((s.unitFailed p).showPool.slotsAt i).moveTo = none := hmove
  have hput : (s.unitFailed p).showPool.MovesKept ((s.unitFailed p).showPool.slotsPut i
      { (s.unitFailed p).showPool.slotsAt i with moveTo := none }) := .put hat.symm
  have hdict : DictIn [.entry 0x3100 4] s.dict ((s.unitFailed p).showPool.slotsPut i
      { (s.unitFailed p).showPool.slotsAt i with moveTo := none }).dict := by
    have hbase : DictIn [.entry 0x3100 4] s.dict (s.unitFailed p).dict := .refl _ _
    simpa using hbase
  have hpool : ((s.unitFailed p).showPool.slotsPut i { (s.unitFailed p).showPool.slotsAt i with moveTo := none }).pool =
      (s.unitFailed p).pool := rfl
  have hmem : ((s.unitFailed p).showPool.slotsPut i { (s.unitFailed p).showPool.slotsAt i with moveTo := none }).mem = s.mem := rfl
  unfold State.slotStruck
  dsimp only
  generalize (s.unitFailed p).showPool.slotsPut i { (s.unitFailed p).showPool.slotsAt i with moveTo := none } = v at *
  obtain ⟨hnext, hmoves, hparts⟩ := v.undoStep_kept i
  have hundone : DictIn [.column 0x3000 0x20] v.dict (v.undoStep i).dict := by simp [DictIn.refl]
  have hkept : (v.undoStep i).pool = v.pool := hparts .pool (by simp)
  refine ⟨hkept.trans hpool, (State.mem_of_within hparts (by simp) (by simp)).trans hmem,
    ((hfailed.trans hput).trans hmoves).trans (State.SlotsKept.entry _ _ _ _).moves, hnext, ?_, ?_⟩
  · rw [State.nat_bump_ne _ (dkey_ne (by decide) (by decide) fun _ => by decide)]
    exact (hundone.nat (by decide) (by simp)).trans (hdict.nat (by decide) (by simp))
  · rw [State.nat_bump]
    refine congrArg (fun n => min (n + 1) 0xFFFFFFFF) ((hundone.nat (by decide) (by simp)).trans (hdict.nat (by decide) ?_))
    simp [slotIx]

theorem find_of_unique {l : List Nat} {p : Nat → Bool} (hi : i ∈ l) (hp : p i = true) (hone : ∀ j ∈ l,
    p j = true → j = i) :
    l.find? p = some i := by
  cases h : l.find? p with
  | none => exact absurd hp (by simpa using List.find?_eq_none.mp h i hi)
  | some j => rw [hone j (List.mem_of_find?_eq_some h) (List.find?_some h)]

theorem loopSlotFault_moved (phys : Fin 96) (i : SlotId) {r : List Nat}
    (hgood : s.pool.failed.contains phys.val = false)
    (hserves : s.physOf i.val = phys.val) (hone : ∀ j < 88, s.physOf j = phys.val → j = i.val)
    (hspare : (s.slotStruck phys.val i.val).openSpares = q :: r) : ∃ n, exec (.loopSlotFault phys) s =
      .next (((s.slotStruck phys.val i.val).moveSlot i.val q).recover 3 0 n i.val) := by
  have hexec := exec_loopSlotFault phys hgood
  have hwho : (List.range 88).find? (fun j => s.physOf j == phys.val) = some i.val :=
    find_of_unique (List.mem_range.mpr i.isLt) (beq_iff_eq.mpr hserves)
      (fun j hj hp => hone j (List.mem_range.mp hj) (beq_iff_eq.mp hp))
  simp only [hwho, hspare] at hexec
  exact ⟨_, hexec⟩

/-- What the move of a struck slot to its spare shows. -/
theorem State.moveRecovered_shows (v : State) (n : Nat) (hi : i < 88) (hq : 88 ≤ q) (hq' : q < 96) :
    v.MovedTo ((v.moveSlot i q).recover 3 0 n i) i q ∧ ((v.moveSlot i q).recover 3 0 n i).slots = v.slots ∧
      ((v.moveSlot i q).recover 3 0 n i).pool.failed = v.pool.failed ∧
      ((v.moveSlot i q).recover 3 0 n i).nat (slotIx i) 0x2A = v.nat (slotIx i) 0x2A := by
  have hwrites : DictIn [.entry 0x7000 0x17, .entry 0x7000 0x18, .entry 0x7000 0x19] (v.moveSlot i q).dict
      ((v.moveSlot i q).recover 3 0 n i).dict := by simp [DictIn.refl]
  have hparts : (v.moveSlot i q).Within [.dict, .store, .svc] ((v.moveSlot i q).recover 3 0 n i) := by simp
  have hmoveWrites : DictIn [.column 0x3000 0x29, .entry 0x3100 4, .entry 0x3100 6, .entry 0x7000 7, .entry 0x7000 9]
      v.dict
      (v.moveSlot i q).dict := by simp [DictIn.refl]
  have hmoveParts : v.Within [.dict, .pool] (v.moveSlot i q) := by simp
  have hfailed : (v.moveSlot i q).pool.failed = v.pool.failed := by
    unfold State.moveSlot
    dsimp only
    split <;> rfl
  refine ⟨(v.moveSlot_moves hi hq hq').kept hwrites (hparts .pool (by simp)) (State.mem_of_within hparts (by simp) (by simp))
    (by simp [slotIx]) hi hq', Eq.trans (hparts .slots (by simp)) (hmoveParts .slots (by simp)),
    Eq.trans (congrArg PoolSt.failed (hparts .pool (by simp) :)) hfailed, ?_⟩
  exact (hwrites.nat (by decide) (by simp [slotIx])).trans (hmoveWrites.nat (by decide) (by simp [slotIx]))

theorem State.mem_openSpares {v : State} (h : q ∈ v.openSpares) : 88 ≤ q ∧ q < 96 := by
  obtain ⟨n, hn, rfl⟩ := List.mem_map.mp (List.mem_filter.mp (List.mem_filter.mp h).1).1
  have := List.mem_range.mp hn
  omega

/-- A unit that fails with a spare free: the slot that it serves moves at once. -/
theorem loopSlotFault_moves (phys : Fin 96) (i : SlotId) {r : List Nat}
    (hgood : s.pool.failed.contains phys.val = false)
    (hserves : s.physOf i.val = phys.val) (hone : ∀ j < 88, s.physOf j = phys.val → j = i.val)
    (hmove : (s.slotsAt i.val).moveTo = none) (hspare : (s.unitFailed phys.val).openSpares = q :: r) :
    Completes (.loopSlotFault phys) s (fun t =>
      (t.nat (slotIx i.val) 0x29 = q ∧ t.nat (slotIx q) 0x29 = i.val ∧
        t.nat 0x3100 6 = min (s.nat 0x3100 6 + 1) 0xFFFFFFFF ∧ t.physOf i.val = q ∧ t.mem = s.mem) ∧
      (t.slotsAt i.val).next = none ∧ phys.val ∈ t.pool.failed ∧
      t.nat (slotIx i.val) 0x2A = min (s.nat (slotIx i.val) 0x2A + 1) 0xFFFFFFFF) := by
  obtain ⟨hpool, hmem, hmoves, hnext, hcount, hfault⟩ := State.slotStruck_shows (p := phys.val) (i := i.val) hmove
  have hspare' : (s.slotStruck phys.val i.val).openSpares = q :: r := (State.openSpares_of hpool hmoves).trans hspare
  obtain ⟨hq, hq'⟩ : 88 ≤ q ∧ q < 96 := State.mem_openSpares (v := s.unitFailed phys.val) (by rw [hspare]; exact List.mem_cons_self)
  obtain ⟨n, hexec⟩ := loopSlotFault_moved phys i hgood hserves hone hspare'
  generalize s.slotStruck phys.val i.val = v at *
  obtain ⟨⟨hto, hfrom, hcounted, hphys, hm⟩, hslots, hfailed, hkept⟩ := v.moveRecovered_shows n i.isLt hq hq'
  refine ⟨_, hexec, ⟨hto, hfrom, by rw [hcounted, hcount], hphys, hm.trans hmem⟩, ?_, ?_, hkept.trans hfault⟩
  · exact (congrArg (fun l => (tgetD l ({} : SlotSt) i.val).next) hslots).trans hnext
  · rw [hfailed, hpool]
    exact List.mem_append_right _ (List.mem_singleton_self _)

end Sys2Proof.Machine

/-! PROOF. Spares serve failed units by policy or by command (R352, R369, R370, R502 to R505, R511, R513). -/

namespace Sys2Proof.Proofs
open Sys2Proof Sys2Proof.Machine

/-- Settles O42: a move at a boundary and at a failure, offers and what a policy makes of them, and the clearing
    commands. -/
theorem sparesServeFailedUnits : Obligations.SparesServeFailedUnits := by
  unfold Obligations.SparesServeFailedUnits
  refine ⟨fun m i v phys n q r s => ⟨fun hrun hserve => ⟨fun hroom => ?_, fun hfull => ?_, fun hv => ?_⟩,
    fun hrun hserve => ⟨fun hlow hhigh => ?_, fun hnone => ?_, fun hspare => ?_⟩,
    fun hmove hq hq' hgood => loopStep_moves i hmove hq hq' hgood, fun hfailed => congrArg Host.Outcome.next
        (if_pos hfailed),
    fun hgood => ⟨fun hnobody => ?_,
        fun hserves hone hmove hspare => loopSlotFault_moves phys i hgood hserves hone hmove hspare⟩⟩,
    fun m v kind unit worn i q r s => ⟨fun hunit hnone => ?_, fun hunit hwaits => ?_,
      fun hunit => congrArg Host.Outcome.next (if_neg (by omega)), fun hplaced hoff => ?_,
      fun hoffers hplaced hkind hworn hpolicy hcommits hslot hspare =>
        policySwitchIn_slot hoffers hplaced hkind hworn hpolicy hcommits hslot hspare,
      fun hrun hserve => ⟨?_, fun hv => ?_⟩, fun hrun hserve => ⟨?_, fun hv => ?_⟩⟩⟩
  · rw [stickyFlagsClear_served m i 0 hrun hserve, show BitVec.toNat (0 : BitVec 32) = 0 from rfl,
      State.stickyWrite_clears s i.val hroom]
    rfl
  · rw [stickyFlagsClear_served m i 0 hrun hserve, show BitVec.toNat (0 : BitVec 32) = 0 from rfl,
      State.stickyWrite_full s i.val hfull]
    rfl
  · have hne : v.toNat ≠ 0 := fun h => hv (BitVec.eq_of_toNat_eq h)
    rw [stickyFlagsClear_served m i v hrun hserve, State.stickyWrite_range s m.val i.val hne]
    rfl
  · have hrefused : s.moveToSpare (n % 256) = (s, stRange) := if_pos (by omega)
    rw [moveToSpare_served m n hrun hserve, hrefused]
    rfl
  · have hrefused : s.moveToSpare (i.val % 256) = (s, stRejected) := by
      unfold State.moveToSpare
      rw [if_neg (by omega), hnone]
    rw [moveToSpare_served m i.val hrun hserve, hrefused]
    rfl
  · have htaken : s.moveToSpare (i.val % 256) = (s.slotsPut i.val { s.slotsAt i.val with moveTo := some q }, stOk) := by
      rw [Nat.mod_eq_of_lt (by omega)]
      unfold State.moveToSpare
      rw [if_neg (by omega), hspare]
    rw [moveToSpare_served m i.val hrun hserve, htaken]
    rfl
  · have hnobody' : (List.range 88).find? (fun j => s.physOf j == phys.val) = none :=
      List.find?_eq_none.mpr fun j hj => by simpa using hnobody j (List.mem_range.mp hj)
    rw [exec_loopSlotFault phys hgood, hnobody']
    rfl
  · refine congrArg Host.Outcome.next ((if_pos hunit).trans ?_)
    unfold State.offer
    simp [hnone]
  · refine congrArg Host.Outcome.next ((if_pos hunit).trans (if_pos (List.any_eq_true.mpr ⟨_, hwaits, ?_⟩)))
    cases worn <;> simp
  · refine policySwitchIn_idle hplaced (List.filter_eq_nil_iff.mpr fun o _ => ?_)
    simp [State.policyServes_off hoff o]
  · rw [availabilityClear_served m 1 hrun hserve]
    rfl
  · have hrefused : s.availabilityClear v.toNat = (s, stRange) := if_neg fun h => hv (BitVec.eq_of_toNat_eq h)
    rw [availabilityClear_served m v hrun hserve, hrefused]
    rfl
  · exact ⟨_, criticalLogClear_served m 1 hrun hserve, rfl, rfl, rfl, rfl, rfl⟩
  · have hrefused : s.criticalClear v.toNat = (s, stRange) := if_neg fun h => hv (BitVec.eq_of_toNat_eq h)
    rw [criticalLogClear_served m v hrun hserve, hrefused]
    rfl

end Sys2Proof.Proofs

/-! PROOF. What a loop's step leaves in its slot and in its entries (R341, R348, R349, R353). -/

namespace Sys2Proof.Machine

variable {s t u : State} {i : Nat}

/-! ### Entries of one index -/

theorem dkey_sub_ne (i : Nat) {b c : Nat} (h : b < 256 ∧ c < 256 ∧ b ≠ c) : dkey i b ≠ dkey i c :=
  dkey_ne h.2.1 h.1 fun _ hcb => h.2.2 hcb.symm

theorem State.int_putI_sub (s : State) (i : Nat) {b c : Nat} (z : Int) (h : b < 256 ∧ c < 256 ∧ b ≠ c) :
    (s.putI i b z).int i c = s.int i c := congrArg valInt (State.val_put_ne _ _ _ _ _ _ (dkey_sub_ne i h))

theorem State.nat_putI_sub (s : State) (i : Nat) {b c : Nat} (z : Int) (h : b < 256 ∧ c < 256 ∧ b ≠ c) :
    (s.putI i b z).nat i c = s.nat i c := congrArg Int.toNat (s.int_putI_sub i z h)

theorem State.int_putN_sub (s : State) (i : Nat) {b c : Nat} (n : Nat) (h : b < 256 ∧ c < 256 ∧ b ≠ c) :
    (s.putN i b n).int i c = s.int i c := congrArg valInt (State.val_put_ne _ _ _ _ _ _ (dkey_sub_ne i h))

theorem State.nat_putN_sub (s : State) (i : Nat) {b c : Nat} (n : Nat) (h : b < 256 ∧ c < 256 ∧ b ≠ c) :
    (s.putN i b n).nat i c = s.nat i c := congrArg Int.toNat (s.int_putN_sub i n h)

/-! ### The record of a step -/

/-- What a step records: measurement, set-point, error, integrator, step count, flags, and its slot. -/
theorem State.storeStep_shows (s : State) (i mode : Nat) (x : Int) (r : LoopRes) :
    (s.storeStep i mode x r).int (slotIx i) 0x1D = x ∧ (s.storeStep i mode x r).int (slotIx i) 0x1E = r.sp ∧
      (s.storeStep i mode x r).int (slotIx i) 0x1F = r.e ∧ (s.storeStep i mode x r).int (slotIx i) 0x20 = r.i ∧
      (s.storeStep i mode x r).nat (slotIx i) 0x24 = (s.nat (slotIx i) 0x24 + 1) % 2 ^ 64 ∧
      (s.storeStep i mode x r).nat (slotIx i) 0x22 = (s.nat (slotIx i) 0x22 ||| r.flags) ∧
      (s.storeStep i mode x r).slotsAt i = { r.st with modeAt := mode, next := some r.o } := by
  have hput (v : State) (y : SlotSt) (b : Nat) : (v.slotsPut i y).int (slotIx i) b = v.int (slotIx i) b ∧
      (v.slotsPut i y).nat (slotIx i) b = v.nat (slotIx i) b := ⟨rfl, rfl⟩
  unfold State.storeStep
  simp only [State.slotsAt_put_self, (hput _ _ _).1, (hput _ _ _).2]
  split <;>
    simp (disch := decide) only [State.bump, State.addSat, State.add64, State.int_putN_sub, State.int_putI_sub,
        State.int_putI,
      State.nat_putN_sub, State.nat_putI_sub, State.nat_putN, and_self]

/-- In manual mode a step leaves the manual value within the limits. -/
theorem State.stepOn_manual {x : Int} (hmode : s.nat (slotIx i) 1 = 1) (hslew : (s.loopPar i).slew = 0) :
    ((s.stepOn i x).slotsAt i).next = some (clampI (s.loopPar i).lo (s.loopPar i).hi (s.loopPar i).manual) ∧
      (s.stepOn i x).int (slotIx i) 0x1D = x ∧ ((s.stepOn i x).slotsAt i).xprev = x ∧
      (s.stepOn i x).nat (slotIx i) 0x24 = (s.nat (slotIx i) 0x24 + 1) % 2 ^ 64 := by
  obtain ⟨hx, -, -, -, hcount, -, hslot⟩ := s.storeStep_shows i 1 x
      (loopManual (s.loopPar i) (s.slotsAt i) x (s.int (slotIx i) 0x1E)
    (s.int (slotIx i) 0x1F) (s.int (slotIx i) 0x20))
  have hout :
      (loopManual (s.loopPar i) (s.slotsAt i) x (s.int (slotIx i) 0x1E) (s.int (slotIx i) 0x1F) (s.int (slotIx i)
      0x20)).o =
      clampI (s.loopPar i).lo (s.loopPar i).hi (s.loopPar i).manual := by
    simp only [loopManual, loopTail]
    exact if_pos hslew
  unfold State.stepOn
  dsimp only
  rw [if_pos hmode]
  generalize s.storeStep i 1 x _ = v at *
  have hnext : (v.slotsAt i).next = some (clampI (s.loopPar i).lo (s.loopPar i).hi (s.loopPar i).manual) :=
    (congrArg SlotSt.next hslot).trans (congrArg some hout)
  have hprev : (v.slotsAt i).xprev = x := congrArg SlotSt.xprev hslot
  split
  · exact ⟨hnext, hx, hprev, hcount⟩
  · have hkept := v.slotsKept_setSup i 0 i
    have hwrites := (State.writes_setSup (List.Subset.refl _) v i 0).mpr (DictIn.refl _ v.dict)
    refine ⟨(congrArg (·.1) hkept).trans hnext, (hwrites.int (by decide) (by simp [slotIx])).trans hx,
      (congrArg (fun p => p.2.2.1) hkept).trans hprev, (hwrites.nat (by decide) (by simp [slotIx])).trans hcount⟩

/-- The law's result of a step of slot `i` with the measurement `x`. -/
def State.lawAt (s : State) (i : Nat) (x : Int) : LoopRes :=
  loopLaw (s.loopPar i) (s.slotsAt i) ((s.slotsAt i).modeAt == 1) x (s.int (slotIx i) 0x1E) (s.int (slotIx i) 0x20)
    (s.source i (s.nat (slotIx i) 5) (s.slotsAt i).shaftBase.2)

/-- In automatic mode a step leaves what the law computes, unless a fault action is in force. -/
theorem State.stepOn_automatic {x : Int} (hmode : s.nat (slotIx i) 1 = 2) :
    (((s.stepOn i x).slotsAt i).acting = false → ((s.stepOn i x).slotsAt i).next = some (s.lawAt i x).o) ∧
      (s.stepOn i x).int (slotIx i) 0x1E = (s.lawAt i x).sp ∧ (s.stepOn i x).int (slotIx i) 0x1F = (s.lawAt i x).e ∧
      (s.stepOn i x).int (slotIx i) 0x20 = (s.lawAt i x).i ∧ (s.stepOn i x).int (slotIx i) 0x1D = x ∧
      (s.stepOn i x).nat (slotIx i) 0x22 = (s.nat (slotIx i) 0x22 ||| (s.lawAt i x).flags) := by
  obtain ⟨hx, hsp, he, hint, -, hflags, hslot⟩ := s.storeStep_shows i 2 x (s.lawAt i x)
  have hstep : s.stepOn i x =
      let u := (((s.storeStep i 2 x (s.lawAt i x)).slowWindow i).supervise i
        (s.source i (s.nat (slotIx i) 5) (s.slotsAt i).shaftBase.2).isSome).actNow i (s.lawAt i x).o
      if i < 64 then u.lockRefresh (i / 2) else u := by
    unfold State.stepOn
    exact if_neg (by omega)
  have hnext : ((s.storeStep i 2 x (s.lawAt i x)).slotsAt i).next = some (s.lawAt i x).o := congrArg SlotSt.next hslot
  rw [hstep]
  dsimp only
  generalize (s.source i (s.nat (slotIx i) 5) (s.slotsAt i).shaftBase.2).isSome = ok
  generalize s.storeStep i 2 x (s.lawAt i x) = v at *
  have hslots : v.SlotsKept ((v.slowWindow i).supervise i ok) := (v.slotsKept_slowWindow i).trans
      (State.slotsKept_supervise _ i ok)
  have hwrites : DictIn [.column 0x2200 1, .column 0x2200 2, .column 0x2200 3, .column 0x2680 0xF, .column 0x2680 0x10,
      .column 0x3000 0x23, .column 0x3000 0x27, .column 0x3150 0x17, .column 0x4010 4, .column 0x7020 5, .entry 0x4200
          1]
      v.dict ((v.slowWindow i).supervise i ok).dict := by simp [DictIn.refl]
  generalize (v.slowWindow i).supervise i ok = w at *
  have hsupervised : (w.slotsAt i).next = some (s.lawAt i x).o := (congrArg (·.1) (hslots i)).trans hnext
  have hacted : ((w.actNow i (s.lawAt i x).o).slotsAt i).acting = false →
      ((w.actNow i (s.lawAt i x).o).slotsAt i).next = some (s.lawAt i x).o := by
    unfold State.actNow
    split
    · next hon =>
      intro hoff
      have hat := congrArg SlotSt.acting (w.slotsAt_put_self i { w.slotsAt i with next := some (w.actionOut i (s.lawAt i x).o) })
      exact absurd (hon.symm.trans (hat.symm.trans hoff)) (by decide)
    · exact fun _ => hsupervised
  have hactedDict : (w.actNow i (s.lawAt i x).o).dict = w.dict := State.dict_actNow ..
  generalize w.actNow i (s.lawAt i x).o = y at *
  have hall (z : State) (hz : z.slots = y.slots) (hzd : DictIn [.column 0x2200 3] y.dict z.dict) :
      ((z.slotsAt i).acting = false → (z.slotsAt i).next = some (s.lawAt i x).o) ∧ z.int (slotIx i) 0x1E =
          (s.lawAt i x).sp ∧
        z.int (slotIx i) 0x1F = (s.lawAt i x).e ∧ z.int (slotIx i) 0x20 = (s.lawAt i x).i ∧ z.int (slotIx i) 0x1D = x ∧
        z.nat (slotIx i) 0x22 = (s.nat (slotIx i) 0x22 ||| (s.lawAt i x).flags) := by
    have hzat : z.slotsAt i = y.slotsAt i := congrArg (fun l => tgetD l ({} : SlotSt) i) hz
    rw [hactedDict] at hzd
    have hzint {b : Nat} (hb : b < 256) (h1 : ∀ p ∈ [Place.column 0x2200 3], ¬ p.has (slotIx i) b)
        (h2 : ∀ p ∈ [Place.column 0x2200 1, .column 0x2200 2, .column 0x2200 3, .column 0x2680 0xF, .column 0x2680 0x10,
          .column 0x3000 0x23, .column 0x3000 0x27, .column 0x3150 0x17, .column 0x4010 4, .column 0x7020 5, .entry
              0x4200 1],
          ¬ p.has (slotIx i) b) : z.int (slotIx i) b = v.int (slotIx i) b := (hzd.int hb h1).trans (hwrites.int hb h2)
    rw [hzat, hzint (by decide) (by simp) (by simp [slotIx]), hzint (by decide) (by simp) (by simp [slotIx]),
      hzint (by decide) (by simp) (by simp [slotIx]), hzint (by decide) (by simp) (by simp [slotIx])]
    exact ⟨hacted, hsp, he, hint, hx,
        (congrArg Int.toNat (hzint (by decide) (by simp) (by simp [slotIx]))).trans hflags⟩
  split
  · exact hall _ (((State.within_lockRefresh (List.Subset.refl _) y (i / 2)).mpr (State.within_refl _ _)) .slots (by simp))
      ((State.writes_lockRefresh (List.Subset.refl _) y (i / 2)).mpr (DictIn.refl _ _))
  · exact hall _ rfl (DictIn.refl _ _)

end Sys2Proof.Machine

/-! PROOF. The steps of the loops follow the law (R341, R342, R344, R348, R349, R353, R356). -/

namespace Sys2Proof.Machine

variable {s t u : State} {i : Nat}

/-! ### The boundary and the measurement -/

/-- A boundary leaves whether the slot is dead. -/
theorem State.dead_boundary (s : State) (i : Nat) : ((s.boundary i).slotsAt i).dead = (s.slotsAt i).dead := by
  refine (congrArg (fun p => p.2.2.2) (s.slotsKept_boundary i i)).trans ?_
  show ((s.takeMove i).slotsAt i).dead = _
  unfold State.takeMove
  split
  · next p _ =>
    have hput := congrArg SlotSt.dead (s.slotsAt_put_self i { s.slotsAt i with moveTo := none })
    dsimp only
    split
    · exact hput
    · exact (congrArg (fun l => (tgetD l ({} : SlotSt) i).dead) (State.slots_moveSlot _ i p)).trans hput
  · rfl

/-- A boundary leaves a slot's mode and its sources. -/
theorem State.nat_boundary (s : State) (hi : i < 88) {b : Nat} (hb : b < 256 ∧ b ≠ 0x18 ∧ b ≠ 0x29) :
    (s.boundary i).nat (slotIx i) b = s.nat (slotIx i) b := by
  have hwrites := (State.writes_boundary (List.Subset.refl _) s i).mpr (DictIn.refl _ s.dict)
  exact hwrites.nat hb.1 (by simp [slotIx]; omega)

theorem State.within_boundary' (s : State) (i : Nat) : s.Within [.dict, .slots, .pool] (s.boundary i) := by simp

/-- A measurement leaves the entries of a slot. -/
theorem State.nat_takeInput (s : State) (hi : i < 88) (src : Nat) (codes : List Int) {b : Nat} (hb : b < 256) :
    (s.takeInput src codes).nat (slotIx i) b = s.nat (slotIx i) b := by
  unfold State.takeInput
  split
  · next c _ =>
    exact ((State.writes_convertAll (List.Subset.refl _) s c codes).mpr (DictIn.refl _ s.dict)).nat hb (by simp [slotIx]; omega)
  · split
    · refine congrArg (fun v => (valInt v).toNat) (State.val_put_ne _ _ _ _ _ _ ?_)
      unfold dkey slotIx
      omega
    · rfl
  · rfl

theorem State.slots_takeInput (s : State) (src : Nat) (codes : List Int) : (s.takeInput src codes).slots = s.slots :=
  ((State.within_takeInput (List.Subset.refl _) s src codes).mpr (State.within_refl _ _)) .slots (by simp)

/-- A SENSE source is converted. -/
theorem State.takeInput_sense (s : State) {c : Nat} (hc : c < 64) (codes : List Int) :
    s.takeInput (0x0200 + c) codes = s.convertAll c codes := by
  have hch : s.measureChannel (0x0200 + c) = some c := by
    unfold State.measureChannel
    rw [show (0x0200 + c) / 256 = 2 by omega, show (0x0200 + c) % 256 = c by omega]
    rfl
  unfold State.takeInput
  simp only [hch]

theorem State.source_sense (s : State) (i : Nat) {c : Nat} (hc : c < 64) (base : Int) :
    s.source i (0x0200 + c) base = if (s.sensesAt c).clipped then none else some (s.int (0x3110 + c) 5) := by
  unfold State.source
  rw [show (0x0200 + c) / 256 = 2 by omega, show (0x0200 + c) % 256 = c by omega]
  rfl

/-- A conversion shows its code, held within its range, and says whether it was. -/
theorem State.convert_shows (s : State) (c n : Nat) (code : Int) :
    ((s.convert c n code).sensesAt c).clipped = (clampI (-32768) 32767 code != code) ∧
      (s.convert c n code).int (0x3110 + c) 6 = clampI (-32768) 32767 code := by
  have hput (v : State) (y : SenseSt) (a b : Int) :
      ((((v.sensesPut c y).putI (0x3110 + c) 6 a).putI (0x3110 + c) 5 b).sensesAt c) = y ∧
        (((v.sensesPut c y).putI (0x3110 + c) 6 a).putI (0x3110 + c) 5 b).int (0x3110 + c) 6 = a :=
    ⟨tgetD_tput_self .., (State.int_putI_sub _ _ _ (by decide)).trans (State.int_putI ..)⟩
  have hcount (v : State) : (v.bump (0x3110 + c) 9).sensesAt c = v.sensesAt c ∧
      (v.bump (0x3110 + c) 9).int (0x3110 + c) 6 = v.int (0x3110 + c) 6 := ⟨rfl, State.int_putN_sub _ _ _ (by decide)⟩
  unfold State.convert
  dsimp only
  split
  · rw [(hput _ _ _ _).1, (hput _ _ _ _).2]
    refine ⟨?_, rfl⟩
    split <;> rfl
  · rw [(hcount _).1, (hcount _).2, (hput _ _ _ _).1, (hput _ _ _ _).2]
    refine ⟨?_, rfl⟩
    split <;> rfl

/-! ### The step after its boundary -/

/-- A live slot in a mode, not at the end of its stop ramp, steps. -/
theorem loopStep_steps (i : SlotId) (earlier : List Int) (latest : Option Int) (hlive : (s.slotsAt i.val).dead = false)
    (hmode : s.nat (slotIx i.val) 1 ≠ 0) (hramp : 64 ≤ i.val ∨ (s.mirAt (i.val / 2)).phase ≠ 6) :
    exec (.loopStep i earlier latest) s = .next (
      let v := (s.boundary i.val).takeInput (s.nat (slotIx i.val) 4) (earlier ++ latest.toList)
      match v.source i.val (s.nat (slotIx i.val) 4) (v.slotsAt i.val).shaftBase.1 with
      | none => (v.setFlag (slotIx i.val) 0x22 12 true).bump (slotIx i.val) 0x26
      | some x => (v.keepBack i.val).stepOn i.val x) := by
  have hmir : (s.boundary i.val).mirAt (i.val / 2) = s.mirAt (i.val / 2) :=
    congrArg (fun l => tgetD l ({} : MirSt) (i.val / 2)) (s.within_boundary' i.val .mir (by simp))
  have hslots := (s.boundary i.val).slots_takeInput (s.nat (slotIx i.val) 4) (earlier ++ latest.toList)
  have hslot : ((s.boundary i.val).takeInput (s.nat (slotIx i.val) 4) (earlier ++ latest.toList)).slotsAt i.val =
      (s.boundary i.val).slotsAt i.val := congrArg (fun l => tgetD l ({} : SlotSt) i.val) hslots
  rw [exec_loopStep]
  unfold State.stepFrom
  rw [s.dead_boundary, s.nat_boundary i.isLt (by decide), s.nat_boundary i.isLt (by decide), hmir, if_neg (by simp [hlive]),
    if_neg hmode, if_neg (by omega)]
  dsimp only
  rw [hslot] <;> rfl

theorem State.convertAll_one (s : State) (c : Nat) (code : Int) : ∃ n, s.convertAll c [code] = s.convert c n code :=
    ⟨_, rfl⟩

/-- A step whose conversion is out of range is skipped and counted. -/
theorem loopStep_clipped (i : SlotId) {c : Nat} (hc : c < 64) (code : Int) (hlive : (s.slotsAt i.val).dead = false)
    (hmode : s.nat (slotIx i.val) 1 ≠ 0) (hramp : 64 ≤ i.val ∨ (s.mirAt (i.val / 2)).phase ≠ 6)
    (hsource : s.nat (slotIx i.val) 4 = 0x0200 + c) (hrange : code < -32768 ∨ 32767 < code) :
    exec (.loopStep i [] (some code)) s = .next
      ((((s.boundary i.val).convertAll c [code]).setFlag (slotIx i.val) 0x22 12 true).bump (slotIx i.val) 0x26) := by
  have hexec := loopStep_steps i [] (some code) hlive hmode hramp
  have hclamp : (clampI (-32768) 32767 code != code) = true := by
    unfold clampI
    simp only [bne_iff_ne]
    omega
  have hclipped : (((s.boundary i.val).convertAll c [code]).sensesAt c).clipped = true := by
    obtain ⟨n, hn⟩ := (s.boundary i.val).convertAll_one c code
    rw [hn, (State.convert_shows ..).1, hclamp]
  simp only [hsource, State.source_sense _ _ hc, State.takeInput_sense _ hc, Option.toList_some, List.nil_append,
      hclipped,
    if_true] at hexec
  exact hexec

/-- A conversion in range is shown, whatever the step makes of it. -/
theorem loopStep_converts (i : SlotId) {c : Nat} (hc : c < 64) (code : Int) (hlive : (s.slotsAt i.val).dead = false)
    (hmode : s.nat (slotIx i.val) 1 ≠ 0) (hramp : 64 ≤ i.val ∨ (s.mirAt (i.val / 2)).phase ≠ 6)
    (hsource : s.nat (slotIx i.val) 4 = 0x0200 + c) (hlow : -32768 ≤ code) (hhigh : code ≤ 32767) :
    Completes (.loopStep i [] (some code)) s (fun t => t.int (0x3110 + c) 6 = code) := by
  have hexec := loopStep_steps i [] (some code) hlive hmode hramp
  have hclamp : clampI (-32768) 32767 code = code := by
    unfold clampI
    omega
  have hshown : ((s.boundary i.val).convertAll c [code]).int (0x3110 + c) 6 = code := by
    obtain ⟨n, hn⟩ := (s.boundary i.val).convertAll_one c code
    rw [hn, (State.convert_shows ..).2, hclamp]
  simp only [hsource, State.takeInput_sense _ hc, Option.toList_some, List.nil_append] at hexec
  generalize (s.boundary i.val).convertAll c [code] = v at *
  refine ⟨_, hexec, ?_⟩
  have hskip : ((v.setFlag (slotIx i.val) 0x22 12 true).bump (slotIx i.val) 0x26).int (0x3110 + c) 6 = code := by
    refine (State.int_putN_ne _ _ ?_).trans ((State.int_putN_ne v _ ?_).trans hshown) <;>
      exact dkey_ne (by decide) (by decide) fun _ => by decide
  have hstep (x : Int) : ((v.keepBack i.val).stepOn i.val x).int (0x3110 + c) 6 = code := by
    have hwrites := (State.writes_stepOn (List.Subset.refl _) (v.keepBack i.val) i.val x).mpr (DictIn.refl _ v.dict)
    exact (hwrites.int (by decide) (by simp)).trans hshown
  dsimp only
  split
  · exact hskip
  · exact hstep _

/-! ### The output -/

/-- What a write of an output shows. -/
theorem State.writeOut_shows (s : State) (i : Nat) (o : Int) : (s.writeOut i o).int (slotIx i) 0x21 = o ∧
    ((s.writeOut i o).slotsAt i).next = (s.slotsAt i).next ∧ (s.writeOut i o).mem = s.mem ∧ (s.writeOut i o).out =
        s.out := by
  have hparts : s.Within [.dict, .slots, .mir] (s.writeOut i o) := by simp
  refine ⟨?_, congrArg (·.1) (s.slotsKept_writeOut i o i), State.mem_of_within hparts (by simp) (by simp), hparts .out (by simp)⟩
  have hdac (u : State) (j : Nat) : DictIn [.column 0x3110 7, .column 0x3110 8] u.dict (u.refreshDac j).dict := by
    simp [DictIn.refl]
  have hdrive (u : State) (k : Nat) (a : Int) : DictIn [.column 0x3150 5] u.dict (u.setDrive k a).dict := by
    simp [DictIn.refl]
  unfold State.writeOut
  dsimp only
  refine ((hdac _ i).int (by decide) (by simp)).trans ?_
  split
  · exact ((hdrive _ _ _).int (by decide) (by simp)).trans (State.int_putI ..)
  · exact State.int_putI ..

/-- A slot that is off writes 0, and holds nothing. -/
theorem State.slotOff_shows (s : State) (i : Nat) : (s.slotOff i).int (slotIx i) 0x21 = 0 ∧ (s.slotOff i).int
    (slotIx i) 0x20 = 0 ∧
    ((s.slotOff i).slotsAt i).next = none ∧ (s.slotOff i).mem = s.mem := by
  have hmem : (s.slotOff i).mem = s.mem := by
    have hparts : s.Within [.dict, .slots, .mir] (s.slotOff i) := by simp
    exact State.mem_of_within hparts (by simp) (by simp)
  have hlast (u : State) (h21 : u.int (slotIx i) 0x21 = 0) (h20 : u.int (slotIx i) 0x20 = 0)
      (hnext : (u.slotsAt i).next = none) :
      (if i < 64 ∧ u.nat (slotIx i) 0x23 = 4 then u else u.putN (slotIx i) 0x23 0).int (slotIx i) 0x21 = 0 ∧
      (if i < 64 ∧ u.nat (slotIx i) 0x23 = 4 then u else u.putN (slotIx i) 0x23 0).int (slotIx i) 0x20 = 0 ∧
      ((if i < 64 ∧ u.nat (slotIx i) 0x23 = 4 then u else u.putN (slotIx i) 0x23 0).slotsAt i).next = none := by
    split
    · exact ⟨h21, h20, hnext⟩
    · exact ⟨(State.int_putN_sub _ _ _ (by decide)).trans h21, (State.int_putN_sub _ _ _ (by decide)).trans h20, hnext⟩
  have hwritten (u : State) (hnext : (u.slotsAt i).next = none) (hint : u.int (slotIx i) 0x20 = 0) :
      (u.writeOut i 0).int (slotIx i) 0x20 = 0 ∧ ((u.writeOut i 0).slotsAt i).next = none := by
    have hwrites := (State.writes_writeOut (List.Subset.refl _) u i 0).mpr (DictIn.refl _ u.dict)
    exact ⟨(hwrites.int (by decide) (by simp)).trans hint, (State.writeOut_shows u i 0).2.1.trans hnext⟩
  have hoff : ((s.slotOff i).int (slotIx i) 0x21 = 0 ∧ (s.slotOff i).int (slotIx i) 0x20 = 0 ∧
      ((s.slotOff i).slotsAt i).next = none) := by
    unfold State.slotOff
    dsimp only
    generalize hx : ({ shaftBase := _, per := _, clamped := _, moveTo := _, dest := _ } : SlotSt) = x
    have hnone : x.next = none := by rw [← hx]
    obtain ⟨hint, hnext⟩ := hwritten (((s.slotsPut i x).putN (slotIx i) 1 0).putI (slotIx i) 0x20 0)
      ((congrArg SlotSt.next (State.slotsAt_put_self s i x)).trans hnone) (State.int_putI ..)
    exact hlast _ (State.writeOut_shows ..).1 hint hnext
  exact ⟨hoff.1, hoff.2.1, hoff.2.2, hmem⟩

theorem loopOutputWrite_clause (i : SlotId) (o : Int) (h : (s.slotsAt i.val).next = some o) :
    Completes (.loopOutputWrite i) s
        (fun t => t.int (slotIx i.val) 0x21 = o ∧ (t.slotsAt i.val).next = none ∧ t.mem = s.mem ∧
      t.out = s.out) := by
  have hexec : exec (.loopOutputWrite i) s =
      .next ((s.slotsPut i.val { s.slotsAt i.val with next := none, back := none }).writeOut i.val o) := by
    change execLoopOutputWrite i s = _
    unfold execLoopOutputWrite
    simp only [h]
  obtain ⟨hint, hnext, hmem, hout⟩ := (s.slotsPut i.val { s.slotsAt i.val with next := none, back := none }).writeOut_shows i.val o
  exact ⟨_, hexec, hint, hnext.trans (congrArg SlotSt.next (State.slotsAt_put_self ..)), hmem, hout⟩

end Sys2Proof.Machine

namespace Sys2Proof.Proofs
open Sys2Proof Sys2Proof.Machine

/-- Settles O41: a step of a dead slot, of one that is off, in manual mode and in automatic mode, and the write of an
    output. -/
theorem loopStepsFollowTheLaw : Obligations.LoopStepsFollowTheLaw := by
  unfold Obligations.LoopStepsFollowTheLaw
  intro i earlier latest code o s
  dsimp only
  refine ⟨fun hdead => ?_, fun hlive hoff => ?_, fun hlive hmode hramp => ⟨fun c hc hsource => ⟨fun hrange => ?_,
      fun hlow hhigh => ?_⟩,
    fun x hx => ?_⟩, fun hnone => ?_, loopOutputWrite_clause i o⟩
  · rw [exec_loopStep]
    exact congrArg Host.Outcome.next (if_pos ((s.dead_boundary i.val).trans hdead))
  · have hstep : (s.boundary i.val).stepFrom i.val (earlier ++ latest.toList) = (s.boundary i.val).slotOff i.val := by
      unfold State.stepFrom
      rw [s.dead_boundary, s.nat_boundary i.isLt (by decide), if_neg (by simp [hlive]), if_pos hoff]
    obtain ⟨hout, hint, hnext, hmem⟩ := (s.boundary i.val).slotOff_shows i.val
    rw [← hstep] at hout hint hnext hmem
    exact ⟨_, exec_loopStep i earlier latest s, hout, hint, hnext,
      hmem.trans (State.mem_of_within (s.within_boundary' i.val) (by simp) (by simp))⟩
  · exact loopStep_clipped i hc code hlive hmode hramp hsource hrange
  · exact loopStep_converts i hc code hlive hmode hramp hsource hlow hhigh
  · have hexec := loopStep_steps i earlier latest hlive hmode hramp
    simp only [hx] at hexec
    have hnat {b : Nat} (hb : b < 256 ∧ b ≠ 0x18 ∧ b ≠ 0x29) :
        (((s.boundary i.val).takeInput (s.nat (slotIx i.val) 4) (earlier ++ latest.toList)).keepBack i.val).nat
            (slotIx i.val) b =
          s.nat (slotIx i.val) b :=
      (State.nat_takeInput _ i.isLt _ _ hb.1).trans (s.nat_boundary i.isLt hb)
    refine ⟨fun hmanual hslew _ => ⟨_, hexec, ?_⟩, fun hauto => ⟨_, hexec, ?_⟩⟩
    · obtain ⟨hnext, hx, hprev, hcount⟩ := State.stepOn_manual (x := x) ((hnat (by decide)).trans hmanual) hslew
      exact ⟨hnext, hx, hprev, by rw [hcount, hnat (by decide)]⟩
    · have hlaw := State.stepOn_automatic (x := x) ((hnat (by decide)).trans hauto)
      unfold State.lawAt at hlaw
      rw [hnat (b := 5) (by decide)] at hlaw
      exact hlaw
  · change execLoopOutputWrite i s = _
    unfold execLoopOutputWrite
    simp only [hnone]

end Sys2Proof.Proofs

/-! PROOF. A mirror starts, rings, pulls in and is tracked (R360, R365, Table 10.9). -/

namespace Sys2Proof.Machine

variable {s t u : State} {k : Nat}

/-! ### Drive and frequency -/

theorem State.mirAt_setDrive (s : State) (k : Nat) (a : Int) : (s.setDrive k a).mirAt k = { s.mirAt k with drive := a } :=
  s.mirAt_put_self k _

theorem State.mirAt_setFreq (s : State) (k : Nat) (f : Rat) : (s.setFreq k f).mirAt k = { s.mirAt k with
    f := f, acc := (s.mirAt k).phaseAt (convIndex s.clk.up), accAt := convIndex s.clk.up, chirpLen := 0
        } := s.mirAt_put_self k _

theorem State.mirAt_chirp (s : State) (k : Nat) (f low : Rat) : ((s.chirp k f low).mirAt k).f = f ∧
    ((s.chirp k f low).mirAt k).phase = (s.mirAt k).phase ∧ ((s.chirp k f low).mirAt k).attempts = (s.mirAt k).attempts
        ∧
    ((s.chirp k f low).mirAt k).search = (s.mirAt k).search := by
  unfold State.chirp
  dsimp only
  rw [State.mirAt_put_self, State.mirAt_setFreq]
  exact ⟨rfl, rfl, rfl, rfl⟩

theorem State.mirAt_convertDac (s : State) (c k : Nat) : (s.convertDac c).mirAt k = s.mirAt k :=
  State.mirAt_eq (((State.within_convertDac (List.Subset.refl _) s c).mpr (State.within_refl _ _)) .mir (by simp)) k

/-- An attempt to excite a mirror: it chirps down from its highest frequency, counted, with the tracker searching. -/
theorem State.excite_shows (s : State) (k : Nat) : ((s.excite k).mirAt k).phase = 2 ∧
    ((s.excite k).mirAt k).attempts = (s.mirAt k).attempts + 1 ∧ ((s.excite k).mirAt k).search = (s.mirAt k).search ∧
    ((s.excite k).mirAt k).f = s.f32 (crs k) 0x0C ∧ (s.excite k).nat (0x3150 + k) 9 = 1 ∧
    (s.excite k).nat (0x3150 + k) 0x18 = min (s.nat (0x3150 + k) 0x18 + 1) 0xFFFFFFFF := by
  have hhigh (x : MirSt) : ((s.mirPut k x).bump (0x3150 + k) 0x18).f32 (crs k) 0x0C = s.f32 (crs k) 0x0C :=
    congrArg ratOfF32 (State.nat_bump_ne _ (dkey_ne (by decide) (by decide) fun _ => by decide))
  have hcount (x : MirSt) : ((s.mirPut k x).bump (0x3150 + k) 0x18).nat (0x3150 + k) 0x18 =
      min (s.nat (0x3150 + k) 0x18 + 1) 0xFFFFFFFF := State.nat_bump (s.mirPut k x) ..
  have hat (x : MirSt) : ((s.mirPut k x).bump (0x3150 + k) 0x18).mirAt k = x := s.mirAt_put_self k x
  unfold State.excite
  dsimp only
  rw [hhigh]
  generalize hx : ({ s.mirAt k with phase := 2, attempts := (s.mirAt k).attempts + 1 } : MirSt) = x
  have hcount := hcount x
  have hat := hat x
  generalize (s.mirPut k x).bump (0x3150 + k) 0x18 = v at *
  have hwrites (a : Int) (f low : Rat) : DictIn [.column 0x3110 7, .column 0x3110 8, .column 0x3150 1, .column 0x3150 5,
      .column 0x3150 9] v.dict ((((v.setDrive k a).chirp k f low).setTracker k trSearching).convertDac
          (2 * k)).dict := by
    simp [DictIn.refl]
  have hlast (y : State) (c : Nat) : DictIn [.column 0x3110 7, .column 0x3110 8] y.dict (y.convertDac c).dict := by
    simp [DictIn.refl]
  have htracker (y : State) (n : Nat) : (y.setTracker k n).mirAt k = y.mirAt k := rfl
  rw [State.mirAt_convertDac, htracker, (State.mirAt_chirp ..).1, (State.mirAt_chirp ..).2.1,
      (State.mirAt_chirp ..).2.2.1,
    (State.mirAt_chirp ..).2.2.2, State.mirAt_setDrive, hat, ← hx]
  refine ⟨rfl, rfl, rfl, rfl, ?_, ((hwrites _ _ _).nat (by decide) (by simp)).trans hcount⟩
  exact ((hlast _ _).nat (by decide) (by simp)).trans (State.nat_putN ..)

theorem excitationStart_clause (k : CourseId) (h : (s.mirAt k.val).phase = 1) : Completes (.excitationStart k) s
    (fun t =>
    (t.mirAt k.val).phase = 2 ∧ (t.mirAt k.val).attempts = (s.mirAt k.val).attempts + 1 ∧
    (t.mirAt k.val).f = s.f32 (crs k.val) 0x0C ∧ t.nat (0x3150 + k.val) 9 = 1 ∧
    t.nat (0x3150 + k.val) 0x18 = min (s.nat (0x3150 + k.val) 0x18 + 1) 0xFFFFFFFF) := by
  obtain ⟨hphase, hattempts, -, hf, htracker, hcount⟩ := s.excite_shows k.val
  exact ⟨_, congrArg Host.Outcome.next (if_pos h), hphase, hattempts, hf, htracker, hcount⟩

/-- The ring window: the mirror is left to ring, with no drive. -/
theorem ringWindowStart_clause (k : CourseId) (h : (s.mirAt k.val).phase = 2) : Completes (.ringWindowStart k) s
    (fun t =>
    (t.mirAt k.val).phase = 3 ∧ (t.mirAt k.val).drive = 0) := by
  refine ⟨_, congrArg Host.Outcome.next (if_pos h), ?_⟩
  dsimp only
  rw [State.mirAt_convertDac, State.mirAt_setFreq, State.mirAt_setDrive, State.mirAt_put_self]
  exact ⟨rfl, rfl⟩

/-! ### The end of the ring window -/

theorem exec_ringWindowEnd (k : CourseId) (m : RingMeas) (h : (s.mirAt k.val).phase = 3) :
    exec (.ringWindowEnd k m) s = .next (
      if s.ringFails k.val m then
        if 4 ≤ (s.mirAt k.val).attempts then s.startFailed k.val
        else (s.mirPut k.val { s.mirAt k.val with search := minR 100 (2 * (s.mirAt k.val).search) }).excite k.val
      else s.pullIn k.val m) := congrArg Host.Outcome.next (if_pos h)

/-- A failed attempt begins again with twice the search drive, of at most 100 %. -/
theorem ringWindowEnd_again (k : CourseId) (m : RingMeas) (h : (s.mirAt k.val).phase = 3)
    (hfails : s.ringFails k.val m = true)
    (hfew : (s.mirAt k.val).attempts < 4) : Completes (.ringWindowEnd k m) s (fun t =>
      (t.mirAt k.val).phase = 2 ∧ (t.mirAt k.val).attempts = (s.mirAt k.val).attempts + 1 ∧
      (t.mirAt k.val).search = min 100 (2 * (s.mirAt k.val).search)) := by
  have hexec := exec_ringWindowEnd k m h
  rw [if_pos hfails, if_neg (by omega)] at hexec
  obtain ⟨hphase, hattempts, hsearch, -⟩ :=
    (s.mirPut k.val { s.mirAt k.val with search := minR 100 (2 * (s.mirAt k.val).search) }).excite_shows k.val
  rw [State.mirAt_put_self] at hattempts hsearch
  refine ⟨_, hexec, hphase, hattempts, hsearch.trans ?_⟩
  show minR 100 (2 * (s.mirAt k.val).search) = _
  rw [min_def]
  rfl

theorem ringWindowEnd_lost (k : CourseId) (m : RingMeas) (h : (s.mirAt k.val).phase = 3)
    (hfails : s.ringFails k.val m = true)
    (hmany : 4 ≤ (s.mirAt k.val).attempts) : Completes (.ringWindowEnd k m) s (fun t => (t.mirAt k.val).failed = true)
        := by
  have hexec := exec_ringWindowEnd k m h
  rw [if_pos hfails, if_pos hmany] at hexec
  exact ⟨_, hexec, State.failed_declareFailed ..⟩

/-- A course that asks for no phase lock is not admitted to one. -/
theorem State.decideAdmission_none (h : s.asksPhaseLock k = false) : s.decideAdmission k true = s.setAdmitted k false
    := by
  have hno : s.admits k = false := by
    unfold State.admits
    rw [h]
    rfl
  unfold State.decideAdmission
  rw [hno]
  exact if_neg (by simp)

/-- Measurements of the mirror are no entries of its reference. -/
theorem State.asksPhaseLock_measured (s : State) (k : Nat) (a b : Rat) :
    (((s.putF (0x3150 + k) 2 a).putF (0x3150 + k) 3 b).takeFree).asksPhaseLock k = s.asksPhaseLock k := by
  have hput (u : State) {c d : Nat} (q : Rat) (hc : c < 256) (hd : d < 256) (hcd : c ≠ d) :
      (u.putF (0x3150 + k) c q).nat (refIx k) d = u.nat (refIx k) d :=
    congrArg (fun v => (valInt v).toNat) (State.val_put_ne _ _ _ _ _ _ (dkey_ne hd hc fun _ h => hcd h.symm))
  have hfree (u : State) (d : Nat) : u.takeFree.nat (refIx k) d = u.nat (refIx k) d := rfl
  unfold State.asksPhaseLock
  rw [hfree, hfree, hput _ _ (by decide) (by decide) (by decide), hput _ _ (by decide) (by decide) (by decide),
    hput _ _ (by decide) (by decide) (by decide), hput _ _ (by decide) (by decide) (by decide)]

/-- A course that is not admitted pulls in at the frequency `f`. -/
def State.pulled (s : State) (k : Nat) (f : Rat) : State :=
  ((s.mirPut k { s.mirAt k with phase := 4, setPoint := 0, rampAt := s.clk.up, lockRun := 0, ampRun := 0 }).setFreq k f).setTracker k
    trPulling

theorem State.pulled_shows (s : State) (k : Nat) (f : Rat) : ((s.pulled k f).mirAt k).phase = 4 ∧
    ((s.pulled k f).mirAt k).f = f ∧ ((s.pulled k f).mirAt k).setPoint = 0 ∧ (s.pulled k f).nat (0x3150 + k) 9 = 2 := by
  have htracker (y : State) (n : Nat) : (y.setTracker k n).mirAt k = y.mirAt k := rfl
  have hshown (y : State) : (y.setTracker k trPulling).nat (0x3150 + k) 9 = trPulling := State.nat_putN y ..
  unfold State.pulled
  rw [htracker, hshown, State.mirAt_setFreq, State.mirAt_put_self]
  exact ⟨rfl, rfl, rfl, rfl⟩

/-- The state of a mirror that has rung, before the consort decides on it. -/
def State.rung (s : State) (k : Nat) (m : RingMeas) : State :=
  ((s.putF (0x3150 + k) 2 (ringHz m.crossings)).putF (0x3150 + k) 3 (ringQ m (Config.freeRat s.free))).takeFree

/-- A mirror that pulls in, by its phase where the consort has admitted it. -/
def State.pulledIn (s : State) (k : Nat) (f : Rat) : State :=
  let u := s.mirPut k { s.mirAt k with phase := 4, setPoint := 0, rampAt := s.clk.up, lockRun := 0, ampRun := 0 }
  if (u.mirAt k).admitted then (u.setFreq k (u.consortHz k)).setTracker k trPhase
  else (u.setFreq k f).setTracker k trPulling

theorem State.pullIn_eq (s : State) (k : Nat) (m : RingMeas) :
    s.pullIn k m = ((s.rung k m).decideAdmission k true).pulledIn k (ringHz m.crossings) := (rfl)

theorem State.pulledIn_free (f : Rat) (h : (s.mirAt k).admitted = false) : s.pulledIn k f = s.pulled k f := by
  unfold State.pulledIn State.pulled
  dsimp only
  rw [State.mirAt_put_self, if_neg (by simp [h])]

/-- A mirror without phase lock pulls in at the frequency at which it rang. -/
theorem State.pullIn_shows (m : RingMeas) (h : s.asksPhaseLock k = false) : ((s.pullIn k m).mirAt k).phase = 4 ∧
    ((s.pullIn k m).mirAt k).f = ringHz m.crossings ∧ ((s.pullIn k m).mirAt k).setPoint = 0 ∧
    (s.pullIn k m).nat (0x3150 + k) 9 = 2 := by
  have hasks : (s.rung k m).asksPhaseLock k = false := (s.asksPhaseLock_measured k _ _).trans h
  have hadmitted (v : State) : ((v.setAdmitted k false).mirAt k).admitted = false :=
    congrArg MirSt.admitted (State.mirAt_put_self v k _)
  rw [State.pullIn_eq, State.decideAdmission_none hasks, State.pulledIn_free _ (hadmitted _)]
  exact State.pulled_shows _ k _

/-! ### Tracking -/

/-- Tracking in free mode: the lag is taken, and the frequency moves by gain times the error, of at most 20 ppm. -/
theorem State.track_shows (s : State) (k : Nat) (lag : Rat) : ((s.track k lag).mirAt k).lag = lag ∧
    (s.nat (0x3150 + k) 9 ≠ 4 → ((s.track k lag).mirAt k).f = (s.mirAt k).f +
      clampR (-((s.mirAt k).f / 50000)) ((s.mirAt k).f / 50000) (s.f32 (0x3150 + k) 8 * (90 - lag))) := by
  have hp3 (v : State) : ((v.evalP3 k lag).mirAt k).lag = (v.mirAt k).lag ∧ ((v.evalP3 k lag).mirAt k).f =
      (v.mirAt k).f ∧
      (∀ b, (v.evalP3 k lag).nat (0x3150 + k) b = v.nat (0x3150 + k) b) :=
    ⟨(congrArg MirSt.lag (State.mirAt_put_self v k _) :), (congrArg MirSt.f (State.mirAt_put_self v k _) :),
        fun _ => rfl⟩
  have hfirst : ((s.mirPut k { s.mirAt k with lag := lag }).putF (0x3150 + k) 6 lag).mirAt k = { s.mirAt k with lag := lag } :=
    State.mirAt_put_self s k _
  have hnat {b : Nat} (hb : b < 256 ∧ b ≠ 6) :
      ((s.mirPut k { s.mirAt k with lag := lag }).putF (0x3150 + k) 6 lag).nat (0x3150 + k) b = s.nat (0x3150 + k) b :=
    congrArg (fun v => (valInt v).toNat) (State.val_put_ne _ _ _ _ _ _ (dkey_ne hb.1 (by decide) fun _ => hb.2))
  have hfree (v : State) : ((v.trackFree k lag).mirAt k).lag = (v.mirAt k).lag ∧ ((v.trackFree k lag).mirAt k).f =
      (v.mirAt k).f + clampR (-((v.mirAt k).f / 50000)) ((v.mirAt k).f / 50000) (v.f32 (0x3150 + k) 8 * (90 - lag)) :=
          by
    have htracker (y : State) (n : Nat) : (y.setTracker k n).mirAt k = y.mirAt k := rfl
    unfold State.trackFree
    dsimp only
    rw [htracker, State.mirAt_setFreq, State.mirAt_put_self]
    exact ⟨rfl, rfl⟩
  have hphase (v : State) : ((v.trackPhase k).mirAt k).lag = (v.mirAt k).lag := by
    have hput (y : State) (z : Int) : (y.putI (refIx k) 0x14 z).mirAt k = y.mirAt k := rfl
    unfold State.trackPhase
    dsimp only
    rw [hput, State.mirAt_setFreq, State.mirAt_put_self]
  have hlast (v : State) (q : Rat) : (((v.putF (0x3150 + k) 2 q).takeFree.followG0 k).lockRefresh k).mirAt k =
      ((v.putF (0x3150 + k) 2 q).takeFree.followG0 k).mirAt k :=
    State.mirAt_eq (((State.within_lockRefresh (List.Subset.refl _) _ k).mpr (State.within_refl _ _)) .mir (by simp)) k
  have hg0 (v : State) : ((v.followG0 k).mirAt k).lag = (v.mirAt k).lag ∧ ((v.followG0 k).mirAt k).f = (v.mirAt k).f :=
      by
    unfold State.followG0
    dsimp only
    split
    · have hput (x : MirSt) (g : Rat) : ((v.mirPut k x).putF (0x3150 + k) 0x1B g).mirAt k = x := State.mirAt_put_self v
        k x
      rw [hput]
      exact ⟨rfl, rfl⟩
    · rw [State.mirAt_put_self]
      exact ⟨rfl, rfl⟩
  have hresonance (v : State) (q : Rat) : ((v.putF (0x3150 + k) 2 q).takeFree).mirAt k = v.mirAt k := rfl
  unfold State.track
  dsimp only
  rw [hlast, (hg0 _).1, (hg0 _).2, hresonance]
  generalize (s.mirPut k { s.mirAt k with lag := lag }).putF (0x3150 + k) 6 lag = v at *
  obtain ⟨hlag, hf, hkept⟩ := hp3 v
  generalize v.evalP3 k lag = w at *
  rw [hfirst] at hlag hf
  refine ⟨?_, fun hnot => ?_⟩
  · split
    · rw [hphase, hlag]
    · rw [(hfree w).1, hlag]
  · have htracker : ¬ w.tracker k = trPhase := by
      unfold State.tracker trPhase
      rw [hkept, hnat (by decide)]
      exact hnot
    have hgain : w.f32 (0x3150 + k) 8 = s.f32 (0x3150 + k) 8 := congrArg ratOfF32 ((hkept 8).trans (hnat (by decide)))
    rw [if_neg htracker, (hfree w).2, hf, hgain]

/-- A mirror that is tracked on a forward bow takes the lag at the model centre. -/
theorem trackerUpdate_clause (k : CourseId) (n : Snapshot) (hphase : (s.mirAt k.val).phase = 4)
    (hclk : s.clk.refclk = true)
    (hsnap : (s.bowAt k.val).snap = some n) (hforward : (s.bowAt k.val).forward = true) :
    exec (.trackerUpdate k (s.bowAt k.val).bow) s = .next (s.track k.val
      (s.lagAt k.val (n.c + (((s.bowAt k.val).bow : Int) - (n.bow : Int) : Int) * n.hp))) := by
  change execTrackerUpdate k _ s = _
  unfold execTrackerUpdate
  simp only [hsnap]
  rw [if_pos ⟨hphase, hclk, hforward, trivial⟩]
  rfl

theorem trackerUpdate_none (k : CourseId) (bow : Nat) (h : (s.mirAt k.val).phase ≠ 4 ∨ s.clk.refclk = false ∨
    (s.bowAt k.val).snap = none ∨ (s.bowAt k.val).forward = false ∨ (s.bowAt k.val).bow ≠ bow) :
    exec (.trackerUpdate k bow) s = .next s := by
  change execTrackerUpdate k bow s = _
  unfold execTrackerUpdate
  split
  · next n hsnap =>
    refine congrArg Host.Outcome.next (if_neg ?_)
    rintro ⟨hphase, hclk, hforward, hbow⟩
    rcases h with h | h | h | h | h
    · exact h hphase
    · exact absurd (hclk.symm.trans h) (by decide)
    · exact absurd (hsnap.symm.trans h) (by simp)
    · exact absurd (hforward.symm.trans h) (by decide)
    · exact h hbow
  · rfl

end Sys2Proof.Machine

/-! PROOF. A mirror that fails, and one that is released (R358, R365, R367, R368, R371, Table 10.9). -/

namespace Sys2Proof.Machine

variable {s t u : State} {i j k : Nat}

/-! ### The slots of a mirror that has failed -/

/-- A loop slot whose mirror is declared failed: its supervision reads 4. -/
theorem State.setSup_lost (s : State) (i : Nat) : (s.setSup i 4).nat (slotIx i) 0x23 = 4 ∧
    DictIn [.entry (slotIx i) 0x23] s.dict (s.setSup i 4).dict ∧ (s.setSup i 4).mir = s.mir ∧ (s.setSup i 4).mem =
        s.mem := by
  have hput (u : State) : (u.putN (slotIx i) 0x23 4).nat (slotIx i) 0x23 = 4 ∧
      DictIn [.entry (slotIx i) 0x23] u.dict (u.putN (slotIx i) 0x23 4).dict := ⟨State.nat_putN .., by simp [State.putN, DictIn.refl]⟩
  by_cases h : s.nat (slotIx i) 0x23 = 4
  · have hstays : s.setSup i 4 = s := if_pos h
    rw [hstays]
    exact ⟨h, DictIn.refl _ _, rfl, rfl⟩
  · have hlost : s.setSup i 4 = (if s.nat (slotIx i) 0x23 = 3 then s else s.slotsPut i { s.slotsAt i with
        preFault := s.int (slotIx i) 0x21 }).putN (slotIx i) 0x23 4 := if_neg h
    rw [hlost]
    split
    · exact ⟨(hput s).1, (hput s).2, rfl, rfl⟩
    · exact ⟨(hput _).1, (hput (s.slotsPut i _)).2, rfl, rfl⟩

/-! ### A mirror declared failed -/

/-- A mirror declared failed, before its course stops. -/
def State.mirrorLost (s : State) (k : Nat) : State :=
  let u := s.bump (0x3150 + k) 0x1A
  let v := ((if u.cst k = 1 then u.bump (0x3150 + k) 0x19 else u).setSup (2 * k) 4).setSup (2 * k + 1) 4
  v.mirPut k { v.mirAt k with failed := true }

theorem State.declareFailed_eq (s : State) (k : Nat) :
    s.declareFailed k = if (s.mirrorLost k).cst k = 4 then s.mirrorLost k else (s.mirrorLost k).toStopped k := (rfl)

/-- The entries of a mirror declared failed. -/
def lostPlaces (k : Nat) : List Place :=
  [.entry (0x3150 + k) 0x19, .entry (0x3150 + k) 0x1A, .entry (slotIx (2 * k)) 0x23, .entry (slotIx (2 * k + 1)) 0x23]

theorem State.mirrorLost_writes (s : State) (k : Nat) : DictIn (lostPlaces k) s.dict (s.mirrorLost k).dict := by
  have hcount (u : State) (b : Nat) (hb : b = 0x19 ∨ b = 0x1A) : DictIn (lostPlaces k) u.dict
      (u.bump (0x3150 + k) b).dict := by
    obtain rfl | rfl := hb <;> simp [State.bump, State.addSat, State.putN, lostPlaces, DictIn.refl]
  have hslot (u : State) (i : Nat) (hi : i = 2 * k ∨ i = 2 * k + 1) : DictIn (lostPlaces k) u.dict (u.setSup i 4).dict
      :=
    (u.setSup_lost i).2.1.mono (by obtain rfl | rfl := hi <;> simp [lostPlaces])
  have hslots (u : State) : DictIn (lostPlaces k) u.dict ((u.setSup (2 * k) 4).setSup (2 * k + 1) 4).dict :=
    (hslot u _ (Or.inl rfl)).trans (hslot _ _ (Or.inr rfl))
  have hput (u : State) (x : MirSt) : (u.mirPut k x).dict = u.dict := rfl
  unfold State.mirrorLost
  dsimp only
  rw [hput]
  split
  · exact ((hcount s _ (Or.inr rfl)).trans (hcount _ _ (Or.inl rfl))).trans (hslots _)
  · exact (hcount s _ (Or.inr rfl)).trans (hslots _)

/-- What a failure of mirror `k` leaves: the mirror failed, both its slots, and the failure counted. -/
def State.MirrorFailed (s t : State) (k : Nat) : Prop :=
  (t.mirAt k).failed = true ∧ t.nat (0x3150 + k) 0x1A = min (s.nat (0x3150 + k) 0x1A + 1) 0xFFFFFFFF ∧
    t.nat (slotIx (2 * k)) 0x23 = 4 ∧ t.nat (slotIx (2 * k + 1)) 0x23 = 4 ∧
    t.cst k = (if s.cst k = 4 then 4 else 0) ∧ t.mem = s.mem

theorem State.mirrorLost_shows (s : State) (k : Nat) : ((s.mirrorLost k).mirAt k).failed = true ∧
    (s.mirrorLost k).nat (0x3150 + k) 0x1A = min (s.nat (0x3150 + k) 0x1A + 1) 0xFFFFFFFF ∧
    (s.mirrorLost k).nat (slotIx (2 * k)) 0x23 = 4 ∧ (s.mirrorLost k).nat (slotIx (2 * k + 1)) 0x23 = 4 ∧
    (s.mirrorLost k).cst k = s.cst k ∧ (s.mirrorLost k).mem = s.mem ∧
    (s.cst k = 1 → (s.mirrorLost k).nat (0x3150 + k) 0x19 = min (s.nat (0x3150 + k) 0x19 + 1) 0xFFFFFFFF) := by
  have hcst : (s.mirrorLost k).cst k = s.cst k :=
    State.cst_of_dictIn (s.mirrorLost_writes k) (by simp [lostPlaces, crs, slotIx])
  have hbumped : (s.bump (0x3150 + k) 0x1A).cst k = s.cst k :=
    State.nat_bump_ne s (dkey_ne (by decide) (by decide) fun _ => by decide)
  have hslots (u : State) : ((u.setSup (2 * k) 4).setSup (2 * k + 1) 4).nat (slotIx (2 * k)) 0x23 = 4 ∧
      ((u.setSup (2 * k) 4).setSup (2 * k + 1) 4).nat (slotIx (2 * k + 1)) 0x23 = 4 ∧
      ((u.setSup (2 * k) 4).setSup (2 * k + 1) 4).mem = u.mem ∧
      (∀ b, b = 0x19 ∨ b = 0x1A → ((u.setSup (2 * k) 4).setSup (2 * k + 1) 4).nat (0x3150 + k) b = u.nat (0x3150 + k)
          b) := by
    obtain ⟨hfirst, hd, -, hmem⟩ := u.setSup_lost (2 * k)
    obtain ⟨hsecond, hd', -, hmem'⟩ := (u.setSup (2 * k) 4).setSup_lost (2 * k + 1)
    refine ⟨(hd'.nat (by decide) (by simp [slotIx])).trans hfirst, hsecond, hmem'.trans hmem, fun b hb => ?_⟩
    exact (hd'.nat (by omega) (by simp [slotIx]; omega)).trans (hd.nat (by omega) (by simp [slotIx]; omega))
  have hput (v : State) (x : MirSt) (hx : x.failed = true) : ((v.mirPut k x).mirAt k).failed = true :=
    (congrArg MirSt.failed (State.mirAt_put_self v k x)).trans hx
  have hkept (v : State) (x : MirSt) : (∀ i b, (v.mirPut k x).nat i b = v.nat i b) ∧ (v.mirPut k x).mem = v.mem :=
      ⟨fun _ _ => rfl, rfl⟩
  refine ⟨hput _ _ rfl, ?_, ?_, ?_, hcst, ?_, fun hstarting => ?_⟩
  all_goals
    unfold State.mirrorLost
    dsimp only
  · rw [(hkept _ _).1, (hslots _).2.2.2 _ (Or.inr rfl)]
    split
    · rw [State.nat_bump_ne _ (dkey_sub_ne _ (by decide)), State.nat_bump]
    · rw [State.nat_bump]
  · rw [(hkept _ _).1, (hslots _).1]
  · rw [(hkept _ _).1, (hslots _).2.1]
  · rw [(hkept _ _).2, (hslots _).2.2.1]
    split <;> rfl
  · rw [(hkept _ _).1, (hslots _).2.2.2 _ (Or.inl rfl), hbumped, if_pos hstarting, State.nat_bump,
      State.nat_bump_ne _ (dkey_sub_ne _ (by decide))]

/-- What stopping a course leaves of its mirror's entries and of memory. -/
theorem State.toStopped_kept (s : State) (k : Nat) : (∀ b, b = 0x19 ∨ b = 0x1A →
    (s.toStopped k).nat (0x3150 + k) b = s.nat (0x3150 + k) b) ∧
    (∀ i, (s.toStopped k).nat (slotIx i) 0x23 = s.nat (slotIx i) 0x23) ∧ (s.toStopped k).mem = s.mem := by
  have hwrites := (State.moves_toStopped (List.Subset.refl _) s).mpr (DictIn.refl (coursePlaces k) s.dict)
  have hparts := (State.within_toStopped (List.Subset.refl _) s k).mpr (State.within_refl s _)
  refine ⟨fun b hb => hwrites.nat (by omega) ?_, fun i => hwrites.nat (by decide) (by simp [coursePlaces, crs]),
    State.mem_of_within hparts (by simp) (by simp)⟩
  obtain rfl | rfl := hb <;> simp [coursePlaces, crs]

theorem State.declareFailed_shows (hk : k < 32) (s : State) : s.MirrorFailed (s.declareFailed k) k ∧
    (s.cst k = 1 → (s.declareFailed k).nat (0x3150 + k) 0x19 = min (s.nat (0x3150 + k) 0x19 + 1) 0xFFFFFFFF) := by
  obtain ⟨hfailed, hcount, hfirst, hsecond, hcst, hmem, hstarts⟩ := s.mirrorLost_shows k
  rw [State.declareFailed_eq]
  generalize s.mirrorLost k = u at *
  split
  · next h => exact ⟨⟨hfailed, hcount, hfirst, hsecond, by rw [h, ← hcst, h, if_pos rfl], hmem⟩, hstarts⟩
  · next h =>
    obtain ⟨hentry, hslot, hm⟩ := u.toStopped_kept k
    rw [hcst] at h
    refine ⟨⟨(State.failed_toStopped ..).trans hfailed, (hentry _ (Or.inr rfl)).trans hcount, (hslot _).trans hfirst,
      (hslot _).trans hsecond, ?_, hm.trans hmem⟩, fun h => (hentry _ (Or.inl rfl)).trans (hstarts h)⟩
    rw [State.cst_toStopped hk, if_neg h]

/-! ### The other courses -/

theorem State.mirAt_toStopped_ne (s : State) (h : j ≠ k) : (s.toStopped j).mirAt k = s.mirAt k := by
  have hput (u : State) (x : MirSt) : (u.mirPut j x).mirAt k = u.mirAt k := tgetD_tput_ne _ _ _ h
  have harm (u : State) : ((u.setArm j false).setEmitOk j false).mir = u.mir := rfl
  have hset : (s.setCst j 0).mir = s.mir :=
    ((State.within_setCst (List.Subset.refl _) s j 0).mpr (State.within_refl _ _)) .mir (by simp)
  have hrest (u : State) : u.Within [.dict, .frm, .bow, .plc, .fet, .runs] ((u.dropModel j).runAbort j) := by simp
  have hstop (u : State) : (u.mirrorStop j).mirAt k = u.mirAt k := by
    unfold State.mirrorStop
    split
    · rfl
    · exact (hput _ _).trans (hput u _)
  unfold State.toStopped
  split
  · rfl
  · rw [State.mirAt_eq (hrest _ .mir (by simp)), hstop, State.mirAt_eq ((harm _).trans hset)]

theorem State.mirAt_mirrorLost_ne (s : State) (h : j ≠ k) : (s.mirrorLost j).mirAt k = s.mirAt k := by
  have hput (u : State) (x : MirSt) : (u.mirPut j x).mirAt k = u.mirAt k := tgetD_tput_ne _ _ _ h
  have hslots (u : State) : ((u.setSup (2 * j) 4).setSup (2 * j + 1) 4).mirAt k = u.mirAt k :=
    State.mirAt_eq (((u.setSup (2 * j) 4).setSup_lost _).2.2.1.trans (u.setSup_lost _).2.2.1) k
  unfold State.mirrorLost
  dsimp only
  rw [hput, hslots]
  split <;> rfl

/-- A failure of another mirror leaves what `State.MirrorFailed` speaks of. -/
theorem State.declareFailed_other (s : State) (hk : k < 32) (h : j ≠ k) : ((s.declareFailed j).mirAt k).failed =
    (s.mirAt k).failed ∧
    (s.declareFailed j).nat (0x3150 + k) 0x1A = s.nat (0x3150 + k) 0x1A ∧
    (∀ i, i = 2 * k ∨ i = 2 * k + 1 → (s.declareFailed j).nat (slotIx i) 0x23 = s.nat (slotIx i) 0x23) ∧
    (s.declareFailed j).cst k = s.cst k ∧ (s.declareFailed j).mem = s.mem := by
  have hlost := s.mirrorLost_writes j
  have hmir := s.mirAt_mirrorLost_ne h
  have hmem : (s.mirrorLost j).mem = s.mem := (s.mirrorLost_shows j).2.2.2.2.2.1
  have hstopped := (State.moves_toStopped (List.Subset.refl _) (s.mirrorLost j)).mpr
      (DictIn.refl (coursePlaces j) (s.mirrorLost j).dict)
  have hfirst : (s.mirrorLost j).nat (0x3150 + k) 0x1A = s.nat (0x3150 + k) 0x1A := hlost.nat (by decide) (by simp [lostPlaces, slotIx]; omega)
  have hslot (i : Nat) (hi : i = 2 * k ∨ i = 2 * k + 1) : (s.mirrorLost j).nat (slotIx i) 0x23 = s.nat (slotIx i) 0x23
      :=
    hlost.nat (by decide) (by simp [lostPlaces, slotIx]; omega)
  have hcst : (s.mirrorLost j).cst k = s.cst k := State.cst_of_dictIn hlost (by simp [lostPlaces, crs, slotIx])
  rw [State.declareFailed_eq]
  split
  · exact ⟨congrArg MirSt.failed hmir, hfirst, hslot, hcst, hmem⟩
  · refine ⟨(congrArg MirSt.failed (State.mirAt_toStopped_ne _ h)).trans (congrArg MirSt.failed hmir),
      (hstopped.nat (by decide) (by simp [coursePlaces, crs])).trans hfirst, fun i hi => ?_, ?_,
          (State.toStopped_kept _ j).2.2.trans hmem⟩
    · exact (hstopped.nat (by decide) (by simp [coursePlaces, crs])).trans (hslot i hi)
    · exact (State.cst_of_dictIn hstopped (by simp [coursePlaces, crs]; omega)).trans hcst

/-- Every course that is not STOPPED fails, and each once. -/
theorem State.allFail_shows (k : CourseId) (h : s.cst k.val ≠ 0) :
    s.MirrorFailed (s.each allCourses (fun s k => if s.cst k = 0 then s else s.declareFailed k)) k.val := by
  refine State.each_at
      (P := fun u : State => u.cst k.val = s.cst k.val ∧ u.nat (0x3150 + k.val) 0x1A = s.nat (0x3150 + k.val) 0x1A ∧
    u.mem = s.mem) (R := fun u : State => s.MirrorFailed u k.val) (List.mem_range.mpr k.isLt) List.nodup_range
    (fun u j _ hjk hu => ?_) (fun u hu => ?_) (fun u j _ hjk hu => ?_) ⟨rfl, rfl, rfl⟩
  · obtain ⟨-, hcount, -, hcst, hmem⟩ := u.declareFailed_other k.isLt hjk
    split
    · exact hu
    · exact ⟨hcst.trans hu.1, hcount.trans hu.2.1, hmem.trans hu.2.2⟩
  · obtain ⟨hcst, hcount, hmem⟩ := hu
    obtain ⟨hfailed, hcounted, hfirst, hsecond, hstopped, hm⟩ := (State.declareFailed_shows k.isLt u).1
    rw [if_neg (by rw [hcst]; exact h)]
    exact ⟨hfailed, by rw [hcounted, hcount], hfirst, hsecond, by rw [hstopped, hcst], hm.trans hmem⟩
  · obtain ⟨hf, hcount, hslot, hcst, hmem⟩ := u.declareFailed_other k.isLt hjk
    obtain ⟨hfailed, hcounted, hfirst, hsecond, hstopped, hm⟩ := hu
    split
    · exact ⟨hfailed, hcounted, hfirst, hsecond, hstopped, hm⟩
    · exact ⟨hf.trans hfailed, hcount.trans hcounted, (hslot _ (Or.inl rfl)).trans hfirst,
        (hslot _ (Or.inr rfl)).trans hsecond,
        hcst.trans hstopped, hmem.trans hm⟩

/-! ### The release of AXIS_EN -/

theorem State.releaseAxis_shows (s : State) (k : Nat) : (s.releaseAxis k).nat (0x3150 + k) 0x1C = 0 ∧
    ((s.releaseAxis k).mirAt k).phase = 0 ∧ ((s.releaseAxis k).mirAt k).releaseDue = false ∧ (s.releaseAxis k).mem =
        s.mem := by
  have hat (u : State) (x : MirSt) : ((u.mirPut k x).putN (0x3150 + k) 0x1C 0).mirAt k = x := State.mirAt_put_self u k x
  have hparts := (State.within_releaseAxis (List.Subset.refl _) s k).mpr (State.within_refl s _)
  refine ⟨State.nat_putN .., congrArg MirSt.phase (hat _ _), congrArg MirSt.releaseDue (hat _ _),
    State.mem_of_within hparts (by simp) (by simp)⟩

end Sys2Proof.Machine

namespace Sys2Proof.Proofs
open Sys2Proof Sys2Proof.Machine

/-- Settles O43: the phases of a start, the tracker, and the ways in which a mirror fails and is released. -/
theorem mirrorsStartAndFail : Obligations.MirrorsStartAndFail := by
  unfold Obligations.MirrorsStartAndFail
  refine ⟨fun k m n bow s => ⟨fun h => congrArg Host.Outcome.next (if_neg h),
      fun h => congrArg Host.Outcome.next (if_neg h),
    fun h => congrArg Host.Outcome.next (if_neg h), trackerUpdate_none k bow, excitationStart_clause k,
        ringWindowStart_clause k,
    fun hphase => ⟨ringWindowEnd_again k m hphase, ringWindowEnd_lost k m hphase, fun hrang hfree => ?_⟩,
    fun hphase hclk hsnap hforward => ⟨_, trackerUpdate_clause k n hphase hclk hsnap hforward, State.track_shows ..⟩⟩,
    fun k s => ⟨fun hstarting => ?_, fun hnot hnot' => ?_, fun hruns hsound hwhy => ?_, fun hstopped => ?_,
        fun hclk hruns => ?_,
      fun hclk => congrArg Host.Outcome.next (if_pos hclk), fun hdue => ⟨_, congrArg Host.Outcome.next (if_pos hdue),
          s.releaseAxis_shows k.val⟩,
      fun hnone => congrArg Host.Outcome.next (if_neg (by simp [hnone]))⟩⟩
  · have hexec := exec_ringWindowEnd k m hphase
    rw [if_neg (by simp [hrang])] at hexec
    exact ⟨_, hexec, State.pullIn_shows m hfree⟩
  · have hexec : exec (.startTimeout k) s = .next (s.declareFailed k.val) := by
      refine congrArg Host.Outcome.next ((if_pos (Or.inl hstarting)).trans ?_)
      unfold State.startFailed
      rw [if_pos hstarting]
    obtain ⟨hfails, hcount⟩ := State.declareFailed_shows k.isLt s
    exact ⟨_, hexec, hfails, hcount hstarting⟩
  · exact congrArg Host.Outcome.next (if_neg (by simp [hnot, hnot']))
  · exact ⟨_, congrArg Host.Outcome.next (if_pos ⟨hruns, hsound, hwhy⟩), (State.declareFailed_shows k.isLt s).1⟩
  · exact congrArg Host.Outcome.next (if_neg fun h => h.1 hstopped)
  · exact ⟨_, congrArg Host.Outcome.next (if_neg (by simp [hclk])), State.allFail_shows k hruns⟩

end Sys2Proof.Proofs
